-- ==== Sys2Proof/Word.lean ====
section
/-! DEFINITION. The plain words of the model: bytes, time in units of 2^-16 ns, and the little-endian
layout that R9 gives every structure in host memory and in the BAR windows. -/

namespace Sys2Proof

/-- One byte of a host structure, a BAR window or table memory (R9). -/
abbrev Byte := BitVec 8

/-- An exact time or interval in units of 2^-16 ns (R68, R69); the model never rounds it silently. -/
abbrev Frac := Int

/-- One second in units of 2^-16 ns: 10^9 ns of 65,536 units each (R68). -/
def secondUnits : Int := 1000000000 * 65536

/-- The `n` low bytes of `v`, least significant first (R9). -/
def bytesLE : Nat → Nat → List Byte
  | 0, _ => []
  | n + 1, v => BitVec.ofNat 8 (v % 256) :: bytesLE n (v / 256)

/-- The number that little-endian bytes spell (R9). -/
def natLE : List Byte → Nat
  | [] => 0
  | b :: bs => b.toNat + 256 * natLE bs

/-- Two's complement of an integer in `n` bytes (R9). -/
def intBytesLE (n : Nat) (v : Int) : List Byte :=
  bytesLE n (v % (256 ^ n : Nat)).toNat

/-- The two's complement reading of `n` bytes (R9). -/
def intLE (n : Nat) (bs : List Byte) : Int :=
  let v := natLE bs
  if v < 256 ^ n / 2 then (v : Int) else (v : Int) - (256 ^ n : Nat)

/-- Bit `k` of a number. -/
def bitOf (v k : Nat) : Bool := v / 2 ^ k % 2 == 1

/-- 1 for true and 0 for false, as every bool of the module is encoded (R346). -/
def boolInt (b : Bool) : Int := if b then 1 else 0

/-- 1 for true and 0 for false, as a bit of a register. -/
def boolNat (b : Bool) : Nat := if b then 1 else 0

/-- A value held between two bounds. -/
def clampInt (lo hi v : Int) : Int := if v < lo then lo else if v > hi then hi else v

/-- A counter that stops at `top` (saturating). -/
def satNat (top v : Nat) : Nat := if v > top then top else v

end Sys2Proof
end

