-- ==== Sys2Proof/Syntax.lean ====
section
/-! DEFINITION. The commands of the block: one constructor of `Instr` for each row of the spec's command table.
A row that a host issues carries who issues it (R18, R342) and the fields of its payload table; a row that names an
event inside the module or on one of its pins carries the object it concerns and the quantities that the module
measures there. A row whose event is "a timer ran out" or "an instant is reached" asserts that premise itself
(log entry 8). -/

namespace Sys2Proof

/-- Who issues a command: a client through its ring with a tag (R323), SPI lite (R337) or the console (R339). -/
inductive Issuer
  | ring (client : Fin 512) (tag : Fin 2048)
  | spi
  | console
deriving DecidableEq, Repr

/-- A buffer that a payload names by pointer (R343): its address, its length where the payload gives one, and whether
host memory can be read and written there. -/
structure HostBuf where
  addr : Nat
  len : Nat
  reachable : Bool
deriving DecidableEq, Repr

/-- One oscillator's observations at an evaluation of R45: its mean fractional frequency over the windows of 1 s to
100 s that end at it, in 10^-15, its largest phase step within one comparison, in ps, and its oven-board temperature in
0.01 °C. -/
structure OscSample where
  windows : List Int
  step : Nat
  temp : Int
deriving DecidableEq, Repr

/-- One member's fit of R53: ageing in 10^-15 per day and temperature coefficient in 10^-15 per K, with the reference
frequency in 10^-15 and the reference temperature in 0.01 °C that the fit is taken at, and the standard error of the ageing in 10^-21
per s. -/
structure ModelFit where
  member : Fin 4
  age : Int
  tempco : Int
  freq : Int
  temp : Int
  ageError : Nat
deriving DecidableEq, Repr

/-- A labelling message as its receiver took it (R112, R115, R116): its checksum verdict, the samples of the line since the
message before, sixteen to a bit, and the counter values at its first start bit and at its last stop bit. -/
structure LabelTiming where
  checksumOk : Bool
  samples : List Bool
  start : Nat
  stop : Nat
deriving DecidableEq, Repr

/-- A calendar instant in UTC as a message or a frame spells it. -/
structure CivilTime where
  year : Nat
  month : Nat
  day : Nat
  hour : Nat
  minute : Nat
  second : Nat
deriving DecidableEq, Repr

/-- The clock status of a G.8271 time announce message (R110). -/
inductive TodStatus
  | prtcLocked
  | holdoverIn
  | holdoverOut
  | freeRunning
  | other
deriving DecidableEq, Repr

/-- The UTC and leap fields of a received message (R80): currentUtcOffset where it is valid, leap61 and leap59. -/
structure UtcFields where
  offset : Option Int
  leap61 : Bool
  leap59 : Bool
deriving DecidableEq, Repr

/-- A generator of R212. -/
inductive Gen
  | vid (n : Fin 8)
  | aud (n : Fin 6)
  | tc (n : Fin 2)
  | tod (n : Fin 2)
deriving DecidableEq, Repr

/-- A signal that the Lehr governs (R235): a generator, or a PULSE output. -/
inductive LehrSignal
  | gen (g : Gen)
  | out (n : Fin 32)
deriving DecidableEq, Repr

/-- What step 6 reads of one image slot (R399 to R401): whether both images pass their CRC and their signature on either of the two
reads. -/
structure SlotRead where
  intact : Bool
deriving DecidableEq, Repr

/-- What an image carries beside its code (R400): its version, its compatibility ID, the IDs of the other kind that it lists, the
timing SoC steppings that it supports, and for Holax its mate table. -/
structure ImageHead where
  version : Nat := 0
  id : Nat := 0
  table : List Nat := []
  steppings : List Nat := []
  mateTable : List Nat := []
deriving DecidableEq, Repr

/-- What the hardware finds while it runs the power-up sequence (R393): the failure code of a step that fails, what
the reads of the two slots give, the measured hold-up in ms, the durations of the nine steps in µs and the engines
and stamping channels that fail their tests. -/
structure BootEnv where
  failAt : Option (Fin 8)
  failCode : Nat
  readA : SlotRead
  readB : SlotRead
  holdupMs : Nat
  stepTimes : List Nat
  failedEngines : List Nat
  failedChannels : List Nat
deriving DecidableEq, Repr

/-- The kind of an engine detector that fires (R451). -/
inductive EngineDetector
  | watchdog
  | parity
  | privateState
deriving DecidableEq, Repr

/-- A frame's class at its port (R265). -/
inductive FrameClass
  | hardware
  | session
  | host
deriving DecidableEq, Repr

/-- A PTP port identity of ten bytes, as a number. -/
abbrev PortId := Nat

/-- The fields of a received PTP Announce that the module uses (R80, R109, R274). -/
structure AnnounceFields where
  sourcePort : PortId
  gmIdentity : Nat
  priority1 : Nat
  priority2 : Nat
  clockClass : Nat
  clockAccuracy : Nat
  clockVariance : Nat
  stepsRemoved : Nat
  timeSource : Nat
  utc : UtcFields
deriving DecidableEq, Repr

/-- A partner on the network: its address as a 128-bit number and its portIdentity (R278, R286). -/
structure Partner where
  addr : Nat
  portId : PortId
deriving DecidableEq, Repr

/-- The message types that a grant covers, numbered as R286 numbers them. -/
inductive GrantType
  | announce
  | sync
  | delayResp
deriving DecidableEq, Repr

/-- The AUTHENTICATION TLV of a received message (R269): its SPP, its keyID, whether it carries the delayed-processing indication, its
ICV, and the bytes that the ICV covers. -/
structure AuthTlv where
  spp : Nat
  keyId : Nat
  delayed : Bool
  icv : List Byte
  covered : List Byte
deriving DecidableEq, Repr

/-- What every received PTP message carries for the module: its sender, its AUTHENTICATION TLV if any, and its
sequenceId. -/
structure PtpHead where
  sender : Partner
  auth : Option AuthTlv
  seq : Nat
deriving DecidableEq, Repr

/-- The data sets that a management GET may name, and any other managementId (R270). -/
inductive MgmtId
  | defaultDs
  | currentDs
  | parentDs
  | timePropertiesDs
  | portDs
  | other (id : Fin 65536)
deriving DecidableEq, Repr

/-- The action of a management message (R270). -/
inductive MgmtAction
  | get
  | set
  | command
deriving DecidableEq, Repr

/-- The kind of a transit frame (R253, R261). -/
inductive TransitKind
  | sync
  | delayReq
  | pdelayReq
  | pdelayResp
  | followUp
  | other
deriving DecidableEq, Repr

/-- A frame of R254 that the port answers in hardware. -/
inductive ReplyKind
  | arp
  | ndp
  | echo4
  | echo6
deriving DecidableEq, Repr

/-- The PTP messages that the module sends (R260, R266, R283, R281). -/
inductive PtpKind
  | announce
  | sync
  | followUp
  | delayReq
  | delayResp
  | pdelayReq
  | pdelayResp
  | pdelayRespFollowUp
  | grantRequest
  | grant
  | cancel
  | ackCancel
  | management
deriving DecidableEq, Repr

/-- A stamp of a source of a TIC (R289, R296): source B rather than A, its counter and vernier values as converted, and whether an edge
was missed since the stamp before (R295). -/
structure TicStamp where
  sourceB : Bool
  count : Nat
  vernier : Nat
  missed : Bool
deriving DecidableEq, Repr

/-- One domain's entry of a snapshot (R466). -/
structure SnapDomain where
  domain : Fin 512
  time : Int
  period : Nat
  utcOffset : Int
  leapState : Nat
  leapDay : Int
  slewRemaining : Int
  timeStatus : Nat
deriving DecidableEq, Repr

/-- One DPLL's entry of a snapshot (R466). -/
structure SnapDpll where
  dpll : Fin 16
  phase : Int
  word : Int
  dpllState : Nat
  phaseOffset : Int
  buildout : Int
deriving DecidableEq, Repr

/-- A snapshot (R466): its header and sections, among the holdover models the learned ageing and temperature deltas by member and ȳ, t̄, T̄
and `ho_usable` by DPLL, and among the generators the Lehr errors and the frame of each TCGEN's last jam with its address; with what its
receiver finds of it: the bytes that arrived, whether its CRC verifies, and its own
counter at the labelled edge. -/
structure Snapshot where
  epoch : Nat
  length : Nat
  arrived : Nat
  crcOk : Bool
  holaxCompat : Nat
  counter : Nat
  digest : Nat
  localEdge : Nat
  domains : List SnapDomain
  dplls : List SnapDpll
  ages : List (Fin 4 × Int × Int)
  means : List (Fin 16 × Int × Int × Int × Nat)
  lehrs : List (Gen × Int)
  jams : List (Fin 2 × Option (Int × Nat))
  sessions : List (Fin 16384 × Nat)
deriving DecidableEq, Repr

/-- What a mate sends at the link's training (R463, R476): its ROLE_PRI strap, its serial, its Holax version and
compatibility ID, and the IDs of its image's mate table. -/
structure MatePeer where
  pri : Bool
  serial : List Byte
  version : Nat
  compat : Nat
  mateTable : List Nat
deriving DecidableEq, Repr

/-- A session entry as a mate sends it (R466, R479): the binding, the partner, the role (0 grantor), the granted log
intervals, the seconds that each grant has left, and the summary word. -/
structure SessionCopy where
  binding : Nat
  partner : Partner
  role : Nat
  logs : List Int
  left : List Nat
  summary : Nat
deriving DecidableEq, Repr

/-- A MATE action issued on the mate module (R474, R477, R478). -/
inductive MateRequest
  | changeover
  | sleep
  | wake
deriving DecidableEq, Repr

/-- What firmware and hardware contribute to an action that the console issues: the choices and the findings that the
action's own row carries as operands. -/
structure ConsoleEnv where
  instant : Nat
  phase : Int
  condition : Bool
  flashOk : Bool
  pick : Nat
  boot : BootEnv
  data : List Byte
  reachable : Bool
  holax : ImageHead
  batt : ImageHead
deriving DecidableEq, Repr

/-- What the decode of a frame that is read finds (R370, R376): the positions in the code word of the bit errors, lowest first,
how many retries it took, 3 where they failed too, and whether the TAG is the page's. -/
structure FrameRead where
  positions : List Nat := []
  tries : Nat := 0
  tagOk : Bool := true
deriving DecidableEq, Repr

/-- The commands of the TKM-5120: every row of the spec's command table. -/
inductive Instr
  -- Supply, reset pins and the host link (R312, R341, R393, R407, R490, R492, R526)
  | vmainApplied (env : BootEnv)
  | resetNAsserted
  | resetNReleased (env : BootEnv)
  | pfNAsserted
  | vmainBelowThreshold
  | powerFailStoreComplete (durationUs : Nat)
  | supplyRestored
  | holdupExhausted
  | perstNAsserted
  | pcieHotReset
  | pcieFlr
  | pcieLinkDown
  | pcieCorrectableErrors
  | pcieUncorrectableError
  | gafferWatchdogExpiry
  | gafferLockstepMismatch
  | gafferRestartComplete
  | warmResetComplete (failedEngines : List Nat) (read : SlotRead)
  -- Generic verbs (R348 to R350, R361)
  | get (who : Issuer) (inst attr first count : Nat) (buf : HostBuf)
  | set (who : Issuer) (inst attr first count : Nat) (value : List Byte)
  | bulkGet (who : Issuer) (buf : HostBuf) (items : List (Nat × Nat))
  | subscribe (who : Issuer) (first count on : Nat)
  -- SYSTEM actions (R351)
  | oscReadmit (who : Issuer) (member : Nat) (conditionHolds : Bool)
  | oscExclude (who : Issuer) (member : Nat)
  | warmReset (who : Issuer)
  | reboot (who : Issuer) (slot : Nat) (env : BootEnv)
  | restoreFactory (who : Issuer) (confirm : Nat) (env : BootEnv)
  | fwBegin (who : Issuer) (slot total : Nat)
  | fwWrite (who : Issuer) (offset length : Nat) (data : List Byte) (reachable : Bool) (flashOk : Bool)
  | fwFinish (who : Issuer) (slot crc : Nat) (integrityOk flashOk : Bool) (holax batt : ImageHead)
  | fwActivate (who : Issuer) (slot : Nat)
  | selfTestReport (who : Issuer)
  | logRead (who : Issuer) (log count first : Nat) (buf : HostBuf)
  | timeRead (who : Issuer) (domains : List Nat) (buf : HostBuf)
  | setPower (who : Issuer) (state : Nat)
  | powerTransitionComplete (env : BootEnv)
  | factoryEnter (who : Issuer) (token : List Byte)
  -- SELECTOR actions (R148)
  | setCandidates (who : Issuer) (selector : Nat) (entries : List Nat)
  | select (who : Issuer) (selector mode index : Nat)
  | lockout (who : Issuer) (selector index on : Nat)
  | clearWtr (who : Issuer) (selector index : Nat)
  | align (who : Issuer) (selector : Nat)
  -- DPLL actions (R179)
  | dpllOpen (who : Issuer) (dpll : Nat)
  | dpllClose (who : Issuer) (dpll : Nat) (phase : Int)
  | setFreq (who : Issuer) (dpll : Nat) (word : Int)
  | nudgePhase (who : Issuer) (dpll : Nat) (interval : Int)
  | resetHistory (who : Issuer) (dpll : Nat)
  -- SYN actions (R208)
  | synCommit (who : Issuer) (slot trigger edgeOutput synMask outMask domain time : Nat)
  | synCancel (who : Issuer) (slot : Nat)
  | synRetune (who : Issuer) (syn : Nat)
  -- DOMAIN actions (R77); `instant` is the update instant that the domain controller chooses (R61)
  | domainCreate (who : Issuer) (domain timescale source : Nat)
  | domainDelete (who : Issuer) (domain : Nat)
  | domainAssign (who : Issuer) (domain client : Nat)
  | domainBind (who : Issuer) (domain dpll : Nat)
  | domainUnbind (who : Issuer) (domain dpll : Nat)
  | setTime (who : Issuer) (domain time instant : Nat)
  | setCalendar (who : Issuer) (domain : Nat) (civil : CivilTime) (nanoseconds instant : Nat)
  | adjFreq (who : Issuer) (domain : Nat) (ppt : Int) (instant : Nat)
  | adjPhase (who : Issuer) (domain mode : Nat) (interval : Int) (instant : Nat)
  | scheduleLeap (who : Issuer) (domain year month day kind : Nat)
  | setTz (who : Issuer) (domain : Nat) (entries : List Nat)
  | domainReset (who : Issuer) (domain instant : Nat)
  -- Broadcast actions (R247)
  | vidgenDoStep (who : Issuer) (n : Nat)
  | audgenDoStep (who : Issuer) (n : Nat)
  | tcgenDoStep (who : Issuer) (n : Nat)
  | outputDoStep (who : Issuer) (n : Nat)
  | tcgenJam (who : Issuer) (n : Nat)
  -- PORT actions (R287)
  | portBind (who : Issuer) (port slot entry : Nat)
  | portUnbind (who : Issuer) (port slot : Nat)
  | loadKey (who : Issuer) (slot spp icvLen keyId key : Nat)
  | eraseKey (who : Issuer) (slot : Nat)
  | hostq (who : Issuer) (queue port client policy : Nat)
  | portSend (who : Issuer) (queue flags tsOffset domain length launch : Nat) (frame : List Byte) (reachable : Bool)
  -- TIC actions (R309)
  | ticRestart (who : Issuer) (tic : Nat)
  | ticRead (who : Issuer) (tic count first : Nat) (buf : HostBuf)
  -- FAULT, STORE and MATE actions (R357)
  | faultAck (who : Issuer) (source : Nat)
  | faultClear (who : Issuer) (source : Nat)
  | faultInject (who : Issuer) (checker bits target : Nat)
  | faultList (who : Issuer) (first count : Nat) (buf : HostBuf)
  | storeCommit (who : Issuer) (first count : Nat)
  | mateChangeover (who : Issuer) (standbyReady : Bool)
  | mateSleep (who : Issuer)
  | mateWake (who : Issuer)
  | mateLinkReset (who : Issuer)
  -- SESSION actions (R287)
  | sessionOpen (who : Issuer) (port slot addrType address pick : Nat)
  | sessionClose (who : Issuer) (session : Nat)
  -- Mailbox registers and rings (R313 to R339)
  | cmdPiWrite (client : Fin 512) (value : Nat)
  | commandFetch (client : Fin 512) (entry : List Byte) (payload : Option (List Byte)) (entryReachable : Bool)
  | completionWrite (client : Fin 512) (reachable : Bool)
  | cplCiWrite (client : Fin 512) (value : Nat)
  | evtCiWrite (client : Fin 512) (value : Nat)
  | ringEnable (client : Fin 512) (cfg : Nat)
  | ringDisable (client : Fin 512) (cfg : Nat)
  | ringDrained (client : Fin 512)
  | irqArmWrite (client : Fin 512) (value : Nat)
  | evtLostRead (client : Fin 512)
  | intStatusWrite (client : Fin 512) (value : Nat)
  | aliveFeedWrite (client : Fin 512)
  | twBaseWrite (client : Fin 512) (high : Bool) (value : Nat)
  | tlCtrlWrite (client : Fin 512) (value : Nat)
  | msixUnmask (vector : Fin 64)
  | registerWrite (bar4 : Bool) (offset value : Nat) (aligned : Bool)
  | bar2Write (offset : Nat) (bytes : List Byte) (read : FrameRead)
  | eventRecordDelivery (source : Fin 640) (unreachable : List (Fin 512))
  | eventOverflowRecord (client : Fin 512) (reachable : Bool)
  | spiWrite (address : Nat) (bytes : List Byte)
  | spiRead (address count : Nat)
  | spiGo
  | spiEvtPop
  | spiCommandDone
  | consoleLine (env : ConsoleEnv)
  | hostFeedTimeout
  -- Crucible (R41 to R57)
  | comparatorMeasurement (d01 d12 d20 : Int) (ext : Option Int)
  | rootPhaseSteer (diff : Int)
  | outvoteEvaluation (obs : List OscSample)
  | weightRecompute (variances : List Nat) (separable : Bool)
  | ovenJoin (m : Fin 3)
  | ovenFault (m : Fin 3)
  | warmupTimeout
  | readmitConditionMet (m : Fin 4)
  | readmitRampComplete (m : Fin 4)
  | modelFitUpdate (fits : List ModelFit)
  | ambientGradient
  | rootUnlock
  -- Domains (R61 to R84)
  | domainUpdateApply (d : Fin 512)
  | slewEnd (d : Fin 512)
  | leapSecond (d : Fin 512)
  | tzTableApply (d : Fin 512)
  | tzTransition (d : Fin 512)
  -- Inputs (R93 to R121)
  | inputEdge (n : Fin 36) (count vernier : Nat) (frameStart : Bool)
  | losTimeout (n : Fin 36)
  | freqGateComplete (n : Fin 36)
  | soakExpiry (n : Fin 36)
  | driftEvaluation (n : Fin 36)
  | wanderEvaluation (n : Fin 36)
  | msgTimeout (n : Fin 36)
  | esmcPduReceived (port : Fin 4) (ssm : Fin 16) (extended : Option (Nat × Nat × Nat))
  | timeEventMessage (rx : Fin 2) (timing : LabelTiming) (seconds : Nat)
  | timeAnnounceMessage (rx : Fin 2) (checksumOk : Bool) (samples : List Bool) (status : TodStatus) (clockClass accuracy : Option Nat) (utc : UtcFields)
  | nmeaZda (rx : Fin 2) (timing : LabelTiming) (civil : CivilTime)
  | nmeaRmc (rx : Fin 2) (timing : LabelTiming) (civil : CivilTime) (statusA : Bool)
  | videoFormatDetected (n : Fin 4) (format : Fin 17)
  | ltcFrameDecoded (n : Fin 2) (rate : Fin 6) (civil : CivilTime) (frame : Nat) (zone : Fin 64) (count vernier : Nat)
  | ltcDiscardWindowClear (n : Fin 2)
  -- Selectors and domain references (R25, R131 to R137, R277)
  | selectorDecision (n : Fin 16) (phase : Int)
  | wtrExpiry (n : Fin 16) (index : Fin 24)
  | holdOffExpiry (n : Fin 16) (phase : Int)
  | servoUpdate (d : Fin 512) (offset : Int) (ppt delta : Int) (instant : Nat)
  | domainRefStale (d : Fin 512)
  | pktHoldLimitExpiry (d : Fin 512)
  -- DPLLs (R154 to R178)
  | pdSample (n : Fin 16) (phaseError freqError : Int)
  | lockAcquired (n : Fin 16)
  | settlingEnd (n : Fin 16)
  | slopeMovementComplete (n : Fin 16)
  | teEstimateEval (n : Fin 16)
  | holdoverWordRefresh (n : Fin 16)
  | dpllPost (n : Fin 16) (instant : Nat)
  | ledgerRecord (n : Fin 16)
  | ledgerDrain (n : Fin 16)
  | holdoverSummaryStore
  -- Synthesisers and outputs (R185 to R211)
  | calibrationComplete (n : Fin 8)
  | calibrationFailure (n : Fin 8)
  | retuneComplete (n : Fin 8)
  | synthesiserUnlock (n : Fin 8)
  | tuningMarginLow (n : Fin 8) (margin : Nat)
  | outputStart (n : Fin 32)
  | outputStop (n : Fin 32)
  | outputUngate (n : Fin 32)
  | commitTrigger (slot : Fin 8)
  | stepperStep (n : Fin 32)
  | driverFault (n : Fin 32) (present : Bool)
  -- Broadcast generators (R214 to R248)
  | generatorStart (g : Gen)
  | generatorGate (g : Gen)
  | stepRestart (g : LehrSignal)
  | lehrMovementEnd (g : LehrSignal)
  | videoFormatChange (n : Fin 8)
  | aesGradeChange (n : Fin 2)
  | jamArm (n : Fin 2) (transition : Bool)
  | dailyJam (n : Fin 2)
  | tcJamApply (n : Fin 2)
  | todgenMessage (n : Fin 2)
  | generatorOutputFault (g : Gen) (present : Bool)
  -- Ports, PTP and sessions (R250 to R288)
  | portLinkUp (p : Fin 4)
  | portLinkDown (p : Fin 4)
  | ptpReadyAfterLink (p : Fin 4)
  | announceReceived (p : Fin 4) (slot : Fin 32) (head : PtpHead) (fields : AnnounceFields)
  | syncReceived (p : Fin 4) (slot : Fin 32) (head : PtpHead) (twoStep : Bool) (count vernier : Nat) (origin correction : Int)
  | followUpReceived (p : Fin 4) (slot : Fin 32) (head : PtpHead) (origin correction : Int)
  | delayReqReceived (p : Fin 4) (slot : Fin 32) (head : PtpHead) (unicast : Bool) (count vernier : Nat) (correction : Int)
  | delayRespReceived (p : Fin 4) (slot : Fin 32) (head : PtpHead) (receive correction : Int)
  | pdelayReqReceived (p : Fin 4) (slot : Fin 32) (head : PtpHead) (count vernier : Nat) (correction : Int)
  | pdelayRespReceived (p : Fin 4) (slot : Fin 32) (head : PtpHead) (count vernier : Nat) (request response : Int)
  | grantRequestReceived (p : Fin 4) (slot : Fin 32) (head : PtpHead) (type : GrantType) (log : Int) (duration pick : Nat)
  | grantReceived (session : Fin 16384) (type : GrantType) (log : Int) (duration : Nat)
  | cancelReceived (session : Fin 16384) (type : GrantType)
  | managementReceived (p : Fin 4) (slot : Fin 32) (head : PtpHead) (action : MgmtAction) (id : MgmtId)
  | transitFrameReceived (p : Fin 4) (kind : TransitKind) (length : Nat) (fcsOk : Bool) (auth : Option AuthTlv) (domainNumber transport residence checksum : Nat) (correction : Int)
  | arpNdpEchoReceived (p : Fin 4) (kind : ReplyKind) (vlan : Nat)
  | frameIgnored (p : Fin 4)
  | ptpMessageSend (p : Fin 4) (slot : Fin 32) (session : Option (Fin 16384)) (kind : PtpKind) (launch : Option (Fin 512 × Int))
  | frameEnqueue (p : Fin 4) (cls : FrameClass)
  | creditsExhausted (p : Fin 4) (cls : FrameClass)
  | launchGateOpen (p : Fin 4)
  | frameDeparture (p : Fin 4) (count vernier : Nat)
  | frameTransmitDone (p : Fin 4)
  | esmcInformationPdu (p : Fin 4)
  | esmcEventPdu (p : Fin 4)
  | bmcaPass (d : Fin 512)
  | announceReceiptTimeout (p : Fin 4) (slot : Fin 32)
  | grantRetryTimeout (session : Fin 16384) (type : GrantType)
  | backoffEnd (session : Fin 16384) (type : GrantType)
  | grantRenew (session : Fin 16384) (type : GrantType)
  | grantExpiry (session : Fin 16384) (type : GrantType)
  | portUnbindApply (p : Fin 4) (slot : Fin 32)
  -- TIC (R296, R297)
  | ticRawMeasurement (n : Fin 12) (stamps : List TicStamp)
  | ticWindowClose (n : Fin 12)
  -- Table memory (R376 to R391)
  | fullerFrameRead (read : FrameRead)
  | pageRetire (lpn : Nat) (cause : Nat)
  | poisonRecovery (lpn : Nat)
  | cacheFill (lpn : Nat) (read : FrameRead)
  | cacheWritebackRetire (lpn : Nat)
  | memoryTemperature
  -- Repair (R451 to R457); `lost` are the sessions of the messages that the engines were processing (R22)
  | engineFailure (c : Fin 16) (e : Fin 8) (detector : EngineDetector) (lost : List (Fin 16384))
  | spareRepairComplete (c : Fin 16) (testPassed : Bool)
  | clusterLost (c : Fin 16) (lost : List (Fin 16384))
  | rebalanceComplete (c : Fin 16) (moves : List (Fin 16384 × Fin 16 × Fin 8))
  | vernierBackgroundLoop (deviations : List (Fin 48 × Nat))
  | channelReplaced (ch : Fin 48)
  -- Fault collection (R423 to R446, R518)
  | sramScrub (array : Fin 20) (bits : Fin 3)
  | countWindowClose (source : Fin 640)
  | aliveFeedMissed
  | aliveToggle
  | ctrlLossTimeout (n : Fin 16)
  | tempAlert (reading : Int)
  | injectCauseEnd
  -- Performance counters (R510, R511)
  | pmcSample (c : Fin 16) (k : Fin 8) (e : Fin 8) (kernel : Bool) (domain : Option (Fin 512)) (iaddr : Nat)
  | pmcWrap (c : Fin 16) (which : Fin 12)
  -- Shadow store (R486 to R495)
  | storeProgramComplete (page : Fin 1024) (verified : Bool)
  | slotEraseComplete (page : Fin 1024)
  | backgroundStore (page : Fin 1024)
  | timeRecordStore
  | holdupMeasure (ms : Nat)
  | ovenHours
  -- Mate pair (R463 to R479)
  | mateLinkTrained (peer : MatePeer)
  | mateLinkDown
  | roleClaimTimeout
  | roleActRaise
  | chgAckRise
  | snapshotSend
  | snapshotReceived (snap : Snapshot)
  | snapshotStale
  | sessionEntryFetch (session : Fin 16384) (entry : Option SessionCopy)
  | aliveLost
  | linkAndAliveLost
  | release
  | snapshotAdoption (instant : Nat)
  | mateAliveResumed
  | changeoverReceipt (received : Bool)
  | sleepPropose
  | sleepAnswer (accept : Bool) (instant : Nat)
  | sleepCommit (instant : Nat)
  | sleepCancel
  | sleepEntry
  | wakeFetchComplete
  | consoleCharacter (char : Nat)
  | nextUtcDay (d : Fin 512)
  | snapMaxAgeExceeded
  | mateRequestReceived (request : MateRequest)
deriving DecidableEq, Repr

end Sys2Proof
end

