-- ==== Sys2Proof/Decode.lean ====
section
/-! DEFINITION. The decoder of the host's table words. No row of the spec's command table gives bits: a command of this
block is an event or a transfer with operands, not a word. -/

namespace Sys2Proof

/-- The command that a word spells by the table's bits: the table gives no row any bits, so none. -/
def decodeTableWord (_nbits _w : Nat) : Option Instr := none

end Sys2Proof
end

