-- ==== Sys2Proof/Config.lean ====
section
/-! DEFINITION. What the spec leaves open and the model keeps open: constants with no body, so that no proof can
see a value of them. Each is named in the assumption log. -/

namespace Sys2Proof

/-- A value the spec leaves unstated, drawn afresh each time: the model applies it to a counter that the step
advances (log entry 3). -/
opaque Config.freeValue : Nat → Int

/-- Where Holax places an attribute in the shadow pages of its class: the spec gives page ranges (R483) and no
place of one attribute within them. The argument is the attribute's key; the page is taken within the class's range
(log entry 4). -/
opaque Config.placement : Nat → Nat

/-- Where Holax places a task of a domain controller, 0 the servo and 1 the BMCA, among the engines that R20 allows
(log entry 46). -/
opaque Config.placeTask : Nat → Nat → Nat

/-- A data byte of a shadow page from the keys and values that stand in it: the place of an attribute within its page is Holax's, and the
FACTORY pages' layout is not stated (log entry 4). -/
opaque Config.pageByte : Nat → List (Nat × Int) → Nat → BitVec 8

/-- Whether a 16-byte token has been issued by Solilazar for a serial number (R446): the spec gives no rule by
which a token is recognised (log entry 5). -/
opaque Config.tokenIssued : List Byte → List Byte → Bool

/-- CONFIG_DIGEST of a STORED configuration (R466): the spec names the CRC and not the order of the bytes under it
(log entry 25). The argument lists the configuration's keys and values. -/
opaque Config.digest : List (Nat × Int) → Nat

/-- The summary of a session's host-owned words and grants in a snapshot (R466), whose function the spec does not give
(log entry 25). -/
opaque Config.summary : List (BitVec 8) → List (Option Int) → Nat

/-- Which part of a video line a place lies in (R220), by `vid_format`, field, line and the time since the line's timing reference point
in 2^-16 ns: the standards that R220 names fix it, and the spec does not repeat them (log entry 88). -/
opaque Config.videoPart : Nat → Nat → Nat → Int → Nat

/-- The level in 0.1 mV of the ten-field identification of SMPTE ST 318 (R221), by field of the ten and place in its line (log entry 88). -/
opaque Config.tenFieldLevel : Nat → Int → Int

/-- The MAC address that ARP or NDP has found for an address on a port's link: how the module finds it and what it keeps is not stated
(log entry 91). -/
opaque Config.macOf : Nat → Nat → Nat

/-- Where in a session's queue area the frame of a launch descriptor stands (R385), by session and descriptor (log entry 93). -/
opaque Config.frameOffset : Nat → Nat → Nat

/-- A byte of a session entry's device-owned words beside the values whose place follows from R383, by its logical address and a counter
that the step advances (log entry 93). -/
opaque Config.entryByte : Nat → Nat → BitVec 8

/-- Whether a page of the firmware working region holds kernel state of Holax (R377): the spec does not place it (log entry 94). -/
opaque Config.kernelPage : Nat → Bool

/-- What an engine slot is used for (R502, R504, R505): its category (0 retired, 1 wasted, 2 starved-front, 3 starved-back), the event
classes that its engine cycle completes as a bit set, whether its task is Holax kernel work, the task's master (1 a domain, 2 a client, with
its number) and the logical page of its access. -/
structure Slot where
  category : Fin 4
  events : Nat
  kernel : Bool
  master : Option (Nat × Nat)
  lpn : Nat
deriving Inhabited

/-- The slots of each cluster in their order, beside those that R503 and R511 decide: what the engines run is not stated (log entry 22). -/
opaque Config.slot : Nat → Nat → Slot

end Sys2Proof
end

