-- ==== Sys2Proof/Machine/Enums.lean ====
section
/-! DEFINITION. The named states and codes of the module, each with the code its attribute carries (R346: an enum is
encoded as the position of its name in the Range column). -/

namespace Sys2Proof.Machine

/-- Crucible member state, in the order of `osc_state` (R56). -/
inductive OscState
  | notFitted
  | absent
  | warmup
  | member
  | ramping
  | outvoted
deriving DecidableEq, Repr

/-- The code of a OscState (R346). -/
def OscState.code : OscState → Int
  | .notFitted => 0
  | .absent => 1
  | .warmup => 2
  | .member => 3
  | .ramping => 4
  | .outvoted => 5

/-- The OscState that a code spells; a code beyond the list spells the first name. -/
def OscState.ofCode (c : Int) : OscState :=
  if c = 1 then .absent else if c = 2 then .warmup else if c = 3 then .member else if c = 4 then .ramping else if c = 5 then .outvoted else .notFitted

/-- `learn_state` (R56). -/
inductive LearnState
  | idle
  | learning
  | rejected
deriving DecidableEq, Repr

/-- The code of a LearnState (R346). -/
def LearnState.code : LearnState → Int
  | .idle => 0
  | .learning => 1
  | .rejected => 2

/-- The LearnState that a code spells; a code beyond the list spells the first name. -/
def LearnState.ofCode (c : Int) : LearnState :=
  if c = 1 then .learning else if c = 2 then .rejected else .idle

/-- `time_status` of a domain (R76). -/
inductive TimeStatus
  | unset
  | set
  | tracking
  | holdover
deriving DecidableEq, Repr

/-- The code of a TimeStatus (R346). -/
def TimeStatus.code : TimeStatus → Int
  | .unset => 0
  | .set => 1
  | .tracking => 2
  | .holdover => 3

/-- The TimeStatus that a code spells; a code beyond the list spells the first name. -/
def TimeStatus.ofCode (c : Int) : TimeStatus :=
  if c = 1 then .set else if c = 2 then .tracking else if c = 3 then .holdover else .unset

/-- `leap_state` of a domain (R76): no leap, an inserted or a deleted second. -/
inductive LeapKind
  | none
  | insert
  | delete
deriving DecidableEq, Repr

/-- The code of a LeapKind (R346). -/
def LeapKind.code : LeapKind → Int
  | .none => 0
  | .insert => 1
  | .delete => 2

/-- The LeapKind that a code spells; a code beyond the list spells the first name. -/
def LeapKind.ofCode (c : Int) : LeapKind :=
  if c = 1 then .insert else if c = 2 then .delete else .none

/-- `input_type` (R122). -/
inductive InputType
  | clock
  | pps
  | tenMhz
  | wordClock
  | video
  | ltc
  | syncE
  | mate
  | feedback
deriving DecidableEq, Repr

/-- The code of a InputType (R346). -/
def InputType.code : InputType → Int
  | .clock => 0
  | .pps => 1
  | .tenMhz => 2
  | .wordClock => 3
  | .video => 4
  | .ltc => 5
  | .syncE => 6
  | .mate => 7
  | .feedback => 8

/-- The InputType that a code spells; a code beyond the list spells the first name. -/
def InputType.ofCode (c : Int) : InputType :=
  if c = 1 then .pps else if c = 2 then .tenMhz else if c = 3 then .wordClock else if c = 4 then .video else if c = 5 then .ltc else if c = 6 then .syncE else if c = 7 then .mate else if c = 8 then .feedback else .clock

/-- `qual_state` of an input (R97). -/
inductive QualState
  | disabled
  | disqualified
  | soaking
  | qualified
deriving DecidableEq, Repr

/-- The code of a QualState (R346). -/
def QualState.code : QualState → Int
  | .disabled => 0
  | .disqualified => 1
  | .soaking => 2
  | .qualified => 3

/-- The QualState that a code spells; a code beyond the list spells the first name. -/
def QualState.ofCode (c : Int) : QualState :=
  if c = 1 then .disqualified else if c = 2 then .soaking else if c = 3 then .qualified else .disabled

/-- `grade_source` of an input (R106). -/
inductive GradeSource
  | assigned
  | ssm
  | g8271
  | nmea
deriving DecidableEq, Repr

/-- The code of a GradeSource (R346). -/
def GradeSource.code : GradeSource → Int
  | .assigned => 0
  | .ssm => 1
  | .g8271 => 2
  | .nmea => 3

/-- The GradeSource that a code spells; a code beyond the list spells the first name. -/
def GradeSource.ofCode (c : Int) : GradeSource :=
  if c = 1 then .ssm else if c = 2 then .g8271 else if c = 3 then .nmea else .assigned

/-- `sel_state` (R146). -/
inductive SelState
  | disabled
  | noReference
  | selected
  | holdOff
deriving DecidableEq, Repr

/-- The code of a SelState (R346). -/
def SelState.code : SelState → Int
  | .disabled => 0
  | .noReference => 1
  | .selected => 2
  | .holdOff => 3

/-- The SelState that a code spells; a code beyond the list spells the first name. -/
def SelState.ofCode (c : Int) : SelState :=
  if c = 1 then .noReference else if c = 2 then .selected else if c = 3 then .holdOff else .disabled

/-- `select_mode` (R135). -/
inductive SelectMode
  | auto
  | manual
  | forced
deriving DecidableEq, Repr

/-- The code of a SelectMode (R346). -/
def SelectMode.code : SelectMode → Int
  | .auto => 0
  | .manual => 1
  | .forced => 2

/-- The SelectMode that a code spells; a code beyond the list spells the first name. -/
def SelectMode.ofCode (c : Int) : SelectMode :=
  if c = 1 then .manual else if c = 2 then .forced else .auto

/-- `dpll_state` (R161). -/
inductive DpllState
  | freeRun
  | acquire
  | locked
  | holdover
  | holdoverLimit
  | opened
deriving DecidableEq, Repr

/-- The code of a DpllState (R346). -/
def DpllState.code : DpllState → Int
  | .freeRun => 0
  | .acquire => 1
  | .locked => 2
  | .holdover => 3
  | .holdoverLimit => 4
  | .opened => 5

/-- The DpllState that a code spells; a code beyond the list spells the first name. -/
def DpllState.ofCode (c : Int) : DpllState :=
  if c = 1 then .acquire else if c = 2 then .locked else if c = 3 then .holdover else if c = 4 then .holdoverLimit else if c = 5 then .opened else .freeRun

/-- `syn_state` (R185). -/
inductive SynState
  | off
  | calibrating
  | locked
  | retuning
  | unlocked
deriving DecidableEq, Repr

/-- The code of a SynState (R346). -/
def SynState.code : SynState → Int
  | .off => 0
  | .calibrating => 1
  | .locked => 2
  | .retuning => 3
  | .unlocked => 4

/-- The SynState that a code spells; a code beyond the list spells the first name. -/
def SynState.ofCode (c : Int) : SynState :=
  if c = 1 then .calibrating else if c = 2 then .locked else if c = 3 then .retuning else if c = 4 then .unlocked else .off

/-- `out_state` (R199). -/
inductive OutState
  | disabled
  | starting
  | running
  | gated
  | safe
deriving DecidableEq, Repr

/-- The code of a OutState (R346). -/
def OutState.code : OutState → Int
  | .disabled => 0
  | .starting => 1
  | .running => 2
  | .gated => 3
  | .safe => 4

/-- The OutState that a code spells; a code beyond the list spells the first name. -/
def OutState.ofCode (c : Int) : OutState :=
  if c = 1 then .starting else if c = 2 then .running else if c = 3 then .gated else if c = 4 then .safe else .disabled

/-- `run_cond` (R200). -/
inductive RunCond
  | always
  | hasLocked
  | lockedOrHoldover
  | locked
deriving DecidableEq, Repr

/-- The code of a RunCond (R346). -/
def RunCond.code : RunCond → Int
  | .always => 0
  | .hasLocked => 1
  | .lockedOrHoldover => 2
  | .locked => 3

/-- The RunCond that a code spells; a code beyond the list spells the first name. -/
def RunCond.ofCode (c : Int) : RunCond :=
  if c = 1 then .hasLocked else if c = 2 then .lockedOrHoldover else if c = 3 then .locked else .always

/-- `gen_state` (R241). -/
inductive GenState
  | disabled
  | waiting
  | running
  | gated
  | safe
  | stopped
deriving DecidableEq, Repr

/-- The code of a GenState (R346). -/
def GenState.code : GenState → Int
  | .disabled => 0
  | .waiting => 1
  | .running => 2
  | .gated => 3
  | .safe => 4
  | .stopped => 5

/-- The GenState that a code spells; a code beyond the list spells the first name. -/
def GenState.ofCode (c : Int) : GenState :=
  if c = 1 then .waiting else if c = 2 then .running else if c = 3 then .gated else if c = 4 then .safe else if c = 5 then .stopped else .disabled

/-- `tod_tx_state` (R245). -/
inductive TodTxState
  | idle
  | sending
  | quiet
deriving DecidableEq, Repr

/-- The code of a TodTxState (R346). -/
def TodTxState.code : TodTxState → Int
  | .idle => 0
  | .sending => 1
  | .quiet => 2

/-- The TodTxState that a code spells; a code beyond the list spells the first name. -/
def TodTxState.ofCode (c : Int) : TodTxState :=
  if c = 1 then .sending else if c = 2 then .quiet else .idle

/-- The last outcome of a commit slot (R207). -/
inductive SlotOutcome
  | idle
  | armed
  | applied
  | cancelled
deriving DecidableEq, Repr

/-- The code of a SlotOutcome (R346). -/
def SlotOutcome.code : SlotOutcome → Int
  | .idle => 0
  | .armed => 1
  | .applied => 2
  | .cancelled => 3

/-- The SlotOutcome that a code spells; a code beyond the list spells the first name. -/
def SlotOutcome.ofCode (c : Int) : SlotOutcome :=
  if c = 1 then .armed else if c = 2 then .applied else if c = 3 then .cancelled else .idle

/-- `power_state` (R356, R413). -/
inductive PowerState
  | run
  | quiet
  | standbyWarm
  | dormant
deriving DecidableEq, Repr

/-- The code of a PowerState (R346). -/
def PowerState.code : PowerState → Int
  | .run => 0
  | .quiet => 1
  | .standbyWarm => 2
  | .dormant => 3

/-- The PowerState that a code spells; a code beyond the list spells the first name. -/
def PowerState.ofCode (c : Int) : PowerState :=
  if c = 1 then .quiet else if c = 2 then .standbyWarm else if c = 3 then .dormant else .run

/-- `warmup_state` (R404). -/
inductive WarmupState
  | warmUp
  | complete
  | failed
deriving DecidableEq, Repr

/-- The code of a WarmupState (R346). -/
def WarmupState.code : WarmupState → Int
  | .warmUp => 0
  | .complete => 1
  | .failed => 2

/-- The WarmupState that a code spells; a code beyond the list spells the first name. -/
def WarmupState.ofCode (c : Int) : WarmupState :=
  if c = 1 then .complete else if c = 2 then .failed else .warmUp

/-- `reset_cause` (R408). -/
inductive ResetCause
  | powerOn
  | resetN
  | reboot
  | restoreFactory
  | warmReset
  | dormantExit
deriving DecidableEq, Repr

/-- The code of a ResetCause (R346). -/
def ResetCause.code : ResetCause → Int
  | .powerOn => 0
  | .resetN => 1
  | .reboot => 2
  | .restoreFactory => 3
  | .warmReset => 4
  | .dormantExit => 5

/-- The ResetCause that a code spells; a code beyond the list spells the first name. -/
def ResetCause.ofCode (c : Int) : ResetCause :=
  if c = 1 then .resetN else if c = 2 then .reboot else if c = 3 then .restoreFactory else if c = 4 then .warmReset else if c = 5 then .dormantExit else .powerOn

/-- The class of an occurrence or a latch (R334). -/
inductive FaultClass
  | notice
  | minor
  | major
  | severe
deriving DecidableEq, Repr

/-- The code of a FaultClass (R346). -/
def FaultClass.code : FaultClass → Int
  | .notice => 0
  | .minor => 1
  | .major => 2
  | .severe => 3

/-- The FaultClass that a code spells; a code beyond the list spells the first name. -/
def FaultClass.ofCode (c : Int) : FaultClass :=
  if c = 1 then .minor else if c = 2 then .major else if c = 3 then .severe else .notice

/-- `domain_policy` (R433). -/
inductive DomainPolicy
  | cont
  | ctrlLoss
  | hoLimit
  | both
deriving DecidableEq, Repr

/-- The code of a DomainPolicy (R346). -/
def DomainPolicy.code : DomainPolicy → Int
  | .cont => 0
  | .ctrlLoss => 1
  | .hoLimit => 2
  | .both => 3

/-- The DomainPolicy that a code spells; a code beyond the list spells the first name. -/
def DomainPolicy.ofCode (c : Int) : DomainPolicy :=
  if c = 1 then .ctrlLoss else if c = 2 then .hoLimit else if c = 3 then .both else .cont

/-- `alive_state`, in the order of the table of R436. -/
inductive AliveState
  | static
  | frozenSevere
  | frozenFeed
  | frozenHost
  | toggling
deriving DecidableEq, Repr

/-- The code of a AliveState (R346). -/
def AliveState.code : AliveState → Int
  | .static => 0
  | .frozenSevere => 1
  | .frozenFeed => 2
  | .frozenHost => 3
  | .toggling => 4

/-- The AliveState that a code spells; a code beyond the list spells the first name. -/
def AliveState.ofCode (c : Int) : AliveState :=
  if c = 1 then .frozenSevere else if c = 2 then .frozenFeed else if c = 3 then .frozenHost else if c = 4 then .toggling else .static

/-- `store_state` (R499). -/
inductive StoreState
  | idle
  | storing
  | powerFail
  | erasing
deriving DecidableEq, Repr

/-- The code of a StoreState (R346). -/
def StoreState.code : StoreState → Int
  | .idle => 0
  | .storing => 1
  | .powerFail => 2
  | .erasing => 3

/-- The StoreState that a code spells; a code beyond the list spells the first name. -/
def StoreState.ofCode (c : Int) : StoreState :=
  if c = 1 then .storing else if c = 2 then .powerFail else if c = 3 then .erasing else .idle

/-- `sess_state` (R282, R286). -/
inductive SessState
  | free
  | requesting
  | granted
  | renewing
  | backoff
deriving DecidableEq, Repr

/-- The code of a SessState (R346). -/
def SessState.code : SessState → Int
  | .free => 0
  | .requesting => 1
  | .granted => 2
  | .renewing => 3
  | .backoff => 4

/-- The SessState that a code spells; a code beyond the list spells the first name. -/
def SessState.ofCode (c : Int) : SessState :=
  if c = 1 then .requesting else if c = 2 then .granted else if c = 3 then .renewing else if c = 4 then .backoff else .free

/-- `sess_role` (R286). -/
inductive SessRole
  | grantor
  | grantee
deriving DecidableEq, Repr

/-- The code of a SessRole (R346). -/
def SessRole.code : SessRole → Int
  | .grantor => 0
  | .grantee => 1

/-- The SessRole that a code spells; a code beyond the list spells the first name. -/
def SessRole.ofCode (c : Int) : SessRole :=
  if c = 1 then .grantee else .grantor

/-- `tic_mode` (R308). -/
inductive TicMode
  | interval
  | period
  | frequency
  | phase
deriving DecidableEq, Repr

/-- The code of a TicMode (R346). -/
def TicMode.code : TicMode → Int
  | .interval => 0
  | .period => 1
  | .frequency => 2
  | .phase => 3

/-- The TicMode that a code spells; a code beyond the list spells the first name. -/
def TicMode.ofCode (c : Int) : TicMode :=
  if c = 1 then .period else if c = 2 then .frequency else if c = 3 then .phase else .interval

/-- `tic_state` (R308). -/
inductive TicState
  | disabled
  | running
  | noSource
deriving DecidableEq, Repr

/-- The code of a TicState (R346). -/
def TicState.code : TicState → Int
  | .disabled => 0
  | .running => 1
  | .noSource => 2

/-- The TicState that a code spells; a code beyond the list spells the first name. -/
def TicState.ofCode (c : Int) : TicState :=
  if c = 1 then .running else if c = 2 then .noSource else .disabled

/-- `role` (R480). -/
inductive MateRole
  | single
  | starting
  | standby
  | active
deriving DecidableEq, Repr

/-- The code of a MateRole (R346). -/
def MateRole.code : MateRole → Int
  | .single => 0
  | .starting => 1
  | .standby => 2
  | .active => 3

/-- The MateRole that a code spells; a code beyond the list spells the first name. -/
def MateRole.ofCode (c : Int) : MateRole :=
  if c = 1 then .starting else if c = 2 then .standby else if c = 3 then .active else .single

/-- `mate_link_state` (R475). -/
inductive MateLink
  | down
  | training
  | up
  | degraded
deriving DecidableEq, Repr

/-- The code of a MateLink (R346). -/
def MateLink.code : MateLink → Int
  | .down => 0
  | .training => 1
  | .up => 2
  | .degraded => 3

/-- The MateLink that a code spells; a code beyond the list spells the first name. -/
def MateLink.ofCode (c : Int) : MateLink :=
  if c = 1 then .training else if c = 2 then .up else if c = 3 then .degraded else .down

/-- `copy_state` (R476). -/
inductive CopyState
  | none
  | copying
  | refused
deriving DecidableEq, Repr

/-- The code of a CopyState (R346). -/
def CopyState.code : CopyState → Int
  | .none => 0
  | .copying => 1
  | .refused => 2

/-- The CopyState that a code spells; a code beyond the list spells the first name. -/
def CopyState.ofCode (c : Int) : CopyState :=
  if c = 1 then .copying else if c = 2 then .refused else .none

/-- `track_state` (R470). -/
inductive TrackState
  | idle
  | acquiring
  | tracking
  | lost
deriving DecidableEq, Repr

/-- The code of a TrackState (R346). -/
def TrackState.code : TrackState → Int
  | .idle => 0
  | .acquiring => 1
  | .tracking => 2
  | .lost => 3

/-- The TrackState that a code spells; a code beyond the list spells the first name. -/
def TrackState.ofCode (c : Int) : TrackState :=
  if c = 1 then .acquiring else if c = 2 then .tracking else if c = 3 then .lost else .idle

/-- `sleep_state` (R480). -/
inductive SleepState
  | awake
  | proposed
  | committed
  | asleep
  | waking
deriving DecidableEq, Repr

/-- The code of a SleepState (R346). -/
def SleepState.code : SleepState → Int
  | .awake => 0
  | .proposed => 1
  | .committed => 2
  | .asleep => 3
  | .waking => 4

/-- The SleepState that a code spells; a code beyond the list spells the first name. -/
def SleepState.ofCode (c : Int) : SleepState :=
  if c = 1 then .proposed else if c = 2 then .committed else if c = 3 then .asleep else if c = 4 then .waking else .awake

end Sys2Proof.Machine
end

