-- ==== Sys2Proof/Machine/Sources.lean ====
section
/-! DEFINITION. The event sources EV000 to EV639: their numbers, base classes and whether a source is reserved (R123,
R149, R180, R210, R211, R248, R288, R341, R391, R421 to R423, R460, R482, R500). -/

namespace Sys2Proof.Machine

/-- Source k of INPUT n (R123): 0 loss of signal, 1 qualification lost, 2 drift warning, 3 quality. -/
def Ev.input (n k : Nat) : Nat := 4 * n + k

/-- Source k of SELECTOR n or DPLLn (R149, R180): 0 switched, 1 no reference, 2 degraded, 3 state change, 4 lock lost
or holdover, 5 holdover limit. -/
def Ev.sel (n k : Nat) : Nat := 144 + 6 * n + k

/-- Source k of SYNn (R210): 0 unlock, 1 calibration failure, 2 tuning margin, 3 applied. -/
def Ev.syn (n k : Nat) : Nat := 240 + 4 * n + k

/-- Driver fault of OUTn (R211). -/
def Ev.driver (n : Nat) : Nat := 272 + n

/-- Commit slot s (R211). -/
def Ev.commit (s : Nat) : Nat := 304 + s

/-- Movement complete on SYNn (R211). -/
def Ev.movement (n : Nat) : Nat := 312 + n

/-- Source k of ETHp (R288). -/
def Ev.port (p k : Nat) : Nat := 336 + 12 * p + k

/-- Control loss on DPLLn (R423). -/
def Ev.ctrlLoss (n : Nat) : Nat := 496 + n

/-- The base class of each source, as the table of its group gives it; a reserved source reads 0 (R421). -/
def Ev.baseClass (ev : Nat) : Nat :=
  if ev < 144 then [1, 1, 0, 0].getD (ev % 4) 0
  else if ev < 240 then [0, 2, 1, 0, 1, 2].getD ((ev - 144) % 6) 0
  else if ev < 272 then [3, 3, 1, 0].getD (ev % 4) 0
  else if ev < 304 then 1
  else if ev < 320 then 0
  else if ev < 336 then [1, 1, 1, 1, 2, 2, 2, 2, 2, 2, 3, 0, 0, 0, 0, 0].getD (ev - 320) 0
  else if ev < 384 then [1, 1, 1, 0, 0, 0, 1, 0, 1, 0, 0, 2].getD ((ev - 336) % 12) 0
  else if ev < 416 then [0, 0, 1, 0, 1, 2, 2, 1, 2, 1, 0, 1, 0, 1, 3].getD (ev - 384) 0
  else if ev < 480 then
    if ev < 464 then [1, 2, 2].getD ((ev - 416) % 3) 0 else [1, 2, 2, 0, 1, 1].getD (ev - 464) 0
  else if ev < 496 then [2, 2, 2, 2, 0, 2, 2, 1, 0, 0, 0, 1, 2, 2, 2, 0].getD (ev - 480) 0
  else if ev < 512 then 1
  else if ev < 536 then [0, 1, 1, 0, 0, 0, 1, 0, 0, 0, 1, 0, 2, 2, 0, 1, 0].getD (ev - 512) 0
  else if ev < 560 then [2, 0, 0, 1, 1, 1, 0, 1, 2, 2, 1, 0, 0, 0, 2, 1].getD (ev - 536) 0
  else if ev < 592 then
    if ev < 578 then 1 else [0, 0, 0, 0, 0, 1, 0, 1, 0, 2].getD (ev - 578) 0
  else if ev < 608 then [0, 2, 0, 0, 1, 1, 2, 2, 0, 1, 2].getD (ev - 592) 0
  else 0

/-- Whether a source is not reserved (R421). -/
def Ev.defined (ev : Nat) : Bool :=
  ev < 399 || (416 ≤ ev && ev < 470) || (480 ≤ ev && ev < 529) || (536 ≤ ev && ev < 552) || (560 ≤ ev && ev < 588) || (592 ≤ ev && ev < 603)

end Sys2Proof.Machine
end

