-- ==== Sys2Proof/Machine/AttrTable.lean ====
section
/-! DEFINITION. The attribute table of the module: one descriptor for each attribute that the spec's tables list
(R56, R76, R122, R147, R178, R207, R209, R241 to R246, R285, R286, R308, R321, R356, R390, R419, R447, R449, R459,
R480, R499, R514), with its ID, object, element size, range, access, survival class (R392) and default. A default the
spec does not give is the model's and stands in log entry 2. -/

namespace Sys2Proof.Machine

/-- The objects that attributes belong to (R344). -/
inductive Obj
  | system | input | selector | dpll | syn | output | domain | vidgen | audgen | tcgen | todgen | port | session | tic
  | fault | store | mate
deriving DecidableEq, Repr

/-- The survival classes of R392. -/
inductive Surv
  | factory | stored | warm | volatile
deriving DecidableEq, Repr

/-- How an attribute is reached by GET and SET (R10, R348, R349). -/
inductive AttrMode
  | ro | rw | wo
deriving DecidableEq, Repr

/-- One row of an attribute table. `only` lists the accepted values where the table lists them; else a value is
accepted from `lo` to `hi` in whole `step`s, or where `also` lists it. -/
structure AttrDesc where
  id : Nat
  obj : Obj
  bytes : Nat := 1
  signed : Bool := false
  count : Nat := 1
  array : Bool := false
  mode : AttrMode := .ro
  lo : Int := 0
  hi : Int := 0
  step : Int := 1
  only : List Int := []
  also : List Int := []
  shared : Bool := false
  surv : Surv
  dflt : Nat → Nat → Int := fun _ _ => 0

/-- The instances of an object (R344). -/
def Obj.instances : Obj → Nat
  | .system => 1 | .input => 36 | .selector => 16 | .dpll => 16 | .syn => 8 | .output => 32 | .domain => 512
  | .vidgen => 8 | .audgen => 6 | .tcgen => 2 | .todgen => 2 | .port => 4 | .session => 16384 | .tic => 12
  | .fault => 640 | .store => 1 | .mate => 1

/-- The object an attribute ID belongs to (R344). -/
def Obj.ofAttr (id : Nat) : Option Obj :=
  if id < 0x0100 then none else if id < 0x0200 then some .system else if id < 0x0300 then some .input
  else if id < 0x0400 then some .selector else if id < 0x0500 then some .dpll else if id < 0x0580 then some .syn
  else if id < 0x0600 then some .output else if id < 0x0700 then some .domain else if id < 0x0740 then some .vidgen
  else if id < 0x0780 then some .audgen else if id < 0x07C0 then some .tcgen else if id < 0x0800 then some .todgen
  else if id < 0x0880 then some .port else if id < 0x0900 then some .session else if id < 0x0A00 then some .tic
  else if id < 0x0B00 then some .fault else if id < 0x0C00 then some .store else if id < 0x0D00 then some .mate
  else none

/-- `input_type` of each INPUT before any SET (R88, R89, R122): CLOCK on INPUT 0 to 15, the one allowed type on the
others, 0xFF on INPUT 27. -/
def Default.inputTypeNat (n : Nat) : Nat :=
  if n < 16 then 0 else if n < 20 then 4 else if n < 22 then 5 else if n < 26 then 6 else if n = 26 then 7
  else if n = 27 then 255 else 8

/-- `input_type` as an attribute value. -/
def Default.inputType (n : Nat) : Int := Default.inputTypeNat n

/-- A column of the defaults of R105, indexed by `input_type`: CLOCK, PPS, TEN_MHZ, WORD_CLOCK, VIDEO, LTC, SYNCE, MATE,
FEEDBACK. -/
def Default.byType (column : List Int) (t : Nat) : Int := column.getD t 0

/-- `freq_gate` in 0.1 s (R105). -/
def Default.inputFreqGate : Nat → Int := Default.byType [10, 40, 10, 10, 10, 40, 10, 10, 10]
/-- `phase_jump_limit` in ps (R105). -/
def Default.inputPhaseJump : Nat → Int := Default.byType [2000, 100000, 2000, 20000, 50000, 20000000, 5000, 2000, 2000]
/-- `tie_window` in s (R105). -/
def Default.inputTieWindow : Nat → Int := Default.byType [100, 1000, 100, 100, 100, 100, 100, 100, 100]
/-- `tie_limit` in ps (R105). -/
def Default.inputTieLimit : Nat → Int := Default.byType [20000, 200000, 20000, 100000, 100000, 10000000, 50000, 20000, 20000]
/-- `grade_source` (R105): SSM on SYNCE, else ASSIGNED. Attaching a companion to a PPS input leaves ASSIGNED until it is set (log
entry 80). -/
def Default.inputGradeSource : Nat → Int := Default.byType [0, 0, 0, 0, 0, 0, 1, 0, 0]
/-- `assigned_grade` (R105); 15 where R105 gives none (log entry 2). -/
def Default.inputAssignedGrade : Nat → Int := Default.byType [8, 8, 6, 10, 8, 12, 15, 3, 15]
/-- `msg_timeout` in s (R105); 3 where R105 gives none (log entry 2). -/
def Default.inputMsgTimeout : Nat → Int := Default.byType [3, 3, 3, 3, 3, 3, 5, 3, 3]

/-- The loss-of-signal and qualification-lost sources of INPUT 28 to 35 (R203). -/
def Default.synFeedback (ev : Nat) : Bool := 112 ≤ ev && ev < 144 && ev % 4 ≤ 1

/-- The port MAC addresses of the factory block (R285): locally named, one per port (log entry 2). -/
def Default.macByte (p e : Nat) : Int := if e = 0 then 2 else if e = 5 then p else 0

/-- R356: `variant`, enum, Q3_C, Q3_X, Q1_C, Q1_X; default factory. -/
def Attr.variant : AttrDesc := { id := 0x0100, obj := .system, surv := .factory }
/-- R356: `soc_stepping`, u8, [7:4] letter, A = 0; [3:0] digit; default factory. -/
def Attr.soc_stepping : AttrDesc := { id := 0x0101, obj := .system, surv := .factory, dflt := fun _ _ => 17 }
/-- R356: `serial`, u8[16], ASCII, NUL-padded; default factory. -/
def Attr.serial : AttrDesc := { id := 0x0102, obj := .system, count := 16, array := true, surv := .factory }
/-- R356: `holax_version`, u32, [23:16] major, [15:8] minor, [7:0] patch; [31:24] 0; no default stated. -/
def Attr.holax_version : AttrDesc := { id := 0x0103, obj := .system, bytes := 4, surv := .volatile, dflt := fun _ _ => 262656 }
/-- R356: `batt_version`, u32, as `holax_version`; no default stated. -/
def Attr.batt_version : AttrDesc := { id := 0x0104, obj := .system, bytes := 4, surv := .volatile, dflt := fun _ _ => 262656 }
/-- R356: `active_slot`, enum, A, B; no default stated. -/
def Attr.active_slot : AttrDesc := { id := 0x0105, obj := .system, surv := .volatile }
/-- R356: `boot_slot`, enum, A, B; default A. -/
def Attr.boot_slot : AttrDesc := { id := 0x0106, obj := .system, surv := .volatile }
/-- R356: `slot_valid`, u8, [0] A, [1] B; no default stated. -/
def Attr.slot_valid : AttrDesc := { id := 0x0107, obj := .system, surv := .volatile }
/-- R356: `slot_versions`, u32[4], as `holax_version`; no default stated. -/
def Attr.slot_versions : AttrDesc := { id := 0x0108, obj := .system, bytes := 4, count := 4, array := true, surv := .volatile }
/-- R356: `compat_id`, u32[2], no range stated; no default stated. -/
def Attr.compat_id : AttrDesc := { id := 0x0109, obj := .system, bytes := 4, count := 2, array := true, surv := .volatile }
/-- R356: `fw_update`, u32[2], [0]: [1:0] 0 IDLE, 1 OPEN, 2 DONE, 3 FAILED; [2] slot; [4:3] interface (0 PCIe, 1 SPI lite, 2 console); [1]: bytes written; default 0. -/
def Attr.fw_update : AttrDesc := { id := 0x010A, obj := .system, bytes := 4, count := 2, array := true, surv := .volatile }
/-- R356: `power_state`, enum, RUN, QUIET, STANDBY_WARM, DORMANT; default RUN. -/
def Attr.power_state : AttrDesc := { id := 0x010B, obj := .system, surv := .volatile }
/-- R356: `factory_mode`, bool, 0, 1; default 0. -/
def Attr.factory_mode : AttrDesc := { id := 0x010C, obj := .system, surv := .volatile }
/-- R56: `osc_state`, enum[4], NOT_FITTED, ABSENT, WARMUP, MEMBER, RAMPING, OUTVOTED; no default stated. -/
def Attr.osc_state : AttrDesc := { id := 0x0140, obj := .system, count := 4, array := true, surv := .volatile }
/-- R56: `osc_weight`, u32[4], 0 to 65,536 (units of 2^-16); no default stated. -/
def Attr.osc_weight : AttrDesc := { id := 0x0141, obj := .system, bytes := 4, count := 4, array := true, surv := .volatile }
/-- R56: `osc_freq_offset`, s32[4], ±2,147,483,647 (units of 10^-15); no default stated. -/
def Attr.osc_freq_offset : AttrDesc := { id := 0x0142, obj := .system, bytes := 4, signed := true, count := 4, array := true, surv := .volatile }
/-- R56: `osc_temp`, s16[3], −4,000 to 12,000 (0.01 °C); no default stated. -/
def Attr.osc_temp : AttrDesc := { id := 0x0143, obj := .system, bytes := 2, signed := true, count := 3, array := true, surv := .volatile }
/-- R56: `lead_osc`, u8, 0 to 2; default 0. -/
def Attr.lead_osc : AttrDesc := { id := 0x0144, obj := .system, surv := .volatile }
/-- R56: `ext_input`, u8, 0 to 15; 0xFF = none; default 0xFF. -/
def Attr.ext_input : AttrDesc := { id := 0x0145, obj := .system, mode := .rw, hi := 15, also := [255], surv := .stored, dflt := fun _ _ => 255 }
/-- R56: `ext_weight_cap`, u32, 0 to 58,982 (2^-16; 0.9); default 32,768 (0.5). -/
def Attr.ext_weight_cap : AttrDesc := { id := 0x0146, obj := .system, bytes := 4, mode := .rw, hi := 58982, surv := .stored, dflt := fun _ _ => 32768 }
/-- R56: `outvote_freq_limit`, u16, 10 to 1,000 (ppt); default 50. -/
def Attr.outvote_freq_limit : AttrDesc := { id := 0x0147, obj := .system, bytes := 2, mode := .rw, lo := 10, hi := 1000, surv := .stored, dflt := fun _ _ => 50 }
/-- R56: `outvote_step_limit`, u16, 100 to 10,000 (ps); default 1,000. -/
def Attr.outvote_step_limit : AttrDesc := { id := 0x0148, obj := .system, bytes := 2, mode := .rw, lo := 100, hi := 10000, surv := .stored, dflt := fun _ _ => 1000 }
/-- R56: `readmit_mode`, enum, AUTO, MANUAL; default AUTO. -/
def Attr.readmit_mode : AttrDesc := { id := 0x0149, obj := .system, mode := .rw, hi := 1, surv := .stored }
/-- R56: `learn_dpll`, u8, 0 to 15; default 0. -/
def Attr.learn_dpll : AttrDesc := { id := 0x014A, obj := .system, mode := .rw, hi := 15, surv := .stored }
/-- R56: `learn_grade_max`, u8, 0 to 14; default 4. -/
def Attr.learn_grade_max : AttrDesc := { id := 0x014B, obj := .system, mode := .rw, hi := 14, surv := .stored, dflt := fun _ _ => 4 }
/-- R56: `age_base`, s32[4], ±2,147,483,647 (10^-15 per day); default factory. -/
def Attr.age_base : AttrDesc := { id := 0x014C, obj := .system, bytes := 4, signed := true, count := 4, array := true, surv := .factory }
/-- R56: `tempco_base`, s32[4], ±2,147,483,647 (10^-15 per K); default factory. -/
def Attr.tempco_base : AttrDesc := { id := 0x014D, obj := .system, bytes := 4, signed := true, count := 4, array := true, surv := .factory }
/-- R56: `age_learned`, s32[4], as `age_base`; default = baseline. -/
def Attr.age_learned : AttrDesc := { id := 0x014E, obj := .system, bytes := 4, signed := true, count := 4, array := true, surv := .stored }
/-- R56: `tempco_learned`, s32[4], as `tempco_base`; default = baseline. -/
def Attr.tempco_learned : AttrDesc := { id := 0x014F, obj := .system, bytes := 4, signed := true, count := 4, array := true, surv := .stored }
/-- R56: `learn_state`, enum, IDLE, LEARNING, REJECTED; default IDLE. -/
def Attr.learn_state : AttrDesc := { id := 0x0150, obj := .system, surv := .volatile }
/-- R56: `outvote_count`, u32[4], 0 to 2^32 − 1; default 0. -/
def Attr.outvote_count : AttrDesc := { id := 0x0151, obj := .system, bytes := 4, count := 4, array := true, surv := .stored }
/-- R56: `closure_error`, s32, ±2,147,483,647 (fs); no default stated. -/
def Attr.closure_error : AttrDesc := { id := 0x0152, obj := .system, bytes := 4, signed := true, surv := .volatile }
/-- R56: `root_locked`, bool, 0, 1; no default stated. -/
def Attr.root_locked : AttrDesc := { id := 0x0153, obj := .system, surv := .volatile }
/-- R178: `locka0_set`, u16, bit n = DPLLn; default 0x0001. -/
def Attr.locka0_set : AttrDesc := { id := 0x0160, obj := .system, bytes := 2, mode := .rw, hi := 65535, surv := .stored, dflt := fun _ _ => 1 }
/-- R178: `locka1_set`, u16, bit n = DPLLn; default 0x0000. -/
def Attr.locka1_set : AttrDesc := { id := 0x0161, obj := .system, bytes := 2, mode := .rw, hi := 65535, surv := .stored }
/-- R321: `client_allow`, u8[64], bit c = client c; default 0x01, then 0. -/
def Attr.client_allow : AttrDesc := { id := 0x0180, obj := .system, count := 64, array := true, mode := .rw, hi := 255, surv := .stored, dflt := fun _ e => if e = 0 then 1 else 0 }
/-- R321: `client_tag_limit`, u16[512], 1 to 256; default 64. -/
def Attr.client_tag_limit : AttrDesc := { id := 0x0181, obj := .system, bytes := 2, count := 512, array := true, mode := .rw, lo := 1, hi := 256, surv := .stored, dflt := fun _ _ => 64 }
/-- R321: `client_vector`, u8[512], 0 to 63; default 0 for client 0; 1 + ((c − 1) mod 63) for client c. -/
def Attr.client_vector : AttrDesc := { id := 0x0182, obj := .system, count := 512, array := true, mode := .rw, hi := 63, surv := .stored, dflt := fun _ e => if e = 0 then 0 else 1 + (((e : Int) - 1) % 63) }
/-- R321: `client_counter_map`, u8[64], bit c = client c; default 0. -/
def Attr.client_counter_map : AttrDesc := { id := 0x0183, obj := .system, count := 64, array := true, mode := .rw, hi := 255, surv := .stored }
/-- R321: `tag_pool`, u16[2], 0 to 2,048; no default stated. -/
def Attr.tag_pool : AttrDesc := { id := 0x0184, obj := .system, bytes := 2, count := 2, array := true, surv := .volatile }
/-- R321: `pool_waits`, u32, 0 to 2^32 − 1; default 0. -/
def Attr.pool_waits : AttrDesc := { id := 0x0185, obj := .system, bytes := 4, surv := .volatile }
/-- R321: `crc_failures`, u32, 0 to 2^32 − 1; default 0. -/
def Attr.crc_failures : AttrDesc := { id := 0x0186, obj := .system, bytes := 4, surv := .volatile }
/-- R321: `cmd_mean_service`, u32, 0 to 2^32 − 1 (ns); default 0. -/
def Attr.cmd_mean_service : AttrDesc := { id := 0x0187, obj := .system, bytes := 4, surv := .volatile }
/-- R321: `spi_errors`, u32, 0 to 2^32 − 1; default 0. -/
def Attr.spi_errors : AttrDesc := { id := 0x0188, obj := .system, bytes := 4, surv := .volatile }
/-- R321: `console_overruns`, u32, 0 to 2^32 − 1; default 0. -/
def Attr.console_overruns : AttrDesc := { id := 0x0189, obj := .system, bytes := 4, surv := .volatile }
/-- R390: `code_strength`, enum, T8, T16, T24, T32, T48; default T16. -/
def Attr.code_strength : AttrDesc := { id := 0x01A0, obj := .system, mode := .rw, hi := 4, surv := .stored, dflt := fun _ _ => 1 }
/-- R390: `code_strength_active`, enum, as above; default T16. -/
def Attr.code_strength_active : AttrDesc := { id := 0x01A1, obj := .system, surv := .volatile, dflt := fun _ _ => 1 }
/-- R390: `fuller_period`, u32, 3,600 to 2,592,000 (s); default 86,400. -/
def Attr.fuller_period : AttrDesc := { id := 0x01A2, obj := .system, bytes := 4, mode := .rw, lo := 3600, hi := 2592000, surv := .stored, dflt := fun _ _ => 86400 }
/-- R390: `fuller_position`, u32, 0 to 3,947,579; default 0. -/
def Attr.fuller_position : AttrDesc := { id := 0x01A3, obj := .system, bytes := 4, surv := .volatile }
/-- R390: `fuller_passes`, u32, 0 to 2^32 − 1; default 0. -/
def Attr.fuller_passes : AttrDesc := { id := 0x01A4, obj := .system, bytes := 4, surv := .volatile }
/-- R390: `retire_limit`, u8, 1 to 47, below the active and pending t; default 8. -/
def Attr.retire_limit : AttrDesc := { id := 0x01A5, obj := .system, mode := .rw, lo := 1, hi := 47, surv := .stored, dflt := fun _ _ => 8 }
/-- R390: `ce_counts`, u64[4], 0 to 2^64 − 1; default 0. -/
def Attr.ce_counts : AttrDesc := { id := 0x01A6, obj := .system, bytes := 8, count := 4, array := true, surv := .volatile }
/-- R390: `ce_unlogged`, u32, 0 to 2^32 − 1; default 0. -/
def Attr.ce_unlogged : AttrDesc := { id := 0x01A7, obj := .system, bytes := 4, surv := .volatile }
/-- R390: `read_retries`, u32, 0 to 2^32 − 1; default 0. -/
def Attr.read_retries : AttrDesc := { id := 0x01A8, obj := .system, bytes := 4, surv := .volatile }
/-- R390: `poisoned`, u32, 0 to 2^32 − 1; default 0. -/
def Attr.poisoned : AttrDesc := { id := 0x01A9, obj := .system, bytes := 4, surv := .volatile }
/-- R390: `ce_log`, 32 B[16], R374; default 0. -/
def Attr.ce_log : AttrDesc := { id := 0x01AA, obj := .system, bytes := 32, count := 16, array := true, surv := .volatile }
/-- R390: `cullet`, 8 B[32], R381; default factory. -/
def Attr.cullet : AttrDesc := { id := 0x01AB, obj := .system, bytes := 8, count := 32, array := true, surv := .stored }
/-- R390: `spare_state`, u8[64], 0 FREE, 1 IN_USE, 2 BAD; default factory. -/
def Attr.spare_state : AttrDesc := { id := 0x01AC, obj := .system, count := 64, array := true, surv := .stored }
/-- R390: `cache_slots`, u16[3], 0 to 2,048; no default stated. -/
def Attr.cache_slots : AttrDesc := { id := 0x01AD, obj := .system, bytes := 2, count := 3, array := true, surv := .volatile }
/-- R390: `cache_counts`, u64[3], 0 to 2^64 − 1; default 0. -/
def Attr.cache_counts : AttrDesc := { id := 0x01AE, obj := .system, bytes := 8, count := 3, array := true, surv := .volatile }
/-- R390: `tw_discards`, u32, 0 to 2^32 − 1; default 0. -/
def Attr.tw_discards : AttrDesc := { id := 0x01AF, obj := .system, bytes := 4, surv := .volatile }
/-- R390: `init_time`, u32, 0 to 800,000 (µs); no default stated. -/
def Attr.init_time : AttrDesc := { id := 0x01B0, obj := .system, bytes := 4, surv := .volatile }
/-- R419: `warmup_outputs`, enum, PERMIT, HOLD; default PERMIT. -/
def Attr.warmup_outputs : AttrDesc := { id := 0x01C0, obj := .system, mode := .rw, hi := 1, surv := .stored }
/-- R419: `warmup_state`, enum, WARM_UP, COMPLETE, FAILED; default WARM_UP. -/
def Attr.warmup_state : AttrDesc := { id := 0x01C1, obj := .system, surv := .volatile }
/-- R419: `warmup_elapsed`, u32, 0 to 2^32 − 1 (s); default 0. -/
def Attr.warmup_elapsed : AttrDesc := { id := 0x01C2, obj := .system, bytes := 4, surv := .volatile }
/-- R419: `reset_cause`, enum, POWER_ON, RESET_N, REBOOT, RESTORE_FACTORY, WARM_RESET, DORMANT_EXIT; default POWER_ON. -/
def Attr.reset_cause : AttrDesc := { id := 0x01C3, obj := .system, surv := .volatile }
/-- R419: `boot_step_time`, u32[9], 0 to 2^32 − 1 (µs); default 0. -/
def Attr.boot_step_time : AttrDesc := { id := 0x01C4, obj := .system, bytes := 4, count := 9, array := true, surv := .volatile }
/-- R419: `boot_fallback`, bool, 0, 1; default 0. -/
def Attr.boot_fallback : AttrDesc := { id := 0x01C5, obj := .system, surv := .volatile }
/-- R419: `gaffer_restarts`, u32, 0 to 2^32 − 1; default 0. -/
def Attr.gaffer_restarts : AttrDesc := { id := 0x01C6, obj := .system, bytes := 4, surv := .volatile }
/-- R419: `config_rejects`, u32, 0 to 2^32 − 1; default 0. -/
def Attr.config_rejects : AttrDesc := { id := 0x01C7, obj := .system, bytes := 4, surv := .volatile }
/-- R459: `engines_in_service`, u8, 0 to 128; no default stated. -/
def Attr.engines_in_service : AttrDesc := { id := 0x01D0, obj := .system, surv := .volatile }
/-- R459: `cluster_state`, u8[16], [3:0] engines in service; [4] spare held; [5] lost; [7:6] reserved; no default stated. -/
def Attr.cluster_state : AttrDesc := { id := 0x01D1, obj := .system, count := 16, array := true, surv := .volatile }
/-- R459: `repair_records`, 8 B[48], R458; default factory. -/
def Attr.repair_records : AttrDesc := { id := 0x01D2, obj := .system, bytes := 8, count := 48, array := true, surv := .stored }
/-- R459: `stamp_spares_free`, u8, 0 to 4; no default stated. -/
def Attr.stamp_spares_free : AttrDesc := { id := 0x01D3, obj := .system, surv := .volatile }
/-- R459: `rebalances`, u32, 0 to 2^32 − 1; default 0. -/
def Attr.rebalances : AttrDesc := { id := 0x01D4, obj := .system, bytes := 4, surv := .volatile }
/-- R514: `pmc_select`, u32[128], R504; element 8c + k; default 0. -/
def Attr.pmc_select : AttrDesc := { id := 0x01E0, obj := .system, bytes := 4, count := 128, array := true, mode := .rw, hi := 4294967295, surv := .warm }
/-- R514: `pmc_addr`, u64[128], R506; default 0. -/
def Attr.pmc_addr : AttrDesc := { id := 0x01E1, obj := .system, bytes := 8, count := 128, array := true, mode := .rw, hi := 18446744073709551615, surv := .warm }
/-- R514: `pmc_sample_period`, u32[128], 0 (off), 1,000 to 4,294,967,295; default 0. -/
def Attr.pmc_sample_period : AttrDesc := { id := 0x01E2, obj := .system, bytes := 4, count := 128, array := true, mode := .rw, lo := 1000, hi := 4294967295, also := [0], surv := .warm }
/-- R514: `pmc_ovf_clear`, u16[16], bit j = OVF bit j; default 0. -/
def Attr.pmc_ovf_clear : AttrDesc := { id := 0x01E3, obj := .system, bytes := 2, count := 16, array := true, mode := .wo, hi := 65535, surv := .volatile }
/-- R514: `pmc_samples`, 16 B[1024], R512; default 0. -/
def Attr.pmc_samples : AttrDesc := { id := 0x01E4, obj := .system, bytes := 16, count := 1024, array := true, surv := .volatile }
/-- R514: `pmc_sample_count`, u64[16], 0 to 2^64 − 1; default 0. -/
def Attr.pmc_sample_count : AttrDesc := { id := 0x01E5, obj := .system, bytes := 8, count := 16, array := true, surv := .volatile }
/-- R122: `enable`, bool, 0, 1; default 0. -/
def Attr.input_enable : AttrDesc := { id := 0x0200, obj := .input, mode := .rw, hi := 1, surv := .stored }
/-- R122: `input_type`, enum, CLOCK 0, PPS 1, TEN_MHZ 2, WORD_CLOCK 3, VIDEO 4, LTC 5, SYNCE 6, MATE 7, FEEDBACK 8; 0xFF on INPUT 27 only (R89). The types allowed on each input are those of R88; default CLOCK for INPUT 0 to 15; fixed for others. -/
def Attr.input_type : AttrDesc := { id := 0x0201, obj := .input, mode := .rw, hi := 8, surv := .stored, dflt := fun i _ => Default.inputType i }
/-- R122: `io_type`, enum, DIFF, LVCMOS; default DIFF. -/
def Attr.input_io_type : AttrDesc := { id := 0x0202, obj := .input, mode := .rw, hi := 1, surv := .stored }
/-- R122: `nominal_num`, u32, 1 to 4,000,000,000; default 10,000,000. -/
def Attr.input_nominal_num : AttrDesc := { id := 0x0203, obj := .input, bytes := 4, mode := .rw, lo := 1, hi := 4000000000, surv := .stored, dflt := fun _ _ => 10000000 }
/-- R122: `nominal_den`, u16, 1 to 65,535; default 1. -/
def Attr.input_nominal_den : AttrDesc := { id := 0x0204, obj := .input, bytes := 2, mode := .rw, lo := 1, hi := 65535, surv := .stored, dflt := fun _ _ => 1 }
/-- R122: `prediv`, u16, 0 (AUTO), 1 to 1,024; default 0. -/
def Attr.input_prediv : AttrDesc := { id := 0x0205, obj := .input, bytes := 2, mode := .rw, hi := 1024, surv := .stored }
/-- R122: `prediv_used`, u16, 1 to 1,024; no default stated. -/
def Attr.input_prediv_used : AttrDesc := { id := 0x0206, obj := .input, bytes := 2, surv := .volatile, dflt := fun _ _ => 1 }
/-- R122: `edge`, enum, RISING, FALLING; default RISING. -/
def Attr.input_edge : AttrDesc := { id := 0x0207, obj := .input, mode := .rw, hi := 1, surv := .stored }
/-- R122: `input_delay`, s32, ±2,147,483,647 (ps); default 0. -/
def Attr.input_delay : AttrDesc := { id := 0x0208, obj := .input, bytes := 4, signed := true, mode := .rw, lo := -2147483647, hi := 2147483647, surv := .stored }
/-- R122: `los_edges`, u8, 2 to 16; default 2. -/
def Attr.input_los_edges : AttrDesc := { id := 0x0209, obj := .input, mode := .rw, lo := 2, hi := 16, surv := .stored, dflt := fun _ _ => 2 }
/-- R122: `freq_enter`, u16, 1 to 10,000 (0.01 ppm); default 900. -/
def Attr.input_freq_enter : AttrDesc := { id := 0x020A, obj := .input, bytes := 2, mode := .rw, lo := 1, hi := 10000, surv := .stored, dflt := fun _ _ => 900 }
/-- R122: `freq_leave`, u16, 2 to 10,000 (0.01 ppm); default 1,000. -/
def Attr.input_freq_leave : AttrDesc := { id := 0x020B, obj := .input, bytes := 2, mode := .rw, lo := 2, hi := 10000, surv := .stored, dflt := fun _ _ => 1000 }
/-- R122: `freq_gate`, u16, 1 to 1,000 (0.1 s); default R105. -/
def Attr.input_freq_gate : AttrDesc := { id := 0x020C, obj := .input, bytes := 2, mode := .rw, lo := 1, hi := 1000, surv := .stored, dflt := fun i _ => Default.inputFreqGate (Default.inputTypeNat i) }
/-- R122: `phase_jump_limit`, u32, 100 to 1,000,000,000 (ps); default R105. -/
def Attr.input_phase_jump_limit : AttrDesc := { id := 0x020D, obj := .input, bytes := 4, mode := .rw, lo := 100, hi := 1000000000, surv := .stored, dflt := fun i _ => Default.inputPhaseJump (Default.inputTypeNat i) }
/-- R122: `tie_window`, u16, 10 to 3,600 (s); default R105. -/
def Attr.input_tie_window : AttrDesc := { id := 0x020E, obj := .input, bytes := 2, mode := .rw, lo := 10, hi := 3600, surv := .stored, dflt := fun i _ => Default.inputTieWindow (Default.inputTypeNat i) }
/-- R122: `tie_limit`, u32, 100 to 1,000,000,000 (ps); default R105. -/
def Attr.input_tie_limit : AttrDesc := { id := 0x020F, obj := .input, bytes := 4, mode := .rw, lo := 100, hi := 1000000000, surv := .stored, dflt := fun i _ => Default.inputTieLimit (Default.inputTypeNat i) }
/-- R122: `drift_limit`, u32, 1 to 10,000 (10^-12 per s); default 100. -/
def Attr.input_drift_limit : AttrDesc := { id := 0x0210, obj := .input, bytes := 4, mode := .rw, lo := 1, hi := 10000, surv := .stored, dflt := fun _ _ => 100 }
/-- R122: `drift_time`, u16, 10 to 3,600 (s); default 60. -/
def Attr.input_drift_time : AttrDesc := { id := 0x0211, obj := .input, bytes := 2, mode := .rw, lo := 10, hi := 3600, surv := .stored, dflt := fun _ _ => 60 }
/-- R122: `drift_horizon`, u32, 0 to 86,400 (s); 0 = off; default 300. -/
def Attr.input_drift_horizon : AttrDesc := { id := 0x0212, obj := .input, bytes := 4, mode := .rw, hi := 86400, surv := .stored, dflt := fun _ _ => 300 }
/-- R122: `soak_time`, u16, 1 to 3,600 (s); default 10. -/
def Attr.input_soak_time : AttrDesc := { id := 0x0213, obj := .input, bytes := 2, mode := .rw, lo := 1, hi := 3600, surv := .stored, dflt := fun _ _ => 10 }
/-- R122: `qual_state`, enum, DISABLED, DISQUALIFIED, SOAKING, QUALIFIED; default DISABLED. -/
def Attr.input_qual_state : AttrDesc := { id := 0x0214, obj := .input, surv := .volatile }
/-- R122: `qual_flags`, u16, R97; default 0. -/
def Attr.input_qual_flags : AttrDesc := { id := 0x0215, obj := .input, bytes := 2, surv := .volatile }
/-- R122: `freq_offset`, s32, ±2,147,483,647 (10^-15); no default stated. -/
def Attr.input_freq_offset : AttrDesc := { id := 0x0216, obj := .input, bytes := 4, signed := true, surv := .volatile }
/-- R122: `freq_trend`, s32, ±2,147,483,647 (10^-15 per s); no default stated. -/
def Attr.input_freq_trend : AttrDesc := { id := 0x0217, obj := .input, bytes := 4, signed := true, surv := .volatile }
/-- R122: `grade`, u8, 0 to 15; default 15. -/
def Attr.input_grade : AttrDesc := { id := 0x0218, obj := .input, surv := .volatile, dflt := fun _ _ => 15 }
/-- R122: `grade_source`, enum, ASSIGNED, SSM, G8271, NMEA; default R105. -/
def Attr.input_grade_source : AttrDesc := { id := 0x0219, obj := .input, mode := .rw, hi := 3, surv := .stored, dflt := fun i _ => Default.inputGradeSource (Default.inputTypeNat i) }
/-- R122: `ssm_option`, enum, OPTION_I, OPTION_II; default OPTION_I. -/
def Attr.input_ssm_option : AttrDesc := { id := 0x021A, obj := .input, mode := .rw, hi := 1, surv := .stored }
/-- R122: `assigned_grade`, u8, 0 to 15; default R105. -/
def Attr.input_assigned_grade : AttrDesc := { id := 0x021B, obj := .input, mode := .rw, hi := 15, surv := .stored, dflt := fun i _ => Default.inputAssignedGrade (Default.inputTypeNat i) }
/-- R122: `grade_override`, u8, 0 to 15; 0xFF = none; default 0xFF. -/
def Attr.input_grade_override : AttrDesc := { id := 0x021C, obj := .input, mode := .rw, hi := 15, also := [255], surv := .stored, dflt := fun _ _ => 255 }
/-- R122: `msg_timeout`, u16, 1 to 60 (s); default R105. -/
def Attr.input_msg_timeout : AttrDesc := { id := 0x021D, obj := .input, bytes := 2, mode := .rw, lo := 1, hi := 60, surv := .stored, dflt := fun i _ => Default.inputMsgTimeout (Default.inputTypeNat i) }
/-- R122: `msg_lost_grade`, u8, 0 to 15; default 12. -/
def Attr.input_msg_lost_grade : AttrDesc := { id := 0x021E, obj := .input, mode := .rw, hi := 15, surv := .stored, dflt := fun _ _ => 12 }
/-- R122: `ssm_rx`, u8, 0x00 to 0x0F; 0xFF = none; default 0xFF. -/
def Attr.input_ssm_rx : AttrDesc := { id := 0x021F, obj := .input, surv := .volatile, dflt := fun _ _ => 255 }
/-- R122: `essm_rx`, u8, 0x00 to 0xFF; 0xFF = none; default 0xFF. -/
def Attr.input_essm_rx : AttrDesc := { id := 0x0220, obj := .input, surv := .volatile, dflt := fun _ _ => 255 }
/-- R122: `essm_cascade`, u16, [15:8] eEEC, [7:0] EEC; default 0. -/
def Attr.input_essm_cascade : AttrDesc := { id := 0x0221, obj := .input, bytes := 2, surv := .volatile }
/-- R122: `tod_rx`, enum, NONE, TOD_RX0, TOD_RX1; default NONE. -/
def Attr.input_tod_rx : AttrDesc := { id := 0x0222, obj := .input, mode := .rw, hi := 2, surv := .stored }
/-- R122: `tod_protocol`, enum, G8271, NMEA; default G8271. -/
def Attr.input_tod_protocol : AttrDesc := { id := 0x0223, obj := .input, mode := .rw, hi := 1, surv := .stored }
/-- R122: `tod_baud`, u32, 9,600; 19,200; 38,400; 57,600; 115,200; default 9,600. -/
def Attr.input_tod_baud : AttrDesc := { id := 0x0224, obj := .input, bytes := 4, mode := .rw, only := [9600, 19200, 38400, 57600, 115200], surv := .stored, dflt := fun _ _ => 9600 }
/-- R122: `tod_label`, enum, PRECEDING, FOLLOWING; default PRECEDING. -/
def Attr.input_tod_label : AttrDesc := { id := 0x0225, obj := .input, mode := .rw, hi := 1, surv := .stored }
/-- R122: `time_domain`, u16, 0 to 511; default 0. -/
def Attr.input_time_domain : AttrDesc := { id := 0x0226, obj := .input, bytes := 2, mode := .rw, hi := 511, surv := .stored }
/-- R122: `vsync_expect`, enum, AUTO or a format of R118; default AUTO. -/
def Attr.input_vsync_expect : AttrDesc := { id := 0x0227, obj := .input, mode := .rw, hi := 16, surv := .stored }
/-- R122: `vsync_format`, enum, NONE or a format of R118; default NONE. -/
def Attr.input_vsync_format : AttrDesc := { id := 0x0228, obj := .input, surv := .volatile }
/-- R122: `ltc_date_mode`, enum, NONE, ST309; default ST309. -/
def Attr.input_ltc_date_mode : AttrDesc := { id := 0x0229, obj := .input, mode := .rw, hi := 1, surv := .stored, dflt := fun _ _ => 1 }
/-- R122: `ltc_timebase`, enum, UTC, LOCAL; default LOCAL. -/
def Attr.input_ltc_timebase : AttrDesc := { id := 0x022A, obj := .input, mode := .rw, hi := 1, surv := .stored, dflt := fun _ _ => 1 }
/-- R122: `ltc_discard_n`, u8, 1 to 255; default 3. -/
def Attr.input_ltc_discard_n : AttrDesc := { id := 0x022B, obj := .input, mode := .rw, lo := 1, hi := 255, surv := .stored, dflt := fun _ _ => 3 }
/-- R122: `ltc_discard_w`, u16, 1 to 3,600 (s); default 10. -/
def Attr.input_ltc_discard_w : AttrDesc := { id := 0x022C, obj := .input, bytes := 2, mode := .rw, lo := 1, hi := 3600, surv := .stored, dflt := fun _ _ => 10 }
/-- R122: `ltc_rate`, enum, NONE, 24, 25, 29.97_DF, 29.97_NDF, 30; default NONE. -/
def Attr.input_ltc_rate : AttrDesc := { id := 0x022D, obj := .input, surv := .volatile }
/-- R122: `rx_errors`, u32[4], 0 to 2^32 − 1; default 0. -/
def Attr.input_rx_errors : AttrDesc := { id := 0x022E, obj := .input, bytes := 4, count := 4, array := true, surv := .volatile }
/-- R122: `stamps`, u64, 0 to 2^64 − 1; default 0. -/
def Attr.input_stamps : AttrDesc := { id := 0x022F, obj := .input, bytes := 8, surv := .volatile }
/-- R147: `enable`, bool, 0, 1; default 0. -/
def Attr.selector_enable : AttrDesc := { id := 0x0300, obj := .selector, mode := .rw, hi := 1, surv := .stored }
/-- R147: `candidates`, entry[24], R125; default all empty. -/
def Attr.selector_candidates : AttrDesc := { id := 0x0301, obj := .selector, bytes := 4, count := 24, array := true, surv := .stored }
/-- R147: `cand_count`, u8, 0 to 24; default 0. -/
def Attr.selector_cand_count : AttrDesc := { id := 0x0302, obj := .selector, surv := .stored }
/-- R147: `revertive`, enum, REVERTIVE, NONREVERTIVE; default REVERTIVE. -/
def Attr.selector_revertive : AttrDesc := { id := 0x0303, obj := .selector, mode := .rw, hi := 1, surv := .stored }
/-- R147: `wtr_time`, u16, 0 to 3,600 (s); default 300. -/
def Attr.selector_wtr_time : AttrDesc := { id := 0x0304, obj := .selector, bytes := 2, mode := .rw, hi := 3600, surv := .stored, dflt := fun _ _ => 300 }
/-- R147: `hold_off`, u16, 0 to 10,000 (ms); default 0. -/
def Attr.selector_hold_off : AttrDesc := { id := 0x0305, obj := .selector, bytes := 2, mode := .rw, hi := 10000, surv := .stored }
/-- R147: `select_mode`, enum, AUTO, MANUAL, FORCED; default AUTO. -/
def Attr.selector_select_mode : AttrDesc := { id := 0x0306, obj := .selector, surv := .stored }
/-- R147: `select_target`, u8, 0 to 23; 0xFF = none; default 0xFF. -/
def Attr.selector_select_target : AttrDesc := { id := 0x0307, obj := .selector, surv := .stored, dflt := fun _ _ => 255 }
/-- R147: `preempt_drift`, bool, 0, 1; default 0. -/
def Attr.selector_preempt_drift : AttrDesc := { id := 0x0308, obj := .selector, mode := .rw, hi := 1, surv := .stored }
/-- R147: `switch_mode`, enum, BUILD_OUT, PHASE_ALIGN; default BUILD_OUT. -/
def Attr.selector_switch_mode : AttrDesc := { id := 0x0309, obj := .selector, mode := .rw, hi := 1, surv := .stored }
/-- R147: `time_align`, bool, 0, 1; default 1. -/
def Attr.selector_time_align : AttrDesc := { id := 0x030A, obj := .selector, mode := .rw, hi := 1, surv := .stored, dflt := fun _ _ => 1 }
/-- R147: `wtr_bypass`, bool, 0, 1; default 1. -/
def Attr.selector_wtr_bypass : AttrDesc := { id := 0x030B, obj := .selector, mode := .rw, hi := 1, surv := .stored, dflt := fun _ _ => 1 }
/-- R147: `min_grade`, u8, 0 to 14; default 14. -/
def Attr.selector_min_grade : AttrDesc := { id := 0x030C, obj := .selector, mode := .rw, hi := 14, surv := .stored, dflt := fun _ _ => 14 }
/-- R147: `sel_state`, enum, DISABLED, NO_REFERENCE, SELECTED, HOLD_OFF; default DISABLED. -/
def Attr.selector_sel_state : AttrDesc := { id := 0x030D, obj := .selector, surv := .volatile }
/-- R147: `selected`, u8, 0 to 23; 0xFF = none; default 0xFF. -/
def Attr.selector_selected : AttrDesc := { id := 0x030E, obj := .selector, surv := .volatile, dflt := fun _ _ => 255 }
/-- R147: `cand_status`, u16[24], [3:0] grade; [4] qualified; [5] eligible; [6] WTR pending; [7] DRIFT; [8] locked out; [15:9] reserved; default 0. -/
def Attr.selector_cand_status : AttrDesc := { id := 0x030F, obj := .selector, bytes := 2, count := 24, array := true, surv := .volatile }
/-- R147: `wtr_remaining`, u16[24], 0 to 3,600 (s); default 0. -/
def Attr.selector_wtr_remaining : AttrDesc := { id := 0x0310, obj := .selector, bytes := 2, count := 24, array := true, surv := .volatile }
/-- R147: `buildout_phase`, interval, ±140,737 s; default 0. -/
def Attr.selector_buildout_phase : AttrDesc := { id := 0x0311, obj := .selector, bytes := 8, signed := true, surv := .warm }
/-- R147: `switch_count`, u32, 0 to 2^32 − 1; default 0. -/
def Attr.selector_switch_count : AttrDesc := { id := 0x0312, obj := .selector, bytes := 4, surv := .volatile }
/-- R147: `last_switch`, 16 B, [63:0] counter value; [71:64] from index; [79:72] to index; [87:80] cause; [127:88] reserved; default 0. -/
def Attr.selector_last_switch : AttrDesc := { id := 0x0313, obj := .selector, bytes := 16, surv := .volatile }
/-- R178: `dpll_state`, enum, FREE-RUN, ACQUIRE, LOCKED, HOLDOVER, HOLDOVER-LIMIT, OPEN; default FREE-RUN. -/
def Attr.dpll_state : AttrDesc := { id := 0x0400, obj := .dpll, surv := .volatile }
/-- R178: `bandwidth`, u8, 0 to 20; 0xFF = AUTO; default 0xFF. -/
def Attr.dpll_bandwidth : AttrDesc := { id := 0x0401, obj := .dpll, mode := .rw, hi := 20, also := [255], surv := .stored, dflt := fun _ _ => 255 }
/-- R178: `bw_used`, u8, 0 to 20; no default stated. -/
def Attr.dpll_bw_used : AttrDesc := { id := 0x0402, obj := .dpll, surv := .volatile }
/-- R178: `damping`, u16, 50 to 500 (0.01); default 500. -/
def Attr.dpll_damping : AttrDesc := { id := 0x0403, obj := .dpll, bytes := 2, mode := .rw, lo := 50, hi := 500, surv := .stored, dflt := fun _ _ => 500 }
/-- R178: `slope_limit`, u32, 0 (unlimited), 1,000 to 4,000,000,000 (ps/s); default 10,000. -/
def Attr.dpll_slope_limit : AttrDesc := { id := 0x0404, obj := .dpll, bytes := 4, mode := .rw, lo := 1000, hi := 4000000000, also := [0], surv := .stored, dflt := fun _ _ => 10000 }
/-- R178: `lock_limit`, u32, 0 (AUTO), 100 to 1,000,000,000 (ps); default 0. -/
def Attr.dpll_lock_limit : AttrDesc := { id := 0x0405, obj := .dpll, bytes := 4, mode := .rw, lo := 100, hi := 1000000000, also := [0], surv := .stored }
/-- R178: `lock_limit_used`, u32, 100 to 1,000,000,000 (ps); no default stated. -/
def Attr.dpll_lock_limit_used : AttrDesc := { id := 0x0406, obj := .dpll, bytes := 4, surv := .volatile }
/-- R178: `lock_freq_limit`, u32, 1 to 1,000,000 (ppt); default 1,000. -/
def Attr.dpll_lock_freq_limit : AttrDesc := { id := 0x0407, obj := .dpll, bytes := 4, mode := .rw, lo := 1, hi := 1000000, surv := .stored, dflt := fun _ _ => 1000 }
/-- R178: `lock_time`, u16, 1 to 36,000 (0.1 s); default 100. -/
def Attr.dpll_lock_time : AttrDesc := { id := 0x0408, obj := .dpll, bytes := 2, mode := .rw, lo := 1, hi := 36000, surv := .stored, dflt := fun _ _ => 100 }
/-- R178: `phase_error`, interval, ±140,737 s; no default stated. -/
def Attr.dpll_phase_error : AttrDesc := { id := 0x0409, obj := .dpll, bytes := 8, signed := true, surv := .volatile }
/-- R178: `freq_word`, s64, ±2.5 × 10^14 (10^-18); default 0. -/
def Attr.dpll_freq_word : AttrDesc := { id := 0x040A, obj := .dpll, bytes := 8, signed := true, surv := .warm }
/-- R178: `settling`, bool, 0, 1; default 0. -/
def Attr.dpll_settling : AttrDesc := { id := 0x040B, obj := .dpll, surv := .volatile }
/-- R178: `pd_rate`, u32, 1,000 to 1,000,000,000 (mHz); no default stated. -/
def Attr.dpll_pd_rate : AttrDesc := { id := 0x040C, obj := .dpll, bytes := 4, surv := .volatile }
/-- R178: `has_locked`, bool, 0, 1; default 0. -/
def Attr.dpll_has_locked : AttrDesc := { id := 0x040D, obj := .dpll, surv := .warm }
/-- R178: `phase_offset`, interval, ±140,737 s; default 0. -/
def Attr.dpll_phase_offset : AttrDesc := { id := 0x040E, obj := .dpll, bytes := 8, signed := true, surv := .warm }
/-- R178: `align_remaining`, interval, ±140,737 s; default 0. -/
def Attr.dpll_align_remaining : AttrDesc := { id := 0x040F, obj := .dpll, bytes := 8, signed := true, surv := .volatile }
/-- R178: `ho_window`, u32, 60 to 86,400 (s); default 3,600. -/
def Attr.dpll_ho_window : AttrDesc := { id := 0x0410, obj := .dpll, bytes := 4, mode := .rw, lo := 60, hi := 86400, surv := .stored, dflt := fun _ _ => 3600 }
/-- R178: `ho_guard`, u16, 0 to 3,600 (s); default 60. -/
def Attr.dpll_ho_guard : AttrDesc := { id := 0x0411, obj := .dpll, bytes := 2, mode := .rw, hi := 3600, surv := .stored, dflt := fun _ _ => 60 }
/-- R178: `ho_budget`, u32, 10 to 1,000,000,000 (ns); default 1,000. -/
def Attr.dpll_ho_budget : AttrDesc := { id := 0x0412, obj := .dpll, bytes := 4, mode := .rw, lo := 10, hi := 1000000000, surv := .stored, dflt := fun _ _ => 1000 }
/-- R178: `ho_ready`, bool, 0, 1; default 0. -/
def Attr.dpll_ho_ready : AttrDesc := { id := 0x0413, obj := .dpll, surv := .warm }
/-- R178: `ho_usable`, u32, 0 to 86,400; default 0. -/
def Attr.dpll_ho_usable : AttrDesc := { id := 0x0414, obj := .dpll, bytes := 4, surv := .warm }
/-- R178: `ho_freq`, s64, ±2.5 × 10^14 (10^-18); default 0. -/
def Attr.dpll_ho_freq : AttrDesc := { id := 0x0415, obj := .dpll, bytes := 8, signed := true, surv := .warm }
/-- R178: `ho_te_coeff`, u32[3], R173; default 0. -/
def Attr.dpll_ho_te_coeff : AttrDesc := { id := 0x0416, obj := .dpll, bytes := 4, count := 3, array := true, surv := .warm }
/-- R178: `ho_te_est`, u64, 0 to 2^64 − 1 (ps); default 0. -/
def Attr.dpll_ho_te_est : AttrDesc := { id := 0x0417, obj := .dpll, bytes := 8, surv := .volatile }
/-- R178: `ho_elapsed`, u32, 0 to 2^32 − 1 (s); default 0. -/
def Attr.dpll_ho_elapsed : AttrDesc := { id := 0x0418, obj := .dpll, bytes := 4, surv := .volatile }
/-- R178: `ledger_gaps`, u32, 0 to 2^32 − 1; default 0. -/
def Attr.dpll_ledger_gaps : AttrDesc := { id := 0x0419, obj := .dpll, bytes := 4, surv := .volatile }
/-- R178: `state_since`, u64, counter value; no default stated. -/
def Attr.dpll_state_since : AttrDesc := { id := 0x041A, obj := .dpll, bytes := 8, surv := .volatile }
/-- R207: `syn_enable`, bool, 0, 1; default 0. -/
def Attr.syn_enable : AttrDesc := { id := 0x0500, obj := .syn, mode := .rw, hi := 1, surv := .stored }
/-- R207: `dpll`, u8, 0 to 15; 0xFF = NONE; default n. -/
def Attr.syn_dpll : AttrDesc := { id := 0x0501, obj := .syn, mode := .rw, hi := 15, also := [255], surv := .stored, dflt := fun i _ => (i : Int) }
/-- R207: `vco_num`, u32, 1 to 4,294,967,295; default 625. -/
def Attr.syn_vco_num : AttrDesc := { id := 0x0502, obj := .syn, bytes := 4, mode := .rw, lo := 1, hi := 4294967295, surv := .stored, dflt := fun _ _ => 625 }
/-- R207: `vco_den`, u32, 1 to 4,294,967,295; default 27. -/
def Attr.syn_vco_den : AttrDesc := { id := 0x0503, obj := .syn, bytes := 4, mode := .rw, lo := 1, hi := 4294967295, surv := .stored, dflt := fun _ _ => 27 }
/-- R207: `dpll_active`, u8, 0 to 15; 0xFF; default n. -/
def Attr.syn_dpll_active : AttrDesc := { id := 0x0504, obj := .syn, surv := .warm, dflt := fun i _ => (i : Int) }
/-- R207: `vco_active`, u64, 10,800,000,000,000 to 12,960,000,000,000 (mHz); default 12,500,000,000,000. -/
def Attr.syn_vco_active : AttrDesc := { id := 0x0505, obj := .syn, bytes := 8, surv := .warm, dflt := fun _ _ => 12500000000000 }
/-- R207: `syn_state`, enum, OFF, CALIBRATING, LOCKED, RETUNING, UNLOCKED; default OFF. -/
def Attr.syn_state : AttrDesc := { id := 0x0506, obj := .syn, surv := .volatile }
/-- R207: `tune_margin`, u8, 0 to 100 (%); no default stated. -/
def Attr.syn_tune_margin : AttrDesc := { id := 0x0507, obj := .syn, surv := .volatile }
/-- R207: `tap_users`, u8, bit p = ETHp; default 0. -/
def Attr.syn_tap_users : AttrDesc := { id := 0x0508, obj := .syn, surv := .volatile }
/-- R207: `commit_slots`, u8[8], 0 IDLE, 1 ARMED, 2 APPLIED, 3 CANCELLED; default 0. -/
def Attr.syn_commit_slots : AttrDesc := { id := 0x0509, obj := .syn, count := 8, array := true, shared := true, surv := .volatile }
/-- R207: `commit_late`, u32, 0 to 2^32 − 1; default 0. -/
def Attr.syn_commit_late : AttrDesc := { id := 0x050A, obj := .syn, bytes := 4, shared := true, surv := .volatile }
/-- R207: `retunes`, u32, 0 to 2^32 − 1; default 0. -/
def Attr.syn_retunes : AttrDesc := { id := 0x050B, obj := .syn, bytes := 4, surv := .volatile }
/-- R209: `enable`, bool, 0, 1; default 0. -/
def Attr.output_enable : AttrDesc := { id := 0x0580, obj := .output, mode := .rw, hi := 1, surv := .stored }
/-- R209: `out_mode`, enum, CLOCK, PULSE; default CLOCK. -/
def Attr.output_out_mode : AttrDesc := { id := 0x0581, obj := .output, mode := .rw, hi := 1, surv := .stored }
/-- R209: `divider`, u32, 1 to 16,777,216; default 80. -/
def Attr.output_divider : AttrDesc := { id := 0x0582, obj := .output, bytes := 4, mode := .rw, lo := 1, hi := 16777216, surv := .stored, dflt := fun _ _ => 80 }
/-- R209: `divider_active`, u32, 1 to 16,777,216; default 80. -/
def Attr.output_divider_active : AttrDesc := { id := 0x0583, obj := .output, bytes := 4, surv := .warm, dflt := fun _ _ => 80 }
/-- R209: `freq_active`, u64, 0 to 1.6 × 10^15 (µHz); no default stated. -/
def Attr.output_freq_active : AttrDesc := { id := 0x0584, obj := .output, bytes := 8, surv := .warm }
/-- R209: `pulse_num`, u32, 1 to 1,000; default 1. -/
def Attr.output_pulse_num : AttrDesc := { id := 0x0585, obj := .output, bytes := 4, mode := .rw, lo := 1, hi := 1000, surv := .stored, dflt := fun _ _ => 1 }
/-- R209: `pulse_den`, u32, 1 to 2; default 1. -/
def Attr.output_pulse_den : AttrDesc := { id := 0x0586, obj := .output, bytes := 4, mode := .rw, lo := 1, hi := 2, surv := .stored, dflt := fun _ _ => 1 }
/-- R209: `pulse_width`, u32, 1 to 1,999,999,999 (ns); default 100,000. -/
def Attr.output_pulse_width : AttrDesc := { id := 0x0587, obj := .output, bytes := 4, mode := .rw, lo := 1, hi := 1999999999, surv := .stored, dflt := fun _ _ => 100000 }
/-- R209: `pulse_offset`, interval, ± half the pulse period; default 0. -/
def Attr.output_pulse_offset : AttrDesc := { id := 0x0588, obj := .output, bytes := 8, signed := true, mode := .rw, lo := -9223372036854775808, hi := 9223372036854775807, surv := .stored }
/-- R209: `coarse_delay`, u16, 0 to 4,095 (VCO half-periods); default 0. -/
def Attr.output_coarse_delay : AttrDesc := { id := 0x0589, obj := .output, bytes := 2, mode := .rw, hi := 4095, surv := .stored }
/-- R209: `fine_phase`, u16, 0 to 2,047 (T_VCO / 2048); default 0. -/
def Attr.output_fine_phase : AttrDesc := { id := 0x058A, obj := .output, bytes := 2, mode := .rw, hi := 2047, surv := .stored }
/-- R209: `phase_remaining`, interval, ±140,737 s; default 0. -/
def Attr.output_phase_remaining : AttrDesc := { id := 0x058B, obj := .output, bytes := 8, signed := true, surv := .volatile }
/-- R209: `driver`, enum, LVDS, HCSL, CML, LVPECL, LVCMOS_PAIR; default LVDS. -/
def Attr.output_driver : AttrDesc := { id := 0x058C, obj := .output, mode := .rw, hi := 4, surv := .stored }
/-- R209: `cmos_polarity`, enum, IN_PHASE, COMPLEMENT; default IN_PHASE. -/
def Attr.output_cmos_polarity : AttrDesc := { id := 0x058D, obj := .output, mode := .rw, hi := 1, surv := .stored }
/-- R209: `safe_action`, enum, SQUELCH_LOW, SQUELCH_HIZ; default SQUELCH_LOW. -/
def Attr.output_safe_action : AttrDesc := { id := 0x058E, obj := .output, mode := .rw, hi := 1, surv := .stored }
/-- R209: `run_cond`, enum, ALWAYS, HAS_LOCKED, LOCKED_OR_HOLDOVER, LOCKED; default ALWAYS. -/
def Attr.output_run_cond : AttrDesc := { id := 0x058F, obj := .output, mode := .rw, hi := 3, surv := .stored }
/-- R209: `out_state`, enum, DISABLED, STARTING, RUNNING, GATED, SAFE; default DISABLED. -/
def Attr.output_out_state : AttrDesc := { id := 0x0590, obj := .output, surv := .volatile }
/-- R209: `aligned`, bool, 0, 1; default 0. -/
def Attr.output_aligned : AttrDesc := { id := 0x0591, obj := .output, surv := .volatile }
/-- R209: `driver_fault`, bool, 0, 1; default 0. -/
def Attr.output_driver_fault : AttrDesc := { id := 0x0592, obj := .output, surv := .volatile }
/-- R209: `safe_entries`, u32, 0 to 2^32 − 1; default 0. -/
def Attr.output_safe_entries : AttrDesc := { id := 0x0593, obj := .output, bytes := 4, surv := .volatile }
/-- R246: `lehr_rate`, u8, 1 to 100 (0.1 ppm); default 20. -/
def Attr.output_lehr_rate : AttrDesc := { id := 0x0594, obj := .output, mode := .rw, lo := 1, hi := 100, surv := .stored, dflt := fun _ _ => 20 }
/-- R246: `lehr_state`, enum, ALIGNED, SLEWING; default ALIGNED. -/
def Attr.output_lehr_state : AttrDesc := { id := 0x0595, obj := .output, surv := .volatile }
/-- R246: `lehr_remaining`, interval, ± half the pulse period; default 0. -/
def Attr.output_lehr_remaining : AttrDesc := { id := 0x0596, obj := .output, bytes := 8, signed := true, surv := .warm }
/-- R246: `lehr_eta`, u32, 0 to 2^32 − 1 (s); default 0. -/
def Attr.output_lehr_eta : AttrDesc := { id := 0x0597, obj := .output, bytes := 4, surv := .volatile }
/-- R246: `lehr_moves`, u32, 0 to 2^32 − 1; default 0. -/
def Attr.output_lehr_moves : AttrDesc := { id := 0x0598, obj := .output, bytes := 4, surv := .volatile }
/-- R76: `state`, enum, FREE, CREATED; default R71. -/
def Attr.domain_state : AttrDesc := { id := 0x0600, obj := .domain, surv := .stored, dflt := fun i _ => if i = 0 then 1 else 0 }
/-- R76: `owner_client`, u16, 0 to 511; default 0. -/
def Attr.domain_owner_client : AttrDesc := { id := 0x0601, obj := .domain, bytes := 2, surv := .stored }
/-- R76: `timescale`, enum, PTP, ARB; default PTP. -/
def Attr.domain_timescale : AttrDesc := { id := 0x0602, obj := .domain, mode := .rw, hi := 1, surv := .stored }
/-- R76: `bound_dpll`, u8, 0 to 15; 0xFF = none; default 0xFF. -/
def Attr.domain_bound_dpll : AttrDesc := { id := 0x0603, obj := .domain, surv := .stored, dflt := fun _ _ => 255 }
/-- R76: `servo_mode`, enum, AUTO, MANUAL; default AUTO. -/
def Attr.domain_servo_mode : AttrDesc := { id := 0x0604, obj := .domain, mode := .rw, hi := 1, surv := .stored }
/-- R76: `time_status`, enum, UNSET, SET, TRACKING, HOLDOVER; default UNSET. -/
def Attr.domain_time_status : AttrDesc := { id := 0x0605, obj := .domain, surv := .volatile }
/-- R76: `time_now`, time, no range stated; no default stated. -/
def Attr.domain_time_now : AttrDesc := { id := 0x0606, obj := .domain, bytes := 16, surv := .volatile }
/-- R76: `offset_word`, time, no range stated; no default stated. -/
def Attr.domain_offset_word : AttrDesc := { id := 0x0607, obj := .domain, bytes := 16, surv := .warm }
/-- R76: `anchor`, u64, no range stated; no default stated. -/
def Attr.domain_anchor : AttrDesc := { id := 0x0608, obj := .domain, bytes := 8, surv := .warm }
/-- R76: `period_word`, u64, no range stated; default P_nom. -/
def Attr.domain_period_word : AttrDesc := { id := 0x0609, obj := .domain, bytes := 8, surv := .warm, dflt := fun _ _ => 208499982748634 }
/-- R76: `freq_adj`, s32, ±2,147,483,647 (ppt); default 0. -/
def Attr.domain_freq_adj : AttrDesc := { id := 0x060A, obj := .domain, bytes := 4, signed := true, surv := .warm }
/-- R76: `slew_remaining`, interval, ±140,737 s; default 0. -/
def Attr.domain_slew_remaining : AttrDesc := { id := 0x060B, obj := .domain, bytes := 8, signed := true, surv := .warm }
/-- R76: `slew_rate`, u32, 1,000 to 1,000,000,000 (ppt); default 500,000,000. -/
def Attr.domain_slew_rate : AttrDesc := { id := 0x060C, obj := .domain, bytes := 4, mode := .rw, lo := 1000, hi := 1000000000, surv := .stored, dflt := fun _ _ => 500000000 }
/-- R76: `utc_offset`, s16, −32,768 to 32,767 (s); default 37 for PTP; 0 for ARB. -/
def Attr.domain_utc_offset : AttrDesc := { id := 0x060D, obj := .domain, bytes := 2, signed := true, mode := .rw, lo := -32768, hi := 32767, surv := .stored, dflt := fun _ _ => 37 }
/-- R76: `utc_source`, enum, COMMAND, LEARNED; default LEARNED. -/
def Attr.domain_utc_source : AttrDesc := { id := 0x060E, obj := .domain, mode := .rw, hi := 1, surv := .stored, dflt := fun _ _ => 1 }
/-- R76: `leap_state`, enum, NONE, INSERT, DELETE; default NONE. -/
def Attr.domain_leap_state : AttrDesc := { id := 0x060F, obj := .domain, surv := .warm }
/-- R76: `leap_day`, date, 1970-01-01 to 9999-12-31; no default stated. -/
def Attr.domain_leap_day : AttrDesc := { id := 0x0610, obj := .domain, bytes := 4, surv := .warm, dflt := fun _ _ => 16844722 }
/-- R76: `leap_origin`, enum, COMMAND, LEARNED; no default stated. -/
def Attr.domain_leap_origin : AttrDesc := { id := 0x0611, obj := .domain, surv := .warm }
/-- R76: `leap_disagree`, bool, 0, 1; default 0. -/
def Attr.domain_leap_disagree : AttrDesc := { id := 0x0612, obj := .domain, surv := .volatile }
/-- R76: `quality_mode`, enum, AUTO, FIXED; default AUTO. -/
def Attr.domain_quality_mode : AttrDesc := { id := 0x0613, obj := .domain, mode := .rw, hi := 1, surv := .stored }
/-- R76: `clock_class`, u8, 0 to 255; default 248. -/
def Attr.domain_clock_class : AttrDesc := { id := 0x0614, obj := .domain, mode := .rw, hi := 255, surv := .stored, dflt := fun _ _ => 248 }
/-- R76: `clock_accuracy`, u8, 0x00 to 0xFF; default 0xFE. -/
def Attr.domain_clock_accuracy : AttrDesc := { id := 0x0615, obj := .domain, mode := .rw, hi := 255, surv := .stored, dflt := fun _ _ => 254 }
/-- R76: `clock_variance`, u16, 0x0000 to 0xFFFF; default 0xFFFF. -/
def Attr.domain_clock_variance : AttrDesc := { id := 0x0616, obj := .domain, bytes := 2, mode := .rw, hi := 65535, surv := .stored, dflt := fun _ _ => 65535 }
/-- R76: `time_source`, u8, 0x00 to 0xFF; default 0xA0. -/
def Attr.domain_time_source : AttrDesc := { id := 0x0617, obj := .domain, mode := .rw, hi := 255, surv := .stored, dflt := fun _ _ => 160 }
/-- R76: `tz_base_offset`, s32, −50,400 to 50,400 (s), multiple of 60; default 0. -/
def Attr.domain_tz_base_offset : AttrDesc := { id := 0x0618, obj := .domain, bytes := 4, signed := true, mode := .rw, lo := -50400, hi := 50400, step := 60, surv := .stored }
/-- R76: `tz_base_dst`, bool, 0, 1; default 0. -/
def Attr.domain_tz_base_dst : AttrDesc := { id := 0x0619, obj := .domain, mode := .rw, hi := 1, surv := .stored }
/-- R76: `tz_base_code`, u8, 0x00 to 0x3F; default 0x00. -/
def Attr.domain_tz_base_code : AttrDesc := { id := 0x061A, obj := .domain, mode := .rw, hi := 63, surv := .stored }
/-- R76: `tz_table`, tz entry[32], R83; default empty. -/
def Attr.domain_tz_table : AttrDesc := { id := 0x061B, obj := .domain, bytes := 16, count := 32, array := true, surv := .stored }
/-- R76: `tz_count`, u8, 0 to 32; default 0. -/
def Attr.domain_tz_count : AttrDesc := { id := 0x061C, obj := .domain, surv := .stored }
/-- R76: `local_offset_now`, s32, −50,400 to 50,400 (s); no default stated. -/
def Attr.domain_local_offset_now : AttrDesc := { id := 0x061D, obj := .domain, bytes := 4, signed := true, surv := .volatile }
/-- R76: `date_valid`, bool, 0, 1; no default stated. -/
def Attr.domain_date_valid : AttrDesc := { id := 0x061E, obj := .domain, surv := .volatile }
/-- R76: `update_refusals`, u32, 0 to 2^32 − 1; default 0. -/
def Attr.domain_update_refusals : AttrDesc := { id := 0x061F, obj := .domain, bytes := 4, surv := .volatile }
/-- R76: `steps`, u32, 0 to 2^32 − 1; default 0. -/
def Attr.domain_steps : AttrDesc := { id := 0x0620, obj := .domain, bytes := 4, surv := .volatile }
/-- R241: `enable`, bool, 0, 1; default 0. -/
def Attr.vidgen_enable : AttrDesc := { id := 0x0700, obj := .vidgen, mode := .rw, hi := 1, surv := .stored }
/-- R241: `domain`, u16, 0 to 511; default 0. -/
def Attr.vidgen_domain : AttrDesc := { id := 0x0701, obj := .vidgen, bytes := 2, mode := .rw, hi := 511, surv := .stored }
/-- R241: `run_cond`, enum, ALWAYS, HAS_LOCKED, LOCKED_OR_HOLDOVER, LOCKED; default ALWAYS. -/
def Attr.vidgen_run_cond : AttrDesc := { id := 0x0702, obj := .vidgen, mode := .rw, hi := 3, surv := .stored }
/-- R241: `start_cond`, enum, ON_TIME_SET, IMMEDIATE; default ON_TIME_SET. -/
def Attr.vidgen_start_cond : AttrDesc := { id := 0x0703, obj := .vidgen, mode := .rw, hi := 1, surv := .stored }
/-- R241: `gen_state`, enum, DISABLED, WAITING, RUNNING, GATED, SAFE, STOPPED; default DISABLED. -/
def Attr.vidgen_gen_state : AttrDesc := { id := 0x0704, obj := .vidgen, surv := .volatile }
/-- R241: `lehr_rate`, u8, 1 to 100 (0.1 ppm); default 20. -/
def Attr.vidgen_lehr_rate : AttrDesc := { id := 0x0705, obj := .vidgen, mode := .rw, lo := 1, hi := 100, surv := .stored, dflt := fun _ _ => 20 }
/-- R241: `lehr_state`, enum, ALIGNED, SLEWING; default ALIGNED. -/
def Attr.vidgen_lehr_state : AttrDesc := { id := 0x0706, obj := .vidgen, surv := .volatile }
/-- R241: `lehr_remaining`, interval, ± S/2; default 0. -/
def Attr.vidgen_lehr_remaining : AttrDesc := { id := 0x0707, obj := .vidgen, bytes := 8, signed := true, surv := .warm }
/-- R241: `lehr_eta`, u32, 0 to 2^32 − 1 (s); default 0. -/
def Attr.vidgen_lehr_eta : AttrDesc := { id := 0x0708, obj := .vidgen, bytes := 4, surv := .volatile }
/-- R241: `lehr_moves`, u32, 0 to 2^32 − 1; default 0. -/
def Attr.vidgen_lehr_moves : AttrDesc := { id := 0x0709, obj := .vidgen, bytes := 4, surv := .volatile }
/-- R242: `vid_format`, enum, R219; default BB_625_50. -/
def Attr.vidgen_vid_format : AttrDesc := { id := 0x0710, obj := .vidgen, mode := .rw, lo := 1, hi := 16, surv := .stored, dflt := fun _ _ => 2 }
/-- R242: `vid_offset`, s32, ± one frame (0.1 ns); default 0. -/
def Attr.vidgen_vid_offset : AttrDesc := { id := 0x0711, obj := .vidgen, bytes := 4, signed := true, mode := .rw, lo := -2147483648, hi := 2147483647, surv := .stored }
/-- R242: `bb_setup`, bool, 0, 1; default 0. -/
def Attr.vidgen_bb_setup : AttrDesc := { id := 0x0712, obj := .vidgen, mode := .rw, hi := 1, surv := .stored }
/-- R242: `tenfield_id`, bool, 0, 1; default 1. -/
def Attr.vidgen_tenfield_id : AttrDesc := { id := 0x0713, obj := .vidgen, mode := .rw, hi := 1, surv := .stored, dflt := fun _ _ => 1 }
/-- R242: `format_active`, enum, R219; no default stated. -/
def Attr.vidgen_format_active : AttrDesc := { id := 0x0714, obj := .vidgen, surv := .warm, dflt := fun _ _ => 2 }
/-- R242: `out_fault`, bool, 0, 1; default 0. -/
def Attr.vidgen_out_fault : AttrDesc := { id := 0x0715, obj := .vidgen, surv := .volatile }
/-- R241: `enable`, bool, 0, 1; default 0. -/
def Attr.audgen_enable : AttrDesc := { id := 0x0740, obj := .audgen, mode := .rw, hi := 1, surv := .stored }
/-- R241: `domain`, u16, 0 to 511; default 0. -/
def Attr.audgen_domain : AttrDesc := { id := 0x0741, obj := .audgen, bytes := 2, mode := .rw, hi := 511, surv := .stored }
/-- R241: `run_cond`, enum, ALWAYS, HAS_LOCKED, LOCKED_OR_HOLDOVER, LOCKED; default ALWAYS. -/
def Attr.audgen_run_cond : AttrDesc := { id := 0x0742, obj := .audgen, mode := .rw, hi := 3, surv := .stored }
/-- R241: `start_cond`, enum, ON_TIME_SET, IMMEDIATE; default ON_TIME_SET. -/
def Attr.audgen_start_cond : AttrDesc := { id := 0x0743, obj := .audgen, mode := .rw, hi := 1, surv := .stored }
/-- R241: `gen_state`, enum, DISABLED, WAITING, RUNNING, GATED, SAFE, STOPPED; default DISABLED. -/
def Attr.audgen_gen_state : AttrDesc := { id := 0x0744, obj := .audgen, surv := .volatile }
/-- R241: `lehr_rate`, u8, 1 to 100 (0.1 ppm); default 20. -/
def Attr.audgen_lehr_rate : AttrDesc := { id := 0x0745, obj := .audgen, mode := .rw, lo := 1, hi := 100, surv := .stored, dflt := fun _ _ => 20 }
/-- R241: `lehr_state`, enum, ALIGNED, SLEWING; default ALIGNED. -/
def Attr.audgen_lehr_state : AttrDesc := { id := 0x0746, obj := .audgen, surv := .volatile }
/-- R241: `lehr_remaining`, interval, ± S/2; default 0. -/
def Attr.audgen_lehr_remaining : AttrDesc := { id := 0x0747, obj := .audgen, bytes := 8, signed := true, surv := .warm }
/-- R241: `lehr_eta`, u32, 0 to 2^32 − 1 (s); default 0. -/
def Attr.audgen_lehr_eta : AttrDesc := { id := 0x0748, obj := .audgen, bytes := 4, surv := .volatile }
/-- R241: `lehr_moves`, u32, 0 to 2^32 − 1; default 0. -/
def Attr.audgen_lehr_moves : AttrDesc := { id := 0x0749, obj := .audgen, bytes := 4, surv := .volatile }
/-- R243: `aud_rate`, u32, 32,000; 44,100; 48,000; 88,200; 96,000; 176,400; 192,000 (Hz); default 48,000. -/
def Attr.audgen_aud_rate : AttrDesc := { id := 0x0750, obj := .audgen, bytes := 4, mode := .rw, only := [32000, 44100, 48000, 88200, 96000, 176400, 192000], surv := .stored, dflt := fun _ _ => 48000 }
/-- R243: `aes_tod_code`, bool, 0, 1; default 1. -/
def Attr.audgen_aes_tod_code : AttrDesc := { id := 0x0751, obj := .audgen, mode := .rw, hi := 1, surv := .stored, dflt := fun _ _ => 1 }
/-- R243: `aes_grade`, enum, GRADE1, GRADE2; default GRADE2. -/
def Attr.audgen_aes_grade : AttrDesc := { id := 0x0752, obj := .audgen, surv := .volatile, dflt := fun _ _ => 1 }
/-- R243: `out_fault`, bool, 0, 1; default 0. -/
def Attr.audgen_out_fault : AttrDesc := { id := 0x0753, obj := .audgen, surv := .volatile }
/-- R241: `enable`, bool, 0, 1; default 0. -/
def Attr.tcgen_enable : AttrDesc := { id := 0x0780, obj := .tcgen, mode := .rw, hi := 1, surv := .stored }
/-- R241: `domain`, u16, 0 to 511; default 0. -/
def Attr.tcgen_domain : AttrDesc := { id := 0x0781, obj := .tcgen, bytes := 2, mode := .rw, hi := 511, surv := .stored }
/-- R241: `run_cond`, enum, ALWAYS, HAS_LOCKED, LOCKED_OR_HOLDOVER, LOCKED; default ALWAYS. -/
def Attr.tcgen_run_cond : AttrDesc := { id := 0x0782, obj := .tcgen, mode := .rw, hi := 3, surv := .stored }
/-- R241: `start_cond`, enum, ON_TIME_SET, IMMEDIATE; default ON_TIME_SET. -/
def Attr.tcgen_start_cond : AttrDesc := { id := 0x0783, obj := .tcgen, mode := .rw, hi := 1, surv := .stored }
/-- R241: `gen_state`, enum, DISABLED, WAITING, RUNNING, GATED, SAFE, STOPPED; default DISABLED. -/
def Attr.tcgen_gen_state : AttrDesc := { id := 0x0784, obj := .tcgen, surv := .volatile }
/-- R241: `lehr_rate`, u8, 1 to 100 (0.1 ppm); default 20. -/
def Attr.tcgen_lehr_rate : AttrDesc := { id := 0x0785, obj := .tcgen, mode := .rw, lo := 1, hi := 100, surv := .stored, dflt := fun _ _ => 20 }
/-- R241: `lehr_state`, enum, ALIGNED, SLEWING; default ALIGNED. -/
def Attr.tcgen_lehr_state : AttrDesc := { id := 0x0786, obj := .tcgen, surv := .volatile }
/-- R241: `lehr_remaining`, interval, ± S/2; default 0. -/
def Attr.tcgen_lehr_remaining : AttrDesc := { id := 0x0787, obj := .tcgen, bytes := 8, signed := true, surv := .warm }
/-- R241: `lehr_eta`, u32, 0 to 2^32 − 1 (s); default 0. -/
def Attr.tcgen_lehr_eta : AttrDesc := { id := 0x0788, obj := .tcgen, bytes := 4, surv := .volatile }
/-- R241: `lehr_moves`, u32, 0 to 2^32 − 1; default 0. -/
def Attr.tcgen_lehr_moves : AttrDesc := { id := 0x0789, obj := .tcgen, bytes := 4, surv := .volatile }
/-- R244: `tc_rate`, enum, 24, 25, 29.97_DF, 29.97_NDF, 30; default 25. -/
def Attr.tcgen_tc_rate : AttrDesc := { id := 0x0790, obj := .tcgen, mode := .rw, hi := 4, surv := .stored, dflt := fun _ _ => 1 }
/-- R244: `tc_timebase`, enum, LOCAL, UTC; default LOCAL. -/
def Attr.tcgen_tc_timebase : AttrDesc := { id := 0x0791, obj := .tcgen, mode := .rw, hi := 1, surv := .stored }
/-- R244: `tc_date`, enum, ST309, NONE; default ST309. -/
def Attr.tcgen_tc_date : AttrDesc := { id := 0x0792, obj := .tcgen, mode := .rw, hi := 1, surv := .stored }
/-- R244: `tc_offset`, s32, ± half a frame (0.1 ns); default 0. -/
def Attr.tcgen_tc_offset : AttrDesc := { id := 0x0793, obj := .tcgen, bytes := 4, signed := true, mode := .rw, lo := -2147483648, hi := 2147483647, surv := .stored }
/-- R244: `jam_time`, u32, 0 to 86,399 (s of day); default 0. -/
def Attr.tcgen_jam_time : AttrDesc := { id := 0x0794, obj := .tcgen, bytes := 4, mode := .rw, hi := 86399, surv := .stored }
/-- R244: `leap_flag`, enum, TZ_BIT6, NONE; default TZ_BIT6. -/
def Attr.tcgen_leap_flag : AttrDesc := { id := 0x0795, obj := .tcgen, mode := .rw, hi := 1, surv := .stored }
/-- R244: `tc_address`, u32, [31:24] hh, [23:16] mm, [15:8] ss, [7:0] ff, BCD; no default stated. -/
def Attr.tcgen_tc_address : AttrDesc := { id := 0x0796, obj := .tcgen, bytes := 4, surv := .volatile }
/-- R244: `tc_date_now`, u32, [23:0] YYMMDD BCD; no default stated. -/
def Attr.tcgen_tc_date_now : AttrDesc := { id := 0x0797, obj := .tcgen, bytes := 4, surv := .volatile }
/-- R244: `jam_count`, u32, 0 to 2^32 − 1; default 0. -/
def Attr.tcgen_jam_count : AttrDesc := { id := 0x0798, obj := .tcgen, bytes := 4, surv := .volatile }
/-- R244: `jam_last_delta`, s32, ±2,147,483,647 (frames); default 0. -/
def Attr.tcgen_jam_last_delta : AttrDesc := { id := 0x0799, obj := .tcgen, bytes := 4, signed := true, surv := .volatile }
/-- R244: `out_fault`, bool, 0, 1; default 0. -/
def Attr.tcgen_out_fault : AttrDesc := { id := 0x079A, obj := .tcgen, surv := .volatile }
/-- R241: `enable`, bool, 0, 1; default 0. -/
def Attr.todgen_enable : AttrDesc := { id := 0x07C0, obj := .todgen, mode := .rw, hi := 1, surv := .stored }
/-- R241: `domain`, u16, 0 to 511; default 0. -/
def Attr.todgen_domain : AttrDesc := { id := 0x07C1, obj := .todgen, bytes := 2, mode := .rw, hi := 511, surv := .stored }
/-- R241: `run_cond`, enum, ALWAYS, HAS_LOCKED, LOCKED_OR_HOLDOVER, LOCKED; default ALWAYS. -/
def Attr.todgen_run_cond : AttrDesc := { id := 0x07C2, obj := .todgen, mode := .rw, hi := 3, surv := .stored }
/-- R241: `start_cond`, enum, ON_TIME_SET, IMMEDIATE; default ON_TIME_SET. -/
def Attr.todgen_start_cond : AttrDesc := { id := 0x07C3, obj := .todgen, mode := .rw, hi := 1, surv := .stored }
/-- R241: `gen_state`, enum, DISABLED, WAITING, RUNNING, GATED, SAFE, STOPPED; default DISABLED. -/
def Attr.todgen_gen_state : AttrDesc := { id := 0x07C4, obj := .todgen, surv := .volatile }
/-- R241: `lehr_rate`, u8, 1 to 100 (0.1 ppm); default 20. -/
def Attr.todgen_lehr_rate : AttrDesc := { id := 0x07C5, obj := .todgen, mode := .rw, lo := 1, hi := 100, surv := .stored, dflt := fun _ _ => 20 }
/-- R241: `lehr_state`, enum, ALIGNED, SLEWING; default ALIGNED. -/
def Attr.todgen_lehr_state : AttrDesc := { id := 0x07C6, obj := .todgen, surv := .volatile }
/-- R241: `lehr_remaining`, interval, ± S/2; default 0. -/
def Attr.todgen_lehr_remaining : AttrDesc := { id := 0x07C7, obj := .todgen, bytes := 8, signed := true, surv := .warm }
/-- R241: `lehr_eta`, u32, 0 to 2^32 − 1 (s); default 0. -/
def Attr.todgen_lehr_eta : AttrDesc := { id := 0x07C8, obj := .todgen, bytes := 4, surv := .volatile }
/-- R241: `lehr_moves`, u32, 0 to 2^32 − 1; default 0. -/
def Attr.todgen_lehr_moves : AttrDesc := { id := 0x07C9, obj := .todgen, bytes := 4, surv := .volatile }
/-- R245: `tod_tx_protocol`, enum, G8271, NMEA; default G8271. -/
def Attr.todgen_tod_tx_protocol : AttrDesc := { id := 0x07D0, obj := .todgen, mode := .rw, hi := 1, surv := .stored }
/-- R245: `tod_tx_baud`, u32, 9,600; 19,200; 38,400; 57,600; 115,200; default 9,600. -/
def Attr.todgen_tod_tx_baud : AttrDesc := { id := 0x07D1, obj := .todgen, bytes := 4, mode := .rw, only := [9600, 19200, 38400, 57600, 115200], surv := .stored, dflt := fun _ _ => 9600 }
/-- R245: `tod_companion`, u8, 0 to 31; 0xFF = none; default 0xFF. -/
def Attr.todgen_tod_companion : AttrDesc := { id := 0x07D2, obj := .todgen, mode := .rw, hi := 31, also := [255], surv := .stored, dflt := fun _ _ => 255 }
/-- R245: `tod_tx_label`, enum, PRECEDING, FOLLOWING; default PRECEDING. -/
def Attr.todgen_tod_tx_label : AttrDesc := { id := 0x07D3, obj := .todgen, mode := .rw, hi := 1, surv := .stored }
/-- R245: `tod_tx_delay`, u16, 1 to 500 (ms); default 10. -/
def Attr.todgen_tod_tx_delay : AttrDesc := { id := 0x07D4, obj := .todgen, bytes := 2, mode := .rw, lo := 1, hi := 500, surv := .stored, dflt := fun _ _ => 10 }
/-- R245: `tod_quiet_limit`, u32, 1 to 1,000,000 (ns); default 1,000. -/
def Attr.todgen_tod_quiet_limit : AttrDesc := { id := 0x07D5, obj := .todgen, bytes := 4, mode := .rw, lo := 1, hi := 1000000, surv := .stored, dflt := fun _ _ => 1000 }
/-- R245: `tod_tx_state`, enum, IDLE, SENDING, QUIET; default IDLE. -/
def Attr.todgen_tod_tx_state : AttrDesc := { id := 0x07D6, obj := .todgen, surv := .volatile }
/-- R245: `tod_tx_count`, u32, 0 to 2^32 − 1; default 0. -/
def Attr.todgen_tod_tx_count : AttrDesc := { id := 0x07D7, obj := .todgen, bytes := 4, surv := .volatile }
/-- R245: `out_fault`, bool, 0, 1; default 0. -/
def Attr.todgen_out_fault : AttrDesc := { id := 0x07D8, obj := .todgen, surv := .volatile }
/-- R285: `enable`, bool, 0, 1; default 0. -/
def Attr.port_enable : AttrDesc := { id := 0x0800, obj := .port, mode := .rw, hi := 1, surv := .stored }
/-- R285: `speed`, enum, 10G, 25G, 50G, 100G; default 25G. -/
def Attr.port_speed : AttrDesc := { id := 0x0801, obj := .port, mode := .rw, hi := 3, surv := .stored, dflt := fun _ _ => 1 }
/-- R285: `fec`, enum, NONE, BASE_R, RS528, RS544; default RS528. -/
def Attr.port_fec : AttrDesc := { id := 0x0802, obj := .port, mode := .rw, hi := 3, surv := .stored, dflt := fun _ _ => 2 }
/-- R285: `link_state`, enum, DOWN, UP; default DOWN. -/
def Attr.port_link_state : AttrDesc := { id := 0x0803, obj := .port, surv := .volatile }
/-- R285: `tc_pair`, bool, 0, 1; default 0. -/
def Attr.port_tc_pair : AttrDesc := { id := 0x0804, obj := .port, mode := .rw, hi := 1, surv := .stored }
/-- R285: `ref_syn`, u8, 0 to 7; default 0. -/
def Attr.port_ref_syn : AttrDesc := { id := 0x0805, obj := .port, mode := .rw, hi := 7, surv := .stored }
/-- R285: `mac_addr`, u8[6], unicast; default factory block. -/
def Attr.port_mac_addr : AttrDesc := { id := 0x0806, obj := .port, count := 6, array := true, mode := .rw, hi := 255, surv := .stored, dflt := fun i e => Default.macByte i e }
/-- R285: `ipv4_addr`, u32, 0 = none; default 0. -/
def Attr.port_ipv4_addr : AttrDesc := { id := 0x0807, obj := .port, bytes := 4, mode := .rw, hi := 4294967295, surv := .stored }
/-- R285: `ipv4_prefix`, u8, 0 to 32; default 24. -/
def Attr.port_ipv4_prefix : AttrDesc := { id := 0x0808, obj := .port, mode := .rw, hi := 32, surv := .stored, dflt := fun _ _ => 24 }
/-- R285: `ipv4_gateway`, u32, 0 = none; default 0. -/
def Attr.port_ipv4_gateway : AttrDesc := { id := 0x0809, obj := .port, bytes := 4, mode := .rw, hi := 4294967295, surv := .stored }
/-- R285: `ipv6_addr`, u8[16], 0 = none; default 0. -/
def Attr.port_ipv6_addr : AttrDesc := { id := 0x080A, obj := .port, count := 16, array := true, mode := .rw, hi := 255, surv := .stored }
/-- R285: `ipv6_gateway`, u8[16], 0 = none; default 0. -/
def Attr.port_ipv6_gateway : AttrDesc := { id := 0x080B, obj := .port, count := 16, array := true, mode := .rw, hi := 255, surv := .stored }
/-- R285: `vlan_id`, u16, 0 to 4,094; default 0. -/
def Attr.port_vlan_id : AttrDesc := { id := 0x080C, obj := .port, bytes := 2, mode := .rw, hi := 4094, surv := .stored }
/-- R285: `vlan_pcp`, u8, 0 to 7; default 7. -/
def Attr.port_vlan_pcp : AttrDesc := { id := 0x080D, obj := .port, mode := .rw, hi := 7, surv := .stored, dflt := fun _ _ => 7 }
/-- R285: `dscp`, u8, 0 to 63; default 46. -/
def Attr.port_dscp : AttrDesc := { id := 0x080E, obj := .port, mode := .rw, hi := 63, surv := .stored, dflt := fun _ _ => 46 }
/-- R285: `rx_latency_fact`, s32[8], ps; default factory. -/
def Attr.port_rx_latency_fact : AttrDesc := { id := 0x080F, obj := .port, bytes := 4, signed := true, count := 8, array := true, surv := .factory }
/-- R285: `tx_latency_fact`, s32[8], ps; default factory. -/
def Attr.port_tx_latency_fact : AttrDesc := { id := 0x0810, obj := .port, bytes := 4, signed := true, count := 8, array := true, surv := .factory }
/-- R285: `ext_rx_delay`, s32, ±1,000,000 (ps); default 0. -/
def Attr.port_ext_rx_delay : AttrDesc := { id := 0x0811, obj := .port, bytes := 4, signed := true, mode := .rw, lo := -1000000, hi := 1000000, surv := .stored }
/-- R285: `ext_tx_delay`, s32, ±1,000,000 (ps); default 0. -/
def Attr.port_ext_tx_delay : AttrDesc := { id := 0x0812, obj := .port, bytes := 4, signed := true, mode := .rw, lo := -1000000, hi := 1000000, surv := .stored }
/-- R285: `delay_asymmetry`, s32, ±1,000,000 (ps); default 0. -/
def Attr.port_delay_asymmetry : AttrDesc := { id := 0x0813, obj := .port, bytes := 4, signed := true, mode := .rw, lo := -1000000, hi := 1000000, surv := .stored }
/-- R285: `bindings`, entry[32], R272; default all invalid. -/
def Attr.port_bindings : AttrDesc := { id := 0x0814, obj := .port, bytes := 32, count := 32, array := true, surv := .stored, dflt := fun _ _ => 1883130808105068305578270479836846229040465605425032316583936 }
/-- R285: `binding_state`, u8[32], IEEE 1588 portState; no default stated. -/
def Attr.port_binding_state : AttrDesc := { id := 0x0815, obj := .port, count := 32, array := true, surv := .volatile }
/-- R285: `grant_budget`, u32, 1,000 to 4,200,000 (messages/s); default 1,200,000. -/
def Attr.port_grant_budget : AttrDesc := { id := 0x0816, obj := .port, bytes := 4, mode := .rw, lo := 1000, hi := 4200000, surv := .stored, dflt := fun _ _ => 1200000 }
/-- R285: `granted_rate`, u32, messages/s; default 0. -/
def Attr.port_granted_rate : AttrDesc := { id := 0x0817, obj := .port, bytes := 4, surv := .volatile }
/-- R285: `event_capacity`, u32, messages/s; default 4,200,000. -/
def Attr.port_event_capacity : AttrDesc := { id := 0x0818, obj := .port, bytes := 4, shared := true, surv := .volatile, dflt := fun _ _ => 4200000 }
/-- R285: `mcast_budget`, u32, 0 to 4,000,000 (messages/s); default 500,000. -/
def Attr.port_mcast_budget : AttrDesc := { id := 0x0819, obj := .port, bytes := 4, mode := .rw, hi := 4000000, surv := .stored, dflt := fun _ _ => 500000 }
/-- R285: `grant_refusals`, u32, 0 to 2^32 − 1; default 0. -/
def Attr.port_grant_refusals : AttrDesc := { id := 0x081A, obj := .port, bytes := 4, surv := .volatile }
/-- R285: `stateless_drops`, u32, 0 to 2^32 − 1; default 0. -/
def Attr.port_stateless_drops : AttrDesc := { id := 0x081B, obj := .port, bytes := 4, surv := .volatile }
/-- R285: `credits`, u16[4], 0 to 4,096; no default stated. -/
def Attr.port_credits : AttrDesc := { id := 0x081C, obj := .port, bytes := 2, count := 4, array := true, surv := .volatile }
/-- R285: `host_credit_limit`, u16, 0 to 2,048; default 1,024. -/
def Attr.port_host_credit_limit : AttrDesc := { id := 0x081D, obj := .port, bytes := 2, mode := .rw, hi := 2048, surv := .stored, dflt := fun _ _ => 1024 }
/-- R285: `late_launches`, u32, 0 to 2^32 − 1; default 0. -/
def Attr.port_late_launches : AttrDesc := { id := 0x081E, obj := .port, bytes := 4, surv := .volatile }
/-- R285: `tx_drops`, u32, 0 to 2^32 − 1; default 0. -/
def Attr.port_tx_drops : AttrDesc := { id := 0x081F, obj := .port, bytes := 4, surv := .volatile }
/-- R285: `transit_drops`, u32, 0 to 2^32 − 1; default 0. -/
def Attr.port_transit_drops : AttrDesc := { id := 0x0820, obj := .port, bytes := 4, surv := .volatile }
/-- R285: `transit_uncorrected`, u32, 0 to 2^32 − 1; default 0. -/
def Attr.port_transit_uncorrected : AttrDesc := { id := 0x0821, obj := .port, bytes := 4, surv := .volatile }
/-- R285: `rx_ignored`, u32, 0 to 2^32 − 1; default 0. -/
def Attr.port_rx_ignored : AttrDesc := { id := 0x0822, obj := .port, bytes := 4, surv := .volatile }
/-- R285: `auth_fail`, u32, 0 to 2^32 − 1; default 0. -/
def Attr.port_auth_fail : AttrDesc := { id := 0x0823, obj := .port, bytes := 4, surv := .volatile }
/-- R285: `key_slots`, u64[256], [7:0] SPP; [8] loaded; [9] ICV 32 B; [31:10] reserved; [63:32] keyID; default 0. -/
def Attr.port_key_slots : AttrDesc := { id := 0x0824, obj := .port, bytes := 8, count := 256, array := true, shared := true, surv := .stored }
/-- R285: `esmc_enable`, bool, 0, 1; default 0. -/
def Attr.port_esmc_enable : AttrDesc := { id := 0x0825, obj := .port, mode := .rw, hi := 1, surv := .stored }
/-- R285: `esmc_option`, enum, OPTION_I, OPTION_II; default OPTION_I. -/
def Attr.port_esmc_option : AttrDesc := { id := 0x0826, obj := .port, mode := .rw, hi := 1, surv := .stored }
/-- R285: `esmc_extended`, bool, 0, 1; default 0. -/
def Attr.port_esmc_extended : AttrDesc := { id := 0x0827, obj := .port, mode := .rw, hi := 1, surv := .stored }
/-- R285: `esmc_override`, u8, 0 to 15; 0xFF = none; default 0xFF. -/
def Attr.port_esmc_override : AttrDesc := { id := 0x0828, obj := .port, mode := .rw, hi := 15, also := [255], surv := .stored, dflt := fun _ _ => 255 }
/-- R285: `esmc_tx_ql`, u16, [7:0] SSM; [15:8] eSSM; no default stated. -/
def Attr.port_esmc_tx_ql : AttrDesc := { id := 0x0829, obj := .port, bytes := 2, surv := .volatile }
/-- R285: `hostq`, u32[64], [7:0] port; [17:8] client; [18] DROP policy; [19] assigned; default 0. -/
def Attr.port_hostq : AttrDesc := { id := 0x082A, obj := .port, bytes := 4, count := 64, array := true, shared := true, surv := .stored }
/-- R286: `sess_state`, enum, FREE, REQUESTING, GRANTED, RENEWING, BACKOFF; default FREE. -/
def Attr.session_sess_state : AttrDesc := { id := 0x0880, obj := .session, surv := .volatile }
/-- R286: `sess_role`, enum, GRANTOR, GRANTEE; no default stated. -/
def Attr.session_sess_role : AttrDesc := { id := 0x0881, obj := .session, surv := .volatile }
/-- R286: `sess_binding`, u16, [7:0] port; [15:8] slot; no default stated. -/
def Attr.session_sess_binding : AttrDesc := { id := 0x0882, obj := .session, bytes := 2, surv := .volatile }
/-- R286: `partner_addr`, u8[16], IPv4-mapped or IPv6; no default stated. -/
def Attr.session_partner_addr : AttrDesc := { id := 0x0883, obj := .session, count := 16, array := true, surv := .volatile }
/-- R286: `partner_port_id`, u8[10], portIdentity; no default stated. -/
def Attr.session_partner_port_id : AttrDesc := { id := 0x0884, obj := .session, count := 10, array := true, surv := .volatile }
/-- R286: `grant_log`, s8[3], profile range; no default stated. -/
def Attr.session_grant_log : AttrDesc := { id := 0x0885, obj := .session, signed := true, count := 3, array := true, surv := .volatile }
/-- R286: `grant_remaining`, u32[3], 0 to 1,000 (s); default 0. -/
def Attr.session_grant_remaining : AttrDesc := { id := 0x0886, obj := .session, bytes := 4, count := 3, array := true, surv := .volatile }
/-- R286: `sess_cost`, u32, messages/s; default 0. -/
def Attr.session_sess_cost : AttrDesc := { id := 0x0887, obj := .session, bytes := 4, surv := .volatile }
/-- R286: `tx_msgs`, u64, 0 to 2^64 − 1; default 0. -/
def Attr.session_tx_msgs : AttrDesc := { id := 0x0888, obj := .session, bytes := 8, surv := .volatile }
/-- R286: `rx_msgs`, u64, 0 to 2^64 − 1; default 0. -/
def Attr.session_rx_msgs : AttrDesc := { id := 0x0889, obj := .session, bytes := 8, surv := .volatile }
/-- R286: `rx_lost`, u32, 0 to 2^32 − 1; default 0. -/
def Attr.session_rx_lost : AttrDesc := { id := 0x088A, obj := .session, bytes := 4, surv := .volatile }
/-- R286: `retries`, u32, 0 to 2^32 − 1; default 0. -/
def Attr.session_retries : AttrDesc := { id := 0x088B, obj := .session, bytes := 4, surv := .volatile }
/-- R286: `late_completions`, u32, 0 to 2^32 − 1; default 0. -/
def Attr.session_late_completions : AttrDesc := { id := 0x088C, obj := .session, bytes := 4, surv := .volatile }
/-- R286: `grants_exhausted`, u32, 0 to 2^32 − 1; default 0. -/
def Attr.session_grants_exhausted : AttrDesc := { id := 0x088D, obj := .session, bytes := 4, surv := .volatile }
/-- R286: `refusals_rx`, u32, 0 to 2^32 − 1; default 0. -/
def Attr.session_refusals_rx : AttrDesc := { id := 0x088E, obj := .session, bytes := 4, surv := .volatile }
/-- R286: `sess_engine`, u16, [15:8] cluster; [7:0] engine; no default stated. -/
def Attr.session_sess_engine : AttrDesc := { id := 0x088F, obj := .session, bytes := 2, surv := .volatile }
/-- R286: `offset_from_master`, interval, ±140,737 s; default 0. -/
def Attr.session_offset_from_master : AttrDesc := { id := 0x0890, obj := .session, bytes := 8, signed := true, surv := .volatile }
/-- R286: `mean_path_delay`, interval, ±140,737 s; default 0. -/
def Attr.session_mean_path_delay : AttrDesc := { id := 0x0891, obj := .session, bytes := 8, signed := true, surv := .volatile }
/-- R308: `enable`, bool, 0, 1; default 0. -/
def Attr.tic_enable : AttrDesc := { id := 0x0900, obj := .tic, mode := .rw, hi := 1, surv := .stored }
/-- R308: `tic_mode`, enum, INTERVAL, PERIOD, FREQUENCY, PHASE; default INTERVAL. -/
def Attr.tic_mode : AttrDesc := { id := 0x0901, obj := .tic, mode := .rw, hi := 3, surv := .stored }
/-- R308: `src_a`, source, R291; default NONE. -/
def Attr.tic_src_a : AttrDesc := { id := 0x0902, obj := .tic, bytes := 4, mode := .rw, hi := 4294967295, surv := .stored }
/-- R308: `src_b`, source, R291; default NONE. -/
def Attr.tic_src_b : AttrDesc := { id := 0x0903, obj := .tic, bytes := 4, mode := .rw, hi := 4294967295, surv := .stored }
/-- R308: `tic_timebase`, enum, ENSEMBLE, OSC0, OSC1, OSC2, EXT; default ENSEMBLE. -/
def Attr.tic_timebase : AttrDesc := { id := 0x0904, obj := .tic, mode := .rw, hi := 4, surv := .stored }
/-- R308: `nominal_num`, u32, 1 to 4,000,000,000; default 10,000,000. -/
def Attr.tic_nominal_num : AttrDesc := { id := 0x0905, obj := .tic, bytes := 4, mode := .rw, lo := 1, hi := 4000000000, surv := .stored, dflt := fun _ _ => 10000000 }
/-- R308: `nominal_den`, u16, 1 to 65,535; default 1. -/
def Attr.tic_nominal_den : AttrDesc := { id := 0x0906, obj := .tic, bytes := 2, mode := .rw, lo := 1, hi := 65535, surv := .stored, dflt := fun _ _ => 1 }
/-- R308: `win_open`, u64, 0 to 1,999,999,999,999 (ps); default 0. -/
def Attr.tic_win_open : AttrDesc := { id := 0x0907, obj := .tic, bytes := 8, mode := .rw, hi := 1999999999999, surv := .stored }
/-- R308: `win_close`, u64, 1 to 2,000,000,000,000 (ps); default 1,000,000. -/
def Attr.tic_win_close : AttrDesc := { id := 0x0908, obj := .tic, bytes := 8, mode := .rw, lo := 1, hi := 2000000000000, surv := .stored, dflt := fun _ _ => 1000000 }
/-- R308: `avg_len`, u32, 1 to 1,048,576; default 1. -/
def Attr.tic_avg_len : AttrDesc := { id := 0x0909, obj := .tic, bytes := 4, mode := .rw, lo := 1, hi := 1048576, surv := .stored, dflt := fun _ _ => 1 }
/-- R308: `stat_len`, u32, 1 to 1,048,576; default 1,000. -/
def Attr.tic_stat_len : AttrDesc := { id := 0x090A, obj := .tic, bytes := 4, mode := .rw, lo := 1, hi := 1048576, surv := .stored, dflt := fun _ _ => 1000 }
/-- R308: `stat_include`, u16, bits [6:0] of the flag word; default 0. -/
def Attr.tic_stat_include : AttrDesc := { id := 0x090B, obj := .tic, bytes := 2, mode := .rw, hi := 127, surv := .stored }
/-- R308: `tic_state`, enum, DISABLED, RUNNING, NO_SOURCE; default DISABLED. -/
def Attr.tic_state : AttrDesc := { id := 0x090C, obj := .tic, surv := .volatile }
/-- R308: `stat_result`, 64 B, R305; default 0. -/
def Attr.tic_stat_result : AttrDesc := { id := 0x090D, obj := .tic, bytes := 64, surv := .volatile }
/-- R308: `last_sample`, 16 B, R303; default 0. -/
def Attr.tic_last_sample : AttrDesc := { id := 0x090E, obj := .tic, bytes := 16, surv := .volatile }
/-- R308: `samples`, u64, 0 to 2^64 − 1; default 0. -/
def Attr.tic_samples : AttrDesc := { id := 0x090F, obj := .tic, bytes := 8, surv := .volatile }
/-- R308: `stops_outside`, u32, 0 to 2^32 − 1; default 0. -/
def Attr.tic_stops_outside : AttrDesc := { id := 0x0910, obj := .tic, bytes := 4, surv := .volatile }
/-- R308: `starts_unmatched`, u32, 0 to 2^32 − 1; default 0. -/
def Attr.tic_starts_unmatched : AttrDesc := { id := 0x0911, obj := .tic, bytes := 4, surv := .volatile }
/-- R308: `stamps_missed`, u32, 0 to 2^32 − 1; default 0. -/
def Attr.tic_stamps_missed : AttrDesc := { id := 0x0912, obj := .tic, bytes := 4, surv := .volatile }
/-- R308: `free_used`, u16, bit c = free channel c; default 0. -/
def Attr.tic_free_used : AttrDesc := { id := 0x0913, obj := .tic, bytes := 2, shared := true, surv := .volatile }
/-- R447: `base_class`, enum, NOTICE, MINOR, MAJOR, SEVERE; default per source. -/
def Attr.fault_base_class : AttrDesc := { id := 0x0A00, obj := .fault, surv := .factory, dflt := fun i _ => (Ev.baseClass i : Int) }
/-- R447: `count_n`, u8, 0 to 255; 0 = off; default 1 for EV 112 + 4n and EV 113 + 4n (R203); 0 otherwise. -/
def Attr.fault_count_n : AttrDesc := { id := 0x0A01, obj := .fault, mode := .rw, hi := 255, surv := .stored, dflt := fun i _ => if Default.synFeedback i then 1 else 0 }
/-- R447: `count_w`, u32, 1 to 3,600,000 (ms); default 1 for EV 112 + 4n and EV 113 + 4n; 1,000 otherwise. -/
def Attr.fault_count_w : AttrDesc := { id := 0x0A02, obj := .fault, bytes := 4, mode := .rw, lo := 1, hi := 3600000, surv := .stored, dflt := fun i _ => if Default.synFeedback i then 1 else 1000 }
/-- R447: `escalate`, bool, 0, 1; default 1 for base NOTICE and MINOR; 0 otherwise. -/
def Attr.fault_escalate : AttrDesc := { id := 0x0A03, obj := .fault, mode := .rw, hi := 1, surv := .stored, dflt := fun i _ => if Ev.baseClass i ≤ 1 ∧ Ev.defined i then 1 else 0 }
/-- R447: `fault_state`, u16, [1:0] CLASS; [2] LATCHED; [3] ACKED; [4] CAUSE; [5] SAFE; [15:6] reserved; default 0. -/
def Attr.fault_state : AttrDesc := { id := 0x0A04, obj := .fault, bytes := 2, surv := .volatile }
/-- R447: `fault_count`, u32, 0 to 2^32 − 1; default 0. -/
def Attr.fault_count : AttrDesc := { id := 0x0A05, obj := .fault, bytes := 4, surv := .volatile }
/-- R447: `last_latch`, u64, counter value; default 0. -/
def Attr.fault_last_latch : AttrDesc := { id := 0x0A06, obj := .fault, bytes := 8, surv := .volatile }
/-- R447: `scope`, 80 B, R448; default per source. -/
def Attr.fault_scope : AttrDesc := { id := 0x0A07, obj := .fault, bytes := 80, surv := .volatile }
/-- R449: `int_class`, enum, MINOR, MAJOR, SEVERE; default MAJOR. -/
def Attr.fault_int_class : AttrDesc := { id := 0x0A10, obj := .fault, mode := .rw, hi := 2, shared := true, surv := .stored, dflt := fun _ _ => 1 }
/-- R449: `domain_policy`, u8[512], CONTINUE, CTRL_LOSS, HO_LIMIT, BOTH; default CONTINUE. -/
def Attr.fault_domain_policy : AttrDesc := { id := 0x0A11, obj := .fault, count := 512, array := true, mode := .rw, hi := 3, shared := true, surv := .stored }
/-- R449: `ctrl_loss_timeout`, u16, 1 to 3,600 (s); default 10. -/
def Attr.fault_ctrl_loss_timeout : AttrDesc := { id := 0x0A12, obj := .fault, bytes := 2, mode := .rw, lo := 1, hi := 3600, shared := true, surv := .stored, dflt := fun _ _ => 10 }
/-- R449: `alive_state`, enum, STATIC, FROZEN_SEVERE, FROZEN_FEED, FROZEN_HOST, TOGGLING; default STATIC. -/
def Attr.fault_alive_state : AttrDesc := { id := 0x0A13, obj := .fault, shared := true, surv := .volatile }
/-- R449: `severe_latched`, u16, 0 to 640; default 0. -/
def Attr.fault_severe_latched : AttrDesc := { id := 0x0A14, obj := .fault, bytes := 2, shared := true, surv := .volatile }
/-- R449: `inject_pending`, u8, bit c = checker c, c = 0 to 4; default 0. -/
def Attr.fault_inject_pending : AttrDesc := { id := 0x0A15, obj := .fault, shared := true, surv := .volatile }
/-- R499: `store_state`, enum, IDLE, STORING, POWER_FAIL, ERASING; default IDLE. -/
def Attr.store_state : AttrDesc := { id := 0x0B00, obj := .store, surv := .volatile }
/-- R499: `page_state`, u8[1024], [1:0] page class as CLASS; [2] DIRTY; [3] busy; [4] current slot B; [5] one valid slot; [7:6] reserved; no default stated. -/
def Attr.store_page_state : AttrDesc := { id := 0x0B01, obj := .store, count := 1024, array := true, surv := .volatile }
/-- R499: `dirty_count`, u16[2], 0 to 1,024; default 0. -/
def Attr.store_dirty_count : AttrDesc := { id := 0x0B02, obj := .store, bytes := 2, count := 2, array := true, surv := .volatile }
/-- R499: `dirty_limit`, u16, 0 to 252; default 252. -/
def Attr.store_dirty_limit : AttrDesc := { id := 0x0B03, obj := .store, bytes := 2, surv := .volatile, dflt := fun _ _ => 252 }
/-- R499: `holdup_ms`, u16, 0 to 1,000 (ms); no default stated. -/
def Attr.store_holdup_ms : AttrDesc := { id := 0x0B04, obj := .store, bytes := 2, surv := .volatile }
/-- R499: `store_delay`, u16, 1 to 3,600 (s); default 60. -/
def Attr.store_delay : AttrDesc := { id := 0x0B05, obj := .store, bytes := 2, mode := .rw, lo := 1, hi := 3600, surv := .stored, dflt := fun _ _ => 60 }
/-- R499: `dirty_waits`, u32, 0 to 2^32 − 1; default 0. -/
def Attr.store_dirty_waits : AttrDesc := { id := 0x0B06, obj := .store, bytes := 4, surv := .volatile }
/-- R499: `last_txn`, u32, 0 to 2^32 − 1; no default stated. -/
def Attr.store_last_txn : AttrDesc := { id := 0x0B07, obj := .store, bytes := 4, surv := .volatile }
/-- R499: `pf_last`, u32, 0 to 2^32 − 1 (µs); default 0. -/
def Attr.store_pf_last : AttrDesc := { id := 0x0B08, obj := .store, bytes := 4, surv := .stored }
/-- R499: `rollbacks`, u32, 0 to 2^32 − 1; default 0. -/
def Attr.store_rollbacks : AttrDesc := { id := 0x0B09, obj := .store, bytes := 4, surv := .volatile }
/-- R499: `store_wear`, u32, 0 to 2^32 − 1; no default stated. -/
def Attr.store_wear : AttrDesc := { id := 0x0B0A, obj := .store, bytes := 4, surv := .volatile }
/-- R499: `flash_spares_free`, u8, 0 to 64; no default stated. -/
def Attr.store_flash_spares_free : AttrDesc := { id := 0x0B0B, obj := .store, surv := .volatile }
/-- R499: `power_cycles`, u64, 0 to 2^64 − 1; default 0. -/
def Attr.store_power_cycles : AttrDesc := { id := 0x0B0C, obj := .store, bytes := 8, surv := .stored }
/-- R499: `oven_hours`, u64[3], 0 to 2^64 − 1 (h); default 0. -/
def Attr.store_oven_hours : AttrDesc := { id := 0x0B0D, obj := .store, bytes := 8, count := 3, array := true, surv := .stored }
/-- R480: `mate_mode`, enum, SINGLE, PAIR; default SINGLE. -/
def Attr.mate_mode : AttrDesc := { id := 0x0C00, obj := .mate, mode := .rw, hi := 1, surv := .stored }
/-- R480: `role`, enum, SINGLE, STARTING, STANDBY, ACTIVE; default STARTING. -/
def Attr.mate_role : AttrDesc := { id := 0x0C01, obj := .mate, surv := .volatile, dflt := fun _ _ => 1 }
/-- R480: `role_pri`, bool, 0, 1; no default stated. -/
def Attr.mate_role_pri : AttrDesc := { id := 0x0C02, obj := .mate, surv := .volatile }
/-- R480: `mate_link_state`, enum, DOWN, TRAINING, UP, DEGRADED; default DOWN. -/
def Attr.mate_link_state : AttrDesc := { id := 0x0C03, obj := .mate, surv := .volatile }
/-- R480: `copy_state`, enum, NONE, COPYING, REFUSED; default NONE. -/
def Attr.mate_copy_state : AttrDesc := { id := 0x0C04, obj := .mate, surv := .volatile }
/-- R480: `track_mask`, u16, bit n = DPLLn; default 0xFFFF. -/
def Attr.mate_track_mask : AttrDesc := { id := 0x0C05, obj := .mate, bytes := 2, mode := .rw, hi := 65535, surv := .stored, dflt := fun _ _ => 65535 }
/-- R480: `track_state`, enum, IDLE, ACQUIRING, TRACKING, LOST; default IDLE. -/
def Attr.mate_track_state : AttrDesc := { id := 0x0C06, obj := .mate, surv := .volatile }
/-- R480: `track_error`, interval, ±140,737 s; default 0. -/
def Attr.mate_track_error : AttrDesc := { id := 0x0C07, obj := .mate, bytes := 8, signed := true, surv := .volatile }
/-- R480: `snap_epoch`, u64, 0 to 2^64 − 1; default 0. -/
def Attr.mate_snap_epoch : AttrDesc := { id := 0x0C08, obj := .mate, bytes := 8, surv := .volatile }
/-- R480: `snap_age`, u32, 0 to 2^32 − 1 (µs); default 0. -/
def Attr.mate_snap_age : AttrDesc := { id := 0x0C09, obj := .mate, bytes := 4, surv := .volatile }
/-- R480: `snap_max_age`, u32, 20 to 60,000 (ms); default 1,000. -/
def Attr.mate_snap_max_age : AttrDesc := { id := 0x0C0A, obj := .mate, bytes := 4, mode := .rw, lo := 20, hi := 60000, surv := .stored, dflt := fun _ _ => 1000 }
/-- R480: `snap_discards`, u32, 0 to 2^32 − 1; default 0. -/
def Attr.mate_snap_discards : AttrDesc := { id := 0x0C0B, obj := .mate, bytes := 4, surv := .volatile }
/-- R480: `link_errors`, u32, 0 to 2^32 − 1; default 0. -/
def Attr.mate_link_errors : AttrDesc := { id := 0x0C0C, obj := .mate, bytes := 4, surv := .volatile }
/-- R480: `link_err_limit`, u32, 1 to 1,000,000 (per s); default 100. -/
def Attr.mate_link_err_limit : AttrDesc := { id := 0x0C0D, obj := .mate, bytes := 4, mode := .rw, lo := 1, hi := 1000000, surv := .stored, dflt := fun _ _ => 100 }
/-- R480: `mate_clk_delay`, s32, ±100,000 (ps); default 0. -/
def Attr.mate_clk_delay : AttrDesc := { id := 0x0C0E, obj := .mate, bytes := 4, signed := true, mode := .rw, lo := -100000, hi := 100000, surv := .stored }
/-- R480: `sleep_state`, enum, AWAKE, PROPOSED, COMMITTED, ASLEEP, WAKING; default AWAKE. -/
def Attr.mate_sleep_state : AttrDesc := { id := 0x0C0F, obj := .mate, surv := .volatile }
/-- R480: `takeovers`, u64, 0 to 2^64 − 1; default 0. -/
def Attr.mate_takeovers : AttrDesc := { id := 0x0C10, obj := .mate, bytes := 8, surv := .stored }
/-- R480: `last_takeover`, 16 B, [63:0] counter; [71:64] trigger 0 ALIVE, 1 link and ALIVE, 2 release; [87:72] snapshot age in ms; [127:88] reserved; default 0. -/
def Attr.mate_last_takeover : AttrDesc := { id := 0x0C11, obj := .mate, bytes := 16, surv := .volatile }
/-- R480: `mate_versions`, u32[2], as `holax_version`; `compat_id`; default 0. -/
def Attr.mate_versions : AttrDesc := { id := 0x0C12, obj := .mate, bytes := 4, count := 2, array := true, surv := .volatile }

/-- The attributes of SYSTEM in ID order (R344). -/
def Attr.systemList : List AttrDesc :=
  [Attr.variant, Attr.soc_stepping, Attr.serial, Attr.holax_version,
   Attr.batt_version, Attr.active_slot, Attr.boot_slot, Attr.slot_valid,
   Attr.slot_versions, Attr.compat_id, Attr.fw_update, Attr.power_state,
   Attr.factory_mode, Attr.osc_state, Attr.osc_weight, Attr.osc_freq_offset,
   Attr.osc_temp, Attr.lead_osc, Attr.ext_input, Attr.ext_weight_cap,
   Attr.outvote_freq_limit, Attr.outvote_step_limit, Attr.readmit_mode, Attr.learn_dpll,
   Attr.learn_grade_max, Attr.age_base, Attr.tempco_base, Attr.age_learned,
   Attr.tempco_learned, Attr.learn_state, Attr.outvote_count, Attr.closure_error,
   Attr.root_locked, Attr.locka0_set, Attr.locka1_set, Attr.client_allow,
   Attr.client_tag_limit, Attr.client_vector, Attr.client_counter_map, Attr.tag_pool,
   Attr.pool_waits, Attr.crc_failures, Attr.cmd_mean_service, Attr.spi_errors,
   Attr.console_overruns, Attr.code_strength, Attr.code_strength_active, Attr.fuller_period,
   Attr.fuller_position, Attr.fuller_passes, Attr.retire_limit, Attr.ce_counts,
   Attr.ce_unlogged, Attr.read_retries, Attr.poisoned, Attr.ce_log,
   Attr.cullet, Attr.spare_state, Attr.cache_slots, Attr.cache_counts,
   Attr.tw_discards, Attr.init_time, Attr.warmup_outputs, Attr.warmup_state,
   Attr.warmup_elapsed, Attr.reset_cause, Attr.boot_step_time, Attr.boot_fallback,
   Attr.gaffer_restarts, Attr.config_rejects, Attr.engines_in_service, Attr.cluster_state,
   Attr.repair_records, Attr.stamp_spares_free, Attr.rebalances, Attr.pmc_select,
   Attr.pmc_addr, Attr.pmc_sample_period, Attr.pmc_ovf_clear, Attr.pmc_samples,
   Attr.pmc_sample_count]

/-- The attributes of INPUT in ID order (R344). -/
def Attr.inputList : List AttrDesc :=
  [Attr.input_enable, Attr.input_type, Attr.input_io_type, Attr.input_nominal_num,
   Attr.input_nominal_den, Attr.input_prediv, Attr.input_prediv_used, Attr.input_edge,
   Attr.input_delay, Attr.input_los_edges, Attr.input_freq_enter, Attr.input_freq_leave,
   Attr.input_freq_gate, Attr.input_phase_jump_limit, Attr.input_tie_window, Attr.input_tie_limit,
   Attr.input_drift_limit, Attr.input_drift_time, Attr.input_drift_horizon, Attr.input_soak_time,
   Attr.input_qual_state, Attr.input_qual_flags, Attr.input_freq_offset, Attr.input_freq_trend,
   Attr.input_grade, Attr.input_grade_source, Attr.input_ssm_option, Attr.input_assigned_grade,
   Attr.input_grade_override, Attr.input_msg_timeout, Attr.input_msg_lost_grade, Attr.input_ssm_rx,
   Attr.input_essm_rx, Attr.input_essm_cascade, Attr.input_tod_rx, Attr.input_tod_protocol,
   Attr.input_tod_baud, Attr.input_tod_label, Attr.input_time_domain, Attr.input_vsync_expect,
   Attr.input_vsync_format, Attr.input_ltc_date_mode, Attr.input_ltc_timebase, Attr.input_ltc_discard_n,
   Attr.input_ltc_discard_w, Attr.input_ltc_rate, Attr.input_rx_errors, Attr.input_stamps]

/-- The attributes of SELECTOR in ID order (R344). -/
def Attr.selectorList : List AttrDesc :=
  [Attr.selector_enable, Attr.selector_candidates, Attr.selector_cand_count, Attr.selector_revertive,
   Attr.selector_wtr_time, Attr.selector_hold_off, Attr.selector_select_mode, Attr.selector_select_target,
   Attr.selector_preempt_drift, Attr.selector_switch_mode, Attr.selector_time_align, Attr.selector_wtr_bypass,
   Attr.selector_min_grade, Attr.selector_sel_state, Attr.selector_selected, Attr.selector_cand_status,
   Attr.selector_wtr_remaining, Attr.selector_buildout_phase, Attr.selector_switch_count, Attr.selector_last_switch]

/-- The attributes of DPLL in ID order (R344). -/
def Attr.dpllList : List AttrDesc :=
  [Attr.dpll_state, Attr.dpll_bandwidth, Attr.dpll_bw_used, Attr.dpll_damping,
   Attr.dpll_slope_limit, Attr.dpll_lock_limit, Attr.dpll_lock_limit_used, Attr.dpll_lock_freq_limit,
   Attr.dpll_lock_time, Attr.dpll_phase_error, Attr.dpll_freq_word, Attr.dpll_settling,
   Attr.dpll_pd_rate, Attr.dpll_has_locked, Attr.dpll_phase_offset, Attr.dpll_align_remaining,
   Attr.dpll_ho_window, Attr.dpll_ho_guard, Attr.dpll_ho_budget, Attr.dpll_ho_ready,
   Attr.dpll_ho_usable, Attr.dpll_ho_freq, Attr.dpll_ho_te_coeff, Attr.dpll_ho_te_est,
   Attr.dpll_ho_elapsed, Attr.dpll_ledger_gaps, Attr.dpll_state_since]

/-- The attributes of SYN in ID order (R344). -/
def Attr.synList : List AttrDesc :=
  [Attr.syn_enable, Attr.syn_dpll, Attr.syn_vco_num, Attr.syn_vco_den,
   Attr.syn_dpll_active, Attr.syn_vco_active, Attr.syn_state, Attr.syn_tune_margin,
   Attr.syn_tap_users, Attr.syn_commit_slots, Attr.syn_commit_late, Attr.syn_retunes]

/-- The attributes of OUTPUT in ID order (R344). -/
def Attr.outputList : List AttrDesc :=
  [Attr.output_enable, Attr.output_out_mode, Attr.output_divider, Attr.output_divider_active,
   Attr.output_freq_active, Attr.output_pulse_num, Attr.output_pulse_den, Attr.output_pulse_width,
   Attr.output_pulse_offset, Attr.output_coarse_delay, Attr.output_fine_phase, Attr.output_phase_remaining,
   Attr.output_driver, Attr.output_cmos_polarity, Attr.output_safe_action, Attr.output_run_cond,
   Attr.output_out_state, Attr.output_aligned, Attr.output_driver_fault, Attr.output_safe_entries,
   Attr.output_lehr_rate, Attr.output_lehr_state, Attr.output_lehr_remaining, Attr.output_lehr_eta,
   Attr.output_lehr_moves]

/-- The attributes of DOMAIN in ID order (R344). -/
def Attr.domainList : List AttrDesc :=
  [Attr.domain_state, Attr.domain_owner_client, Attr.domain_timescale, Attr.domain_bound_dpll,
   Attr.domain_servo_mode, Attr.domain_time_status, Attr.domain_time_now, Attr.domain_offset_word,
   Attr.domain_anchor, Attr.domain_period_word, Attr.domain_freq_adj, Attr.domain_slew_remaining,
   Attr.domain_slew_rate, Attr.domain_utc_offset, Attr.domain_utc_source, Attr.domain_leap_state,
   Attr.domain_leap_day, Attr.domain_leap_origin, Attr.domain_leap_disagree, Attr.domain_quality_mode,
   Attr.domain_clock_class, Attr.domain_clock_accuracy, Attr.domain_clock_variance, Attr.domain_time_source,
   Attr.domain_tz_base_offset, Attr.domain_tz_base_dst, Attr.domain_tz_base_code, Attr.domain_tz_table,
   Attr.domain_tz_count, Attr.domain_local_offset_now, Attr.domain_date_valid, Attr.domain_update_refusals,
   Attr.domain_steps]

/-- The attributes of VIDGEN in ID order (R344). -/
def Attr.vidgenList : List AttrDesc :=
  [Attr.vidgen_enable, Attr.vidgen_domain, Attr.vidgen_run_cond, Attr.vidgen_start_cond,
   Attr.vidgen_gen_state, Attr.vidgen_lehr_rate, Attr.vidgen_lehr_state, Attr.vidgen_lehr_remaining,
   Attr.vidgen_lehr_eta, Attr.vidgen_lehr_moves, Attr.vidgen_vid_format, Attr.vidgen_vid_offset,
   Attr.vidgen_bb_setup, Attr.vidgen_tenfield_id, Attr.vidgen_format_active, Attr.vidgen_out_fault]

/-- The attributes of AUDGEN in ID order (R344). -/
def Attr.audgenList : List AttrDesc :=
  [Attr.audgen_enable, Attr.audgen_domain, Attr.audgen_run_cond, Attr.audgen_start_cond,
   Attr.audgen_gen_state, Attr.audgen_lehr_rate, Attr.audgen_lehr_state, Attr.audgen_lehr_remaining,
   Attr.audgen_lehr_eta, Attr.audgen_lehr_moves, Attr.audgen_aud_rate, Attr.audgen_aes_tod_code,
   Attr.audgen_aes_grade, Attr.audgen_out_fault]

/-- The attributes of TCGEN in ID order (R344). -/
def Attr.tcgenList : List AttrDesc :=
  [Attr.tcgen_enable, Attr.tcgen_domain, Attr.tcgen_run_cond, Attr.tcgen_start_cond,
   Attr.tcgen_gen_state, Attr.tcgen_lehr_rate, Attr.tcgen_lehr_state, Attr.tcgen_lehr_remaining,
   Attr.tcgen_lehr_eta, Attr.tcgen_lehr_moves, Attr.tcgen_tc_rate, Attr.tcgen_tc_timebase,
   Attr.tcgen_tc_date, Attr.tcgen_tc_offset, Attr.tcgen_jam_time, Attr.tcgen_leap_flag,
   Attr.tcgen_tc_address, Attr.tcgen_tc_date_now, Attr.tcgen_jam_count, Attr.tcgen_jam_last_delta,
   Attr.tcgen_out_fault]

/-- The attributes of TODGEN in ID order (R344). -/
def Attr.todgenList : List AttrDesc :=
  [Attr.todgen_enable, Attr.todgen_domain, Attr.todgen_run_cond, Attr.todgen_start_cond,
   Attr.todgen_gen_state, Attr.todgen_lehr_rate, Attr.todgen_lehr_state, Attr.todgen_lehr_remaining,
   Attr.todgen_lehr_eta, Attr.todgen_lehr_moves, Attr.todgen_tod_tx_protocol, Attr.todgen_tod_tx_baud,
   Attr.todgen_tod_companion, Attr.todgen_tod_tx_label, Attr.todgen_tod_tx_delay, Attr.todgen_tod_quiet_limit,
   Attr.todgen_tod_tx_state, Attr.todgen_tod_tx_count, Attr.todgen_out_fault]

/-- The attributes of PORT in ID order (R344). -/
def Attr.portList : List AttrDesc :=
  [Attr.port_enable, Attr.port_speed, Attr.port_fec, Attr.port_link_state,
   Attr.port_tc_pair, Attr.port_ref_syn, Attr.port_mac_addr, Attr.port_ipv4_addr,
   Attr.port_ipv4_prefix, Attr.port_ipv4_gateway, Attr.port_ipv6_addr, Attr.port_ipv6_gateway,
   Attr.port_vlan_id, Attr.port_vlan_pcp, Attr.port_dscp, Attr.port_rx_latency_fact,
   Attr.port_tx_latency_fact, Attr.port_ext_rx_delay, Attr.port_ext_tx_delay, Attr.port_delay_asymmetry,
   Attr.port_bindings, Attr.port_binding_state, Attr.port_grant_budget, Attr.port_granted_rate,
   Attr.port_event_capacity, Attr.port_mcast_budget, Attr.port_grant_refusals, Attr.port_stateless_drops,
   Attr.port_credits, Attr.port_host_credit_limit, Attr.port_late_launches, Attr.port_tx_drops,
   Attr.port_transit_drops, Attr.port_transit_uncorrected, Attr.port_rx_ignored, Attr.port_auth_fail,
   Attr.port_key_slots, Attr.port_esmc_enable, Attr.port_esmc_option, Attr.port_esmc_extended,
   Attr.port_esmc_override, Attr.port_esmc_tx_ql, Attr.port_hostq]

/-- The attributes of SESSION in ID order (R344). -/
def Attr.sessionList : List AttrDesc :=
  [Attr.session_sess_state, Attr.session_sess_role, Attr.session_sess_binding, Attr.session_partner_addr,
   Attr.session_partner_port_id, Attr.session_grant_log, Attr.session_grant_remaining, Attr.session_sess_cost,
   Attr.session_tx_msgs, Attr.session_rx_msgs, Attr.session_rx_lost, Attr.session_retries,
   Attr.session_late_completions, Attr.session_grants_exhausted, Attr.session_refusals_rx, Attr.session_sess_engine,
   Attr.session_offset_from_master, Attr.session_mean_path_delay]

/-- The attributes of TIC in ID order (R344). -/
def Attr.ticList : List AttrDesc :=
  [Attr.tic_enable, Attr.tic_mode, Attr.tic_src_a, Attr.tic_src_b,
   Attr.tic_timebase, Attr.tic_nominal_num, Attr.tic_nominal_den, Attr.tic_win_open,
   Attr.tic_win_close, Attr.tic_avg_len, Attr.tic_stat_len, Attr.tic_stat_include,
   Attr.tic_state, Attr.tic_stat_result, Attr.tic_last_sample, Attr.tic_samples,
   Attr.tic_stops_outside, Attr.tic_starts_unmatched, Attr.tic_stamps_missed, Attr.tic_free_used]

/-- The attributes of FAULT in ID order (R344). -/
def Attr.faultList : List AttrDesc :=
  [Attr.fault_base_class, Attr.fault_count_n, Attr.fault_count_w, Attr.fault_escalate,
   Attr.fault_state, Attr.fault_count, Attr.fault_last_latch, Attr.fault_scope,
   Attr.fault_int_class, Attr.fault_domain_policy, Attr.fault_ctrl_loss_timeout, Attr.fault_alive_state,
   Attr.fault_severe_latched, Attr.fault_inject_pending]

/-- The attributes of STORE in ID order (R344). -/
def Attr.storeList : List AttrDesc :=
  [Attr.store_state, Attr.store_page_state, Attr.store_dirty_count, Attr.store_dirty_limit,
   Attr.store_holdup_ms, Attr.store_delay, Attr.store_dirty_waits, Attr.store_last_txn,
   Attr.store_pf_last, Attr.store_rollbacks, Attr.store_wear, Attr.store_flash_spares_free,
   Attr.store_power_cycles, Attr.store_oven_hours]

/-- The attributes of MATE in ID order (R344). -/
def Attr.mateList : List AttrDesc :=
  [Attr.mate_mode, Attr.mate_role, Attr.mate_role_pri, Attr.mate_link_state,
   Attr.mate_copy_state, Attr.mate_track_mask, Attr.mate_track_state, Attr.mate_track_error,
   Attr.mate_snap_epoch, Attr.mate_snap_age, Attr.mate_snap_max_age, Attr.mate_snap_discards,
   Attr.mate_link_errors, Attr.mate_link_err_limit, Attr.mate_clk_delay, Attr.mate_sleep_state,
   Attr.mate_takeovers, Attr.mate_last_takeover, Attr.mate_versions]

/-- The attributes an object has (R344). -/
def Attr.ofObj : Obj → List AttrDesc
  | .system => Attr.systemList
  | .input => Attr.inputList
  | .selector => Attr.selectorList
  | .dpll => Attr.dpllList
  | .syn => Attr.synList
  | .output => Attr.outputList
  | .domain => Attr.domainList
  | .vidgen => Attr.vidgenList
  | .audgen => Attr.audgenList
  | .tcgen => Attr.tcgenList
  | .todgen => Attr.todgenList
  | .port => Attr.portList
  | .session => Attr.sessionList
  | .tic => Attr.ticList
  | .fault => Attr.faultList
  | .store => Attr.storeList
  | .mate => Attr.mateList

/-- The descriptor of an attribute ID, where an attribute table lists it (R344). -/
def Attr.find (id : Nat) : Option AttrDesc :=
  match Obj.ofAttr id with
  | none => none
  | some o => (Attr.ofObj o).find? fun a => a.id == id

/-- The one key under which an element of an attribute is kept: the ID, the instance (0 for an attribute that has one
value, R344) and the element. -/
def AttrDesc.key (a : AttrDesc) (inst elem : Nat) : Nat :=
  (a.id * 65536 + (if a.shared then 0 else inst)) * 65536 + elem

/-- The attribute ID a key stands for. -/
def keyId (k : Nat) : Nat := k / 4294967296
/-- The instance a key stands for. -/
def keyInst (k : Nat) : Nat := k / 65536 % 65536
/-- The element a key stands for. -/
def keyElem (k : Nat) : Nat := k % 65536

/-! What the shadow store holds beside the attributes: no GET reads it, since no attribute table lists its ID. -/

/-- The reference frequency of a member's learned model, in 10^-15 (R53). -/
def Shadow.modelFreq : AttrDesc := { id := 0x01F0, obj := .system, bytes := 8, signed := true, count := 4, array := true, surv := .stored }
/-- The reference instant of a member's learned model, in ensemble seconds (R53). -/
def Shadow.modelTime : AttrDesc := { id := 0x01F1, obj := .system, bytes := 8, count := 4, array := true, surv := .stored }
/-- The reference temperature of a member's learned model, in 0.01 °C (R53). -/
def Shadow.modelTemp : AttrDesc := { id := 0x01F2, obj := .system, bytes := 2, signed := true, count := 4, array := true, surv := .stored }
/-- Whether a fit has been adopted for a member since the last SYSTEM.RESTORE_FACTORY (R53, R173). -/
def Shadow.learned : AttrDesc := { id := 0x01F3, obj := .system, count := 4, array := true, surv := .stored }
/-- The holdover summary of a DPLL: the means of FREQ, SECOND and TEMP, `ho_usable` and `has_locked` (R178). -/
def Shadow.summary : AttrDesc := { id := 0x04F0, obj := .dpll, bytes := 8, signed := true, count := 5, array := true, surv := .stored }
/-- The 32-byte keys of the authentication key slots (R269). -/
def Shadow.keyValue : AttrDesc := { id := 0x087F, obj := .port, bytes := 32, count := 256, array := true, shared := true, surv := .stored }

/-- What the shadow store holds beside the attributes. -/
def Shadow.list : List AttrDesc :=
  [Shadow.modelFreq, Shadow.modelTime, Shadow.modelTemp, Shadow.learned, Shadow.summary, Shadow.keyValue]

/-- The survival class of what a key stands for (R392). -/
def keySurv (k : Nat) : Option Surv :=
  match Shadow.list.find? fun a => a.id == keyId k with
  | some a => some a.surv
  | none => (Attr.find (keyId k)).map (·.surv)

/-- Whether a SET value lies in the attribute's range (R349). -/
def AttrDesc.accepts (a : AttrDesc) (v : Int) : Bool :=
  if a.only.isEmpty then (a.lo ≤ v && v ≤ a.hi && v % a.step == 0) || a.also.contains v else a.only.contains v

end Sys2Proof.Machine
end

