-- ==== Sys2Proof/Machine/Table.lean ====
section
/-! DEFINITION. Sparse data by number: a list of (key, value) pairs with strictly rising keys. The model keeps its
attribute file, its per-object records and the bytes of table memory in this one form. -/

namespace Sys2Proof.Machine

/-- A sparse table: (key, value) pairs with strictly rising keys. -/
abbrev Tbl (α : Type) := List (Nat × α)

/-- The value listed for a key, if one is. -/
def tblFind {α : Type} : Tbl α → Nat → Option α
  | [], _ => none
  | (k, v) :: t, i => if i = k then some v else tblFind t i

/-- Lists a value for a key, in the place of any value listed before. -/
def tblPut {α : Type} : Tbl α → Nat → α → Tbl α
  | [], i, x => [(i, x)]
  | (k, v) :: t, i, x =>
    if i = k then (i, x) :: t
    else if i < k then (i, x) :: (k, v) :: t
    else (k, v) :: tblPut t i x

/-- Removes the entry of a key, if one is listed. -/
def tblDrop {α : Type} : Tbl α → Nat → Tbl α
  | [], _ => []
  | (k, v) :: t, i => if i = k then tblDrop t i else (k, v) :: tblDrop t i

/-- Strictly rising keys. -/
def tblSorted {α : Type} : Tbl α → Bool
  | [] => true
  | [_] => true
  | (k, _) :: (k', v') :: t => decide (k < k') && tblSorted ((k', v') :: t)

/-- The value of a key, `d` where none is listed. -/
def tblGet {α : Type} (t : Tbl α) (d : α) (i : Nat) : α := (tblFind t i).getD d

/-- Gives a key its value in the canonical form: the value that an unlisted key reads as is not listed. -/
def tblSet {α : Type} [DecidableEq α] (t : Tbl α) (d : α) (i : Nat) (x : α) : Tbl α :=
  if x = d then tblDrop t i else tblPut t i x

/-- The canonical form of a table whose unlisted keys all read as `d`: rising keys, and no entry equal to `d`. -/
def tblCanonical {α : Type} [DecidableEq α] (d : α) (t : Tbl α) : Bool :=
  tblSorted t && t.all fun e => decide (e.2 ≠ d)

/-- Gives a run of keys from `i` on the values of a list. -/
def tblSetRun {α : Type} [DecidableEq α] (d : α) : Tbl α → Nat → List α → Tbl α
  | t, _, [] => t
  | t, i, x :: xs => tblSetRun d (tblSet t d i x) (i + 1) xs

/-- The values of `n` keys from `i` on. -/
def tblGetRun {α : Type} (t : Tbl α) (d : α) : Nat → Nat → List α
  | _, 0 => []
  | i, n + 1 => tblGet t d i :: tblGetRun t d (i + 1) n

/-- A table that every key of a listed run satisfies: drops the entries whose key does not satisfy `p`. -/
def tblKeep {α : Type} (p : Nat → Bool) : Tbl α → Tbl α
  | [] => []
  | (k, v) :: t => if p k then (k, v) :: tblKeep p t else tblKeep p t

end Sys2Proof.Machine
end

