-- ==== Sys2Proof/Machine/State.lean ====
section
/-! DEFINITION. The state of the module as plain data, unit by unit, and the state after reset. Every attribute that a
table of the spec lists stands in the one attribute file `attrs` (its STORED and FACTORY keys are the shadow SRAM of
R483) or is formed on reading from the unit that owns it; the units hold what the spec's rules name beside the
attributes. -/

namespace Sys2Proof.Machine

/-! ### Crucible (R41 to R57) -/

/-- A readmission ramp (R42, R48): the ticks it has run, the tick since which it runs, none while it is held, and the
weight from which it goes on. -/
structure Ramp where
  done : Nat := 0
  since : Option Nat := none
  base : Nat := 0
deriving DecidableEq, Repr

/-- The ensemble beside its attributes: the frozen weights and the closure counts of R42, the last pairwise
differences that summed to zero with the external member's phase against OSC0 beside them (R45), the phases of the members against the
ensemble in fs at the last four comparisons, newest first (R300), the steered reference phase
of R55 in fs, the last estimates of R43, the weights at full ramp, the cap of the external member at the last
recomputation, the ramps, the causes of the last outvotes (1 = oven fault), the standard errors of the ageing rates that the fits
have adopted in 10^-21 per s (R173), and for R47 the DPLL whose frequency word is
followed with the word's integral at each evaluation of the last 100 s, newest first. -/
structure Crucible where
  frozen : Bool := false
  bad : Nat := 0
  good : Nat := 0
  diffs : List Int := []
  ext : Option Int := none
  phases : List (Nat × List Int) := []
  rootPhase : Int := 0
  variances : Tbl Nat := []
  separable : Bool := true
  target : Tbl Nat := [(0, 65536)]
  extCap : Nat := 32768
  ramps : Tbl Ramp := []
  cause : Tbl Nat := []
  ageErrors : Tbl Nat := []
  learnOf : Nat := 0
  learn : List (Nat × Int) := []
deriving DecidableEq, Repr

/-! ### Domains (R59 to R87, R127) -/

/-- The words of a domain (R59): O_d in 2^-16 ns, F0_d in ticks, P_d in 2^-48 ns per tick. -/
structure DomWords where
  offset : Int
  anchor : Nat
  period : Nat
deriving DecidableEq, Repr

/-- An update waiting for its instant (R61): absolute with an offset, or relative with a delta, the offset
discontinuities that it counts in `steps` (R76), the part of the change that is a discontinuity for the domain's signals
(R183, R235), and whether it carries a command that sets the domain's time (R75). -/
structure DomUpdate where
  instant : Nat
  period : Nat
  absolute : Option Int
  delta : Int
  steps : Nat := 0
  jump : Int := 0
  sets : Bool := false
deriving DecidableEq, Repr

/-- A slew in progress (R74): the whole movement in 2^-16 ns, the ticks from its start instant to its end instant and
the signed period words it adds. -/
structure Slew where
  total : Int
  start : Nat
  finish : Nat
  extra : Int
  ratePpt : Int
deriving DecidableEq, Repr

/-- A change that arrived in a closing window and waits for the next UTC day (R80). -/
structure Deferred where
  offset : Option (Int × Bool) := none
  leap : Option (LeapKind × Nat × Bool) := none
deriving DecidableEq, Repr

/-- A domain acting as a packet-derived reference (R127, R277): its qualified flag and grade as last written, the soak
in progress, whether it is fresh (R25), the last offset from the master, and the port and slot of the binding whose Announce
receipt timeout has cleared the flag, until it is set again (R145). -/
structure DomRef where
  qualified : Bool := false
  grade : Nat := 15
  soaked : Nat := 0
  fresh : Bool := false
  offset : Int := 0
  timedOut : Option (Nat × Nat) := none
deriving DecidableEq, Repr

/-- One domain beside its attributes: its words, the words before the last update and that update's instant (R63), a
pending update, a slew, the days that carry a commanded "no leap" (R82), deferred changes, what was last learned (R81; the
leap with the UTC day it was announced for), whether the learned offset and the learned leap disagree with a commanded one
(R81), a time zone table that waits and the index of the transition in force (R84), whether
its DPLL has acquired a time-bearing candidate while it was UNSET (R398), the tick at which it left UNSET (R214), the domain time and the
sense of its last leap (R79, R229), the domain as a reference, and the engines, as
cluster × 256 + logical engine, on which Holax has placed its servo task and its BMCA task (R20). -/
structure DomRec where
  words : DomWords := ⟨0, 0, 208499982748634⟩
  prev : Option DomWords := none
  lastUpdate : Option Nat := none
  pend : Option DomUpdate := none
  slew : Option Slew := none
  noLeapDays : List Nat := []
  deferred : Deferred := {}
  learnedOffset : Option Int := none
  learnedLeap : Option (LeapKind × Nat) := none
  offsetOff : Bool := false
  leapOff : Bool := false
  tzNext : Option (List Nat) := none
  tzIndex : Nat := 0
  acquired : Bool := false
  setAt : Nat := 0
  lastLeap : Option (Int × Int) := none
  ref : DomRef := {}
  servo : Nat := 0
  bmca : Nat := 256
deriving DecidableEq, Repr

/-! ### Inputs (R93 to R121) -/

/-- A least-squares line through points, without rounding: its value at x is (a + b x) / d, and d is positive. -/
structure LineFit where
  a : Int
  b : Int
  d : Int
deriving DecidableEq, Repr

/-- A message that labels the next edge (R116): its time, as domain seconds or as a UTC time whose year may have two digits, what
it grades, and the counter value at its last stop bit. -/
structure LabelMsg where
  civil : Option CivilTime
  seconds : Int
  short : Bool
  grade : Option (Nat × Nat)
  stop : Nat
deriving DecidableEq, Repr

/-- One input beside its attributes. For its hardware monitors (R98 to R100, R103): the frequency verdict; the tick at which
the gate in progress started, its stamps, newest first, as pairs of the number of expected periods and the place in tick / 1024,
and the place of the last stamp before it; the fit of the gate before; whether the gate lies wholly after the last stamp
that failed the phase-jump monitor; the phase data that the wander monitor holds; the ticks from which a loss of signal and
a soak are measured. The last two stamps (counter value, and place after the delays of R93), and the place of the last frame
start (R119). For the drift monitor (R102): the place and the number of the last stamp at the last evaluation, the
evaluations since the data began, the averages in 10^-18 with the half second that each stands for, and the evaluations for
which no condition has held. The last detected video format, the instants of recent LTC discards, the time zone code and the
last time of an LTC input (seconds, frame, place of the boundary). The grade of the last valid grading message of each kind with
its tick (R106); the accepted label (seconds, the edge's place, the tick of acceptance), the messages that label the next
edge, the last accepted labelled time with its edge's number, and a candidate new sequence (its last time, its edge's number,
and the edges that agree, R117). -/
structure InputRec where
  freqPass : Bool := false
  gateStart : Nat := 0
  gate : List (Int × Int) := []
  anchor : Option Int := none
  fit : Option LineFit := none
  clean : Bool := true
  held : List (Int × Int) := []
  losFrom : Nat := 0
  soakFrom : Nat := 0
  lastStamp : Option (Nat × Int) := none
  prevStamp : Option (Nat × Int) := none
  frameStart : Option Int := none
  second : Option (Int × Nat) := none
  secs : Nat := 0
  avgs : List (Int × Int) := []
  driftClear : Nat := 0
  lastFormat : Nat := 0
  discards : List Nat := []
  ltcZone : Option Nat := none
  ltcTime : Option (Int × Nat × Int) := none
  msgs : Tbl (Nat × Nat) := []
  label : Option (Int × Int × Nat) := none
  following : List LabelMsg := []
  sequence : Option (Int × Nat) := none
  newSeq : Option (Int × Nat × Nat) := none
deriving DecidableEq, Repr

/-- A ToD receiver (R112): its last sample, the samples of the character in progress, newest first, and the characters of the
message in progress. -/
structure Uart where
  prev : Bool := true
  taken : Option (List Bool) := none
  chars : List Nat := []
deriving DecidableEq, Repr

/-- The factory calibration (R93, R191, R290, R293) that is no attribute: the delays of the inputs, of the ROUTE sources and of
the outputs in ps, the linearity table of each physical channel as corrections in vernier LSB, at 1,024 × channel + vernier, and
the factory ageing uncertainty of each oven member in 10^-21 per s (R173).
It is written at the factory and never in the field. -/
structure FactoryUnit where
  inputDelay : Tbl Int := []
  routeDelay : Tbl Int := []
  outputDelay : Tbl Int := []
  linear : Tbl Int := []
  ageUncertainty : Tbl Nat := []
deriving DecidableEq, Repr

/-! ### Selectors and DPLLs (R124 to R180) -/

/-- One selector beside its attributes. Sources are numbered: n for INPUT n, 63 for the implicit mate
reference of R469, 64 + d for DOMAIN d. `left` lists sources
that have left QUALIFIED while in the list, `wtr` the end tick of each pending wait-to-restore, `newList` a list that
waits for the next decision (R126), `command` whether the decision due follows a command (R132: 1 a SET, 2 a change of
mode, list or lockout), `cmdLost` that such a command made the selected candidate lose its eligibility (R132), `holdEnds` the
tick at which the HOLD_OFF in progress ends, `source` the source
that is connected, `bypass` that it was taken under the bypass of R128, and `degraded` why selection is degraded (1
bypass, 2 FORCED target not qualified, 3 MANUAL target not eligible). -/
structure SelRec where
  left : List Nat := []
  wtr : Tbl Nat := []
  newList : Option (List Nat) := none
  command : Nat := 0
  cmdLost : Bool := false
  holdEnds : Nat := 0
  source : Option Nat := none
  bypass : Bool := false
  degraded : Nat := 0
deriving DecidableEq, Repr

/-- What a slope-limited movement serves (R154). -/
inductive MoveKind
  | buildOut
  | align
  | phaseAlign
  | phaseOffset
  | domainSlew
deriving DecidableEq, Repr

/-- A slope-limited movement (R154): what it serves, the part still to run when it (re)started, in 2^-16 ns, the tick
since which it runs, none while it is held, whether the frequency word carries its rate outside the loop (R168), and how far it
goes as a whole. -/
structure Movement where
  kind : MoveKind
  remaining : Int
  since : Option Nat
  word : Bool := false
  whole : Int := 0
deriving DecidableEq, Repr

/-- One ledger record (R169). -/
structure LedgerRec where
  freq : Int
  temp : Int
  flags : Nat
  second : Nat
  ref : Nat
  grade : Nat
  phaseRms : Nat
deriving DecidableEq, Repr

/-- One DPLL beside its attributes: the integrator with its remainder in 10^-12 of a word's unit (R150), the word without the
rate of a movement that runs through it (R168), the word and the nudges waiting for the next post (R167), the part of
`phase_offset` that waits with them (R168), whether a nudge sets the domain's time (R75), how far the DPLL's phase is ahead of
the domain's time (`acc` in 2^-48 ns / (27 × 10^18) at the tick `accSince`, `posted` the domain's period word), the word's integral
over the free-running counter (`wordSum` in 10^-18 ticks up to the tick `wordSince`), the movements in
their order of which the first runs, the nudges that a post will count, HOLD_OFF, the duty that the last sample gave (R176), the
tick at which `settling` lowers (R160), the ledger FIFO, the short-holdover word,
the free-run word, the coefficients in force, marks for the ledger record of the second in progress, the squares of that second's
phase errors in ps with their number, the integral and the tick at its start (R169), the time-bearing
label comparison due (R158), the control-loss mark with the tick at which its timer last restarted (R433), the last ensemble second recorded, the tick at which the
holdover in progress began, and the means that the last holdover word was computed from (R171: FREQ, SECOND, TEMP). -/
structure DpllRec where
  integrator : Int := 0
  integralRest : Int := 0
  base : Int := 0
  pendWord : Option Int := none
  pendNudge : Int := 0
  pendOffset : Int := 0
  setsTime : Bool := false
  posted : Int := 0
  acc : Int := 0
  accSince : Nat := 0
  wordSum : Int := 0
  wordSince : Nat := 0
  moves : List Movement := []
  nudges : Nat := 0
  heldOff : Bool := false
  duty : Nat := 0
  settleEnds : Nat := 0
  fifo : List LedgerRec := []
  shortWord : Int := 0
  freeRunWord : Int := 0
  useShort : Bool := false
  marks : Nat := 0
  errSquares : Nat := 0
  errCount : Nat := 0
  sumMark : Int := 0
  tickMark : Nat := 0
  labelDue : Bool := false
  ctrlLost : Bool := false
  timerFrom : Nat := 0
  secondCount : Nat := 0
  entered : Nat := 0
  means : Int × Int × Int := (0, 0, 0)
deriving DecidableEq, Repr

/-! ### Synthesisers, outputs and generators (R181 to R248) -/

/-- The active ratio of a synthesiser (R195), the tick at which it last entered LOCKED with the word's integral that its unbound grid
counts from (R188), and the tick of the last commit with it as a member (R202). -/
structure SynRec where
  num : Nat := 625
  den : Nat := 27
  lockedAt : Nat := 0
  gridSum : Int := 0
  committedAt : Option Nat := none
deriving DecidableEq, Repr

/-- The Lehr error of one signal (R235): e in 2^-16 ns as it stood at the time `since` of its domain, whether a step is under
way, and the time at which the unit that the step ends is over (R239). -/
structure Lehr where
  e : Int := 0
  since : Int := 0
  stepping : Bool := false
  stepAt : Int := 0
deriving DecidableEq, Repr

/-- A transitional period (R197): its length and the period of the setting before, in 2^-16 ns, and the tick at which it ends. -/
structure Transit where
  length : Int
  old : Int
  ends : Nat
deriving DecidableEq, Repr

/-- One output beside its attributes: whether its divider runs and its driver is gated, whether it waits for its first
grid instant (R189) since the tick `since`, the active buffered values (R195), the stepper's remaining movement in fine steps,
positive for later (R192): `stepper` modulo the period, `delayLeft` the part of a PULSE output's change of delay that is run in full
(R194); the transitional period of the last commit, whether the pulse generator has lost its domain (R190) and its Lehr error. -/
structure OutRec where
  started : Bool := false
  starting : Bool := false
  since : Nat := 0
  gated : Bool := false
  pulse : Bool := false
  num : Nat := 1
  den : Nat := 1
  width : Nat := 100000
  stepper : Int := 0
  delayLeft : Int := 0
  transit : Option Transit := none
  orphan : Bool := false
  lehr : Lehr := {}
deriving DecidableEq, Repr

/-- A commit slot's armed group and trigger (R196), the tick of the arm, and whether an update of its domain has stepped over T. -/
structure CommitArm where
  trigger : Nat
  edgeOutput : Nat
  synMask : Nat
  outMask : Nat
  domain : Nat
  time : Int
  armedAt : Nat := 0
  stepped : Bool := false
deriving DecidableEq, Repr

/-- One generator beside its attributes: whether it runs, the tick at which it was enabled and the alignment point at which it
started (R214), was stopped by an unbind (R213), is gated at its unit boundary, its Lehr error, the end of the unit in progress
of a generator that has been disabled, as a time of its domain and a place in its own time (R214), the format change that waits (R223) and
the instant, in its domain's time, of the jam that does (R229), the daily
jam and the time zone transition armed in hardware, the transition that an unarmed TCGEN stays at while the control plane is absent
(R216), the frame of the last jam with its address (R229), and whether it renders an invalid date (R231, R233). -/
structure GenRec where
  running : Bool := false
  armedAt : Nat := 0
  start : Int := 0
  stopped : Bool := false
  gated : Bool := false
  lehr : Lehr := {}
  ending : Option (Int × Int) := none
  formatDue : Bool := false
  jamDue : Option Int := none
  dailyArmed : Bool := false
  tzArmed : Bool := false
  tzLag : Option Nat := none
  base : Option (Int × Nat) := none
  dateBad : Bool := false
deriving DecidableEq, Repr

/-! ### Faults (R421 to R449) -/

/-- One unit of a containment scope (R429, R448). Generators are numbered 0 to 7 VIDGEN, 8 to 13 AUDGEN, 14 and 15
TCGEN, 16 and 17 TODGEN. -/
inductive ScopeItem
  | out (n : Nat)
  | gen (g : Nat)
  | dpll (n : Nat)
  | dom (d : Nat)
  | port (p : Nat)
deriving DecidableEq, Repr

/-- One latch of the fault collector (R424, R426, R429); `prior` is the class of a latch that stood unacknowledged before the tick of
the latest occurrence (R428). -/
structure Latch where
  cls : Nat := 0
  latched : Bool := false
  acked : Bool := false
  cause : Bool := false
  count : Nat := 0
  last : Nat := 0
  window : Option (Nat × Nat) := none
  held : List ScopeItem := []
  prior : Option Nat := none
deriving DecidableEq, Repr

/-- An event record that waits for delivery to a client (R29, R334, R335). -/
structure EventRec where
  client : Nat
  source : Nat
  cls : Nat
  counter : Nat
  repeats : Nat
  detail : Nat
  domain : Nat
deriving DecidableEq, Repr

/-- A pending field injection (R443, R445): bits and target. -/
structure Injection where
  bits : Nat
  target : Nat
deriving DecidableEq, Repr

/-- The fault collector: the latches, the records that wait, the subscriptions of each client as a bit set (R361), the
instants of once-a-second sources, the ALIVE conditions and pin (R436) with the tick at which Holax last fed ALIVE, the injections, and the
source injection of checker 5 with the tick at which its CAUSE ends (R446). -/
structure FaultUnit where
  latches : Tbl Latch := []
  waiting : List EventRec := []
  subs : Tbl Nat := []
  onceAt : Tbl Nat := []
  feedMissed : Bool := false
  hostMissed : Bool := false
  alivePin : Bool := false
  inject : Tbl Injection := []
  causeHeld : Option (Nat × Nat) := none
  holaxFed : Nat := 0
deriving DecidableEq, Repr

/-! ### Host interface (R310 to R341, R361) -/

/-- One client's BAR0 page registers and ring state (R314, R322): `halted` that a DMA fault has stopped fetching until the rings
are enabled again (R321); `rung` the tick of the doorbell write that made each slot's entry available (R324), `fullSince` the tick since which a
completion waits for ring space, and whether that has been told (R341). Reset: zeros; phases 1. -/
structure Ring where
  cmdPi : Nat := 0
  cplCi : Nat := 0
  evtCi : Nat := 0
  cmdCi : Nat := 0
  cmdBase : Nat := 0
  cplBase : Nat := 0
  evtBase : Nat := 0
  cfg : Nat := 0
  active : Bool := false
  denied : Bool := false
  cfgError : Bool := false
  dmaFault : Bool := false
  halted : Bool := false
  indexError : Bool := false
  limitHeld : Bool := false
  poolHeld : Bool := false
  armCpl : Bool := false
  armEvt : Bool := false
  evtLost : Nat := 0
  lostPending : Nat := 0
  cplPi : Nat := 0
  evtPi : Nat := 0
  cplPhase : Bool := true
  evtPhase : Bool := true
  dead : Bool := false
  rung : Tbl Nat := []
  fullSince : Option Nat := none
  fullTold : Bool := false
deriving DecidableEq, Repr

/-- A fetched command whose completion is not written (R328), in the order of fetching: the object instances that it names (R327),
the tick of its doorbell and that of its fetch (R324). -/
structure InFlight where
  client : Nat
  tag : Nat
  opcode : Nat
  slot : Nat
  fence : Bool
  names : List (Obj × Nat) := []
  rung : Nat := 0
  fetched : Nat := 0
deriving DecidableEq, Repr

/-- A completed command whose completion waits (R324, R329): its issuer, opcode, status and inline result, and the mark
that R263 and R264 put on it (1 LATE, 2 DROPPED; log entry 9). -/
structure Done where
  who : Issuer
  opcode : Nat
  slot : Nat
  status : Nat
  result : List Byte
  resultLen : Nat
  flag : Nat := 0
deriving DecidableEq, Repr

/-- A time-read latch block (R65). -/
structure LatchBlock where
  status : Nat := 0
  sec : Nat := 0
  nsec : Nat := 0
  frac : Nat := 0
  counter : Nat := 0
deriving DecidableEq, Repr

/-- The SPI lite window (R337, R338), with the tick of the last GO. -/
structure SpiUnit where
  entry : Tbl Byte := []
  buffer : Tbl Byte := []
  completion : List Byte := []
  phase : Bool := true
  busy : Bool := false
  done : Bool := false
  goAt : Nat := 0
  fifo : List EventRec := []
  lost : Nat := 0
deriving DecidableEq, Repr

/-- The console (R339): the line in progress, the characters held while a command runs, and whether one runs; the attribute that a
`get` reads, with whether it is signed; and the events that wait for the end of the line in progress. -/
structure ConsoleUnit where
  line : List Nat := []
  ended : Bool := false
  lastCr : Bool := false
  held : List Nat := []
  busy : Bool := false
  asked : String := ""
  signed : Bool := false
  events : List EventRec := []
deriving DecidableEq, Repr

/-- The host interface hardware (R336): rings, the last client other than 0 that was fetched for and whether the last fetch was
client 0's (R328), commands in flight, completions that wait, the (client, tag) pairs whose
completions are discarded (R312, R336), the owner registers of R315, the MSI-X mask (set at reset by the PCIe specification,
log entry 2), pending bits and messages (the 32-bit words 0 to 2 of each entry, at 4 × vector + word, R317), the tick from which the host's feed period runs (R316), and the
last service times in ns. -/
structure HostUnit where
  rings : Tbl Ring := []
  turn : Nat := 0
  turnZero : Bool := false
  inflight : List InFlight := []
  completed : List Done := []
  orphans : List (Nat × Nat) := []
  intW1c : Nat := 0
  intMask : Nat := 8
  aliveCfg : Nat := 25600
  fedAt : Nat := 0
  twBase : Nat := 0
  msixMask : Nat := 18446744073709551615
  msixPend : Nat := 0
  msixTable : Tbl Nat := []
  services : List Nat := []
  latchBlocks : Tbl LatchBlock := []
  spi : SpiUnit := {}
  console : ConsoleUnit := {}
deriving DecidableEq, Repr

/-! ### Table memory (R366 to R391) -/

/-- What the controller holds of one frame beside its data (R369, R376): errors that the next read finds (bits
in the check symbols), POISON, whether its page was recovered in place and not read since (R377), and whether it has been written since its
initialisation (R369). -/
structure FrameRec where
  poison : Bool := false
  checkErrors : Nat := 0
  recovered : Bool := false
  written : Bool := false
deriving DecidableEq, Repr

/-- The state of a session cache slot (R386). -/
inductive CacheState
  | filling
  | valid
  | evicting
  | kept
deriving DecidableEq, Repr

/-- A slot of the session cache: the page it holds, its state, whether it is stale, and host writes that wait (R387). -/
structure CacheSlot where
  lpn : Nat
  state : CacheState
  stale : Bool := false
  writes : List (Nat × Byte) := []
deriving DecidableEq, Repr

/-- Table memory: its bytes by logical address in the canonical form, the frames that differ from a healthy one, the
session cache in the order of use with the pages whose fill waits for a slot, pages that wait for retirement (page and cause), the
record counts of the three logs (R355), and of Fuller's pass in progress the tick of its start and the `fuller_period` of each frame
read, summed (R378). -/
structure TableMem where
  bytes : List Host.Cell := []
  frames : Tbl FrameRec := []
  cache : List CacheSlot := []
  wanted : List Nat := []
  retire : List (Nat × Nat) := []
  eventCount : Nat := 0
  auditCount : Nat := 0
  bootCount : Nat := 0
  passFrom : Nat := 0
  passSum : Nat := 0
deriving DecidableEq, Repr

/-! ### Shadow store (R483 to R500) -/

/-- What a flash slot holds: erased, unreadable, or data with its header (R485). -/
inductive FlashSlot
  | erased
  | bad
  | good (seq txn txnPages : Nat) (powerFail : Bool) (counter : Nat) (data : Tbl Int) (time : List (Nat × DomWords))
deriving DecidableEq, Repr

/-- The two slots of a page, which of them holds the current copy, their program counts, and the failed programs
of the store in progress. -/
structure PageRec where
  a : FlashSlot := .good 0 0 1 false 0 [] []
  b : FlashSlot := .erased
  current : Bool := false
  wearA : Nat := 0
  wearB : Nat := 0
  tries : Nat := 0
deriving DecidableEq, Repr

/-- A way of storing that runs (R488). -/
inductive StoreWay
  | commit (who : Issuer)
  | background
  | timeRecord
  | powerFail
  | restoreFactory
deriving DecidableEq, Repr

/-- A transaction in progress: its way, number, pages in all, pages not yet verified, and whether a page failed
(R487). -/
structure Txn where
  way : StoreWay
  txn : Nat
  pages : Nat
  left : List Nat
  failed : Bool := false
deriving DecidableEq, Repr

/-- The shadow store beside its attributes: the dirty attribute keys with the tick of their first write, dirty pages
marked as a whole, the slots, the running transactions, those that a reset interrupted, until they
are restored (R493), the captured domain words with the tick of their capture (R490), the TIME pages that are DIRTY, the pages whose SRAM copy is marked invalid (R497), the next
transaction number and that at the last restore, spare flash pages, the measured hold-up with the tick of its measurement (R491), and the
duration of the last power-fail store with the tick at which it started (R499). -/
structure StoreUnit where
  dirty : Tbl Nat := []
  dirtyPages : Tbl Nat := []
  pages : Tbl PageRec := []
  running : List Txn := []
  interrupted : List Txn := []
  timeWords : List (Nat × DomWords) := []
  timeDirty : List Nat := []
  timeCounter : Nat := 0
  invalid : List Nat := []
  nextTxn : Nat := 1
  bootTxn : Nat := 1
  spares : Nat := 64
  holdup : Nat := 60
  pfDuration : Option Nat := none
  holdupAt : Nat := 0
  pfFrom : Nat := 0
deriving DecidableEq, Repr

/-! ### Supply, resets and start-up (R393 to R420, R524 to R541) -/

/-- How far the module is up. -/
inductive Phase
  | off
  | held
  | running
  | safeTalk
deriving DecidableEq, Repr

/-- One image slot of boot flash (R399, R400): whether it is valid, and its image pair. -/
structure ImageSlot where
  valid : Bool := false
  holax : ImageHead := {}
  batt : ImageHead := {}
deriving DecidableEq, Repr

/-- An open firmware update (R353). -/
structure FwOpen where
  slot : Nat
  face : Nat
  total : Nat
  bytes : Nat
  crc : Nat
deriving DecidableEq, Repr

/-- Power, reset and start-up state; `restore` is the restart that waits for the erase of `SYSTEM.RESTORE_FACTORY` (R497), `warmDue` a warm reset that waits for the end of a power-state transition (R412), `warmSince` is the tick at which the warm-up in progress began
(R404) and `warmBase` the ticks it had run at a reset that cleared the counter, `loaded` that step 8 has loaded the settings and `sram` that
the shadow SRAM holds them (R364, R418), `counts` that the root has locked since the counter was cleared (R58). -/
structure BootUnit where
  phase : Phase := .running
  vmain : Bool := true
  onHoldup : Bool := false
  pfLow : Bool := false
  heaters : Bool := true
  fetchStopped : Bool := false
  supplyBack : Bool := false
  gafferUp : Bool := true
  restore : Option BootEnv := none
  warmRunning : Bool := false
  warmDue : Bool := false
  lastStep : Nat := 9
  failingStep : Nat := 255
  failCode : Nat := 0
  endCounter : Nat := 0
  slotA : ImageSlot :=
    { valid := true, holax := { version := 0x00040200, id := 1, table := [1], steppings := [17] }
      batt := { version := 0x00040200, id := 1, table := [1], steppings := [17] } }
  slotB : ImageSlot := {}
  fw : Option FwOpen := none
  transition : Option Nat := none
  warmSince : Nat := 0
  warmBase : Nat := 0
  loaded : Bool := true
  sram : Bool := true
  counts : Bool := true
  rolePri : Bool := false
  factoryNLow : Bool := false
  tempAlert : Bool := false
  pwrGood : Bool := true
deriving DecidableEq, Repr

/-! ### Ports, sessions and host queues (R249 to R287) -/

/-- What an Announce of the module carries beside its header (R275, R276). -/
structure AnnounceOut where
  cls : Nat
  accuracy : Nat
  variance : Nat
  source : Nat
  priority1 : Nat
  priority2 : Nat
  steps : Nat
  ptpTimescale : Bool
  timeTraceable : Bool
  freqTraceable : Bool
  gmIdentity : Nat := 0
  utc : UtcFields
deriving DecidableEq, Repr

/-- A frame that the module sends, from its queueing to its last byte (R262 to R265): its class, the session or host
queue it stands in (65535 for none), its length, its launch time with its domain, what it is, the binding slot and the
sequenceId it carries, a receive or precise origin time with its correction, an Announce's fields, the duration of a grant,
the answer to a management message (1 RESPONSE, 2 NO_SUCH_ID, 3 NOT_SUPPORTED), an ESMC PDU's quality (event PDU, SSM,
enhanced SSM, cascade), which request of R254 it answers, for a frame of PORT.SEND, its issuer and the flags of R287, whom it goes to (address 0 for a group), logMessageInterval, the TLVs of
a signaling or management message, the launch descriptor of a timed frame of a session, and the bytes of a frame of PORT.SEND, or of any frame that has left. -/
structure TxFrame where
  cls : FrameClass
  queue : Nat := 0
  length : Nat := 64
  launch : Option (Nat × Int) := none
  kind : Option PtpKind := none
  slot : Nat := 0
  seq : Nat := 0
  host : Option Issuer := none
  oneStep : Bool := false
  tsOffset : Nat := 0
  stamp : Bool := false
  domain : Nat := 0
  receive : Option Int := none
  correction : Int := 0
  announce : Option AnnounceOut := none
  duration : Option Nat := none
  answer : Nat := 0
  esmc : Option (Bool × Nat × Nat × Nat) := none
  reply : Option ReplyKind := none
  twoStep : Bool := false
  released : Bool := false
  late : Bool := false
  departure : Option Int := none
  peer : Partner := ⟨0, 0⟩
  log : Int := 127
  body : List Byte := []
  desc : Option Nat := none
  data : List Byte := []
deriving DecidableEq, Repr

/-- A master that a binding has heard (R274): its address and portIdentity, its last Announce, the tick of that and of the one before. -/
structure Foreign where
  sender : Partner
  fields : AnnounceFields
  last : Nat
  before : Option Nat
deriving DecidableEq, Repr

/-- The run-time state of one binding beside its entry and its portState (R274, R277): the tick at which it entered that state, the masters
that it hears, the parent that it follows, the parent's last Announce, whether that is within its timeout, the stamp of a two-step Sync that waits for its Follow_Up,
the last Sync measurement, the path delay, asCapable and
neighborRateRatio under AS2020, the sequenceIds last sent, and an unbind that waits (R273). -/
structure BindRec where
  since : Nat := 0
  foreign : List Foreign := []
  parent : Option Partner := none
  announce : Option AnnounceFields := none
  announceAlive : Bool := false
  awaiting : Option (Nat × Int × Int) := none
  masterToSlave : Int := 0
  delayReqSent : Option (Nat × Int) := none
  pdelaySent : Option (Nat × Int) := none
  pdelayLast : Option (Int × Int) := none
  slaveToMaster : Int := 0
  pathDelay : Int := 0
  asCapable : Bool := false
  rateRatio : Int := 0
  txSeq : Nat := 0
  unbinding : Bool := false
deriving DecidableEq, Repr

/-- One port beside its attributes: whether PTP is usable (R250), the frames that wait for the transmit buffer, those in
it, those whose SFD has passed, the sends that wait for room in their queue, the tokens of the responder with the tick at
which they stood (R283), the start and the count of the second in progress of the ARP, NDP and echo limits (R254), the
bindings, and the transit FIFO towards the partner port (R253): the tick at which each frame in it leaves, and its length. -/
structure PortRec where
  ready : Bool := false
  waiting : List TxFrame := []
  buffer : List TxFrame := []
  leaving : List TxFrame := []
  sends : List TxFrame := []
  tokens : Option (Nat × Nat) := none
  replies : Tbl (Nat × Nat) := []
  binds : Tbl BindRec := []
  fifo : List (Nat × Nat) := []
deriving DecidableEq, Repr

/-- One grant of a session (R281, R286): in force until a tick, and what the module as grantee is doing about it,
since which tick. -/
structure GrantRec where
  expires : Option Nat := none
  log : Int := 0
  asking : Bool := false
  tries : Nat := 0
  backoff : Bool := false
  since : Nat := 0
deriving DecidableEq, Repr

/-- One session beside its attributes (R278, R284): its grants by message type, the order of its creation, the
sequenceIds last received, the type of the partner's address and the partner. -/
structure SessRec where
  grants : Tbl GrantRec := []
  order : Nat := 0
  lastSeq : Tbl Nat := []
  addrType : Nat := 4
  partner : Partner := ⟨0, 0⟩
deriving DecidableEq, Repr

/-- The ports, the sessions and how many sessions have been created. -/
structure NetUnit where
  ports : Tbl PortRec := []
  sessions : Tbl SessRec := []
  created : Nat := 0
deriving DecidableEq, Repr

/-! ### Interval counters (R289 to R309) -/

/-- A stamp as a TIC uses it: its counter value, its place in units of tick / 1024 after linearity and delays (R290, R293, R294), and the
phase of the timebase's member at it in 2^-16 ns (R300). -/
structure TicPoint where
  count : Nat
  pos : Int
  phase : Int
deriving DecidableEq, Repr

/-- An open start of a TIC (R297): its stamp and the window in ps that it was opened under. -/
structure TicStart where
  point : TicPoint
  opens : Nat
  closes : Nat
deriving DecidableEq, Repr

/-- A raw measurement as the average holds it (R302): its value, its flags, and the ticks of its first and its newest
stamp. -/
structure TicRaw where
  value : Int
  flags : Nat
  first : Nat
  newest : Nat
deriving DecidableEq, Repr

/-- The statistics block in progress (R305). -/
structure TicBlock where
  n : Nat := 0
  sum : Int := 0
  squares : Int := 0
  min : Int := 0
  max : Int := 0
  excluded : Nat := 0
  first : Nat := 0
  last : Nat := 0
  seq : Nat := 0
deriving DecidableEq, Repr

/-- One TIC beside its attributes: the open starts, the last stamp of A, the raw measurements averaged, newest first, the
counts of flagged measurements still to come (R304), whether an edge was missed (R295), the domain's `steps` at the measurement before (R301), and the block. -/
structure TicRec where
  starts : List TicStart := []
  lastA : Option TicPoint := none
  raws : List TicRaw := []
  settling : Nat := 0
  window : Nat := 0
  fill : Nat := 0
  missed : Bool := false
  steps : Nat := 0
  block : TicBlock := {}
deriving DecidableEq, Repr

/-! ### Repair and performance counters (R450 to R460, R501 to R514) -/

/-- One engine cluster (R450): the physical engine of each logical engine (9 = none), its spare, whether it is lost, a
repair in progress (logical engine, cause and the domains that had a task on it when it failed). -/
structure ClusterRec where
  map : List Nat := [0, 1, 2, 3, 4, 5, 6, 7]
  spare : Option Nat := some 8
  lost : Bool := false
  repair : Option (Nat × Nat × List Nat) := none
deriving DecidableEq, Repr

/-- One stamping channel (R96, R457): the physical channel that serves it, whether it failed and waits for its
replacement, and whether it is out of service. -/
structure ChannelRec where
  phys : Nat := 52
  failed : Bool := false
  lost : Bool := false
deriving DecidableEq, Repr

/-- The clusters, the stamping channels by number, the spare channels that are free, and the free channels that the
counters use (R292), and the repair records of a self-test that wait for step 8 (R458). -/
structure RepairUnit where
  clusters : Tbl ClusterRec := []
  channels : Tbl ChannelRec := []
  spares : List Nat := [48, 49, 50, 51]
  free : Tbl Nat := []
  found : List Nat := []
deriving DecidableEq, Repr

/-- The counter block of one cluster (R501): OVF, CFG_GEN, and what its counters follow from (R502 to R505): the slots issued up to the
tick `since`, in fifths of a slot, those of them of an engine under repair, the slots that samples cost, and for each PMC the slot
from which it counts (R507). -/
structure PmcRec where
  ovf : Nat := 0
  cfgGen : Nat := 0
  fifths : Nat := 0
  idle : Nat := 0
  costs : Nat := 0
  since : Nat := 0
  counted : Tbl Nat := []
deriving DecidableEq, Repr

/-! ### Mate pair (R461 to R482) -/

/-- The sleep agreement (R477): the command that asked for it here, if one did, and the entry instant once committed. -/
structure Agreement where
  who : Option Issuer := none
  committed : Option Nat := none
deriving DecidableEq, Repr

/-- The mate logic: the claim (CHG_REQ), the ROLE_ACT pin, the mate's claim as read on CHG_ACK, whether MATE_ALIVE_IN has
edges, the trigger of a takeover whose adoption is due, whether the wait of R464 for the mate's claim runs, the peer as it
trained, whether the selectors follow the implicit mate references (R469), the last complete snapshot, the EPOCH last sent,
the link errors of the second in progress with its start, a changeover in progress with its command (R474), the sleep
agreement, a wake request that waits for the entry (R478), the mirrored sessions' summaries with the stale ones
(R479), the ticks at which the claim rose, CHG_ACK last fell, the wait of R464 began, a snapshot was last sent and the changeover began, and
the tick and the snapshot age in ms at which ROLE_ACT last rose after a trigger (R473, R480). -/
structure MateUnit where
  claim : Bool := false
  roleAct : Bool := true
  ack : Bool := false
  aliveIn : Bool := false
  takeover : Option Nat := none
  deciding : Bool := false
  peer : Option MatePeer := none
  tracking : Bool := false
  snap : Option Snapshot := none
  snapSent : Nat := 0
  errSince : Nat := 0
  errCount : Nat := 0
  changeover : Option (Option Issuer) := none
  agreement : Option Agreement := none
  wakeDue : Bool := false
  stale : List Nat := []
  mirror : Tbl Nat := []
  claimAt : Nat := 0
  ackAt : Nat := 0
  decideFrom : Nat := 0
  snapAt : Nat := 0
  changeAt : Nat := 0
  tookAt : Nat × Nat := (0, 0)
deriving DecidableEq, Repr

/-! ### What the module sends -/

/-- What leaves the module: writes to host memory, MSI-X messages, console lines, messages and frames. The list of
them is the model's own trace (log entry 6). -/
inductive Emission
  | completion (client slot : Nat) (entry : List Byte) (flag : Nat)
  | hostWrite (addr : Nat) (bytes : List Byte)
  | event (client slot : Nat) (r : EventRec) (phase : Bool)
  | overflow (client slot lost : Nat) (phase : Bool)
  | msix (vector address data : Nat)
  | spiRead (bytes : List Byte)
  | registerRead (value : Nat)
  | console (name : String) (signed : Bool) (status : Nat) (bytes : List Byte)
  | consoleValue (name : String) (signed : Bool) (bytes : List Byte)
  | consoleEvent (r : EventRec)
  | consolePrompt
  | echo (char : Nat)
  | frame (port : Nat) (f : TxFrame)
  | forward (port : Nat) (kind : TransitKind) (length : Nat) (correction : Int) (checksum : Nat) (icv : List Byte)
  | mate (message : Nat) (value : Nat)
  | snapshot (snap : Snapshot)
  | todMessage (n : Nat) (g8271 : Bool) (seconds : Int) (civil : CivilTime) (dateValid : Bool) (zone : Int) (status cls accuracy : Nat) (utc : UtcFields)
deriving DecidableEq, Repr

/-! ### The whole module -/

/-- The state of the module: the free-running counter (R58), the attribute file, every unit, the queue of commands that
wait, the counter the free values are drawn with, and the trace of what the module has sent, newest first. -/
structure State where
  counter : Nat
  attrs : Tbl Int
  crucible : Crucible
  doms : Tbl DomRec
  inputs : Tbl InputRec
  uarts : Tbl Uart
  factory : FactoryUnit
  sels : Tbl SelRec
  dplls : Tbl DpllRec
  syns : Tbl SynRec
  outs : Tbl OutRec
  arms : Tbl CommitArm
  gens : Tbl GenRec
  faults : FaultUnit
  host : HostUnit
  tm : TableMem
  store : StoreUnit
  boot : BootUnit
  net : NetUnit
  tics : Tbl TicRec
  repair : RepairUnit
  pmcs : Tbl PmcRec
  mate : MateUnit
  pending : List Instr
  freeCount : Nat
  out : List Emission
deriving DecidableEq, Repr

/-- The attributes whose value at the end of step 9 of the first power-on is not their table default: slot A valid
with its versions and IDs, the members warming up with OSC0 in the lead (R52, R55), the root locked, the power cycle
counted (R493), the role of a SINGLE module (R461). Log entry 2 names the values that the spec does not give. -/
def State.resetAttrs : Tbl Int :=
  [(Attr.slot_valid.key 0 0, 1), (Attr.slot_versions.key 0 0, 0x00040200), (Attr.slot_versions.key 0 1, 0x00040200),
   (Attr.compat_id.key 0 0, 1), (Attr.compat_id.key 0 1, 1),
   (Attr.osc_state.key 0 0, 2), (Attr.osc_state.key 0 1, 2), (Attr.osc_state.key 0 2, 2), (Attr.osc_state.key 0 3, 1),
   (Attr.osc_weight.key 0 0, 65536), (Attr.root_locked.key 0 0, 1),
   (Attr.store_holdup_ms.key 0 0, 60), (Attr.store_last_txn.key 0 0, 1), (Attr.store_wear.key 0 0, 1), (Attr.store_power_cycles.key 0 0, 1), (Attr.mate_role.key 0 0, 0)]

/-- The shadow store after the first power-on: page 64 stored at once with `power_cycles` 1 (R493). -/
def StoreUnit.reset : StoreUnit :=
  { pages := [(64, { a := .erased, b := .good 1 1 1 false 0 [(Attr.store_power_cycles.key 0 0, 1)] [], current := true, wearB := 1 })]
    nextTxn := 2, bootTxn := 2 }

/-- The module right after reset: a factory-default module at the end of step 9 of its first power-on (R393 to R396).
Rings disabled, nothing in flight, table memory zero (R372), the counter at 0, six clusters without a spare (R450). -/
def State.reset : State :=
  { counter := 0, attrs := State.resetAttrs, crucible := {}, doms := [], inputs := [], uarts := [], factory := {}, sels := [], dplls := [], syns := []
    outs := [], arms := [], gens := [], faults := {}, host := {}, tm := {}, store := StoreUnit.reset, boot := {}, net := {}, tics := []
    repair := { clusters := [(10, { spare := none }), (11, { spare := none }), (12, { spare := none }), (13, { spare := none }),
      (14, { spare := none }), (15, { spare := none })] }
    pmcs := [], mate := {}, pending := [], freeCount := 0, out := [] }

/-- Why the module would stop with a fault: the spec gives no command such an end (a fault of the module is the fault
collector's, R424, and the machine goes on), so no meaning of the model raises one. Safe: it is never raised. -/
inductive Fault
  /-- Raised by nobody: the type is closed and holds this one name so that an outcome can be written. Safe. -/
  | unreachable
deriving DecidableEq, Repr

/-- Why the model gives a command no meaning. -/
inductive Refusal
  /-- Raised by an arm of `exec` whose command has no meaning in the model yet. Safe: the machine stops. -/
  | notModelled (mnemonic : String)
deriving DecidableEq, Repr

end Sys2Proof.Machine
end

