-- ==== Sys2Proof/Machine/Ops.lean ====
section
/-! DEFINITION. The named operations that the commands' meanings share: reading and writing attributes and the records
of the units, time in a domain, table memory, the fault collector's occurrence, the completion of a command, and the
state after reset. -/

namespace Sys2Proof.Machine

/-! ### Attributes and records -/

/-- Ticks of the free-running counter in one second: 1.35 GHz (R58). -/
def ticksPerSecond : Nat := 1350000000

/-- The value of an attribute that has a place of its own in the attribute file. -/
def State.attr (s : State) (a : AttrDesc) (i : Nat := 0) (e : Nat := 0) : Int :=
  tblGet s.attrs (a.dflt (if a.shared then 0 else i) e) (a.key i e)

/-- An attribute as a natural number. -/
def State.attrN (s : State) (a : AttrDesc) (i : Nat := 0) (e : Nat := 0) : Nat := (s.attr a i e).toNat

/-- A bool attribute. -/
def State.flag (s : State) (a : AttrDesc) (i : Nat := 0) (e : Nat := 0) : Bool := s.attr a i e != 0

/-- Marks the shadow page of a STORED attribute's key DIRTY from this tick on (R484). -/
def StoreUnit.mark (u : StoreUnit) (key now : Nat) : StoreUnit :=
  match tblFind u.dirty key with
  | some _ => u
  | none => { u with dirty := tblPut u.dirty key now }

/-- Gives an attribute a value. A write that changes a STORED attribute makes its shadow page DIRTY (R484). -/
def State.put (s : State) (a : AttrDesc) (i e : Nat) (v : Int) : State :=
  if v = s.attr a i e then s
  else
    { s with
      attrs := tblSet s.attrs (a.dflt (if a.shared then 0 else i) e) (a.key i e) v
      store := if a.surv = .stored then s.store.mark (a.key i e) s.counter else s.store }

/-- Gives a scalar attribute of an instance a value. -/
def State.put1 (s : State) (a : AttrDesc) (i : Nat) (v : Int) : State := s.put a i 0 v

/-- Adds to a counter attribute, which wraps at its width (log entry 10). -/
def State.add (s : State) (a : AttrDesc) (i e n : Nat) : State :=
  s.put a i e ((s.attr a i e + n) % (256 ^ a.bytes : Nat))

/-- Adds 1 to a scalar counter attribute. -/
def State.bump (s : State) (a : AttrDesc) (i : Nat := 0) : State := s.add a i 0 1

/-- Writes a list of elements from element `e` on. -/
def State.putList (s : State) (a : AttrDesc) (i : Nat) : Nat → List Int → State
  | _, [] => s
  | e, v :: vs => (s.put a i e v).putList a i (e + 1) vs

/-- Returns the attributes whose key satisfies `p` to their defaults; a STORED one makes its page DIRTY (R484). -/
def State.resetKeys (s : State) (p : Nat → Bool) : State :=
  { s with
    attrs := tblKeep (fun k => !p k) s.attrs
    store := (s.attrs.filter fun e => p e.1).foldl
      (fun u e => if keySurv e.1 = some .stored then u.mark e.1 s.counter else u) s.store }

/-- Whether a key belongs to an instance of an object. -/
def keyOf (o : Obj) (inst k : Nat) : Bool := decide (Obj.ofAttr (keyId k) = some o) && keyInst k == inst

def State.dom (s : State) (d : Nat) : DomRec := tblGet s.doms {} d
def State.setDom (s : State) (d : Nat) (r : DomRec) : State := { s with doms := tblSet s.doms {} d r }
def State.input (s : State) (n : Nat) : InputRec := tblGet s.inputs {} n
def State.setInput (s : State) (n : Nat) (r : InputRec) : State := { s with inputs := tblSet s.inputs {} n r }
def State.sel (s : State) (n : Nat) : SelRec := tblGet s.sels {} n
def State.setSel (s : State) (n : Nat) (r : SelRec) : State := { s with sels := tblSet s.sels {} n r }
def State.dpll (s : State) (n : Nat) : DpllRec := tblGet s.dplls {} n
def State.setDpll (s : State) (n : Nat) (r : DpllRec) : State := { s with dplls := tblSet s.dplls {} n r }
def State.syn (s : State) (n : Nat) : SynRec := tblGet s.syns {} n
def State.setSyn (s : State) (n : Nat) (r : SynRec) : State := { s with syns := tblSet s.syns {} n r }
def State.outp (s : State) (n : Nat) : OutRec := tblGet s.outs {} n
def State.setOutp (s : State) (n : Nat) (r : OutRec) : State := { s with outs := tblSet s.outs {} n r }
def State.gen (s : State) (g : Nat) : GenRec := tblGet s.gens {} g
def State.setGen (s : State) (g : Nat) (r : GenRec) : State := { s with gens := tblSet s.gens {} g r }
def State.ring (s : State) (c : Nat) : Ring := tblGet s.host.rings {} c
def State.setRing (s : State) (c : Nat) (r : Ring) : State :=
  { s with host := { s.host with rings := tblSet s.host.rings {} c r } }
def State.port (s : State) (p : Nat) : PortRec := tblGet s.net.ports {} p
def State.setPort (s : State) (p : Nat) (r : PortRec) : State :=
  { s with net := { s.net with ports := tblSet s.net.ports {} p r } }
def State.sess (s : State) (n : Nat) : SessRec := tblGet s.net.sessions {} n
def State.setSess (s : State) (n : Nat) (r : SessRec) : State :=
  { s with net := { s.net with sessions := tblSet s.net.sessions {} n r } }
def State.tic (s : State) (n : Nat) : TicRec := tblGet s.tics {} n
def State.setTic (s : State) (n : Nat) (r : TicRec) : State := { s with tics := tblSet s.tics {} n r }
def State.cluster (s : State) (c : Nat) : ClusterRec := tblGet s.repair.clusters {} c
def State.setCluster (s : State) (c : Nat) (r : ClusterRec) : State :=
  { s with repair := { s.repair with clusters := tblSet s.repair.clusters {} c r } }
def State.channel (s : State) (ch : Nat) : ChannelRec := tblGet s.repair.channels {} ch
def State.setChannel (s : State) (ch : Nat) (r : ChannelRec) : State :=
  { s with repair := { s.repair with channels := tblSet s.repair.channels {} ch r } }

/-- The physical channel that serves a stamping channel: its own, unless a spare has taken its place (R96, R457). -/
def State.channelPhys (s : State) (ch : Nat) : Nat := if (s.channel ch).phys = 52 then ch else (s.channel ch).phys

def State.uart (s : State) (k : Nat) : Uart := tblGet s.uarts {} k
def State.setUart (s : State) (k : Nat) (u : Uart) : State := { s with uarts := tblSet s.uarts {} k u }

/-- Whether a stamping channel makes no stamps: it failed and waits for its spare, or is out of service (R457). -/
def State.channelDown (s : State) (ch : Nat) : Bool := (s.channel ch).failed || (s.channel ch).lost

def State.pmc (s : State) (c : Nat) : PmcRec := tblGet s.pmcs {} c
def State.setPmc (s : State) (c : Nat) (r : PmcRec) : State := { s with pmcs := tblSet s.pmcs {} c r }
def State.latch (s : State) (ev : Nat) : Latch := tblGet s.faults.latches {} ev
def State.setLatch (s : State) (ev : Nat) (l : Latch) : State :=
  { s with faults := { s.faults with latches := tblSet s.faults.latches {} ev l } }
def State.page (s : State) (p : Nat) : PageRec := tblGet s.store.pages {} p
def State.setPage (s : State) (p : Nat) (r : PageRec) : State :=
  { s with store := { s.store with pages := tblSet s.store.pages {} p r } }

/-- The first element of a list that satisfies `p`, and the rest. -/
def takeFirst {α : Type} (p : α → Bool) : List α → Option (α × List α)
  | [] => none
  | x :: xs => if p x then some (x, xs) else (takeFirst p xs).map fun r => (r.1, x :: r.2)

/-- Adds to the trace of what the module has sent (log entry 6). -/
def State.emit (s : State) (x : Emission) : State := { s with out := x :: s.out }

/-- An instant that a command row asserts and that the state holds has come: the counter stands at it at least (log
entry 8). -/
def State.advance (s : State) (t : Nat) : State := { s with counter := max s.counter t }

/-- The next free value (log entry 3). -/
def State.free (s : State) : Int := Config.freeValue s.freeCount

/-- Steps past the free value that was used. -/
def State.spend (s : State) : State := { s with freeCount := s.freeCount + 1 }

/-- Runs an operation over a list of numbers in order. -/
def State.forEach (s : State) : List Nat → (State → Nat → State) → State
  | [], _ => s
  | n :: ns, f => (f s n).forEach ns f

/-! ### Domains in outline: created, bound, time (R59, R71, R73) -/

/-- Whether a domain is CREATED (R71). -/
def State.created (s : State) (d : Nat) : Bool := s.attr Attr.domain_state d == 1

/-- The DPLL a domain is bound to (R73). -/
def State.boundDpll (s : State) (d : Nat) : Option Nat :=
  if s.created d && decide (0 ≤ s.attr Attr.domain_bound_dpll d) && decide (s.attr Attr.domain_bound_dpll d < 16) then
    some (s.attrN Attr.domain_bound_dpll d)
  else none

/-- The domain bound to a DPLL (R16). -/
def State.boundDom (s : State) (n : Nat) : Option Nat :=
  (List.range 512).find? fun d => s.boundDpll d == some n

/-- A time in a domain under given words (R59): the stamp `count`, `vernier` in 2^-16 ns, rounded half up. -/
def DomWords.time (w : DomWords) (count : Nat) (vernier : Nat) : Int :=
  w.offset + ((((count : Int) - w.anchor) * 1024 + vernier) * w.period + 2 ^ 41) / 2 ^ 42

/-- The first counter value at which the time under given words has reached `t` (R59). -/
def DomWords.tickAt (w : DomWords) (t : Int) : Nat :=
  if w.period = 0 then w.anchor
  else ((w.anchor : Int) + ((t - w.offset) * 2 ^ 42 - 2 ^ 41 + (1024 * w.period - 1)) / (1024 * w.period : Nat)).toNat

/-- The words that an update sets at its instant (R61). -/
def DomWords.after (w : DomWords) (u : DomUpdate) : DomWords :=
  { offset := (match u.absolute with | some o => o | none => w.time u.instant 0) + u.delta
    anchor := u.instant
    period := u.period }

/-- The words of a domain in force at a counter value (R61, R63): those of an update from its instant on, those before
the last update ahead of its instant. -/
def DomRec.wordsAt (r : DomRec) (count : Nat) : DomWords :=
  match r.pend with
  | some u =>
    if u.instant ≤ count then r.words.after u
    else match r.lastUpdate, r.prev with
      | some t, some w => if count < t then w else r.words
      | _, _ => r.words
  | none =>
    match r.lastUpdate, r.prev with
    | some t, some w => if count < t then w else r.words
    | _, _ => r.words

/-- The time of a domain at a stamp, in 2^-16 ns (R59, R63). -/
def State.domTime (s : State) (d count : Nat) (vernier : Nat := 0) : Int :=
  ((s.dom d).wordsAt count).time count vernier

/-- The time under given words at a place in tick / 1024 (R59), rounded half up. -/
def DomWords.timeAt (w : DomWords) (place : Int) : Int := w.offset + ((place - (w.anchor : Int) * 1024) * w.period + 2 ^ 41) / 2 ^ 42

/-- The time of a domain at a stamp's place (R59, R63, R93). -/
def State.domTimeAt (s : State) (d : Nat) (place : Int) : Int := ((s.dom d).wordsAt (place / 1024).toNat).timeAt place

/-- The time of a domain now. -/
def State.domNow (s : State) (d : Nat) : Int := s.domTime d s.counter

/-- An instant of a domain's time that the state holds and a command row asserts has come (log entry 8). -/
def State.reach (s : State) (d : Nat) (t : Int) : State := s.advance (((s.dom d).wordsAt s.counter).tickAt t)

/-- Whole seconds of a time. -/
def secondsOf (t : Int) : Int := t / secondUnits

/-- A time value of 16 bytes (R68): SECONDS, NANOSECONDS and FRACTION. -/
def timeBytes (t : Int) : List Byte :=
  intBytesLE 8 (t / secondUnits) ++ bytesLE 4 ((t % secondUnits / 65536).toNat) ++ bytesLE 2 ((t % 65536).toNat) ++ bytesLE 2 0

/-- The time that a 16-byte time value spells (R68), none where its NANOSECONDS are 10^9 or more or a reserved bit is
set in its FRACTION word's upper half (which R12 has the module ignore). -/
def timeOfNat (v : Nat) : Option Int :=
  let sec : Nat := v % 2 ^ 64
  let ns : Nat := v / 2 ^ 64 % 2 ^ 32
  let frac : Nat := v / 2 ^ 96 % 2 ^ 16
  if 1000000000 ≤ ns then none else some ((sec : Int) * secondUnits + (ns : Int) * 65536 + frac)

/-! ### The fault collector (R421 to R442) -/

/-- The scope of a synthesiser fault on SYNn (R203, R210): OUT4n to OUT4n+3 and the ports that use its tap. -/
def State.synScope (s : State) (n : Nat) : List ScopeItem :=
  [.out (4 * n), .out (4 * n + 1), .out (4 * n + 2), .out (4 * n + 3)] ++
    ((List.range 4).filter fun p => s.flag Attr.port_enable p && s.attr Attr.port_ref_syn p == n).map .port

/-- The containment scope that a source's definition fixes (R34, R180, R203, R210, R211, R248, R391). -/
def State.fixedScope (s : State) (ev : Nat) : List ScopeItem :=
  if 112 ≤ ev && ev < 144 && ev % 4 ≤ 1 then s.synScope (ev / 4 - 28)
  else if 144 ≤ ev && ev < 240 && (ev - 144) % 6 == 5 then
    .dpll ((ev - 144) / 6) :: ((s.boundDom ((ev - 144) / 6)).map ScopeItem.dom).toList
  else if 240 ≤ ev && ev < 272 && ev % 4 ≤ 1 then s.synScope ((ev - 240) / 4)
  else if 272 ≤ ev && ev < 304 then [.out (ev - 272)]
  else if ev == 330 then (List.range 32).map .out ++ (List.range 18).map .gen ++ (List.range 4).map .port
  else if ev == 398 then (List.range 32).map .out ++ (List.range 18).map .gen
  else if 560 ≤ ev && ev < 578 then [.gen (ev - 560)]
  else []

/-- The scope that a latch holds now, before expansion (R429). -/
def State.scopeOf (s : State) (ev : Nat) : List ScopeItem := s.fixedScope ev ++ (s.latch ev).held

/-- The sources whose latch has CLASS SEVERE (R436). -/
def State.severe (s : State) : List Nat :=
  s.faults.latches.filterMap fun e => if e.2.latched && e.2.cls == 3 then some e.1 else none

/-- What SEVERE latches hold, before expansion. -/
def State.severeScope (s : State) : List ScopeItem := s.severe.flatMap s.scopeOf

/-- The DPLLs that a list of scope items holds: its DPLLs, and those of its bound domains (R430). -/
def State.heldDplls (s : State) (items : List ScopeItem) : List Nat :=
  items.filterMap fun x => match x with
    | .dpll n => some n
    | .dom d => s.boundDpll d
    | _ => none

/-- Whether an output is forced to SAFE by a list of scope items (R430). -/
def State.outForced (s : State) (items : List ScopeItem) (n : Nat) : Bool :=
  items.contains (.out n) || (s.heldDplls items).contains (s.attrN Attr.syn_dpll_active (n / 4))

/-- The attribute that gives a generator its domain (R241): generators 0 to 7 VIDGEN, 8 to 13 AUDGEN, 14 and 15
TCGEN, 16 and 17 TODGEN. -/
def State.genDomain (s : State) (g : Nat) : Nat :=
  if g < 8 then s.attrN Attr.vidgen_domain g
  else if g < 14 then s.attrN Attr.audgen_domain (g - 8)
  else if g < 16 then s.attrN Attr.tcgen_domain (g - 14)
  else s.attrN Attr.todgen_domain (g - 16)

/-- Whether a generator is forced to SAFE by a list of scope items (R430). -/
def State.genForced (s : State) (items : List ScopeItem) (g : Nat) : Bool :=
  items.contains (.gen g) ||
    (match s.boundDpll (s.genDomain g) with
     | some n => (s.heldDplls items).contains n
     | none => false)

/-- Whether OUTn is held SAFE by a SEVERE latch (R432). -/
def State.outSafe (s : State) (n : Nat) : Bool := s.outForced s.severeScope n
/-- Whether a generator is held SAFE by a SEVERE latch (R432). -/
def State.genSafe (s : State) (g : Nat) : Bool := s.genForced s.severeScope g
/-- Whether a port's transmitter is held idle by a SEVERE latch (R431). -/
def State.portForced (s : State) (p : Nat) : Bool := s.severeScope.contains (.port p)
/-- Whether a domain's frames are dropped under a SEVERE latch (R431). -/
def State.domForced (s : State) (d : Nat) : Bool := s.severeScope.contains (.dom d)

/-- One class up (R427). -/
def classUp (c : Nat) : Nat := if c < 3 then c + 1 else 3

/-- Whether a domain policy makes an occurrence SEVERE (R433). -/
def State.policySevere (s : State) (ev : Nat) : Bool :=
  let held (n mask : Nat) : Bool :=
    match s.boundDom n with
    | some d => bitOf (s.attrN Attr.fault_domain_policy 0 d) mask
    | none => false
  if 496 ≤ ev && ev < 512 then held (ev - 496) 0
  else if 144 ≤ ev && ev < 240 && (ev - 144) % 6 == 5 then held ((ev - 144) / 6) 1
  else false

/-- The count window after an occurrence, and whether the occurrence meets the count rule (R426). -/
def State.countRule (s : State) (ev : Nat) (l : Latch) : Option (Nat × Nat) × Bool :=
  let n := s.attrN Attr.fault_count_n ev
  if n = 0 then (none, false)
  else
    match l.window with
    | some (opened, k) =>
      if s.counter < opened + s.attrN Attr.fault_count_w ev * 1350000 then
        (some (opened, k + 1), n == 1 || k + 1 == n)
      else (some (s.counter, 1), n == 1)
    | none => (some (s.counter, 1), n == 1)

/-- The class of a latch that stands unacknowledged, as it stood before this tick (R425, R427, R428): occurrences of one source on one
tick are classified as one. -/
def State.standing (s : State) (l : Latch) : Option Nat :=
  if !l.latched || l.acked then none else if l.last = s.counter then l.prior else some l.cls

/-- The class of an occurrence (R425, R427). -/
def State.classify (s : State) (ev : Nat) (l : Latch) : Nat :=
  let c := if (s.countRule ev l).2 || s.policySevere ev then 3 else Ev.baseClass ev
  if s.flag Attr.fault_escalate ev && decide (s.standing l = some c) then classUp c else c

/-- The latch after an occurrence (R424). -/
def State.latchAfter (s : State) (ev : Nat) (cause : Bool) (dyn : List ScopeItem) : Latch :=
  let l := s.latch ev
  { cls := max l.cls (s.classify ev l)
    latched := true
    acked := false
    cause := cause
    count := (l.count + 1) % 2 ^ 32
    last := s.counter
    window := (s.countRule ev l).1
    held := l.held ++ dyn.filter fun x => !l.held.contains x
    prior := s.standing l }

/-- The domains that a scope holds, for the routing of records (R29): its domains and the domains bound to its DPLLs. -/
def State.scopeDomains (s : State) (items : List ScopeItem) : List Nat :=
  (items.filterMap fun x => match x with
    | .dom d => some d
    | .dpll n => s.boundDom n
    | _ => none).eraseDups

/-- Merges an occurrence into the record of the same client and source that waits, or adds a record (R335). -/
def mergeRecord (r : EventRec) : List EventRec → List EventRec
  | [] => [r]
  | q :: qs =>
    if q.client == r.client && q.source == r.source then
      { q with repeats := satNat 65535 (q.repeats + 1), cls := max q.cls r.cls } :: qs
    else q :: mergeRecord r qs

/-- Whether a client has subscribed to a source (R361): bit `ev` of its subscriptions. -/
def State.subscribed (s : State) (client ev : Nat) : Bool := bitOf (tblGet s.faults.subs 0 client) ev

/-- The records of an occurrence (R29, R334): one for client 0 without a domain, and one for each subscribed owner of a
domain in scope. -/
def State.records (s : State) (ev cls detail : Nat) (items : List ScopeItem) : List EventRec :=
  let mk (client domain : Nat) : EventRec :=
    { client := client, source := ev, cls := cls, counter := s.counter, repeats := 1, detail := detail, domain := domain }
  mk 0 0x1FF ::
    ((s.scopeDomains items).filterMap fun d =>
      let c := s.attrN Attr.domain_owner_client d
      if c != 0 && s.subscribed c ev then some (mk c d) else none)

/-- Whether a source belongs to an oscillator that a Q1 does not have: OSC1 or OSC2 outvoted or its oven (R2). Such a source reads
as not fitted: it never latches, and its FAULT attributes read 0 (DESIGN CHOICE, log entry 81). -/
def State.notFitted (s : State) (ev : Nat) : Bool := decide (2 ≤ s.attr Attr.variant) && [321, 322, 327, 328].contains ev

/-- What the collector does with one occurrence (R424 to R428): it latches and classifies it, and its records wait for
the Gaffer. A reserved source never latches (R421), nor does one that is not fitted (R2). -/
def State.occur (s : State) (ev : Nat) (cause : Bool := false) (detail : Nat := 0) (dyn : List ScopeItem := []) : State :=
  if !Ev.defined ev || s.notFitted ev then s
  else
    let t := s.setLatch ev (s.latchAfter ev cause dyn)
    { t with faults := { t.faults with waiting := (t.records ev (s.classify ev (s.latch ev)) detail (t.scopeOf ev)).foldl (fun q r => mergeRecord r q) t.faults.waiting } }

/-- Whether a source that its chapter limits to once per second may occur now (R424), and the mark that it did. -/
def State.onceDue (s : State) (ev : Nat) : Bool :=
  match tblFind s.faults.onceAt ev with
  | some t => decide (t + ticksPerSecond ≤ s.counter)
  | none => true
def State.markOnce (s : State) (ev : Nat) : State :=
  { s with faults := { s.faults with onceAt := tblPut s.faults.onceAt ev s.counter } }

/-- An occurrence, at most once per second, of a source without a scope. -/
def State.occurOnce (s : State) (ev : Nat) (detail : Nat := 0) : State :=
  if s.onceDue ev then (s.markOnce ev).occur ev false detail else s

/-! ### Table memory (R366 to R370, R376) -/

/-- The pages of the logical space (R366). -/
def lpnCount : Nat := 3932160
/-- The first byte after the logical space (R366). -/
def tmSize : Nat := 0x3C0000000

/-- The byte of table memory at a logical address; an unlisted byte reads 0, as initialisation wrote it (R372). -/
def TableMem.byte (m : TableMem) (a : Nat) : Byte := tblGet m.bytes 0 a

/-- Writes bytes at a logical address, in the canonical form. -/
def TableMem.write (m : TableMem) (a : Nat) (bs : List Byte) : TableMem :=
  { m with bytes := tblSetRun (0 : Byte) m.bytes a bs }

/-- Reads `n` bytes at a logical address. -/
def TableMem.read (m : TableMem) (a n : Nat) : List Byte := tblGetRun m.bytes (0 : Byte) a n

/-- The canonical form of table memory: rising addresses and no listed byte equal to 0. -/
def Memory.wf (m : TableMem) : Bool := tblCanonical (0 : Byte) m.bytes

/-- The entries of the Cullet table that are VALID, as (LPN, spare index) pairs (R381). -/
def State.cullet (s : State) : List (Nat × Nat) :=
  (List.range 32).filterMap fun e =>
    let v := s.attrN Attr.cullet 0 e
    if bitOf v 28 then some (v % 4194304, v / 4194304 % 64) else none

/-- The frame that holds a page (R367): its own, unless a Cullet entry remaps it. -/
def State.frameOf (s : State) (lpn : Nat) : Nat :=
  match s.cullet.find? fun e => e.1 == lpn with
  | some e => 3932160 + e.2
  | none => lpn

/-- What the controller holds of a frame. -/
def State.frame (s : State) (f : Nat) : FrameRec := tblGet s.tm.frames {} f
def State.setFrame (s : State) (f : Nat) (r : FrameRec) : State :=
  { s with tm := { s.tm with frames := tblSet s.tm.frames {} f r } }

/-- Whether a page is poisoned (R376). -/
def State.poisoned (s : State) (lpn : Nat) : Bool := (s.frame (s.frameOf lpn)).poison

/-- The ledger regions 4, 5 and 6 (R366, R367). -/
def ledgerRegion (lpn : Nat) : Bool := decide (76288 ≤ lpn) && decide (lpn < 98328)

/-- A page is submitted for retirement once (R380): with its cause, 0 error count, 1 poison, 2 tag mismatch. -/
def State.submit (s : State) (lpn cause : Nat) : State :=
  if s.tm.retire.any fun e => e.1 == lpn then s else { s with tm := { s.tm with retire := s.tm.retire ++ [(lpn, cause)] } }

/-- Sets REWRITTEN, and BY_FULLER where Fuller wrote, in the address-log entry of a frame that has neither (R374). -/
def State.logRewritten (s : State) (f : Nat) (byFuller : Bool) : State :=
  match (List.range 16).find? fun k =>
    let v := s.attrN Attr.ce_log 0 k
    bitOf v 144 && !bitOf v 145 && v / 2 ^ 96 % 2 ^ 32 == f with
  | some k => s.put Attr.ce_log 0 k (s.attr Attr.ce_log 0 k + 2 ^ 145 + (if byFuller then 2 ^ 146 else 0))
  | none => s

/-- The read of a frame that finds the check-symbol errors that an injection left in it (R375, R443): they are counted
and rewritten at once, and more than `retire_limit` of them submit the page (R380). -/
def State.findCheck (s : State) (lpn : Nat) : State :=
  let f := s.frameOf lpn
  let c := (s.frame f).checkErrors
  if c = 0 then s
  else
    let t := ((s.setFrame f { s.frame f with checkErrors := 0 }).add Attr.ce_counts 0 2 1).occurOnce 387 0xFFFF
    if s.attrN Attr.retire_limit < c then t.submit lpn 0 else t

/-- The frame of a page has been written since its initialisation (R369). -/
def State.markWritten (s : State) (lpn : Nat) : State := s.setFrame (s.frameOf lpn) { s.frame (s.frameOf lpn) with written := true }

/-- A write of the module into table memory within one page (R370, R374): the frame is read, merged and rewritten whole.
Discarded where the page is poisoned (R376) or beyond the logical space. -/
def State.tmWrite (s : State) (a : Nat) (bs : List Byte) : State :=
  if tmSize < a + bs.length || s.poisoned (a / 4096) then s
  else
    let t := s.findCheck (a / 4096)
    let u := if ledgerRegion (a / 4096) then t.logRewritten (t.frameOf (a / 4096)) false else t
    { u with tm := (u.markWritten (a / 4096)).tm.write a bs }

/-- A read of the module from table memory: a poisoned page reads zero to a log (R377). -/
def State.tmRead (s : State) (a n : Nat) : List Byte :=
  if s.poisoned (a / 4096) then List.replicate n 0 else s.tm.read a n

/-- Counts the outputs that an occurrence newly forces (R209). -/
def State.countSafe (before after : State) : State :=
  after.forEach (List.range 32) fun t n =>
    if after.outSafe n && !before.outSafe n then t.bump Attr.output_safe_entries n else t

/-! ### The shadow pages (R483 to R491) -/

/-- Takes the injection of a checker that acts on `target`: its bits, and the state without it. -/
def State.takeInjection (s : State) (checker target : Nat) : Option (Nat × State) :=
  match tblFind s.faults.inject checker with
  | some j =>
    if j.target = target then some (j.bits, { s with faults := { s.faults with inject := tblDrop s.faults.inject checker } }) else none
  | none => none

/-- The state once the injection of a checker that acts on `target`, if one is pending, is taken. -/
def State.injected (s : State) (checker target : Nat) : State :=
  match s.takeInjection checker target with
  | some x => x.2
  | none => s

/-- The shadow page that holds a STORED key (R483, R495, R496): the lifetime counters, the Cullet table, the repair records,
the key slots, user calibration, learned models, and the rest; the place within a class is Holax's (log entry 4). -/
def shadowPage (k : Nat) : Nat :=
  let id := keyId k
  let p := Config.placement (k - k % 65536)
  if [Attr.store_pf_last.id, Attr.store_power_cycles.id, Attr.store_oven_hours.id, Attr.mate_takeovers.id].contains id then 64
  else if [Attr.cullet.id, Attr.spare_state.id].contains id then 65
  else if id = Attr.repair_records.id then 66
  else if [Attr.port_key_slots.id, Shadow.keyValue.id].contains id then 72 + p % 8
  else if [Attr.input_delay.id, Attr.port_ext_rx_delay.id, Attr.port_ext_tx_delay.id, Attr.port_delay_asymmetry.id, Attr.mate_clk_delay.id].contains id then
    80 + p % 16
  else if [Attr.age_learned.id, Attr.tempco_learned.id, Attr.outvote_count.id, Shadow.modelFreq.id, Shadow.modelTime.id, Shadow.modelTemp.id,
      Shadow.learned.id, Shadow.summary.id].contains id then 96 + p % 32
  else 128 + p % 768

/-- The DIRTY ordinary pages (R484, R491). -/
def State.dirtyPages (s : State) : List Nat :=
  ((s.store.dirty.map fun e => shadowPage e.1) ++ s.store.dirtyPages.map (·.1)).eraseDups

/-- Whether a page is DIRTY. -/
def State.pageDirty (s : State) (p : Nat) : Bool :=
  if 896 ≤ p then s.store.timeDirty.contains p else s.dirtyPages.contains p

/-- The tick at which a page became DIRTY. -/
def State.dirtySince (s : State) (p : Nat) : Nat :=
  ((s.store.dirty.filter fun e => shadowPage e.1 == p).map (·.2) ++ (s.store.dirtyPages.filter fun (e : Nat × Nat) => e.1 == p).map (·.2)).foldl min s.counter

/-- SEQ of a slot. -/
def FlashSlot.seq : FlashSlot → Nat
  | .good n _ _ _ _ _ _ => n
  | _ => 0

/-- The slot that holds the current copy of a page, and the other. -/
def PageRec.now (r : PageRec) : FlashSlot := if r.current then r.b else r.a
def PageRec.other (r : PageRec) : FlashSlot := if r.current then r.a else r.b

/-- `store_wear` (R487, R500): the highest count of any slot; EV 601 where it passes 90,000. -/
def State.noteWear (s : State) (p n : Nat) : State :=
  if s.attrN Attr.store_wear < n then
    let t := s.put1 Attr.store_wear 0 n
    if n = 90001 then t.occur 601 false p else t
  else s

/-- What a store writes for a page: its STORED attributes, or for a TIME page the captured words of its 128 domains
(R483); nothing where `erase` writes defaults (R497). -/
def State.pageData (s : State) (p : Nat) (erase : Bool) : Tbl Int × List (Nat × DomWords) :=
  if erase then ([], [])
  else if 896 ≤ p then ([], s.store.timeWords.filter fun e => e.1 / 128 == p - 896)
  else (s.attrs.filter fun e => decide (keySurv e.1 = some .stored) && shadowPage e.1 == p, [])

/-- One slot program that has verified (R485, R486, R498): the slot that does not hold the current copy takes the page with SEQ
one above, and the page is no longer DIRTY; a pending injection leaves the slot's CRC invalid. -/
def State.programPage (s : State) (p txn pages : Nat) (powerFail erase : Bool) : State :=
  let inj := s.takeInjection 3 p
  let t := s.injected 3 p
  let r := t.page p
  let d := t.pageData p erase
  let counter := if 896 ≤ p then t.store.timeCounter else t.counter
  let slot : FlashSlot := if inj.isSome then .bad else .good ((r.now.seq + 1) % 2 ^ 32) txn pages powerFail counter d.1 d.2
  let r2 : PageRec :=
    if r.current then { r with a := slot, current := false, wearA := r.wearA + 1, tries := 0 }
    else { r with b := slot, current := true, wearB := r.wearB + 1, tries := 0 }
  let u := t.setPage p r2
  let v : State := { u with store := { u.store with
    dirty := u.store.dirty.filter fun e => shadowPage e.1 != p
    dirtyPages := tblDrop u.store.dirtyPages p
    timeDirty := u.store.timeDirty.filter fun q => q != p } }
  v.noteWear p (max r2.wearA r2.wearB)

/-- Stores one page as a transaction of its own. -/
def State.storePage (s : State) (p : Nat) (powerFail : Bool) : State :=
  let t := s.programPage p s.store.nextTxn 1 powerFail false
  ({ t with store := { t.store with nextTxn := (s.store.nextTxn + 1) % 2 ^ 32 } }).put1 Attr.store_last_txn 0 s.store.nextTxn

/-- The ordinary limit for a hold-up of `h` ms: L − 4 (R491). -/
def ordinaryLimit (h : Nat) : Nat := min 256 (8 * (h - 28)) - 4

/-- The DIRTY page that has been DIRTY longest. -/
def State.oldestDirty (s : State) : Option Nat :=
  s.dirtyPages.foldl (fun best p => match best with
    | some q => if s.dirtySince p < s.dirtySince q then some p else some q
    | none => some p) none

/-- Stores the oldest DIRTY pages until the ordinary limit holds. -/
def State.storeDown : Nat → State → State
  | 0, s => s
  | k + 1, s =>
    if s.dirtyPages.length ≤ ordinaryLimit s.store.holdup then s
    else match s.oldestDirty with
      | some p => State.storeDown k (s.storePage p false)
      | none => s

/-- A write that would make one more page DIRTY than the ordinary limit allows has waited for a background store (R491): the
wait and that store are part of the command (log entry 23). -/
def State.enforceLimit (s : State) : State :=
  let limit := ordinaryLimit s.store.holdup
  if s.store.dirty.length + s.store.dirtyPages.length ≤ limit then s
  else if s.dirtyPages.length ≤ limit then s
  else (State.storeDown 1024 (s.bump Attr.store_dirty_waits)).occurOnce 600 0xFFFF

/-! ### Completions (R324, R337, R339, R355) -/

/-- The client number under which the audit log and EV 515 name an issuer (R355, R362). -/
def issuerNumber : Issuer → Nat
  | .ring c _ => c.val
  | .spi => 0x0200
  | .console => 0x0201

/-- Whose rights an issuer acts with (R363). -/
def issuerClient : Issuer → Nat
  | .ring c _ => c.val
  | .spi => 0
  | .console => 0

/-- Where the next record of the audit log goes (R355): audit region, record k at (k mod 2,097,152) × 32. -/
def State.auditSlot (s : State) : Nat := 0x14018000 + s.tm.auditCount % 2097152 * 32

/-- One record of the audit log (R355). -/
def State.auditRecord (s : State) (who : Issuer) (opcode status inst attr : Nat) : List Byte :=
    bytesLE 8 s.counter ++ bytesLE 2 (issuerNumber who) ++ bytesLE 2 opcode ++ bytesLE 2 status ++ bytesLE 2 inst ++
      bytesLE 2 attr ++ bytesLE 2 0 ++ intBytesLE 8 (secondsOf (s.domNow 0)) ++ bytesLE 4 0

/-- Writes one record of the audit log (R355). -/
def State.audit (s : State) (who : Issuer) (opcode status inst attr : Nat) : State :=
  let t := s.tmWrite s.auditSlot (s.auditRecord who opcode status inst attr)
  { t with tm := { t.tm with auditCount := t.tm.auditCount + 1 } }

/-- The slot of the command ring that a command in flight came from. -/
def State.slotOf (s : State) (who : Issuer) : Nat :=
  match who with
  | .ring c g =>
    match s.host.inflight.find? fun f => f.client == c.val && f.tag == g.val with
    | some f => f.slot
    | none => 0
  | _ => 0

/-- A command has completed (R324): its status and inline result wait to be written, and a non-zero status carries no
result (R359). The console's answer leaves at once; a completion that a reset has orphaned is discarded (R312, R336). -/
def State.complete (s : State) (who : Issuer) (opcode status : Nat) (result : List Byte := []) (len : Option Nat := none)
    (flag : Nat := 0) : State :=
  let res := if status = 0 then result else []
  let n := if status = 0 then len.getD res.length else 0
  let d : Done := { who := who, opcode := opcode, slot := s.slotOf who, status := status, result := res, resultLen := n, flag := flag }
  match who with
  | .ring c g =>
    if s.host.orphans.contains (c.val, g.val) then
      { s with host := { s.host with orphans := s.host.orphans.erase (c.val, g.val) } }
    else { s with host := { s.host with completed := s.host.completed ++ [d] } }
  | .spi => { s with host := { s.host with completed := s.host.completed ++ [d] } }
  | .console =>
    { s with
      host := { s.host with console := { s.host.console with busy := false, asked := "" } }
      out := .console s.host.console.asked s.host.console.signed status res :: s.out }

/-- Writes a result by pointer (R337, R343): to host memory, to the SPI data buffer, or as a console answer. -/
def State.writeResult (s : State) (who : Issuer) (buf : HostBuf) (bytes : List Byte) : State :=
  match who with
  | .ring _ _ => s.emit (.hostWrite buf.addr bytes)
  | .spi => { s with host := { s.host with spi := { s.host.spi with buffer := tblSetRun (0 : Byte) s.host.spi.buffer buf.addr bytes } } }
  | .console => s.emit (.consoleValue s.host.console.asked s.host.console.signed bytes)

/-- Whether a buffer that a command names can be accessed (R337, R343): for SPI lite it lies within the data buffer. -/
def bufOk (who : Issuer) (buf : HostBuf) (len : Nat) : Bool :=
  match who with
  | .ring _ _ => buf.reachable && buf.addr % 8 == 0
  | .spi => decide (buf.addr + len ≤ 4096)
  | .console => true

/-- Whether the audit log leaves an opcode out: GET, BULK_GET and SUBSCRIBE (R355). -/
def unaudited (opcode : Nat) : Bool := opcode == 0x00F0 || opcode == 0x00F2 || opcode == 0x00F3

/-- A command has completed: as `complete`, and the audit log takes the record of a SET or an action (R355). -/
def State.finish (s : State) (who : Issuer) (opcode status inst : Nat) (result : List Byte := []) (len : Option Nat := none)
    (attr : Nat := 0) : State :=
  let t := s.enforceLimit
  (if unaudited opcode then t else t.audit who opcode status inst attr).complete who opcode status result len

/-! ### Launch descriptors (R264, R385) -/

/-- STATE of a launch descriptor. -/
inductive DescState
  | free
  | pending
  | inBuffer
  | sent
  | late
  | dropped
deriving DecidableEq, Repr

def DescState.code : DescState → Nat
  | .free => 0
  | .pending => 1
  | .inBuffer => 2
  | .sent => 3
  | .late => 4
  | .dropped => 5

/-- The logical address of a session's launch descriptor (R366). -/
def descAddr (n k : Nat) : Nat := 0x2200000 + n * 0x200 + k * 64

/-- The 64 bytes of a launch descriptor (R385). -/
def descBytes (n k : Nat) (f : TxFrame) (l : Nat × Int) (st : DescState) : List Byte :=
  timeBytes l.2 ++ bytesLE 2 l.1 ++ bytesLE 2 f.length ++ bytesLE 4 (Config.frameOffset n k % 16384) ++ bytesLE 8 st.code ++
    (match f.departure with
     | some t => timeBytes t
     | none => List.replicate 16 0) ++ List.replicate 16 0

/-- Writes the launch descriptor of a timed frame of a session (R385). -/
def State.tellDesc (s : State) (f : TxFrame) (st : DescState) : State :=
  match f.desc, f.launch with
  | some k, some l => s.tmWrite (descAddr f.queue k) (descBytes f.queue k f l st)
  | _, _ => s

/-! ### Frames dropped at a port (R250, R264, R431) -/

/-- The issuers of the PORT.SEND commands among a list of frames. -/
def TxFrame.issuers (fs : List TxFrame) : List Issuer := fs.filterMap (·.host)

/-- Completes the sends of dropped frames (R264): status 0 with the mark DROPPED. -/
def State.dropSends (s : State) : List Issuer → State
  | [] => s
  | w :: ws => ((s.audit w 0x0805 0 0 0).complete w 0x0805 0 [] none 2).dropSends ws

/-- Completes the sends that waited for room on a port that has lost its link (R264): E_STATE. -/
def State.failSends (s : State) : List Issuer → State
  | [] => s
  | w :: ws => (s.finish w 0x0805 0x0011 0).failSends ws

/-- Link loss, or a transmitter forced idle (R250, R264, R431): the frames that hold credits and those of the port's host
queues are dropped and counted, their credits return, and the sends complete. Frames of session queues stay. -/
def State.dropFrames (s : State) (p : Nat) : State :=
  let r := s.port p
  let gone := r.leaving ++ r.buffer ++ r.waiting.filter fun f => decide (f.cls ≠ .session)
  let t := s.setPort p { r with leaving := [], buffer := [], sends := [], waiting := r.waiting.filter fun f => decide (f.cls = .session) }
  let u := r.buffer.foldl (fun (x : State) f => x.tellDesc f .dropped) t
  ((u.add Attr.port_tx_drops p 0 gone.length).dropSends (TxFrame.issuers gone)).failSends (TxFrame.issuers r.sends)

/-! ### One occurrence -/

/-- The ports that an occurrence newly forces idle lose their queued frames (R431). -/
def State.idlePorts (before after : State) : State :=
  after.forEach (List.range 4) fun t p => if after.portForced p && !before.portForced p then t.dropFrames p else t

/-- One occurrence of a source (R424 to R432): as `occur`, and a SEVERE class forces its scope. -/
def State.raise (s : State) (ev : Nat) (cause : Bool := false) (detail : Nat := 0) (dyn : List ScopeItem := []) : State :=
  let u := s.occur ev cause detail dyn
  if Ev.defined ev && s.classify ev (s.latch ev) == 3 then s.idlePorts (s.countSafe u) else u

/-- An occurrence of a source that its chapter limits to once per second (R424): none within a second of the one
before. -/
def State.raiseOnce (s : State) (ev : Nat) (detail : Nat := 0) (cause : Bool := false) : State :=
  if s.onceDue ev then (s.markOnce ev).raise ev cause detail else s

/-- The owning block drops a source's CAUSE (R424). -/
def State.uncause (s : State) (ev : Nat) : State :=
  if (s.latch ev).cause then s.setLatch ev { s.latch ev with cause := false } else s

/-! ### Who is served -/

/-- Whether firmware runs: the module is up, the Gaffer is not restarting and no warm reset has halted it (R24). -/
def State.firmware (s : State) : Bool :=
  decide (s.boot.phase = .running) && s.boot.gafferUp

/-- The power state (R413). -/
def State.power (s : State) : PowerState := PowerState.ofCode (s.attr Attr.power_state)

/-- Whether engines and table memory run: not in STANDBY-WARM or DORMANT (R413). -/
def State.engines (s : State) : Bool :=
  s.firmware && decide (s.power ≠ .standbyWarm) && decide (s.power ≠ .dormant)

/-- Whether the Crucible runs: powered, out of reset and not DORMANT; safe-talk keeps the ovens and the counter (R402, R413). -/
def State.crucibleUp (s : State) : Bool :=
  (decide (s.boot.phase = .running) || decide (s.boot.phase = .safeTalk)) && decide (s.power ≠ .dormant)

/-- Whether the timing path runs: the power-up sequence has ended, and the module is neither in safe-talk nor DORMANT (R395,
R402, R413). -/
def State.timing (s : State) : Bool := decide (s.boot.phase = .running) && decide (s.power ≠ .dormant)

/-- Whether the control plane acts on the timing path: firmware runs, and the module is not DORMANT. -/
def State.control (s : State) : Bool := s.firmware && s.timing

/-- Whether the free-running counter counts (R33, R58, R402): the root has locked since the counter was cleared. A root
that loses its lock later does not stop it: R58 names what starts it and nothing that stops it (DEDUCED, log entry 72). -/
def State.counting (s : State) : Bool := s.boot.counts

/-! ### Engines and the tasks of the domain controllers (R20, R450) -/

/-- The engines in service as (cluster, logical engine) pairs (R450). -/
def State.engineList (s : State) : List (Nat × Nat) :=
  (List.range 16).flatMap fun c =>
    if (s.cluster c).lost then [] else
      ((List.range 8).filter fun e => (s.cluster c).map.getD e 9 != 9).map fun e => (c, e)

/-- E: the engines in service. -/
def State.engineCount (s : State) : Nat := s.engineList.length

/-! ### Slots (R501 to R503) -/

/-- ENGINES of a cluster: engines in service (R501). -/
def State.clusterEngines (s : State) (c : Nat) : Nat := (s.engineList.filter fun x => x.1 == c).length

/-- Whether the engines issue slots: not halted in a warm reset, nor gated in STANDBY-WARM or DORMANT (R503). -/
def State.slotsRun (s : State) : Bool :=
  decide (s.boot.phase = .running) && !s.boot.warmRunning && decide (s.power ≠ .standbyWarm) && decide (s.power ≠ .dormant)

/-- The counter block of a cluster as of now (R502, R503): an engine issues 4 slots in 5 ticks. -/
def State.slotsNow (s : State) (c : Nat) : PmcRec :=
  let r := s.pmc c
  if s.slotsRun then
    { r with
      fifths := r.fifths + 4 * s.clusterEngines c * (s.counter - r.since)
      idle := r.idle + 4 * boolNat (s.cluster c).repair.isSome * (s.counter - r.since)
      since := s.counter }
  else { r with since := s.counter }

/-- Brings the counter blocks up to now, before E changes or the engines start or stop. -/
def State.settleSlots (s : State) : State := s.forEach (List.range 16) fun t c => t.setPmc c (s.slotsNow c)

/-- The slots of a block in all, and those that Holax and the tasks have used. -/
def PmcRec.slots (r : PmcRec) : Nat := r.fifths / 5
def PmcRec.used (r : PmcRec) : Nat := r.slots - r.idle / 5 - r.costs

/-- The engine that Holax picks for a task among some (R20; log entry 46). -/
def pickEngine (l : List (Nat × Nat)) (k : Nat) : Nat :=
  let x := l.getD (k % max 1 l.length) (0, 0)
  x.1 * 256 + x.2

/-- Whether an engine, as cluster × 256 + logical engine, is in service. -/
def State.engineServes (s : State) (x : Nat) : Bool := s.engineList.contains (x / 256, x % 256)

/-- Places the servo and the BMCA task of a domain (R20): a task on an engine in service stays there; another is placed anew, the
BMCA task in another cluster than the servo task's where E permits. -/
def State.placeTasks (s : State) (d : Nat) : State :=
  let r := s.dom d
  let servo := if s.engineServes r.servo then r.servo else pickEngine s.engineList (Config.placeTask d 0)
  let apart := s.engineList.filter fun x => x.1 != servo / 256
  let bmca :=
    if s.engineServes r.bmca && (r.bmca / 256 != servo / 256 || apart.isEmpty) then r.bmca
    else pickEngine (if apart.isEmpty then s.engineList else apart) (Config.placeTask d 1)
  s.setDom d { r with servo := servo, bmca := bmca }

/-- The created domains. -/
def State.domains (s : State) : List Nat := (List.range 512).filter s.created

/-- Whether a completed command is a given client's. -/
def Done.ofClient (d : Done) (c : Nat) : Bool :=
  match d.who with
  | .ring k _ => k.val == c
  | _ => false

/-- The tag of a ring issuer. -/
def issuerTag : Issuer → Nat
  | .ring _ g => g.val
  | _ => 0

/-! ### The order in which a client's commands start (R327) -/

/-- Whether a command in flight has completed, its completion still to be written. -/
def State.ended (s : State) (f : InFlight) : Bool :=
  s.host.completed.any fun d => d.ofClient f.client && issuerTag d.who == f.tag && d.slot == f.slot

/-- Whether a command in flight is the one of an issuer. -/
def InFlight.isOf (f : InFlight) (who : Issuer) : Bool :=
  match who with
  | .ring c g => f.client == c.val && f.tag == g.val
  | _ => false

/-- Whether an issuer's command has started and runs on: a frame of PORT.SEND, a STORE.COMMIT, a changeover, a sleep request. -/
def State.runsOn (s : State) (f : InFlight) : Bool :=
  ((List.range 4).any fun p => ((s.port p).leaving ++ (s.port p).buffer ++ (s.port p).waiting ++ (s.port p).sends).any fun x =>
      (x.host.map f.isOf).getD false) ||
    (s.store.running.any fun t => match t.way with
      | .commit who => f.isOf who
      | _ => false) ||
    (match s.mate.changeover with
     | some (some who) => f.isOf who
     | _ => false) ||
    (((s.mate.agreement.bind (·.who)).map f.isOf).getD false)

/-- The commands of an issuer's client that were fetched before its own, and its own; none where it is not in flight. -/
def InFlight.before (who : Issuer) : List InFlight → List InFlight → Option (List InFlight × InFlight)
  | _, [] => none
  | earlier, f :: fs => if f.isOf who then some (earlier, f) else InFlight.before who (earlier ++ [f]) fs

/-- Whether a command of the ring waits for an earlier one of its client (R327): under FENCE for every one to complete, behind a
FENCE for that one, and for one that names the same object instance to start. -/
def State.waitsBefore (s : State) (who : Issuer) : Bool :=
  match who with
  | .ring c _ =>
    match InFlight.before who [] (s.host.inflight.filter fun f => f.client == c.val) with
    | some (earlier, f) =>
      earlier.any fun g => !s.ended g && (f.fence || g.fence || (!s.runsOn g && g.names.any f.names.contains))
    | none => false
  | _ => false

/-- Whether a completion waits until an earlier command that names the same object instance has completed (R327). -/
def State.heldBack (s : State) (d : Done) : Bool :=
  match d.who with
  | .ring c _ =>
    match InFlight.before d.who [] (s.host.inflight.filter fun f => f.client == c.val) with
    | some (earlier, f) => earlier.any fun g => !s.ended g && g.names.any f.names.contains
    | none => false
  | _ => false

/-- Which command set serves an issuer now. -/
inductive Service
  | full
  | safeTalk
  | unserved
deriving DecidableEq, Repr

/-- Which command set serves an issuer (R327, R336, R339, R352, R364, R413, R490): nobody while the module is off, held or in
the 10 ms before a restart, and a command of a ring not before its turn; the safe-talk set in safe-talk, and on the console while the Gaffer restarts; in DORMANT
only the console. -/
def State.service (s : State) (who : Issuer) : Service :=
  match s.boot.phase with
  | .off => .unserved
  | .held => .unserved
  | .safeTalk =>
    match who with
    | .ring c _ => if c.val = 0 then .safeTalk else .unserved
    | _ => .safeTalk
  | .running =>
    if s.power = .dormant then
      match who with
      | .console => .full
      | _ => .unserved
    else if !s.boot.gafferUp then
      match who with
      | .console => .safeTalk
      | _ => .unserved
    else if s.waitsBefore who then .unserved
    else .full

/-- Rights under which a command row is permitted (R363). -/
inductive Right
  | owner0
  | domainOwner (d : Nat)
  | hostQueue (q : Nat)
  | anyone
deriving DecidableEq, Repr

/-- The client that PORT.HOSTQ assigned a host queue to (R285). -/
def State.queueClient (s : State) (q : Nat) : Option Nat :=
  let v := s.attrN Attr.port_hostq 0 q
  if bitOf v 19 then some (v / 256 % 1024) else none

/-- Whether an issuer has a right (R363). -/
def State.permits (s : State) (who : Issuer) : Right → Bool
  | .owner0 => issuerClient who == 0
  | .domainOwner d => issuerClient who == 0 || (s.created d && s.attr Attr.domain_owner_client d == (issuerClient who : Int))
  | .hostQueue q => (issuerClient who == 0 && (s.queueClient q).isSome) || s.queueClient q == some (issuerClient who)
  | .anyone => true

/-- The refusals of R326 steps 6 and 7 and R360 in their order: the first condition that holds gives the status. -/
def firstRefusal : List (Bool × Nat) → Option Nat
  | [] => none
  | (c, code) :: t => if c then some code else firstRefusal t

def E_CHECK : Nat := 0x0001
def E_TAG : Nat := 0x0002
def E_OPCODE : Nat := 0x0003
def E_LENGTH : Nat := 0x0004
def E_POINTER : Nat := 0x0005
def E_SAFE_TALK : Nat := 0x0006
def E_DENIED : Nat := 0x0007
def E_RESTARTED : Nat := 0x0008
def E_RANGE : Nat := 0x0010
def E_STATE : Nat := 0x0011
def E_IN_USE : Nat := 0x0012
def E_BUSY : Nat := 0x0013
def E_LOOP : Nat := 0x0014
def E_DATE_INVALID : Nat := 0x0015
def E_CAUSE_PRESENT : Nat := 0x0016
def E_ATTR : Nat := 0x0017
def E_READ_ONLY : Nat := 0x0018
def E_POISON : Nat := 0x0019
def E_BUFFER : Nat := 0x001A
def E_FACTORY : Nat := 0x001B
def E_IMAGE : Nat := 0x0020
def E_IMAGE_PAIR : Nat := 0x0021
def E_FLASH : Nat := 0x0022

/-- How an action is served: its opcode, whether the buffers that it names can be accessed (R326 step 5), whether it
belongs to the safe-talk set (R364), the right it needs, the instance and the attribute that the audit log names, and its
refusals in the order of R360. -/
structure Action where
  opcode : Nat
  reachable : Bool := true
  safeTalk : Bool := false
  right : Right := .owner0
  inst : Nat := 0
  attr : Nat := 0
  refusals : List (Bool × Nat) := []

/-- A buffer that a ring command names could not be accessed (R321, R341): EV 513 for one that is read (`PORT.SEND`,
`SYSTEM.FW_WRITE`), EV 514 for a result. -/
def State.pointerFault (s : State) (who : Issuer) (opcode : Nat) : State :=
  match who with
  | .ring c _ => s.raise (if opcode = 0x0805 ∨ opcode = 0x0106 then 513 else 514) false c.val
  | _ => s

/-- Serves an action (R326 steps 5 to 8, R363, R364): not served, nothing happens; a refusal completes it and changes
nothing; otherwise its effect runs, and completes it. -/
def State.act (s : State) (who : Issuer) (a : Action) (effect : State → State) : State :=
  match s.service who with
  | .unserved => s
  | v =>
    if !a.reachable then (s.pointerFault who a.opcode).finish who a.opcode E_POINTER a.inst [] none a.attr
    else if decide (v = .safeTalk) && !a.safeTalk then s.finish who a.opcode E_SAFE_TALK a.inst [] none a.attr
    else if !s.permits who a.right then s.finish who a.opcode E_DENIED a.inst [] none a.attr
    else
      match firstRefusal a.refusals with
      | some code => s.finish who a.opcode code a.inst [] none a.attr
      | none => effect s

/-- An action that takes effect at once and completes with status 0. -/
def State.doAct (s : State) (who : Issuer) (a : Action) (effect : State → State) : State :=
  s.act who a fun t => (effect t).finish who a.opcode 0 a.inst [] none a.attr

/-- A step of the module's own that its block takes: nothing happens where its condition does not hold. -/
def State.when_ (s : State) (c : Bool) (f : State → State) : State := if c then f s else s

end Sys2Proof.Machine
end

