-- ==== Sys2Proof/Machine/Operands.lean ====
section
/-! DEFINITION. The packed operands of the module: candidate entries (R125), binding entries (R272), host queue entries
(R285), and the numbering of a selector's sources. -/

namespace Sys2Proof.Machine

/-- The bits `[lo + n − 1 : lo]` of a number. -/
def field (v lo n : Nat) : Nat := v / 2 ^ lo % 2 ^ n

/-- The time that a time value of a command spells (R68), none where its NANOSECONDS or its status bits refuse it. -/
def commandTime (v : Nat) : Option Int := if field v 112 3 = 0 then timeOfNat v else none

/-! ### Candidate entries (R125) -/

def candSource (e : Nat) : Nat := field e 0 10
def candKind (e : Nat) : Nat := field e 10 2
def candPriority (e : Nat) : Nat := field e 12 5
def candLocked (e : Nat) : Bool := bitOf e 17
def candEmpty (e : Nat) : Bool := candKind e == 0

/-- The number of an entry's source: n for INPUT n, 64 + d for DOMAIN d; none for an empty entry. -/
def candNumber (e : Nat) : Option Nat :=
  if candKind e = 1 then some (candSource e) else if candKind e = 2 then some (64 + candSource e) else none

/-- Entry `k` of a selector's list. -/
def State.cand (s : State) (n k : Nat) : Nat := s.attrN Attr.selector_candidates n k

/-- Whether a source number names a domain. -/
def isDomainSource (x : Nat) : Bool := decide (64 ≤ x)

/-- The number of the implicit mate reference of R469, and the input whose channel a source number uses. -/
def mateSource : Nat := 63
def channelInput (x : Nat) : Nat := if x = mateSource then 26 else x

/-- The type of an input (R122). -/
def State.inputType (s : State) (n : Nat) : InputType :=
  if n = mateSource then .mate else InputType.ofCode (s.attr Attr.input_type n)

/-- The selectors whose list holds a source, or whose next decision brings it in (R126, R137). -/
def State.listing (s : State) (x : Nat) : List Nat :=
  (List.range 16).filter fun n =>
    ((List.range 24).any fun k => candNumber (s.cand n k) == some x) ||
      ((s.sel n).newList.getD []).any fun e => candNumber e == some x

/-- The index of a source in a list. -/
def State.indexOf (s : State) (n x : Nat) : Option Nat := (List.range 24).find? fun k => candNumber (s.cand n k) == some x

/-! ### Binding entries (R272) -/

def State.binding (s : State) (p k : Nat) : Nat := s.attrN Attr.port_bindings p k
def bindNumber (e : Nat) : Nat := field e 0 8
def bindProfile (e : Nat) : Nat := field e 8 4
def bindTransport (e : Nat) : Nat := field e 12 2
def bindRole (e : Nat) : Nat := field e 14 2
def bindTwoStep (e : Nat) : Bool := bitOf e 16 || bindProfile e == 4
def bindMode (e : Nat) : Nat := field e 17 2
def bindMgmt (e : Nat) : Bool := bitOf e 19
def bindValid (e : Nat) : Bool := bitOf e 20
def bindPriority1 (e : Nat) : Nat := field e 24 8
def bindPriority2 (e : Nat) : Nat := field e 32 8
def bindLocalPriority (e : Nat) : Nat := field e 40 8
def bindLogAnnounce (e : Nat) : Int := intLE 1 (bytesLE 1 (field e 48 8))
def bindLogSync (e : Nat) : Int := intLE 1 (bytesLE 1 (field e 56 8))
def bindLogDelay (e : Nat) : Int := intLE 1 (bytesLE 1 (field e 64 8))
def bindTimeout (e : Nat) : Nat := field e 72 8
def bindDomain (e : Nat) : Nat := field e 80 9
def bindSpp (e : Nat) : Nat := field e 96 8
def bindTxSlot (e : Nat) : Nat := field e 104 8
def bindSoak (e : Nat) : Nat := field e 112 16
def bindQualLimit (e : Nat) : Nat := field e 128 32
def bindHoldLimit (e : Nat) : Nat := field e 160 16
def bindRetries (e : Nat) : Nat := field e 176 8
def bindRenewLead (e : Nat) : Nat := field e 184 8
def bindDuration (e : Nat) : Nat := field e 192 32

/-- The bindings in use, as (port, slot) pairs. -/
def State.bindings (s : State) : List (Nat × Nat) :=
  (List.range 4).flatMap fun p => ((List.range 32).filter fun k => bindValid (s.binding p k)).map fun k => (p, k)

/-- The bindings of one domain. -/
def State.domainBindings (s : State) (d : Nat) : List (Nat × Nat) :=
  s.bindings.filter fun b => bindDomain (s.binding b.1 b.2) == d

/-- The portState of a binding (R274). -/
def State.portState (s : State) (p k : Nat) : Nat := s.attrN Attr.port_binding_state p k

/-! ### Host queues (R285) -/

def State.queueEntry (s : State) (q : Nat) : Nat := s.attrN Attr.port_hostq 0 q
def State.queuePort (s : State) (q : Nat) : Nat := field (s.queueEntry q) 0 8
def State.queueLate (s : State) (q : Nat) : Nat := field (s.queueEntry q) 18 1

/-! ### TIC sources (R291) -/

def ticIndex (v : Nat) : Nat := field v 0 10
def ticKind (v : Nat) : Nat := field v 10 2
def ticPrediv (v : Nat) : Nat := field v 14 11

end Sys2Proof.Machine
end

