-- ==== Sys2Proof/Machine/Memory.lean ====
section
/-! DEFINITION. The session entries of table memory with their host-owned words (R383, R384) and the session cache
(R386, R387). The device-owned words of an entry report what the SESSION attributes report, and the model keeps them
there. -/

namespace Sys2Proof.Machine

/-- The logical address of a session's entry and the page that holds it (R366). -/
def entryAddr (n : Nat) : Nat := 0x200000 + n * 0x800
def sessionPage (n : Nat) : Nat := 512 + n / 2

/-- Whether a logical address lies in a host-owned word of a session entry (R383). -/
def hostOwned (a : Nat) : Bool :=
  decide (0x200000 ≤ a) && decide (a < 0x2200000) && decide (64 ≤ a % 0x800) && decide (a % 0x800 < 128)

/-- A byte as a host-owned word keeps it: bit 0 of entry byte 77 is DRAIN, and what lies above it is reserved (R12, R383). -/
def hostKept (a : Nat) (b : Byte) : Byte :=
  if a % 0x800 = 77 then b &&& 1 else if 77 < a % 0x800 then 0 else b

/-- Whether table memory serves: not off, held or in safe-talk, and neither in self-refresh nor DORMANT (R413). -/
def State.memoryUp (s : State) : Bool :=
  decide (s.boot.phase = .running) && decide (s.power ≠ .standbyWarm) && decide (s.power ≠ .dormant)

/-- Writes the host-owned words of a new session's entry at their reset values (R384): zero, MAX_RATE_LOG 0x80. -/
def State.resetEntry (s : State) (n : Nat) : State :=
  s.tmWrite (entryAddr n + 64) (List.replicate 12 0 ++ [0x80] ++ List.replicate 51 0)

/-- ASYM_CORR of a session in ps, MAX_RATE_LOG and DRAIN (R383). -/
def State.asymCorr (s : State) (n : Nat) : Int := intLE 4 (s.tmRead (entryAddr n + 72) 4)
def State.maxRateLog (s : State) (n : Nat) : Int := intLE 1 (s.tmRead (entryAddr n + 76) 1)
def State.drain (s : State) (n : Nat) : Bool := bitOf (natLE (s.tmRead (entryAddr n + 77) 1)) 0

/-! ### The session cache -/

/-- The slots that are not FREE; a FREE slot may keep its page (R386). -/
def State.cacheUsed (s : State) : Nat := (s.tm.cache.filter fun c => decide (c.state ≠ .kept)).length

/-- `cache_slots`: VALID with FILLING, EVICTING and FREE. -/
def State.cacheSlots (s : State) : List Nat :=
  let count (p : CacheState → Bool) : Nat := (s.tm.cache.filter fun c => p c.state).length
  let busy := count fun x => decide (x = .valid) || decide (x = .filling)
  let out := count fun x => decide (x = .evicting)
  [busy, out, 2048 - busy - out]

def State.setCache (s : State) (l : List CacheSlot) : State := { s with tm := { s.tm with cache := l } }

/-- Adds 1 to an element of `cache_counts`: 0 fills, 1 write-backs, 2 stale fills. -/
def State.cacheCount (s : State) (k : Nat) : State := s.add Attr.cache_counts 0 k 1

/-- Starts a fill for a page in a FREE slot, the one whose kept page is oldest where all keep one; with no FREE slot, the
least recently used VALID slot is evicted and the fill waits for it (R386). -/
def State.startFill (s : State) (lpn : Nat) : State :=
  if s.cacheUsed < 2048 then
    let l := if s.tm.cache.length < 2048 then s.tm.cache
      else match takeFirst (fun c => decide (c.state = .kept)) s.tm.cache with
        | some r => r.2
        | none => s.tm.cache
    s.setCache (l ++ [{ lpn := lpn, state := .filling }])
  else if s.tm.wanted.contains lpn then s
  else
    let t : State := { s with tm := { s.tm with wanted := s.tm.wanted ++ [lpn] } }
    match takeFirst (fun c => decide (c.state = .valid)) t.tm.cache with
    | some (c, rest) => t.setCache (rest ++ [{ c with state := .evicting }])
    | none => t

/-- An engine's request for a page of the session table (R386, R387): a VALID slot becomes the most recently used, a FREE
slot that keeps the page revives unless it is stale, and otherwise the page is filled from its frame. -/
def State.requestPage (s : State) (lpn : Nat) : State :=
  match takeFirst (fun c => c.lpn == lpn) s.tm.cache with
  | some (c, rest) =>
    (match c.state with
     | .valid => s.setCache (rest ++ [c])
     | .filling => s
     | .evicting => if s.tm.wanted.contains lpn then s else { s with tm := { s.tm with wanted := s.tm.wanted ++ [lpn] } }
     | .kept =>
       if c.stale then (s.setCache (rest ++ [{ c with state := .filling, stale := false }])).cacheCount 2
       else s.setCache (rest ++ [{ c with state := .valid }]))
  | none => s.startFill lpn

/-- An engine's use of a session's entry. -/
def State.useEntry (s : State) (n : Nat) : State := s.requestPage (sessionPage n)

/-- Applies host writes to the frame of their page. -/
def State.applyWrites (s : State) : List (Nat × Byte) → State
  | [] => s
  | (a, b) :: ws => (s.tmWrite a [b]).applyWrites ws

/-- One byte of a host write to a host-owned word (R387): it waits in a FILLING or EVICTING slot, and marks a FREE slot
that keeps its page stale. -/
def State.hostByte (s : State) (a : Nat) (b : Byte) : State :=
  let lpn := a / 4096
  match s.tm.cache.find? fun c => c.lpn == lpn with
  | none => s.tmWrite a [b]
  | some c =>
    let setSlot (d : CacheSlot) : State := s.setCache (s.tm.cache.map fun x => if x.lpn == lpn then d else x)
    (match c.state with
     | .valid => s.tmWrite a [b]
     | .kept => (setSlot { c with stale := true }).tmWrite a [b]
     | .filling => setSlot { c with writes := c.writes ++ [(a, b)] }
     | .evicting => setSlot { c with writes := c.writes ++ [(a, b)] })

/-- CACHE_WRITEBACK_RETIRE (R386, R387): the slot becomes FREE and keeps its page; the writes that waited are applied to
the frame and leave the slot stale. A request for the page itself is served first, then a fill that waited for a slot starts. -/
def execCacheWritebackRetire (lpn : Nat) (s : State) : Host.Outcome State Fault Refusal :=
  .next (match takeFirst (fun c => c.lpn == lpn && decide (c.state = .evicting)) s.tm.cache with
    | some (c, rest) =>
      s.when_ s.memoryUp fun t =>
        let freed := { c with state := .kept, stale := !c.writes.isEmpty, writes := [] }
        let u := (((t.findCheck lpn).setCache (rest ++ [freed])).cacheCount 1).applyWrites c.writes
        let v := if u.tm.wanted.contains lpn then ({ u with tm := { u.tm with wanted := u.tm.wanted.erase lpn } }).requestPage lpn else u
        (match v.tm.wanted with
         | [] => v
         | w :: ws => ({ v with tm := { v.tm with wanted := ws } }).requestPage w)
    | none => s)

end Sys2Proof.Machine
end

