-- ==== Sys2Proof/Machine/Calendar.lean ====
section
/-! DEFINITION. The calendar (R85 to R87), UTC of a domain and its leap seconds (R78 to R82), and local time (R83). -/

namespace Sys2Proof.Machine

/-- Leap years (R85). -/
def isLeapYear (y : Nat) : Bool := (y % 4 == 0 && y % 100 != 0) || y % 400 == 0

/-- Days of a month (R85). -/
def daysInMonth (y m : Nat) : Nat :=
  if m = 2 then (if isLeapYear y then 29 else 28) else if m = 4 ∨ m = 6 ∨ m = 9 ∨ m = 11 then 30 else 31

/-- Days since 1970-01-01 of a date: the inverse of R87. -/
def daysFromCivil (y m d : Nat) : Int :=
  let y' : Nat := if m ≤ 2 then y - 1 else y
  let era : Nat := y' / 400
  let yoe : Nat := y' % 400
  let mp : Nat := (m + 9) % 12
  let doy : Nat := (153 * mp + 2) / 5 + d - 1
  let doe : Nat := yoe * 365 + yoe / 4 - yoe / 100 + doy
  (era * 146097 + doe : Int) - 719468

/-- The date of a day since 1970-01-01 (R87). -/
def civilFromDays (days : Int) : Nat × Nat × Nat :=
  let z : Nat := (days + 719468).toNat
  let era := z / 146097
  let doe := z % 146097
  let yoe := (doe - doe / 1460 + doe / 36524 - doe / 146096) / 365
  let y := yoe + era * 400
  let doy := doe - (365 * yoe + yoe / 4 - yoe / 100)
  let mp := (5 * doy + 2) / 153
  let d := doy - (153 * mp + 2) / 5 + 1
  let m := if mp < 10 then mp + 3 else mp - 9
  (if m ≤ 2 then y + 1 else y, m, d)

/-- The date and time of a count of UTC seconds outside a leap second (R87). -/
def civilOfSeconds (u : Int) : CivilTime :=
  let (y, m, d) := civilFromDays (u / 86400)
  let sod : Nat := (u % 86400).toNat
  { year := y, month := m, day := d, hour := sod / 3600, minute := sod % 3600 / 60, second := sod % 60 }

/-- The UTC seconds that a date and time spell. -/
def civilSeconds (c : CivilTime) : Int :=
  daysFromCivil c.year c.month c.day * 86400 + (c.hour * 3600 + c.minute * 60 + c.second : Nat)

/-- The field ranges of R85 step 1 for a date. -/
def dateFieldsOk (y m d : Nat) : Bool := 1970 ≤ y && y ≤ 9999 && 1 ≤ m && m ≤ 12 && 1 ≤ d && d ≤ 31

/-- The field ranges of R85 step 1 for a time of day. -/
def timeFieldsOk (h m s : Nat) : Bool := h ≤ 23 && m ≤ 59 && s ≤ 59

/-- R85 step 2: the day exists in its month and year. -/
def dateExists (y m d : Nat) : Bool := d ≤ daysInMonth y m

/-- A date as an attribute encodes it (R346): year u16, month u8, day u8. -/
def dateCode (y m d : Nat) : Int := ((y + m * 65536 + d * 16777216 : Nat) : Int)

/-- The day since 1970-01-01 that an encoded date names. -/
def dateCodeDays (v : Int) : Int :=
  daysFromCivil (v.toNat % 65536) (v.toNat / 65536 % 256) (v.toNat / 16777216)

/-- The encoded date of a day since 1970-01-01. -/
def dayCode (days : Int) : Int :=
  let (y, m, d) := civilFromDays days
  dateCode y m d

/-! ### UTC of a domain -/

/-- The leap scheduled for a domain. -/
def State.leapOf (s : State) (d : Nat) : LeapKind := LeapKind.ofCode (s.attr Attr.domain_leap_state d)

/-- UTC seconds of a domain time as T − utc_offset (R78). -/
def State.utcRaw (s : State) (d : Nat) (t : Int) : Int := secondsOf t - s.attr Attr.domain_utc_offset d

/-- S of R79: the UTC seconds count of 00:00:00 on the day after the leap's day. -/
def State.leapS (s : State) (d : Nat) : Int := (dateCodeDays (s.attr Attr.domain_leap_day d) + 1) * 86400

/-- Whether a domain time falls within an inserted second (R79). -/
def State.inInserted (s : State) (d : Nat) (t : Int) : Bool :=
  decide (s.leapOf d = .insert) && s.utcRaw d t == s.leapS d

/-- The UTC day a domain time falls on; an inserted second belongs to the day that it ends (R79). -/
def State.utcDay (s : State) (d : Nat) (t : Int) : Int :=
  if s.inInserted d t then s.leapS d / 86400 - 1 else s.utcRaw d t / 86400

/-- Whether a domain time falls in the closing window of its UTC day (R80). -/
def State.closing (s : State) (d : Nat) (t : Int) : Bool :=
  let u := s.utcRaw d t
  if s.inInserted d t then true
  else if decide (s.leapOf d = .delete) && u / 86400 == s.leapS d / 86400 - 1 then u % 86400 == 86398
  else u % 86400 == 86399

/-- Whether a domain time lies in the final 12 h of a day (R81, R82). -/
def State.finalHours (s : State) (d : Nat) (t : Int) (day : Int) : Bool :=
  let u := s.utcRaw d t
  s.utcDay d t == day && decide (day * 86400 + 43200 ≤ u)

/-- Whether LEAP_PENDING holds: a leap is scheduled for the end of the current UTC day (R68). -/
def State.leapPending (s : State) (d : Nat) : Bool :=
  decide (s.leapOf d ≠ .none) && s.utcDay d (s.domNow d) == dateCodeDays (s.attr Attr.domain_leap_day d)

/-- The domain time at which a UTC second begins (R79): with the offset after the leap where the leap scheduled for its day's
end lies before it. -/
def State.utcInstant (s : State) (d : Nat) (u : Int) : Int :=
  let o := s.attr Attr.domain_utc_offset d
  match s.leapOf d with
  | .insert => (if s.leapS d ≤ u then u + o + 1 else u + o) * secondUnits
  | .delete => (if s.leapS d ≤ u then u + o - 1 else u + o) * secondUnits
  | .none => (u + o) * secondUnits

/-- Whether a learned offset differs from the commanded one (R81). -/
def State.offsetDisagrees (s : State) (d : Nat) : Bool :=
  match (s.dom d).learnedOffset with
  | some o => s.attr Attr.domain_utc_source d == 0 && o != s.attr Attr.domain_utc_offset d
  | none => false

/-- Whether the learned leap flags differ from the commanded leap, or from a commanded "no leap", in the final 12 h of its
day (R81, R82). -/
def State.leapDisagrees (s : State) (d : Nat) : Bool :=
  match (s.dom d).learnedLeap with
  | some (k, day) =>
    if (s.dom d).noLeapDays.contains day then decide (k ≠ .none) && s.finalHours d (s.domNow d) day
    else if decide (s.leapOf d ≠ .none) && s.attr Attr.domain_leap_origin d == 0 then
      s.finalHours d (s.domNow d) (dateCodeDays (s.attr Attr.domain_leap_day d)) && decide (k ≠ s.leapOf d)
    else false
  | none => false

/-- Raises the leap-disagreement event once for each disagreement that begins and keeps `leap_disagree` (R81); the cause stands
while any domain's disagreement does. -/
def State.judgeLeap (s : State) (d : Nat) : State :=
  let r := s.dom d
  let a := s.offsetDisagrees d
  let b := s.leapDisagrees d
  let t := (s.setDom d { r with offsetOff := a, leapOff := b }).put1 Attr.domain_leap_disagree d (boolInt (a || b))
  let u := if a && !r.offsetOff then t.raise 491 true else t
  let v := if b && !r.leapOff then u.raise 491 true else u
  if (List.range 512).any fun e => v.flag Attr.domain_leap_disagree e then v else v.uncause 491

/-- Schedules or cancels a leap for a day (R80, R82). -/
def State.setLeap (s : State) (d : Nat) (k : LeapKind) (day : Int) (commanded : Bool) : State :=
  if k = .none then s.put1 Attr.domain_leap_state d 0
  else
    ((s.put1 Attr.domain_leap_state d k.code).put1 Attr.domain_leap_day d (dayCode day)).put1 Attr.domain_leap_origin d
      (if commanded then 0 else 1)

/-! ### Local time (R83, R84) -/

/-- The field of a tz entry that is its instant, in UTC seconds. -/
def tzInstant (v : Nat) : Int :=
  civilSeconds
    { year := v % 65536, month := v / 65536 % 256, day := v / 16777216 % 256, hour := v / 2 ^ 32 % 256
      minute := v / 2 ^ 40 % 256, second := v / 2 ^ 48 % 256 }

/-- OFFSET of a tz entry. -/
def tzOffset (v : Nat) : Int := intLE 4 (bytesLE 4 (v / 2 ^ 64))

/-- ST309_CODE of a tz entry. -/
def tzCode (v : Nat) : Nat := v / 2 ^ 96 % 64

/-- Whether the fields of a tz entry lie in their ranges (R83). -/
def tzFieldsOk (v : Nat) : Bool :=
  dateFieldsOk (v % 65536) (v / 65536 % 256) (v / 16777216 % 256) &&
    timeFieldsOk (v / 2 ^ 32 % 256) (v / 2 ^ 40 % 256) (v / 2 ^ 48 % 256) &&
    decide (-50400 ≤ tzOffset v) && decide (tzOffset v ≤ 50400) && tzOffset v % 60 == 0

/-- Whether the date of a tz entry exists (R85). -/
def tzDateOk (v : Nat) : Bool := dateExists (v % 65536) (v / 65536 % 256) (v / 16777216 % 256)

/-- Strictly rising instants (R84). -/
def tzRising : List Nat → Bool
  | a :: b :: t => decide (tzInstant a < tzInstant b) && tzRising (b :: t)
  | _ => true

/-- A tz entry with its reserved bits cleared (R12, R83): [63:57] and [127:102]. -/
def tzMasked (v : Nat) : Nat := v % 2 ^ 57 + v / 2 ^ 64 % 2 ^ 38 * 2 ^ 64

/-- The transitions of a domain's table. -/
def State.tzEntries (s : State) (d : Nat) : List Nat :=
  (List.range (s.attrN Attr.domain_tz_count d)).map fun k => s.attrN Attr.domain_tz_table d k

/-- The latest transition of a table at or before a UTC time, counted from 1; 0 before the first. -/
def tzReached (entries : List Nat) (u : Int) : Nat := (entries.filter fun e => decide (tzInstant e ≤ u)).length

/-- UTC seconds of a domain time with an inserted second counted as the second before it (R79), for comparisons that an
inserted second does not advance (R84, R86). -/
def State.utcHeld (s : State) (d : Nat) (t : Int) : Int :=
  if s.inInserted d t then s.utcRaw d t - 1 else s.utcRaw d t

/-- The last entry of a table has taken effect (R84). -/
def State.tzExhausted (s : State) (d was : Nat) : State :=
  let n := s.attrN Attr.domain_tz_count d
  if (s.dom d).tzIndex = n ∧ n ≠ 0 ∧ was ≠ n then s.raise 490 else s

/-- The transition of a table that is in force at a UTC second, counted from 1: none later than `last`. -/
def State.zoneAt (s : State) (d last : Nat) (u : Int) : Nat := min last (tzReached (s.tzEntries d) u)

/-- The local offset and the ST 309 code after a transition of a table, the base values before the first (R83). -/
def State.zoneOffset (s : State) (d k : Nat) : Int :=
  if k = 0 then s.attr Attr.domain_tz_base_offset d else tzOffset (s.attrN Attr.domain_tz_table d (k - 1))
def State.zoneCode (s : State) (d k : Nat) : Nat :=
  if k = 0 then s.attrN Attr.domain_tz_base_code d else tzCode (s.attrN Attr.domain_tz_table d (k - 1))

/-- The local offset in force at a UTC second (R83, R228): no transition later than the last that has taken effect. -/
def State.offsetAt (s : State) (d : Nat) (u : Int) : Int := s.zoneOffset d (s.zoneAt d (s.dom d).tzIndex u)

/-- Whether a domain's dates can be rendered: 1970-01-01 00:00:00 to 9999-12-31 23:59:60 in UTC and local time (R86). -/
def State.dateValid (s : State) (d : Nat) : Bool :=
  let u := s.utcHeld d (s.domNow d)
  let l := u + s.offsetAt d u
  decide (0 ≤ u) && decide (0 ≤ l) && decide (u ≤ 253402300799) && decide (l ≤ 253402300799)

/-- The instance of a generator within its object. -/
def genInst (g : Nat) : Nat := if g < 8 then g else if g < 14 then g - 8 else if g < 16 then g - 14 else g - 16

/-- DETAIL of EV 578 to 580 and 583 to 587 for a generator (R362). -/
def genDetail (g : Nat) : Nat := (if g < 8 then 7 else if g < 14 then 0x0E else if g < 16 then 0x0F else 0x10) * 256 + genInst g

/-- Whether a generator's signal carries dates now (R231, R233): a TCGEN with ST 309 dates or a TODGEN that sends NMEA, running. -/
def State.bearsDate (s : State) (g : Nat) : Bool :=
  (s.gen g).running &&
    (if g < 16 then s.attr Attr.tcgen_tc_date (g - 14) == 0 else s.attr Attr.todgen_tod_tx_protocol (g - 16) == 1)

/-- A generator no longer renders a date (R248). -/
def State.clearDate (s : State) (g : Nat) : State :=
  if (s.gen g).dateBad then
    let t := s.setGen g { s.gen g with dateBad := false }
    if [14, 15, 16, 17].any fun x => (t.gen x).dateBad then t else t.uncause 583
  else s

/-- A TODGEN leaves QUIET (R234): the cause stands while the other is in it. -/
def State.leaveQuiet (s : State) (n : Nat) (state : TodTxState) : State :=
  let t := s.put1 Attr.todgen_tod_tx_state n state.code
  if t.attr Attr.todgen_tod_tx_state 0 = TodTxState.quiet.code ∨ t.attr Attr.todgen_tod_tx_state 1 = TodTxState.quiet.code then t
  else t.uncause 585

/-- A generator stops: it renders no date and is not QUIET any more. -/
def State.genLeaves (s : State) (g : Nat) : State :=
  if g < 16 then s.clearDate g else (s.clearDate g).leaveQuiet (g - 16) .idle

/-- A date-bearing output starts to render an invalid date, or a valid one again (R231, R233, R248). -/
def State.judgeDate (s : State) (g : Nat) : State :=
  let bad := s.bearsDate g && !s.dateValid (s.genDomain g)
  if !bad then s.clearDate g
  else if (s.gen g).dateBad then s
  else (s.setGen g { s.gen g with dateBad := true }).raise 583 true (genDetail g)

/-- The timecode of a domain follows its date at an instant at which that steps or a day begins; a TODGEN's at its messages. -/
def State.judgeDates (s : State) (d : Nat) : State :=
  s.forEach ([14, 15].filter fun g => s.genDomain g == d) State.judgeDate

/-- The transition in force follows the domain's UTC time where the control plane runs (R83, R84, R216): after a step of time
or of `utc_offset`, either way, and once the control plane has come back. -/
def State.followZone (s : State) (d : Nat) : State :=
  let k := tzReached (s.tzEntries d) (s.utcHeld d (s.domNow d))
  if s.control && s.created d then
    let t := s.forEach ([14, 15].filter fun g => s.genDomain g == d && (s.gen g).tzLag.isSome) fun u g =>
      u.setGen g { u.gen g with tzLag := none }
    if k = (s.dom d).tzIndex then t else (t.setDom d { t.dom d with tzIndex := k }).tzExhausted d (s.dom d).tzIndex
  else s

/-- A step of a domain's time or of its `utc_offset`, and the return of the control plane: the transition in force follows, and the
dates that its timecode renders. -/
def State.retz (s : State) (d : Nat) : State := (s.followZone d).judgeDates d

/-! ### Offsets and leaps learned and set (R80) -/

/-- Gives a domain's utc_offset a learned or commanded value (R80). -/
def State.setUtcOffset (s : State) (d : Nat) (o : Int) (commanded : Bool) : State :=
  let t := (s.put1 Attr.domain_utc_offset d o).retz d
  if commanded then t.put1 Attr.domain_utc_source d 0 else t

/-- Whether a commanded change waits for the next UTC day (R80): a learned one does not override it. -/
def Deferred.offsetHeld (x : Deferred) : Bool := x.offset.any (·.2)
def Deferred.leapHeld (x : Deferred) : Bool := x.leap.any (·.2.2)

/-- The offset of a learned message (R80): a commanded value wins, one that waits too; in the closing window the change
waits. -/
def State.learnOffset (s : State) (d : Nat) (o : Int) : State :=
  let t := s.setDom d { s.dom d with learnedOffset := some o }
  if s.attr Attr.domain_utc_source d == 0 || (s.dom d).deferred.offsetHeld || o == s.attr Attr.domain_utc_offset d then t
  else if s.closing d (s.domNow d) then
    t.setDom d { t.dom d with deferred := { (t.dom d).deferred with offset := some (o, false) } }
  else t.setUtcOffset d o false

/-- The leap flags of a learned message (R80, R82). -/
def State.learnLeap (s : State) (d : Nat) (k : LeapKind) : State :=
  let today := s.utcDay d (s.domNow d)
  let t := s.setDom d { s.dom d with learnedLeap := some (k, today.toNat) }
  if (decide (s.leapOf d ≠ .none) && s.attr Attr.domain_leap_origin d == 0) || (s.dom d).deferred.leapHeld then t
  else if (s.dom d).noLeapDays.contains today.toNat then t
  else if k = s.leapOf d then t
  else if s.closing d (s.domNow d) then
    t.setDom d { t.dom d with deferred := { (t.dom d).deferred with leap := some (k, (today + 1).toNat, false) } }
  else t.setLeap d k today false

/-- A message teaches a domain its offset and leap flags (R80); leap61 and leap59 together are contradictory and
ignored. -/
def State.learnUtc (s : State) (d : Nat) (f : UtcFields) : State :=
  let t := match f.offset with
    | some o => s.learnOffset d o
    | none => s
  let u := if f.leap61 && f.leap59 then t
    else t.learnLeap d (if f.leap61 then .insert else if f.leap59 then .delete else .none)
  (u.judgeLeap d).enforceLimit

/-- A time value that the module returns (R68): with its status bits UNSET, HOLDOVER and LEAP_PENDING. -/
def State.timeValue (s : State) (d : Nat) (t : Int) : List Byte :=
  let st := s.attr Attr.domain_time_status d
  (timeBytes t).take 14 ++
    bytesLE 2 (boolNat (st == TimeStatus.unset.code) + 2 * boolNat (st == TimeStatus.holdover.code) + 4 * boolNat (s.leapPending d))

end Sys2Proof.Machine
end

