-- ==== Sys2Proof/Machine/Stepper.lean ====
section
/-! DEFINITION. The stepper of an output (R192 to R194, R211): movements in fine steps of T_VCO / 2048, positive for later. -/

namespace Sys2Proof.Machine

/-- A distance in fine steps of T_VCO / 2048 that a movement makes on an output of a synthesiser, rounded. -/
def fineSteps (num den : Nat) (x : Int) : Int :=
  let top : Int := x * 540 * 2048 * num
  let bot : Int := 65536 * 1000 * den
  (2 * top + bot) / (2 * bot)

/-- Fine steps of T_VCO / 2048 as an interval in 2^-16 ns, rounded: the inverse of `fineSteps`. -/
def stepsInterval (v : Nat × Nat) (n : Int) : Int :=
  let top : Int := n * 65536 * 1000 * v.2
  let bot : Int := 540 * 2048 * v.1
  (2 * top + bot) / (2 * bot)

/-- The active ratio of a synthesiser. -/
def State.activeRatio (s : State) (n : Nat) : Nat × Nat := ((s.syn n).num, (s.syn n).den)

/-- A CLOCK movement's target modulo the output period (R193): `e` steps earlier, taken as earlier by r or later by
period − r, whichever is shorter, a tie later. Positive is later. -/
def clockTarget (period e : Int) : Int :=
  let r := e % period
  if r = 0 then 0 else if 2 * r < period then -r else period - r

/-- What an output has still to move (R192). -/
def OutRec.toRun (r : OutRec) : Int := r.stepper + r.delayLeft

/-- `phase_remaining` (R192, R209). -/
def State.phaseRemaining (s : State) (o : Nat) : Int := stepsInterval (s.activeRatio (o / 4)) (s.outp o).toRun

/-- Whether an output of SYNn has movement left. -/
def State.synMoving (s : State) (n : Nat) : Bool := (List.range 4).any fun k => (s.outp (4 * n + k)).toRun != 0

/-- Replaces what is kept of an output: the movement-complete event follows where the last movement on its synthesiser ends (R211). -/
def State.replaceOut (s : State) (o : Nat) (r : OutRec) : State :=
  let t := s.setOutp o r
  if s.synMoving (o / 4) && !t.synMoving (o / 4) then t.raise (Ev.movement (o / 4)) else t

/-- Gives an output's stepper its two parts; parts that cancel leave nothing to move. -/
def State.setMove (s : State) (o : Nat) (stepper delay : Int) : State :=
  s.replaceOut o (if stepper + delay = 0 then { s.outp o with stepper := 0, delayLeft := 0 }
    else { s.outp o with stepper := stepper, delayLeft := delay })

/-- The period of an output's divider in fine steps. -/
def State.dividerSteps (s : State) (o : Nat) : Int := (s.attrN Attr.output_divider_active o * 2048 : Nat)

/-- A discontinuity of its DPLL's phase reaches one output (R183, R187, R193): a change of delay that is run in full stays. -/
def State.jumpOutput (s : State) (o : Nat) (x : Int) : State :=
  let r := s.outp o
  let v := s.activeRatio (o / 4)
  s.setMove o (clockTarget (s.dividerSteps o) (fineSteps v.1 v.2 x - r.stepper)) r.delayLeft

/-- A change of an output's delay by `x` fine steps, positive later, passes through its stepper while it runs: modulo the period on a
CLOCK output, in full on a PULSE output (R192 to R194). -/
def State.moveDelay (s : State) (o : Nat) (x : Int) : State :=
  let r := s.outp o
  if x = 0 ∨ !r.started then s
  else if r.pulse then s.setMove o r.stepper (r.delayLeft + x)
  else s.setMove o (clockTarget (s.dividerSteps o) (-(r.stepper + x))) 0

/-- One fine step of what an output has still to move (R192). -/
def OutRec.step (r : OutRec) : OutRec :=
  let d : Int := if 0 < r.toRun then 1 else -1
  if 0 < r.delayLeft * d then { r with delayLeft := r.delayLeft - d } else { r with stepper := r.stepper - d }

end Sys2Proof.Machine
end

