-- ==== Sys2Proof/Machine/Lehr.lean ====
section
/-! DEFINITION. Alignment of frame- and pulse-type signals (R217) and the Lehr (R235 to R240), shared by the generators,
the PULSE outputs and every command that makes a discontinuity of domain time. Generators are numbered 0 to 7 VIDGEN, 8
to 13 AUDGEN, 14 and 15 TCGEN, 16 and 17 TODGEN. -/

namespace Sys2Proof.Machine

/-- The number of a generator. -/
def genNumber : Gen → Nat
  | .vid n => n.val
  | .aud n => 8 + n.val
  | .tc n => 14 + n.val
  | .tod n => 16 + n.val

/-- The descriptor of an attribute that the four generator objects share (R241). -/
def genAttr (g : Nat) (v a t d : AttrDesc) : AttrDesc := if g < 8 then v else if g < 14 then a else if g < 16 then t else d

def State.genEnabled (s : State) (g : Nat) : Bool :=
  s.flag (genAttr g Attr.vidgen_enable Attr.audgen_enable Attr.tcgen_enable Attr.todgen_enable) (genInst g)
def State.genRunCond (s : State) (g : Nat) : RunCond :=
  RunCond.ofCode (s.attr (genAttr g Attr.vidgen_run_cond Attr.audgen_run_cond Attr.tcgen_run_cond Attr.todgen_run_cond) (genInst g))
def State.genImmediate (s : State) (g : Nat) : Bool :=
  s.flag (genAttr g Attr.vidgen_start_cond Attr.audgen_start_cond Attr.tcgen_start_cond Attr.todgen_start_cond) (genInst g)
def genMoves (g : Nat) : AttrDesc :=
  genAttr g Attr.vidgen_lehr_moves Attr.audgen_lehr_moves Attr.tcgen_lehr_moves Attr.todgen_lehr_moves
def genRate (g : Nat) : AttrDesc :=
  genAttr g Attr.vidgen_lehr_rate Attr.audgen_lehr_rate Attr.tcgen_lehr_rate Attr.todgen_lehr_rate

/-- The sequence period S of a video format (R217), in seconds as a fraction. -/
def videoPeriod (code : Nat) : Nat × Nat :=
  [(1, 25), (1001, 3000), (4, 25), (1, 50), (1001, 60000), (1, 60), (1, 25), (1001, 30000), (1, 30), (1001, 24000), (1, 24),
    (1, 25), (1001, 30000), (1, 30), (1, 50), (1001, 60000), (1, 60)].getD code (1, 25)

/-- The frame period of a video format (R222). -/
def framePeriod (code : Nat) : Nat × Nat :=
  if code = 1 then (1001, 30000) else if code = 2 then (1, 25) else videoPeriod code

/-- The frame period at a `tc_rate` (R227). -/
def tcPeriod (rate : Nat) : Nat × Nat := [(1, 24), (1, 25), (1001, 30000), (1001, 30000), (1, 30)].getD rate (1, 25)

/-- S of a generator (R217). -/
def State.genPeriod (s : State) (g : Nat) : Nat × Nat :=
  if g < 8 then videoPeriod (s.attrN Attr.vidgen_format_active g)
  else if g < 12 then (1, s.attrN Attr.audgen_aud_rate (g - 8))
  else if g < 14 then (192, s.attrN Attr.audgen_aud_rate (g - 8))
  else if g < 16 then tcPeriod (s.attrN Attr.tcgen_tc_rate (g - 14))
  else (1, 1)

/-- An error taken into [−S/2, S/2) for S = `p.1 / p.2` seconds (R235), rounded to 2^-16 ns. -/
def wrapInto (p : Nat × Nat) (e : Int) : Int :=
  let m : Int := (p.1 : Int) * secondUnits
  let x := (e * p.2) % m
  let y := if m ≤ 2 * x then x - m else x
  (2 * y + p.2) / (2 * p.2)

/-- What is left of a signed amount after `moved` units of it. -/
def shrink (e : Int) (moved : Int) : Int := if 0 ≤ e then max 0 (e - moved) else min 0 (e + moved)

/-- The time of a domain that its signals run by: under the words in force, an update that waits not yet applied. -/
def State.lehrTime (s : State) (d : Nat) : Int := (s.dom d).words.time s.counter 0

/-- The Lehr error at a time of its domain (R236): e as it stood less what a movement at `rate` × 0.1 ppm of the domain's time has
run. -/
def Lehr.at (l : Lehr) (rate : Nat) (now : Int) : Int := shrink l.e (max 0 (now - l.since) * rate / 10000000)

/-- The domain of a PULSE output's grid (R187). -/
def State.outDomain (s : State) (o : Nat) : Option Nat := s.boundDom (s.attrN Attr.syn_dpll_active (o / 4))

/-- The time that an output's Lehr runs by; 0 without a domain, where no error stands (R190). -/
def State.outTime (s : State) (o : Nat) : Int :=
  match s.outDomain o with
  | some d => s.lehrTime d
  | none => 0

/-- The Lehr error of a generator now. -/
def State.genLehr (s : State) (g : Nat) : Int :=
  (s.gen g).lehr.at (s.attrN (genRate g) (genInst g)) (s.lehrTime (s.genDomain g))

/-- The Lehr error of a PULSE output now. -/
def State.outLehr (s : State) (n : Nat) : Int := (s.outp n).lehr.at (s.attrN Attr.output_lehr_rate n) (s.outTime n)

/-- The pulse period of an output's active pulse rate (R187, R217). -/
def State.pulsePeriod (s : State) (n : Nat) : Nat × Nat := ((s.outp n).den, (s.outp n).num)

/-- The events of an error that goes from `before` to `after` (R240): `stored` is how it was last written, so that a movement which has
run out meanwhile completes here. Every transition from ALIGNED to SLEWING raises EV 578 and counts, every return EV 579. -/
def State.lehrEvents (s : State) (stored before after : Int) (moves : AttrDesc) (inst detail : Nat) : State :=
  let t := if stored ≠ 0 ∧ before = 0 then s.raise 579 false detail else s
  if before = 0 ∧ after ≠ 0 then (t.bump moves inst).raise 578 false detail
  else if before ≠ 0 ∧ after = 0 then t.raise 579 false detail
  else t

/-- Replaces what is kept of a generator; `before` is its error until now. -/
def State.replaceGen (s : State) (g : Nat) (before : Int) (r : GenRec) : State :=
  (s.setGen g r).lehrEvents (s.gen g).lehr.e before r.lehr.e (genMoves g) (genInst g) (genDetail g)

/-- Gives a generator an error. -/
def State.putGenLehr (s : State) (g : Nat) (before after : Int) : State :=
  s.replaceGen g before { s.gen g with lehr := { (s.gen g).lehr with e := after, since := s.lehrTime (s.genDomain g) } }

/-- Replaces what is kept of an output; `before` is its Lehr error until now. -/
def State.replacePulse (s : State) (o : Nat) (before : Int) (r : OutRec) : State :=
  (s.replaceOut o r).lehrEvents (s.outp o).lehr.e before r.lehr.e Attr.output_lehr_moves o (0x0D00 + o)

/-- Gives a PULSE output an error. -/
def State.putOutLehr (s : State) (o : Nat) (before after : Int) : State :=
  s.replacePulse o before { s.outp o with lehr := { (s.outp o).lehr with e := after, since := s.outTime o } }

/-- A new source of error for a generator that runs (R235, R237): it is added to the error until now. -/
def State.genShift (s : State) (g : Nat) (before d : Int) : State := s.putGenLehr g before (wrapInto (s.genPeriod g) (before + d))
def State.genMove (s : State) (g : Nat) (d : Int) : State := s.genShift g (s.genLehr g) d

/-- A new source of error for a PULSE output that runs (R235, R237). -/
def State.outShift (s : State) (o : Nat) (before d : Int) : State := s.putOutLehr o before (wrapInto (s.pulsePeriod o) (before + d))
def State.outMove (s : State) (o : Nat) (d : Int) : State := s.outShift o (s.outLehr o) d

/-- A Lehr error is restated as of now, so that a change of `lehr_rate` acts from here (R237). -/
def State.rebaseOut (s : State) (o : Nat) : State := s.putOutLehr o (s.outLehr o) (s.outLehr o)
def State.rebaseGen (s : State) (g : Nat) : State := s.putGenLehr g (s.genLehr g) (s.genLehr g)

/-- The words of a domain change by `d` at one instant: what runs by its time goes on from there (R236). -/
def State.carryLehr (s : State) (dom : Nat) (d : Int) : State :=
  if d = 0 then s
  else
    let t := s.forEach ((List.range 18).filter fun g => s.genDomain g == dom && (s.gen g).lehr.e != 0) fun u g =>
      u.setGen g { u.gen g with lehr := { (u.gen g).lehr with since := (u.gen g).lehr.since + d } }
    t.forEach ((List.range 32).filter fun o => t.outDomain o == some dom && (t.outp o).lehr.e != 0) fun u o =>
      u.setOutp o { u.outp o with lehr := { (u.outp o).lehr with since := (u.outp o).lehr.since + d } }

/-! ### States of outputs and generators, and the ToD outputs whose companion stops (R199, R213 to R215, R234) -/

def State.synState (s : State) (n : Nat) : SynState := SynState.ofCode (s.attr Attr.syn_state n)

/-- `out_state` (R199). -/
def State.outState (s : State) (o : Nat) : OutState :=
  let r := s.outp o
  if s.outSafe o then .safe
  else if r.started then (if r.gated then .gated else .running)
  else if r.starting && decide (s.synState (o / 4) = .locked) then .starting
  else if s.flag Attr.output_enable o then .gated
  else .disabled

/-- `gen_state` (R213 to R215): SAFE over GATED over RUNNING; a generator that has not yet started reads WAITING. -/
def State.genState (s : State) (g : Nat) : GenState :=
  let r := s.gen g
  if !s.genEnabled g then .disabled
  else if r.stopped then .stopped
  else if s.genSafe g then .safe
  else if r.running then (if r.gated then .gated else .running)
  else .waiting

/-- Whether a TODGEN is QUIET (R234). -/
def State.todQuiet (s : State) (n : Nat) : Bool :=
  let o := s.attrN Attr.todgen_tod_companion n
  decide (31 < o) || decide (s.outState o ≠ .running) ||
    decide (s.attrN Attr.todgen_tod_quiet_limit n * 65536 < (s.outLehr o).natAbs)

/-- A TODGEN enters QUIET as its companion leaves RUNNING or its error passes `tod_quiet_limit` (R234, R248). -/
def State.judgeTod (s : State) (n : Nat) : State :=
  if decide (s.genState (16 + n) = .running) && s.todQuiet n && s.attr Attr.todgen_tod_tx_state n != TodTxState.quiet.code then
    (s.put1 Attr.todgen_tod_tx_state n TodTxState.quiet.code).raise 585 true (genDetail (16 + n))
  else s
def State.judgeTods (s : State) : State := s.forEach [0, 1] State.judgeTod

/-! ### The emitted unit (R215, R223, R239) -/

/-- The emitted unit of a generator, in seconds (R215): the frame, the sample period, the block or the message. -/
def State.genUnit (s : State) (g : Nat) : Nat × Nat :=
  if g < 8 then framePeriod (s.attrN Attr.vidgen_format_active g) else s.genPeriod g

/-- The configured offset o of a generator in 2^-16 ns (R217, R222, R227). -/
def State.genOffset (s : State) (g : Nat) : Int :=
  if g < 8 then s.attr Attr.vidgen_vid_offset g * 65536 / 10
  else if 14 ≤ g ∧ g < 16 then s.attr Attr.tcgen_tc_offset (g - 14) * 65536 / 10 else 0

/-- The first point k × p + o at or after a time, rounded up to 2^-16 ns (R217). -/
def alignFrom (p : Nat × Nat) (o t : Int) : Int :=
  let m : Int := (p.1 : Int) * secondUnits
  let k := ((t - o) * p.2 + (m - 1)) / m
  o + (k * m + (p.2 - 1)) / p.2

/-- The time of the domain at which a signal whose error is `e`, moving at `rate` × 0.1 ppm, comes to a place of its own time (R218,
R236). -/
def reachPlace (now e : Int) (rate : Nat) (place : Int) : Int :=
  let ahead := place - (now - e)
  let slope : Int := if 0 < e then rate else if e < 0 then -rate else 0
  let t := (ahead * 10000000 + (10000000 + slope - 1)) / (10000000 + slope)
  if (e.natAbs : Int) * 10000000 ≤ rate * t then place else now + t

/-- The end of the unit that a generator emits: the time of its domain, and the place in the signal's own time. -/
def State.unitEnd (s : State) (g : Nat) : Int × Int :=
  let now := s.lehrTime (s.genDomain g)
  let e := s.genLehr g
  let place := alignFrom (s.genUnit g) (s.genOffset g) (now - e)
  (reachPlace now e (s.attrN (genRate g) (genInst g)) place, place)

/-- The end of a PULSE output's period in progress, as a time of its domain. -/
def State.pulseEnd (s : State) (o : Nat) : Int :=
  reachPlace (s.outTime o) (s.outLehr o) (s.attrN Attr.output_lehr_rate o)
    (alignFrom (s.pulsePeriod o) (s.attr Attr.output_pulse_offset o) (s.outTime o - s.outLehr o))

/-- The error of a unit that begins at a time of its domain against a generator's grid (R217, R223), 0 within 0.1 ns (R236). -/
def State.gridError (s : State) (g : Nat) (begins : Int) : Int :=
  let e := wrapInto (s.genPeriod g) (begins - s.genOffset g)
  if 10 * e.natAbs ≤ 65536 then 0 else e

/-- A generator that is disabled (R214): it ends the unit in progress, unless its output holds the idle level already, and its error is
gone; `old` is the state before. -/
def State.genEnd (s old : State) (g : Nat) : State :=
  let r := s.gen g
  s.replaceGen g (old.genLehr g)
    { armedAt := s.counter
      ending := if r.running && !r.gated && !old.genSafe g then some (old.unitEnd g) else none }

/-- Restarts a generator on its target as DO_STEP does (R239, R398): the emitted unit in progress ends first. -/
def State.genRestart (s : State) (g : Nat) : State :=
  let t := s.rebaseGen g
  ((t.setGen g { t.gen g with lehr := { (t.gen g).lehr with stepping := true, stepAt := (s.unitEnd g).1 } }).bump (genMoves g) (genInst g)).raise
    580 false (genDetail g)

/-- Restarts a PULSE output on its target as DO_STEP does (R239, R398). -/
def State.outRestart (s : State) (n : Nat) : State :=
  let t := s.rebaseOut n
  ((t.setOutp n { t.outp n with lehr := { (t.outp n).lehr with stepping := true, stepAt := s.pulseEnd n } }).bump Attr.output_lehr_moves n).raise
    580 false (0x0D00 + n)

/-- A discontinuity of a domain's time reaches a PULSE output (R194, R238): the retiming clock takes the part below one of its periods,
and the rest, which is whole periods, enters the Lehr error. -/
def State.pulseStep (s : State) (o : Nat) (x : Int) : State :=
  let t := s.jumpOutput o x
  t.outMove o (x + stepsInterval (s.activeRatio (o / 4)) ((t.outp o).stepper - (s.outp o).stepper))

/-- Whether a TCGEN counts at 29.97 frames/s (R229). -/
def State.tc2997 (s : State) (n : Nat) : Bool := s.attr Attr.tcgen_tc_rate n == 2 || s.attr Attr.tcgen_tc_rate n == 3

/-- A TCGEN at 29.97 frames/s has a jam due at an instant of its domain's time (R229). -/
def State.jamDue (s : State) (n : Nat) (j : Int) : State :=
  if s.tc2997 n && (s.gen (14 + n)).running then s.setGen (14 + n) { s.gen (14 + n) with jamDue := some j } else s

/-- The alignment point of the first frame at or after a domain time. -/
def State.nextTcFrame (s : State) (n : Nat) (t : Int) : Int := alignFrom (s.genPeriod (14 + n)) (s.genOffset (14 + n)) t

/-- The jam of a change (R229): at the alignment point of the first frame after it. -/
def State.jamNext (s : State) (n : Nat) : State := s.jamDue n (s.nextTcFrame n (s.lehrTime (s.genDomain (14 + n))))

/-- The outputs that pulse on a domain: running PULSE outputs of synthesisers that follow its DPLL (R187, R190). -/
def State.pulsesOf (s : State) (d : Nat) : List Nat :=
  match s.boundDpll d with
  | none => []
  | some n => (List.range 32).filter fun o =>
      (s.outp o).started && (s.outp o).pulse && s.attrN Attr.syn_dpll_active (o / 4) == n

/-- The running generators on a domain, TODGENs aside (R235). -/
def State.gensOf (s : State) (d : Nat) : List Nat :=
  (List.range 16).filter fun g => (s.gen g).running && s.genDomain g == d

/-- A discontinuity `e` of a domain's time reaches its signals (R229, R235, R398): while the domain is UNSET they
restart on the new grid; otherwise it enters their Lehr errors; a 29.97 count is jammed. -/
def State.domainStep (s : State) (d : Nat) (e : Int) : State :=
  if e = 0 then s
  else
    let fresh := s.attr Attr.domain_time_status d == 0
    let t := s.forEach (s.gensOf d) fun u g => if fresh then u.genRestart g else u.genMove g e
    let v := t.forEach (s.pulsesOf d) fun u n => if fresh then (u.jumpOutput n e).outRestart n else u.pulseStep n e
    v.forEach [0, 1] fun u n => if s.genDomain (14 + n) = d then u.jamNext n else u

end Sys2Proof.Machine
end

