-- ==== Sys2Proof/Machine/Periods.lean ====
section
/-! DEFINITION. Nominal frequencies, pre-division, expected periods (R88, R91, R94, R98, R118) and the phase comparison
of each candidate type (R140, R155 to R157). A rate is a fraction in Hz, a period a fraction in seconds. -/

namespace Sys2Proof.Machine

/-- The line rate of a video format code (R118, R347); 15,625 Hz before any format has been detected, a period of 64 µs
(R98). -/
def lineRate (code : Nat) : Nat × Nat :=
  [(15625, 1), (15750000, 1001), (15625, 1), (37500, 1), (45000000, 1001), (45000, 1), (28125, 1), (33750000, 1001), (33750, 1),
    (27000000, 1001), (27000, 1), (28125, 1), (33750000, 1001), (33750, 1), (56250, 1), (67500000, 1001), (67500, 1)].getD code (15625, 1)

/-- The frame rate of an `ltc_rate` code; NONE counts as 24 frames/s (R98). -/
def ltcFrameRate (code : Nat) : Nat × Nat := [(24, 1), (24, 1), (25, 1), (30000, 1001), (30000, 1001), (30, 1)].getD code (24, 1)

/-- The format that the line period of a video input is taken from (R98). -/
def State.inputFormat (s : State) (n : Nat) : Nat :=
  if s.attr Attr.input_vsync_format n ≠ 0 then s.attrN Attr.input_vsync_format n
  else if s.attr Attr.input_vsync_expect n ≠ 0 then s.attrN Attr.input_vsync_expect n
  else (s.input n).lastFormat

/-- The nominal frequency of an input (R88, R91): for SYNCE that of its port's speed, code 0 being 10 GbE; for FEEDBACK
the synthesiser's VCO divided by 8,192 (R202). -/
def State.nominal (s : State) (n : Nat) : Nat × Nat :=
  match s.inputType n with
  | .pps => (1, 1)
  | .tenMhz => (10000000, 1)
  | .clock => (s.attrN Attr.input_nominal_num n, s.attrN Attr.input_nominal_den n)
  | .wordClock => (s.attrN Attr.input_nominal_num n, s.attrN Attr.input_nominal_den n)
  | .video => lineRate (s.inputFormat n)
  | .ltc => ((ltcFrameRate (s.attrN Attr.input_ltc_rate n)).1 * 80, (ltcFrameRate (s.attrN Attr.input_ltc_rate n)).2)
  | .syncE => if s.attr Attr.port_speed (n - 22) = 0 then (156250000, 1) else (390625000, 1)
  | .mate => (10000000, 1)
  | .feedback => ((s.syn (n - 28)).num * 540000000, (s.syn (n - 28)).den * 8192)

/-- The least k for which a rate divided by k is at most 2 MHz (R94). -/
def autoPrediv (r : Nat × Nat) : Nat := max 1 ((r.1 + 2000000 * r.2 - 1) / (2000000 * r.2))

/-- The pre-division factor in use (R94). -/
def State.prediv (s : State) (n : Nat) : Nat :=
  if s.attr Attr.input_prediv (channelInput n) = 0 then autoPrediv (s.nominal n) else s.attrN Attr.input_prediv (channelInput n)

/-- The nominal edges from one stamp to the next (R94, R119, R120): every line of a video input and every cell of an LTC is
an edge, whatever `prediv` holds (log entry 78). -/
def State.stampDiv (s : State) (n : Nat) : Nat :=
  match s.inputType n with
  | .video => 1
  | .ltc => 1
  | _ => s.prediv n

/-- The expected period of an input in seconds (R98). -/
def State.expectedPeriod (s : State) (n : Nat) : Nat × Nat := ((s.nominal n).2 * s.stampDiv n, (s.nominal n).1)

/-- What lies between two stamps of an input, in seconds: its expected period, and for an LTC a frame (R98, R120). -/
def State.stampPeriod (s : State) (n : Nat) : Nat × Nat :=
  let p := s.expectedPeriod n
  if s.inputType n = .ltc then (p.1 * 80, p.2) else p

/-- A period in 2^-16 ns, rounded down. -/
def periodUnits (p : Nat × Nat) : Int := (p.1 : Int) * secondUnits / p.2

/-! ### Candidates as references -/

/-- Whether a source is time-bearing (R140). -/
def State.timeBearing (s : State) (x : Nat) : Bool :=
  isDomainSource x || (match s.inputType x with
    | .pps => true | .video => true | .ltc => true | .mate => true | _ => false)

/-- Whether DPLLn compares a source on full time (R157). -/
def State.fullTime (s : State) (n x : Nat) : Bool :=
  if isDomainSource x then (s.boundDom n).isSome else decide (s.inputType x = .ltc)

/-- The modulus to which DPLLn compares a source's phase, in seconds, none on full time (R138, R157); for 525 video the
10-field sequence. The implicit
mate reference is compared modulo 1 s with the snapshot's seconds as its label (R158, R469; log entry 24). -/
def State.modulus (s : State) (n x : Nat) : Option (Nat × Nat) :=
  if s.fullTime n x then none
  else if isDomainSource x || x == mateSource then some (1, 1)
  else match s.inputType x with
    | .pps => some (1, 1)
    | .video => some (if s.inputFormat x = 1 then (1001, 6000) else framePeriod (s.inputFormat x))
    | .mate => some (1, 10000000)
    | _ => some (s.expectedPeriod x)

/-- The phase of a candidate against the DPLL's output, reduced as R138 reduces it. -/
def State.reduced (s : State) (n x : Nat) (phase : Int) : Int :=
  match s.modulus n x with
  | some p => wrapInto p phase
  | none => phase

/-- The sample rate of the phase detector in mHz (R155, R157). -/
def State.pdRate (s : State) (x : Nat) : Nat :=
  let perEdge : Nat := min (1000000 * 1000) ((s.nominal x).1 * 1000 / ((s.nominal x).2 * s.stampDiv x))
  if isDomainSource x then 1000000
  else match s.inputType x with
    | .ltc => (ltcFrameRate (s.attrN Attr.input_ltc_rate x)).1 * 1000 / (ltcFrameRate (s.attrN Attr.input_ltc_rate x)).2
    | _ => perEdge

/-- The AUTO bandwidth code of a source (R157). -/
def State.autoBandwidth (s : State) (x : Nat) : Nat :=
  if isDomainSource x then 3
  else match s.inputType x with
    | .clock => 6 | .tenMhz => 6 | .syncE => 9 | .wordClock => 9 | .pps => 3 | .video => 8 | .ltc => 5 | .mate => 15
    | .feedback => 6

/-- The AUTO lock limit of a source in ps (R157). -/
def State.autoLockLimit (s : State) (x : Nat) : Nat :=
  if isDomainSource x then 50000
  else match s.inputType x with
    | .clock => 1000 | .tenMhz => 1000 | .syncE => 1000 | .wordClock => 5000 | .pps => 20000 | .video => 10000
    | .ltc => 1000000 | .mate => 1000 | .feedback => 1000

/-- The bandwidth settings of R152 in mHz. -/
def bandwidths : List Nat :=
  [1, 2, 5, 10, 20, 50, 100, 200, 500, 1000, 2000, 5000, 10000, 20000, 50000, 100000, 200000, 500000, 1000000, 2000000, 4000000]

/-- The bandwidth in use on a source: the largest setting at most the explicit or AUTO one and at most f_u / 20
(R156); setting 0 where even that is above f_u / 20 (log entry 11). -/
def State.bandwidthFor (s : State) (n x : Nat) : Nat :=
  let want := if s.attr Attr.dpll_bandwidth n = 255 then s.autoBandwidth x else s.attrN Attr.dpll_bandwidth n
  ((List.range (want + 1)).filter fun k => bandwidths.getD k 0 * 20 ≤ s.pdRate x).getLastD 0

/-- The lock limit in use on a source (R157, R162). -/
def State.lockLimitFor (s : State) (n x : Nat) : Nat :=
  if s.attr Attr.dpll_lock_limit n = 0 then s.autoLockLimit x else s.attrN Attr.dpll_lock_limit n

end Sys2Proof.Machine
end

