-- ==== Sys2Proof/Machine/Steer.lean ====
section
/-! DEFINITION. Steering shared by domains, selectors and DPLLs: period words (R70), the one pending update of a domain
(R62), the frequency word, slope-limited movements (R154) and phase discontinuities of a DPLL (R183, R192, R193), and a
DPLL's change of state (R164, R165, R180). -/

namespace Sys2Proof.Machine

/-- P_nom (R70). -/
def nominalPeriod : Int := 208499982748634

/-- P_nom × (1 + f) for f = `num` / `den`, an exact half rounded towards the larger word (R70). -/
def periodFor (num den : Int) : Nat := ((2 * nominalPeriod * (den + num) + den) / (2 * den)).toNat

/-- The period word of a frequency offset in ppt (R70). -/
def periodPpt (f : Int) : Nat := periodFor f 1000000000000

/-- The period word of a frequency word (R167). -/
def periodWord (y : Int) : Nat := periodFor y 1000000000000000000

/-- A frequency word held to ±250 ppm (R151). -/
def clampWord (y : Int) : Int := clampInt (-250000000000000) 250000000000000 y

/-! ### The pending update (R62) -/

/-- Whether the time unit takes an update at an instant (R62). -/
def State.canUpdate (s : State) (d instant : Nat) : Bool :=
  (s.dom d).pend.isNone && decide (s.counter ≤ instant) &&
    (match (s.dom d).lastUpdate with
     | some t => decide (t + 2 ^ 20 ≤ instant)
     | none => true)

/-- Gives the time unit an update. -/
def State.setPend (s : State) (d : Nat) (u : DomUpdate) : State := s.setDom d { s.dom d with pend := some u }

/-- A refused update counts (R62). -/
def State.refuseUpdate (s : State) (d : Nat) : State := s.bump Attr.domain_update_refusals d

/-- Issues an update, or counts its refusal (R62). -/
def State.issue (s : State) (d : Nat) (u : DomUpdate) : State :=
  if s.canUpdate d u.instant then s.setPend d u else s.refuseUpdate d

/-- Serves a steering action of a domain whose update the domain controller gives an instant: where the time unit
refuses the update, the refusal counts and the command has not completed (R37, R62; log entry 12). -/
def State.steer (s : State) (who : Issuer) (a : Action) (d instant : Nat) (effect : State → State) (result : State → List Byte) :
    State :=
  s.act who a fun t =>
    if t.canUpdate d instant then (effect t).finish who a.opcode 0 a.inst (result (effect t)) else t.refuseUpdate d

/-! ### Slews of a virtual domain (R74) -/

/-- What a slew has run by a counter value, signed, in 2^-16 ns. -/
def Slew.moved (w : Slew) (count : Nat) : Int :=
  let m := w.extra * ((min count w.finish - w.start : Nat) : Int) / 2 ^ 32
  if 0 ≤ w.total then min m w.total else max m w.total

/-- What a slew has still to run. -/
def Slew.left (w : Slew) (count : Nat) : Int := w.total - w.moved count

/-- The slew rate in ppt that a movement takes at a base frequency: `slew_rate`, lowered where the slew would last less
than 2^20 ticks (R74); signed towards the target. -/
def slewPpt (rate : Nat) (interval : Int) : Int :=
  let most : Int := interval.natAbs * 27 * 1000000000000 / (20 * 65536 * 1048576)
  let r : Int := min (rate : Int) most
  if 0 ≤ interval then r else -r

/-- A slew of an interval that starts at `start` on base frequency `f` (R74). -/
def slewOf (f : Int) (rate start : Nat) (interval : Int) : Slew :=
  let r := slewPpt rate interval
  let plain : Int := (periodPpt (f + r) : Int) - periodPpt f
  let ticks : Nat := interval.natAbs * 2 ^ 32 / plain.natAbs
  if plain = 0 ∨ ticks < 1048576 then
    { total := interval, start := start, finish := start + 1048576, extra := interval * 4096, ratePpt := r }
  else { total := interval, start := start, finish := start + ticks, extra := plain, ratePpt := r }

/-- The period word while a slew runs on a base frequency. -/
def slewPeriod (f : Int) (w : Slew) : Nat := ((periodPpt f : Int) + w.extra).toNat

/-! ### The frequency word (R151, R161, R167) -/

/-- Whether a frequency word exceeds 100 ppm (R252). -/
def farWord (y : Int) : Bool := decide (100000000000000 < y.natAbs)

/-- The transmit-frequency event of the enabled ports whose tap follows DPLLn (R252). -/
def State.judgeTransmit (s : State) (n : Nat) (before : Int) : State :=
  let y := s.attr Attr.dpll_freq_word n
  if farWord y = farWord before then s
  else
    s.forEach ((List.range 4).filter fun p => s.flag Attr.port_enable p && s.attrN Attr.syn_dpll_active (s.attrN Attr.port_ref_syn p) == n)
      fun t p => if farWord y then t.raise (Ev.port p 1) true else t.uncause (Ev.port p 1)

/-- What a frequency word gains per tick on a period word, in 2^-48 ns / (27 × 10^18) (R59, R167): a tick is 20/27 ns. -/
def wordGain (y posted : Int) : Int := 20 * 2 ^ 48 * (1000000000000000000 + y) - 27000000000000000000 * posted

/-- How far a DPLL's phase is ahead of its domain's time at a tick, in 2^-48 ns / (27 × 10^18), with the word in use (R167). -/
def State.phaseLead (s : State) (n instant : Nat) : Int :=
  let r := s.dpll n
  r.acc + wordGain (s.attr Attr.dpll_freq_word n) r.posted * ((instant : Int) - r.accSince)

/-- The integral of a DPLL's frequency word over the free-running counter, in 10^-18 ticks. -/
def State.wordIntegral (s : State) (n : Nat) : Int :=
  (s.dpll n).wordSum + s.attr Attr.dpll_freq_word n * ((s.counter - (s.dpll n).wordSince : Nat) : Int)

/-- Gives a DPLL its word in use; the phase that the old word has gained is kept for the next post (R167), and the ports that it
drives judge the new one (R252). -/
def State.useWord (s : State) (n : Nat) (y : Int) : State :=
  let r := s.dpll n
  let sum := r.wordSum + s.attr Attr.dpll_freq_word n * ((s.counter - r.wordSince : Nat) : Int)
  ((s.setDpll n { r with acc := s.phaseLead n s.counter, accSince := s.counter, wordSum := sum, wordSince := s.counter }).put1
    Attr.dpll_freq_word n (clampWord y)).judgeTransmit n (s.attr Attr.dpll_freq_word n)

/-! ### Slope-limited movements (R154) -/

/-- What a slope in ps/s moves in some ticks, in 2^-16 ns. -/
def slopeMoved (slope ticks : Nat) : Int := (slope * ticks * 65536 / (1000 * ticksPerSecond) : Nat)

/-- What is left of a movement at a tick. -/
def Movement.left (m : Movement) (slope now : Nat) : Int :=
  match m.since with
  | some t => shrink m.remaining (slopeMoved slope (now - t))
  | none => m.remaining

/-- The slope that a DPLL's movements take: `slope_limit`, and for an `ADJ_PHASE` SLEW outside the loop the lower of it
and the domain's `slew_rate` (R168). -/
def State.slopeOf (s : State) (n : Nat) (k : MoveKind) : Nat :=
  let limit := s.attrN Attr.dpll_slope_limit n
  match k, s.boundDom n with
  | .domainSlew, some d =>
    if limit = 0 then s.attrN Attr.domain_slew_rate d else min limit (s.attrN Attr.domain_slew_rate d)
  | _, _ => limit

/-- What is left of one of a DPLL's movements now. -/
def State.moveLeft (s : State) (n : Nat) (m : Movement) : Int := m.left (s.slopeOf n m.kind) s.counter

/-- The movement of DPLLn that is left, all kinds but a domain's SLEW (R166, R178 `align_remaining`). -/
def State.alignRemaining (s : State) (n : Nat) : Int :=
  (((s.dpll n).moves.filter fun m => decide (m.kind ≠ .domainSlew)).map (s.moveLeft n)).sum

/-- What the movements that remove `buildout_phase` remove as a whole (R140, R141). -/
def State.buildOutWhole (s : State) (n : Nat) : Int :=
  (((s.dpll n).moves.filter fun m => decide (m.kind = .buildOut ∨ m.kind = .align)).map fun m => m.whole).sum

/-- What the movements that remove `buildout_phase` have not yet run (R140, R141). -/
def State.buildOutLeft (s : State) (n : Nat) : Int :=
  (((s.dpll n).moves.filter fun m => decide (m.kind = .buildOut ∨ m.kind = .align)).map (s.moveLeft n)).sum

/-- Restates what each movement has left as of now, so that a change of slope or a hold acts from here (R159, R166). -/
def State.rebase (s : State) (n : Nat) : State :=
  let r := s.dpll n
  s.setDpll n { r with moves := r.moves.map fun m =>
    { m with remaining := s.moveLeft n m, since := m.since.map fun _ => s.counter } }

/-- The state of DPLLn (R161). -/
def State.dpllState (s : State) (n : Nat) : DpllState := DpllState.ofCode (s.attr Attr.dpll_state n)

/-- A distance in 2^-16 ns as whole ps. -/
def picoseconds (x : Int) : Nat := x.natAbs * 1000 / 65536

/-- Starts the first movement. -/
def startHead (now : Nat) : List Movement → List Movement
  | [] => []
  | m :: ms => (match m.since with
    | some _ => m
    | none => { m with since := some now }) :: ms

/-- Starts the first of some movements of a DPLL, where its state lets that run: in the loop, or outside it through the word; in
OPEN a movement is held (R166, R168; log entry 13). -/
def State.runHead (s : State) (n : Nat) (ms : List Movement) : List Movement :=
  if s.dpllState n = .opened then ms
  else if s.dpllState n = .acquire ∨ s.dpllState n = .locked ∨ (ms.headD { kind := .align, remaining := 0, since := none }).word = true then
    startHead s.counter ms
  else ms

/-- Adds a movement of `x`: with `slope_limit` 0 it is made at once with the next post as a discontinuity (R183), else it
joins the movements, of which the first runs (log entry 13). -/
def State.addMove (s : State) (n : Nat) (k : MoveKind) (x : Int) : State :=
  let r := s.dpll n
  if x = 0 then s
  else if s.slopeOf n k = 0 then s.setDpll n { r with pendNudge := r.pendNudge + x }
  else
    let all := r.moves ++ [{ kind := k, remaining := x, since := none, whole := x }]
    s.setDpll n { r with moves := s.runHead n all, marks := r.marks ||| 4 }

/-- Drops the movements of some kinds and answers what they had left. -/
def State.dropMoves (s : State) (n : Nat) (kinds : List MoveKind) : Int × State :=
  let r := s.dpll n
  let gone := r.moves.filter fun m => kinds.contains m.kind
  let kept := r.moves.filter fun m => !kinds.contains m.kind
  ((gone.map (s.moveLeft n)).sum,
   s.setDpll n { r with moves := s.runHead n kept })

/-- The rate that a movement outside the loop adds to the word, in 10^-18 (R168): 1 ps/s is 10^6 units. -/
def State.moveWord (s : State) (n : Nat) (k : MoveKind) (x : Int) : Int :=
  let r : Int := s.slopeOf n k * 1000000
  if 0 ≤ x then r else -r

/-- The rate that the movements which run through a DPLL's word add to it (R168). -/
def State.moveRate (s : State) (n : Nat) : Int :=
  (((s.dpll n).moves.filter fun m => m.word && m.since.isSome).map fun m => s.moveWord n m.kind m.remaining).sum

/-- The word in use follows from the word of the DPLL's state and the movements that run through it (R168). -/
def State.reword (s : State) (n : Nat) : State := s.useWord n ((s.dpll n).base + s.moveRate n)

/-- Gives a DPLL the word of its state; a movement that runs through the word stays on top of it (R168). -/
def State.setWord (s : State) (n : Nat) (y : Int) : State := (s.setDpll n { s.dpll n with base := clampWord y }).reword n

/-- Ends a SLEW that runs or is held outside the loop (R168): the word returns to its value and the rest is dropped. -/
def State.endWordSlew (s : State) (n : Nat) : State :=
  let r := s.dpll n
  if r.moves.any fun m => m.word && decide (m.kind = .domainSlew) then
    (s.setDpll n { r with moves := r.moves.filter fun m => !(m.word && decide (m.kind = .domainSlew)) }).reword n
  else s

/-- Starts a movement that runs through the word (R168); without a slope limit it is a discontinuity (R183). -/
def State.startWordMove (s : State) (n : Nat) (k : MoveKind) (x : Int) : State :=
  let r := s.dpll n
  if x = 0 then s
  else if s.slopeOf n k = 0 then s.setDpll n { r with pendNudge := r.pendNudge + x }
  else
    (s.setDpll n { r with
      moves := { kind := k, remaining := x, since := some s.counter, word := true } :: r.moves
      marks := r.marks ||| 4 }).reword n

/-! ### Phase discontinuities (R183) -/

/-- A discontinuity of DPLLn's phase reaches the outputs of its synthesisers (R183); of a PULSE output on a bound domain the domain's
discontinuity moves pulses and retiming clock together (R238). -/
def State.phaseJump (s : State) (n : Nat) (x : Int) : State :=
  if x = 0 then s
  else s.forEach ((List.range 32).filter fun o => (s.outp o).started && s.attrN Attr.syn_dpll_active (o / 4) == n &&
      (!(s.outp o).pulse || (s.boundDom n).isNone)) fun t o => t.jumpOutput o x

/-! ### `time_status` of a bound domain (R75, R165) -/

/-- The candidate that a selector has connected, as a source number. -/
def State.connected (s : State) (n : Nat) : Option Nat := (s.sel n).source

/-- `time_status` that R165 gives a domain bound to DPLLn. -/
def State.statusFor (s : State) (n : Nat) : TimeStatus :=
  match s.dpllState n with
  | .locked =>
    match s.connected n with
    | some x => if s.timeBearing x then .tracking else .set
    | none => .set
  | .holdover => .holdover
  | .holdoverLimit => .holdover
  | _ => .set

/-- `time_status` of the domain bound to a DPLL follows it, once it has left UNSET (R165). -/
def State.followStatus (s : State) (n : Nat) : State :=
  match s.boundDom n with
  | some d => if s.attr Attr.domain_time_status d = 0 then s else s.put1 Attr.domain_time_status d (s.statusFor n).code
  | none => s

/-- A domain leaves UNSET (R75); the instant releases the generators that wait for it (R214). -/
def State.leaveUnset (s : State) (d : Nat) : State :=
  if s.attr Attr.domain_time_status d ≠ 0 then s
  else
    let t := s.setDom d { s.dom d with setAt := s.counter }
    match s.boundDpll d with
    | some n => t.put1 Attr.domain_time_status d (s.statusFor n).code
    | none => t.put1 Attr.domain_time_status d TimeStatus.set.code

/-! ### Tracking the mate (R362, R469, R470) -/

/-- `snap_age` in ticks (R467): since the labelled edge of the last complete snapshot. -/
def State.snapAge (s : State) : Nat :=
  match s.mate.snap with
  | some p => s.counter - p.localEdge
  | none => 0

/-- DETAIL of the mate group (R362): ROLE_ACT and the age of the last complete snapshot in ms. -/
def State.mateDetail (s : State) : Nat := boolNat s.mate.roleAct * 256 + satNat 255 (s.snapAge / 1350000)

/-- Whether SELECTOR n is driven by the implicit mate reference (R469). -/
def State.mateTracked (s : State) (n : Nat) : Bool := s.mate.tracking && bitOf (s.attrN Attr.mate_track_mask) n

/-- Whether every tracked DPLL is LOCKED to its mate reference and the last snapshot is at most 20 ms old (R470). -/
def State.allTracking (s : State) : Bool :=
  s.mate.tracking && decide (s.snapAge ≤ 27000000) && s.mate.snap.isSome &&
    (List.range 16).all fun n => !s.mateTracked n || (decide (s.dpllState n = .locked) && (s.sel n).source == some mateSource)

/-- `track_state` becomes TRACKING where its conditions hold, and ACQUIRING where the snapshots have grown stale (R470). -/
def State.judgeTrack (s : State) : State :=
  if !s.mate.tracking then s
  else if s.allTracking then s.put1 Attr.mate_track_state 0 2
  else if s.attr Attr.mate_track_state = 2 then s.put1 Attr.mate_track_state 0 1
  else s

/-- A tracked DPLL changes state (R470): one that leaves LOCKED loses the tracking. -/
def State.trackChange (s : State) (n : Nat) (old new : DpllState) : State :=
  if s.mateTracked n then
    if old = .locked then (s.put1 Attr.mate_track_state 0 3).raise 546 false s.mateDetail
    else if new = .locked then s.judgeTrack
    else s
  else s

/-! ### A DPLL's change of state (R164, R180) -/

/-- Source k of SELECTOR n and DPLL n (R149). -/
def evLoop (n k : Nat) : Nat := 144 + 6 * n + k

/-- DPLLn changes state: the state event with the old and the new state, lock lost or holdover entered, the holdover
limit, and the status of its bound domain (R164, R165, R180). -/
def State.toDpllState (s : State) (n : Nat) (new : DpllState) : State :=
  let old := s.dpllState n
  if old = new then s
  else
    let duty := if new = .acquire ∨ new = .locked then (s.dpll n).duty else 0
    let t := ((s.setDpll n { s.dpll n with marks := (s.dpll n).marks ||| 1, duty := duty }).put1 Attr.dpll_state n new.code).put1
      Attr.dpll_state_since n s.counter
    let u := t.raise (evLoop n 3) false (old.code.toNat * 256 + new.code.toNat)
    let lost : Bool :=
      decide (old = .locked ∧ new = .acquire) || decide (new = .holdover) ||
        (decide (new = .freeRun) && decide (old = .acquire ∨ old = .locked))
    let v := if lost then u.raise (evLoop n 4) true new.code.toNat else if new = .locked then u.uncause (evLoop n 4) else u
    let w := if new = .holdoverLimit then v.raise (evLoop n 5) true (satNat 65535 (s.attrN Attr.dpll_ho_te_est n / 1000))
      else if old = .holdoverLimit then v.uncause (evLoop n 5) else v
    (w.followStatus n).trackChange n old new

/-- The ticks that `settling` lasts (R160): the longer of 16 samples at `pd_rate`, in mHz, and 2 / `bw_used`. -/
def State.settleTicks (s : State) (n : Nat) : Nat :=
  let f := s.attrN Attr.dpll_pd_rate n
  let b := bandwidths.getD (s.attrN Attr.dpll_bw_used n) 1
  max (if f = 0 then 0 else (16000 * ticksPerSecond + f - 1) / f) ((2000 * ticksPerSecond + b - 1) / b)

/-- DPLLn raises `settling`; a further change restarts it (R160). -/
def State.settle (s : State) (n : Nat) : State :=
  let r := s.dpll n
  (s.setDpll n { r with marks := r.marks ||| 2, settleEnds := s.counter + s.settleTicks n }).put1 Attr.dpll_settling n 1

/-- A switch, nudge or step marks the ledger record of the second in progress (R169). -/
def State.markSwitch (s : State) (n : Nat) : State :=
  s.setDpll n { s.dpll n with marks := (s.dpll n).marks ||| 16 }

end Sys2Proof.Machine
end

