-- ==== Sys2Proof/Machine/Candidates.lean ====
section
/-! DEFINITION. What a selector keeps of its candidates' sources (R127, R128, R131, R145): sources that leave and
return to QUALIFIED, DRIFT flags, and the qualified flag and grade of a domain reference. -/

namespace Sys2Proof.Machine

/-- The grade of a clockClass and clockAccuracy (R109). -/
def announceGrade (cls acc : Nat) : Nat :=
  if cls = 6 then
    (if 0x17 ≤ acc ∧ acc ≤ 0x20 then 0 else if acc = 0x21 then 1 else if acc = 0x22 ∨ acc = 0x23 then 2 else 3)
  else if cls = 13 then 3 else if cls = 7 then 4 else if cls = 14 then 5 else if cls = 135 then 6 else if cls = 140 then 7
  else if cls = 150 then 9 else if cls = 160 then 10 else if cls = 165 then 11
  else if cls = 52 ∨ cls = 58 ∨ cls = 187 ∨ cls = 193 then 12
  else if cls = 248 then 13 else if cls = 255 then 15 else 14

/-- Whether the implicit mate reference is qualified (R469). -/
def State.mateQualified (s : State) : Bool :=
  s.mate.snap.isSome && s.attr Attr.input_qual_state 26 == QualState.qualified.code &&
    decide (s.snapAge ≤ s.attrN Attr.mate_snap_max_age * 1350000)

/-- Whether a source is QUALIFIED, or its qualified flag set (R128). -/
def State.sourceQualified (s : State) (x : Nat) : Bool :=
  if x = mateSource then s.mateQualified
  else if isDomainSource x then s.created (x - 64) && (s.dom (x - 64)).ref.qualified
  else s.attr Attr.input_qual_state x == QualState.qualified.code

/-- The grade of a source (R106, R127). -/
def State.sourceGrade (s : State) (x : Nat) : Nat :=
  if isDomainSource x then (s.dom (x - 64)).ref.grade else s.attrN Attr.input_grade (channelInput x)

/-- Whether a source carries DRIFT (R97): bit 4 of `qual_flags`; a domain reference never does. -/
def State.sourceDrift (s : State) (x : Nat) : Bool :=
  if isDomainSource x then false else bitOf (s.attrN Attr.input_qual_flags (channelInput x)) 4

/-- The domains whose DPLL has a source in use (R80). -/
def State.domainsOn (s : State) (x : Nat) : List Nat :=
  ((List.range 16).filter fun n => (s.sel n).source == some x).filterMap s.boundDom

/-- A source leaves QUALIFIED: selectors that list it mark that, a pending period ends (R131), and a selection under the bypass
of R128 is over. -/
def State.sourceLeft (s : State) (x : Nat) : State :=
  s.forEach (s.listing x) fun t n =>
    let r := t.sel n
    t.setSel n { r with
      left := if r.left.contains x then r.left else x :: r.left
      wtr := tblDrop r.wtr x
      bypass := r.bypass && r.source != some x }

/-- Starts a wait-to-restore period of a source at a selector; with `wtr_time` 0 none starts (R131). -/
def State.startWtr (s : State) (n x : Nat) : State :=
  let r := s.sel n
  let w := s.attrN Attr.selector_wtr_time n
  if w = 0 then s else s.setSel n { r with wtr := tblPut r.wtr x (s.counter + w * ticksPerSecond) }

/-- A source returns to QUALIFIED: selectors at which it has left before make it pending (R131). -/
def State.sourceReturned (s : State) (x : Nat) : State :=
  s.forEach ((s.listing x).filter fun n => (s.sel n).left.contains x) fun t n =>
    (t.setSel n { t.sel n with left := (t.sel n).left.filter fun y => y != x }).startWtr n x

/-- A source's DRIFT flag clears: selectors with `preempt_drift` 1 make it pending (R131). -/
def State.driftCleared (s : State) (x : Nat) : State :=
  s.forEach ((s.listing x).filter fun n => s.flag Attr.selector_preempt_drift n) fun t n => t.startWtr n x

/-- The controller or the hardware writes a domain reference's qualified flag (R25, R127, R145). -/
def State.setQualified (s : State) (d : Nat) (q : Bool) : State :=
  let r := s.dom d
  let was := r.ref.qualified
  let t := s.setDom d { r with ref := { r.ref with
    qualified := q
    soaked := if q then r.ref.soaked else 0
    timedOut := if q then none else r.ref.timedOut } }
  if was && !q then t.sourceLeft (64 + d) else if !was && q then t.sourceReturned (64 + d) else t

end Sys2Proof.Machine
end

