-- ==== Sys2Proof/Machine/Late.lean ====
section
/-! DEFINITION. Timed frames that miss their launch time (R64, R262, R263): the delay of a port, the instant of a launch gate
and the late-frame policy of a queue. -/

namespace Sys2Proof.Machine

/-- The element of `rx_latency_fact` and `tx_latency_fact` for a port's speed and FEC, in the order of R249's table (log
entry 18). -/
def State.latencyIndex (s : State) (p : Nat) : Nat :=
  let f := s.attrN Attr.port_fec p
  match s.attrN Attr.port_speed p with
  | 0 => 0
  | 1 => if f = 0 then 1 else if f = 1 then 2 else 3
  | 2 => 4
  | _ => if f = 0 then 5 else 6

/-- A delay in ps in 2^-16 ns, rounded. -/
def psUnits (x : Int) : Int := (x * 65536 * 2 + 1000) / 2000

/-- What lies between the PCS/PMA boundary and the MDI on transmit and on receive (R255), in 2^-16 ns. -/
def State.txDelay (s : State) (p : Nat) : Int :=
  psUnits (s.attr Attr.port_tx_latency_fact p (s.latencyIndex p) + s.attr Attr.port_ext_tx_delay p)
def State.rxDelay (s : State) (p : Nat) : Int :=
  psUnits (s.attr Attr.port_rx_latency_fact p (s.latencyIndex p) + s.attr Attr.port_ext_rx_delay p)

/-- Completes a host frame that has left or was dropped: 1 LATE, 2 DROPPED (R263, R264). -/
def State.sendDone (s : State) (f : TxFrame) (flag : Nat) : State :=
  match f.host with
  | some w =>
    let res := if f.stamp && flag != 2 then s.timeValue f.domain (f.departure.getD 0) else []
    (s.audit w 0x0805 0 f.queue 0).complete w 0x0805 0 res none flag
  | none => s

/-- The domain time at which a timed frame's gate opens (R262). -/
def State.gateTime (s : State) (p : Nat) (l : Nat × Int) : Int := l.2 - s.txDelay p

/-- A timed frame that cannot leave at its launch time (R263): the frame as it is sent at once, or none where it is
dropped. -/
def State.lateFrame (s : State) (p : Nat) (f : TxFrame) : Option TxFrame × State :=
  let t := s.raiseOnce (Ev.port p 7)
  match f.cls with
  | .host =>
    if s.queueLate f.queue = 1 then (none, (t.bump Attr.port_tx_drops p).sendDone f 2)
    else (some { f with released := true, late := true }, t)
  | _ => (some { f with released := true, late := true }, t.bump Attr.port_late_launches p)

/-- Takes the frames that satisfy `p` out of a list one by one and puts what `f` makes of each in its place. -/
def State.eachFrame (s : State) (p : TxFrame → Bool) (f : State → TxFrame → Option TxFrame × State) : List TxFrame → List TxFrame × State
  | [] => ([], s)
  | g :: gs =>
    let r := if p g then f s g else (some g, s)
    let q := r.2.eachFrame p f gs
    (r.1.toList ++ q.1, q.2)

/-- An update has stepped a domain from the time `before` (R64): a launch time within the step counts as passed, and the frame
that waits at its gate follows its queue's late-frame policy. -/
def State.passLaunches (s : State) (d : Nat) (before : Int) : State :=
  s.forEach (List.range 4) fun t p =>
    let skipped (f : TxFrame) : Bool :=
      match f.launch with
      | some l => l.1 == d && !f.released && decide (before < t.gateTime p l) && decide (t.gateTime p l < t.domNow d)
      | none => false
    if (t.port p).buffer.any skipped then
      let r := t.eachFrame skipped (fun u f => u.lateFrame p f) (t.port p).buffer
      r.2.setPort p { r.2.port p with buffer := r.1 }
    else t

end Sys2Proof.Machine
end

