-- ==== Sys2Proof/Machine/Sha.lean ====
section
/-! DEFINITION. HMAC-SHA-256, by which a binding with a key authenticates what it sends (R269). -/

namespace Sys2Proof.Machine

/-- The round constants of SHA-256. -/
def shaRounds : List (BitVec 32) :=
  [0x428a2f98, 0x71374491, 0xb5c0fbcf, 0xe9b5dba5, 0x3956c25b, 0x59f111f1, 0x923f82a4, 0xab1c5ed5,
   0xd807aa98, 0x12835b01, 0x243185be, 0x550c7dc3, 0x72be5d74, 0x80deb1fe, 0x9bdc06a7, 0xc19bf174,
   0xe49b69c1, 0xefbe4786, 0x0fc19dc6, 0x240ca1cc, 0x2de92c6f, 0x4a7484aa, 0x5cb0a9dc, 0x76f988da,
   0x983e5152, 0xa831c66d, 0xb00327c8, 0xbf597fc7, 0xc6e00bf3, 0xd5a79147, 0x06ca6351, 0x14292967,
   0x27b70a85, 0x2e1b2138, 0x4d2c6dfc, 0x53380d13, 0x650a7354, 0x766a0abb, 0x81c2c92e, 0x92722c85,
   0xa2bfe8a1, 0xa81a664b, 0xc24b8b70, 0xc76c51a3, 0xd192e819, 0xd6990624, 0xf40e3585, 0x106aa070,
   0x19a4c116, 0x1e376c08, 0x2748774c, 0x34b0bcb5, 0x391c0cb3, 0x4ed8aa4a, 0x5b9cca4f, 0x682e6ff3,
   0x748f82ee, 0x78a5636f, 0x84c87814, 0x8cc70208, 0x90befffa, 0xa4506ceb, 0xbef9a3f7, 0xc67178f2]

/-- The initial hash value of SHA-256. -/
def shaStart : List (BitVec 32) :=
  [0x6a09e667, 0xbb67ae85, 0x3c6ef372, 0xa54ff53a, 0x510e527f, 0x9b05688c, 0x1f83d9ab, 0x5be0cd19]

/-- A word of four bytes, most significant first, and back. -/
def shaWord (b : List Byte) : BitVec 32 := b.foldl (fun x y => x * 256 + y.setWidth 32) 0
def shaBytes (w : BitVec 32) : List Byte :=
  [(w >>> 24).setWidth 8, (w >>> 16).setWidth 8, (w >>> 8).setWidth 8, w.setWidth 8]

/-- The message schedule: 48 words after the 16 of a block, each from those before it, newest first. -/
def shaSchedule : Nat → List (BitVec 32) → List (BitVec 32)
  | 0, w => w
  | n + 1, w =>
    let at_ (k : Nat) : BitVec 32 := w.getD (k - 1) 0
    let a := (at_ 15).rotateRight 7 ^^^ (at_ 15).rotateRight 18 ^^^ (at_ 15 >>> 3)
    let b := (at_ 2).rotateRight 17 ^^^ (at_ 2).rotateRight 19 ^^^ (at_ 2 >>> 10)
    shaSchedule n ((at_ 16 + a + at_ 7 + b) :: w)

/-- One round on the eight working words, with its constant plus its schedule word. -/
def shaRound (v : List (BitVec 32)) (kw : BitVec 32) : List (BitVec 32) :=
  match v with
  | [a, b, c, d, e, f, g, h] =>
    let t := h + (e.rotateRight 6 ^^^ e.rotateRight 11 ^^^ e.rotateRight 25) + ((e &&& f) ^^^ (~~~e &&& g)) + kw
    let u := (a.rotateRight 2 ^^^ a.rotateRight 13 ^^^ a.rotateRight 22) + ((a &&& b) ^^^ (a &&& c) ^^^ (b &&& c))
    [t + u, a, b, c, d + t, e, f, g]
  | _ => v

/-- A block of 64 bytes. -/
def shaBlock (hash : List (BitVec 32)) (block : List Byte) : List (BitVec 32) :=
  let first := (List.range 16).map fun k => shaWord ((block.drop (4 * k)).take 4)
  let words := (shaSchedule 48 first.reverse).reverse
  let last := ((shaRounds.zip words).map fun x => x.1 + x.2).foldl shaRound hash
  (hash.zip last).map fun x => x.1 + x.2

/-- SHA-256 of a message. -/
def sha256 (m : List Byte) : List Byte :=
  let pad := (119 - m.length % 64) % 64
  let whole := m ++ [0x80] ++ List.replicate pad 0 ++ (bytesLE 8 (8 * m.length)).reverse
  ((List.range (whole.length / 64)).foldl (fun h k => shaBlock h ((whole.drop (64 * k)).take 64)) shaStart).flatMap shaBytes

/-- HMAC-SHA-256 with a key of at most 64 bytes. -/
def hmac (key m : List Byte) : List Byte :=
  let k := key ++ List.replicate (64 - key.length) 0
  sha256 (k.map (· ^^^ 0x5C) ++ sha256 (k.map (· ^^^ 0x36) ++ m))

end Sys2Proof.Machine
end

