-- ==== Sys2Proof/Machine/Frames.lean ====
section
/-! DEFINITION. The bytes of the frames that the module sends (R9, R254, R257 to R259, R266, R269): the PTP messages on their
transports, the stamp of a one-step frame, the UDP checksums and the ICV. Fields of a network frame are in network byte order. The layouts
of IEEE 1588, IEEE 802, RFC 768, RFC 791 and RFC 8200 that the spec names and does not repeat are PRESUMED (log entry 90). -/

namespace Sys2Proof.Machine

/-! ### Network byte order (R9) -/

/-- The `n` low bytes of a number, most significant first, and the number that such bytes spell. -/
def bytesBE (n v : Nat) : List Byte := (bytesLE n v).reverse
def natBE (b : List Byte) : Nat := natLE b.reverse

/-- Two's complement in `n` bytes, most significant first. -/
def intBytesBE (n : Nat) (v : Int) : List Byte := (intBytesLE n v).reverse
def intBE (n : Nat) (b : List Byte) : Int := intLE n b.reverse

/-- `n` bytes of a frame from an offset, and a frame with bytes written over it from an offset. -/
def cut (b : List Byte) (off n : Nat) : List Byte := (b.drop off).take n
def overlay (b : List Byte) (off : Nat) (w : List Byte) : List Byte := b.take off ++ w ++ b.drop (off + w.length)

/-- A timestamp of IEEE 1588 (R70, R257): 48-bit seconds and 32-bit nanoseconds of a time, its FRACTION left out. -/
def stampBytes (t : Int) : List Byte := intBytesBE 6 (secondsOf t) ++ bytesBE 4 ((t % secondUnits) / 65536).toNat

/-- FRACTION of a time, in correctionField's unit (R257). -/
def fractionOf (t : Int) : Int := t % 65536

/-! ### Checksums (R259) -/

/-- The sum of the 16-bit words of some bytes; the ones' complement sum is this modulo 65,535. -/
def wordSum : List Byte → Nat
  | a :: b :: t => a.toNat * 256 + b.toNat + wordSum t
  | [a] => a.toNat * 256
  | [] => 0

/-- The Internet checksum of some words; a UDP checksum that comes out as 0 is sent as 0xFFFF. -/
def checksum (sum : Nat) : Nat := 65535 - (if sum = 0 then 0 else (sum - 1) % 65535 + 1)
def udpChecksum (sum : Nat) : Nat := if checksum sum = 0 then 65535 else checksum sum

/-- A checksum field once words that it covers have changed from `old` to `new`, without the rest (R259). -/
def updatedChecksum (c : Nat) (old new : List Byte) : Nat := udpChecksum ((65535 - c) + 65535 * wordSum old - wordSum old + wordSum new)

/-! ### The shape of a frame -/

/-- Where the parts of a PTP frame lie: the transport code (0 L2, 1 UDP4, 2 UDP6), the UDP header and the PTP header. -/
structure FrameShape where
  transport : Nat
  udp : Nat
  ptp : Nat
deriving DecidableEq, Repr

/-- The shape of an Ethernet frame, tagged or not, that carries a PTP event message on a transport that the module knows (R266, R287). -/
def eventShape (b : List Byte) : Option FrameShape :=
  let off := if natBE (cut b 12 2) = 0x8100 then 18 else 14
  let type := natBE (cut b (off - 2) 2)
  let hdr := (b.getD off 0).toNat % 16 * 4
  let shape : Option FrameShape :=
    if type = 0x88F7 then some ⟨0, 0, off⟩
    else if type = 0x0800 ∧ (b.getD (off + 9) 0).toNat = 17 ∧ natBE (cut b (off + hdr + 2) 2) = 319 then some ⟨1, off + hdr, off + hdr + 8⟩
    else if type = 0x86DD ∧ (b.getD (off + 6) 0).toNat = 17 ∧ natBE (cut b (off + 42) 2) = 319 then some ⟨2, off + 40, off + 48⟩
    else none
  shape.filter fun x => decide (x.ptp + 34 ≤ b.length) && decide ((b.getD x.ptp 0).toNat % 16 < 4)

/-- Writes a departure time into a frame (R257, R258, R287): the timestamp at an offset, its FRACTION added to the correctionField that
begins 26 bytes before it. -/
def writeStamp (b : List Byte) (off : Nat) (t : Int) : List Byte :=
  let c := intBE 8 (cut b (off - 26) 8) + fractionOf t
  overlay (overlay b off (stampBytes t)) (off - 26) (intBytesBE 8 c)

/-- What the port makes of the UDP checksum of its own one-step frame (R259): 0 on IPv4; on IPv6 the two trailer bytes after messageLength
take up what the stamp has changed. -/
def settleChecksum (old b : List Byte) (x : FrameShape) : List Byte :=
  if x.transport = 1 then overlay b (x.udp + 6) [0, 0]
  else if x.transport = 2 then
    let trailer := x.ptp + natBE (cut b (x.ptp + 2) 2)
    let sum := natBE (cut b trailer 2) + wordSum (old.drop x.ptp) + 65535 * wordSum (b.drop x.ptp) - wordSum (b.drop x.ptp)
    if trailer + 2 ≤ b.length then overlay b trailer (bytesBE 2 (sum % 65535)) else b
  else b

/-- A one-step frame as it leaves (R257 to R259). -/
def oneStepBytes (b : List Byte) (off : Nat) (t : Int) : List Byte :=
  match eventShape b with
  | some x => settleChecksum b (writeStamp b off t) x
  | none => writeStamp b off t

/-! ### Addresses -/

/-- The clockIdentity of the module's clocks, and the portIdentity of a binding. -/
def State.macBytes (s : State) (p : Nat) : List Byte := (List.range 6).map fun e => BitVec.ofNat 8 (s.attrN Attr.port_mac_addr p e)
def State.clockIdentity (s : State) : Nat :=
  natBE ((s.macBytes 0).take 3 ++ [0xFF, 0xFE] ++ (s.macBytes 0).drop 3)
def State.portIdentity (s : State) (p k : Nat) : Nat := s.clockIdentity * 65536 + (32 * p + k + 1)

/-- An IPv6 address of a port as a number. -/
def State.ipv6 (s : State) (a : AttrDesc) (p : Nat) : Nat := natBE ((List.range 16).map fun e => BitVec.ofNat 8 (s.attrN a p e))

/-- The address that a partner's frames go to on the wire: its own, or the gateway's where its own lies off an IPv4 link (R285). -/
def State.nextHop (s : State) (p transport addr : Nat) : Nat :=
  let width := s.attrN Attr.port_ipv4_prefix p
  let net (x : Nat) : Nat := x % 2 ^ 32 / 2 ^ (32 - width)
  if transport = 1 ∧ net addr ≠ net (s.attrN Attr.port_ipv4_addr p) ∧ s.attr Attr.port_ipv4_gateway p ≠ 0 then s.attrN Attr.port_ipv4_gateway p
  else if transport = 2 ∧ addr / 2 ^ 64 ≠ s.ipv6 Attr.port_ipv6_addr p / 2 ^ 64 ∧ s.ipv6 Attr.port_ipv6_gateway p ≠ 0 then
    s.ipv6 Attr.port_ipv6_gateway p
  else addr

/-- The group address of a transport and its MAC address (R266, R267). -/
def groupAddress (transport : Nat) : Nat := if transport = 1 then 0xE0000181 else 0xFF0E * 2 ^ 112 + 0x181
def groupMac (profile transport : Nat) : Nat :=
  if transport = 1 then 0x01005E000181 else if transport = 2 then 0x333300000181 else if profile = 4 then 0x0180C200000E else 0x011B19000000

/-! ### PTP messages (R257, R260, R266, R270, R275, R281) -/

/-- messageType of what the module sends. -/
def messageType : PtpKind → Nat
  | .sync => 0 | .delayReq => 1 | .pdelayReq => 2 | .pdelayResp => 3 | .followUp => 8 | .delayResp => 9 | .pdelayRespFollowUp => 10
  | .announce => 11 | .management => 13 | _ => 12

def eventMessage (k : PtpKind) : Bool := decide (messageType k < 4)

/-- The flag octets of an Announce (R275). -/
def announceFlags (a : AnnounceOut) : Nat :=
  boolNat a.utc.leap61 + 2 * boolNat a.utc.leap59 + 4 * boolNat a.utc.offset.isSome + 8 * boolNat a.ptpTimescale +
    16 * boolNat a.timeTraceable + 32 * boolNat a.freqTraceable

/-- What follows the header of 34 bytes. -/
def messageBody (f : TxFrame) (k : PtpKind) : List Byte :=
  let identity := bytesBE 10 f.peer.portId
  match k with
  | .announce =>
    (match f.announce with
     | some a => List.replicate 10 0 ++ intBytesBE 2 (a.utc.offset.getD 0) ++ [0] ++ bytesBE 1 a.priority1 ++ bytesBE 1 a.cls ++
        bytesBE 1 a.accuracy ++ bytesBE 2 a.variance ++ bytesBE 1 a.priority2 ++ bytesBE 8 a.gmIdentity ++ bytesBE 2 a.steps ++ bytesBE 1 a.source
     | none => [])
  | .sync => List.replicate 10 0
  | .delayReq => List.replicate 10 0
  | .pdelayReq => List.replicate 20 0
  | .followUp => stampBytes (f.receive.getD 0) ++ f.body
  | .delayResp => stampBytes (f.receive.getD 0) ++ identity
  | .pdelayResp => stampBytes (f.receive.getD 0) ++ identity
  | .pdelayRespFollowUp => stampBytes (f.receive.getD 0) ++ identity
  | _ => identity ++ f.body

/-- correctionField (R257): a Follow_Up adds the FRACTION of its time, a response subtracts it from the field that it copies. -/
def messageCorrection (f : TxFrame) (k : PtpKind) : Int :=
  let x := fractionOf (f.receive.getD 0)
  match k with
  | .followUp => f.correction + x
  | .pdelayRespFollowUp => f.correction + x
  | .delayResp => f.correction - x
  | .pdelayResp => f.correction - x
  | _ => f.correction

/-- A PTP message of a binding, its ICV aside. -/
def State.ptpMessage (s : State) (p : Nat) (f : TxFrame) (k : PtpKind) (tlv : List Byte) : List Byte :=
  let e := s.binding p f.slot
  let body := messageBody f k ++ tlv
  let flags0 := (if k = .sync ∧ f.twoStep ∨ k = .pdelayResp then 2 else 0) + (if f.peer.addr = 0 then 0 else 4)
  bytesBE 1 (messageType k + (if bindProfile e = 4 then 16 else 0)) ++ [0x12] ++ bytesBE 2 (34 + body.length) ++ bytesBE 1 (bindNumber e) ++ [0] ++
    bytesBE 1 flags0 ++ bytesBE 1 ((f.announce.map announceFlags).getD 0) ++ intBytesBE 8 (messageCorrection f k) ++ List.replicate 4 0 ++
    bytesBE 10 (s.portIdentity p f.slot) ++ bytesBE 2 f.seq ++ [0] ++ intBytesBE 1 f.log ++ body

/-! ### Authentication (R269) -/

/-- Key slot k: its key, its keyID and the length of its ICV. -/
def State.slotKey (s : State) (k : Nat) : List Byte := bytesBE 32 (s.attrN Shadow.keyValue 0 k)
def State.icvLength (s : State) (k : Nat) : Nat := if bitOf (s.attrN Attr.port_key_slots 0 k) 9 then 32 else 16

/-- The ICV of a message under a key slot. -/
def State.icv (s : State) (k : Nat) (m : List Byte) : List Byte := (hmac (s.slotKey k) m).take (s.icvLength k)

/-- The AUTHENTICATION TLV of a binding without its ICV; nothing for a binding with AUTH_SPP 0xFF. -/
def State.authTlv (s : State) (p slot : Nat) : List Byte :=
  let e := s.binding p slot
  if bindSpp e = 255 then []
  else bytesBE 2 0x8009 ++ bytesBE 2 (6 + s.icvLength (bindTxSlot e)) ++ bytesBE 1 (bindSpp e) ++ [0] ++
    bytesBE 4 (s.attrN Attr.port_key_slots 0 (bindTxSlot e) / 2 ^ 32)

/-- The place of the ICV in a binding's message: the length of the message without it, and the ICV's length. -/
def State.icvRoom (s : State) (p slot : Nat) : Nat := if bindSpp (s.binding p slot) = 255 then 0 else s.icvLength (bindTxSlot (s.binding p slot))

/-! ### Frames (R254, R259) -/

/-- The Ethernet header of a frame: addresses, the tag of `vlan_id` and `vlan_pcp`, and the type (R254). -/
def State.ethernet (s : State) (p dest type : Nat) : List Byte :=
  bytesBE 6 dest ++ s.macBytes p ++
    (if s.attr Attr.port_vlan_id p = 0 then [] else [0x81, 0x00] ++ bytesBE 2 (s.attrN Attr.port_vlan_pcp p * 8192 + s.attrN Attr.port_vlan_id p)) ++
    bytesBE 2 type

/-- An IPv4 and a UDP header (R254): `dscp`, and no UDP checksum. -/
def State.ipv4Head (s : State) (p dest port length : Nat) : List Byte :=
  let head (c : Nat) : List Byte :=
    [0x45] ++ bytesBE 1 (s.attrN Attr.port_dscp p * 4) ++ bytesBE 2 (28 + length) ++ [0, 0, 0x40, 0, 64, 17] ++ bytesBE 2 c ++
      bytesBE 4 (s.attrN Attr.port_ipv4_addr p) ++ bytesBE 4 dest
  head (checksum (wordSum (head 0))) ++ bytesBE 2 port ++ bytesBE 2 port ++ bytesBE 2 (8 + length) ++ [0, 0]

/-- An IPv6 and a UDP header over a payload, the trailer bytes among it (R254, R259). -/
def State.ipv6Head (s : State) (p dest port : Nat) (payload : List Byte) : List Byte :=
  let n := 8 + payload.length
  let addresses := bytesBE 16 (s.ipv6 Attr.port_ipv6_addr p) ++ bytesBE 16 dest
  let udp (c : Nat) : List Byte := bytesBE 2 port ++ bytesBE 2 port ++ bytesBE 2 n ++ bytesBE 2 c
  bytesBE 4 (6 * 2 ^ 28 + s.attrN Attr.port_dscp p * 2 ^ 22) ++ bytesBE 2 n ++ [17, 64] ++ addresses ++
    udp (udpChecksum (wordSum addresses + n + 17 + wordSum (udp 0) + wordSum payload))

/-- An ESMC PDU (R271; ITU-T G.8264): the slow protocol subtype and identifiers, version 1 with the event flag, the QL TLV, and with an
enhanced SSM code the extended QL TLV with its two cascade counts. -/
def State.esmcPdu (s : State) (extended event : Bool) (ssm essm cascade : Nat) : List Byte :=
  [0x0A, 0x00, 0x19, 0xA7, 0x00, 0x01] ++ bytesBE 1 (16 + 8 * boolNat event) ++ [0, 0, 0] ++ [1, 0, 4] ++ bytesBE 1 (ssm % 16) ++
    (if extended then [2, 0, 0x14] ++ bytesBE 1 essm ++ bytesBE 8 s.clockIdentity ++ [0] ++ bytesBE 2 cascade ++ [0, 0, 0, 0, 0] else [])

/-- The frame of a PTP message, whose ICV is 0 until it leaves, or of an ESMC PDU; one of PORT.SEND as the host gave it. -/
def State.buildFrame (s : State) (p : Nat) (f : TxFrame) : List Byte :=
  match f.kind with
  | none =>
    match f.esmc with
    | some (event, ssm, essm, cascade) =>
      let b := s.ethernet p 0x0180C2000002 0x8809 ++ s.esmcPdu (s.flag Attr.port_esmc_extended p) event ssm essm cascade
      b ++ List.replicate (60 - b.length) 0
    | none => f.data
  | some k =>
    let e := s.binding p f.slot
    let transport := bindTransport e
    let m := s.ptpMessage p f k (s.authTlv p f.slot ++ List.replicate (s.icvRoom p f.slot) 0)
    let port := if eventMessage k then 319 else 320
    let dest := if f.peer.addr = 0 then groupAddress transport else f.peer.addr
    let mac := if f.peer.addr = 0 then groupMac (bindProfile e) transport else Config.macOf p (s.nextHop p transport f.peer.addr)
    if transport = 0 then s.ethernet p mac 0x88F7 ++ m
    else if transport = 1 then s.ethernet p mac 0x0800 ++ s.ipv4Head p dest port m.length ++ m
    else
      let payload := m ++ (if eventMessage k then [0, 0] else [])
      s.ethernet p mac 0x86DD ++ s.ipv6Head p dest port payload ++ payload

/-- Where the PTP header of a module's own frame begins. -/
def State.ptpStart (s : State) (p : Nat) (f : TxFrame) : Nat :=
  (if s.attr Attr.port_vlan_id p = 0 then 14 else 18) +
    (if bindTransport (s.binding p f.slot) = 1 then 28 else if bindTransport (s.binding p f.slot) = 2 then 48 else 0)

/-- A frame with the ICV of its message (R269), and the checksum of its UDP header settled. -/
def State.signed (s : State) (p : Nat) (f : TxFrame) (b : List Byte) : List Byte :=
  let room := s.icvRoom p f.slot
  if f.kind.isNone ∨ room = 0 then b
  else
    let start := s.ptpStart p f
    let n := natBE (cut b (start + 2) 2) - room
    let x := overlay b (start + n) (s.icv (bindTxSlot (s.binding p f.slot)) (cut b start n))
    settleChecksum b x ⟨bindTransport (s.binding p f.slot), start - 8, start⟩

/-- The bytes of a frame as it leaves at a time (R257 to R259, R269). -/
def State.departing (s : State) (p : Nat) (f : TxFrame) (t : Int) : List Byte :=
  let b := s.buildFrame p f
  s.signed p f
    (if f.kind = some .sync ∧ f.oneStep then oneStepBytes b (s.ptpStart p f + 34) t
     else if f.host.isSome ∧ f.oneStep then oneStepBytes b f.tsOffset t
     else b)

end Sys2Proof.Machine
end

