-- ==== Sys2Proof/Machine/Ensemble.lean ====
section
/-! DEFINITION. The ensemble of oscillators: its members, their readmission ramps and their weights (R42 to R44, R48 to
R52). Members are numbered 0 to 2 for OSC0 to OSC2 and 3 for the external member. -/

namespace Sys2Proof.Machine

/-- The state of a member (R56). -/
def State.osc (s : State) (m : Nat) : OscState := OscState.ofCode (s.attr Attr.osc_state 0 m)

/-- Whether the module is a Q3 (R2, R41): `variant` 0 and 1. -/
def State.isQ3 (s : State) : Bool := decide (s.attr Attr.variant < 2)

/-- The members that are in the ensemble, MEMBER or RAMPING (R56). -/
def State.ensemble (s : State) : List Nat :=
  (List.range 4).filter fun m => s.attr Attr.osc_state 0 m == 3 || s.attr Attr.osc_state 0 m == 4

/-- Whether no oven has joined yet (R52): OSC0 alone drives the root with weight 1, whether or not an external member has
joined. -/
def State.noOven (s : State) : Bool :=
  (List.range 3).all fun m => decide (s.osc m = .warmup) || decide (s.osc m = .notFitted)

/-! ### Ramps (R42, R48) -/

/-- The ticks of a readmission ramp: 1,000 s (R48). -/
def rampTicks : Nat := 1000 * ticksPerSecond

/-- The ticks that a ramp has run. -/
def Ramp.run (r : Ramp) (now : Nat) : Nat :=
  min rampTicks (r.done + (match r.since with
    | some t => now - t
    | none => 0))

/-- The weight that a ramp towards `target` has reached (R42, R48): linear from the weight that it goes on from to the target at
the end of the ramp. -/
def Ramp.weight (r : Ramp) (target now : Nat) : Nat :=
  if rampTicks ≤ r.done then target
  else ((r.base : Int) + ((target : Int) - r.base) * ((r.run now - r.done : Nat) : Int) / ((rampTicks - r.done : Nat) : Int)).toNat

/-- The ramp of a member. -/
def State.ramp (s : State) (m : Nat) : Ramp := tblGet s.crucible.ramps {} m

/-! ### Weights (R43, R44, R48, R50) -/

/-- Weights that sum to `whole` under caps (R43 steps 1 and 2), as fractions: members with a raw weight and a cap each; those
in `full` stand at their caps and the rest share what is left in proportion. -/
def shareWeights (fuel : Nat) (whole : Rat) (ms : List (Nat × Rat × Rat)) (full : List Nat) : List (Nat × Rat) :=
  let fixed := ms.filter fun e => full.contains e.1
  let loose := ms.filter fun e => !full.contains e.1
  let rest : Rat := whole - (fixed.map (·.2.2)).sum
  let total : Rat := (loose.map (·.2.1)).sum
  let out := ms.map fun e => if full.contains e.1 then (e.1, e.2.2) else (e.1, if total = 0 then rest / (loose.length : Rat) else e.2.1 * rest / total)
  match fuel with
  | 0 => out
  | k + 1 =>
    let excess := (ms.zip out).filterMap fun e => if !full.contains e.1.1 && decide (e.1.2.2 < e.2.2) then some e.1.1 else none
    if excess = [] then out else shareWeights k whole ms (excess ++ full)

/-- The weights of some members that sum to `whole` (R43), as fractions: a single member takes all of it; caps that sum to
less are scaled up (step 3). -/
def capWeights (whole : Rat) (ms : List (Nat × Rat × Rat)) : List (Nat × Rat) :=
  match ms with
  | [e] => [(e.1, whole)]
  | _ =>
    let caps : Rat := (ms.map (·.2.2)).sum
    if caps < whole then ms.map fun e => (e.1, if caps = 0 then whole / (ms.length : Rat) else e.2.2 * whole / caps)
    else shareWeights 4 whole ms []

/-- A fraction as a weight in units of 2^-16, rounded down. -/
def weightOf (x : Rat) : Nat := (x * 65536).floor.toNat

/-- The cap of a member (R43): 0.6 for an oven, for the external member `ext_weight_cap` as the last recomputation took it. -/
def State.weightCap (s : State) (m : Nat) : Rat :=
  if m = 3 then (s.crucible.extCap : Rat) / 65536 else 6 / 10

/-- The raw weight of a member (R43, R50): 1/σ² of the last estimate where the instabilities were separable, else equal. -/
def State.rawWeight (s : State) (m : Nat) : Rat :=
  match s.crucible.separable, tblFind s.crucible.variances m with
  | true, some v => 1 / ((max 1 v : Nat) : Rat)
  | _, _ => 1

/-- The weights at full ramp of the present members. -/
def State.targets (s : State) : List (Nat × Rat) :=
  capWeights 1 (s.ensemble.map fun m => (m, s.rawWeight m, s.weightCap m))

/-- The computed weight of a member: its weight at full ramp. -/
def State.target (s : State) (m : Nat) : Nat := tblGet s.crucible.target 0 m

/-- What the members that do not ramp share while others do (R43, R44): what the ramps leave, in proportion to their computed
weights and under their caps. -/
def State.sharedWeight (s : State) (rs ks : List Nat) (m : Nat) : Nat :=
  let taken : Nat := (rs.map fun k => (s.ramp k).weight (s.target k) s.counter).sum
  let shares := capWeights ((65536 - taken : Nat) / 65536) (ks.map fun k => (k, (s.target k : Rat), s.weightCap k))
  match shares.find? fun e => e.1 == m with
  | some e => weightOf e.2
  | none => 0

/-- The weight of a member now (R44, R48): a ramp's part of its target, and what is left shared by the others. While the
weights are frozen they stand in `osc_weight` (R42). Until the first oven joins OSC0 has weight 1 (R52). -/
def State.weightNow (s : State) (m : Nat) : Nat :=
  if s.crucible.frozen then s.attrN Attr.osc_weight 0 m
  else if s.noOven then (if m = 0 then 65536 else 0)
  else
    match s.ensemble with
    | [] => if m = 0 then 65536 else 0
    | [k] => if m = k then 65536 else 0
    | ms =>
      let rs := ms.filter fun k => s.osc k = .ramping
      let ks := ms.filter fun k => s.osc k ≠ .ramping
      if !ms.contains m then 0
      else if rs = [] ∨ ks = [] then s.target m
      else if rs.contains m then (s.ramp m).weight (s.target m) s.counter
      else s.sharedWeight rs ks m

end Sys2Proof.Machine
end

