-- ==== Sys2Proof/Machine/Fit.lean ====
section
/-! DEFINITION. Straight lines through points, as the monitors and the ledger fit them: least squares in exact arithmetic
(R43, R53, R100, R102). -/

namespace Sys2Proof.Machine

/-- The least-squares line through some points (log entry 78), none where they do not lie at two places at least. -/
def lineFit (points : List (Int × Int)) : Option LineFit :=
  let n : Int := points.length
  let sx := (points.map fun p => p.1).sum
  let sy := (points.map fun p => p.2).sum
  let sxx := (points.map fun p => p.1 * p.1).sum
  let sxy := (points.map fun p => p.1 * p.2).sum
  let d := n * sxx - sx * sx
  if 0 < d then some { a := sy * sxx - sx * sxy, b := n * sxy - sx * sy, d := d } else none

/-- How far a point lies above a line, in 1 / d of its unit. -/
def LineFit.residual (f : LineFit) (p : Int × Int) : Int := p.2 * f.d - f.a - f.b * p.1

/-- The distance from the lowest to the highest point about a line, in 1 / d of their unit. -/
def LineFit.spread (f : LineFit) (points : List (Int × Int)) : Int :=
  match points.map f.residual with
  | [] => 0
  | r :: rs => rs.foldl max r - rs.foldl min r

/-- A quotient rounded to the nearest, a tie upwards; the divisor is positive. -/
def roundQuot (x y : Int) : Int := (2 * x + y) / (2 * y)

/-- The integer square root of a number below 2^192, rounded down, bit by bit. -/
def isqrt (x : Nat) : Nat :=
  (List.range 96).foldr (fun k r => if (r + 2 ^ k) * (r + 2 ^ k) ≤ x then r + 2 ^ k else r) 0

/-- A signed distance reduced into [−p/2, p/2). -/
def wrapHalf (x p : Int) : Int := if 2 * (x % p) < p then x % p else x % p - p

end Sys2Proof.Machine
end

