-- ==== Sys2Proof/Machine/Domain.lean ====
section
/-! DEFINITION. Domains (R59 to R87, R168, R411): creation, ownership, binding, steering by command, updates, leap
seconds, time zones and the domain controller's servo (R25, R277). -/

namespace Sys2Proof.Machine

/-- The frequency of a domain relative to the ensemble in ppt, as its period word spells it (R76 `freq_adj`). -/
def freqOfPeriod (p : Nat) : Int := (2 * ((p : Int) - nominalPeriod) * 1000000000000 + nominalPeriod) / (2 * nominalPeriod)

/-- Whether a domain is virtual: created and bound to no DPLL (R15). -/
def State.virtual (s : State) (d : Nat) : Bool := (s.boundDpll d).isNone

/-- The frequency of a domain relative to the ensemble: the commanded base frequency of a virtual domain, that of the
period word of a bound one (R76). -/
def State.freqAdj (s : State) (d : Nat) : Int :=
  if s.virtual d then s.attr Attr.domain_freq_adj d else freqOfPeriod ((s.dom d).wordsAt s.counter).period

/-- The part of an `ADJ_PHASE` SLEW not yet applied (R74, R76, R168). -/
def State.slewRemaining (s : State) (d : Nat) : Int :=
  match s.boundDpll d with
  | none =>
    match (s.dom d).slew with
    | some w => w.left s.counter
    | none => 0
  | some n =>
    (((s.dpll n).moves.filter fun m => decide (m.kind = .domainSlew ∨ m.kind = .phaseOffset)).map (s.moveLeft n)).sum

/-! ### Creation, ownership and binding (R71 to R73) -/

/-- Creates a domain (R72): the source's time and rate, or 0 s at P_nom. -/
def State.create (s : State) (d timescale source : Nat) : State :=
  let w := (s.dom source).wordsAt s.counter
  let r : DomRec := if source ≤ 511 then { words := w } else { words := ⟨0, s.counter, nominalPeriod.toNat⟩ }
  let t := ((s.resetKeys (keyOf .domain d)).setDom d r).put1 Attr.domain_state d 1
  let u := (t.put1 Attr.domain_timescale d timescale).put1 Attr.domain_utc_offset d (if timescale = 0 then 37 else 0)
  if source ≤ 511 then
    (u.put1 Attr.domain_time_status d TimeStatus.set.code).put1 Attr.domain_freq_adj d (freqOfPeriod w.period)
  else u.put1 Attr.domain_time_status d TimeStatus.unset.code

/-- DOMAIN.CREATE (R72). -/
def execDomainCreate (who : Issuer) (domain timescale source : Nat) (s : State) : Host.Outcome State Fault Refusal :=
  .next (s.doAct who
    { opcode := 0x0600, inst := domain
      refusals := [(decide (511 < domain) || decide (1 < timescale) || (decide (511 < source) && source != 0xFFFF), E_RANGE),
        (decide (source ≤ 511) && !s.created source, E_STATE), (s.created domain, E_IN_USE)] }
    fun t => (t.create domain timescale source).placeTasks domain)

/-- The uses that keep a domain from being deleted (R72). A session always belongs to a binding of its domain (R278), so
that the binding's use covers the session's. -/
def State.inUse (s : State) (d : Nat) : Bool :=
  (s.boundDpll d).isSome || !(s.listing (64 + d)).isEmpty || !(s.domainBindings d).isEmpty ||
  ((List.range 12).any fun n =>
    s.flag Attr.tic_enable n && ticKind (s.attrN Attr.tic_src_b n) == 3 && ticIndex (s.attrN Attr.tic_src_b n) == d) ||
  ((List.range 27).any fun n =>
    s.flag Attr.input_enable n && s.attrN Attr.input_time_domain n == d &&
      ((decide (s.inputType n = .pps) && s.attr Attr.input_tod_rx n != 0) || decide (s.inputType n = .ltc))) ||
  (s.arms.any fun a => a.2.trigger == 2 && a.2.domain == d) ||
  ((List.range 4).any fun p =>
    ((s.port p).waiting ++ (s.port p).buffer ++ (s.port p).sends).any fun f => (f.launch.map (·.1)) == some d)

/-- DOMAIN.DELETE (R72): the slot is FREE again, and its attributes are those of a slot that never held a domain. -/
def execDomainDelete (who : Issuer) (domain : Nat) (s : State) : Host.Outcome State Fault Refusal :=
  .next (s.doAct who
    { opcode := 0x0601, inst := domain
      refusals := [(decide (511 < domain), E_RANGE), (!s.created domain, E_STATE), (s.inUse domain, E_IN_USE)] }
    fun t => ((t.resetKeys (keyOf .domain domain)).setDom domain {}).put1 Attr.domain_state domain 0)

/-- DOMAIN.ASSIGN (R71). -/
def execDomainAssign (who : Issuer) (domain client : Nat) (s : State) : Host.Outcome State Fault Refusal :=
  .next (s.doAct who
    { opcode := 0x0602, inst := domain
      refusals := [(decide (511 < domain) || decide (511 < client), E_RANGE), (!s.created domain, E_STATE)] }
    fun t => t.put1 Attr.domain_owner_client domain client)

/-- Binds a domain to a DPLL (R73, R190): a slew in progress ends, the domain's time continues from the DPLL's posts, and
PULSE outputs that had lost their grid start on the new domain's. The control-loss timer starts (R433), and outputs that a SEVERE latch
now reaches enter SAFE (R430). -/
def State.bindTo (s : State) (d n : Nat) : State :=
  let t := (s.setDom d { s.dom d with slew := none }).put1 Attr.domain_bound_dpll d n
  let u := t.setDpll n { t.dpll n with timerFrom := t.counter, acc := 0, accSince := t.counter, posted := (((t.dom d).wordsAt t.counter).period : Int) }
  let v := u.forEach ((List.range 32).filter fun o => (u.outp o).orphan && u.attrN Attr.syn_dpll_active (o / 4) == n) fun x o =>
    x.setOutp o { x.outp o with
      orphan := false, started := false, starting := true, since := x.counter, gated := false, stepper := 0, delayLeft := 0, lehr := {} }
  s.countSafe (v.followStatus n)

/-- Whether a bind would make a loop (R17): the DPLL's selector lists the domain, or a list that waits for its next decision
does (R126). -/
def State.wouldLoop (s : State) (d n : Nat) : Bool := (s.listing (64 + d)).contains n

/-- DOMAIN.BIND (R17, R73). -/
def execDomainBind (who : Issuer) (domain dpll : Nat) (s : State) : Host.Outcome State Fault Refusal :=
  .next (s.doAct who
    { opcode := 0x0603, inst := domain
      refusals := [(decide (511 < domain) || decide (15 < dpll), E_RANGE), (!s.created domain, E_STATE),
        (s.wouldLoop domain dpll, E_LOOP),
        ((s.boundDom dpll).isSome || (s.boundDpll domain).isSome, E_IN_USE)] }
    fun t => t.bindTo domain dpll)

/-- Stops the generators of a domain (R213). -/
def State.stopGens (s : State) (d : Nat) : State :=
  s.forEach ((List.range 18).filter fun g => s.genEnabled g && s.genDomain g == d) fun t g =>
    ((t.genLeaves g).replaceGen g (t.genLehr g) { stopped := true }).raise 587 false (genDetail g)

/-- Unbinds a domain (R73, R190, R213, R433): its generators stop, the enabled PULSE outputs of the DPLL's synthesisers, those too that
have not yet started, lose their grid and any Lehr error, its control-loss timer stops, and the domain is virtual from here on at the rate it has. -/
def State.unbindDomain (s : State) (d n : Nat) : State :=
  let f := freqOfPeriod ((s.dom d).wordsAt s.counter).period
  let stopped := s.stopGens d
  let pulsed := stopped.forEach ((List.range 32).filter fun o =>
      ((stopped.outp o).started || (stopped.outp o).starting) && (stopped.outp o).pulse &&
        stopped.attrN Attr.syn_dpll_active (o / 4) == n) fun x o =>
    let r := x.outp o
    x.replacePulse o (x.outLehr o) { r with
      orphan := true, started := true, starting := false, gated := r.gated || r.starting, lehr := {} }
  let freed := (pulsed.put1 Attr.domain_bound_dpll d 255).put1 Attr.domain_freq_adj d f
  let quiet := (freed.setDpll n { freed.dpll n with ctrlLost := false }).uncause (496 + n)
  if quiet.attr Attr.domain_time_status d = 0 then quiet else quiet.put1 Attr.domain_time_status d TimeStatus.set.code

/-- DOMAIN.UNBIND (R73). -/
def execDomainUnbind (who : Issuer) (domain dpll : Nat) (s : State) : Host.Outcome State Fault Refusal :=
  .next (s.doAct who
    { opcode := 0x0604, inst := domain
      refusals := [(decide (511 < domain) || decide (15 < dpll), E_RANGE),
        (!s.created domain || s.boundDpll domain != some dpll, E_STATE)] }
    fun t => t.unbindDomain domain dpll)

/-! ### Steering by command (R74, R168) -/

/-- Whether the state of a domain refuses a commanded steering action: a virtual domain under AUTO (R74). -/
def State.autoRefused (s : State) (d : Nat) : Bool := s.virtual d && s.attr Attr.domain_servo_mode d == 0

/-- Whether DPLLn is in the loop: ACQUIRE or LOCKED. -/
def State.inLoop (s : State) (n : Nat) : Bool := decide (s.dpllState n = .acquire) || decide (s.dpllState n = .locked)

/-- Whether SET_TIME is refused on a bound domain (R168): in the loop on a candidate that is time-bearing and compared
on full time or labelled under R158 (PPS with a ToD companion, MATE). -/
def State.timeHeld (s : State) (n : Nat) : Bool :=
  s.inLoop n && (match s.connected n with
    | some x => s.fullTime n x ||
        (!isDomainSource x && ((decide (s.inputType x = .pps) && s.attr Attr.input_tod_rx x != 0) || decide (s.inputType x = .mate)))
    | none => false)

/-- A step of a bound domain by `x` (R166, R168): made with the next post and counted there; in the loop `held` of it
joins `phase_offset`, so that the loop sees no error. -/
def State.stepBound (s : State) (n : Nat) (x held : Int) (sets : Bool) : State :=
  let t := (s.endWordSlew n).markSwitch n
  let r := t.dpll n
  t.setDpll n { r with
    pendNudge := r.pendNudge + x
    pendOffset := if t.inLoop n then r.pendOffset + held else r.pendOffset
    nudges := r.nudges + 1
    setsTime := r.setsTime || sets }

/-- The part of a difference of time that is not whole seconds, with the difference's sign (R168). -/
def restOf (x : Int) : Int := if 0 ≤ x then x % secondUnits else -((-x) % secondUnits)

/-- In the loop a new ADJ_PHASE replaces a SLEW in progress: what it has not run leaves `phase_offset` (R168). -/
def State.replaceOffset (s : State) (n : Nat) : State :=
  let (left, t) := s.dropMoves n [.phaseOffset]
  t.put1 Attr.dpll_phase_offset n (t.attr Attr.dpll_phase_offset n - left)

/-- Gives a virtual domain a time (R74): absolute, at its base frequency; a slew ends. -/
def State.setVirtual (s : State) (d instant : Nat) (time : Int) : State :=
  let t := s.setPend d
    { instant := instant, period := periodPpt (s.attr Attr.domain_freq_adj d), absolute := some time, delta := 0, steps := 1
      sets := true }
  t.setDom d { t.dom d with slew := none }

/-- Sets a domain's time (R74, R168). -/
def State.setDomTime (s : State) (d instant : Nat) (time : Int) : State :=
  match s.boundDpll d with
  | none => s.setVirtual d instant time
  | some n =>
    let x := time - s.domNow d
    let t := if s.inLoop n then s.replaceOffset n else s
    t.stepBound n x (restOf x) true

/-- Serves a command that steers a domain, with its result (R359): a virtual domain's update needs its instant (R62), a
bound domain's does not (R168). -/
def State.steerDomain (s : State) (who : Issuer) (a : Action) (d instant : Nat) (effect : State → State)
    (result : State → List Byte) : State :=
  if s.virtual d then s.steer who a d instant effect result
  else s.act who a fun t => (effect t).finish who a.opcode 0 a.inst (result (effect t)) none a.attr

/-- The result of a command that steers a domain's phase (R359): the update instant, or the post instant of a bound domain
(log entry 13). -/
def instantResult (instant : Nat) (_ : State) : List Byte := bytesLE 8 instant

/-- The result of ADJ_FREQ (R359): the new period word, of the update of a virtual domain or of the next post of a bound
one (R167). -/
def State.periodResult (d : Nat) (ppt : Int) (t : State) : List Byte :=
  bytesLE 8 (match (t.dom d).pend with
    | some u => if t.virtual d then u.period else periodPpt ppt
    | none => periodPpt ppt)

/-- The refusals of SET_TIME and SET_CALENDAR for state (R74, R168). -/
def State.timeRefused (s : State) (d : Nat) : Bool :=
  !s.created d || s.autoRefused d || (match s.boundDpll d with
    | some n => s.timeHeld n
    | none => false)

/-- DOMAIN.SET_TIME (R68, R74, R168). -/
def execSetTime (who : Issuer) (domain time instant : Nat) (s : State) : Host.Outcome State Fault Refusal :=
  .next (s.steerDomain who
    { opcode := 0x0605, inst := domain, right := .domainOwner domain
      refusals := [(decide (511 < domain) || (commandTime time).isNone, E_RANGE),
        (s.timeRefused domain, E_STATE)] }
    domain instant (fun t => t.setDomTime domain instant ((commandTime time).getD 0)) (instantResult instant))

/-- DOMAIN.SET_CALENDAR (R77, R85): its UTC fields are converted with the domain's `utc_offset`. -/
def execSetCalendar (who : Issuer) (domain : Nat) (civil : CivilTime) (nanoseconds instant : Nat) (s : State) :
    Host.Outcome State Fault Refusal :=
  let fields := dateFieldsOk civil.year civil.month civil.day && timeFieldsOk civil.hour civil.minute civil.second
  let seconds := civilSeconds civil + s.attr Attr.domain_utc_offset domain
  .next (s.steerDomain who
    { opcode := 0x0606, inst := domain, right := .domainOwner domain
      refusals := [(decide (511 < domain) || !fields || decide (999999999 < nanoseconds) || decide (seconds < 0), E_RANGE),
        (!dateExists civil.year civil.month civil.day, E_DATE_INVALID), (s.timeRefused domain, E_STATE)] }
    domain instant (fun t => t.setDomTime domain instant (seconds * secondUnits + (nanoseconds : Int) * 65536))
    (instantResult instant))

/-- The refusals of ADJ_FREQ for range (R73, R74). -/
def State.freqRange (s : State) (d : Nat) (ppt : Int) : Bool :=
  match s.boundDpll d with
  | some _ => decide (250000000 < ppt.natAbs)
  | none =>
    decide (2147483647 < ppt.natAbs) ||
      (match (s.dom d).slew with
       | some w => decide (2147483647 < (ppt + w.ratePpt).natAbs)
       | none => false)

/-- The refusals of ADJ_FREQ for state (R74, R168): on a bound domain, any state but OPEN. -/
def State.freqState (s : State) (d : Nat) : Bool :=
  !s.created d || s.autoRefused d || (match s.boundDpll d with
    | some n => decide (s.dpllState n ≠ .opened)
    | none => false)

/-- A virtual domain takes a base frequency from an instant on; a slew continues on top of it (R74). -/
def State.freqVirtual (s : State) (d instant : Nat) (f : Int) : State :=
  let t := s.put1 Attr.domain_freq_adj d f
  match (s.dom d).slew with
  | none => t.setPend d { instant := instant, period := periodPpt f, absolute := none, delta := 0 }
  | some w =>
    let rest := w.left instant
    let plain : Int := (periodPpt (f + w.ratePpt) : Int) - periodPpt f
    let v : Slew :=
      { total := rest, start := instant, finish := instant + (if plain = 0 then 0 else rest.natAbs * 2 ^ 32 / plain.natAbs)
        extra := plain, ratePpt := w.ratePpt }
    let u := t.setDom d { t.dom d with slew := some v }
    u.setPend d { instant := instant, period := slewPeriod f v, absolute := none, delta := 0 }

/-- DOMAIN.ADJ_FREQ (R74, R168). -/
def execAdjFreq (who : Issuer) (domain : Nat) (ppt : Int) (instant : Nat) (s : State) : Host.Outcome State Fault Refusal :=
  .next (s.steerDomain who
    { opcode := 0x0607, inst := domain, right := .domainOwner domain
      refusals := [(decide (511 < domain) || s.freqRange domain ppt, E_RANGE), (s.freqState domain, E_STATE)] }
    domain instant (fun t =>
      match t.boundDpll domain with
      | none => t.freqVirtual domain instant ppt
      | some n => t.setDpll n { t.dpll n with pendWord := some (ppt * 1000000) }) (State.periodResult domain ppt))

/-- The range refusals of ADJ_PHASE (R74, R166, R168). -/
def State.phaseRange (s : State) (d mode : Nat) (x : Int) : Bool :=
  if mode = 0 then
    decide (s.domNow d + x < 0) ||
      (match s.boundDpll d with
       | some n => !s.inLoop n && decide (secondUnits < x.natAbs)
       | none => false)
  else
    match s.boundDpll d with
    | none => decide (2147483647 < (s.attr Attr.domain_freq_adj d + slewPpt (s.attrN Attr.domain_slew_rate d) x).natAbs)
    | some _ => false

/-- ADJ_PHASE on a virtual domain (R74). -/
def State.phaseVirtual (s : State) (d mode instant : Nat) (x : Int) : State :=
  let f := s.attr Attr.domain_freq_adj d
  if mode = 0 then
    let t := s.setDom d { s.dom d with slew := none }
    t.setPend d { instant := instant, period := periodPpt f, absolute := none, delta := x, steps := if x = 0 then 0 else 1, jump := x }
  else if x = 0 then
    let t := s.setDom d { s.dom d with slew := none }
    t.setPend d { instant := instant, period := periodPpt f, absolute := none, delta := 0 }
  else
    let w := slewOf f (s.attrN Attr.domain_slew_rate d) instant x
    let t := s.setDom d { s.dom d with slew := some w }
    t.setPend d { instant := instant, period := slewPeriod f w, absolute := none, delta := 0 }

/-- ADJ_PHASE on a bound domain (R168). -/
def State.phaseBound (s : State) (n mode : Nat) (x : Int) : State :=
  if s.inLoop n then
    let t := s.replaceOffset n
    if mode = 0 then t.stepBound n x x false
    else (t.put1 Attr.dpll_phase_offset n (t.attr Attr.dpll_phase_offset n + x)).addMove n .phaseOffset x
  else if mode = 0 then s.stepBound n x x false
  else (s.endWordSlew n).startWordMove n .domainSlew x

/-- DOMAIN.ADJ_PHASE (R74, R168). -/
def execAdjPhase (who : Issuer) (domain mode : Nat) (interval : Int) (instant : Nat) (s : State) :
    Host.Outcome State Fault Refusal :=
  .next (s.steerDomain who
    { opcode := 0x0608, inst := domain, right := .domainOwner domain
      refusals := [(decide (511 < domain) || decide (1 < mode) || s.phaseRange domain mode interval, E_RANGE),
        (!s.created domain || s.autoRefused domain, E_STATE)] }
    domain instant (fun t =>
      match t.boundDpll domain with
      | none => t.phaseVirtual domain mode instant interval
      | some n => t.phaseBound n mode interval) (instantResult instant))

/-! ### Leap seconds, time zones and RESET by command (R82, R84, R411) -/

/-- The domain time at which a leap at the end of a UTC day acts (R79), in seconds: for an INSERT the start of its second
23:59:60, the first instant that differs from a day without it (DESIGN CHOICE, log entry 74: R79 gives that second and the
change of `utc_offset` one second later, and R82 does not say which is the leap instant). A CANCEL takes the instant of the leap
that stands. -/
def State.leapInstant (s : State) (d kind : Nat) (day : Int) : Int :=
  let k := if kind = 0 then s.attrN Attr.domain_leap_state d else kind
  (day + 1) * 86400 + s.attr Attr.domain_utc_offset d - (if k = 2 then 1 else 0)

/-- Schedules, replaces or cancels a leap by command (R80, R82); in the closing window it waits for the next UTC day. -/
def State.commandLeap (s : State) (d kind : Nat) (day : Int) : State :=
  let k := LeapKind.ofCode kind
  let r := s.dom d
  let others := r.noLeapDays.filter fun x => x != day.toNat
  let t := s.setDom d { r with noLeapDays := if kind = 0 then day.toNat :: others else others }
  let u := if s.closing d (s.domNow d) then
      t.setDom d { t.dom d with deferred := { (t.dom d).deferred with leap := some (k, day.toNat, true) } }
    else t.setLeap d k day true
  u.judgeLeap d

/-- DOMAIN.SCHEDULE_LEAP (R82, R85). -/
def execScheduleLeap (who : Issuer) (domain year month day kind : Nat) (s : State) : Host.Outcome State Fault Refusal :=
  let exists_ := dateExists year month day
  let date := daysFromCivil year month day
  .next (s.doAct who
    { opcode := 0x0609, inst := domain, right := .domainOwner domain
      refusals := [(decide (511 < domain) || decide (2 < kind) || !dateFieldsOk year month day ||
          (exists_ && (day != daysInMonth year month ||
            decide (s.leapInstant domain kind date * secondUnits - s.domNow domain < 2 * secondUnits))), E_RANGE),
        (!exists_, E_DATE_INVALID),
        (!s.created domain || (kind == 0 && (decide (s.leapOf domain = .none) ||
          s.attr Attr.domain_leap_day domain != dateCode year month day)), E_STATE)] }
    fun t => t.commandLeap domain kind date)

/-- DOMAIN.SET_TZ (R12, R84): the table replaces the old one at the next UTC second boundary. An entry whose date does not
exist is ordered as the day that many days into its month, 2023-02-29 as 2023-03-01, so that a table that does not rise by that
order answers E_RANGE before its date answers E_DATE_INVALID (DESIGN CHOICE, log entry 75). -/
def execSetTz (who : Issuer) (domain : Nat) (entries : List Nat) (s : State) : Host.Outcome State Fault Refusal :=
  .next (s.doAct who
    { opcode := 0x060A, inst := domain, right := .domainOwner domain
      refusals := [(decide (511 < domain) || decide (32 < entries.length) || !(entries.all tzFieldsOk) ||
          !(tzRising entries), E_RANGE),
        (!(entries.all tzDateOk), E_DATE_INVALID), (!s.created domain, E_STATE)] }
    fun t => t.setDom domain { t.dom domain with tzNext := some (entries.map tzMasked) })

/-- What DOMAIN.RESET does to the domain beside its update (R411): counters and base frequency to 0, the slew and the
scheduled leap gone, the reference unqualified with a new soak, servo and BMCA restarted. -/
def State.resetDomain (s : State) (d : Nat) : State :=
  let t := ((s.put1 Attr.domain_update_refusals d 0).put1 Attr.domain_steps d 0).put1 Attr.domain_freq_adj d 0
  let r := t.dom d
  let u := t.setDom d { r with slew := none, learnedLeap := none, deferred := { r.deferred with leap := none } }
  let v := (u.put1 Attr.domain_leap_state d 0).setQualified d false
  let w := v.setDom d { v.dom d with ref := { (v.dom d).ref with soaked := 0, offset := 0 } }
  let x := w.forEach ((w.domainBindings d).map fun b => b.1 * 32 + b.2) fun y k =>
    (y.setPort (k / 32) { y.port (k / 32) with binds := tblSet (y.port (k / 32)).binds {} (k % 32) { since := y.counter } }).put
      Attr.port_binding_state (k / 32) (k % 32) 4
  x.judgeLeap d

/-- DOMAIN.RESET (R411): a virtual domain receives one relative update with Δ = 0 and P_nom; a bound one keeps the words
that its DPLL posts, and an `ADJ_PHASE` SLEW of it ends. -/
def execDomainReset (who : Issuer) (domain instant : Nat) (s : State) : Host.Outcome State Fault Refusal :=
  .next (s.steerDomain who
    { opcode := 0x060B, inst := domain, right := .domainOwner domain
      refusals := [(decide (511 < domain), E_RANGE), (!s.created domain, E_STATE)] }
    domain instant (fun t =>
      match t.boundDpll domain with
      | none => (t.resetDomain domain).setPend domain
          { instant := instant, period := nominalPeriod.toNat, absolute := none, delta := 0 }
      | some n => (if t.inLoop n then t.replaceOffset n else t.endWordSlew n).resetDomain domain) fun _ => [])

/-! ### The time unit and the domain controller -/

/-- An update of a domain that steps over T of an armed TIME commit makes its instant the trigger (R196). -/
def State.stepArms (s : State) (d : Nat) (before after : Int) : State :=
  { s with arms := s.arms.map fun (e : Nat × CommitArm) =>
      if e.2.trigger = 2 ∧ e.2.domain = d ∧ before < e.2.time ∧ e.2.time ≤ after then (e.1, { e.2 with stepped := true }) else e }

/-- An update takes effect at its instant (R61, R63, R75, R183, R235). -/
def State.applyUpdate (s : State) (d : Nat) (u : DomUpdate) : State :=
  let r := s.dom d
  let now := max s.counter u.instant
  let t := { s with counter := now }.setDom d
    { r with prev := some r.words, words := r.words.after u, lastUpdate := some u.instant, pend := none }
  let c := (t.stepArms d (r.words.time u.instant 0) (t.domTime d u.instant)).carryLehr d
    ((t.dom d).words.time u.instant 0 - r.words.time u.instant 0)
  let v := c.add Attr.domain_steps d 0 u.steps
  let w := match v.boundDpll d with
    | some n => (v.domainStep d u.jump).phaseJump n u.jump
    | none => v
  let x := (if u.sets then w.leaveUnset d else w).passLaunches d (r.words.time now 0)
  (if u.absolute.isSome || u.delta != 0 then x.retz d else x).judgeTods

/-- DOMAIN_UPDATE_APPLY (R61): the update instant is reached, and the time unit sets the domain's words. -/
def execDomainUpdateApply (d : Fin 512) (s : State) : Host.Outcome State Fault Refusal :=
  .next (match (s.dom d.val).pend with
    | some u => s.when_ s.timing fun t => t.applyUpdate d.val u
    | none => s)

/-- What a slew leaves to its closing update at an instant (R74): the residual, or back what it has overrun. -/
def Slew.residual (w : Slew) (instant : Nat) : Int := w.total - w.extra * ((instant - w.start : Nat) : Int) / 2 ^ 32

/-- SLEW_END (R62, R74): the closing update of a slew, whose residual Δ does not count in `steps`. One that comes less than
2^20 ticks after the update before, as an `ADJ_FREQ` near the end can make it, is refused and counts; the slew runs on until an
update can close it (DESIGN CHOICE, log entry 76). -/
def execSlewEnd (d : Fin 512) (s : State) : Host.Outcome State Fault Refusal :=
  .next (match (s.dom d.val).slew, (s.dom d.val).pend with
    | some w, none =>
      s.when_ (s.engines && s.virtual d.val) fun t =>
        let instant := max t.counter w.finish
        if t.canUpdate d.val instant then
          (t.setDom d.val { t.dom d.val with slew := none }).applyUpdate d.val
            { instant := instant, period := periodPpt (t.attr Attr.domain_freq_adj d.val), absolute := none
              delta := w.residual instant }
        else (t.advance w.finish).refuseUpdate d.val
    | _, _ => s)

/-- The domain time at which `utc_offset` changes for the leap that is scheduled (R79). -/
def State.leapChange (s : State) (d : Nat) : Int :=
  (s.leapS d + s.attr Attr.domain_utc_offset d + (if s.leapOf d = .insert then 1 else -1)) * secondUnits

/-- A leap takes effect (R79, R229): `utc_offset` changes, `leap_state` returns to NONE, and the domain's TCGENs repeat
or skip a second. -/
def State.leapNow (s : State) (d : Nat) (k : LeapKind) : State :=
  let up : Int := if k = .insert then 1 else -1
  let r := s.setDom d { s.dom d with lastLeap := some (s.leapChange d, up) }
  let t := (r.put1 Attr.domain_utc_offset d (s.attr Attr.domain_utc_offset d + up)).put1 Attr.domain_leap_state d 0
  let u := t.forEach ((List.range 2).filter fun n => (t.gen (14 + n)).running && t.genDomain (14 + n) == d) fun x n =>
    (x.raise 582 false (n * 256 + (if k = .insert then 0 else 1))).jamDue n (s.leapChange d)
  ((u.judgeLeap d).judgeDates d).enforceLimit

/-- LEAP_SECOND (R79): the instant at which the scheduled leap changes `utc_offset` is reached. -/
def execLeapSecond (d : Fin 512) (s : State) : Host.Outcome State Fault Refusal :=
  .next (s.when_ (s.timing && s.created d.val && decide (s.leapOf d.val ≠ .none)) fun t =>
    (t.reach d.val (t.leapChange d.val)).leapNow d.val (t.leapOf d.val))

/-- The domain time at which the UTC day after the current one begins. -/
def State.nextDay (s : State) (d : Nat) : Int := s.utcInstant d ((s.utcDay d (s.domNow d) + 1) * 86400)

/-- NEXT_UTC_DAY (R80): the changes that arrived in the closing window apply at the first instant of the next UTC day. -/
def execNextUtcDay (d : Fin 512) (s : State) : Host.Outcome State Fault Refusal :=
  .next (s.when_ (s.firmware && s.created d.val) fun r =>
    let t := if r.closing d.val (r.domNow d.val) then r.reach d.val (r.nextDay d.val) else r
    let f := (t.dom d.val).deferred
    let u := t.setDom d.val { t.dom d.val with deferred := {} }
    let v := match f.offset with
      | some (o, c) => u.setUtcOffset d.val o c
      | none => u
    let w := match f.leap with
      | some (k, day, c) => v.setLeap d.val k day c
      | none => v
    ((w.judgeLeap d.val).judgeDates d.val).enforceLimit)

/-- TZ_TABLE_APPLY (R84): at a UTC second boundary the waiting table replaces the old one, and its latest past entry
takes effect. -/
def execTzTableApply (d : Fin 512) (s : State) : Host.Outcome State Fault Refusal :=
  .next (match (s.dom d.val).tzNext with
    | some es => s.when_ (s.firmware && s.created d.val) fun t =>
        let u := (t.putList Attr.domain_tz_table d.val 0 ((es ++ List.replicate (32 - es.length) 0).map fun e => (e : Int))).put1
          Attr.domain_tz_count d.val es.length
        (u.setDom d.val { u.dom d.val with tzNext := none, tzIndex := tzReached es (u.utcHeld d.val (u.domNow d.val)) }).tzExhausted d.val 0
    | none => s)

/-- The TCGENs that take a domain's local time. -/
def State.localTc (s : State) (d : Nat) : List Nat :=
  (List.range 2).filter fun n => s.genDomain (14 + n) == d && s.attr Attr.tcgen_tc_timebase n == 0

/-- A LOCAL TCGEN meets a transition (R216, R229): where firmware runs or has armed it, it takes the new offset, and at 29.97 frames/s
a jam is due; else it stays at the offset of transition `was`; `j` is the instant. -/
def State.tcTransition (s : State) (n was : Nat) (j : Int) : State :=
  let r := s.gen (14 + n)
  if s.firmware || r.tzArmed then (s.setGen (14 + n) { r with tzArmed := false, tzLag := none }).jamDue n j
  else s.setGen (14 + n) { r with tzLag := some (r.tzLag.getD was) }

/-- TZ_TRANSITION (R83, R84, R216): the next transition of the table is reached, or the latest one, where the domain's time is past
the next one already, under firmware or as armed in hardware. -/
def execTzTransition (d : Fin 512) (s : State) : Host.Outcome State Fault Refusal :=
  .next (s.when_ (s.timing && (s.firmware || (s.localTc d.val).any fun n => (s.gen (14 + n)).tzArmed) && s.created d.val &&
      decide ((s.dom d.val).tzIndex < s.attrN Attr.domain_tz_count d.val)) fun t =>
    let r := t.dom d.val
    let k := max (r.tzIndex + 1) (tzReached (t.tzEntries d.val) (t.utcHeld d.val (t.domNow d.val)))
    let j := t.utcInstant d.val (tzInstant ((t.tzEntries d.val).getD (k - 1) 0))
    let v := t.reach d.val j
    let u := (v.setDom d.val { r with tzIndex := k }).tzExhausted d.val r.tzIndex
    (u.forEach (u.localTc d.val) fun x n => x.tcTransition n r.tzIndex j).judgeDates d.val)

/-- The binding of a domain that is in SLAVE (R274: portState 9). -/
def State.slaveBinding (s : State) (d : Nat) : Option (Nat × Nat) :=
  (s.domainBindings d).find? fun b => s.portState b.1 b.2 == 9

def State.bindRec (s : State) (p k : Nat) : BindRec := tblGet (s.port p).binds {} k
def State.setBindRec (s : State) (p k : Nat) (r : BindRec) : State :=
  s.setPort p { s.port p with binds := tblSet (s.port p).binds {} k r }

/-- Whether a message comes from a session's partner; a grantee session learns its master's portIdentity (0 until then)
from the master's messages (R278, R286). -/
def samePartner (known w : Partner) : Bool := known.addr == w.addr && (known.portId == 0 || known.portId == w.portId)

/-- The sessions in which the module is grantee on a binding: of its state, entry and partner (R278, R286). -/
def State.granteeOf (s : State) (p k : Nat) (partner : Partner) : List Nat :=
  (s.net.sessions.filter fun e =>
    s.attr Attr.session_sess_state e.1 != 0 && s.attr Attr.session_sess_role e.1 == 1 &&
      s.attrN Attr.session_sess_binding e.1 == k * 256 + p && samePartner e.2.partner partner).map (·.1)

/-- Condition 3 of R277: under UNICAST, the three grants are in force with the parent. -/
def State.grantsInForce (s : State) (p k : Nat) (r : BindRec) : Bool :=
  bindMode (s.binding p k) != 1 ||
    (match r.parent with
     | some w => (s.granteeOf p k w).any fun x => (List.range 3).all fun g => ((tblGet (s.sess x).grants {} g).expires).isSome
     | none => false)

/-- Whether the five conditions of R277 hold now for a domain whose servo estimates an offset. -/
def State.refConditions (s : State) (d : Nat) (offset : Int) : Bool :=
  match s.slaveBinding d with
  | none => false
  | some (p, k) =>
    let r := s.bindRec p k
    r.announceAlive && s.grantsInForce p k r &&
      (match r.announce with
       | some a => decide (announceGrade a.clockClass a.clockAccuracy < 15)
       | none => false) &&
      decide (offset.natAbs ≤ bindQualLimit (s.binding p k) * 65536)

/-- The grade of the parent's grandmaster (R109, R277). -/
def State.parentGrade (s : State) (d : Nat) : Nat :=
  match s.slaveBinding d with
  | some (p, k) =>
    match (s.bindRec p k).announce with
    | some a => announceGrade a.clockClass a.clockAccuracy
    | none => 15
  | none => 15

/-- PKT_SOAK of the binding in SLAVE, in servo update periods of 250 ms (R277). -/
def State.soakPeriods (s : State) (d : Nat) : Nat :=
  match s.slaveBinding d with
  | some (p, k) => 4 * bindSoak (s.binding p k)
  | none => 0

/-- The servo writes the reference's qualified flag and grade (R127, R277); the flag is cleared at once where condition 1
or 4 fails, and set once every condition has held for PKT_SOAK. The first qualification releases the domain from UNSET
(R75; log entry 14). -/
def State.writeRef (s : State) (d : Nat) (offset : Int) : State :=
  let ok := s.refConditions d offset
  let r := s.dom d
  let soaked := if ok then r.ref.soaked + 1 else 0
  let g := s.parentGrade d
  let t := s.setDom d { r with ref := { r.ref with soaked := soaked, fresh := true, grade := g, offset := offset } }
  if r.ref.qualified then
    (if (s.slaveBinding d).isNone || g == 15 then t.setQualified d false else t)
  else if ok && decide (s.soakPeriods d ≤ soaked) then (t.setQualified d true).leaveUnset d else t

/-- SERVO_UPDATE (R37, R74, R277): every 250 ms the controller of an unbound domain writes its reference and, under AUTO
with a binding in SLAVE, steers it by the frequency and the step that its servo computed. -/
def execServoUpdate (d : Fin 512) (offset : Int) (ppt delta : Int) (instant : Nat) (s : State) :
    Host.Outcome State Fault Refusal :=
  .next (s.when_ (s.engines && s.created d.val && s.virtual d.val) fun t =>
    let u := t.writeRef d.val offset
    if u.attr Attr.domain_servo_mode d.val = 0 ∧ (u.slaveBinding d.val).isSome then
      if u.canUpdate d.val instant then
        (u.put1 Attr.domain_freq_adj d.val ppt).setPend d.val
          { instant := instant, period := periodPpt ppt, absolute := none, delta := delta, steps := if delta = 0 then 0 else 1
            jump := delta }
      else u.refuseUpdate d.val
    else u)

/-- DOMAIN_REF_STALE (R25): a reference not refreshed for 4 servo periods is disqualified by hardware. -/
def execDomainRefStale (d : Fin 512) (s : State) : Host.Outcome State Fault Refusal :=
  .next (s.when_ (s.timing && s.created d.val) fun t =>
    let u := t.setQualified d.val false
    u.setDom d.val { u.dom d.val with ref := { (u.dom d.val).ref with fresh := false, soaked := 0 } })

/-- PKT_HOLD_LIMIT_EXPIRY (R277): no offset measurement was accepted for PKT_HOLD_LIMIT. -/
def execPktHoldLimitExpiry (d : Fin 512) (s : State) : Host.Outcome State Fault Refusal :=
  .next (s.when_ (s.engines && s.created d.val) fun t => t.setQualified d.val false)

end Sys2Proof.Machine
end

