-- ==== Sys2Proof/Machine/Loop.lean ====
section
/-! DEFINITION. How a DPLL meets its selector: connecting a candidate with its build-out offset (R138 to R141, R156 to
R158, R160, R164, R398), losing it (R164, R172), and the comparison of second labels (R158). -/

namespace Sys2Proof.Machine

/-- `buildout_phase` as it reads (R138, R141): what the selector has accumulated, and what is under removal until that
removal is complete. -/
def State.buildoutPhase (s : State) (n : Nat) : Int := s.attr Attr.selector_buildout_phase n - s.buildOutWhole n

/-! ### Second labels (R158) -/

/-- Whether a source carries a second count beside its phase (R158). -/
def State.labelled (s : State) (x : Nat) : Bool :=
  !isDomainSource x &&
    ((decide (s.inputType x = .pps) && s.attr Attr.input_tod_rx x != 0) || decide (s.inputType x = .mate))

/-- The whole second of a time nearest to it (log entry 15). -/
def nearestSecond (t : Int) : Int := (2 * t + secondUnits) / (2 * secondUnits)

/-- A whole-second step of the domain bound to DPLLn, merged into its next update and counted (R158). -/
def State.secondStep (s : State) (n : Nat) (k : Int) : State :=
  if k = 0 then s
  else
    let t := s.markSwitch n
    let r := t.dpll n
    t.setDpll n { r with pendNudge := r.pendNudge + k * secondUnits, nudges := r.nudges + 1 }

/-- Compares a label with the bound domain's seconds at its edge (R158). -/
def State.compareLabel (s : State) (n d : Nat) (seconds place : Int) : State :=
  let t := s.setDpll n { s.dpll n with labelDue := false }
  t.secondStep n (seconds - nearestSecond (s.domTimeAt d place + (s.dpll n).pendNudge))

/-- The label that a source offers at entry to ACQUIRE (R158): the last accepted within `msg_timeout`, or for a MATE the
seconds of the last complete snapshot at its labelled edge. -/
def State.labelOf (s : State) (x d : Nat) : Option (Int × Int) :=
  if s.inputType x = .mate then
    match s.mate.snap with
    | some p => (p.domains.find? fun e => e.domain.val == d).map fun e => (nearestSecond e.time, (p.localEdge : Int) * 1024)
    | none => none
  else
    match (s.input x).label with
    | some (sec, place, tick) =>
      if s.counter ≤ tick + s.attrN Attr.input_msg_timeout x * ticksPerSecond then some (sec, place) else none
    | none => none

/-- At entry to ACQUIRE the second labels are compared, or the comparison waits for the first label (R158). -/
def State.labelAtAcquire (s : State) (n x : Nat) : State :=
  match s.boundDom n with
  | some d =>
    if s.labelled x then
      match s.labelOf x d with
      | some (sec, place) => s.compareLabel n d sec place
      | none => s.setDpll n { s.dpll n with labelDue := true }
    else s
  | none => s

/-- A label has been accepted for an input: DPLLs that wait for the first one compare it (R158). -/
def State.labelArrived (s : State) (x : Nat) (sec place : Int) : State :=
  s.forEach ((List.range 16).filter fun n => (s.dpll n).labelDue && (s.sel n).source == some x) fun t n =>
    match t.boundDom n with
    | some d => t.compareLabel n d sec place
    | none => t

/-! ### Connecting a candidate -/

/-- What depends on the candidate's type is re-applied at every switch (R156, R157). -/
def State.useSource (s : State) (n x : Nat) : State :=
  ((s.put1 Attr.dpll_bw_used n (s.bandwidthFor n x)).put1 Attr.dpll_lock_limit_used n (s.lockLimitFor n x)).put1
    Attr.dpll_pd_rate n (s.pdRate x)

/-- The build-out offset of a candidate is loaded (R138): it is removed at `slope_limit` for a time-bearing candidate
with `time_align` 1 (R140), else kept. `b` is positive where the candidate is later than the output. -/
def State.loadBuildOut (s : State) (n x : Nat) (b : Int) : State :=
  if s.timeBearing x && s.flag Attr.selector_time_align n then s.addMove n .buildOut (-b)
  else s.put1 Attr.selector_buildout_phase n (s.attr Attr.selector_buildout_phase n + b)

/-- The offset of a candidate is taken up as `switch_mode` says (R138, R139); the implicit mate reference is always acquired
in PHASE_ALIGN (R469). -/
def State.takeOffset (s : State) (n x : Nat) (b : Int) : State :=
  if s.attr Attr.selector_switch_mode n = 0 ∧ x ≠ mateSource then s.loadBuildOut n x b else s.addMove n .phaseAlign (-b)

/-- Whether this is the first acquisition of R398: a bound domain, UNSET, and a time-bearing candidate. -/
def State.firstAcquire (s : State) (n x : Nat) : Option Nat :=
  match s.boundDom n with
  | some d =>
    if s.attr Attr.domain_time_status d == 0 && !(s.dom d).acquired && s.timeBearing x then some d else none
  | none => none

/-- The step of R398: the domain goes to the candidate's time, fraction included, with its next update. -/
def State.firstStep (s : State) (n d : Nat) (b : Int) : State :=
  let t := s.setDom d { s.dom d with acquired := true }
  let r := t.dpll n
  if b = 0 then t else t.setDpll n { r with pendNudge := r.pendNudge - b, nudges := r.nudges + 1 }

/-- The movements that run through the word go on in the loop: what a SLEW has not run joins `phase_offset`, whose movements run
at `slope_limit` (R168; log entry 13). -/
def State.loopMoves (s : State) (n : Nat) : State :=
  let t := s.rebase n
  let slews := (t.dpll n).moves.filter fun m => m.word && decide (m.kind = .domainSlew)
  let into (m : Movement) : Movement :=
    if m.word then { m with kind := .phaseOffset, word := false, since := none, whole := m.remaining } else m
  (t.put1 Attr.dpll_phase_offset n (t.attr Attr.dpll_phase_offset n + (slews.map fun m => m.remaining).sum)).setDpll n
    { t.dpll n with moves := (t.dpll n).moves.map into }

/-- DPLLn enters ACQUIRE on a candidate (R160, R164, R166): the integrator is preloaded with the holdover word, or with the word in
use, and the proportional path starts at zero. -/
def State.enterAcquire (s : State) (n x : Nat) (phase : Int) : State :=
  let held := decide (s.dpllState n = .holdover) || decide (s.dpllState n = .holdoverLimit)
  let word := if held then (s.dpll n).base else s.attr Attr.dpll_freq_word n
  let m := s.loopMoves n
  let t := (m.setDpll n { m.dpll n with integrator := word, integralRest := 0, useShort := false }).setWord n word
  let b := t.reduced n x phase
  let u := match t.firstAcquire n x with
    | some d => t.firstStep n d b
    | none => t.takeOffset n x b
  let v := ((u.useSource n x).toDpllState n .acquire).settle n
  let w := v.setDpll n { v.dpll n with moves := v.runHead n (v.dpll n).moves }
  ((w.put1 Attr.dpll_ho_te_est n 0).put1 Attr.dpll_ho_elapsed n 0).labelAtAcquire n x

/-- The DPLL's input moves to a candidate (R138, R146, R164). Selector changes do not act on a DPLL that is OPEN. -/
def State.dpllConnect (s : State) (n x : Nat) (phase : Int) : State :=
  let t := (s.setDpll n { s.dpll n with
    heldOff := false
    marks := if s.sourceDrift x then (s.dpll n).marks ||| 32 else (s.dpll n).marks }).markSwitch n
  match t.dpllState n with
  | .opened => t
  | .acquire => ((t.takeOffset n x (t.reduced n x phase)).useSource n x).settle n
  | .locked => (((t.takeOffset n x (t.reduced n x phase)).useSource n x).settle n).followStatus n
  | _ => t.enterAcquire n x phase

/-! ### Losing the reference -/

/-- Movements of the loop end with it (log entry 13): the unrun part of a build-out removal stays loaded, a move to a
candidate's phase is dropped, and a movement of `phase_offset` is held until the next candidate. -/
def State.holdMoves (s : State) (n : Nat) : State :=
  let t := s.put1 Attr.selector_buildout_phase n (s.attr Attr.selector_buildout_phase n - s.buildOutLeft n)
  let u := (t.dropMoves n [.buildOut, .align, .phaseAlign]).2
  let v := u.rebase n
  v.setDpll n { v.dpll n with moves := (v.dpll n).moves.map fun m => if m.word then m else { m with since := none } }

/-- The movements that OPEN held resume after a close that follows no candidate, through the word (R166, R168). -/
def State.resumeMoves (s : State) (n : Nat) : State :=
  s.setDpll n { s.dpll n with moves := startHead s.counter ((s.dpll n).moves.map fun m => { m with word := true }) }

/-- Entry to HOLDOVER (R172, R173): the holdover word with `ho_ready` 1, else the short-holdover word with hardware's own
coefficients. -/
def State.enterHoldover (s : State) (n : Nat) : State :=
  let r := s.dpll n
  let t := s.setDpll n
    { r with shortWord := r.integrator, useShort := !s.flag Attr.dpll_ho_ready n, entered := s.counter }
  let u :=
    if s.flag Attr.dpll_ho_ready n then t.setWord n (t.attr Attr.dpll_ho_freq n)
    else (t.setWord n r.integrator).putList Attr.dpll_ho_te_coeff n 0
      [(picoseconds (s.attr Attr.dpll_phase_error n) : Int), s.attr Attr.dpll_lock_freq_limit n * 1000, 0]
  ((u.put1 Attr.dpll_ho_te_est n (u.attr Attr.dpll_ho_te_coeff n 0)).put1 Attr.dpll_ho_elapsed n 0).toDpllState n .holdover

/-- Entry to FREE-RUN with the free-run word (R164, R171). -/
def State.enterFreeRun (s : State) (n : Nat) : State :=
  (s.setWord n (s.dpll n).freeRunWord).toDpllState n .freeRun

/-- The reference is gone (R163, R164): `has_locked` decides between HOLDOVER and FREE-RUN. -/
def State.dpllDisconnect (s : State) (n : Nat) : State :=
  let t := s.setDpll n { s.dpll n with heldOff := false, labelDue := false }
  if t.inLoop n then
    let u := t.holdMoves n
    if u.flag Attr.dpll_has_locked n then u.enterHoldover n else u.enterFreeRun n
  else t

end Sys2Proof.Machine
end

