-- ==== Sys2Proof/Machine/Ledger.lean ====
section
/-! DEFINITION. The holdover ledger (R169, R170) in table memory and the holdover word computed from it (R53, R171). -/

namespace Sys2Proof.Machine

/-- The address of the ledger record of an ensemble second (R169, R366). -/
def ledgerAddr (n second : Nat) : Nat := 0x12A00000 + n * 1382400 + second % 86400 * 16

/-- A ledger record's 16 bytes (R169). -/
def LedgerRec.bytes (r : LedgerRec) : List Byte :=
  intBytesLE 5 r.freq ++ intBytesLE 2 r.temp ++ bytesLE 1 r.flags ++ bytesLE 4 r.second ++ bytesLE 1 r.ref ++
    bytesLE 1 r.grade ++ bytesLE 2 r.phaseRms

/-- The record that 16 bytes spell. -/
def ledgerOfBytes (bs : List Byte) : LedgerRec :=
  { freq := intLE 5 (bs.take 5), temp := intLE 2 ((bs.drop 5).take 2), flags := natLE ((bs.drop 7).take 1)
    second := natLE ((bs.drop 8).take 4), ref := natLE ((bs.drop 12).take 1), grade := natLE ((bs.drop 13).take 1)
    phaseRms := natLE ((bs.drop 14).take 2) }

/-- The record at the place of an ensemble second; a place of zeros holds none (log entry 84), and the place holds the record of one
second in 86,400. -/
def State.ledgerPlace (s : State) (n second : Nat) : Option LedgerRec :=
  let bs := s.tmRead (ledgerAddr n second) 16
  if bs.all fun b => b == 0 then none else some (ledgerOfBytes bs)

/-- The record of an ensemble second, where the ledger holds it. -/
def State.ledgerAt (s : State) (n second : Nat) : Option LedgerRec :=
  (s.ledgerPlace n second).filter fun r => r.second == second % 2 ^ 32

/-- Sets a flag bit on a record that the ledger holds. -/
def State.ledgerMark (s : State) (n second bit : Nat) : State :=
  match s.ledgerAt n second with
  | some r => s.tmWrite (ledgerAddr n second) { r with flags := r.flags ||| bit }.bytes
  | none => s

/-- The current ensemble second (R169): the number of the second in progress, of which no record stands yet. -/
def State.second (s : State) : Nat := s.counter / ticksPerSecond

/-- Sets GUARD on the records of the `ho_guard` seconds before now of the DPLLs whose selected source drifts, and on the
second in progress (R170). -/
def State.guardDrift (s : State) (x : Nat) : State :=
  s.forEach ((List.range 16).filter fun n => (s.sel n).source == some x) fun t n =>
    let g := t.attrN Attr.dpll_ho_guard n
    let r := t.dpll n
    let inFifo := r.fifo.map fun q => if t.second ≤ q.second + g then { q with flags := q.flags ||| 32 } else q
    (t.setDpll n { r with fifo := inFifo, marks := r.marks ||| 32 }).forEach (((List.range g).filter fun k => k < t.second).map fun k => t.second - 1 - k) fun u sec =>
      u.ledgerMark n sec 32

/-- The second after the window of a holdover word (R171): the window is the `ho_window` records that end with the last second to
have a record, or, in a holdover, with the last before it began. -/
def State.windowEnd (s : State) (n : Nat) : Nat :=
  if s.dpllState n = .holdover ∨ s.dpllState n = .holdoverLimit then (s.dpll n).entered / ticksPerSecond else s.second

/-- The usable records of the window (R169, R171). -/
def State.usable (s : State) (n : Nat) : List LedgerRec :=
  ((List.range (s.attrN Attr.dpll_ho_window n)).filterMap fun k =>
    if k < s.windowEnd n then s.ledgerAt n (s.windowEnd n - 1 - k) else none).filter fun r => r.flags % 64 == 0

/-- The mean of some values, none of no values; rounded down. -/
def meanOf (xs : List Int) : Option Int := if xs = [] then none else some (xs.sum / (xs.length : Int))

/-- The model of one member at a second and a temperature (R53), in 10^-18, rounded down. -/
def State.memberModel (s : State) (m : Nat) (t temp : Int) : Int :=
  s.attr Shadow.modelFreq 0 m * 1000 +
    (s.attr Attr.age_learned 0 m * (t - s.attr Shadow.modelTime 0 m) +
      s.attr Attr.tempco_learned 0 m * (temp - s.attr Shadow.modelTemp 0 m) * 864) * 1000 / 86400

/-- The weight-averaged model of the ensemble (R171), in 10^-18, rounded down; 0 without a member. -/
def State.ensembleModel (s : State) (t temp : Int) : Int :=
  let w (m : Nat) : Int := s.weightNow m
  let total := (s.ensemble.map w).sum
  if total = 0 then 0 else (s.ensemble.map fun m => w m * s.memberModel m t temp).sum / total

/-- The weighted mean of the members' oven-board temperatures (R169), in 0.01 °C; the external member has none (log entry 84). -/
def State.meanTemp (s : State) : Int :=
  let ovens := s.ensemble.filter fun m => m < 3
  let w (m : Nat) : Int := s.weightNow m
  let total := (ovens.map w).sum
  if total = 0 then 0 else roundQuot (ovens.map fun m => w m * s.attr Attr.osc_temp 0 m).sum total

/-! ### The coefficients of the time error estimate (R173) -/

/-- The root of a quotient, to the nearest integer below. -/
def rootQuot (x y : Nat) : Nat := if y = 0 then 0 else isqrt (x / y)

/-- E0: the RMS phase error of the last 10 usable records, in ps; the window lists its records newest first. -/
def teE0 (us : List LedgerRec) : Nat :=
  let xs := us.take 10
  rootQuot (xs.map fun r => r.phaseRms * r.phaseRms).sum xs.length

/-- The square of the standard error of ȳ times N² (N − 1), in 10^-30 (R173). -/
def freqSpread (us : List LedgerRec) : Nat :=
  let n : Int := us.length
  let sum := (us.map (·.freq)).sum
  (us.map fun r => (n * r.freq - sum) * (n * r.freq - sum)).sum.toNat / us.length

/-- E1: the standard error of ȳ plus the RMS departure of the records from the mean that the model propagates, in 10^-15. -/
def State.teE1 (s : State) (us : List LedgerRec) : Nat :=
  let n := us.length
  let y := (meanOf (us.map fun r => r.freq * 1000)).getD 0
  let model (r : LedgerRec) : Int := s.ensembleModel r.second r.temp
  let m := (meanOf (us.map model)).getD 0
  rootQuot (freqSpread us) (n * n * (n - 1)) +
    rootQuot (us.map fun r => ((r.freq * 1000 - y - (model r - m)) * (r.freq * 1000 - y - (model r - m))).toNat).sum (n * 1000000)

/-- The ageing uncertainty of a member in 10^-21 per s: the fit's standard error where a fit has been adopted, else the factory's
for an oven and 10 × 10^-12 per day for the external member. -/
def State.ageError (s : State) (m : Nat) : Nat :=
  if s.attr Shadow.learned 0 m = 1 then tblGet s.crucible.ageErrors 0 m
  else if m = 3 then 115741 else tblGet s.factory.ageUncertainty 0 m

/-- E2: half the standard error of the weight-averaged ageing rate of the members, which are independent (log entry 84), in 10^-21
per s. -/
def State.teE2 (s : State) : Nat :=
  let total := (s.ensemble.map s.weightNow).sum
  rootQuot (s.ensemble.map fun m => s.weightNow m * s.ageError m * (s.weightNow m * s.ageError m)).sum (4 * total * total)

end Sys2Proof.Machine
end

