-- ==== Sys2Proof/Machine/Crucible.lean ====
section
/-! DEFINITION. The Crucible (R41 to R57, R404): the ensemble of oscillators, its weights, outvoting, readmission,
warm-up, the learned models and the root. Members are numbered 0 to 2 for OSC0 to OSC2 and 3 for the external member. -/

namespace Sys2Proof.Machine

/-- The lead oscillator (R55): the oven member with the largest weight, ties to the lower index; OSC0 without one. -/
def State.leadNow (s : State) : Nat :=
  ((s.ensemble.filter fun m => m < 3).foldl (fun (best : Option Nat) m =>
    match best with
    | some b => if s.weightNow b < s.weightNow m then some m else some b
    | none => some m) none).getD 0

/-- The weights and the lead as they read are brought up to date (R44, R55). -/
def State.settleWeights (s : State) : State :=
  let t := s.putList Attr.osc_weight 0 0 ((List.range 4).map fun m => (s.weightNow m : Int))
  t.put1 Attr.lead_osc 0 t.leadNow

/-- The weights are formed anew for the present members. -/
def State.reweigh (s : State) : State :=
  if s.crucible.frozen then s.settleWeights
  else
    let target : Tbl Nat := (s.targets.map fun (e : Nat × Rat) => (e.1, weightOf e.2)).filter fun (e : Nat × Nat) => e.2 != 0
    { s with crucible := { s.crucible with target := target } }.settleWeights

/-- The weights are computed anew with the caps as they are set now (R43). -/
def State.recompute (s : State) : State :=
  { s with crucible := { s.crucible with extCap := s.attrN Attr.ext_weight_cap } }.reweigh

/-- A member leaves a frozen ensemble (R42): the weights of the rest are scaled in proportion so that they sum to 1;
rests without weight share equally. -/
def State.scaleFrozen (s : State) : State :=
  let ms := s.ensemble
  let w (m : Nat) : Nat := s.attrN Attr.osc_weight 0 m
  let total := (ms.map w).sum
  s.putList Attr.osc_weight 0 0 ((List.range 4).map fun m =>
    if !ms.contains m then (if ms = [] ∧ m = 0 then 65536 else 0)
    else if total = 0 then ((65536 / ms.length : Nat) : Int) else ((w m * 65536 / total : Nat) : Int))

/-- The weights after a member has left (R42, R44). -/
def State.afterLeaving (s : State) : State := if s.crucible.frozen then s.scaleFrozen.settleWeights else s.reweigh

def State.setOsc (s : State) (m : Nat) (x : OscState) : State := s.put Attr.osc_state 0 m x.code

/-- The single-member event (R47): one member remains in a Q3. -/
def State.judgeSingle (s : State) : State :=
  if s.isQ3 && s.ensemble.length == 1 then s.raise 325 else s

/-- A member is outvoted (R45, R47, R48, R52, R57); `oven` gives the cause. -/
def State.outvote (s : State) (m : Nat) (oven : Bool) : State :=
  let t := s.setOsc m .outvoted
  let u := { t with crucible := { t.crucible with
    ramps := tblDrop t.crucible.ramps m
    cause := tblSet t.crucible.cause 0 m (boolNat oven) } }
  ((u.afterLeaving.add Attr.outvote_count 0 m 1).enforceLimit.raise (320 + m) true m).judgeSingle

/-! ### Frozen weights and the root (R42, R55) -/

/-- A freeze starts (R42): weights and ramps stand. -/
def State.freeze (s : State) : State :=
  let t := s.settleWeights
  { t with crucible := { t.crucible with
    frozen := true
    ramps := t.crucible.ramps.map fun e => (e.1, { done := e.2.run t.counter, since := none }) } }

/-- A freeze ends (R42): the weights in force stand until the first recomputation, and a ramp goes on from the weight it held
towards its computed weight. -/
def State.thaw (s : State) : State :=
  let target (m : Nat) : Nat :=
    if s.osc m = .ramping then weightOf (((s.targets.find? fun e => e.1 == m).map (·.2)).getD 0) else s.attrN Attr.osc_weight 0 m
  { s with crucible := { s.crucible with
    frozen := false
    target := (s.ensemble.map fun m => (m, target m)).filter fun (e : Nat × Nat) => e.2 != 0
    ramps := s.crucible.ramps.map fun e => (e.1, { e.2 with since := some s.counter, base := s.attrN Attr.osc_weight 0 e.1 }) } }

/-- ROOT_PHASE_STEER (R55): every 1 ms the reference phase moves by the difference between ensemble time and the lead
oscillator's time, in fs, by at most 1 ps. -/
def execRootPhaseSteer (diff : Int) (s : State) : Host.Outcome State Fault Refusal :=
  .next (s.when_ (s.crucibleUp && s.flag Attr.root_locked) fun t =>
    { t with crucible := { t.crucible with rootPhase := t.crucible.rootPhase + clampInt (-1000) 1000 diff } })

/-- ROOT_UNLOCK (R34). -/
def execRootUnlock (s : State) : Host.Outcome State Fault Refusal :=
  .next (s.when_ (s.crucibleUp && s.flag Attr.root_locked) fun t => (t.put1 Attr.root_locked 0 0).raise 330 true)

/-! ### Outvoting (R45, R47) -/

/-- How far a member departs from the weighted mean of the others in some measured quantity, in 2^-16 of its unit; the plain
mean where the others have no weight. -/
def State.apart (s : State) (f : Nat → Int) (m : Nat) : Nat :=
  let others := s.ensemble.filter fun j => j != m
  let weights := (others.map s.weightNow).sum
  let w (j : Nat) : Int := if weights = 0 then 1 else (s.weightNow j : Int)
  let total : Int := (others.map w).sum
  if total = 0 then 0 else ((f m * total - (others.map fun j => w j * f j).sum) * 65536 / total).natAbs

/-- A member's departure in one window of R45, in 2^-16 of 10^-15. -/
def State.departure (s : State) (obs : List OscSample) (m k : Nat) : Nat :=
  s.apart (fun j => ((obs.getD j ⟨[], 0, 0⟩).windows).getD k 0) m

/-- The largest departure of a member as a multiple of its limit (R45), in units of 1 / (65536 × limits); the windows are
those of 1 s to 100 s. -/
def State.worst (s : State) (obs : List OscSample) (m : Nat) : Nat :=
  let fl := s.attrN Attr.outvote_freq_limit * 1000
  let sl := s.attrN Attr.outvote_step_limit
  let freq := ((List.range 100).map fun k => s.departure obs m k).foldl max 0
  max (freq * sl) ((obs.getD m ⟨[], 0, 0⟩).step * 65536 * fl)

/-- One multiple of the limits in the units of `worst`. -/
def State.oneLimit (s : State) : Nat := s.attrN Attr.outvote_freq_limit * 1000 * 65536 * s.attrN Attr.outvote_step_limit

/-- The member to outvote first under a measure of departure (R45): the largest above one limit, a tie to the higher index. -/
def State.firstOver (s : State) (worst : Nat → Nat) (one : Nat) : Option Nat :=
  s.ensemble.foldl (fun (best : Option Nat) m =>
    if worst m ≤ one then best
    else match best with
      | some b => if worst m < worst b then some b else some m
      | none => some m) none

/-- Whether `learn_dpll` is LOCKED to a reference of grade at most `learn_grade_max` (R47, R53). -/
def State.learnLocked (s : State) : Bool :=
  let n := s.attrN Attr.learn_dpll
  decide (s.dpllState n = .locked) &&
    (match (s.sel n).source with
     | some x => decide (s.sourceGrade x ≤ s.attrN Attr.learn_grade_max)
     | none => false)

/-- An evaluation notes the integral of the word of `learn_dpll`, while that DPLL is LOCKED as R47 asks; it starts anew
otherwise. -/
def State.noteLearn (s : State) : State :=
  let n := s.attrN Attr.learn_dpll
  let before := if s.crucible.learnOf = n then s.crucible.learn else []
  { s with crucible := { s.crucible with
    learnOf := n
    learn := if s.learnLocked then ((s.counter, s.wordIntegral n) :: before).take 101 else [] } }

/-- The frequency of the ensemble against the reference of `learn_dpll` over the 100 s that end now (R47), in 10^-18: the
mean of that DPLL's frequency word, reversed; none unless it was LOCKED throughout. -/
def State.refFrequency (s : State) : Option Int :=
  let start := s.counter - 100 * ticksPerSecond
  match s.crucible.learn.find? fun (e : Nat × Int) => decide (e.1 ≤ start) with
  | some e =>
    if s.learnLocked && s.crucible.learnOf == s.attrN Attr.learn_dpll && decide (100 * ticksPerSecond ≤ s.counter) &&
        decide (s.attrN Attr.dpll_state_since (s.attrN Attr.learn_dpll) ≤ start) then
      some (-((s.wordIntegral (s.attrN Attr.learn_dpll) - e.2) / ((s.counter - e.1 : Nat) : Int)))
    else none
  | none => none

/-- How far a member's measured frequency lies from the prediction of its own model (R47), in 10^-18: its mean against the
ensemble over 100 s, plus `ref`, the ensemble's against true frequency. -/
def State.modelDeparture (s : State) (ref : Int) (m : Nat) : Nat :=
  (s.attr Attr.osc_freq_offset 0 m * 1000 + ref - s.memberModel m s.second (if m < 3 then s.attr Attr.osc_temp 0 m else 0)).natAbs

/-- The member that loses an arbitration (R47): the larger departure from its own model; the higher index where the two lie
within 1 ppt of each other or cannot be measured. -/
def State.loser (s : State) (a b : Nat) : Nat :=
  match s.refFrequency with
  | some ref =>
    let da := s.modelDeparture ref a
    let db := s.modelDeparture ref b
    if da ≤ db + 1000000 ∧ db ≤ da + 1000000 then max a b else if da < db then b else a
  | none => max a b

/-- Arbitration between two members (R47). -/
def State.arbitrate (s : State) (a b : Nat) : State := (s.raise 324).outvote (s.loser a b) false

/-- Members are outvoted one at a time until none exceeds a limit or two remain (R45); two are arbitrated (R47). `worst` measures
the departures among the members that remain, `one` is the limit in its units. -/
def State.evaluate (s : State) (fuel : Nat) (worst : State → Nat → Nat) (one : Nat) : State :=
  match fuel with
  | 0 => s
  | k + 1 =>
    match s.ensemble with
    | [] => s
    | [_] => s
    | [a, b] => if (s.firstOver (worst s) one).isSome then s.arbitrate a b else s
    | _ =>
      match s.firstOver (worst s) one with
      | some m => (s.outvote m false).evaluate k worst one
      | none => s

/-- The next whole second of the free-running counter (R45): now, where the counter stands at one. -/
def State.nextWhole (s : State) : Nat := (s.counter + ticksPerSecond - 1) / ticksPerSecond * ticksPerSecond

/-- Whether an oscillator is measured (R42, R51): a fitted oven, and the external member once it has joined. -/
def State.oscMeasured (s : State) (m : Nat) : Bool := decide (s.osc m ≠ .notFitted) && decide (s.osc m ≠ .absent)

/-- The observations as they read (R56): the mean frequency over 100 s of every oscillator that is measured, and the board
temperatures of the fitted ovens. -/
def State.observe (s : State) (obs : List OscSample) : State :=
  let t := s.putList Attr.osc_freq_offset 0 0 ((List.range 4).map fun m =>
    if s.oscMeasured m then clampInt (-2147483647) 2147483647 (((obs.getD m ⟨[], 0, 0⟩).windows).getD 99 0) else 0)
  t.putList Attr.osc_temp 0 0 ((List.range 3).map fun m => if s.oscMeasured m then clampInt (-4000) 12000 (obs.getD m ⟨[], 0, 0⟩).temp else 0)

/-- OUTVOTE_EVALUATION (R45, R47, R56): at the next whole second of the counter; `obs` are the oscillators' observations by
index. -/
def execOutvoteEvaluation (obs : List OscSample) (s : State) : Host.Outcome State Fault Refusal :=
  .next (s.when_ s.crucibleUp fun t =>
    let u := ((t.advance t.nextWhole).observe obs).noteLearn
    u.evaluate 4 (fun v m => v.worst obs m) u.oneLimit)

/-- WEIGHT_RECOMPUTE (R42, R43, R50): every 100 s, not while the weights are frozen; `variances` are σ² of the members by
index, `separable` whether the comparator has the signal of every oven of a Q3. -/
def execWeightRecompute (variances : List Nat) (separable : Bool) (s : State) : Host.Outcome State Fault Refusal :=
  .next (s.when_ (s.crucibleUp && !s.crucible.frozen) fun t =>
    { t with crucible := { t.crucible with
      variances := (List.range 4).map fun m => (m, variances.getD m 0)
      separable := separable && t.isQ3 } }.recompute)

/-! ### The comparator (R41, R42, R45, R46) -/

/-- The phase of an oscillator against OSC0 in fs that a comparison shows (R41, R51): the ovens' from the pairwise differences,
the external member's from its Gather stamps. -/
def phaseOf (diffs : List Int) (ext : Option Int) (m : Nat) : Option Int :=
  match m with
  | 0 => some 0
  | 1 => (diffs[0]?).map fun d => -d
  | 2 => diffs[2]?
  | _ => ext

/-- How far an oscillator's phase moved within one comparison, in fs: from the comparison before to this one. -/
def State.phaseMoved (s : State) (diffs : List Int) (ext : Option Int) (m : Nat) : Int :=
  match phaseOf s.crucible.diffs s.crucible.ext m, phaseOf diffs ext m with
  | some a, some b => b - a
  | _, _ => 0

/-- Members that show a phase step above `outvote_step_limit` within one comparison are outvoted in it (R45, R46). A
measurement whose differences do not sum to zero is the comparator's error and no oscillator's step (R42), so none is
outvoted on it (DEDUCED, log entry 73). -/
def State.stepVote (s : State) (diffs : List Int) (ext : Option Int) : State :=
  let t : State := { s with crucible := { s.crucible with diffs := diffs, ext := ext } }
  t.evaluate 4 (fun v m => v.apart (s.phaseMoved diffs ext) m) (s.attrN Attr.outvote_step_limit * 1000 * 65536)

/-- The closure check of one measurement (R42): `bad` where the sum exceeds 10 ps. -/
def State.closureCheck (s : State) (sum : Int) (bad : Bool) : State :=
  let u := s.put1 Attr.closure_error 0 (clampInt (-2147483647) 2147483647 sum)
  let c := { u.crucible with bad := if bad then u.crucible.bad + 1 else 0, good := if bad then 0 else u.crucible.good + 1 }
  let v := { u with crucible := c }
  if bad && c.bad == 10 && !c.frozen then v.freeze.raise 329 true
  else if !bad && c.good == 10 && c.frozen then v.thaw.uncause 329
  else v

/-- Keeps the phases against the ensemble that a comparison shows (R41, R300): of each member less the weighted mean. -/
def State.keepPhases (s : State) (diffs : List Int) (ext : Option Int) : State :=
  let x (m : Nat) : Int := (phaseOf diffs ext m).getD 0
  let mean := ((List.range 4).map fun m => (s.weightNow m : Int) * x m).sum / 65536
  { s with crucible := { s.crucible with phases := ((s.counter, (List.range 4).map fun m => x m - mean) :: s.crucible.phases).take 4 } }

/-- COMPARATOR_MEASUREMENT (R41, R42, R45, R49): the three pairwise differences in fs, and the external member's phase against
OSC0 by its stamps where one is measured. A Q1 has no closure check. -/
def execComparatorMeasurement (d01 d12 d20 : Int) (ext : Option Int) (s : State) : Host.Outcome State Fault Refusal :=
  .next (s.when_ s.crucibleUp fun t =>
    if t.isQ3 then
      let sum := d01 + d12 + d20
      let bad := decide (10000 < sum.natAbs)
      let u := (t.closureCheck sum bad).keepPhases [d01, d12, d20] ext
      if bad then u else u.stepVote [d01, d12, d20] ext
    else (t.keepPhases [] ext).stepVote [] ext)

/-! ### Joining, oven faults and warm-up (R52, R404, R527) -/

/-- Whether every fitted oven has joined: none reads WARMUP. -/
def State.allJoined (s : State) : Bool := (List.range 3).all fun m => decide (s.osc m ≠ .warmup)

/-- Warm-up has ended (R404). -/
def State.endWarmup (s : State) (w : WarmupState) : State :=
  let t := s.put1 Attr.warmup_state 0 w.code
  t.put1 Attr.warmup_elapsed 0 ((t.boot.warmBase + t.counter - t.boot.warmSince) / ticksPerSecond : Nat)

/-- What a join means for warm-up (R57, R404). -/
def State.joinWarmup (s : State) : State :=
  match WarmupState.ofCode (s.attr Attr.warmup_state) with
  | .warmUp => if s.allJoined then (s.endWarmup .complete).raise 331 else s
  | .failed => (s.put1 Attr.warmup_state 0 WarmupState.complete.code).raise 331
  | .complete => s

/-- OVEN_JOIN (R42, R52): 60 s within ±0.1 K; while the weights are frozen the oven enters with weight 0. -/
def execOvenJoin (m : Fin 3) (s : State) : Host.Outcome State Fault Refusal :=
  .next (s.when_ (s.crucibleUp && decide (s.osc m.val = .warmup)) fun t =>
    let alone := t.noOven
    let u := t.setOsc m.val .member
    let v := if t.crucible.frozen then
        (if alone then u.putList Attr.osc_weight 0 0 ((List.range 4).map fun k => if k = m.val then 65536 else 0)
         else u.put Attr.osc_weight 0 m.val 0).settleWeights
      else u.reweigh
    v.joinWarmup)

/-- OVEN_FAULT (R52): an oven that has joined leaves ±0.5 K; the last remaining member raises the event and stays. -/
def execOvenFault (m : Fin 3) (s : State) : Host.Outcome State Fault Refusal :=
  .next (s.when_ (s.crucibleUp && decide (s.osc m.val ≠ .notFitted) && decide (s.osc m.val ≠ .warmup)) fun t =>
    let u := t.raise (326 + m.val) false m.val
    if u.ensemble.contains m.val then
      (if u.ensemble = [m.val] then u.judgeSingle else u.outvote m.val true)
    else { u with crucible := { u.crucible with cause := tblSet u.crucible.cause 0 m.val 1 } })

/-- WARMUP_TIMEOUT (R404): 12 minutes after the start, ovens that have not joined raise their oven faults and warm-up
ends. -/
def execWarmupTimeout (s : State) : Host.Outcome State Fault Refusal :=
  .next (s.when_ (s.crucibleUp && s.attr Attr.warmup_state == WarmupState.warmUp.code) fun t =>
    let late := (List.range 3).filter fun m => t.osc m = .warmup
    let joined := (List.range 3).any fun m => (t.ensemble.contains m) || decide (t.osc m = .outvoted)
    let u := t.advance (t.boot.warmSince + 720 * ticksPerSecond - t.boot.warmBase)
    (u.forEach late fun x m => x.raise (326 + m) false m).endWarmup (if joined then .complete else .failed))

/-! ### Readmission (R48) -/

/-- A member's readmission is granted: its ramp starts, held while the weights are frozen (R42, R48, R57). -/
def State.startRamp (s : State) (m : Nat) : State :=
  let t := s.setOsc m .ramping
  let r : Ramp := { done := 0, since := if t.crucible.frozen then none else some t.counter }
  let u := { t with crucible := { t.crucible with ramps := tblPut t.crucible.ramps m r } }
  (if u.crucible.frozen then (u.put Attr.osc_weight 0 m 0).settleWeights else u.reweigh).uncause (320 + m)

/-- READMIT_CONDITION_MET (R48): in AUTO. -/
def execReadmitConditionMet (m : Fin 4) (s : State) : Host.Outcome State Fault Refusal :=
  .next (s.when_ (s.crucibleUp && s.attr Attr.readmit_mode == 0 && decide (s.osc m.val = .outvoted)) fun t => t.startRamp m.val)

/-- READMIT_RAMP_COMPLETE (R48, R57): a ramp that runs has run 1,000 s. -/
def execReadmitRampComplete (m : Fin 4) (s : State) : Host.Outcome State Fault Refusal :=
  .next (match (s.ramp m.val).since with
    | some t0 => s.when_ (s.crucibleUp && decide (s.osc m.val = .ramping)) fun t =>
        let u := (t.advance (t0 + (rampTicks - (t.ramp m.val).done))).setOsc m.val .member
        ({ u with crucible := { u.crucible with ramps := tblDrop u.crucible.ramps m.val } }.settleWeights).raise 333 false m.val
    | none => s)

/-- SYSTEM.OSC_READMIT (R48, R351): `conditionHolds` says whether the member's return condition has held as MANUAL asks. -/
def execOscReadmit (who : Issuer) (member : Nat) (conditionHolds : Bool) (s : State) : Host.Outcome State Fault Refusal :=
  .next (s.doAct who
    { opcode := 0x0100
      refusals := [(decide (3 < member), E_RANGE), (decide (s.osc member ≠ .outvoted), E_STATE),
        (!conditionHolds, E_CAUSE_PRESENT)] }
    fun t => t.startRamp member)

/-- SYSTEM.OSC_EXCLUDE (R48, R351). -/
def execOscExclude (who : Issuer) (member : Nat) (s : State) : Host.Outcome State Fault Refusal :=
  .next (s.doAct who
    { opcode := 0x0101
      refusals := [(decide (3 < member), E_RANGE),
        (!s.ensemble.contains member || decide (s.ensemble.length = 1), E_STATE)] }
    fun t => t.outvote member false)

/-! ### The external member (R51) -/

/-- Gather qualifies the input that `ext_input` names: it joins as member 3. -/
def State.extJoin (s : State) : State :=
  if s.osc 3 = .absent then
    let t := s.setOsc 3 .member
    if t.crucible.frozen then (t.put Attr.osc_weight 0 3 0).settleWeights else t.reweigh
  else s

/-- The external member leaves with weight 0 (R51, R57). -/
def State.extLeave (s : State) (event : Bool) : State :=
  if s.osc 3 = .absent then s
  else
    let t := s.setOsc 3 .absent
    let u := { t with crucible := { t.crucible with ramps := tblDrop t.crucible.ramps 3, cause := tblDrop t.crucible.cause 3 } }
    let v := (if s.ensemble.contains 3 then u.afterLeaving else u).uncause 323
    let w := if event then v.raise 334 false 3 else v
    if s.ensemble.contains 3 then w.judgeSingle else w

/-! ### Learned models and the ambient sensor (R53, R54, R57) -/

/-- Whether learning goes on (R53). -/
def State.learning (s : State) : Bool := s.learnLocked && !s.flag Attr.dpll_settling (s.attrN Attr.learn_dpll)

/-- Whether a fit departs too far from the baseline (R54); the external member has no limit. -/
def State.fitRejected (s : State) (f : ModelFit) : Bool :=
  decide (f.member.val ≠ 3) &&
    (decide (10000 < (f.age - s.attr Attr.age_base 0 f.member.val).natAbs) ||
      decide (5000 < (f.tempco - s.attr Attr.tempco_base 0 f.member.val).natAbs))

/-- A fit is adopted or rejected (R53, R54). -/
def State.takeFit (s : State) (f : ModelFit) : State :=
  if s.fitRejected f then (s.put1 Attr.learn_state 0 LearnState.rejected.code).raise 332
  else
    let m := f.member.val
    let s := { s with crucible := { s.crucible with ageErrors := tblSet s.crucible.ageErrors 0 m f.ageError } }
    (((((s.put Attr.age_learned 0 m f.age).put Attr.tempco_learned 0 m f.tempco).put Shadow.modelFreq 0 m f.freq).put
      Shadow.modelTime 0 m s.second).put Shadow.modelTemp 0 m f.temp).put Shadow.learned 0 m 1 |>.put1 Attr.learn_state 0
      LearnState.learning.code

/-- MODEL_FIT_UPDATE (R53, R54): every 10 minutes. -/
def execModelFitUpdate (fits : List ModelFit) (s : State) : Host.Outcome State Fault Refusal :=
  .next (s.when_ s.engines fun t =>
    if t.learning then (fits.foldl State.takeFit t).enforceLimit
    else if t.attr Attr.learn_state = LearnState.learning.code then t.put1 Attr.learn_state 0 LearnState.idle.code
    else t)

/-- AMBIENT_GRADIENT (R57): the ambient sensor has changed by more than 1 K in 60 s. -/
def execAmbientGradient (s : State) : Host.Outcome State Fault Refusal := .next (s.when_ s.crucibleUp fun t => t.raise 335)

end Sys2Proof.Machine
end

