-- ==== Sys2Proof/Machine/Input.lean ====
section
/-! DEFINITION. Gather (R88 to R123): stamps, the monitors of an input and its qualification, grades, ToD companions,
video and LTC inputs. -/

namespace Sys2Proof.Machine

/-- Whether an input is stamped and monitored: its `enable`, or for a feedback channel that its synthesiser is not OFF
(R202); INPUT 27 never is (R89). -/
def State.inputOn (s : State) (n : Nat) : Bool :=
  if 28 ≤ n then s.attr Attr.syn_state (n - 28) != SynState.off.code
  else decide (n ≠ 27) && s.flag Attr.input_enable n

/-- Whether verdicts are suppressed on a feedback channel: CALIBRATING, RETUNING and the 10 µs after a commit (R202). -/
def State.suppressed (s : State) (n : Nat) : Bool :=
  decide (28 ≤ n) && ((match (s.syn (n - 28)).committedAt with
    | some t => decide (s.counter < t + 13500)
    | none => false) || s.attr Attr.syn_state (n - 28) == SynState.calibrating.code || s.attr Attr.syn_state (n - 28) == SynState.retuning.code)

/-- Whether an input's monitors that firmware runs apply to it: not on a feedback channel (R202). -/
def State.monitored (s : State) (n : Nat) : Bool := s.inputOn n && decide (n < 28)

/-- The event source k of INPUT n (R123). -/
def evInput (n k : Nat) : Nat := 4 * n + k

/-! ### Qualification (R97, R103) -/

/-- The monitors that fail, by `qual_flags` bit (R97). -/
def State.failing (s : State) (n : Nat) : Nat := s.attrN Attr.input_qual_flags n

/-- Whether a disqualifying monitor fails: any but DRIFT (R97). -/
def State.disqualified (s : State) (n : Nat) : Bool := s.failing n % 128 != 0 && s.failing n % 128 != 16

/-- The input leaves QUALIFIED (R97, R131, R51, R123). -/
def State.leaveQualified (s : State) (n : Nat) : State :=
  let t := ((s.put1 Attr.input_qual_state n QualState.disqualified.code).raise (evInput n 1) true (s.failing n % 128)).sourceLeft n
  if t.attr Attr.ext_input = n then t.extLeave true else t

/-- The state of an input follows its monitors (R97, R103): a soak starts as the last disqualifying monitor passes. -/
def State.judgeInput (s : State) (n : Nat) : State :=
  if !s.inputOn n then s
  else
    match QualState.ofCode (s.attr Attr.input_qual_state n) with
    | .disabled => s
    | .disqualified =>
      if s.disqualified n then s
      else (s.setInput n { s.input n with soakFrom := s.counter }).put1 Attr.input_qual_state n QualState.soaking.code
    | .soaking => if s.disqualified n then s.put1 Attr.input_qual_state n QualState.disqualified.code else s
    | .qualified => if s.disqualified n then s.leaveQualified n else s

/-- Gives a monitor its verdict: bit `k` of `qual_flags`. -/
def State.verdict (s : State) (n k : Nat) (fails : Bool) : State :=
  let f := s.failing n
  let g := if fails then f ||| 2 ^ k else if bitOf f k then f - 2 ^ k else f
  (s.put1 Attr.input_qual_flags n g).judgeInput n

/-- The input returns to DISQUALIFIED, and soaks from the beginning once its monitors pass (R91, R118). -/
def State.requalify (s : State) (n : Nat) : State :=
  let t := if s.attr Attr.input_qual_state n = QualState.qualified.code then s.leaveQualified n
    else s.put1 Attr.input_qual_state n QualState.disqualified.code
  t.judgeInput n

/-- A change of a monitor threshold restarts a soak in progress (R101). -/
def State.restartSoak (s : State) (n : Nat) : State :=
  if s.attr Attr.input_qual_state n = QualState.soaking.code then s.setInput n { s.input n with soakFrom := s.counter } else s

/-- The gate in progress starts anew at a tick with no stamp in it (R99, R101). -/
def InputRec.newGate (r : InputRec) (now : Nat) : InputRec := { r with gateStart := now, gate := [], anchor := none, clean := true }

/-- What the monitors hold of the input's phase and frequency starts anew (R98 to R100, R102): at enable, at the end of a loss
of signal, and where the type, the nominal frequency or the pre-division changes. -/
def InputRec.forget (r : InputRec) (now : Nat) : InputRec :=
  { r.newGate now with fit := none, held := [], second := none, secs := 0, avgs := [], driftClear := 0 }

/-- The frequency monitor starts as at enable: its verdict is FAIL and its gate new (R92, R101). -/
def State.restartGate (s : State) (n : Nat) : State :=
  (s.setInput n { (s.input n).newGate s.counter with freqPass := false }).verdict n 1 true

/-! ### Grades (R106 to R110) -/

/-- The grade of an input as R106 decides it: a message counts for its own `grade_source` only, 1 SSM, 2 G8271, 3 NMEA, and for
less than `msg_timeout`; a feedback channel reads 15 (R202). A SET of `ssm_option` or `assigned_grade` maps no message anew
(log entry 80). -/
def State.gradeOf (s : State) (n : Nat) : Nat :=
  if 28 ≤ n then 15
  else if s.attr Attr.input_grade_override n ≠ 255 then s.attrN Attr.input_grade_override n
  else if s.attr Attr.input_grade_source n = 0 then s.attrN Attr.input_assigned_grade n
  else match tblFind (s.input n).msgs (s.attrN Attr.input_grade_source n) with
    | some (g, t) =>
      if s.counter < t + s.attrN Attr.input_msg_timeout n * ticksPerSecond then g else s.attrN Attr.input_msg_lost_grade n
    | none => s.attrN Attr.input_msg_lost_grade n

/-- The quality event (R123, R362): its cause, and the grade after it. -/
def State.quality (s : State) (n cause : Nat) : State := s.raise (evInput n 3) false (cause * 4096 + s.attrN Attr.input_grade n)

/-- The grade is formed anew; the quality event is raised where it changes, or always where `always` says so. -/
def State.regrade (s : State) (n cause : Nat) (always : Bool := false) : State :=
  if !s.inputOn n || decide (28 ≤ n) then s
  else
    let g := s.gradeOf n
    let changed := g != s.attrN Attr.input_grade n
    let t := s.put1 Attr.input_grade n g
    let u := if changed || always then t.quality n cause else t
    u.verdict n 5 (g == 15)

/-- An input's monitors start (R98, R101, R118): DISQUALIFIED with its frequency verdict FAIL, a video format not yet
detected, the loss of signal measured from this tick. -/
def State.startMonitors (s : State) (n : Nat) : State :=
  let t := s.setInput n { gateStart := s.counter, losFrom := s.counter }
  let format := decide (s.inputType n = .video)
  let u := (t.put1 Attr.input_qual_state n QualState.disqualified.code).put1 Attr.input_qual_flags n (2 + 64 * boolNat format)
  let v := if n < 28 then (u.put1 Attr.input_vsync_format n 0).put1 Attr.input_ltc_rate n 0 else u
  (v.uncause (evInput n 0)).regrade n 0

/-- An input starts at enable: its monitors, and the count of its stamps (R122). -/
def State.startInput (s : State) (n : Nat) : State := (s.startMonitors n).put1 Attr.input_stamps n 0

/-- An input stops (R97): DISABLED. -/
def State.stopInput (s : State) (n : Nat) : State :=
  let t := if s.attr Attr.input_qual_state n = QualState.qualified.code then s.leaveQualified n else s
  let u := ((t.setInput n {}).put1 Attr.input_qual_state n QualState.disabled.code).put1 Attr.input_qual_flags n 0
  ((u.put1 Attr.input_grade n 15).uncause (evInput n 0)).uncause (evInput n 2)

/-- The grade of an SSM code (R107). -/
def ssmGrade (optionII : Bool) (code : Nat) : Nat :=
  if optionII then
    (if code = 1 then 2 else if code = 0 then 3 else if code = 7 then 4 else if code = 4 then 5 else if code = 13 then 7
     else if code = 10 then 10 else if code = 12 then 11 else if code = 14 then 12 else 15)
  else (if code = 2 then 2 else if code = 4 then 4 else if code = 8 then 6 else if code = 11 then 9 else 15)

/-- The grade of an ESMC PDU (R108). -/
def esmcGrade (optionII : Bool) (ssm : Nat) (essm : Option Nat) : Nat :=
  match essm with
  | some e =>
    if e = 0x21 then 0 else if e = 0x20 ∨ e = 0x23 then 1 else if e = 0x22 then 8 else if e = 0xFF then ssmGrade optionII ssm else 15
  | none => ssmGrade optionII ssm

/-- A valid, accepted grading message of a kind (R106). -/
def State.graded (s : State) (n kind g : Nat) : State :=
  (s.setInput n { s.input n with msgs := tblPut (s.input n).msgs kind (g, s.counter) }).regrade n 0

/-! ### Stamps (R93, R119) -/

/-- The place of a stamp in tick / 1024: the raw conversion corrected by the channel's linearity table (R290), less the factory
delay of the path and the user's input delay (R93). 1 ps is 1.3824 of the unit. -/
def State.stampPlace (s : State) (n count vernier : Nat) : Int :=
  (count : Int) * 1024 + vernier + tblGet s.factory.linear 0 (s.channelPhys n * 1024 + vernier) -
    (tblGet s.factory.inputDelay 0 n + s.attr Attr.input_delay n) * 13824 / 10000

/-- The place of a stamp as the monitors judge it: on a feedback channel counted in the time of the synthesiser's own DPLL, so
that a stamp compares with the commanded frequency (R202). -/
def State.monitorPlace (s : State) (n count : Nat) (place : Int) : Int :=
  let dpll := s.attrN Attr.syn_dpll_active (n - 28)
  if 28 ≤ n ∧ dpll < 16 then
    place + ((s.dpll dpll).wordSum + s.attr Attr.dpll_freq_word dpll * ((count : Int) - (s.dpll dpll).wordSince)) * 1024 / 1000000000000000000
  else place

/-- The distance of two stamps in tick / 1024, as a fraction (R98). -/
def State.stampPlaces (s : State) (n : Nat) : Nat × Nat := ((s.stampPeriod n).1 * ticksPerSecond * 1024, (s.stampPeriod n).2)

/-- Whether an input's phase counts modulo its expected period (R100): PPS, VIDEO and LTC are judged in full. -/
def State.modular (s : State) (n : Nat) : Bool :=
  match s.inputType n with
  | .pps => false
  | .video => false
  | .ltc => false
  | _ => true

/-- The number of a stamp at a place, in expected periods: the nearest to the stamp before where the phase counts modulo the
period, one more where it is judged in full (log entry 78). -/
def State.stampNumber (s : State) (n : Nat) (place : Int) : Int :=
  match (s.input n).held with
  | [] => 0
  | (x, p) :: _ => x + (if s.modular n then roundQuot ((place - p) * (s.stampPlaces n).2) (s.stampPlaces n).1 else 1)

/-- Whether a stamp departs from the prediction of a fit by more than `phase_jump_limit` (R100). -/
def State.departs (s : State) (n : Nat) (f : LineFit) (p : Int × Int) : Bool :=
  let period := s.stampPlaces n
  let d := f.residual p * period.2
  let e := if s.modular n then wrapHalf d (period.1 * f.d) else d
  decide ((s.attrN Attr.input_phase_jump_limit n : Int) * 13824 * f.d * period.2 < e.natAbs * 10000)

/-! ### Hardware monitors (R97 to R103) -/

/-- When the loss-of-signal monitor fails without another edge: `los_edges` expected periods and 20 ns after the last (R98). -/
def State.losAt (s : State) (n : Nat) : Nat :=
  (s.input n).losFrom + s.attrN Attr.input_los_edges n * (s.expectedPeriod n).1 * ticksPerSecond / (s.expectedPeriod n).2 + 27

/-- When the frequency gate in progress ends (R99). -/
def State.gateAt (s : State) (n : Nat) : Nat := (s.input n).gateStart + s.attrN Attr.input_freq_gate n * 135000000

/-- When a soak in progress ends (R103). -/
def State.soakAt (s : State) (n : Nat) : Nat := (s.input n).soakFrom + s.attrN Attr.input_soak_time n * ticksPerSecond

/-- The loss-of-signal monitor fails (R98, R123). -/
def State.loseSignal (s : State) (n : Nat) : State :=
  if bitOf (s.failing n) 0 then s else (s.raise (evInput n 0) true).verdict n 0 true

/-- An edge, or what counts as one, reaches the loss-of-signal monitor (R98, R99): after a loss it passes, the frequency verdict
is FAIL and a new gate starts at this edge. On a feedback channel no verdict forms while it is suppressed (R202). -/
def State.signalEdge (s : State) (n count : Nat) : State :=
  let t := s.setInput n { s.input n with losFrom := count }
  if bitOf (s.failing n) 0 && !s.suppressed n then
    let u := (t.setInput n { (t.input n).forget count with freqPass := false }).uncause (evInput n 0)
    (u.verdict n 1 true).verdict n 0 false
  else t

/-- The divider of an input restarts at a change of its pre-division or nominal frequency (R94, R98): an edge counts as stamped
on this tick, and what the monitors hold of its phase starts anew (R100). -/
def State.renominal (s : State) (n : Nat) : State :=
  if s.inputOn n then (s.setInput n ((s.input n).forget s.counter)).signalEdge n s.counter else s

/-- A stamp fails the phase-jump monitor (R100): the fit is discarded and rebuilt from the stamps that follow. -/
def State.jumpFails (s : State) (n : Nat) : State :=
  (s.setInput n { s.input n with fit := none, clean := false }).verdict n 2 true

/-- One stamp of an input (R93, R99, R100): it is counted, joins the gate in progress and the phase data, and is judged against
the fit of the gate before, if there is one: before the first full gate, and until the next after a loss of signal, there is
none (log entry 78). -/
def State.takeStamp (s : State) (n count : Nat) (place : Int) : State :=
  let q := s.monitorPlace n count place
  let p := (s.stampNumber n q, q)
  let r := s.input n
  let t := (s.add Attr.input_stamps n 0 1).setInput n { r with
    lastStamp := some (count, place)
    prevStamp := r.lastStamp
    gate := p :: r.gate
    held := (p :: r.held).filter fun e => decide (q - 3600 * ticksPerSecond * 1024 ≤ e.2) }
  match r.fit with
  | some f => if !s.suppressed n && s.departs n f p then t.jumpFails n else t
  | none => t

/-- The mean fractional frequency of the gate in progress, as a fraction (R99): its stamps against the time that they take, from
the last stamp before the gate on where there is one. None without two stamps. -/
def State.gateOffset (s : State) (n : Nat) : Option (Int × Int) :=
  let r := s.input n
  let first := match r.anchor with
    | some p => some (p, r.gate.length)
    | none => r.gate.getLast?.map fun e => (e.2, r.gate.length - 1)
  match r.gate.head?, first with
  | some l, some (p, k) =>
    let whole : Int := (l.2 - p) * (s.stampPlaces n).2
    if 0 < whole ∧ 0 < k then some ((k : Int) * (s.stampPlaces n).1 - whole, whole) else none
  | _, _ => none

/-- The verdict of a gate (R99): with the hysteresis of `freq_enter` and `freq_leave`, in 0.01 ppm. -/
def State.gatePasses (s : State) (n : Nat) : Bool :=
  match s.gateOffset n with
  | some (x, y) =>
    if (s.input n).freqPass then decide ((x.natAbs : Int) * 100000000 ≤ s.attr Attr.input_freq_leave n * y)
    else decide ((x.natAbs : Int) * 100000000 < s.attr Attr.input_freq_enter n * y)
  | none => false

/-- The fit over the gate in progress, where it predicts every stamp of that gate (R100). -/
def State.gateFit (s : State) (n : Nat) : Option LineFit :=
  match lineFit (s.input n).gate with
  | some f => if (s.input n).gate.all fun p => !s.departs n f p then some f else none
  | none => none

/-- The next gate (R99, R100): the fit of the gate that ends predicts its stamps, unless the phase-jump monitor fails. -/
def State.nextGate (s : State) (n : Nat) : State :=
  let r := s.input n
  let fit := if !bitOf (s.failing n) 2 then lineFit r.gate else if r.clean then s.gateFit n else none
  s.setInput n { r.newGate (s.gateAt n) with fit := fit, anchor := r.gate.head?.map (·.2) }

/-- LOS_TIMEOUT (R98, R123, R457): no edge for `los_edges` expected periods; suspended while a failed channel waits for its
spare. -/
def execLosTimeout (n : Fin 36) (s : State) : Host.Outcome State Fault Refusal :=
  .next (s.when_ (s.timing && s.inputOn n.val && !s.suppressed n.val && !(s.channel n.val).failed && !bitOf (s.failing n.val) 0) fun t =>
    (t.advance (t.losAt n.val)).loseSignal n.val)

/-- FREQ_GATE_COMPLETE (R99 to R101): the gate in progress ends and the next begins; on a suppressed feedback channel without a
verdict (R202). -/
def execFreqGateComplete (n : Fin 36) (s : State) : Host.Outcome State Fault Refusal :=
  .next (s.when_ (s.timing && s.inputOn n.val) fun s0 =>
    let t := s0.advance (s0.gateAt n.val)
    if t.suppressed n.val then t.setInput n.val { (t.input n.val).newGate (t.gateAt n.val) with clean := false }
    else
      let pass := t.gatePasses n.val
      let fits := (t.input n.val).clean && (t.gateFit n.val).isSome
      let u := t.nextGate n.val
      let v := u.setInput n.val { u.input n.val with freqPass := pass }
      let w := match t.gateOffset n.val with
        | some (x, y) => v.put1 Attr.input_freq_offset n.val (clampInt (-2147483647) 2147483647 (roundQuot (x * 1000000000000000) y))
        | none => v
      (if fits then w.verdict n.val 2 false else w).verdict n.val 1 (!pass))

/-- SOAK_EXPIRY (R103, R131, R51): the soak runs out and the input becomes QUALIFIED. -/
def execSoakExpiry (n : Fin 36) (s : State) : Host.Outcome State Fault Refusal :=
  .next (s.when_ (s.timing && s.attr Attr.input_qual_state n.val == QualState.soaking.code) fun s0 =>
    let t := s0.advance (s0.soakAt n.val)
    let u := ((t.put1 Attr.input_qual_state n.val QualState.qualified.code).uncause (evInput n.val 1)).sourceReturned n.val
    if u.attr Attr.ext_input = n.val then u.extJoin else u)

/-! ### Firmware monitors -/

/-- The mean frequency of the second that ends now, in 10^-18 (R102), none without a stamp in it. -/
def State.secondMean (s : State) (n : Nat) : Option Int :=
  match (s.input n).second, (s.input n).lastStamp with
  | some (p, k), some (_, q) =>
    let whole : Int := (q - p) * (s.stampPlaces n).2
    let x : Int := (s.attr Attr.input_stamps n - k) * (s.stampPlaces n).1
    if 0 < whole then some (roundQuot ((x - whole) * 1000000000000000000) whole) else none
  | _, _ => none

/-- The averages of a drift evaluation (R102): one for each second, at its middle. -/
def State.noteSecond (s : State) (n : Nat) : State :=
  let r := s.input n
  let k : Nat := r.secs + 1
  let avgs := match s.secondMean n with
    | some y => (2 * (k : Int) - 1, y) :: r.avgs
    | none => r.avgs
  s.setInput n { r with
    secs := if r.second.isSome then k else r.secs
    avgs := (if r.second.isSome then avgs else []).filter fun e => decide (2 * (k : Int) - 7201 ≤ e.1)
    second := r.lastStamp.map fun e => (e.2, s.attrN Attr.input_stamps n) }

/-- The fit of R102 over the averages of the last `drift_time`, once that much is held. -/
def State.driftFit (s : State) (n : Nat) : Option LineFit :=
  let r := s.input n
  let w := s.attrN Attr.input_drift_time n
  if r.secs < w then none else lineFit (r.avgs.filter fun e => decide (2 * ((r.secs : Int) - w) < e.1))

/-- Whether a drift condition of R102 holds for a fit: of its slope, or of where it runs within the horizon. -/
def State.drifting (s : State) (n : Nat) (f : LineFit) : Bool :=
  let h : Int := s.attr Attr.input_drift_horizon n
  let leave : Int := s.attr Attr.input_freq_leave n * 10000000000 * f.d
  let now : Int := f.a + f.b * (2 * (s.input n).secs)
  decide (s.attr Attr.input_drift_limit n * 1000000 * f.d < (2 * f.b).natAbs) ||
    (decide (h ≠ 0) && decide ((now.natAbs : Int) ≤ leave) && decide (leave < ((now + 2 * f.b * h).natAbs : Int)))

/-- DRIFT_EVALUATION (R102, R131, R170): every 1 s. -/
def execDriftEvaluation (n : Fin 36) (s : State) : Host.Outcome State Fault Refusal :=
  .next (s.when_ (s.control && s.monitored n.val) fun s0 =>
    let t := s0.noteSecond n.val
    match t.driftFit n.val with
    | none => t
    | some f =>
      let on := t.drifting n.val f
      let r := t.input n.val
      let u := (t.put1 Attr.input_freq_trend n.val (clampInt (-2147483647) 2147483647 (roundQuot (2 * f.b) (1000 * f.d)))).setInput n.val
        { r with driftClear := if on then 0 else r.driftClear + 1 }
      if on then
        (if bitOf (t.failing n.val) 4 then u
         else ((u.verdict n.val 4 true).raise (evInput n.val 2) true).guardDrift n.val)
      else if bitOf (t.failing n.val) 4 && decide (t.attrN Attr.input_drift_time n.val ≤ r.driftClear + 1) then
        ((u.verdict n.val 4 false).uncause (evInput n.val 2)).driftCleared n.val
      else u)

/-- The phase data that the wander monitor judges: those held within the last `tie_window` (R100). -/
def State.wanderData (s : State) (n : Nat) : List (Int × Int) :=
  (s.input n).held.filter fun e => decide (((s.counter : Int) - s.attrN Attr.input_tie_window n * ticksPerSecond) * 1024 ≤ e.2)

/-- Whether the phase about one mean frequency exceeds `tie_limit` peak to peak, with 10 s of data held (R100). -/
def State.wanders (s : State) (n : Nat) : Bool :=
  let data := s.wanderData n
  match data.head?, data.getLast?, lineFit data with
  | some l, some f, some g =>
    decide (10 * ticksPerSecond * 1024 ≤ l.2 - f.2) && decide (s.attr Attr.input_tie_limit n * 13824 * g.d < g.spread data * 10000)
  | _, _, _ => false

/-- WANDER_EVALUATION (R100). -/
def execWanderEvaluation (n : Fin 36) (s : State) : Host.Outcome State Fault Refusal :=
  .next (s.when_ (s.control && s.monitored n.val) fun t => t.verdict n.val 3 (t.wanders n.val))

/-- MSG_TIMEOUT (R106): no valid grading message within `msg_timeout`. -/
def execMsgTimeout (n : Fin 36) (s : State) : Host.Outcome State Fault Refusal :=
  let k := s.attrN Attr.input_grade_source n.val
  .next (match tblFind (s.input n.val).msgs k with
    | some (_, tick) => s.when_ (s.control && s.monitored n.val) fun t0 =>
        let t := t0.advance (tick + t0.attrN Attr.input_msg_timeout n.val * ticksPerSecond)
        (t.setInput n.val { t.input n.val with msgs := tblDrop (t.input n.val).msgs k }).regrade n.val 1 (k != 0)
    | none => s)

/-- ESMC_PDU_RECEIVED (R92, R107, R108): a valid PDU at a port grades its SYNCE input; one without the extended TLV leaves the
cascade counts as they read (log entry 80). -/
def execEsmcPduReceived (port : Fin 4) (ssm : Fin 16) (extended : Option (Nat × Nat × Nat)) (s : State) :
    Host.Outcome State Fault Refusal :=
  let n := 22 + port.val
  .next (s.when_ (s.control && s.inputOn n) fun t =>
    let u := t.put1 Attr.input_ssm_rx n ssm.val
    let v := match extended with
      | some (code, eeec, eec) =>
        (u.put1 Attr.input_essm_rx n ((code % 256 : Nat) : Int)).put1 Attr.input_essm_cascade n ((eeec % 256 * 256 + eec % 256 : Nat) : Int)
      | none => u.put1 Attr.input_essm_rx n 255
    v.graded n 1 (esmcGrade (v.attr Attr.input_ssm_option n == 1) ssm.val (extended.map (·.1))))

/-! ### ToD companions (R110 to R117) -/

/-- The input that a receiver is attached to (R111). -/
def State.companion (s : State) (rx : Nat) : Option Nat :=
  (List.range 16).find? fun n => s.attr Attr.input_tod_rx n == (rx + 1 : Nat) && decide (s.inputType n = .pps) && s.inputOn n

/-- A receiver error is counted (R113, R115 to R117, R123): the quality event at most once a second. -/
def State.rxError (s : State) (n k : Nat) : State :=
  let t := s.add Attr.input_rx_errors n k 1
  t.raiseOnce (evInput n 3) (2 * 4096 + t.attrN Attr.input_grade n)

/-- The majority of three samples of a character, by their number after start sample 0 (R112). -/
def sampleVote (samples : List Bool) (k : Nat) : Bool :=
  decide (2 ≤ ([k, k + 1, k + 2].filter fun i => samples.getD i true).length)

/-- The value of a character: data bit i is the vote of samples 16 i + 7 to 16 i + 9 (R112). -/
def sampledChar (samples : List Bool) : Nat :=
  ((List.range 8).map fun i => if sampleVote samples (16 * (i + 1) + 7) then 2 ^ i else 0).sum

/-- One sample of a receiver's line (R112), and whether it ends a character with a framing error. Idle, a low sample after a
high one is start sample 0; a high sample 8 is a false start; the stop bit is the vote of samples 150 to 152, and start
detection is re-armed at sample 152, which may itself be the next start sample 0. -/
def Uart.sample (u : Uart) (x : Bool) : Uart × Bool :=
  let start : Option (List Bool) := if u.prev && !x then some [x] else none
  match u.taken with
  | none => ({ u with prev := x, taken := start }, false)
  | some l =>
    if l.length = 8 ∧ x = true then ({ u with prev := x, taken := none }, false)
    else if l.length = 152 then
      let all := (x :: l).reverse
      if sampleVote all 150 then ({ prev := x, taken := start, chars := u.chars ++ [sampledChar all] }, false)
      else ({ u with prev := x, taken := start }, true)
    else ({ u with prev := x, taken := some (x :: l) }, false)

/-- A run of samples of a receiver's line, and the framing errors in it. -/
def Uart.run (u : Uart) : List Bool → Uart × Nat
  | [] => (u, 0)
  | x :: xs =>
    let (v, bad) := u.sample x
    let (w, k) := v.run xs
    (w, k + boolNat bad)

/-- A receiver takes the samples up to the end of a message (R112, R113): each character discarded for a framing error counts on
its input, with the quality event at most once a second; the message's characters are used up with it. -/
def State.receive (s : State) (rx : Nat) (samples : List Bool) : State :=
  let (u, k) := (s.uart rx).run samples
  let t := s.setUart rx { u with chars := [] }
  match s.companion rx with
  | some n =>
    if k = 0 then t
    else
      let v := t.add Attr.input_rx_errors n 0 k
      v.raiseOnce (evInput n 3) (2 * 4096 + v.attrN Attr.input_grade n)
  | none => t

/-- A label is accepted for an edge (R116, R158). -/
def State.acceptLabel (s : State) (n : Nat) (sec : Int) (edge : Nat) (place : Int) : State :=
  (s.setInput n { s.input n with sequence := some (sec, edge), newSeq := none, label := some (sec, place, s.counter) }).labelArrived n sec place

/-- Whether a labelled time keeps the sequence (R117). -/
def keepsSequence (prev : Option (Int × Nat)) (sec : Int) (edge : Nat) : Bool :=
  match prev with
  | none => true
  | some (t, e) => if edge = e then decide (sec = t) else decide (sec = t + 1)

/-- The candidate new sequence after a message that breaks the old one (R117). -/
def nextCandidate (c : Option (Int × Nat × Nat)) (sec : Int) (edge : Nat) : Int × Nat × Nat :=
  match c with
  | some (t, e, k) =>
    if edge = e ∧ sec = t then (t, e, k)
    else if edge = e + 1 ∧ sec = t + 1 then (sec, edge, k + 1)
    else (sec, edge, 1)
  | none => (sec, edge, 1)

/-- A labelled time meets the sequence of R117: whether it is accepted, and the state after it. -/
def State.takeLabel (s : State) (n : Nat) (sec : Int) (edge : Nat) (place : Int) : Bool × State :=
  let r := s.input n
  if keepsSequence r.sequence sec edge then (true, s.acceptLabel n sec edge place)
  else
    let c := nextCandidate r.newSeq sec edge
    if 3 ≤ c.2.2 then (true, (s.acceptLabel n sec edge place).quality n 4)
    else (false, (s.setInput n { r with newSeq := some c }).rxError n 2)

/-- The domain time that an NMEA UTC time names (R116), none where it is impossible: by the offset and the leap state of
`time_domain`; 23:59:60 only where the labelled edge, at the domain time `edge`, falls within an inserted second. -/
def State.utcToDomain (s : State) (d : Nat) (edge : Int) (c : CivilTime) : Option Int :=
  let u := civilSeconds c
  if !dateFieldsOk c.year c.month c.day || !dateExists c.year c.month c.day then none
  else if timeFieldsOk c.hour c.minute c.second then some (secondsOf (s.utcInstant d u))
  else if c.hour = 23 ∧ c.minute = 59 ∧ c.second = 60 ∧ s.leapOf d = .insert ∧ u = s.leapS d ∧ s.inInserted d edge = true then
    some (u + s.attr Attr.domain_utc_offset d)
  else none

/-- The century that places a two-digit year nearest a domain's time (R116). -/
def State.resolveYear (s : State) (d : Nat) (c : CivilTime) : CivilTime :=
  let now := s.utcHeld d (s.domNow d)
  let base := 1900 + c.year % 100
  let dist (y : Nat) : Nat := (civilSeconds { c with year := y } - now).natAbs
  let best := ((List.range 82).map fun k => base + 100 * k).foldl (fun b y => if dist y < dist b then y else b) base
  { c with year := best }

/-- The seconds that a labelling message gives the edge at a place (R115, R116), none where its time is impossible. -/
def State.labelSeconds (s : State) (n : Nat) (m : LabelMsg) (place : Int) : Option Int :=
  let d := s.attrN Attr.input_time_domain n
  match m.civil with
  | none => some m.seconds
  | some c => s.utcToDomain d (s.domTimeAt d place) (if m.short then s.resolveYear d c else c)

/-- A labelling message meets its edge (R116, R117): its time is accepted or counted as an error, and it grades the input. -/
def State.labelEdge (s : State) (n : Nat) (m : LabelMsg) (edge : Nat) (place : Int) : State :=
  match s.labelSeconds n m place with
  | none => s.rxError n 3
  | some x =>
    let (ok, t) := s.takeLabel n x edge place
    match ok, m.grade with
    | true, some (kind, g) => t.graded n kind g
    | _, _ => t

/-- The stamps that a message may label under PRECEDING, the latest first, with their numbers since enable. -/
def State.lastStamps (s : State) (n : Nat) : List (Nat × Int) :=
  let k := s.attrN Attr.input_stamps n
  ((s.input n).lastStamp.map fun e => (k, e.2)).toList ++ ((s.input n).prevStamp.map fun e => (k - 1, e.2)).toList

/-- Whether a message whose first start bit falls at a counter value lies 1 ms to 900 ms after an edge (R116). -/
def inLabelWindow (start : Nat) (place : Int) : Bool :=
  let gap : Int := (start : Int) * 1024 - place
  decide (1350000 * 1024 ≤ gap) && decide (gap ≤ 1215000000 * 1024)

/-- A labelling message of a receiver (R115, R116): under PRECEDING it labels the latest edge before its first start bit; under
FOLLOWING it waits for the next. -/
def State.labelMessage (s : State) (n : Nat) (timing : LabelTiming) (m : LabelMsg) : State :=
  if !timing.checksumOk then s.rxError n 1
  else if s.attr Attr.input_tod_label n = 0 then
    match (s.lastStamps n).find? fun e => decide (e.2 ≤ (timing.start : Int) * 1024) with
    | some (edge, place) => if inLabelWindow timing.start place then s.labelEdge n m edge place else s.rxError n 2
    | none => s.rxError n 2
  else s.setInput n { s.input n with following := (s.input n).following ++ [m] }

/-- The edge at a place is the next one for the messages that wait under FOLLOWING (R116): each must have ended 100 ms before
it. -/
def State.labelNext (s : State) (n : Nat) (place : Int) : State :=
  let t := s.setInput n { s.input n with following := [] }
  if !s.control then t
  else (s.input n).following.foldl (fun u m =>
    if ((m.stop : Int) + 135000000) * 1024 ≤ place then u.labelEdge n m (u.attrN Attr.input_stamps n) place else u.rxError n 2) t

/-- INPUT_EDGE (R93, R98 to R100, R116, R119): one edge is stamped, with its frame mark. An edge of an LTC input is a transition
of its signal, which only the loss-of-signal monitor counts: its stamps are the frame boundaries (R98, R120). -/
def execInputEdge (n : Fin 36) (count vernier : Nat) (frameStart : Bool) (s : State) : Host.Outcome State Fault Refusal :=
  .next (s.when_ (s.timing && s.inputOn n.val && !s.channelDown n.val) fun t =>
    let u := t.signalEdge n.val count
    if u.inputType n.val = .ltc then u
    else
      let place := u.stampPlace n.val count vernier
      let v := u.takeStamp n.val count place
      let w := if frameStart && decide (u.inputType n.val = .video) then v.setInput n.val { v.input n.val with frameStart := some place } else v
      w.labelNext n.val place)

/-- TIME_EVENT_MESSAGE (R106, R112, R115 to R117): a G.8271 time event labels an edge and grades nothing. -/
def execTimeEventMessage (rx : Fin 2) (timing : LabelTiming) (seconds : Nat) (s : State) : Host.Outcome State Fault Refusal :=
  .next (s.when_ s.control fun t0 =>
    let t := t0.receive rx.val timing.samples
    match t.companion rx.val with
    | some n =>
      t.when_ (t.attr Attr.input_tod_protocol n == 0) fun u => u.labelMessage n timing
        { civil := none, seconds := (seconds : Int), short := false, grade := none, stop := timing.stop }
    | none => t)

/-- The grade of a time announce message (R110). -/
def todGrade (status : TodStatus) (cls acc : Option Nat) : Nat :=
  match cls with
  | some c => announceGrade c (acc.getD 0xFE)
  | none => match status with
    | .prtcLocked => 1
    | .holdoverIn => 4
    | .holdoverOut => 11
    | .freeRunning => 14
    | .other => 15

/-- TIME_ANNOUNCE_MESSAGE (R80, R106, R110, R112, R115, R116). -/
def execTimeAnnounceMessage (rx : Fin 2) (checksumOk : Bool) (samples : List Bool) (status : TodStatus) (clockClass accuracy : Option Nat)
    (utc : UtcFields) (s : State) : Host.Outcome State Fault Refusal :=
  .next (s.when_ s.control fun t0 =>
    let t := t0.receive rx.val samples
    match t.companion rx.val with
    | some n =>
      t.when_ (t.attr Attr.input_tod_protocol n == 0) fun u =>
        if !checksumOk then u.rxError n 1
        else
          let v := u.graded n 2 (todGrade status clockClass accuracy)
          v.forEach (v.domainsOn n) fun w d => w.learnUtc d utc
    | none => t)

/-- A sentence of NMEA 0183 that labels an edge (R110, R115 to R117): it grades the input as NMEA. -/
def State.nmea (s : State) (rx : Nat) (timing : LabelTiming) (civil : CivilTime) (short good : Bool) : State :=
  s.when_ s.control fun t0 =>
    let t := t0.receive rx timing.samples
    match t.companion rx with
    | some n =>
      t.when_ (t.attr Attr.input_tod_protocol n == 1) fun u => u.labelMessage n timing
        { civil := some civil, seconds := 0, short := short
          grade := some (3, if good then u.attrN Attr.input_assigned_grade n else 15), stop := timing.stop }
    | none => t

/-- NMEA_ZDA (R110, R115 to R117). -/
def execNmeaZda (rx : Fin 2) (timing : LabelTiming) (civil : CivilTime) (s : State) : Host.Outcome State Fault Refusal :=
  .next (s.nmea rx.val timing civil false true)

/-- NMEA_RMC (R110, R115 to R117): its two-digit year is resolved against `time_domain`, and status V grades 15. -/
def execNmeaRmc (rx : Fin 2) (timing : LabelTiming) (civil : CivilTime) (statusA : Bool) (s : State) :
    Host.Outcome State Fault Refusal :=
  .next (s.nmea rx.val timing civil true statusA)

/-! ### Video and LTC (R118 to R121) -/

/-- The format monitor of a video input (R118): a detected format that `vsync_expect` does not accept, or none. -/
def State.judgeFormat (s : State) (x : Nat) : State :=
  let f := s.attr Attr.input_vsync_format x
  let want := s.attr Attr.input_vsync_expect x
  s.verdict x 6 (f == 0 || (want != 0 && want != f))

/-- VIDEO_FORMAT_DETECTED (R118): code 0 is an undetectable signal. -/
def execVideoFormatDetected (n : Fin 4) (format : Fin 17) (s : State) : Host.Outcome State Fault Refusal :=
  let x := 16 + n.val
  .next (s.when_ (s.control && s.inputOn x) fun t =>
    let changed := t.attr Attr.input_vsync_format x != (format.val : Int)
    let r := t.input x
    let u := (t.setInput x { r with lastFormat := if format.val = 0 then r.lastFormat else format.val }).put1 Attr.input_vsync_format x format.val
    let v := u.judgeFormat x
    if changed then (v.requalify x).quality x 3 else v)

/-- The frames of a second that an `ltc_rate` counts (R120). -/
def ltcFrames (rate : Nat) : Nat := if rate = 1 then 24 else if rate = 2 then 25 else 30

/-- Whether a frame number is one that drop-frame counting skips (R121, R229). -/
def dropped (rate minute second frame : Nat) : Bool :=
  decide (rate = 3) && decide (second = 0) && decide (frame < 2) && decide (minute % 10 ≠ 0)

/-- The UTC time of a local time by a domain's time zone table (R83, R120): with the offset in force at that time; where two
offsets give the time or none does, the one in force now if it gives it, else the later one, and the one in force now where
none does (log entry 79). -/
def State.localToUtc (s : State) (d : Nat) (l : Int) : Int :=
  let es := s.tzEntries d
  let utc (k : Nat) : Int := l - (if k = 0 then s.attr Attr.domain_tz_base_offset d else tzOffset (es.getD (k - 1) 0))
  let fits := (List.range (es.length + 1)).filter fun k => tzReached es (utc k) == k
  if fits = [] ∨ (s.dom d).tzIndex ∈ fits then utc (s.dom d).tzIndex else utc (fits.getLastD 0)

/-- The domain time that an LTC frame names (R120): with ST309 its own date, else the date of `time_domain`; with LOCAL through
the time zone table. -/
def State.ltcTime (s : State) (x : Nat) (c : CivilTime) : Option Int :=
  let d := s.attrN Attr.input_time_domain x
  let localBase := s.attr Attr.input_ltc_timebase x = 1
  let today := civilOfSeconds (s.utcHeld d (s.domNow d) + (if localBase then s.offsetAt d (s.utcHeld d (s.domNow d)) else 0))
  let e : CivilTime :=
    if s.attr Attr.input_ltc_date_mode x = 1 then s.resolveYear d c else { c with year := today.year, month := today.month, day := today.day }
  if !dateFieldsOk e.year e.month e.day || !dateExists e.year e.month e.day || !timeFieldsOk e.hour e.minute e.second then none
  else some (secondsOf (s.utcInstant d (if localBase then s.localToUtc d (civilSeconds e) else civilSeconds e)))

/-- A discarded LTC frame (R121). -/
def State.ltcDiscard (s : State) (x : Nat) : State :=
  let r := s.input x
  let w := s.attrN Attr.input_ltc_discard_w x * ticksPerSecond
  let recent := s.counter :: r.discards.filter fun t => decide (s.counter < t + w)
  let t := (s.setInput x { r with discards := recent }).rxError x 3
  if s.attrN Attr.input_ltc_discard_n x ≤ recent.length then t.verdict x 6 true else t

/-- What firmware makes of a decoded LTC frame (R120, R121): its rate, its date and time zone code, and its time at the boundary. -/
def State.ltcDecoded (s : State) (x rate : Nat) (civil : CivilTime) (frame zone : Nat) (place : Int) : State :=
  let t := if s.attr Attr.input_ltc_rate x = (rate : Int) then s else (s.put1 Attr.input_ltc_rate x rate).quality x 3
  if decide (ltcFrames rate ≤ frame) || dropped rate civil.minute civil.second frame then t.ltcDiscard x
  else match t.ltcTime x civil with
    | none => t.ltcDiscard x
    | some sec => t.setInput x { t.input x with
        ltcZone := if t.attr Attr.input_ltc_date_mode x = 1 then some zone else none
        ltcTime := some (sec, frame, place) }

/-- LTC_FRAME_DECODED (R120, R121): hardware stamps the frame boundary, and firmware takes the frame's rate and time. -/
def execLtcFrameDecoded (n : Fin 2) (rate : Fin 6) (civil : CivilTime) (frame : Nat) (zone : Fin 64) (count vernier : Nat) (s : State) :
    Host.Outcome State Fault Refusal :=
  let x := 20 + n.val
  .next (s.when_ (s.timing && s.inputOn x && !s.channelDown x) fun t =>
    let place := t.stampPlace x count vernier
    let u := t.takeStamp x count place
    if t.control then u.ltcDecoded x rate.val civil frame zone.val place else u)

/-- LTC_DISCARD_WINDOW_CLEAR (R121): a full `ltc_discard_w` has passed without a discard. -/
def execLtcDiscardWindowClear (n : Fin 2) (s : State) : Host.Outcome State Fault Refusal :=
  let x := 20 + n.val
  .next (s.when_ (s.control && s.inputOn x) fun t0 =>
    let t := match (t0.input x).discards with
      | last :: _ => t0.advance (last + t0.attrN Attr.input_ltc_discard_w x * ticksPerSecond)
      | [] => t0
    (t.setInput x { t.input x with discards := [] }).verdict x 6 false)

end Sys2Proof.Machine
end

