-- ==== Sys2Proof/Machine/Syn.lean ====
section
/-! DEFINITION. Synthesisers and outputs (R181 to R211): settings and their limits, the states of a synthesiser, commit
groups, gating, starting and stopping of outputs, the stepper and driver faults. -/

namespace Sys2Proof.Machine

/-! ### Settings and their limits (R182, R187) -/

/-- What R187 limits of an output: `out_mode` PULSE, the divider, the pulse rate as a fraction in Hz and the width in ns. -/
structure OutSetting where
  pulse : Bool
  divider : Nat
  num : Nat
  den : Nat
  width : Nat
deriving DecidableEq, Repr

/-- The pending setting of an output (R195). -/
def State.pendingSetting (s : State) (o : Nat) : OutSetting :=
  { pulse := s.attr Attr.output_out_mode o == 1, divider := s.attrN Attr.output_divider o
    num := s.attrN Attr.output_pulse_num o, den := s.attrN Attr.output_pulse_den o, width := s.attrN Attr.output_pulse_width o }

/-- The active setting of an output. -/
def State.activeSetting (s : State) (o : Nat) : OutSetting :=
  let r := s.outp o
  { pulse := r.pulse, divider := s.attrN Attr.output_divider_active o, num := r.num, den := r.den, width := r.width }

/-- The ratio of a synthesiser lies from 20 to 24 (R182). -/
def ratioOk (v : Nat × Nat) : Bool := decide (20 * v.2 ≤ v.1) && decide (v.1 ≤ 24 * v.2)

/-- The pending ratio of a synthesiser. -/
def State.pendingRatio (s : State) (n : Nat) : Nat × Nat := (s.attrN Attr.syn_vco_num n, s.attrN Attr.syn_vco_den n)

/-- The frequency word that a synthesiser takes (R182, R183): 0 with NONE. -/
def State.synWord (s : State) (n : Nat) : Int :=
  if s.attrN Attr.syn_dpll_active n < 16 then s.attr Attr.dpll_freq_word (s.attrN Attr.syn_dpll_active n) else 0

/-- f_VCO in Hz as an exact fraction (R182): 540 MHz × (`vco_num` / `vco_den`) × (1 + y), of the active ratio. -/
def State.vcoFrequency (s : State) (n : Nat) : Int × Int :=
  (540000000 * (s.activeRatio n).1 * (1000000000000000000 + s.synWord n), (s.activeRatio n).2 * 1000000000000000000)

/-- Nominal f_VCO in mHz (R182, R207), rounded. -/
def vcoMilli (v : Nat × Nat) : Nat := (2 * 540000000000 * v.1 + v.2) / (2 * v.2)

/-- The highest CLOCK frequency of a driver in Hz (R187). -/
def driverLimit (driver : Nat) : Nat := [1000000000, 400000000, 1600000000, 1600000000, 250000000].getD driver 0

/-- The retiming periods in one pulse period, as a fraction (R187). -/
def pulseRatio (v : Nat × Nat) (x : OutSetting) : Nat × Nat := (540000000 * v.1 * x.den, v.2 * x.divider * x.num)

/-- The retiming periods in a pulse, rounded down with a minimum of one (R187). -/
def widthPeriods (v : Nat × Nat) (x : OutSetting) : Nat := max 1 (x.width * 540000000 * v.1 / (1000000000 * v.2 * x.divider))

/-- Whether a setting keeps the limits of R187 on a synthesiser's ratio and a driver. -/
def settingOk (v : Nat × Nat) (driver : Nat) (x : OutSetting) : Bool :=
  if x.pulse then
    let r := pulseRatio v x
    decide (540000000 * v.1 ≤ 250000000 * v.2 * x.divider) && decide (x.den ≤ 2 * x.num) && decide (x.num ≤ 1000 * x.den) &&
      r.1 % r.2 == 0 && decide (widthPeriods v x < r.1 / r.2)
  else decide (540000000 * v.1 ≤ driverLimit driver * v.2 * x.divider)

/-- The output or pulse rate at y = 0 in µHz, rounded (R209). -/
def State.freqActive (s : State) (o : Nat) : Nat :=
  let x := s.activeSetting o
  let v := s.activeRatio (o / 4)
  if x.pulse then (2 * 1000000 * x.num + x.den) / (2 * x.den)
  else (2 * 540000000000000 * v.1 + v.2 * x.divider) / (2 * v.2 * x.divider)

/-- Whether an output whose synthesiser follows a DPLL code has a domain for a PULSE grid (R187). -/
def State.pulseDomain (s : State) (dpll : Nat) : Bool := (s.boundDom dpll).isSome

/-! ### Running, gating and the state of an output (R185, R189, R199 to R201) -/

/-- The ports that use the tap of SYNn (R184, R250): bit p for ETHp. -/
def State.tapUsers (s : State) (n : Nat) : Nat :=
  ((List.range 4).map fun p => if s.flag Attr.port_enable p && s.attr Attr.port_ref_syn p == n then 2 ^ p else 0).sum

/-- Whether `run_cond` lets a signal run in a state of its DPLL (R200); NONE counts as FREE-RUN and never was LOCKED. -/
def State.runs (s : State) (c : RunCond) (dpll : Nat) : Bool :=
  let st := if 15 < dpll then DpllState.freeRun else s.dpllState dpll
  match c with
  | .always => true
  | .hasLocked =>
    (decide (st ≠ .freeRun) && decide (st ≠ .acquire)) || (decide (dpll ≤ 15) && s.flag Attr.dpll_has_locked dpll)
  | .lockedOrHoldover => decide (st ≠ .freeRun) && decide (st ≠ .acquire)
  | .locked => decide (st = .locked)

/-- Whether all output drivers are gated: QUIET (R413), warm-up with `warmup_outputs` HOLD (R405), or safe-talk (R402). -/
def State.allGated (s : State) : Bool :=
  decide (s.power = .quiet) || (s.flag Attr.warmup_outputs && s.attr Attr.warmup_state == 0) || decide (s.boot.phase = .safeTalk)

/-- Whether an output is to be gated (R190, R200, R413). -/
def State.outGateWanted (s : State) (o : Nat) : Bool :=
  decide (s.synState (o / 4) ≠ .locked) || (s.outp o).orphan || s.allGated ||
    !s.runs (RunCond.ofCode (s.attr Attr.output_run_cond o)) (s.attrN Attr.syn_dpll_active (o / 4))

/-- The DPLL bound to a generator's domain. -/
def State.genDpll (s : State) (g : Nat) : Option Nat := s.boundDpll (s.genDomain g)

/-- Whether a generator is to be gated (R215, R406, R413). -/
def State.genGateWanted (s : State) (g : Nat) : Bool := s.allGated || !s.runs (s.genRunCond g) ((s.genDpll g).getD 255)

/-! ### The grid of an output (R188, R191) -/

/-- The integral of the word that a synthesiser takes, in 10^-18 ticks; 0 with NONE. -/
def State.synIntegral (s : State) (n : Nat) : Int :=
  if s.attrN Attr.syn_dpll_active n < 16 then s.wordIntegral (s.attrN Attr.syn_dpll_active n) else 0

/-- The time that an output's grid counts in, at a tick, in 2^-16 ns (R188): the bound domain's, else that of the synthesiser's own
frequency since it last entered LOCKED. -/
def State.gridTimeAt (s : State) (o tick : Nat) : Int :=
  match s.outDomain o with
  | some d => ((s.dom d).wordsAt tick).time tick 0
  | none =>
    let v := s.syn (o / 4)
    let sum := s.synIntegral (o / 4) + s.synWord (o / 4) * ((tick : Int) - s.counter) - v.gridSum
    (((tick : Int) - v.lockedAt) * 1000000000000000000 + sum) * 1310720 / 27000000000000000000

def State.gridTime (s : State) (o : Nat) : Int := s.gridTimeAt o s.counter

/-- An instant of an output's grid time that a row asserts has come (log entry 8). -/
def State.reachGrid (s : State) (o : Nat) (t : Int) : State :=
  match s.outDomain o with
  | some d => s.reach d t
  | none =>
    let rate := 1310720 * (1000000000000000000 + s.synWord (o / 4))
    s.advance (s.counter + (((t - s.gridTime o) * 27000000000000000000 + (rate - 1)) / rate).toNat)

/-- The period of an output's divider in seconds at y = 0 (R187). -/
def State.clockPeriod (s : State) (o : Nat) : Nat × Nat :=
  ((s.activeRatio (o / 4)).2 * s.attrN Attr.output_divider_active o, 540000000 * (s.activeRatio (o / 4)).1)

/-- The period of an output, and the offset of its grid (R188). -/
def State.outPeriod (s : State) (o : Nat) : Nat × Nat := if (s.outp o).pulse then s.pulsePeriod o else s.clockPeriod o
def State.outOffset (s : State) (o : Nat) : Int := if (s.outp o).pulse then s.attr Attr.output_pulse_offset o else 0

/-- An output's delay from its grid in 2^-16 ns (R191): the factory output delay, `coarse_delay` half-periods and `fine_phase` steps of
T_VCO / 2048. -/
def State.outDelay (s : State) (o : Nat) : Int :=
  psUnits (tblGet s.factory.outputDelay 0 o) +
    stepsInterval (s.activeRatio (o / 4)) (s.attr Attr.output_coarse_delay o * 1024 + s.attr Attr.output_fine_phase o)

/-- A time modulo a period, in 2^-16 ns. -/
def modPeriod (p : Nat × Nat) (x : Int) : Int := x * p.2 % ((p.1 : Int) * secondUnits) / p.2

/-- Where an output stands in its own time, in 2^-16 ns: its grid time less offset, delay and Lehr error, ahead by the movement that it
has still to run (R188, R191, R192, R218). -/
def State.outPlace (s : State) (o : Nat) : Int :=
  s.gridTime o - s.outOffset o - s.outDelay o + s.phaseRemaining o - (if (s.outp o).pulse then s.outLehr o else 0)

/-- How long ago an output's last leading edge lies. -/
def State.outPhase (s : State) (o : Nat) : Int := modPeriod (s.outPeriod o) (s.outPlace o)

/-- Where an output's divider stands in its period: as the above, of the clock grid, without what a PULSE output's change of delay has
still to run (R194). -/
def State.dividerPhase (s : State) (o : Nat) : Int :=
  modPeriod (s.clockPeriod o) (s.gridTime o - s.outDelay o + stepsInterval (s.activeRatio (o / 4)) (s.outp o).stepper)

/-- `aligned` (R197, R209, R240): running on its grid with no movement pending. -/
def State.outAligned (s : State) (o : Nat) : Bool :=
  decide (s.outState o = .running) && (s.outp o).toRun == 0 && (!(s.outp o).pulse || s.outLehr o == 0) &&
    !(s.outp o).lehr.stepping && !((s.outp o).transit.any fun x => decide (s.counter < x.ends))

/-- An enabled output waits for its first grid instant (R189); a PULSE output without a domain waits for one (R190). -/
def State.startOutput (s : State) (o : Nat) : State :=
  let r := s.outp o
  let lost := r.pulse && !s.pulseDomain (s.attrN Attr.syn_dpll_active (o / 4))
  s.replacePulse o (s.outLehr o) { r with
    started := lost
    starting := !lost
    since := s.counter
    gated := lost
    orphan := lost
    stepper := 0
    delayLeft := 0
    transit := none
    lehr := {} }

/-- The outputs of SYNn that are enabled start (R185, R189). -/
def State.startOutputs (s : State) (n : Nat) : State :=
  s.forEach ((List.range 32).filter fun o => o / 4 == n && s.flag Attr.output_enable o) State.startOutput

/-- The first grid instant of an output that waits: at least 1 µs after its setting reached hardware (R189). -/
def State.startInstant (s : State) (o : Nat) : Int :=
  alignFrom (s.outPeriod o) (s.outOffset o) (s.gridTimeAt o ((s.outp o).since + 1350))

/-- OUTPUT_START (R189): the first grid instant of an enabled output on a LOCKED synthesiser. -/
def execOutputStart (n : Fin 32) (s : State) : Host.Outcome State Fault Refusal :=
  .next (s.when_ (s.timing && (s.outp n.val).starting && s.flag Attr.output_enable n.val && decide (s.synState (n.val / 4) = .locked))
    fun t =>
      let u := t.reachGrid n.val (t.startInstant n.val)
      u.setOutp n.val { u.outp n.val with starting := false, started := true, gated := u.outGateWanted n.val })

/-- OUTPUT_STOP (R185, R189, R200): at the next falling edge a disabled output stops, or one whose VCO is off; one that
is to be gated is GATED. -/
def execOutputStop (n : Fin 32) (s : State) : Host.Outcome State Fault Refusal :=
  .next (s.when_ (s.timing && (s.outp n.val).started) fun t =>
    let r := t.outp n.val
    State.judgeTods (if !t.flag Attr.output_enable n.val || decide (t.synState (n.val / 4) = .off) then
      t.replacePulse n.val (t.outLehr n.val) { r with
        started := false, gated := false, orphan := false, stepper := 0, delayLeft := 0, transit := none, lehr := {} }
    else if t.outGateWanted n.val then t.setOutp n.val { r with gated := true }
    else t))

/-- OUTPUT_UNGATE (R200, R201): the driver is re-enabled while the running signal is low. -/
def execOutputUngate (n : Fin 32) (s : State) : Host.Outcome State Fault Refusal :=
  .next (s.when_ (s.timing && (s.outp n.val).started && !s.outGateWanted n.val) fun t =>
    t.setOutp n.val { t.outp n.val with gated := false })

/-- STEPPER_STEP (R192, R211): one fine step of a running output's phase. -/
def execStepperStep (n : Fin 32) (s : State) : Host.Outcome State Fault Refusal :=
  .next (s.when_ (s.timing && (s.outp n.val).started && (s.outp n.val).toRun != 0) fun t =>
    t.setMove n.val (t.outp n.val).step.stepper (t.outp n.val).step.delayLeft)

/-- DRIVER_FAULT (R209, R211): the driver's current leaves its window, or is back in it. -/
def execDriverFault (n : Fin 32) (present : Bool) (s : State) : Host.Outcome State Fault Refusal :=
  .next (s.when_ s.timing fun t =>
    if present then
      if t.flag Attr.output_driver_fault n.val then t else (t.put1 Attr.output_driver_fault n.val 1).raise (Ev.driver n.val) true
    else (t.put1 Attr.output_driver_fault n.val 0).uncause (Ev.driver n.val))

/-! ### Synthesiser states (R185, R186) -/

/-- Gives a synthesiser its active ratio. -/
def State.setRatio (s : State) (n : Nat) (v : Nat × Nat) : State :=
  (s.setSyn n { s.syn n with num := v.1, den := v.2 }).put1 Attr.syn_vco_active n (vcoMilli v)

/-- A synthesiser is enabled (R185): CALIBRATING, its feedback channel running (R202). -/
def State.synOn (s : State) (n : Nat) : State :=
  (s.put1 Attr.syn_state n SynState.calibrating.code).startInput (28 + n)

/-- A synthesiser is disabled (R185): OFF, its feedback channel stopped; its causes are gone. -/
def State.synOff (s : State) (n : Nat) : State :=
  ((((s.put1 Attr.syn_state n SynState.off.code).stopInput (28 + n)).uncause (Ev.syn n 0)).uncause (Ev.syn n 1)).uncause (Ev.syn n 2)

/-- What a feedback channel holds of the frequency before is void (R99, R100, R202). -/
def State.refreshFeedback (s : State) (n : Nat) : State := s.setInput (28 + n) ((s.input (28 + n)).forget s.counter)

/-- `tune_margin` takes a value; below 10 % the tuning-margin event is raised (R186, R210). -/
def State.setMargin (s : State) (n : Nat) (margin : Int) : State :=
  let was := decide (s.attr Attr.syn_tune_margin n < 10) && (s.latch (Ev.syn n 2)).cause
  let t := s.put1 Attr.syn_tune_margin n margin
  if margin < 10 then (if was then t else t.raise (Ev.syn n 2) true margin.toNat) else t.uncause (Ev.syn n 2)

/-- The loop of SYNn is locked on the band found, `margin` from its end (R185, R186, R188). -/
def State.synLocked (s : State) (n : Nat) (margin : Int) : State :=
  let t := (s.setSyn n { s.syn n with lockedAt := s.counter, gridSum := s.synIntegral n }).put1 Attr.syn_state n SynState.locked.code
  (((((t.refreshFeedback n).uncause (Ev.syn n 0)).uncause (Ev.syn n 1)).uncause (Ev.syn n 2)).setMargin n margin).startOutputs n

/-- CALIBRATION_COMPLETE (R185): LOCKED, and the enabled outputs start. Where the tuning voltage stands in the band is
not stated: a free value (log entry 3). -/
def execCalibrationComplete (n : Fin 8) (s : State) : Host.Outcome State Fault Refusal :=
  .next (s.when_ (s.timing && decide (s.synState n.val = .calibrating)) fun t => t.spend.synLocked n.val (t.free % 101))

/-- CALIBRATION_FAILURE (R185): no band covers the ratio. -/
def execCalibrationFailure (n : Fin 8) (s : State) : Host.Outcome State Fault Refusal :=
  .next (s.when_ (s.timing && (decide (s.synState n.val = .calibrating) || decide (s.synState n.val = .retuning))) fun t =>
    (t.put1 Attr.syn_state n.val SynState.unlocked.code).raise (Ev.syn n.val 1) true)

/-- RETUNE_COMPLETE (R185, R186): LOCKED in the centre of the band, and the outputs restart at their next grid edge. -/
def execRetuneComplete (n : Fin 8) (s : State) : Host.Outcome State Fault Refusal :=
  .next (s.when_ (s.timing && decide (s.synState n.val = .retuning)) fun t =>
    (t.synLocked n.val 100).raise (Ev.syn n.val 3) false 0x0100)

/-- SYNTHESISER_UNLOCK (R185): the analogue lock detector fails. -/
def execSynthesiserUnlock (n : Fin 8) (s : State) : Host.Outcome State Fault Refusal :=
  .next (s.when_ (s.timing && decide (s.synState n.val = .locked)) fun t =>
    (t.put1 Attr.syn_state n.val SynState.unlocked.code).raise (Ev.syn n.val 0) true)

/-- TUNING_MARGIN_LOW (R186): the tuning voltage has moved; below 10 % the event is raised. The row also reports a margin that has
risen again, for which the table has no row of its own (log entry 86). -/
def execTuningMarginLow (n : Fin 8) (margin : Nat) (s : State) : Host.Outcome State Fault Refusal :=
  .next (s.when_ (s.timing && decide (s.synState n.val = .locked)) fun t => t.setMargin n.val ((min margin 100 : Nat) : Int))

/-- SYN.RETUNE (R184, R185, R208). -/
def execSynRetune (who : Issuer) (syn : Nat) (s : State) : Host.Outcome State Fault Refusal :=
  .next (s.doAct who
    { opcode := 0x0502, inst := syn
      refusals := [(decide (7 < syn) || !ratioOk (s.pendingRatio syn), E_RANGE),
        (decide (s.synState syn = .off) || decide (s.synState syn = .calibrating), E_STATE), (s.tapUsers syn != 0, E_IN_USE)] }
    fun t => ((t.setRatio syn (t.pendingRatio syn)).put1 Attr.syn_state syn SynState.retuning.code).bump Attr.syn_retunes syn)

/-! ### Commit groups (R195 to R198) -/

/-- The ratio and DPLL of SYNn after a group's commit. -/
def State.ratioAfter (s : State) (synMask n : Nat) : Nat × Nat :=
  if bitOf synMask n then s.pendingRatio n else s.activeRatio n
def State.dpllAfter (s : State) (synMask n : Nat) : Nat :=
  if bitOf synMask n then s.attrN Attr.syn_dpll n else s.attrN Attr.syn_dpll_active n

/-- The setting of an output after a group's commit. -/
def State.settingAfter (s : State) (outMask o : Nat) : OutSetting :=
  if bitOf outMask o then s.pendingSetting o else s.activeSetting o

/-- The synthesisers of a mask, and the outputs that a group reaches: its own and those of its synthesisers. -/
def synMembers (mask : Nat) : List Nat := (List.range 8).filter (bitOf mask)
def outReached (synMask outMask : Nat) : List Nat :=
  (List.range 32).filter fun o => bitOf outMask o || bitOf synMask (o / 4)

/-- Whether the ratio of SYNn changes by more than 1,000 ppm of its active value (R197). -/
def State.ratioFar (s : State) (n : Nat) : Bool :=
  let v := s.pendingRatio n
  let w := s.activeRatio n
  decide (w.1 * v.2 < 1000 * ((v.1 * w.2 : Int) - (w.1 * v.2 : Int)).natAbs)

/-- Whether a commit changes the VCO ratio or the DPLL of SYNn (R184). -/
def State.synChanges (s : State) (n : Nat) : Bool :=
  let v := s.pendingRatio n
  let w := s.activeRatio n
  v.1 * w.2 != w.1 * v.2 || s.attrN Attr.syn_dpll n != s.attrN Attr.syn_dpll_active n

/-- Whether a synthesiser or an output belongs to an armed slot (R198). -/
def State.synArmed (s : State) (n : Nat) : Bool := s.arms.any fun e => bitOf e.2.synMask n
def State.outArmed (s : State) (o : Nat) : Bool := s.arms.any fun e => bitOf e.2.outMask o

/-- Whether T of a TIME trigger has passed (R198). -/
def State.triggerPassed (s : State) (trigger domain time : Nat) : Bool :=
  trigger == 2 && s.created domain && (match timeOfNat time with
    | some t => decide (t < s.domNow domain)
    | none => false)

/-- The refusals of a `SYN.COMMIT` (R198, R360) but for a trigger time that has passed. -/
def State.commitRange (s : State) (slot trigger edgeOutput synMask outMask domain time : Nat) : Bool :=
  decide (7 < slot) || decide (2 < trigger) || (trigger == 1 && decide (31 < edgeOutput)) ||
    (trigger == 2 && (decide (511 < domain) || (commandTime time).isNone)) ||
    (synMembers synMask).any (fun n => !ratioOk (s.pendingRatio n) || s.ratioFar n) ||
    (outReached synMask outMask).any fun o =>
      !settingOk (s.ratioAfter synMask (o / 4)) (s.attrN Attr.output_driver o) (s.settingAfter outMask o)

def State.commitState (s : State) (trigger edgeOutput synMask outMask domain : Nat) : Bool :=
  (synMembers synMask).any (fun n => decide (s.synState n ≠ .locked)) ||
    (trigger == 1 && (decide (s.outState edgeOutput ≠ .running) || (s.outp edgeOutput).pulse)) ||
    (trigger == 2 && !s.created domain) ||
    (outReached synMask outMask).any fun o =>
      s.flag Attr.output_enable o && (s.settingAfter outMask o).pulse && !s.pulseDomain (s.dpllAfter synMask (o / 4))

def State.commitInUse (s : State) (slot synMask outMask : Nat) : Bool :=
  (tblFind s.arms slot).isSome || (synMembers synMask).any (fun n => s.synArmed n || (s.tapUsers n != 0 && s.synChanges n)) ||
    (List.range 32).any fun o => bitOf outMask o && s.outArmed o

/-- SYN.COMMIT (R196, R198): arms a slot. A refusal for a T that has passed also counts in `commit_late`. -/
def execSynCommit (who : Issuer) (slot trigger edgeOutput synMask outMask domain time : Nat) (s : State) :
    Host.Outcome State Fault Refusal :=
  let range := s.commitRange slot trigger edgeOutput synMask outMask domain time
  let late := !range && s.triggerPassed trigger domain time
  let t := s.act who
    { opcode := 0x0500, inst := slot
      refusals := [(range || late, E_RANGE), (s.commitState trigger edgeOutput synMask outMask domain, E_STATE),
        (s.commitInUse slot synMask outMask, E_IN_USE)] }
    fun t =>
      let u : State := { t with arms := tblPut t.arms slot { trigger := trigger, edgeOutput := edgeOutput, synMask := synMask % 256,
                                                             outMask := outMask, domain := domain, time := (commandTime time).getD 0, armedAt := t.counter } }
      (u.put Attr.syn_commit_slots 0 slot SlotOutcome.armed.code).finish who 0x0500 0 slot
  .next (if late && decide (s.service who = .full) && s.permits who .owner0 then t.bump Attr.syn_commit_late 0 else t)

/-- SYN.CANCEL (R198, R208). -/
def execSynCancel (who : Issuer) (slot : Nat) (s : State) : Host.Outcome State Fault Refusal :=
  .next (s.doAct who
    { opcode := 0x0501, inst := slot
      refusals := [(decide (7 < slot), E_RANGE), ((tblFind s.arms slot).isNone, E_STATE)] }
    fun t =>
      (({ t with arms := tblDrop t.arms slot }).put Attr.syn_commit_slots 0 slot SlotOutcome.cancelled.code).raise (Ev.commit slot) false 3)

/-- Makes the pending values of an output active (R195). -/
def State.commitOutput (s : State) (o : Nat) : State :=
  let x := s.pendingSetting o
  (s.replacePulse o (s.outLehr o) { s.outp o with
    pulse := x.pulse, num := x.num, den := x.den, width := x.width, stepper := 0, delayLeft := 0, lehr := {}, orphan := false }).put1
    Attr.output_divider_active o x.divider

/-- The transitional period of a commit (R197): none where X falls on a leading edge of the old setting and on a grid instant of the
new; else the output ends its period, `old` long and `phase` old at X, and one period of at least half the shorter one leads to an
instant of the new grid, which is `new` long and `next` old at X. -/
def transitOf (now : Nat) (old phase new next : Int) : Option Transit :=
  if phase = 0 ∧ next = 0 then none
  else
    let rest := if phase = 0 then 0 else old - phase
    let left := (-(next + rest)) % (max 1 new)
    let length := if min old new ≤ 2 * left then left else left + new
    some { length := length, old := old, ends := now + ((rest + length) * 27 / 1310720).toNat }

/-- A member output begins its new setting at X (R197): `old` is the state before the commit. -/
def State.beginPeriod (s old : State) (o : Nat) : State :=
  if !(s.outp o).started then s
  else s.setOutp o { s.outp o with transit := transitOf s.counter (periodUnits (old.outPeriod o)) (old.outPhase o)
                                                (periodUnits (s.outPeriod o)) (s.outPhase o) }

/-- Whole retiming periods nearest to a distance. -/
def wholePeriods (p : Nat × Nat) (x : Int) : Int := x - wrapInto p x

/-- A member synthesiser's output that is no member moves to its new grid (R192, R235, R238): the divider's place in its period against
the place that the new grid gives; a PULSE output's Lehr takes whole periods of the difference of the two domains' times, and one that
had no domain starts on the new one's grid (R190). -/
def State.regrid (s old : State) (o : Nat) (ratioChanged : Bool) : State :=
  let was := periodUnits (old.clockPeriod o)
  let r := s.outp o
  let t := s.setOutp o { r with stepper := 0 }
  let off := old.dividerPhase o * periodUnits (s.clockPeriod o) / (max 1 was) - t.dividerPhase o
  let v := s.activeRatio (o / 4)
  let move := clockTarget (s.dividerSteps o) (-(fineSteps v.1 v.2 off))
  let u := s.setMove o move r.delayLeft
  if !r.pulse then u
  else match old.outDomain o, s.outDomain o with
    | some a, some b =>
      let x := s.lehrTime b - old.lehrTime a
      let whole := if ratioChanged then wholePeriods (s.clockPeriod o) x else x + stepsInterval v (move - r.stepper)
      if a = b then u else u.outShift o (old.outLehr o) whole
    | none, some _ => u.startOutput o
    | _, none => u

/-- The outputs of SYNn that a commit reaches without being members. -/
def State.followers (s : State) (outMask n : Nat) : List Nat :=
  (List.range 32).filter fun o => o / 4 == n && !bitOf outMask o && (s.outp o).started

/-- One member synthesiser's pending values become active (R195, R202); the grid of an unbound one goes on from where it stands. -/
def State.commitSyn (s : State) (outMask n : Nat) : State :=
  let v := s.pendingRatio n
  let w := s.activeRatio n
  let ratioChanged := v.1 * w.2 != w.1 * v.2
  let t := (s.setRatio n v).put1 Attr.syn_dpll_active n (s.attr Attr.syn_dpll n)
  let u := t.setSyn n { t.syn n with committedAt := some s.counter, gridSum := (t.syn n).gridSum + t.synIntegral n - s.synIntegral n }
  let x := if ratioChanged then u.refreshFeedback n else u
  s.countSafe (if s.synChanges n then x.forEach (s.followers outMask n) fun y o => y.regrid s o ratioChanged else x)

/-- The trigger instant X of an armed slot, where it comes (R196): the first tick after the arm; the first rising edge of the edge
output, which runs; the instant at which the domain's time reaches T, or the update instant that stepped over it. -/
def State.triggerReached (s : State) (a : CommitArm) : Option State :=
  match a.trigger with
  | 0 => some (s.advance (a.armedAt + 1))
  | 1 =>
    if (s.outp a.edgeOutput).started then
      some (s.reachGrid a.edgeOutput (alignFrom (s.clockPeriod a.edgeOutput) (s.outDelay a.edgeOutput) (s.gridTimeAt a.edgeOutput (a.armedAt + 1))))
    else none
  | _ => if !s.created a.domain then none else some (if a.stepped then s else s.reach a.domain a.time)

/-- A commit is applied at X, every member on the same tick (R196, R197, R202, R210, R211). -/
def State.applyCommit (s : State) (slot : Nat) (a : CommitArm) : State :=
  let members := (List.range 32).filter (bitOf a.outMask)
  let u := s.forEach (synMembers a.synMask) fun y n => y.commitSyn a.outMask n
  let v := u.forEach members State.commitOutput
  let x := v.forEach members fun y o => y.beginPeriod s o
  let w := x.forEach (synMembers a.synMask) fun y n => y.raise (Ev.syn n 3) false slot
  (({ w with arms := tblDrop w.arms slot }).put Attr.syn_commit_slots 0 slot SlotOutcome.applied.code).raise
    (Ev.commit slot) false (if a.stepped then 2 else 1)

/-- COMMIT_TRIGGER (R196): the trigger instant of an armed slot. -/
def execCommitTrigger (slot : Fin 8) (s : State) : Host.Outcome State Fault Refusal :=
  .next (match tblFind s.arms slot.val with
    | some a => s.when_ s.timing fun t =>
        match t.triggerReached a with
        | some u => u.applyCommit slot.val a
        | none => t
    | none => s)

/-- OUTPUT.DO_STEP (R239, R247). -/
def execOutputDoStep (who : Issuer) (n : Nat) (s : State) : Host.Outcome State Fault Refusal :=
  .next (s.doAct who
    { opcode := 0x0D00, inst := n
      refusals := [(decide (31 < n), E_RANGE), (!(s.outp n).pulse, E_STATE)] }
    fun t => if t.outLehr n = 0 then t else t.outRestart n)

end Sys2Proof.Machine
end

