-- ==== Sys2Proof/Machine/Quality.lean ====
section
/-! DEFINITION. The clock quality of a domain (R276, R405) and the leap flags that it serves (R82). -/

namespace Sys2Proof.Machine

/-- A domain's clock quality: clockClass, clockAccuracy, offsetScaledLogVariance and timeSource. -/
structure Quality where
  cls : Nat
  accuracy : Nat
  variance : Nat
  source : Nat
deriving DecidableEq, Repr

/-- clockAccuracy in HOLDOVER from `ho_te_est` in ps (R276). -/
def holdoverAccuracy (ps : Nat) : Nat :=
  if ps ≤ 25000 then 0x20 else if ps ≤ 100000 then 0x21 else if ps ≤ 250000 then 0x22 else if ps ≤ 1000000 then 0x23
  else if ps ≤ 2500000 then 0x24 else if ps ≤ 10000000 then 0x25 else 0xFE

/-- timeSource of a bound domain (R276). -/
def State.timeSourceOf (s : State) (n : Nat) : Nat :=
  match s.connected n with
  | some x =>
    if isDomainSource x then 0x40
    else if decide (s.inputType x = .pps) && s.attr Attr.input_tod_rx x != 0 then 0x20
    else 0xA0
  | none => 0xA0

/-- The DPLL state that the quality rules see: HOLDOVER as HOLDOVER-LIMIT until warm-up is COMPLETE (R405). -/
def State.qualityState (s : State) (n : Nat) : DpllState :=
  if s.dpllState n = .holdover ∧ s.attr Attr.warmup_state ≠ WarmupState.complete.code then .holdoverLimit else s.dpllState n

/-- The class and accuracy of R276 for a domain bound to DPLLn; `telecom` for the G8275 profiles. -/
def State.boundQuality (s : State) (d n : Nat) (telecom : Bool) : Nat × Nat × Nat :=
  if s.attr Attr.domain_time_status d = 0 then (248, 0xFE, 0xFFFF)
  else
    match s.qualityState n with
    | .locked =>
      match s.connected n with
      | some x =>
        if s.timeBearing x then
          (if s.sourceGrade x ≤ 2 then (6, 0x20 + s.sourceGrade x, 0x4E5D) else (248, 0xFE, 0xFFFF))
        else (7, 0xFE, 0xFFFF)
      | none => (7, 0xFE, 0xFFFF)
    | .holdover => (7, holdoverAccuracy (s.attrN Attr.dpll_ho_te_est n), 0xFFFF)
    | .holdoverLimit => (if telecom then (if s.isQ3 && decide (2 ≤ s.ensemble.length) then 140 else 150) else 52, 0xFE, 0xFFFF)
    | _ => (248, 0xFE, 0xFFFF)

/-- The clock quality of a domain under a profile code of R272: 2 and 3 are G8275_1 and G8275_2. -/
def State.clockQuality (s : State) (d profile : Nat) : Quality :=
  if s.flag Attr.domain_quality_mode d then
    { cls := s.attrN Attr.domain_clock_class d, accuracy := s.attrN Attr.domain_clock_accuracy d
      variance := s.attrN Attr.domain_clock_variance d, source := s.attrN Attr.domain_time_source d }
  else
    match s.boundDpll d with
    | some n =>
      let q := s.boundQuality d n (profile == 2 || profile == 3)
      { cls := q.1, accuracy := q.2.1, variance := q.2.2, source := s.timeSourceOf n }
    | none => { cls := 248, accuracy := 0xFE, variance := 0xFFFF, source := 0xA0 }

/-- currentUtcOffset, valid unless `time_status` is UNSET, and the leap flags of the final 12 h (R82, R233, R275). -/
def State.utcFields (s : State) (d : Nat) : UtcFields :=
  let soon := s.finalHours d (s.domNow d) (dateCodeDays (s.attr Attr.domain_leap_day d))
  { offset := if s.attr Attr.domain_time_status d = 0 then none else some (s.attr Attr.domain_utc_offset d)
    leap61 := soon && decide (s.leapOf d = .insert)
    leap59 := soon && decide (s.leapOf d = .delete) }

end Sys2Proof.Machine
end

