-- ==== Sys2Proof/Machine/Generator.lean ====
section
/-! DEFINITION. Broadcast generators (R212 to R248): their states, video formats, AES grades, timecode addresses and jams,
ToD messages, and the Lehr's restarts and ends. Generators are numbered 0 to 7 VIDGEN, 8 to 13 AUDGEN, 14 and 15 TCGEN,
16 and 17 TODGEN. -/

namespace Sys2Proof.Machine

/-! ### Generator states (R213 to R215) -/

/-- Whether a generator may start: enabled, not STOPPED, its domain bound, and the time set where it waits for it (R214). -/
def State.genReleased (s : State) (g : Nat) : Bool :=
  s.genEnabled g && !(s.gen g).stopped && !(s.gen g).running && (s.genDpll g).isSome &&
    (s.genImmediate g || s.attr Attr.domain_time_status (s.genDomain g) != 0)

/-- A generator that has been enabled enters WAITING where it waits for its domain's time (R214). -/
def State.genArm (s : State) (g : Nat) : State :=
  let t := (s.genLeaves g).setGen g { armedAt := s.counter, ending := (s.gen g).ending }
  if (s.genDpll g).isSome && !s.genImmediate g && s.attr Attr.domain_time_status (s.genDomain g) == 0 then
    t.raise 584 false (genDetail g) else t

/-- The alignment point at which a released generator starts (R214): the first one at least 1 µs after its enable, or after the instant
at which its domain's time was set where it waits for that, and not before the end of a unit still in progress. -/
def State.genStartPoint (s : State) (g : Nat) : Int :=
  let d := s.genDomain g
  let r := s.gen g
  let tick := (if s.genImmediate g then r.armedAt else max r.armedAt (s.dom d).setAt) + 1350
  let t := ((s.dom d).wordsAt tick).time tick 0
  alignFrom (s.genPeriod g) (s.genOffset g) (match r.ending with
    | some e => max t e.1
    | none => t)

/-- `lehr_eta` of an error at a rate (R240): ⌈|e| / rate⌉ in seconds. -/
def lehrEta (e : Int) (rate : Nat) : Nat := (e.natAbs * 10000000 + (rate * secondUnits.toNat - 1)) / (rate * secondUnits.toNat)

/-! ### Timecode (R227 to R231) -/

/-- The rate that addresses count at (R227). -/
def tcCount (rate : Nat) : Nat := [24, 25, 30, 30, 30].getD rate 25

/-- Whether a rate is 29.97_DF. -/
def tcDrop (rate : Nat) : Bool := rate == 2

/-- The addresses in a day at 29.97 frames/s (R229). -/
def tcDay (rate : Nat) : Nat := if tcDrop rate then 2589408 else 2592000

/-- The address number of hh:mm:ss:00 at 29.97 frames/s; in DF a skipped address gives the next valid one (R229). -/
def tcNumber (rate sod : Nat) : Nat :=
  if tcDrop rate then
    let minutes := sod / 60
    let skipped := if sod % 60 = 0 ∧ minutes % 10 ≠ 0 then 2 else 0
    sod * 30 + skipped - 2 * (minutes - minutes / 10)
  else sod * 30

/-- The address that a number spells, as frames counted without drops: hh, mm, ss and ff at 30 (R229, R230). -/
def tcUndrop (rate num : Nat) : Nat :=
  if tcDrop rate then
    let m := num % 17982
    num + 18 * (num / 17982) + (if 2 ≤ m then 2 * ((m - 2) / 1798) else 0)
  else num

/-- Two decimal digits in BCD. -/
def bcd (x : Nat) : Nat := x / 10 % 10 * 16 + x % 10

/-- An address packed as `tc_address` (R244). -/
def packAddress (sod frame : Nat) : Nat :=
  bcd (sod / 3600) * 16777216 + bcd (sod % 3600 / 60) * 65536 + bcd (sod % 60) * 256 + bcd frame

/-- The transition that a TCGEN is at at a UTC second (R216): one that it met unarmed while the control plane is absent it has not
taken. -/
def State.tcZone (s : State) (n : Nat) (u : Int) : Nat :=
  let d := s.genDomain (14 + n)
  s.zoneAt d ((s.gen (14 + n)).tzLag.getD (s.dom d).tzIndex) u

/-- L(a) of a TCGEN in whole seconds (R228): an inserted second is rendered as the second before it. -/
def State.tcLocal (s : State) (n : Nat) (a : Int) : Int :=
  let d := s.genDomain (14 + n)
  let u := s.utcHeld d a
  if s.attr Attr.tcgen_tc_timebase n = 0 then u + s.zoneOffset d (s.tcZone n u) else u

/-- `tc_offset` in 2^-16 ns (R227). -/
def State.tcOffset (s : State) (n : Nat) : Int := s.attr Attr.tcgen_tc_offset n * 65536 / 10

/-- The first frame whose alignment point lies at or after an instant (R217). -/
def State.frameFrom (s : State) (n : Nat) (j : Int) : Int :=
  let p := tcPeriod (s.attrN Attr.tcgen_tc_rate n)
  let m : Int := (p.1 : Int) * secondUnits
  ((j - s.tcOffset n) * p.2 + (m - 1)) / m

/-- The frame in progress of a TCGEN (R218): the target's, delayed by the Lehr error. -/
def State.frameNow (s : State) (n : Nat) : Int :=
  let p := tcPeriod (s.attrN Attr.tcgen_tc_rate n)
  ((s.domNow (s.genDomain (14 + n)) - s.genLehr (14 + n) - s.tcOffset n) * p.2) / ((p.1 : Int) * secondUnits)

/-- The latest daily jam instant at or before a domain time (R229). -/
def State.lastDaily (s : State) (n : Nat) (t : Int) : Int :=
  let back := (s.tcLocal n t - s.attr Attr.tcgen_jam_time n) % 86400
  (secondsOf t - back) * secondUnits

/-- The start of the second that is scheduled to be inserted. -/
def State.insertStart (s : State) (d : Nat) : Int := (s.leapS d + s.attr Attr.domain_utc_offset d) * secondUnits

/-- The instants of the jams that a domain's time makes by itself, at or before a domain time (R229): the daily one, the transition in
force under LOCAL, the start of the inserted second that runs, and the last leap that took effect. -/
def State.jamInstants (s : State) (n : Nat) (t : Int) : List Int :=
  let d := s.genDomain (14 + n)
  let k := s.tcZone n (s.utcHeld d t)
  let zone := if s.attr Attr.tcgen_tc_timebase n = 0 ∧ k ≠ 0 then
      [s.utcInstant d (tzInstant (s.attrN Attr.domain_tz_table d (k - 1)))] else []
  let start := if s.inInserted d t then [s.insertStart d] else []
  (s.lastDaily n t :: (zone ++ start ++ ((s.dom d).lastLeap.map (·.1)).toList)).filter fun j => decide (j ≤ t)

/-- The latest of them: where a TCGEN's count stands without a jam of its own (R229, and the example after R248). -/
def State.lastJam (s : State) (n : Nat) (t : Int) : Int := (s.jamInstants n t).foldl max (s.lastDaily n t)

/-- The base of a count that a jam at an instant sets: its first frame with the address of the instant's second (R229). -/
def State.jamBase (s : State) (n : Nat) (j : Int) : Int × Nat :=
  (s.frameFrom n j, tcNumber (s.attrN Attr.tcgen_tc_rate n) (s.tcLocal n j % 86400).toNat)

/-- The address number of a frame at 29.97 frames/s, counted from the last jam, or from the last instant of one
where none has been made since the start (R229, and the example after R248). -/
def State.tcCountAt (s : State) (n : Nat) (k : Int) : Nat :=
  let b := ((s.gen (14 + n)).base).getD (s.jamBase n (s.lastJam n (s.domNow (s.genDomain (14 + n)))))
  (((b.2 : Int) + (k - b.1)) % (tcDay (s.attrN Attr.tcgen_tc_rate n) : Int)).toNat

/-- `tc_address` (R228, R229, R244): the address of the frame in progress. -/
def State.tcAddress (s : State) (n : Nat) : Nat :=
  let k := s.frameNow n
  let rate := s.attrN Attr.tcgen_tc_rate n
  if s.tc2997 n then
    let x := tcUndrop rate (s.tcCountAt n k)
    packAddress (x / 30 % 86400) (x % 30)
  else
    let f : Int := tcCount rate
    packAddress ((s.tcLocal n (k / f * secondUnits)) % 86400).toNat (k % f).toNat

/-- The domain time at which a frame of a TCGEN's grid begins, its offset aside (R217). -/
def State.framePoint (s : State) (n : Nat) (k : Int) : Int :=
  let p := tcPeriod (s.attrN Attr.tcgen_tc_rate n)
  k * p.1 * secondUnits / p.2

/-- `tc_date_now` (R231, R244): YYMMDD of L(a) of the frame in progress; 000000 while dates are invalid, and with `tc_date` NONE. -/
def State.tcDateNow (s : State) (n : Nat) : Nat :=
  if s.attr Attr.tcgen_tc_date n ≠ 0 ∨ !s.dateValid (s.genDomain (14 + n)) then 0
  else
    let c := civilOfSeconds (s.tcLocal n (s.framePoint n (s.frameNow n)))
    bcd (c.year % 100) * 65536 + bcd c.month * 256 + bcd c.day

/-- A difference of addresses taken within half a day either way. -/
def tcDelta (day : Nat) (x : Int) : Int :=
  let m := x % (day : Int)
  if (day : Int) ≤ 2 * m then m - day else m

/-- Jams the count of a TCGEN at an instant (R229). -/
def State.jam (s : State) (n : Nat) (j : Int) : State :=
  let b := s.jamBase n j
  let delta := tcDelta (tcDay (s.attrN Attr.tcgen_tc_rate n)) ((b.2 : Int) - s.tcCountAt n b.1)
  let t := s.setGen (14 + n) { s.gen (14 + n) with base := some b }
  if delta = 0 then t
  else ((t.bump Attr.tcgen_jam_count n).put1 Attr.tcgen_jam_last_delta n delta).raise 581 false
    ((clampInt (-32768) 32767 delta) % 65536).toNat

/-- 1 µs in 2^-16 ns. -/
def microUnits : Int := 65536000

/-- TCGEN.JAM (R229, R247): the jam takes effect at the first alignment point at least 1 µs later. -/
def execTcgenJam (who : Issuer) (n : Nat) (s : State) : Host.Outcome State Fault Refusal :=
  .next (s.doAct who
    { opcode := 0x0F01, inst := n
      refusals := [(decide (1 < n), E_RANGE),
        (!s.tc2997 n || !(decide (s.genState (14 + n) = .running) || decide (s.genState (14 + n) = .gated) ||
          decide (s.genState (14 + n) = .safe)), E_STATE)] }
    fun t => t.jamDue n (t.nextTcFrame n (t.lehrTime (t.genDomain (14 + n)) + microUnits)))

/-- A jam at an instant is made where the first frame at or after it is emitted (R218, R229). -/
def State.jamAt (s : State) (n : Nat) (j : Int) : State :=
  let g := 14 + n
  let d := s.genDomain g
  let t := s.reach d (reachPlace (s.lehrTime d) (s.genLehr g) (s.attrN (genRate g) (genInst g)) (s.nextTcFrame n j))
  (t.jam n j).judgeDate g

/-- TC_JAM_APPLY (R229, R230): the jam that is due takes effect; where none is, that of the start of a second to be inserted. -/
def execTcJamApply (n : Fin 2) (s : State) : Host.Outcome State Fault Refusal :=
  let d := s.genDomain (14 + n.val)
  .next (s.when_ (s.timing && (s.gen (14 + n.val)).running && s.tc2997 n.val) fun t =>
    match (t.gen (14 + n.val)).jamDue with
    | some j => (t.setGen (14 + n.val) { t.gen (14 + n.val) with jamDue := none }).jamAt n.val j
    | none => if t.leapOf d = .insert then t.jamAt n.val (t.insertStart d) else t)

/-- JAM_ARM (R216): firmware arms a daily jam, or a time zone transition, in hardware. -/
def execJamArm (n : Fin 2) (transition : Bool) (s : State) : Host.Outcome State Fault Refusal :=
  .next (s.when_ (s.control && (s.gen (14 + n.val)).running) fun t =>
    let r := t.gen (14 + n.val)
    t.setGen (14 + n.val) (if transition then { r with tzArmed := true } else { r with dailyArmed := true }))

/-- The daily jam instant of a local day of a TCGEN, as a domain time: `jam_time` in `tc_timebase`. -/
def State.dailyOf (s : State) (n : Nat) (day : Int) : Int :=
  let d := s.genDomain (14 + n)
  let o := if s.attr Attr.tcgen_tc_timebase n = 0 then s.zoneOffset d (s.tcZone n (s.utcHeld d (s.domNow d))) else 0
  s.utcInstant d (day * 86400 + s.attr Attr.tcgen_jam_time n - o)

/-- The first daily jam instant at or after now. -/
def State.nextDaily (s : State) (n : Nat) : Int :=
  let now := s.domNow (s.genDomain (14 + n))
  let day := s.tcLocal n now / 86400
  if now ≤ s.dailyOf n day then s.dailyOf n day else s.dailyOf n (day + 1)

/-- DAILY_JAM (R216, R229): the next daily jam instant is reached, armed in hardware, or under firmware. -/
def execDailyJam (n : Fin 2) (s : State) : Host.Outcome State Fault Refusal :=
  .next (s.when_ (s.timing && (s.gen (14 + n.val)).running && s.tc2997 n.val && ((s.gen (14 + n.val)).dailyArmed || s.firmware)) fun t =>
    (t.setGen (14 + n.val) { t.gen (14 + n.val) with dailyArmed := false }).jamAt n.val (t.nextDaily n.val))

/-! ### Start, gating and faults -/

/-- GENERATOR_START (R214): the first alignment point of a released generator. -/
def execGeneratorStart (g : Gen) (s : State) : Host.Outcome State Fault Refusal :=
  let k := genNumber g
  .next (s.when_ (s.timing && s.genReleased k) fun r =>
    let a := r.genStartPoint k
    let t := r.reach (r.genDomain k) a
    let u := t.setGen k { running := true, gated := t.genGateWanted k, armedAt := (t.gen k).armedAt, start := a
                          lehr := { since := t.lehrTime (t.genDomain k) } }
    match g with
    | .vid n => u.put1 Attr.vidgen_format_active n.val (u.attr Attr.vidgen_vid_format n.val)
    | .aud _ => u
    | .tc n =>
      let v := if u.tc2997 n.val then
          u.setGen k { u.gen k with base := some (u.jamBase n.val (u.lastJam n.val a)) }
        else u
      v.judgeDate k
    | .tod _ => u)

/-- GENERATOR_GATE (R215): at a unit boundary a generator is gated or ungated. -/
def execGeneratorGate (g : Gen) (s : State) : Host.Outcome State Fault Refusal :=
  let k := genNumber g
  .next (s.when_ (s.timing && (s.gen k).running) fun t => t.setGen k { t.gen k with gated := t.genGateWanted k })

/-- The `out_fault` attribute of a generator. -/
def genFault (g : Nat) : AttrDesc :=
  genAttr g Attr.vidgen_out_fault Attr.audgen_out_fault Attr.tcgen_out_fault Attr.todgen_out_fault

/-- GENERATOR_OUTPUT_FAULT (R248): the output's load leaves its window, or is back in it. -/
def execGeneratorOutputFault (g : Gen) (present : Bool) (s : State) : Host.Outcome State Fault Refusal :=
  let k := genNumber g
  .next (s.when_ s.timing fun t =>
    if present then
      if t.flag (genFault k) (genInst k) then t else (t.put1 (genFault k) (genInst k) 1).raise (560 + k) true
    else (t.put1 (genFault k) (genInst k) 0).uncause (560 + k))

/-! ### Video and AES (R223, R226) -/

/-- VIDEO_FORMAT_CHANGE (R223): the emitted frame in progress ends, and the first frame of the new format starts, its error formed
against the new grid. -/
def execVideoFormatChange (n : Fin 8) (s : State) : Host.Outcome State Fault Refusal :=
  .next (s.when_ (s.timing && (s.gen n.val).running && (s.gen n.val).formatDue) fun r =>
    let ends := (r.unitEnd n.val).1
    let t := r.reach (r.genDomain n.val) ends
    let u := t.put1 Attr.vidgen_format_active n.val (t.attr Attr.vidgen_vid_format n.val)
    (u.setGen n.val { u.gen n.val with formatDue := false }).putGenLehr n.val (t.genLehr n.val) (u.gridError n.val ends))

/-- `aes_grade` as R226 and R405 decide it: 0 GRADE1, 1 GRADE2. -/
def State.aesGradeNow (s : State) (g : Nat) : Int :=
  let moving := s.genLehr g != 0 && decide (10 < s.attrN (genRate g) (genInst g))
  let poor := match s.genDpll g with
    | some n => decide (s.dpllState n = .freeRun) || decide (s.dpllState n = .acquire) || decide (s.dpllState n = .holdoverLimit)
    | none => true
  boolInt (moving || poor || s.attr Attr.warmup_state != WarmupState.complete.code)

/-- AES_GRADE_CHANGE (R226): a change of grade takes effect at the next block. -/
def execAesGradeChange (n : Fin 2) (s : State) : Host.Outcome State Fault Refusal :=
  .next (s.when_ (s.timing && (s.gen (12 + n.val)).running &&
      s.aesGradeNow (12 + n.val) != s.attr Attr.audgen_aes_grade (4 + n.val)) fun t =>
    (t.put1 Attr.audgen_aes_grade (4 + n.val) (t.aesGradeNow (12 + n.val))).raise 586 false (genDetail (12 + n.val)))

/-! ### ToD output (R232 to R234) -/

/-- The clock status of a G.8271 time announce message (R233): 0 locked, 1 holdover within, 2 holdover out of
specification, 3 free-running. -/
def State.todStatus (s : State) (d : Nat) : Nat :=
  match s.boundDpll d with
  | some m =>
    match s.dpllState m with
    | .locked => (match s.connected m with
      | some x => if s.timeBearing x then 0 else 3
      | none => 3)
    | .holdover => 1
    | .holdoverLimit => 2
    | _ => 3
  | none => 3

/-- The UTC date and time of a domain second, with 23:59:60 in an inserted second (R79, R233). -/
def State.civilUtc (s : State) (d : Nat) (sec : Int) : CivilTime :=
  let t := sec * secondUnits
  if s.inInserted d t then { civilOfSeconds (s.leapS d - 1) with second := 60 } else civilOfSeconds (s.utcRaw d t)

/-- The second that a TODGEN's message labels (R232, R233): its companion's target second, or the next. -/
def State.todSecond (s : State) (n : Nat) : Int :=
  let o := s.attrN Attr.todgen_tod_companion n
  secondsOf (s.domNow (s.genDomain (16 + n)) - s.outLehr o - s.attr Attr.output_pulse_offset o) + s.attr Attr.todgen_tod_tx_label n

/-- The instant of the next message of a TODGEN whose companion runs: `tod_tx_delay` after a companion pulse (R232), as a time of its
domain. -/
def State.todInstant (s : State) (n : Nat) : Int :=
  let o := s.attrN Attr.todgen_tod_companion n
  reachPlace (s.outTime o) (s.outLehr o) (s.attrN Attr.output_lehr_rate o)
    (alignFrom (1, 1) (s.attr Attr.output_pulse_offset o + s.attr Attr.todgen_tod_tx_delay n * 65536000000) (s.outTime o - s.outLehr o))

/-- Sends a TODGEN's pair of messages (R233). -/
def State.todSend (s : State) (n : Nat) : State :=
  let d := s.genDomain (16 + n)
  let sec := s.todSecond n
  let g8271 := s.attr Attr.todgen_tod_tx_protocol n == 0
  let q := s.clockQuality d 1
  let valid := s.dateValid d
  let running := match s.boundDpll d with
    | some m => decide (s.dpllState m = .locked) || decide (s.dpllState m = .holdover)
    | none => false
  let status := if g8271 then s.todStatus d else boolNat (running && valid)
  let t := s.emit (.todMessage n g8271 sec (s.civilUtc d sec) valid (s.offsetAt d (s.utcHeld d (sec * secondUnits))) status q.cls q.accuracy
    (s.utcFields d))
  let u := (t.leaveQuiet n .sending).add Attr.todgen_tod_tx_count n 0 2
  if g8271 then u else u.judgeDate (16 + n)

/-- TODGEN_MESSAGE (R232 to R234): `tod_tx_delay` after a companion pulse. -/
def execTodgenMessage (n : Fin 2) (s : State) : Host.Outcome State Fault Refusal :=
  .next (s.when_ (s.timing && decide (s.genState (16 + n.val) = .running)) fun t =>
    if t.todQuiet n.val then t.judgeTod n.val
    else (t.reachGrid (t.attrN Attr.todgen_tod_companion n.val) (t.todInstant n.val)).todSend n.val)

/-! ### The Lehr (R236, R239, R240, R247) -/

/-- DO_STEP of a generator: with e already 0 nothing changes (R239). -/
def State.stepGen (s : State) (g : Nat) : State := if s.genLehr g = 0 then s else s.genRestart g

/-- VIDGEN.DO_STEP (R239, R247). -/
def execVidgenDoStep (who : Issuer) (n : Nat) (s : State) : Host.Outcome State Fault Refusal :=
  .next (s.doAct who { opcode := 0x0700, inst := n, refusals := [(decide (7 < n), E_RANGE)] } fun t => t.stepGen n)

/-- AUDGEN.DO_STEP (R239, R247). -/
def execAudgenDoStep (who : Issuer) (n : Nat) (s : State) : Host.Outcome State Fault Refusal :=
  .next (s.doAct who { opcode := 0x0E00, inst := n, refusals := [(decide (5 < n), E_RANGE)] } fun t => t.stepGen (8 + n))

/-- TCGEN.DO_STEP (R239, R247). -/
def execTcgenDoStep (who : Issuer) (n : Nat) (s : State) : Host.Outcome State Fault Refusal :=
  .next (s.doAct who { opcode := 0x0F00, inst := n, refusals := [(decide (1 < n), E_RANGE)] } fun t => t.stepGen (14 + n))

/-- The Lehr error of a generator becomes 0 (R240). -/
def State.genAligned (s : State) (g : Nat) : State :=
  s.replaceGen g (s.genLehr g) { s.gen g with lehr := { since := s.lehrTime (s.genDomain g) } }

/-- The Lehr error of a PULSE output becomes 0. -/
def State.outAlignedNow (s : State) (n : Nat) : State :=
  s.replacePulse n (s.outLehr n) { s.outp n with lehr := { since := s.outTime n } }

/-- The first target alignment point at least 1 µs after a stepped signal has ended its unit (R239). -/
def State.genRestartPoint (s : State) (g : Nat) : Int := alignFrom (s.genPeriod g) (s.genOffset g) ((s.gen g).lehr.stepAt + microUnits)
def State.outRestartPoint (s : State) (n : Nat) : Int :=
  alignFrom (s.pulsePeriod n) (s.attr Attr.output_pulse_offset n) ((s.outp n).lehr.stepAt + microUnits)

/-- STEP_RESTART (R239): a stepped signal restarts at a target alignment point with e = 0. -/
def execStepRestart (g : LehrSignal) (s : State) : Host.Outcome State Fault Refusal :=
  .next (match g with
    | .gen x => s.when_ (s.timing && (s.gen (genNumber x)).lehr.stepping) fun t =>
        (t.reach (t.genDomain (genNumber x)) (t.genRestartPoint (genNumber x))).genAligned (genNumber x)
    | .out n => s.when_ (s.timing && (s.outp n.val).lehr.stepping) fun t =>
        (t.reachGrid n.val (t.outRestartPoint n.val)).outAlignedNow n.val)

/-- The time of its domain at which a movement at `rate` × 0.1 ppm ends (R236). -/
def Lehr.endsAt (l : Lehr) (rate : Nat) : Int := l.since + ((l.e.natAbs : Int) * 10000000 + ((rate : Int) - 1)) / rate

/-- LEHR_MOVEMENT_END (R236): e reaches 0. -/
def execLehrMovementEnd (g : LehrSignal) (s : State) : Host.Outcome State Fault Refusal :=
  .next (match g with
    | .gen x => s.when_ (s.timing && (s.gen (genNumber x)).lehr.e != 0 && !(s.gen (genNumber x)).lehr.stepping) fun t =>
        let k := genNumber x
        (t.reach (t.genDomain k) ((t.gen k).lehr.endsAt (t.attrN (genRate k) (genInst k)))).genAligned k
    | .out n => s.when_ (s.timing && (s.outp n.val).lehr.e != 0 && !(s.outp n.val).lehr.stepping) fun t =>
        (t.reachGrid n.val ((t.outp n.val).lehr.endsAt (t.attrN Attr.output_lehr_rate n.val))).outAlignedNow n.val)

end Sys2Proof.Machine
end

