-- ==== Sys2Proof/Machine/Net.lean ====
section
/-! DEFINITION. Ports (R249 to R265, R271): links, delays, keys and host queues, the transmit buffer with its credits and
launch gates, transit frames, the hardware answers and ESMC. -/

namespace Sys2Proof.Machine

/-! ### Links and delays (R249, R250, R255) -/

/-- Whether ETHp transmits and receives: its link is UP and the module is neither in reset, DORMANT nor safe-talk. -/
def State.portUp (s : State) (p : Nat) : Bool :=
  s.timing && decide (s.boot.phase = .running) && s.flag Attr.port_enable p && s.flag Attr.port_link_state p

/-- Whether ETHp sends and accepts PTP messages (R250). -/
def State.portReady (s : State) (p : Nat) : Bool := s.portUp p && (s.port p).ready

/-- PORT_LINK_UP (R250): block lock and alignment. -/
def execPortLinkUp (p : Fin 4) (s : State) : Host.Outcome State Fault Refusal :=
  .next (s.when_ (s.timing && decide (s.boot.phase = .running) && s.flag Attr.port_enable p.val && !s.flag Attr.port_link_state p.val) fun t =>
    ((t.setPort p.val { t.port p.val with ready := false }).put1 Attr.port_link_state p.val 1).uncause (Ev.port p.val 0))

/-- A link is lost (R250): the responder stops, queued frames are dropped and their credits return; the frames of session
queues stay. -/
def State.linkDown (s : State) (p : Nat) (event : Bool) : State :=
  let t := (s.put1 Attr.port_link_state p 0).dropFrames p
  let u := t.setPort p { t.port p with ready := false, tokens := none }
  if event then u.raise (Ev.port p 0) true else u

/-- PORT_LINK_DOWN (R92, R250, R288): the receiver has lost block lock, and the port's SyncE channel its signal. -/
def execPortLinkDown (p : Fin 4) (s : State) : Host.Outcome State Fault Refusal :=
  .next (s.when_ (s.timing && s.flag Attr.port_link_state p.val) fun t =>
    let u := t.linkDown p.val true
    if u.inputOn (22 + p.val) then u.loseSignal (22 + p.val) else u)

/-- PTP_READY_AFTER_LINK (R250): 100 ms after link-up. -/
def execPtpReadyAfterLink (p : Fin 4) (s : State) : Host.Outcome State Fault Refusal :=
  .next (s.when_ (s.portUp p.val) fun t => t.setPort p.val { t.port p.val with ready := true })

/-- The time of a binding's domain at which a stamped message passed the MDI inwards (R255). -/
def State.rxTime (s : State) (p d count vernier : Nat) : Int := s.domTime d count vernier - s.rxDelay p

/-- The partner port of a pair (R253), if a port is paired. -/
def State.paired (s : State) (p : Nat) : Option Nat :=
  if s.flag Attr.port_tc_pair (p / 2 * 2) then some (if p % 2 = 0 then p + 1 else p - 1) else none

/-! ### Bindings in outline (R272, R274) -/

def State.bindUsed (s : State) (p k : Nat) : Bool := bindValid (s.binding p k)

/-- The run-time record of a binding that sends its next message. -/
def State.nextSeq (s : State) (p k : Nat) : Nat × State :=
  let r := s.bindRec p k
  (r.txSeq, s.setBindRec p k { r with txSeq := (r.txSeq + 1) % 65536 })

/-- A frame with the length of its bytes: at least the 60 of an Ethernet frame without its FCS. -/
def State.sized (s : State) (p : Nat) (f : TxFrame) : TxFrame :=
  if f.cls = .host then f else { f with length := max 60 (s.buildFrame p f).length }

/-- Whether a frame takes a launch descriptor (R264). -/
def TxFrame.needsDesc (f : TxFrame) : Bool := decide (f.cls = .session) && f.launch.isSome && decide (f.queue < 16384)

/-- A launch descriptor of a session that no frame of a port holds, if one of the 8 is free (R264). -/
def State.freeDesc (s : State) (p n : Nat) : Option Nat :=
  let held := (((s.port p).waiting ++ (s.port p).buffer).filter fun f => f.needsDesc && f.queue == n).filterMap (·.desc)
  (List.range 8).find? fun k => !held.contains k

/-- A timed frame of a session takes a launch descriptor, if one is free (R264, R385). -/
def State.takeDesc (s : State) (p : Nat) (f : TxFrame) : TxFrame :=
  if f.needsDesc then { f with desc := s.freeDesc p f.queue } else f

/-- Puts a frame into a port's queues. -/
def State.queueFrame (s : State) (p : Nat) (f : TxFrame) : State :=
  let g := s.takeDesc p (s.sized p f)
  (s.setPort p { s.port p with waiting := (s.port p).waiting ++ [g] }).tellDesc g .pending

/-- The oldest timed frame of a session that waits without a launch descriptor takes one that has become free (R264). -/
def State.passDesc (s : State) (p n : Nat) : State :=
  let waits (f : TxFrame) : Bool := f.needsDesc && f.queue == n && f.desc.isNone
  match takeFirst waits (s.port p).waiting, s.freeDesc p n with
  | some (f, _), some k =>
    let g := { f with desc := some k }
    let before := (s.port p).waiting.takeWhile fun x => !waits x
    let after := ((s.port p).waiting.dropWhile fun x => !waits x).drop 1
    (s.setPort p { s.port p with waiting := before ++ [g] ++ after }).tellDesc g .pending
  | _, _ => s

/-! ### Credits (R265) -/

def creditsOf (f : TxFrame) : Nat := (f.length + 255) / 256

/-- The credits that frames of a class hold. -/
def State.creditsUsed (s : State) (p : Nat) (c : FrameClass) : Nat :=
  ((((s.port p).buffer ++ (s.port p).leaving).filter fun f => decide (f.cls = c)).map creditsOf).sum

/-- The credits that frames of a class may hold now. -/
def State.creditLimit (s : State) (p : Nat) (c : FrameClass) : Nat :=
  match c with
  | .hardware => 256
  | .session => 4096 - 256 - s.creditsUsed p .host
  | .host => min (s.attrN Attr.port_host_credit_limit p) (4096 - 256 - s.creditsUsed p .session)

/-- Whether a frame finds credits in its class. -/
def State.creditFor (s : State) (p : Nat) (f : TxFrame) : Bool :=
  decide (s.creditsUsed p f.cls + creditsOf f ≤ s.creditLimit p f.cls)

/-- `credits` (R265): hardware, session, host, free. -/
def State.credits (s : State) (p e : Nat) : Nat :=
  match e with
  | 0 => s.creditsUsed p .hardware
  | 1 => s.creditsUsed p .session
  | 2 => s.creditsUsed p .host
  | _ => 4096 - (s.creditsUsed p .hardware + s.creditsUsed p .session + s.creditsUsed p .host)

/-- Whether a timed frame of a session holds one of its 8 launch descriptors (R264). -/
def TxFrame.hasDesc (f : TxFrame) : Bool := !f.needsDesc || f.desc.isSome

/-- The frame of a class that is next to enter the transmit buffer. -/
def State.nextFrame (s : State) (p : Nat) (c : FrameClass) : Option (TxFrame × List TxFrame) :=
  takeFirst (fun f => decide (f.cls = c) && f.hasDesc) (s.port p).waiting

/-! ### Host queues (R264, R287) -/

/-- The frames that stand in a host queue. -/
def State.queued (s : State) (p q : Nat) : Nat :=
  ((s.port p).waiting.filter fun f => decide (f.cls = .host) && f.queue == q).length

/-- Once a queue has room, the first send that waits for it enters it (R264). -/
def State.admitSend (s : State) (p q : Nat) : State :=
  if 64 ≤ s.queued p q then s
  else
    match takeFirst (fun f => f.queue == q) (s.port p).sends with
    | some (f, rest) => (s.setPort p { s.port p with sends := rest }).queueFrame p f
    | none => s

/-- PORT.SEND (R262, R264, R287) of the frame that host memory holds at the pointer: the command completes when its frame has left or has been dropped. -/
def execPortSend (who : Issuer) (queue flags tsOffset domain length launch : Nat) (frame : List Byte) (reachable : Bool)
    (s : State) : Host.Outcome State Fault Refusal :=
  let bytes := frame.take length ++ List.replicate (length - frame.length) 0
  let time := (commandTime launch).getD 0
  let p := s.queuePort queue
  let timed := bitOf flags 0
  let oneStep := bitOf flags 1
  let stamp := bitOf flags 2
  let named := timed || oneStep || stamp
  .next (s.act who
    { opcode := 0x0805, reachable := reachable, right := .hostQueue queue, inst := queue
      refusals := [(decide (63 < queue) || decide (length < 64) || decide (9216 < length) || (named && decide (511 < domain)) ||
          (oneStep && ((eventShape bytes).isNone || decide (tsOffset < 26) || decide (length < tsOffset + 10))) ||
          (timed && ((commandTime launch).isNone || (s.created domain && decide (s.domNow domain + secondUnits < time)))), E_RANGE),
        (decide (s.power = .standbyWarm) || !s.portUp p || (named && !s.created domain), E_STATE)] }
    fun t =>
      let f : TxFrame :=
        { cls := .host, queue := queue, length := length, launch := if timed then some (domain, time) else none, host := some who
          oneStep := oneStep, tsOffset := tsOffset, stamp := stamp, domain := domain, data := bytes }
      if t.queued p queue < 64 then t.queueFrame p f
      else t.setPort p { t.port p with sends := (t.port p).sends ++ [f] })

/-- PORT.HOSTQ (R264, R287). -/
def execHostq (who : Issuer) (queue port client policy : Nat) (s : State) : Host.Outcome State Fault Refusal :=
  .next (s.doAct who
    { opcode := 0x0804, inst := queue
      refusals := [(decide (63 < queue) || decide (3 < port) || decide (511 < client) || decide (1 < policy), E_RANGE),
        ((List.range 4).any (fun p => s.queued p queue != 0 || (s.port p).sends.any fun f => f.queue == queue), E_BUSY)] }
    fun t => t.put Attr.port_hostq 0 queue (port + 256 * client + 262144 * policy + 524288 : Nat))

/-! ### The transmit buffer (R262 to R265) -/

/-- Whether a SEVERE latch holds the domain that a frame of a binding originates from (R431). -/
def State.frameForced (s : State) (f : TxFrame) : Bool := decide (f.cls ≠ .host) && f.kind.isSome && s.domForced f.domain

/-- A frame enters the transmit buffer; its launch time may have passed (R263). -/
def State.enterBuffer (s : State) (p : Nat) (f : TxFrame) : State :=
  let late := match f.launch with
    | some l => decide (s.gateTime p l < s.domNow l.1)
    | none => false
  let r := if late then s.lateFrame p f else (some f, s)
  match r.1 with
  | some g => (r.2.setPort p { r.2.port p with buffer := (r.2.port p).buffer ++ [g] }).tellDesc g .inBuffer
  | none => r.2

/-- FRAME_ENQUEUE (R24, R36, R265, R431): the next frame of a class enters the buffer if it finds credits; firmware delivers those of
session and host queues; a frame of a domain held by a SEVERE latch is dropped before its first byte. -/
def execFrameEnqueue (p : Fin 4) (cls : FrameClass) (s : State) : Host.Outcome State Fault Refusal :=
  .next (match s.nextFrame p.val cls with
    | some (f, rest) => s.when_ (s.portUp p.val && !s.portForced p.val && (f.kind.isNone || (s.port p.val).ready) &&
        (decide (cls = .hardware) || s.control)) fun t =>
        let u := t.setPort p.val { t.port p.val with waiting := rest }
        if t.frameForced f then ((u.bump Attr.port_tx_drops p.val).tellDesc f .dropped).passDesc p.val f.queue
        else if t.creditFor p.val f then
          let v := (u.enterBuffer p.val f).uncause (Ev.port p.val 8)
          if cls = .host then v.admitSend p.val f.queue else v
        else t
    | none => s)

/-- CREDITS_EXHAUSTED (R288): a frame has waited for credits for more than 1 ms. -/
def execCreditsExhausted (p : Fin 4) (cls : FrameClass) (s : State) : Host.Outcome State Fault Refusal :=
  .next (match s.nextFrame p.val cls with
    | some (f, _) => s.when_ (s.portUp p.val && !s.creditFor p.val f) fun t => t.raise (Ev.port p.val 8) true
    | none => s)

/-- Which of two timed frames in the buffer leaves first (R263): by launch time, session queues before host queues, each
by queue number. -/
def State.beforeFrame (s : State) (f g : TxFrame) : Bool :=
  let due (x : TxFrame) : Int := match x.launch with
    | some l => l.2 - s.domNow l.1
    | none => 0
  let rank (x : TxFrame) : Nat := if x.cls = .host then 65536 + x.queue else x.queue
  decide (due f < due g) || (due f == due g && decide (rank f ≤ rank g))

/-- The timed frame of a port that is due first. -/
def State.firstTimed (s : State) (p : Nat) : Option TxFrame :=
  ((s.port p).buffer.filter fun f => f.launch.isSome && !f.released).foldl
    (fun best f => match best with
      | some g => if s.beforeFrame g f then some g else some f
      | none => some f) none

/-- LAUNCH_GATE_OPEN (R262, R263): the gate of the frame that is due first opens; while an earlier frame occupies the wire
it is late. -/
def execLaunchGateOpen (p : Fin 4) (s : State) : Host.Outcome State Fault Refusal :=
  .next (match s.firstTimed p.val with
    | some f => s.when_ (s.portUp p.val && (match f.launch with
        | some l => decide (s.gateTime p.val l ≤ s.domNow l.1)
        | none => false)) fun t =>
        match takeFirst (fun g => decide (g = f)) (t.port p.val).buffer with
        | some (_, rest) =>
          let u := t.setPort p.val { t.port p.val with buffer := rest }
          let r := if (t.port p.val).leaving.isEmpty then (some { f with released := true }, u) else u.lateFrame p.val f
          (match r.1 with
           | some g => r.2.setPort p.val { r.2.port p.val with buffer := g :: (r.2.port p.val).buffer }
           | none => r.2)
        | none => t
    | none => s)

/-- The hardware builds the second message of a two-step pair from the departure stamp (R257, R260). -/
def State.followUp (s : State) (p : Nat) (f : TxFrame) (departure : Int) : State :=
  let g (k : PtpKind) : TxFrame :=
    { cls := .hardware, kind := some k, slot := f.slot, seq := f.seq, domain := f.domain, receive := some departure, queue := 65535
      peer := f.peer, log := f.log, correction := f.correction }
  match f.kind with
  | some .sync => if f.twoStep then s.queueFrame p (g .followUp) else s
  | some .pdelayResp => s.queueFrame p (g .pdelayRespFollowUp)
  | some .delayReq => s.setBindRec p f.slot { s.bindRec p f.slot with delayReqSent := some (f.seq, departure) }
  | some .pdelayReq => s.setBindRec p f.slot { s.bindRec p f.slot with pdelaySent := some (f.seq, departure) }
  | _ => s

/-- The rate of a port in bits/ns (R249). -/
def State.bitRate (s : State) (p : Nat) : Nat := [10, 25, 50, 100].getD (s.attrN Attr.port_speed p) 100

/-- The time that a frame's transmission takes, in 2^-16 ns, rounded up. -/
def State.wireTime (s : State) (p : Nat) (f : TxFrame) : Int := ((f.length * 8 * 65536 + (s.bitRate p - 1)) / s.bitRate p : Nat)

/-- Whether a frame may start now (R263): an untimed frame, or a timed one whose launch comes later, ends at least 100 ns before the gate
of each timed frame that waits. -/
def State.mayStart (s : State) (p : Nat) (f : TxFrame) : Bool :=
  (s.port p).buffer.all fun g =>
    match g.launch with
    | some l => g.released || (f.launch.isSome && s.beforeFrame f g) || decide (s.domNow l.1 + s.wireTime p f + 100 * 65536 ≤ s.gateTime p l)
    | none => true

/-- FRAME_DEPARTURE (R255, R257, R258, R263): the SFD of a released timed frame, or else of the first untimed frame, passes the
PCS/PMA boundary; the departure at the MDI is stamped into it. -/
def execFrameDeparture (p : Fin 4) (count vernier : Nat) (s : State) : Host.Outcome State Fault Refusal :=
  let out := match takeFirst (fun f => f.released) (s.port p.val).buffer with
    | some r => some r
    | none => takeFirst (fun f => f.launch.isNone) (s.port p.val).buffer
  .next (match out with
    | some (f, rest) => s.when_ (s.portUp p.val && !s.portForced p.val && s.mayStart p.val f) fun t =>
        let departure := t.domTime f.domain count vernier + t.txDelay p.val
        let g := { f with departure := some departure, data := t.departing p.val f departure }
        let u := (t.setPort p.val { t.port p.val with buffer := rest, leaving := (t.port p.val).leaving ++ [g] }).emit (.frame p.val g)
        let v := if decide (f.cls = .session) && decide (f.queue < 16384) then u.bump Attr.session_tx_msgs f.queue else u
        ((v.tellDesc g (if g.late then .late else .sent)).passDesc p.val f.queue).followUp p.val f departure
    | none => s)

/-- FRAME_TRANSMIT_DONE (R264, R265): the last byte passes, the credits return, and a PORT.SEND completes. -/
def execFrameTransmitDone (p : Fin 4) (s : State) : Host.Outcome State Fault Refusal :=
  .next (match (s.port p.val).leaving with
    | f :: rest => s.when_ (s.portUp p.val) fun t =>
        (t.setPort p.val { t.port p.val with leaving := rest }).sendDone f (if f.late then 1 else 0)
    | [] => s)

/-! ### Transit and hardware answers (R253, R254, R261) -/

/-- The held key slot under which an AUTHENTICATION TLV verifies (R269): of its SPP and keyID, whose ICV of the bytes is that of the TLV. -/
def State.verifyingSlot (s : State) (a : AuthTlv) : Option Nat :=
  (List.range 256).find? fun k =>
    let v := s.attrN Attr.port_key_slots 0 k
    bitOf v 8 && v % 256 == a.spp && v / 2 ^ 32 == a.keyId && s.icv k a.covered == a.icv

/-- Whether an AUTHENTICATION TLV verifies against a held key slot (R269). -/
def State.tlvVerifies (s : State) (a : AuthTlv) : Bool :=
  !a.delayed && (s.verifyingSlot a).isSome

/-- The period word that a residence time is converted with (R261): that of a TRANSPARENT binding for the domainNumber on the ingress port,
one of the frame's transport first. -/
def State.residenceWord (s : State) (p domainNumber transport : Nat) : Nat :=
  let clear (k : Nat) : Bool := s.bindUsed p k && bindRole (s.binding p k) == 3 && bindNumber (s.binding p k) == domainNumber
  let found := ((List.range 32).find? fun k => clear k && bindTransport (s.binding p k) == transport).or ((List.range 32).find? clear)
  match found with
  | some k => ((s.dom (bindDomain (s.binding p k))).wordsAt s.counter).period
  | none => nominalPeriod.toNat

/-- A residence time from MDI to MDI (R255, R261): the counter's part between the PCS/PMA boundaries, in tick / 1024, and the delays of both
ports. -/
def State.residenceTime (s : State) (p q domainNumber transport residence : Nat) : Int :=
  ((residence * s.residenceWord p domainNumber transport + 2 ^ 41) / 2 ^ 42 : Nat) + s.rxDelay p + s.txDelay q

/-- The delayAsymmetry correction of a transparent clock: added at the ingress of Sync and Pdelay_Resp, subtracted at the
egress of Delay_Req and Pdelay_Req (R261; PRESUMED from IEEE 1588, log entry 19). -/
def State.transitAsymmetry (s : State) (p q : Nat) (k : TransitKind) : Int :=
  match k with
  | .sync => psUnits (s.attr Attr.port_delay_asymmetry p)
  | .pdelayResp => psUnits (s.attr Attr.port_delay_asymmetry p)
  | .delayReq => -psUnits (s.attr Attr.port_delay_asymmetry q)
  | .pdelayReq => -psUnits (s.attr Attr.port_delay_asymmetry q)
  | _ => 0

/-- Whether a transit frame is an event message. -/
def transitEvent : TransitKind → Bool
  | .followUp => false
  | .other => false
  | _ => true

/-- The frames in a port's transit FIFO now (R253). -/
def State.transitFifo (s : State) (p : Nat) : List (Nat × Nat) := (s.port p).fifo.filter fun e => decide (s.counter < e.1)

/-- Whether the 256 KiB FIFO has room for a frame (R253). -/
def State.fifoRoom (s : State) (p length : Nat) : Bool := decide (((s.transitFifo p).map (·.2)).sum + length ≤ 262144)

/-- A transit event message with the corrected field (R259, R261, R269): its UDP checksum updated, one of 0 on IPv4 kept, and its ICV formed
anew. -/
def State.forwardEvent (s : State) (q : Nat) (kind : TransitKind) (length transport checksum : Nat) (auth : Option AuthTlv) (old new : Int) :
    State :=
  let sum := if transport = 0 ∨ checksum = 0 then checksum else updatedChecksum checksum (intBytesBE 8 old) (intBytesBE 8 new)
  match auth.bind s.verifyingSlot, auth with
  | some k, some a =>
    let icv := s.icv k (overlay a.covered 8 (intBytesBE 8 new))
    s.emit (.forward q kind length new (if transport = 0 ∨ checksum = 0 then checksum else updatedChecksum sum a.icv icv) icv)
  | _, _ => s.emit (.forward q kind length new sum [])

/-- TRANSIT_FRAME_RECEIVED (R253, R259, R261, R269): a frame that fails its FCS or finds the FIFO full is dropped; an event message is
corrected by its residence time, in tick / 1024 between the PCS/PMA boundaries, unless its TLV verifies under no held key. -/
def execTransitFrameReceived (p : Fin 4) (kind : TransitKind) (length : Nat) (fcsOk : Bool) (auth : Option AuthTlv)
    (domainNumber transport residence checksum : Nat) (correction : Int) (s : State) : Host.Outcome State Fault Refusal :=
  .next (match s.paired p.val with
    | some q => s.when_ (s.portUp p.val && s.portUp q && !s.portForced p.val && !s.portForced q) fun t =>
        let known := match auth with
          | some a => t.tlvVerifies a
          | none => true
        if !fcsOk || !t.fifoRoom p.val length then (t.bump Attr.port_transit_drops p.val).raiseOnce (Ev.port p.val 9)
        else
          let u := t.setPort p.val { t.port p.val with fifo := t.transitFifo p.val ++ [(t.counter + residence / 1024, length)] }
          let asIs (v : State) : State := v.emit (.forward q kind length correction checksum ((auth.map (·.icv)).getD []))
          if !transitEvent kind then asIs u
          else if !known then asIs ((u.bump Attr.port_transit_uncorrected p.val).raiseOnce (Ev.port p.val 9))
          else
            u.forwardEvent q kind length transport checksum auth correction
              (correction + t.residenceTime p.val q domainNumber transport residence + t.transitAsymmetry p.val q kind)
    | none => s)

/-- The answer limit that a frame falls under: ARP, NDP or echo (R254). -/
def replyLimit : ReplyKind → Nat
  | .arp => 0
  | .ndp => 1
  | .echo4 => 2
  | .echo6 => 2

/-- Whether a port has the address that a frame of R254 asks for. -/
def State.answers (s : State) (p : Nat) (k : ReplyKind) : Bool :=
  match k with
  | .arp => s.attr Attr.port_ipv4_addr p != 0
  | .echo4 => s.attr Attr.port_ipv4_addr p != 0
  | _ => (List.range 16).any fun e => s.attr Attr.port_ipv6_addr p e != 0

/-- ARP_NDP_ECHO_RECEIVED (R254): answered in hardware, at most 100 per second of each kind; a frame with another tag, or
for an address that the port does not have, is ignored. -/
def execArpNdpEchoReceived (p : Fin 4) (kind : ReplyKind) (vlan : Nat) (s : State) : Host.Outcome State Fault Refusal :=
  .next (s.when_ (s.portUp p.val) fun t =>
    if (vlan : Int) ≠ t.attr Attr.port_vlan_id p.val ∨ !t.answers p.val kind then t.bump Attr.port_rx_ignored p.val
    else
      let r := t.port p.val
      let w := tblGet r.replies (0, 0) (replyLimit kind)
      let open_ := w.2 != 0 && decide (t.counter < w.1 + ticksPerSecond)
      if open_ && decide (100 ≤ w.2) then t
      else
        let next := if open_ then (w.1, w.2 + 1) else (t.counter, 1)
        (t.setPort p.val { r with replies := tblSet r.replies (0, 0) (replyLimit kind) next }).queueFrame p.val
          { cls := .hardware, queue := 65535, reply := some kind })

/-- FRAME_IGNORED (R254, R268): a frame that an unpaired port does not accept. -/
def execFrameIgnored (p : Fin 4) (s : State) : Host.Outcome State Fault Refusal :=
  .next (s.when_ (s.portUp p.val && (s.paired p.val).isNone) fun t => t.bump Attr.port_rx_ignored p.val)

/-! ### Keys (R269, R287) -/

/-- PORT.LOAD_KEY (R269, R287, R339): from the console it is denied. -/
def execLoadKey (who : Issuer) (slot spp icvLen keyId key : Nat) (s : State) : Host.Outcome State Fault Refusal :=
  .next (s.doAct who
    { opcode := 0x0802, inst := slot
      refusals := [(decide (who = .console), E_DENIED),
        (decide (255 < slot) || decide (255 < spp) || !(icvLen == 16 || icvLen == 32), E_RANGE)] }
    fun t =>
      let v := spp + 256 + (if icvLen = 32 then 512 else 0) + keyId % 2 ^ 32 * 2 ^ 32
      (t.put Attr.port_key_slots 0 slot (v : Nat)).put Shadow.keyValue 0 slot (key % 2 ^ 256 : Nat))

/-- Erases a key slot. -/
def State.eraseSlot (s : State) (k : Nat) : State := (s.put Attr.port_key_slots 0 k 0).put Shadow.keyValue 0 k 0

/-- PORT.ERASE_KEY (R269, R287): 0xFF erases all. -/
def execEraseKey (who : Issuer) (slot : Nat) (s : State) : Host.Outcome State Fault Refusal :=
  .next (s.doAct who { opcode := 0x0803, inst := slot, refusals := [(decide (255 < slot), E_RANGE)] }
    fun t => if slot = 255 then t.forEach (List.range 256) State.eraseSlot else t.eraseSlot slot)

/-! ### ESMC (R271, R107, R108) -/

/-- The grade that a port transmits (R271); none stands for do-not-use. -/
def State.esmcGrade (s : State) (p : Nat) : Option Nat :=
  let n := s.attrN Attr.syn_dpll_active (s.attrN Attr.port_ref_syn p)
  if s.attr Attr.port_esmc_override p ≠ 255 then some (s.attrN Attr.port_esmc_override p)
  else if 15 < n then some 9
  else if s.connected n = some (22 + p) then none
  else
    match s.qualityState n with
    | .acquire => some ((s.connected n).elim 9 s.sourceGrade)
    | .locked => some ((s.connected n).elim 9 s.sourceGrade)
    | .holdover => some (if s.isQ3 then 4 else 6)
    | _ => some 9

/-- The SSM code with the smallest grade not better than a grade (R107, R271). -/
def ssmFor (optionII : Bool) (g : Option Nat) : Nat :=
  let codes := if optionII then [(2, 1), (3, 0), (4, 7), (5, 4), (7, 13), (10, 10), (11, 12), (12, 14)]
    else [(2, 2), (4, 4), (6, 8), (9, 11)]
  match g with
  | none => 15
  | some x => ((codes.find? fun c => x ≤ c.1).map (·.2)).getD 15

/-- The enhanced SSM code (R108, R271): QL-ePRTC for grade 0, QL-PRTC for grade 1. -/
def essmFor (g : Option Nat) : Nat := if g = some 0 then 0x21 else if g = some 1 then 0x20 else 0xFF

/-- The quality that a port transmits now, as `esmc_tx_ql` encodes it; without the extended TLV the upper byte is 0xFF. -/
def State.esmcQuality (s : State) (p : Nat) : Nat :=
  let g := s.esmcGrade p
  ssmFor (s.attr Attr.port_esmc_option p == 1) g + 256 * (if s.flag Attr.port_esmc_extended p then essmFor g else 0xFF)

/-- The cascade counts of the extended TLV (R271): those received on the selected SYNCE channel, incremented, or 0 and 1. -/
def State.esmcCascade (s : State) (p : Nat) : Nat :=
  let n := s.attrN Attr.syn_dpll_active (s.attrN Attr.port_ref_syn p)
  match if 15 < n then none else s.connected n with
  | some x =>
    if 22 ≤ x ∧ x < 26 then
      let c := s.attrN Attr.input_essm_cascade x
      satNat 255 (c / 256 + 1) * 256 + satNat 255 (c % 256 + 1)
    else 1
  | none => 1

/-- Sends an ESMC PDU (R271). -/
def State.sendEsmc (s : State) (p : Nat) (event : Bool) : State :=
  let q := s.esmcQuality p
  let t := if (q : Int) = s.attr Attr.port_esmc_tx_ql p then s else (s.put1 Attr.port_esmc_tx_ql p q).raise (Ev.port p 10)
  t.queueFrame p { cls := .hardware, queue := 65535, esmc := some (event, q % 256, q / 256, s.esmcCascade p) }

/-- ESMC_INFORMATION_PDU (R271): once per second. -/
def execEsmcInformationPdu (p : Fin 4) (s : State) : Host.Outcome State Fault Refusal :=
  .next (s.when_ (s.engines && s.portUp p.val && s.flag Attr.port_esmc_enable p.val) fun t => t.sendEsmc p.val false)

/-- ESMC_EVENT_PDU (R271): the transmitted quality has changed. -/
def execEsmcEventPdu (p : Fin 4) (s : State) : Host.Outcome State Fault Refusal :=
  .next (s.when_ (s.engines && s.portUp p.val && s.flag Attr.port_esmc_enable p.val &&
      (s.esmcQuality p.val : Int) != s.attr Attr.port_esmc_tx_ql p.val) fun t => t.sendEsmc p.val true)

end Sys2Proof.Machine
end

