-- ==== Sys2Proof/Machine/Session.lean ====
section
/-! DEFINITION. Sessions and grants (R20, R278 to R286): budgets, creation and freeing, requests, grants, renewals and
backoff. -/

namespace Sys2Proof.Machine

/-! ### Engines and capacity (R20, R279) -/

/-- `event_capacity` in messages/s (R279). -/
def State.eventCapacity (s : State) : Nat := 4200000 * s.engineCount / 128

/-- The sessions that exist. -/
def State.sessions (s : State) : List Nat :=
  (s.net.sessions.filter fun e => s.attr Attr.session_sess_state e.1 != 0).map (·.1)

/-- The port and the slot of a session's binding. -/
def State.sessPort (s : State) (n : Nat) : Nat := s.attrN Attr.session_sess_binding n % 256
def State.sessSlot (s : State) (n : Nat) : Nat := s.attrN Attr.session_sess_binding n / 256

/-- The internal domain of a session's binding. -/
def State.sessDomain (s : State) (n : Nat) : Nat := bindDomain (s.binding (s.sessPort n) (s.sessSlot n))

/-- The sessions of a binding. -/
def State.sessionsOf (s : State) (p k : Nat) : List Nat :=
  s.sessions.filter fun n => s.attrN Attr.session_sess_binding n == k * 256 + p

/-- Whether a session is one in which the module is grantee. -/
def State.grantee (s : State) (n : Nat) : Bool := s.attr Attr.session_sess_role n == SessRole.grantee.code

/-- The session that a partner has on a binding (R278). -/
def State.partnerSession (s : State) (p k : Nat) (w : Partner) : Option Nat :=
  (s.sessionsOf p k).find? fun n => samePartner (s.sess n).partner w

/-- The sessions on an engine. -/
def State.engineLoad (s : State) (c e : Nat) : Nat :=
  (s.sessions.filter fun n => s.attrN Attr.session_sess_engine n == c * 256 + e).length

/-- The engines that serve the fewest sessions (R20). -/
def State.leastLoaded (s : State) : List (Nat × Nat) :=
  let loads := s.engineList.map fun x => (x, s.engineLoad x.1 x.2)
  let least := loads.foldl (fun m x => min m x.2) 128
  (loads.filter fun x => x.2 == least).map (·.1)

/-- The engine on which Holax places a new session (R20); which of several least loaded ones is its choice `pick`. -/
def State.placeEngine (s : State) (pick : Nat) : Nat :=
  pickEngine s.leastLoaded pick

/-- The lowest free session number. -/
def State.freeNumber (s : State) : Option Nat := (List.range 16384).find? fun n => s.attr Attr.session_sess_state n == 0

/-- Whether a session can still be created: fewer than 128 × E exist (R280, R287). -/
def State.sessionRoom (s : State) : Bool := decide (s.sessions.length < 128 * s.engineCount)

/-! ### Costs (R279), in eighths of a message per second -/

/-- 2^−logInterval messages/s, in eighths. -/
def rateEighths (log : Int) : Nat := 2 ^ (3 - log).toNat

/-- The cost of a grant. -/
def grantCost (t : Nat) (log : Int) : Nat := if t = 0 then 0 else rateEighths log

/-- The cost of a session: the sum of its grants in force. -/
def State.sessionCost (s : State) (n : Nat) : Nat :=
  ((List.range 3).map fun g =>
    let r := tblGet (s.sess n).grants {} g
    if r.expires.isSome then grantCost g r.log else 0).sum

/-- The default logSyncInterval of a profile code (R267). -/
def defaultSync (profile : Nat) : Int := [-3, 0, -4, -4, -3].getD profile 0

/-- logSyncInterval of a binding. -/
def logSync (e : Nat) : Int := if bindLogSync e = -128 then defaultSync (bindProfile e) else bindLogSync e

/-- The rate that a multicast binding in MASTER reserves (R279). -/
def State.masterReserve (s : State) (p : Nat) : Nat :=
  ((List.range 32).map fun k =>
    if s.bindUsed p k && bindMode (s.binding p k) != 1 && s.portState p k == 6 then rateEighths (logSync (s.binding p k)) else 0).sum

/-- `granted_rate` of a port, in eighths. -/
def State.grantedEighths (s : State) (p : Nat) : Nat :=
  ((s.sessions.filter fun n => s.sessPort n == p).map s.sessionCost).sum + s.masterReserve p

/-- `granted_rate` of a port in messages/s (R285). -/
def State.grantedRate (s : State) (p : Nat) : Nat := s.grantedEighths p / 8

/-- The sum over all ports, in eighths. -/
def State.grantedAll (s : State) : Nat := ((List.range 4).map s.grantedEighths).sum

/-- Whether a grant that costs `cost` in place of one that costs `old` keeps both budgets (R279, R280); while the sum
exceeds `event_capacity` it is costed at its full rate (R284). -/
def State.budgetFits (s : State) (p cost old : Nat) : Bool :=
  cost == 0 ||
    (decide (s.grantedEighths p + cost ≤ 8 * s.attrN Attr.port_grant_budget p + old) &&
      (if 8 * s.eventCapacity < s.grantedAll then decide (s.grantedAll + cost ≤ 8 * s.eventCapacity)
       else decide (s.grantedAll + cost ≤ 8 * s.eventCapacity + old)))

/-! ### Creation and freeing (R278, R282) -/

/-- The default logAnnounceInterval and logMinDelayReqInterval of a profile code (R267). -/
def defaultAnnounce (profile : Nat) : Int := [-2, 1, -3, 0, 0].getD profile 0
def defaultDelay (profile : Nat) : Int := [-3, 0, -4, -4, 0].getD profile 0

/-- The logInterval of a binding for a grant's message type: 0 Announce, 1 Sync, 2 Delay_Resp. -/
def logOf (e g : Nat) : Int :=
  match g with
  | 0 => if bindLogAnnounce e = -128 then defaultAnnounce (bindProfile e) else bindLogAnnounce e
  | 1 => logSync e
  | _ => if bindLogDelay e = -128 then defaultDelay (bindProfile e) else bindLogDelay e

/-- The TLV of unicast negotiation for a grant's message type (R266, R281; log entry 90). -/
def grantTlv (kind : PtpKind) (g : Nat) (log : Int) (duration : Nat) : List Byte :=
  let type := bytesBE 1 ([11, 0, 9].getD g 0 * 16)
  match kind with
  | .grantRequest => bytesBE 2 4 ++ bytesBE 2 6 ++ type ++ intBytesBE 1 log ++ bytesBE 4 duration
  | .grant => bytesBE 2 5 ++ bytesBE 2 8 ++ type ++ intBytesBE 1 log ++ bytesBE 4 duration ++ [0, 1]
  | .cancel => bytesBE 2 6 ++ bytesBE 2 2 ++ type ++ [0]
  | _ => bytesBE 2 7 ++ bytesBE 2 2 ++ type ++ [0]

/-- Queues a message of a session about the grant of a message type. -/
def State.sessionFrame (s : State) (n : Nat) (kind : PtpKind) (g : Nat) (log : Int) (duration : Option Nat) : State :=
  let p := s.sessPort n
  let k := s.sessSlot n
  let r := (s.useEntry n).nextSeq p k
  r.2.queueFrame p
    { cls := .session, queue := n, kind := some kind, slot := k, seq := r.1, domain := s.sessDomain n, duration := duration
      peer := (s.sess n).partner, body := grantTlv kind g log (duration.getD 0) }

/-- Creates a session (R278, R384): number `n` on a binding, towards a partner, with its whole entry at reset. -/
def State.createSession (s : State) (n p k : Nat) (role : SessRole) (st : SessState) (w : Partner) (addrType pick : Nat) : State :=
  let e := s.placeEngine pick
  let t : State := { s with net := { s.net with created := s.net.created + 1 } }
  let u := ((t.useEntry n).resetEntry n).setSess n { partner := w, addrType := addrType, order := s.net.created + 1 }
  (((u.put1 Attr.session_sess_state n st.code).put1 Attr.session_sess_role n role.code).put1 Attr.session_sess_binding n
    (k * 256 + p : Nat)).put1 Attr.session_sess_engine n e

/-- Frees a session: its attributes return to their defaults. -/
def State.freeSession (s : State) (n : Nat) : State := (s.resetKeys (keyOf .session n)).setSess n {}

/-- Gives a session a grant record. -/
def State.setGrant (s : State) (n g : Nat) (r : GrantRec) : State :=
  let t := s.setSess n { s.sess n with grants := tblSet (s.sess n).grants {} g r }
  t.put1 Attr.session_sess_cost n (t.sessionCost n / 8 : Nat)

/-- The grant record of a session for a message type. -/
def State.grant (s : State) (n g : Nat) : GrantRec := tblGet (s.sess n).grants {} g

/-- Whether a grant of a session is in force. -/
def State.granted (s : State) (n g : Nat) : Bool := (s.grant n g).expires.isSome

/-- Closes a session: CANCEL for each grant, then it is freed (R282). -/
def State.closeSession (s : State) (n : Nat) : State :=
  (s.forEach ((List.range 3).filter (s.granted n)) fun t g => t.sessionFrame n .cancel g 0 none).freeSession n

/-- The grantee asks for a grant (R281). -/
def State.askGrant (s : State) (n g : Nat) : State :=
  let e := s.binding (s.sessPort n) (s.sessSlot n)
  (s.setGrant n g { s.grant n g with asking := true, backoff := false, tries := 0, since := s.counter }).sessionFrame n .grantRequest g
    (logOf e g) (some (bindDuration e))

/-- SESSION.OPEN (R278, R282, R287). -/
def execSessionOpen (who : Issuer) (port slot addrType address pick : Nat) (s : State) : Host.Outcome State Fault Refusal :=
  let range := decide (3 < port) || decide (31 < slot) || !(addrType == 4 || addrType == 6)
  .next (s.act who
    { opcode := 0x1100, inst := slot
      right := if range then .owner0 else .domainOwner (bindDomain (s.binding port slot))
      refusals := [(range, E_RANGE), (decide (s.power = .standbyWarm), E_STATE), (!s.bindUsed port slot || bindMode (s.binding port slot) != 1, E_STATE),
        (decide (16 ≤ ((s.sessionsOf port slot).filter s.grantee).length) || !s.sessionRoom || s.freeNumber.isNone, E_IN_USE)] }
    fun t =>
      let n := t.freeNumber.getD 0
      if t.poisoned (sessionPage n) then t.finish who 0x1100 E_POISON slot else
      let u := t.createSession n port slot .grantee .requesting ⟨address, 0⟩ addrType pick
      (u.forEach [0, 1, 2] fun v g => v.askGrant n g).finish who 0x1100 0 slot (bytesLE 2 n))

/-- SESSION.CLOSE (R282, R287). -/
def execSessionClose (who : Issuer) (session : Nat) (s : State) : Host.Outcome State Fault Refusal :=
  let free := decide (16383 < session) || s.attr Attr.session_sess_state session == 0
  .next (s.act who
    { opcode := 0x1101, inst := session, right := if free then .owner0 else .domainOwner (s.sessDomain session)
      refusals := [(decide (16383 < session), E_RANGE), (decide (s.power = .standbyWarm), E_STATE), (free, E_STATE)] }
    fun t =>
      if t.poisoned (sessionPage session) then t.finish who 0x1101 E_POISON session
      else (t.closeSession session).finish who 0x1101 0 session)

/-! ### Authentication of received messages (R269) -/

/-- Whether a received message passes the authentication of its binding. -/
def State.authPasses (s : State) (p k : Nat) (h : PtpHead) : Bool :=
  bindSpp (s.binding p k) == 255 ||
    (match h.auth with
     | some a => a.spp == bindSpp (s.binding p k) && s.tlvVerifies a
     | none => false)

/-- Serves a message received on a binding: a port that takes no PTP or an unused slot takes nothing; a message that fails
authentication is dropped and counted (R250, R269). -/
def State.received (s : State) (p k : Nat) (h : PtpHead) (f : State → State) : State :=
  if !s.portReady p || !s.bindUsed p k then s
  else if s.authPasses p k h then f s
  else (s.bump Attr.port_auth_fail p).raiseOnce (Ev.port p 6)

/-- A session counts a message received, and the sequenceIds that it misses (R286). -/
def State.countReceived (s : State) (n kind seq : Nat) : State :=
  let r := s.sess n
  let lost : Nat := match tblFind r.lastSeq kind with
    | some q => (seq + 65535 - q) % 65536
    | none => 0
  (((s.useEntry n).setSess n { r with lastSeq := tblPut r.lastSeq kind seq }).bump Attr.session_rx_msgs n).add Attr.session_rx_lost n 0
    (if lost < 32768 then lost else 0)

/-- Counts a message for the session of its sender, if it has one. -/
def State.countFrom (s : State) (p k kind : Nat) (h : PtpHead) : State :=
  match s.partnerSession p k h.sender with
  | some n => s.countReceived n kind h.seq
  | none => s

/-! ### Grants as grantor (R278, R280) -/

/-- The number of a grant's message type (R286). -/
def grantIndex : GrantType → Nat
  | .announce => 0
  | .sync => 1
  | .delayResp => 2

/-- The unicast range of a logInterval under a profile code (R267). -/
def logRange (profile g : Nat) : Int × Int :=
  match g with
  | 0 => [(-3, 1), (0, 4), (-3, -3), (-3, 0), (-3, 3)].getD profile (0, 0)
  | 1 => [(-7, -1), (-7, 1), (-4, -4), (-7, 0), (-7, 3)].getD profile (0, 0)
  | _ => [(-7, -1), (-7, 5), (-4, -4), (-7, 0), (-3, 3)].getD profile (0, 0)

/-- Whether a log interval lies in a range. -/
def inRange (r : Int × Int) (x : Int) : Bool := decide (r.1 ≤ x) && decide (x ≤ r.2)

/-- Gives a grant (R280): durations are granted between 10 s and 1,000 s. -/
def State.giveGrant (s : State) (n g : Nat) (log : Int) (duration : Nat) : State :=
  let d := max 10 (min 1000 duration)
  ((s.setGrant n g { expires := some (s.counter + d * ticksPerSecond), log := log }).put Attr.session_grant_log n g log).sessionFrame n .grant
    g log (some d)

/-- A refusal with duration 0 (R280, R288). -/
def State.refuseGrant (s : State) (p k : Nat) (to_ : Partner) (g : Nat) (log : Int) : State :=
  let r := ((s.bump Attr.port_grant_refusals p).raiseOnce (Ev.port p 4)).nextSeq p k
  r.2.queueFrame p
    { cls := .session, queue := 65535, kind := some .grant, slot := k, seq := r.1, domain := bindDomain (s.binding p k), duration := some 0
      peer := to_, body := grantTlv .grant g log 0 }

/-- What the host-owned words of a session let the grantor grant (R383): Sync and Delay_Resp no finer than MAX_RATE_LOG,
and no renewal under DRAIN. -/
def State.hostAllows (s : State) (n g : Nat) (log : Int) : Bool :=
  (g == 0 || decide (s.maxRateLog n ≤ log)) && !(s.drain n && s.granted n g)

/-- GRANT_REQUEST_RECEIVED (R278, R280, R284, R383). -/
def execGrantRequestReceived (p : Fin 4) (slot : Fin 32) (head : PtpHead) (type : GrantType) (log : Int) (duration pick : Nat)
    (s : State) : Host.Outcome State Fault Refusal :=
  .next (s.when_ s.engines fun t => t.received p.val slot.val head fun u =>
    let e := u.binding p.val slot.val
    let g := grantIndex type
    let master := bindMode e == 1 && decide (bindRole e ≤ 1)
    let has := u.partnerSession p.val slot.val head.sender
    let old := match has with
      | some n => if u.granted n g then grantCost g (u.grant n g).log else 0
      | none => 0
    let host := match has with
      | some n => u.hostAllows n g log
      | none => true
    let ok := master && inRange (logRange (bindProfile e) g) log && u.budgetFits p.val (grantCost g log) old && host
    match has, ok with
    | some n, true => (u.countReceived n 3 head.seq).giveGrant n g log duration
    | none, true =>
      (match u.freeNumber, u.sessionRoom with
       | some n, true =>
         ((u.createSession n p.val slot.val .grantor .granted head.sender (if bindTransport e = 1 then 4 else 6) pick).countReceived n 3
           head.seq).giveGrant n g log duration
       | _, _ => u.refuseGrant p.val slot.val head.sender g log)
    | _, false => u.refuseGrant p.val slot.val head.sender g log)

/-- A grant has ended (R281, R282, R383): a session without grants is freed where the module is grantor or DRAIN is set;
otherwise a grantee asks again. -/
def State.endGrant (s : State) (n g : Nat) : State :=
  let t := s.setGrant n g { s.grant n g with expires := none }
  if t.grantee n && !t.drain n then
    if (t.grant n g).asking || (t.grant n g).backoff then t
    else (t.put1 Attr.session_sess_state n SessState.requesting.code).askGrant n g
  else if (List.range 3).any (t.granted n) then t
  else t.freeSession n

/-- CANCEL_RECEIVED (R281): the grant ends at once and is acknowledged. -/
def execCancelReceived (session : Fin 16384) (type : GrantType) (s : State) : Host.Outcome State Fault Refusal :=
  .next (s.when_ (s.engines && s.portReady (s.sessPort session.val) && s.granted session.val (grantIndex type)) fun t =>
    ((t.bump Attr.session_rx_msgs session.val).sessionFrame session.val .ackCancel (grantIndex type) 0 none).endGrant session.val (grantIndex type))

/-- GRANT_EXPIRY (R281, R282): the instant at which a grant ends. -/
def execGrantExpiry (session : Fin 16384) (type : GrantType) (s : State) : Host.Outcome State Fault Refusal :=
  .next (match (s.grant session.val (grantIndex type)).expires with
    | some e => s.when_ s.engines fun t => (t.advance e).endGrant session.val (grantIndex type)
    | none => s)

/-! ### Grants as grantee (R281, R282) -/

/-- Whether the domain reference of a session was disqualified by an Announce timeout of its master and has not been set
again (R145). -/
def State.timedOut (s : State) (n : Nat) : Bool := (s.dom (s.sessDomain n)).ref.timedOut == some (s.sessPort n, s.sessSlot n)

/-- The state of a grantee session once a grant has arrived (R282). -/
def State.judgeGrantee (s : State) (n : Nat) : State :=
  if (List.range 3).all (s.granted n) then s.put1 Attr.session_sess_state n SessState.granted.code else s

/-- GRANT_RECEIVED (R281, R282, R286): duration 0 is a refusal. -/
def execGrantReceived (session : Fin 16384) (type : GrantType) (log : Int) (duration : Nat) (s : State) :
    Host.Outcome State Fault Refusal :=
  let n := session.val
  let g := grantIndex type
  .next (s.when_ (s.engines && s.attr Attr.session_sess_state n != 0 && s.grantee n && s.portReady (s.sessPort n)) fun t =>
    let u := t.bump Attr.session_rx_msgs n
    if duration = 0 then u.bump Attr.session_refusals_rx n
    else
      let v := if u.timedOut n then u.bump Attr.session_late_completions n else u
      ((v.setGrant n g { expires := some (v.counter + duration * ticksPerSecond), log := log }).put Attr.session_grant_log n g log).judgeGrantee n)

/-- GRANT_RETRY_TIMEOUT (R281): no GRANT within 1 s. -/
def execGrantRetryTimeout (session : Fin 16384) (type : GrantType) (s : State) : Host.Outcome State Fault Refusal :=
  let n := session.val
  let g := grantIndex type
  .next (s.when_ (s.engines && (s.grant n g).asking) fun s0 =>
    let t := s0.advance ((s0.grant n g).since + ticksPerSecond)
    let r := t.grant n g
    let e := t.binding (t.sessPort n) (t.sessSlot n)
    if r.tries < bindRetries e then
      ((t.setGrant n g { r with tries := r.tries + 1, since := t.counter }).bump Attr.session_retries n).sessionFrame n .grantRequest g
        (logOf e g) (some (bindDuration e))
    else
      ((t.setGrant n g { r with asking := false, backoff := true, tries := 0, since := t.counter }).bump Attr.session_grants_exhausted n).put1
        Attr.session_sess_state n SessState.backoff.code)

/-- BACKOFF_END (R281, R282): after 10 s a new round of requests starts. -/
def execBackoffEnd (session : Fin 16384) (type : GrantType) (s : State) : Host.Outcome State Fault Refusal :=
  let n := session.val
  .next (s.when_ (s.engines && (s.grant n (grantIndex type)).backoff) fun s0 =>
    let t := s0.advance ((s0.grant n (grantIndex type)).since + 10 * ticksPerSecond)
    (t.put1 Attr.session_sess_state n SessState.requesting.code).askGrant n (grantIndex type))

/-- GRANT_RENEW (R281, R282, R383): RENEW_LEAD before a grant ends; none is requested under DRAIN. -/
def execGrantRenew (session : Fin 16384) (type : GrantType) (s : State) : Host.Outcome State Fault Refusal :=
  let n := session.val
  .next (s.when_ (s.engines && s.grantee n && s.granted n (grantIndex type) && !(s.grant n (grantIndex type)).asking && !s.drain n) fun s0 =>
    let lead := bindRenewLead (s0.binding (s0.sessPort n) (s0.sessSlot n)) * (ticksPerSecond / 10)
    let t := s0.advance (((s0.grant n (grantIndex type)).expires.getD 0) - lead)
    (t.put1 Attr.session_sess_state n SessState.renewing.code).askGrant n (grantIndex type))

/-! ### Binding slots (R272, R273) -/

/-- The modes, transports and domain numbers of a profile code (R267, R268). -/
def profileModes (profile : Nat) : List Nat := [[0, 1, 2], [0, 2], [0], [1], [0]].getD profile []
def profileTransports (profile : Nat) : List Nat := [[1, 2], [1, 2], [0], [1, 2], [0]].getD profile []
def profileNumbers (profile : Nat) : Nat × Nat := [(0, 127), (0, 127), (24, 43), (44, 63), (0, 127)].getD profile (1, 0)
def profileTimeout (profile : Nat) : Nat × Nat := [(2, 10), (2, 10), (3, 3), (2, 10), (2, 10)].getD profile (1, 0)

/-- Whether an interval field holds 0x80 or lies in its profile's range. -/
def logFieldOk (profile g : Nat) (x : Int) : Bool := x == -128 || inRange (logRange profile g) x

/-- Whether every field of a binding entry lies in its range (R267, R268, R272, R273). -/
def entryOk (e : Nat) : Bool :=
  let f := bindProfile e
  decide (f ≤ 4) && (profileTransports f).contains (bindTransport e) && (profileModes f).contains (bindMode e) &&
    decide ((profileNumbers f).1 ≤ bindNumber e) && decide (bindNumber e ≤ (profileNumbers f).2) &&
    logFieldOk f 0 (bindLogAnnounce e) && logFieldOk f 1 (bindLogSync e) && logFieldOk f 2 (bindLogDelay e) &&
    (bindTimeout e == 0 || (decide ((profileTimeout f).1 ≤ bindTimeout e) && decide (bindTimeout e ≤ (profileTimeout f).2))) &&
    (decide (1 ≤ bindLocalPriority e) || !(f == 2 || f == 3)) && decide (1 ≤ bindSoak e) && decide (bindSoak e ≤ 3600) &&
    decide (10 ≤ bindQualLimit e) && decide (bindQualLimit e ≤ 1000000) && decide (1 ≤ bindHoldLimit e) &&
    decide (bindHoldLimit e ≤ 36000) && decide (bindRetries e ≤ 10) && decide (10 ≤ bindDuration e) && decide (bindDuration e ≤ 1000)

/-- Whether a port has the address that a transport needs (R273). -/
def State.transportOk (s : State) (p transport : Nat) : Bool :=
  if transport = 1 then s.attr Attr.port_ipv4_addr p != 0
  else if transport = 2 then (List.range 16).any fun e => s.attr Attr.port_ipv6_addr p e != 0
  else true

/-- The entry as a slot holds it (R12, R272): VALID set, STEP forced under AS2020, reserved bits 0. -/
def storedEntry (e : Nat) : Nat :=
  let low := e % 2 ^ 20
  let step := if bindProfile e = 4 ∧ !bitOf e 16 then 65536 else 0
  low + step + 2 ^ 20 + field e 24 65 * 2 ^ 24 + field e 96 128 * 2 ^ 96

/-- PORT.BIND (R273, R287). A new binding is LISTENING. -/
def execPortBind (who : Issuer) (port slot entry : Nat) (s : State) : Host.Outcome State Fault Refusal :=
  let e := entry
  .next (s.doAct who
    { opcode := 0x0800, inst := port
      refusals := [(decide (3 < port) || decide (31 < slot) || !entryOk e || !s.transportOk port (bindTransport e), E_RANGE), (decide (s.power = .standbyWarm), E_STATE),
        (!s.created (bindDomain e) || (bindRole e == 2 && (s.boundDpll (bindDomain e)).isSome) ||
          (bindRole e == 3 && (s.paired port).isNone), E_STATE),
        (s.bindUsed port slot || (List.range 32).any (fun k => s.bindUsed port k && bindNumber (s.binding port k) == bindNumber e &&
          bindTransport (s.binding port k) == bindTransport e), E_IN_USE)] }
    fun t => (((t.put Attr.port_bindings port slot (storedEntry e % 2 ^ 224 : Nat)).setBindRec port slot { since := t.counter }).put Attr.port_binding_state port
      slot 4))

/-- PORT.UNBIND (R273, R287): takes effect at the next 1 ms boundary. -/
def execPortUnbind (who : Issuer) (port slot : Nat) (s : State) : Host.Outcome State Fault Refusal :=
  .next (s.doAct who
    { opcode := 0x0801, inst := port
      refusals := [(decide (3 < port) || decide (31 < slot), E_RANGE), (decide (s.power = .standbyWarm), E_STATE), (!s.bindUsed port slot, E_STATE)] }
    fun t => t.setBindRec port slot { t.bindRec port slot with unbinding := true })

/-- PORT_UNBIND_APPLY (R273): VALID is cleared, and the sessions of the slot are cancelled and closed. -/
def execPortUnbindApply (p : Fin 4) (slot : Fin 32) (s : State) : Host.Outcome State Fault Refusal :=
  .next (s.when_ (s.firmware && (s.bindRec p.val slot.val).unbinding) fun t =>
    let u := t.forEach (t.sessionsOf p.val slot.val) State.closeSession
    ((u.put Attr.port_bindings p.val slot.val ((u.binding p.val slot.val - 2 ^ 20 : Nat) : Int)).setBindRec p.val slot.val {}).put
      Attr.port_binding_state p.val slot.val 0 |>.enforceLimit)

end Sys2Proof.Machine
end

