-- ==== Sys2Proof/Machine/Ptp.lean ====
section
/-! DEFINITION. PTP messages (R255 to R261, R266 to R270, R274 to R277, R283): what a binding receives and sends, its
measurements, the masters that it hears, and the stateless responder. -/

namespace Sys2Proof.Machine

/-- Whether a binding follows its parent: UNCALIBRATED or SLAVE. -/
def State.following (s : State) (p k : Nat) : Bool := s.portState p k == 8 || s.portState p k == 9

/-- Whether a message comes from the parent of a binding that follows it. -/
def State.fromParent (s : State) (p k : Nat) (h : PtpHead) : Bool :=
  s.following p k && (s.bindRec p k).parent == some h.sender

/-- The announceInterval of a binding in ticks (R267). -/
def announceTicks (e : Nat) : Nat := ticksPerSecond * 2 ^ (logOf e 0 + 8).toNat / 256

/-- announceReceiptTimeout of a binding in intervals (R267, R272): 3 where the entry takes the profile's default. -/
def announceTimeouts (e : Nat) : Nat := if bindTimeout e = 0 then 3 else bindTimeout e

/-- A binding hears an Announce (R274). A master that has been silent for longer than its timeout and the foreign master window is
forgotten. -/
def BindRec.hear (r : BindRec) (e : Nat) (w : Partner) (a : AnnounceFields) (now : Nat) : BindRec :=
  { r with foreign :=
      { sender := w, fields := a, last := now, before := (r.foreign.find? fun f => f.sender == w).map (·.last) } ::
        r.foreign.filter fun f => f.sender != w && decide (now ≤ f.last + max 4 (announceTimeouts e) * announceTicks e) }

/-- When the Announce of a binding's parent times out (R145, R267): announceReceiptTimeout intervals after the last. -/
def State.announceDue (s : State) (p k : Nat) : Nat :=
  match (s.bindRec p k).foreign.find? fun f => some f.sender == (s.bindRec p k).parent with
  | some f => f.last + announceTimeouts (s.binding p k) * announceTicks (s.binding p k)
  | none => s.counter

/-- A grantee session learns its master's portIdentity. -/
def State.learnPartner (s : State) (p k : Nat) (w : Partner) : State :=
  match s.partnerSession p k w with
  | some n => if (s.sess n).partner.portId = 0 then s.setSess n { s.sess n with partner := w } else s
  | none => s

/-- The domains whose reference in use is the master that DOMAIN d follows (R80): d itself while it is virtual, and the domains
whose DPLL has DOMAIN d in use. -/
def State.taughtBy (s : State) (d : Nat) : List Nat := (if s.virtual d then [d] else []) ++ s.domainsOn (64 + d)

/-- ANNOUNCE_RECEIVED (R80, R145, R274, R275, R277): an Announce is kept for the BMCA; the parent's is kept for grading, teaches its
domains, and clears the reference's flag at once where it grades 15. -/
def execAnnounceReceived (p : Fin 4) (slot : Fin 32) (head : PtpHead) (fields : AnnounceFields) (s : State) :
    Host.Outcome State Fault Refusal :=
  let k := slot.val
  .next (s.when_ s.engines fun t => t.received p.val k head fun u =>
    let v0 := (u.learnPartner p.val k head.sender).countFrom p.val k 0 head
    let v := v0.setBindRec p.val k ((v0.bindRec p.val k).hear (v0.binding p.val k) head.sender fields v0.counter)
    if (v.bindRec p.val k).parent = some head.sender then
      let d := bindDomain (v.binding p.val k)
      let w := v.setBindRec p.val k { v.bindRec p.val k with announce := some fields, announceAlive := true }
      let x := if announceGrade fields.clockClass fields.clockAccuracy = 15 then w.setQualified d false else w
      if x.portState p.val k = 9 then x.forEach (x.taughtBy d) fun y e => y.learnUtc e fields.utc else x
    else v)

/-- delayAsymmetry of a port in 2^-16 ns (R255). -/
def State.asymmetry (s : State) (p k : Nat) (w : Partner) : Int :=
  let corr := match s.partnerSession p k w with
    | some n => if s.grantee n then s.asymCorr n else 0
    | none => 0
  psUnits (s.attr Attr.port_delay_asymmetry p + corr)

/-- A measurement of a binding is passed to its domain's servo, and reported in its grantee session (R286). -/
def State.measured (s : State) (p k : Nat) (r : BindRec) : State :=
  let t := s.setBindRec p k r
  match r.parent with
  | some w =>
    match (t.granteeOf p k w).head? with
    | some n => (t.put1 Attr.session_offset_from_master n (r.masterToSlave - r.pathDelay)).put1 Attr.session_mean_path_delay n r.pathDelay
    | none => t
  | none => t

/-- The mean path delay after a new measurement (R255, R266). -/
def BindRec.mean (r : BindRec) : BindRec := { r with pathDelay := (r.masterToSlave + r.slaveToMaster) / 2 }

/-- SYNC_RECEIVED (R255, R257): stamped on receipt; a one-step Sync carries its origin, a two-step one waits for its
Follow_Up. -/
def execSyncReceived (p : Fin 4) (slot : Fin 32) (head : PtpHead) (twoStep : Bool) (count vernier : Nat) (origin correction : Int)
    (s : State) : Host.Outcome State Fault Refusal :=
  let k := slot.val
  .next (s.when_ s.engines fun t => t.received p.val k head fun u =>
    let v := u.countFrom p.val k 1 head
    if v.fromParent p.val k head then
      let at_ := v.rxTime p.val (bindDomain (v.binding p.val k)) count vernier
      let r := v.bindRec p.val k
      if twoStep then v.setBindRec p.val k { r with awaiting := some (head.seq, at_, correction) }
      else v.measured p.val k { r with awaiting := none, masterToSlave := at_ - (origin + correction) - v.asymmetry p.val k head.sender }
    else v)

/-- FOLLOW_UP_RECEIVED (R257): the precise origin of the Sync that waits for it. -/
def execFollowUpReceived (p : Fin 4) (slot : Fin 32) (head : PtpHead) (origin correction : Int) (s : State) :
    Host.Outcome State Fault Refusal :=
  let k := slot.val
  .next (s.when_ s.engines fun t => t.received p.val k head fun u =>
    let r := u.bindRec p.val k
    match r.awaiting with
    | some (q, at_, c) =>
      if u.fromParent p.val k head && q == head.seq then
        u.measured p.val k { r with awaiting := none, masterToSlave := at_ - (origin + correction + c) - u.asymmetry p.val k head.sender }
      else u
    | none => u)

/-- DELAY_RESP_RECEIVED (R257, R266): the receive time of the Delay_Req last sent. -/
def execDelayRespReceived (p : Fin 4) (slot : Fin 32) (head : PtpHead) (receive correction : Int) (s : State) :
    Host.Outcome State Fault Refusal :=
  let k := slot.val
  .next (s.when_ s.engines fun t => t.received p.val k head fun u =>
    let v := u.countFrom p.val k 2 head
    let r := v.bindRec p.val k
    match r.delayReqSent with
    | some (q, sent) =>
      if v.fromParent p.val k head && q == head.seq then
        v.measured p.val k ({ r with delayReqSent := none, slaveToMaster := receive - correction - sent + v.asymmetry p.val k head.sender }.mean)
      else v
    | none => v)

/-- neighborRateRatio less 1 in 2^-41 (R267; PRESUMED from IEEE 802.1AS, log entry 92): the neighbour's time between two of its responses
over the module's time between their arrivals; 0 before the second. -/
def rateRatio (last : Option (Int × Int)) (response arrival : Int) : Int :=
  match last with
  | some (a, b) => if arrival ≤ b then 0 else ((response - a) - (arrival - b)) * 2 ^ 41 / (arrival - b)
  | none => 0

/-- The link delay of a peer-delay exchange (R267): half of the module's round trip, by the neighbour's rate, less the neighbour's. -/
def linkDelay (ratio sent request response arrival : Int) : Int :=
  ((arrival - sent) + (arrival - sent) * ratio / 2 ^ 41 - (response - request)) / 2

/-- PDELAY_RESP_RECEIVED (R255, R267): the response of an AS2020 neighbour, stamped on receipt, with the times at which the neighbour took
the request and sent the response, its correctionFields in them; asCapable up to 800 ns. -/
def execPdelayRespReceived (p : Fin 4) (slot : Fin 32) (head : PtpHead) (count vernier : Nat) (request response : Int) (s : State) :
    Host.Outcome State Fault Refusal :=
  let k := slot.val
  .next (s.when_ s.engines fun t => t.received p.val k head fun u =>
    let r := u.bindRec p.val k
    match r.pdelaySent with
    | some (q, sent) =>
      if bindProfile (u.binding p.val k) = 4 && q == head.seq then
        let arrival := u.rxTime p.val (bindDomain (u.binding p.val k)) count vernier
        let ratio := rateRatio r.pdelayLast response arrival
        let delay := linkDelay ratio sent request response arrival - psUnits (u.attr Attr.port_delay_asymmetry p.val)
        u.measured p.val k { r with pathDelay := delay, rateRatio := ratio, asCapable := decide (delay ≤ 800 * 65536)
                                    pdelaySent := none, pdelayLast := some (response, arrival) }
      else u
    | none => u)

/-! ### The stateless responder (R283) -/

/-- The tokens of a port's responder now, in messages × ticks per second: `mcast_budget` a second, 10 ms deep. -/
def State.tokens (s : State) (p : Nat) : Nat :=
  let rate := s.attrN Attr.port_mcast_budget p
  let top := rate * ticksPerSecond / 100
  match (s.port p).tokens with
  | some (x, t) => min top (x + rate * (s.counter - t))
  | none => top

/-- The responder answers a message, or drops it beyond its budget (R283). -/
def State.respond (s : State) (p : Nat) (f : TxFrame) : State :=
  let x := s.tokens p
  if x < ticksPerSecond then (s.bump Attr.port_stateless_drops p).raiseOnce (Ev.port p 5)
  else (s.setPort p { s.port p with tokens := some (x - ticksPerSecond, s.counter) }).queueFrame p f

/-- DELAY_REQ_RECEIVED (R257, R260, R283): multicast, and unicast on a HYBRID binding, by the responder in hardware; a
session partner by its session's task. -/
def execDelayReqReceived (p : Fin 4) (slot : Fin 32) (head : PtpHead) (unicast : Bool) (count vernier : Nat) (correction : Int)
    (s : State) : Host.Outcome State Fault Refusal :=
  let k := slot.val
  .next (s.when_ s.timing fun t => t.received p.val k head fun u =>
    let e := u.binding p.val k
    let d := bindDomain e
    let f : TxFrame :=
      { cls := .hardware, queue := 65535, kind := some .delayResp, slot := k, seq := head.seq, domain := d
        receive := some (u.rxTime p.val d count vernier), correction := correction, log := logOf e 2
        peer := if unicast then head.sender else ⟨0, head.sender.portId⟩ }
    if u.portState p.val k ≠ 6 then u
    else if !unicast || bindMode e == 2 then u.respond p.val f
    else
      match u.partnerSession p.val k head.sender with
      | some n =>
        if u.engines && u.granted n 2 then (u.countReceived n 2 head.seq).queueFrame p.val { f with cls := .session, queue := n } else u
      | none => u)

/-- PDELAY_REQ_RECEIVED (R260, R283): answered by the responder under AS2020. -/
def execPdelayReqReceived (p : Fin 4) (slot : Fin 32) (head : PtpHead) (count vernier : Nat) (correction : Int) (s : State) :
    Host.Outcome State Fault Refusal :=
  let k := slot.val
  .next (s.when_ s.timing fun t => t.received p.val k head fun u =>
    let e := u.binding p.val k
    if bindProfile e = 4 then
      u.respond p.val
        { cls := .hardware, queue := 65535, kind := some .pdelayResp, slot := k, seq := head.seq, domain := bindDomain e
          receive := some (u.rxTime p.val (bindDomain e) count vernier), correction := correction, peer := ⟨0, head.sender.portId⟩ }
    else u)

/-! ### What a binding sends (R262, R264, R275) -/

/-- The binding of a domain that follows a parent whose Announce is alive. -/
def State.boundary (s : State) (d : Nat) : Option AnnounceFields :=
  match s.slaveBinding d with
  | some (p, k) => (s.bindRec p k).announce
  | none => none

/-- What an Announce of a binding carries (R275): its own clock's quality (R276), or in a boundary role its parent's
grandmaster. -/
def State.announceOf (s : State) (p k : Nat) : AnnounceOut :=
  let e := s.binding p k
  let d := bindDomain e
  let q := s.clockQuality d (bindProfile e)
  let ptp := s.attr Attr.domain_timescale d == 0
  match s.boundary d with
  | some a =>
    { cls := a.clockClass, accuracy := a.clockAccuracy, variance := a.clockVariance, source := a.timeSource, priority1 := a.priority1
      priority2 := a.priority2, steps := a.stepsRemoved + 1, ptpTimescale := ptp, gmIdentity := a.gmIdentity
      timeTraceable := a.clockClass == 6 || a.clockClass == 7
      freqTraceable := decide (announceGrade a.clockClass a.clockAccuracy ≤ 4), utc := s.utcFields d }
  | none =>
    { cls := q.cls, accuracy := q.accuracy, variance := q.variance, source := q.source, priority1 := bindPriority1 e
      priority2 := bindPriority2 e, steps := 0, ptpTimescale := ptp, gmIdentity := s.clockIdentity, timeTraceable := q.cls == 6 || q.cls == 7
      freqTraceable := decide (announceGrade q.cls q.accuracy ≤ 4), utc := s.utcFields d }

/-! ### Management (R270) -/

/-- managementId of a data set. -/
def managementId : MgmtId → Nat
  | .defaultDs => 0x2000
  | .currentDs => 0x2001
  | .parentDs => 0x2002
  | .timePropertiesDs => 0x2003
  | .portDs => 0x2004
  | .other id => id.val

/-- clockQuality and its neighbours as they stand in a data set: clockClass, clockAccuracy and the variance. -/
def qualityBytes (a : AnnounceOut) : List Byte := bytesBE 1 a.cls ++ bytesBE 1 a.accuracy ++ bytesBE 2 a.variance

/-- A data set of a binding as IEEE 1588 lays it out (R270; layout PRESUMED, log entry 90). -/
def State.dataSet (s : State) (p k : Nat) : MgmtId → List Byte
  | .defaultDs =>
    let e := s.binding p k
    let q := s.clockQuality (bindDomain e) (bindProfile e)
    bytesBE 1 (boolNat (bindTwoStep e) + 2 * boolNat (bindRole e == 2)) ++ [0] ++ bytesBE 2 128 ++ bytesBE 1 (bindPriority1 e) ++
      bytesBE 1 q.cls ++ bytesBE 1 q.accuracy ++ bytesBE 2 q.variance ++ bytesBE 1 (bindPriority2 e) ++ bytesBE 8 s.clockIdentity ++
      bytesBE 1 (bindNumber e) ++ [0]
  | .currentDs =>
    let b := s.bindRec p k
    let steps := ((s.boundary (bindDomain (s.binding p k))).map fun a => a.stepsRemoved + 1).getD 0
    let offset := if b.parent.isSome then b.masterToSlave - b.pathDelay else 0
    bytesBE 2 steps ++ intBytesBE 8 offset ++ intBytesBE 8 b.pathDelay
  | .parentDs =>
    let a := s.announceOf p k
    let parent := (((s.slaveBinding (bindDomain (s.binding p k))).bind fun x => (s.bindRec x.1 x.2).parent).map (·.portId)).getD
      (s.clockIdentity * 65536)
    bytesBE 10 parent ++ [0, 0, 0xFF, 0xFF, 0x7F, 0xFF, 0xFF, 0xFF] ++ bytesBE 1 a.priority1 ++ qualityBytes a ++ bytesBE 1 a.priority2 ++
      bytesBE 8 a.gmIdentity
  | .timePropertiesDs =>
    let a := s.announceOf p k
    intBytesBE 2 (a.utc.offset.getD 0) ++ bytesBE 1 (announceFlags a) ++ bytesBE 1 a.source
  | .portDs =>
    let e := s.binding p k
    bytesBE 10 (s.portIdentity p k) ++ bytesBE 1 (s.portState p k) ++ intBytesBE 1 (logOf e 2) ++
      intBytesBE 8 (if bindProfile e = 4 then (s.bindRec p k).pathDelay else 0) ++ intBytesBE 1 (logOf e 0) ++ bytesBE 1 (announceTimeouts e) ++
      intBytesBE 1 (logOf e 1) ++ bytesBE 1 (if bindProfile e = 4 then 2 else 1) ++ intBytesBE 1 (logOf e 2) ++ bytesBE 1 2
  | .other _ => []

/-- What follows targetPortIdentity in the answer to a management message (R270): the hops, the action, and the data set or the error
status, NO_SUCH_ID 2 or NOT_SUPPORTED 6. -/
def State.managementAnswer (s : State) (p k : Nat) (answer : Nat) (action : MgmtAction) (id : MgmtId) : List Byte :=
  let act : Byte := if action = .command then 4 else 2
  let data := s.dataSet p k id
  [0, 0, act, 0] ++
    (if answer = 1 then bytesBE 2 1 ++ bytesBE 2 (2 + data.length) ++ bytesBE 2 (managementId id) ++ data
     else bytesBE 2 2 ++ bytesBE 2 8 ++ bytesBE 2 (if answer = 2 then 2 else 6) ++ bytesBE 2 (managementId id) ++ [0, 0, 0, 0])

/-- MANAGEMENT_RECEIVED (R270). -/
def execManagementReceived (p : Fin 4) (slot : Fin 32) (head : PtpHead) (action : MgmtAction) (id : MgmtId) (s : State) :
    Host.Outcome State Fault Refusal :=
  let k := slot.val
  .next (s.when_ s.engines fun t => t.received p.val k head fun u =>
    let e := u.binding p.val k
    if !bindMgmt e then u.bump Attr.port_rx_ignored p.val
    else
      let answer : Nat := if action ≠ .get then 3 else match id with | .other _ => 2 | _ => 1
      u.queueFrame p.val
        { cls := .session, queue := 65535, kind := some .management, slot := k, seq := head.seq, domain := bindDomain e, answer := answer
          body := u.managementAnswer p.val k answer action id, log := 127
          peer := if bindMode e = 0 then ⟨0, head.sender.portId⟩ else head.sender })

/-- Whether a binding sends a message of a kind now: as MASTER Announce and Sync, while it follows a parent Delay_Req, under
AS2020 Pdelay_Req, and Announce and Sync there only once asCapable (R267, R274). -/
def State.sendsNow (s : State) (p k : Nat) (kind : PtpKind) : Bool :=
  let as2020 := bindProfile (s.binding p k) == 4
  match kind with
  | .announce => s.portState p k == 6 && (!as2020 || (s.bindRec p k).asCapable)
  | .sync => s.portState p k == 6 && (!as2020 || (s.bindRec p k).asCapable)
  | .delayReq => s.following p k && !as2020
  | .pdelayReq => as2020
  | _ => false

/-- Whether a session has the grant that a message of a kind needs: Announce and Sync given, Delay_Req taken. -/
def State.sessionSends (s : State) (n : Nat) (kind : PtpKind) : Bool :=
  match kind with
  | .announce => s.granted n 0 && !s.grantee n
  | .sync => s.granted n 1 && !s.grantee n
  | .delayReq => s.granted n 2 && s.grantee n
  | _ => false

/-- logMessageInterval of a message of a binding: 0x7F of unicast ones and of requests. -/
def messageLog (e : Nat) (unicast : Bool) (kind : PtpKind) : Int :=
  if unicast then 127
  else match kind with
    | .announce => logOf e 0
    | .sync => logOf e 1
    | .pdelayReq => logOf e 2
    | _ => 127

/-- PTP_MESSAGE_SEND (R260, R262, R264, R275): a binding's or a session's task builds and queues its next message. -/
def execPtpMessageSend (p : Fin 4) (slot : Fin 32) (session : Option (Fin 16384)) (kind : PtpKind) (launch : Option (Fin 512 × Int)) (s : State) : Host.Outcome State Fault Refusal :=
  let k := slot.val
  let due := match session with
    | some n => s.sessionSends n.val kind && s.attrN Attr.session_sess_binding n.val == k * 256 + p.val
    | none => bindMode (s.binding p.val k) != 1 && s.sendsNow p.val k kind
  .next (s.when_ (s.engines && s.portReady p.val && s.bindUsed p.val k && due) fun t =>
    let e := t.binding p.val k
    let r := t.nextSeq p.val k
    r.2.queueFrame p.val
      { cls := .session, queue := (session.map (·.val)).getD 65535, launch := launch.map fun l => (l.1.val, l.2)
        kind := some kind, slot := k, seq := r.1, domain := bindDomain e, twoStep := bindTwoStep e, oneStep := !bindTwoStep e
        announce := if kind = .announce then some (t.announceOf p.val k) else none
        peer := ((session.map fun n => (t.sess n.val).partner).getD ⟨0, 0⟩), log := messageLog e session.isSome kind })

/-- Gives a binding its portState (R274, R288). -/
def State.setPortState (s : State) (p k x : Nat) : State :=
  if s.portState p k = x then s
  else ((s.setBindRec p k { s.bindRec p k with since := s.counter }).put Attr.port_binding_state p k x).raise (Ev.port p 3) false (k * 256 + x)

/-- ANNOUNCE_RECEIPT_TIMEOUT (R145, R274, R277, R288): the parent of a binding has timed out, and is no longer heard. -/
def execAnnounceReceiptTimeout (p : Fin 4) (slot : Fin 32) (s : State) : Host.Outcome State Fault Refusal :=
  .next (s.when_ (s.engines && s.bindUsed p.val slot.val && (s.bindRec p.val slot.val).parent.isSome &&
      (s.bindRec p.val slot.val).announceAlive) fun t0 =>
    let t := t0.advance (t0.announceDue p.val slot.val)
    let r := t.bindRec p.val slot.val
    let u := t.setBindRec p.val slot.val { r with announceAlive := false, foreign := r.foreign.filter fun f => some f.sender != r.parent }
    let d := bindDomain (u.binding p.val slot.val)
    let v := (u.raise (Ev.port p.val 2) false slot.val).setQualified d false
    v.setDom d { v.dom d with ref := { (v.dom d).ref with timedOut := some (p.val, slot.val) } })

end Sys2Proof.Machine
end

