-- ==== Sys2Proof/Machine/Bmca.lean ====
section
/-! DEFINITION. The best master clock algorithm over the bindings of one domain (R267, R274): the data sets that it compares, what it
recommends for each binding, and the portStates that follow. The algorithms are those of IEEE 1588, of ITU-T G.8275.1 and G.8275.2 and of
IEEE 802.1AS, which the spec names and does not repeat: PRESUMED (log entry 20). -/

namespace Sys2Proof.Machine

/-- A data set as the BMCA compares it: a grandmaster's priorities, quality and identity, the steps to it, the portIdentities of the
sender and of the receiver, the local priority, and the profile of the binding that it belongs to. -/
structure DataSet where
  profile : Nat
  priority1 : Nat
  cls : Nat
  accuracy : Nat
  variance : Nat
  priority2 : Nat
  gm : Nat
  steps : Nat
  sender : Nat
  receiver : Nat
  localPriority : Nat
deriving DecidableEq, Repr

/-- The data set of the domain's own clock at a binding (R272, R276): a SLAVE_ONLY binding has clockClass 255. -/
def State.ownDataSet (s : State) (p k : Nat) : DataSet :=
  let e := s.binding p k
  let q := s.clockQuality (bindDomain e) (bindProfile e)
  { profile := bindProfile e, priority1 := bindPriority1 e, cls := if bindRole e = 2 then 255 else q.cls, accuracy := q.accuracy
    variance := q.variance, priority2 := bindPriority2 e, gm := s.clockIdentity, steps := 0, sender := s.clockIdentity * 65536
    receiver := s.clockIdentity * 65536, localPriority := 128 }

/-- The data set that a master heard on a binding announces. -/
def State.heardDataSet (s : State) (p k : Nat) (f : Foreign) : DataSet :=
  let e := s.binding p k
  let a := f.fields
  { profile := bindProfile e, priority1 := a.priority1, cls := a.clockClass, accuracy := a.clockAccuracy, variance := a.clockVariance
    priority2 := a.priority2, gm := a.gmIdentity, steps := a.stepsRemoved, sender := f.sender.portId, receiver := s.portIdentity p k
    localPriority := bindLocalPriority e }

/-- How one data set compares with another. -/
inductive Compared
  | better
  | betterByTopology
  | same
  | worseByTopology
  | worse
deriving DecidableEq, Repr

def Compared.wins : Compared → Bool
  | .better => true
  | .betterByTopology => true
  | _ => false

/-- Whether the first pair that differs has the lower number on the left; none where all agree. -/
def lowerFirst : List (Nat × Nat) → Option Bool
  | [] => none
  | (a, b) :: t => if a < b then some true else if b < a then some false else lowerFirst t

/-- The comparison of two data sets of one grandmaster: by steps, then by the portIdentities. -/
def compareTopology (a b : DataSet) : Compared :=
  if b.steps + 1 < a.steps then .worse
  else if a.steps + 1 < b.steps then .better
  else if b.steps < a.steps then
    (if a.receiver < a.sender then .worse else if a.sender < a.receiver then .worseByTopology else .same)
  else if a.steps < b.steps then
    (if b.receiver < b.sender then .better else if b.sender < b.receiver then .betterByTopology else .same)
  else
    match lowerFirst [(a.sender, b.sender), (a.receiver, b.receiver)] with
    | some true => .betterByTopology
    | some false => .worseByTopology
    | none => .same

/-- The quality by which clocks are ranked, clockClass first. -/
def qualityPairs (a b : DataSet) : List (Nat × Nat) :=
  [(a.cls, b.cls), (a.accuracy, b.accuracy), (a.variance, b.variance), (a.priority2, b.priority2)]

/-- The priority vector of IEEE 802.1AS: the system, the steps and the two ports. -/
def relayPairs (a b : DataSet) : List (Nat × Nat) :=
  (a.priority1, b.priority1) :: qualityPairs a b ++ [(a.gm, b.gm), (a.steps, b.steps), (a.sender, b.sender), (a.receiver, b.receiver)]

/-- The comparison that the profiles of R267 use: the default BMCA; the alternate one, with the local priority in the place of priority1
and of the identity of a grandmaster of class 127 or less; that of IEEE 802.1AS. -/
def compareDataSets (a b : DataSet) : Compared :=
  let telecom (x : DataSet) : Bool := x.profile == 2 || x.profile == 3
  let pairs :=
    if a.profile = 4 ∧ b.profile = 4 then relayPairs a b
    else if telecom a && telecom b then
      qualityPairs a b ++ [(a.localPriority, b.localPriority)] ++ (if a.cls ≤ 127 then [] else [(a.gm, b.gm)])
    else if a.gm = b.gm then []
    else (a.priority1, b.priority1) :: qualityPairs a b ++ [(a.gm, b.gm)]
  match lowerFirst pairs with
  | some true => .better
  | some false => .worse
  | none => compareTopology a b

/-- A master whose Announce counts on a binding (R267): no other port of the module, fewer than 255 steps away, and heard twice within four
intervals or followed already; under AS2020 heard within its timeout by a binding that is asCapable. A MASTER_ONLY binding hears none. -/
def State.qualifies (s : State) (p k : Nat) (f : Foreign) : Bool :=
  let e := s.binding p k
  let r := s.bindRec p k
  bindRole e != 1 && decide (f.fields.stepsRemoved < 255) && f.sender.portId / 65536 != s.clockIdentity &&
    (if bindProfile e = 4 then r.asCapable && decide (s.counter ≤ f.last + announceTimeouts e * announceTicks e)
     else (r.announceAlive && r.parent == some f.sender) ||
       (match f.before with
        | some t => decide (s.counter ≤ t + 4 * announceTicks e)
        | none => false))

/-- The best of some candidates by their data sets. -/
def bestOf {α : Type} : List (α × DataSet) → Option (α × DataSet)
  | [] => none
  | x :: xs =>
    match bestOf xs with
    | some y => if (compareDataSets y.2 x.2).wins then some y else some x
    | none => some x

/-- Erbest: the best master that a binding hears. -/
def State.bestHeard (s : State) (p k : Nat) : Option (Foreign × DataSet) :=
  bestOf (((s.bindRec p k).foreign.filter (s.qualifies p k)).map fun f => (f, s.heardDataSet p k f))

/-- The bindings of a domain that take part: all but the TRANSPARENT ones. -/
def State.bmcaBindings (s : State) (d : Nat) : List (Nat × Nat) :=
  (s.domainBindings d).filter fun b => bindRole (s.binding b.1 b.2) != 3

/-- Ebest: the best of all, with its binding. -/
def State.bestOfDomain (s : State) (d : Nat) : Option (((Nat × Nat) × Foreign) × DataSet) :=
  bestOf ((s.bmcaBindings d).filterMap fun b => (s.bestHeard b.1 b.2).map fun x => ((b, x.1), x.2))

/-- What the algorithm recommends for a binding: to stay in LISTENING, MASTER once so many announceIntervals have passed, PASSIVE, or SLAVE
of a master. -/
inductive Recommended
  | stay
  | master (intervals : Nat)
  | passive
  | slave (f : Foreign)
deriving DecidableEq, Repr

/-- The recommendation where the binding's own Erbest is not the best master of all, under IEEE 802.1AS and IEEE 1588. -/
def State.besideBest (s : State) (p k : Nat) (best : DataSet) : Recommended :=
  match s.bestHeard p k with
  | none => .master (best.steps + 2)
  | some x =>
    if x.2.profile = 4 then
      (if lowerFirst (relayPairs { best with steps := best.steps + 1, sender := s.portIdentity p k } x.2) = some true then .master 0
       else .passive)
    else if compareDataSets best x.2 = .betterByTopology then .passive
    else .master (best.steps + 2)

/-- What the BMCA recommends for a binding (R274). -/
def State.recommend (s : State) (d p k : Nat) : Recommended :=
  let e := s.binding p k
  let own := s.ownDataSet p k
  let heard := s.bestHeard p k
  if heard.isNone ∧ s.portState p k = 4 ∧ s.counter < (s.bindRec p k).since + announceTimeouts e * announceTicks e then .stay
  else if own.cls ≤ 127 ∧ bindProfile e ≠ 4 then
    match heard with
    | some x => if (compareDataSets own x.2).wins then .master 0 else .passive
    | none => .master 0
  else
    match s.bestOfDomain d with
    | none => .master 0
    | some b =>
      if (compareDataSets own b.2).wins then .master 0
      else if b.1.1 = (p, k) then .slave b.1.2
      else s.besideBest p k b.2

/-- The portState that a recommendation gives a binding (R274): a SLAVE_ONLY binding listens in place of MASTER, a bound domain is PASSIVE
in place of SLAVE, a binding is PRE_MASTER until its intervals have passed, and UNCALIBRATED until the next pass, but not under AS2020. -/
def State.bmcaState (s : State) (d p k : Nat) : Recommended → Nat
  | .stay => s.portState p k
  | .passive => 7
  | .slave f =>
    let r := s.bindRec p k
    if (s.boundDpll d).isSome then 7
    else if bindProfile (s.binding p k) = 4 ∨ (s.following p k ∧ r.parent = some f.sender) then 9 else 8
  | .master n =>
    let e := s.binding p k
    let x := s.portState p k
    if bindRole e = 2 then 4
    else if n = 0 ∨ x = 6 ∨ (x = 5 ∧ (s.bindRec p k).since + n * announceTicks e ≤ s.counter) then 6
    else 5

/-- A binding follows a master, whose Announce it keeps where it is a new parent. -/
def State.follow (s : State) (p k : Nat) (f : Foreign) : State :=
  let r := s.bindRec p k
  if s.following p k ∧ r.parent = some f.sender then s
  else s.setBindRec p k { r with
    parent := some f.sender, announce := some f.fields, announceAlive := true, awaiting := none, delayReqSent := none }

/-- A binding that follows no parent any more. -/
def State.unfollow (s : State) (p k : Nat) : State :=
  s.setBindRec p k { s.bindRec p k with
    parent := none, announce := none, announceAlive := false, awaiting := none, delayReqSent := none }

/-- A binding takes what the algorithm recommends. -/
def State.applyBmca (s : State) (d p k : Nat) (r : Recommended) : State :=
  let x := s.bmcaState d p k r
  let t :=
    match r with
    | .stay => s
    | .slave f => if x = 7 then s.unfollow p k else s.follow p k f
    | _ => s.unfollow p k
  t.setPortState p k x

/-- BMCA_PASS (R274, R277): every binding of the domain takes the state that is recommended for it; a domain that has no binding in SLAVE any
more loses its reference's flag at once. -/
def execBmcaPass (d : Fin 512) (s : State) : Host.Outcome State Fault Refusal :=
  .next (s.when_ (s.engines && s.created d.val) fun t =>
    let u := ((t.bmcaBindings d.val).map fun b => (b, t.recommend d.val b.1 b.2)).foldl (fun v x => v.applyBmca d.val x.1.1 x.1.2 x.2) t
    if (u.slaveBinding d.val).isNone then u.setQualified d.val false else u)

end Sys2Proof.Machine
end

