-- ==== Sys2Proof/Machine/Tic.lean ====
section
/-! DEFINITION. Interval counters (R289 to R309): sources and free channels, raw measurements, samples, statistics and the
rings of samples. -/

namespace Sys2Proof.Machine

/-! ### Sources (R291 to R295) -/

def State.ticA (s : State) (n : Nat) : Nat := s.attrN Attr.tic_src_a n
def State.ticB (s : State) (n : Nat) : Nat := s.attrN Attr.tic_src_b n
def State.ticMode (s : State) (n : Nat) : TicMode := TicMode.ofCode (s.attr Attr.tic_mode n)

/-- Whether a mode needs source B (R296). -/
def ticNeedsB : TicMode → Bool
  | .interval => true
  | .phase => true
  | _ => false

/-- The fields of a source word, its reserved bits aside. -/
def sourceFields (v : Nat) : Nat := field v 0 13 + field v 14 11 * 16384

/-- Whether a source word's fields lie in their ranges (R291, R294). -/
def sourceRange (isB : Bool) (v : Nat) : Bool :=
  match ticKind v with
  | 0 => true
  | 1 => decide (ticIndex v < 36) && ticIndex v != 27
  | 2 => decide (ticIndex v ≤ 48) && decide (ticPrediv v ≤ 1024)
  | _ => isB && decide (ticIndex v < 512)

/-- The nominal frequency of a counter's ROUTE sources (R295). -/
def State.ticNominal (s : State) (n : Nat) : Nat × Nat := (s.attrN Attr.tic_nominal_num n, s.attrN Attr.tic_nominal_den n)

/-- The nominal frequency and the pre-division of a counter's source (R295, R296). -/
def State.sourceNominal (s : State) (n v : Nat) : Nat × Nat := if ticKind v = 1 then s.nominal (ticIndex v) else s.ticNominal n
def State.sourcePrediv (s : State) (n v : Nat) : Nat :=
  if ticKind v = 1 then s.prediv (ticIndex v)
  else if ticPrediv v = 0 then autoPrediv (s.ticNominal n)
  else ticPrediv v

/-- Whether a ROUTE source would stamp more than 2 × 10^6 edges per second (R295). -/
def State.sourceFast (s : State) (n v : Nat) : Bool :=
  ticKind v == 2 && ticPrediv v != 0 && decide (2000000 * (s.ticNominal n).2 * ticPrediv v < (s.ticNominal n).1)

/-- Whether the nominal frequency of a counter lies from 0.5 Hz to 800 MHz (R308). -/
def nominalOk (v : Nat × Nat) : Bool := decide (v.2 ≤ 2 * v.1) && decide (v.1 ≤ 800000000 * v.2)

/-- The ROUTE sources that enabled counters name, each once (R292). -/
def State.routes (s : State) : List Nat :=
  (((List.range 12).filter fun n => s.flag Attr.tic_enable n).flatMap fun n =>
    ([s.ticA n, s.ticB n].filter fun v => ticKind v == 2).map sourceFields).dedup

/-- The free channels that are in service: stamping channels 36 to 47 (R96). -/
def State.freePool (s : State) : List Nat := (List.range 12).filter fun c => !(tblGet s.repair.channels {} (36 + c)).lost

/-- Whether the pool has a channel for every route (R292). -/
def State.routesFit (s : State) : Bool := decide (s.routes.length ≤ s.freePool.length)

/-- Gives each route a free channel: a route keeps the one that it has, a new one takes the lowest that is free. -/
def State.assignRoutes (s : State) : State :=
  let want := s.routes
  let kept := s.repair.free.filter fun e => want.contains e.2
  let new := want.filter fun v => !(kept.any fun e => e.2 == v)
  let all := new.foldl (fun (t : Tbl Nat) v =>
    match s.freePool.find? fun c => (tblFind t c).isNone with
    | some c => tblPut t c v
    | none => t) kept
  { s with repair := { s.repair with free := all } }

/-- `free_used` (R292): bit c for free channel c. -/
def State.freeUsed (s : State) : Nat := (s.repair.free.map fun e => 2 ^ e.1).sum

/-- Whether an INPUT source is DISABLED (R294). -/
def State.sourceOff (s : State) (v : Nat) : Bool := ticKind v == 1 && !s.inputOn (ticIndex v)

/-- `tic_state` (R294, R308): NO_SOURCE while an input in use is disabled. -/
def State.ticState (s : State) (n : Nat) : TicState :=
  if !s.flag Attr.tic_enable n then .disabled
  else if s.sourceOff (s.ticA n) || s.sourceOff (s.ticB n) then .noSource
  else .running

/-- The member of a timebase, OSC0 to OSC2 and EXT (R300). -/
def State.ticMember (s : State) (n : Nat) : Option Nat :=
  let v := s.attrN Attr.tic_timebase n
  if v = 0 then none else some (v - 1)

/-- Whether the timebase's member does not exist (R300). -/
def State.ticMemberAbsent (s : State) (n : Nat) : Bool :=
  match s.ticMember n with
  | some 3 => s.attr Attr.ext_input == 255
  | some 0 => false
  | some _ => !s.isQ3
  | none => false

/-- The settings of a counter that break a range (R291, R295, R296, R308); the last three hold only of an enabled counter. -/
def State.ticRange (s : State) (n : Nat) : Bool :=
  !sourceRange false (s.ticA n) || !sourceRange true (s.ticB n) || !nominalOk (s.ticNominal n) ||
    decide (s.attr Attr.tic_win_close n ≤ s.attr Attr.tic_win_open n) || s.sourceFast n (s.ticA n) || s.sourceFast n (s.ticB n) ||
    (s.flag Attr.tic_enable n && (ticKind (s.ticA n) == 0 || (ticNeedsB (s.ticMode n) && ticKind (s.ticB n) == 0) ||
      (ticKind (s.ticB n) == 3 && decide (s.ticMode n ≠ .phase))))

/-- The states that refuse a counter's settings once it is enabled (R294, R296, R300). -/
def State.ticBadState (s : State) (n : Nat) : Bool :=
  s.flag Attr.tic_enable n && (s.sourceOff (s.ticA n) || s.sourceOff (s.ticB n) ||
    (ticKind (s.ticB n) == 3 && !s.created (ticIndex (s.ticB n))) || s.ticMemberAbsent n)

/-! ### Samples and statistics (R302 to R307) -/

/-- A quotient rounded to the nearest, a tie upwards (R299, R305). -/
def roundDiv (x y : Int) : Int := (2 * x + y) / (2 * y)

/-- An interval of tick / 1024 in 2^-16 ns (R299). -/
def ticUnits (x : Int) : Int := roundDiv (x * 1280) 27

/-- What lies between two stamps in the counter's timebase (R299, R300). -/
def TicPoint.since (b a : TicPoint) : Int := ticUnits (b.pos - a.pos) + (b.phase - a.phase)

/-- Whether an interval lies in a start's window (R297): `win_open` ≤ t_B − t_A < `win_close`, exactly. -/
def TicStart.matches_ (x : TicStart) (b : TicPoint) : Bool :=
  let d : Int := (b.pos - x.point.pos) * 20000 * 65536 + (b.phase - x.point.phase) * 1000 * 27648
  decide ((x.opens : Int) * 27648 * 65536 ≤ d) && decide (d < (x.closes : Int) * 27648 * 65536)

/-- Whether a FREQUENCY sample has no stated value: its averaged period is not positive. -/
def State.sampleOpen (s : State) (n : Nat) (raws : List TicRaw) : Bool :=
  decide (s.ticMode n = .frequency) && decide ((raws.map (·.value)).sum ≤ 0)

/-- The sample that the newest raw measurements give (R296, R302); a FREQUENCY sample whose averaged period is not positive is a
free value (log entry 3). -/
def State.sampleValue (s : State) (n : Nat) (raws : List TicRaw) : Int :=
  let sum : Int := (raws.map (·.value)).sum
  let a : Int := raws.length
  let v := s.ticA n
  let k : Int := s.sourcePrediv n v
  match s.ticMode n with
  | .period => roundDiv sum (a * k)
  | .frequency =>
    let f := s.sourceNominal n v
    if sum ≤ 0 then s.free
    else roundDiv (((f.2 : Int) * secondUnits * a * k - f.1 * sum) * 1000000000000000000) (f.1 * sum)
  | _ => roundDiv sum a

/-- The square root of a fraction, rounded to the nearest unit, a tie upwards (R305). -/
def sqrtRound (num den : Nat) : Nat :=
  let r := Nat.sqrt (num / den)
  if (2 * r + 1) * (2 * r + 1) * den ≤ 4 * num then r + 1 else r

/-- SDEV of a block (R305). -/
def TicBlock.sdev (b : TicBlock) : Nat :=
  if b.n ≤ 1 then 0 else sqrtRound ((b.n : Int) * b.squares - b.sum * b.sum).toNat (b.n * (b.n - 1))

/-- `stat_result` of a complete block (R305), as the number that its 64 bytes spell. -/
def TicBlock.result (b : TicBlock) : Int :=
  natLE (intBytesLE 8 (roundDiv b.sum b.n) ++ bytesLE 8 b.sdev ++ intBytesLE 8 b.min ++ intBytesLE 8 b.max ++ bytesLE 4 b.n ++
    bytesLE 4 b.excluded ++ bytesLE 4 (b.seq + 1) ++ bytesLE 4 0 ++ bytesLE 8 b.first ++ bytesLE 8 b.last)

/-- A sample joins the statistics (R305): it is included when its flags, less those of `stat_include`, are 0; ROOT never
is. A complete block is latched. -/
def State.statistic (s : State) (n : Nat) (value : Int) (flags newest : Nat) : State :=
  let r := s.tic n
  let b := r.block
  if flags &&& (127 - (s.attrN Attr.tic_stat_include n &&& 63)) ≠ 0 then
    s.setTic n { r with block := { b with excluded := b.excluded + 1 } }
  else
    let c : TicBlock :=
      { b with
        n := b.n + 1
        sum := b.sum + value
        squares := b.squares + value * value
        min := if b.n = 0 then value else min b.min value
        max := if b.n = 0 then value else max b.max value
        first := if b.n = 0 then newest else b.first
        last := newest }
    if c.n < s.attrN Attr.tic_stat_len n then s.setTic n { r with block := c }
    else (s.setTic n { r with block := { seq := c.seq + 1 } }).put1 Attr.tic_stat_result n c.result

/-- The place of a sample's record in its ring (R307, R366). -/
def ticSlot (n number : Nat) : Nat := 0x1C118000 + n * 65536 + number % 4096 * 16

/-- A sample is formed from a new raw measurement (R302 to R307). -/
def State.sample (s : State) (n : Nat) (raw : TicRaw) : State :=
  let r := s.tic n
  let raws := (raw :: r.raws).take (s.attrN Attr.tic_avg_len n)
  let flags := (raws.foldl (fun f x => f ||| x.flags) 0) ||| (if r.fill = 0 then 0 else 4)
  let value := s.sampleValue n raws
  let number := s.attrN Attr.tic_samples n + 1
  let bytes := intBytesLE 8 value ++ bytesLE 2 flags ++ bytesLE 6 raw.first
  let t := (if s.sampleOpen n raws then s.spend else s).setTic n { r with raws := raws, fill := r.fill - 1 }
  let u := ((t.put1 Attr.tic_samples n number).put1 Attr.tic_last_sample n (natLE bytes)).tmWrite (ticSlot n number) bytes
  u.statistic n value flags raw.newest

/-- The flags of a raw measurement (R300, R301, R303, R304). -/
def State.rawFlags (s : State) (n : Nat) : Nat :=
  let r := s.tic n
  let domain := ticKind (s.ticB n) == 3
  let timebase := !domain && (match s.ticMember n with
    | some m => decide (s.osc m ≠ .member) && decide (s.osc m ≠ .ramping)
    | none => false)
  let step := domain && s.attrN Attr.domain_steps (ticIndex (s.ticB n)) != r.steps
  boolNat (r.settling != 0) + 2 * boolNat (r.window != 0) + 8 * boolNat timebase + 16 * boolNat step + 32 * boolNat r.missed +
    64 * boolNat (!s.flag Attr.root_locked)

/-- A raw measurement is complete (R296, R304). -/
def State.raw (s : State) (n : Nat) (value : Int) (first newest : Nat) : State :=
  let r := s.tic n
  let x : TicRaw := { value := value, flags := s.rawFlags n, first := first, newest := newest }
  (s.setTic n { r with
    settling := r.settling - 1
    window := r.window - 1
    missed := false
    steps := s.attrN Attr.domain_steps (ticIndex (s.ticB n)) }).sample n x

/-- A phase reduced into [−P/2, P/2) for the nominal period P of A, a tie to −P/2 (R298). -/
def State.ticReduce (s : State) (n : Nat) (x : Int) : Int :=
  let f := s.sourceNominal n (s.ticA n)
  wrapInto (f.2, f.1) x

/-! ### Stamps (R296 to R298) -/

/-- A start opens its window; a 17th closes the oldest (R297, R303). -/
def State.openStart (s : State) (n : Nat) (a : TicPoint) : State :=
  let r := s.tic n
  let x : TicStart := { point := a, opens := s.attrN Attr.tic_win_open n, closes := s.attrN Attr.tic_win_close n }
  if r.starts.length < 16 then s.setTic n { r with starts := r.starts ++ [x] }
  else (s.setTic n { r with starts := r.starts.drop 1 ++ [x], missed := true }).bump Attr.tic_starts_unmatched n

/-- A stop is matched to the oldest open start whose window holds it (R297). -/
def State.stop (s : State) (n : Nat) (b : TicPoint) : State :=
  let r := s.tic n
  match takeFirst (fun x => x.matches_ b) r.starts with
  | some (x, rest) =>
    let v := b.since x.point
    (s.setTic n { r with starts := rest }).raw n (if s.ticMode n = .phase then s.ticReduce n v else v) x.point.count b.count
  | none => s.bump Attr.tic_stops_outside n

/-- The place of a stamp of a source word (R290, R293, R294): a copy of the input's own stamp, or that of the route's free channel by its
linearity table, less the factory delay of the path. -/
def State.ticPlace (s : State) (v count vernier : Nat) : Int :=
  if ticKind v = 1 then s.stampPlace (ticIndex v) count vernier
  else
    let ch := 36 + ((s.repair.free.find? fun e => e.2 == sourceFields v).elim 0 (·.1))
    (count : Int) * 1024 + vernier + tblGet s.factory.linear 0 (s.channelPhys ch * 1024 + vernier) -
      tblGet s.factory.routeDelay 0 (ticIndex v) * 13824 / 10000

/-- The phase of a member against the ensemble at a place, in 2^-16 ns (R300): linear between the comparisons on either side, or that of
the nearest. -/
def State.memberPhase (s : State) (m : Nat) (place : Int) : Int :=
  let at_ (e : Nat × List Int) : Int × Int := ((e.1 : Int) * 1024, e.2.getD m 0)
  let ps := s.crucible.phases.map at_
  let before := (ps.filter fun e => decide (e.1 ≤ place)).head?
  let after := (ps.filter fun e => decide (place < e.1)).getLast?
  let fs : Int := match before, after with
    | some a, some b => a.2 + (b.2 - a.2) * (place - a.1) / (b.1 - a.1)
    | some a, none => a.2
    | none, some b => b.2
    | none, none => 0
  roundDiv (fs * 65536) 1000000

/-- A stamp as a counter uses it. -/
def State.ticPoint (s : State) (n : Nat) (x : TicStamp) : TicPoint :=
  let pos := s.ticPlace (if x.sourceB then s.ticB n else s.ticA n) x.count x.vernier
  { count := x.count, pos := pos, phase := (s.ticMember n).elim 0 fun m => s.memberPhase m pos }

/-- One stamp of a counter. -/
def State.ticStamp (s : State) (n : Nat) (x : TicStamp) : State :=
  let p := s.ticPoint n x
  let t := if x.missed then
      (s.setTic n { s.tic n with missed := true }).bump Attr.tic_stamps_missed n
    else s
  let r := t.tic n
  match t.ticMode n with
  | .interval => if x.sourceB then t.stop n p else t.openStart n p
  | .phase =>
    if ticKind (t.ticB n) = 3 then
      if x.sourceB then t
      else t.raw n (t.ticReduce n (t.domTimeAt (ticIndex (t.ticB n)) p.pos)) x.count x.count
    else if x.sourceB then t.stop n p
    else t.openStart n p
  | _ =>
    if x.sourceB then t
    else
      let u := t.setTic n { r with lastA := some p }
      (match r.lastA with
       | some q => u.raw n (p.since q) q.count x.count
       | none => u)

/-- Whether a stamp of a counter comes before another: by value, a start before a stop of the same value (R297). -/
def State.stampBefore (s : State) (n : Nat) (x y : TicStamp) : Bool :=
  let a := (s.ticPoint n x).pos
  let b := (s.ticPoint n y).pos
  decide (a < b) || (a == b && (!x.sourceB || y.sourceB))

/-- Puts a stamp into its place among stamps in order. -/
def State.placeStamp (s : State) (n : Nat) (x : TicStamp) : List TicStamp → List TicStamp
  | [] => [x]
  | y :: ys => if s.stampBefore n x y then x :: y :: ys else y :: s.placeStamp n x ys

/-- TIC_RAW_MEASUREMENT (R296, R297): the stamps that a counter decides on, ordered by their values. -/
def execTicRawMeasurement (n : Fin 12) (stamps : List TicStamp) (s : State) : Host.Outcome State Fault Refusal :=
  .next (s.when_ (s.timing && decide (s.ticState n.val = .running)) fun t =>
    (stamps.foldr (t.placeStamp n.val) []).foldl (fun u x => u.ticStamp n.val x) t)

/-- The tick by which a start's window has closed and the 60 ns stamp bound has passed (R297). -/
def TicStart.closesAt (x : TicStart) : Nat := (x.point.pos / 1024).toNat + x.closes * 27 / 20000 + 82

/-- TIC_WINDOW_CLOSE (R297): the window of the oldest open start has closed. -/
def execTicWindowClose (n : Fin 12) (s : State) : Host.Outcome State Fault Refusal :=
  .next (s.when_ (s.timing && !(s.tic n.val).starts.isEmpty) fun s0 =>
    let t := match (s0.tic n.val).starts with
      | x :: _ => s0.advance x.closesAt
      | [] => s0
    (t.setTic n.val { t.tic n.val with starts := (t.tic n.val).starts.drop 1 }).bump Attr.tic_starts_unmatched n.val)

/-! ### Restart and read (R305, R307, R309) -/

/-- Clears a counter's ring and counts (R307). -/
def State.clearTic (s : State) (n : Nat) : State :=
  let base := 0x1C118000 + n * 65536
  let t : State := { s with tm := { s.tm with bytes := tblKeep (fun a => decide (a < base) || decide (base + 65536 ≤ a)) s.tm.bytes } }
  (((t.put1 Attr.tic_samples n 0).put1 Attr.tic_stops_outside n 0).put1 Attr.tic_starts_unmatched n 0).put1 Attr.tic_stamps_missed n 0

/-- A counter is enabled (R304, R305, R307): its ring, counts, block and result start anew, and SETTLING is due. -/
def State.startTic (s : State) (n : Nat) : State :=
  (((s.clearTic n).put1 Attr.tic_stat_result n 0).put1 Attr.tic_last_sample n 0).setTic n
    { settling := 2, steps := s.attrN Attr.domain_steps (ticIndex (s.ticB n)) }

/-- TIC.RESTART (R305, R307, R309). -/
def execTicRestart (who : Issuer) (tic : Nat) (s : State) : Host.Outcome State Fault Refusal :=
  .next (s.doAct who
    { opcode := 0x0900, inst := tic
      refusals := [(decide (11 < tic), E_RANGE), (decide (s.ticState tic = .disabled), E_STATE)] }
    fun t => (t.clearTic tic).setTic tic { t.tic tic with block := { seq := (t.tic tic).block.seq } })

/-- Copies `count` records from `first` on, read from a ring that holds the numbers from `oldest` to below `past`: the number of the
first copied, how many, and their bytes. -/
def State.copyRecords (s : State) (size : Nat) (slot : Nat → Nat) (oldest past first count : Nat) : Nat × Nat × List Byte :=
  let from_ := if first < oldest ∨ first = 2 ^ 64 - 1 then oldest else first
  let n := min count (past - from_)
  (from_, n, (List.range n).flatMap fun k => s.tmRead (slot (from_ + k)) size)

/-- Reads records into a host buffer and completes (R307, R355, R359): the reads decode each frame, and a poisoned page among
them ends the command with E_POISON (R376). -/
def State.finishRead (s : State) (who : Issuer) (opcode inst : Nat) (buf : HostBuf) (size : Nat) (slot : Nat → Nat)
    (oldest past first count : Nat) : State :=
  let r := s.copyRecords size slot oldest past first count
  let pages := ((List.range r.2.1).map fun k => slot (r.1 + k) / 4096).eraseDups
  let t := s.forEach pages State.findCheck
  if pages.any s.poisoned then t.finish who opcode E_POISON inst
  else (t.writeResult who buf r.2.2).finish who opcode 0 inst (bytesLE 8 r.1 ++ bytesLE 2 r.2.1)

/-- TIC.READ (R307, R309, R359). -/
def execTicRead (who : Issuer) (tic count first : Nat) (buf : HostBuf) (s : State) : Host.Outcome State Fault Refusal :=
  .next (s.act who
    { opcode := 0x0901, inst := tic, reachable := bufOk who buf (16 * count)
      refusals := [(decide (11 < tic) || decide (count = 0) || decide (4096 < count), E_RANGE), (decide (s.power = .standbyWarm), E_STATE)] }
    fun t =>
      let newest := t.attrN Attr.tic_samples tic
      t.finishRead who 0x0901 tic buf 16 (ticSlot tic) (newest + 1 - min newest 4096) (newest + 1) first count)

end Sys2Proof.Machine
end

