-- ==== Sys2Proof/Machine/Repair.lean ====
section
/-! DEFINITION. Self-repair (R20 to R22, R284, R450 to R460): engines, clusters, stamping channels and the repair
records. -/

namespace Sys2Proof.Machine

/-! ### Repair records (R458) -/

/-- A repair record made in the field. -/
def repairWord (kind cluster phys channel replacement cause : Nat) (seconds : Int) : Nat :=
  kind % 4 + cluster % 16 * 4 + phys % 16 * 64 + channel % 64 * 1024 + replacement % 64 * 65536 + 2 ^ 22 + 2 ^ 23 + cause % 256 * 2 ^ 24 +
    (seconds % 2 ^ 32).toNat * 2 ^ 32

/-- Writes a repair record into the first record that is not VALID; a full table takes none (R458, EV 468). -/
def State.recordRepair (s : State) (kind cluster phys channel replacement cause : Nat) : State :=
  match (List.range 48).find? fun k => !bitOf (s.attrN Attr.repair_records 0 k) 22 with
  | some k => (s.put Attr.repair_records 0 k (repairWord kind cluster phys channel replacement cause (secondsOf (s.domNow 0)) : Nat)).enforceLimit
  | none => s.raise 468 false 0xFF00

/-! ### Engines (R450 to R455) -/

/-- The domains that have a task on some engines (R21): those of its sessions and those whose servo or BMCA task runs there. -/
def State.taskDomains (s : State) (serves : Nat → Bool) : List Nat :=
  (((s.sessions.filter fun n => serves (s.attrN Attr.session_sess_engine n)).map s.sessDomain) ++
    s.domains.filter fun d => serves (s.dom d).servo || serves (s.dom d).bmca).dedup

/-- The messages that failed engines were processing are lost, and count in their sessions (R22, R286 `rx_lost`). -/
def State.loseMessages (s : State) (serves : Nat → Bool) (lost : List Nat) : State :=
  s.forEach (lost.filter fun n => s.attr Attr.session_sess_state n != 0 && serves (s.attrN Attr.session_sess_engine n)) fun t n =>
    t.bump Attr.session_rx_lost n

/-- The most recently created grantor session. -/
def State.newestGrantor (s : State) : Option Nat :=
  (s.sessions.filter fun n => !s.grantee n).foldl (fun best n => match best with
    | some m => if (s.sess m).order < (s.sess n).order then some n else some m
    | none => some n) none

/-- Closes the most recently created grantor sessions while more sessions exist than the limit (R284). -/
def State.shedSessions : Nat → State → State
  | 0, s => s
  | k + 1, s =>
    if s.sessions.length ≤ 128 * s.engineCount then s
    else match s.newestGrantor with
      | some n => State.shedSessions k (s.closeSession n)
      | none => s

/-- What follows a fall of E (R284, R288, R455): sessions close until the limit holds, each port reports how many, and EV 466
is raised where E falls below 112. `before` is E before the fall. -/
def State.afterFall (s : State) (before : Nat) : State :=
  let onPort (u : State) (p : Nat) : Nat := (u.sessions.filter fun n => u.sessPort n == p).length
  let t := State.shedSessions s.sessions.length s
  let u := t.forEach (List.range 4) fun v p =>
    let closed := onPort s p - onPort t p
    if closed = 0 then v else v.raise (Ev.port p 11) false (satNat 65535 closed)
  if 112 ≤ before ∧ s.engineCount < 112 then u.raise 466 false 0xFF00 else u

/-- An engine leaves service without a spare (R453), whose tasks belonged to `domains` when it failed. -/
def State.loseEngine (s : State) (c e cause : Nat) (domains : List Nat) : State :=
  let r := s.cluster c
  let phys := r.map.getD e 9
  let t := s.settleSlots.setCluster c { r with map := r.map.set e 9 }
  let u := (t.recordRepair 0 c phys 0 0x3F cause).raise (417 + 3 * c) false (c * 256 + e) (domains.map .dom)
  u.afterFall s.engineCount

/-- The CAUSE of a repair record for a detector (R458). -/
def detectorCause : EngineDetector → Nat
  | .watchdog => 1
  | .parity => 2
  | .privateState => 3

/-- ENGINE_FAILURE (R22, R451 to R453): the messages in `lost` that it was processing are lost; with a spare the repair starts;
without one, or with the spare already under test, the engine leaves service. -/
def execEngineFailure (c : Fin 16) (e : Fin 8) (detector : EngineDetector) (lost : List (Fin 16384)) (s : State) :
    Host.Outcome State Fault Refusal :=
  let r := s.cluster c.val
  let here (x : Nat) : Bool := x == c.val * 256 + e.val
  .next (s.when_ (s.memoryUp && !r.lost && r.map.getD e.val 9 != 9 && !(r.repair.any fun x => x.1 == e.val)) fun t =>
    let u := t.loseMessages here (lost.map (·.val))
    if r.spare.isSome && r.repair.isNone then
      u.settleSlots.setCluster c.val { r with repair := some (e.val, (detectorCause detector), t.taskDomains here) }
    else u.loseEngine c.val e.val (detectorCause detector) (t.taskDomains here))

/-- SPARE_REPAIR_COMPLETE (R452, R453): the spare takes the failed engine's logical number, or has failed its test. -/
def execSpareRepairComplete (c : Fin 16) (testPassed : Bool) (s : State) : Host.Outcome State Fault Refusal :=
  let r := s.cluster c.val
  .next (match r.repair, r.spare with
    | some (e, cause, domains), some k =>
      s.when_ (s.memoryUp && !r.lost) fun t =>
        if testPassed then
          let u := (t.settleSlots.setCluster c.val { r with map := r.map.set e k, spare := none, repair := none }).recordRepair 0 c.val (r.map.getD e 9) 0 k cause
          u.raise (416 + 3 * c.val) false (c.val * 256 + e) (domains.map .dom)
        else
          ((t.settleSlots.setCluster c.val { r with spare := none, repair := none }).raise 469 false 0xFF00).loseEngine c.val e cause domains
    | _, _ => s)

/-- CLUSTER_LOST (R22, R454): all its engines, and any spare, leave service, and the messages in `lost` that they were
processing are lost. -/
def execClusterLost (c : Fin 16) (lost : List (Fin 16384)) (s : State) : Host.Outcome State Fault Refusal :=
  let r := s.cluster c.val
  let here (x : Nat) : Bool := x / 256 == c.val
  .next (s.when_ (s.memoryUp && !r.lost) fun t =>
    let u := ((t.loseMessages here (lost.map (·.val))).settleSlots.setCluster c.val { r with lost := true, spare := none, repair := none }).recordRepair
      1 c.val 0 0 0x3F 4
    let v := u.raise (418 + 3 * c.val) false (c.val * 256 + 0xFF) ((t.taskDomains here).map .dom)
    v.afterFall t.engineCount)

/-- Holax moves a session's task to an engine in service that serves fewer than 128 sessions (R20). -/
def State.moveSession (s : State) (m : Fin 16384 × Fin 16 × Fin 8) : State :=
  let dest : Nat := m.2.1.val * 256 + m.2.2.val
  if s.attr Attr.session_sess_state m.1.val != 0 && s.engineServes dest &&
      (s.attrN Attr.session_sess_engine m.1.val == dest || decide (s.engineLoad m.2.1.val m.2.2.val < 128)) then
    s.put1 Attr.session_sess_engine m.1.val (dest : Int)
  else s

/-- REBALANCE_COMPLETE (R20, R22, R453, R454): the sessions that Holax moved stand on their new engines, each in service and
none with more than 128; the servo and BMCA tasks of lost engines run elsewhere, apart again where E permits. -/
def execRebalanceComplete (c : Fin 16) (moves : List (Fin 16384 × Fin 16 × Fin 8)) (s : State) : Host.Outcome State Fault Refusal :=
  .next (s.when_ (s.engines && ((s.cluster c.val).lost || (s.cluster c.val).map.contains 9)) fun t =>
    let u := moves.foldl State.moveSession t
    ((u.forEach u.domains State.placeTasks).bump Attr.rebalances).raise 467 false 0xFF00)

/-! ### Stamping channels (R456, R457) -/

/-- VERNIER_BACKGROUND_LOOP (R290, R456): a channel whose ring cycle count lies more than 5 % from its trimmed value has
failed; `deviations` gives each channel's in thousandths. -/
def execVernierBackgroundLoop (deviations : List (Fin 48 × Nat)) (s : State) : Host.Outcome State Fault Refusal :=
  .next (s.when_ s.timing fun t =>
    t.forEach ((deviations.filter fun d => decide (50 < d.2)).map fun d => d.1.val) fun u ch =>
      if u.channelDown ch then u else u.setChannel ch { u.channel ch with failed := true })

/-- The counters that use a free channel (R292). -/
def State.channelTics (s : State) (ch : Nat) : List Nat :=
  match tblFind s.repair.free (ch - 36) with
  | some v =>
    if ch < 36 then []
    else (List.range 12).filter fun n =>
      s.flag Attr.tic_enable n && [s.ticA n, s.ticB n].any fun w => ticKind w == 2 && sourceFields w == v
  | none => []

/-- CHANNEL_REPLACED (R304, R457): the next spare takes the failed channel's place; without one the channel stays out of
service. -/
def execChannelReplaced (ch : Fin 48) (s : State) : Host.Outcome State Fault Refusal :=
  .next (s.when_ (s.timing && (s.channel ch.val).failed) fun t =>
    match t.repair.spares with
    | k :: rest =>
      let u : State := { t with repair := { t.repair with spares := rest } }
      let v := (u.setChannel ch.val { phys := k }).recordRepair 2 0 0 (t.channelPhys ch.val) k 5
      (v.raise 464 false (0xFF00 + ch.val)).forEach (t.channelTics ch.val) fun w n => w.setTic n { w.tic n with settling := 2 }
    | [] =>
      let u := (t.setChannel ch.val { phys := (t.channel ch.val).phys, lost := true }).recordRepair 2 0 0 (t.channelPhys ch.val) 0x3F 5
      u.raise 465 false (0xFF00 + ch.val))

end Sys2Proof.Machine
end

