-- ==== Sys2Proof/Machine/Faults.lean ====
section
/-! DEFINITION. The fault collector's commands and reports (R357, R358, R421 to R449): acknowledging, clearing, injecting and
listing, the count windows, the scrubber, ALIVE and the temperature alert. -/

namespace Sys2Proof.Machine

/-! ### Reports (R358, R435, R436, R448) -/

/-- Whether a latch holds at least one member forced (R432). -/
def State.holdsMember (s : State) (ev : Nat) : Bool :=
  let items := s.scopeOf ev
  decide ((s.latch ev).cls = 3) && (s.latch ev).latched &&
    ((List.range 32).any (s.outForced items) || (List.range 18).any (s.genForced items) ||
      items.any fun x => match x with
        | .port _ => true
        | .dom d => s.created d
        | _ => false)

/-- `fault_state` of a source (R358, R447). -/
def State.faultState (s : State) (ev : Nat) : Nat :=
  let l := s.latch ev
  l.cls + 4 * boolNat l.latched + 8 * boolNat l.acked + 16 * boolNat l.cause + 32 * boolNat (s.holdsMember ev)

/-- One record of `FAULT.LIST` (R358). -/
def State.faultRecord (s : State) (ev : Nat) : List Byte :=
  bytesLE 2 ev ++ bytesLE 2 (s.faultState ev) ++ bytesLE 2 (satNat 65535 (s.latch ev).count) ++ bytesLE 2 0

/-- The bit of `scope` that a member has (R448). -/
def scopeBit : ScopeItem → Nat
  | .out n => n
  | .gen g => 32 + g
  | .dpll n => 64 + n
  | .port p => 80 + p
  | .dom d => 128 + d

/-- `scope` of a source as a number (R448). -/
def State.scopeWord (s : State) (ev : Nat) : Nat := (((s.scopeOf ev).map scopeBit).eraseDups.map fun b => 2 ^ b).sum

/-- INT_STATUS.FAULT (R435): a latch that is LATCHED, not ACKED and of CLASS at least `int_class`; a SEVERE one always. -/
def State.intFault (s : State) : Bool :=
  s.faults.latches.any fun (e : Nat × Latch) =>
    e.2.latched && !e.2.acked && (e.2.cls == 3 || decide (s.attrN Attr.fault_int_class + 1 ≤ e.2.cls))

/-- `alive_state` (R436). -/
def State.aliveState (s : State) : AliveState :=
  if s.boot.phase ≠ .running then .static
  else if s.severe ≠ [] then .frozenSevere
  else if s.faults.feedMissed then .frozenFeed
  else if s.faults.hostMissed && bitOf s.host.aliveCfg 0 then .frozenHost
  else .toggling

/-- `inject_pending`: bit c = checker c (R445). -/
def State.injectPending (s : State) : Nat := ((s.faults.inject.filter fun (e : Nat × Injection) => decide (e.1 < 5)).map fun e => 2 ^ e.1).sum

/-! ### FAULT.ACK and FAULT.CLEAR (R437, R438) -/

/-- The sources that an ACK or CLEAR names: one, or with 0xFFFF every latched one in turn (R357). -/
def State.faultSources (s : State) (source : Nat) : List Nat :=
  if source = 0xFFFF then (s.faults.latches.filter fun (e : Nat × Latch) => e.2.latched).map (·.1) else [source]

/-- Acknowledges a latched source. -/
def State.ackSource (s : State) (ev : Nat) : State :=
  if (s.latch ev).latched then s.setLatch ev { s.latch ev with acked := true } else s

/-- FAULT.ACK (R357, R437). -/
def execFaultAck (who : Issuer) (source : Nat) (s : State) : Host.Outcome State Fault Refusal :=
  .next (s.doAct who { opcode := 0x0A00, inst := source, refusals := [(decide (639 < source) && source != 0xFFFF, E_RANGE)] }
    fun t => t.forEach (t.faultSources source) State.ackSource)

/-- Why a clear of a source is refused (R438). -/
def State.clearRefusal (s : State) (ev : Nat) : Option Nat :=
  let l := s.latch ev
  if !l.latched then none
  else if !l.acked then some E_STATE
  else if l.cause then some E_CAUSE_PRESENT
  else none

/-- A clear that is accepted (R438, R439): the latch returns to its base class, its window closes, its held scope is
released, a port that no other SEVERE latch holds trains its link again, and an output or a generator that none holds waits
for the low phase or the unit boundary at which it may drive again (R201, R215). -/
def State.clearSource (s : State) (ev : Nat) : State :=
  if (s.latch ev).latched then
    let t := s.setLatch ev { cls := Ev.baseClass ev, last := (s.latch ev).last }
    let v := t.forEach (List.range 4) fun u p => if s.portForced p && !t.portForced p then u.linkDown p false else u
    let w := v.forEach ((List.range 32).filter fun o => s.outSafe o && !t.outSafe o && (s.outp o).started) fun u o =>
      u.setOutp o { u.outp o with gated := true }
    w.forEach ((List.range 18).filter fun g => s.genSafe g && !t.genSafe g && (s.gen g).running) fun u g =>
      u.setGen g { u.gen g with gated := true }
  else s

/-- Clears sources in turn: the first refusal ends the run with its status. -/
def State.clearSources (s : State) : List Nat → State × Nat
  | [] => (s, 0)
  | ev :: evs =>
    match s.clearRefusal ev with
    | some code => (s, code)
    | none => (s.clearSource ev).clearSources evs

/-- FAULT.CLEAR (R357, R438). -/
def execFaultClear (who : Issuer) (source : Nat) (s : State) : Host.Outcome State Fault Refusal :=
  .next (s.act who { opcode := 0x0A01, inst := source, refusals := [(decide (639 < source) && source != 0xFFFF, E_RANGE)] }
    fun t =>
      let r := t.clearSources (t.faultSources source)
      r.1.finish who 0x0A01 r.2 source)

/-! ### FAULT.INJECT and FAULT.LIST (R443 to R446) -/

/-- The strength t of a `code_strength` code (R368). -/
def codeT (code : Nat) : Nat := [8, 16, 24, 32, 48].getD code 16

/-- Whether an injection's target or bit count lies outside the table of R443. -/
def State.injectRange (s : State) (checker bits target : Nat) : Bool :=
  match checker with
  | 0 => decide (bits < 1) || decide (codeT (s.attrN Attr.code_strength_active) < bits) || decide (lpnCount ≤ target)
  | 1 => decide (bits < 1) || decide (2 < bits) || decide (19 < target)
  | 2 => decide (bits < 1) || decide (32 < bits) || decide (511 < target)
  | 3 => decide (bits < 1) || decide (32 < bits) || decide (1023 < target)
  | 4 => decide (bits < 1) || decide (32 < bits) || target != 0
  | 5 => decide (bits < 1) || decide (64 < bits) || decide (639 < target)
  | _ => true

/-- What an accepted injection does: checker 0 rewrites its frame at once, checker 5 raises its source, and the others
wait for their checker (R443, R446). -/
def State.inject (s : State) (checker bits target : Nat) : State :=
  match checker with
  | 0 => s.setFrame (s.frameOf target) { s.frame (s.frameOf target) with checkErrors := bits }
  | 5 => ({ s with faults := { s.faults with causeHeld := some (target, s.counter + bits * 1350000) } }).raise target true
  | _ => { s with faults := { s.faults with inject := tblPut s.faults.inject checker { bits := bits, target := target } } }

/-- FAULT.INJECT (R357, R443 to R446, R498). -/
def execFaultInject (who : Issuer) (checker bits target : Nat) (s : State) : Host.Outcome State Fault Refusal :=
  .next (s.doAct who
    { opcode := 0x0A02, inst := checker
      refusals := [(s.injectRange checker bits target, E_RANGE), (checker == 5 && !s.flag Attr.factory_mode, E_FACTORY),
        (checker == 3 && (decide (target < 64) || decide (900 ≤ target)), E_STATE),
        ((tblFind s.faults.inject checker).isSome || (checker == 5 && s.faults.causeHeld.isSome), E_BUSY)] }
    fun t => t.inject checker bits target)

/-- INJECT_CAUSE_END (R446): the milliseconds of checker 5 are over. -/
def execInjectCauseEnd (s : State) : Host.Outcome State Fault Refusal :=
  .next (match s.faults.causeHeld with
    | some (ev, ends) => ({ s.advance ends with faults := { s.faults with causeHeld := none } }).uncause ev
    | none => s)

/-- FAULT.LIST (R357 to R359). -/
def execFaultList (who : Issuer) (first count : Nat) (buf : HostBuf) (s : State) : Host.Outcome State Fault Refusal :=
  .next (s.act who
    { opcode := 0x0A03, inst := first, reachable := bufOk who buf (8 * count), refusals := [(decide (count = 0) || decide (640 < first + count), E_RANGE)] }
    fun t =>
      (t.writeResult who buf ((List.range count).flatMap fun k => t.faultRecord (first + k))).finish who 0x0A03 0 first
        (bytesLE 2 count))

/-! ### The scrubber, the windows, ALIVE and the temperature alert -/

/-- SRAM_SCRUB (R423, R443): the scrubber finds an injection word's inverted bits, or `bits` bits of a word. -/
def execSramScrub (array : Fin 20) (bits : Fin 3) (s : State) : Host.Outcome State Fault Refusal :=
  .next (s.when_ (decide (s.boot.phase = .running)) fun t =>
    let r := (t.takeInjection 1 array.val).getD (bits.val, t)
    match r.1 with
    | 0 => r.2
    | 1 => r.2.raiseOnce 484
    | _ => r.2.raise 485)

/-- COUNT_WINDOW_CLOSE (R426). -/
def execCountWindowClose (source : Fin 640) (s : State) : Host.Outcome State Fault Refusal :=
  .next (match (s.latch source.val).window with
    | some (opened, _) =>
      let t := s.advance (opened + s.attrN Attr.fault_count_w source.val * 1350000)
      t.setLatch source.val { t.latch source.val with window := none }
    | none => s)

/-- ALIVE_FEED_MISSED (R423, R436): Holax has not fed ALIVE for 5 ms. -/
def execAliveFeedMissed (s : State) : Host.Outcome State Fault Refusal :=
  .next (s.when_ (decide (s.boot.phase = .running) && !s.faults.feedMissed) fun s =>
    let t := s.advance (s.faults.holaxFed + 6750000)
    ({ t with faults := { t.faults with feedMissed := true } }).raise 483 true)

/-- Holax feeds ALIVE (R436). -/
def State.feedAlive (s : State) : State :=
  ({ s with faults := { s.faults with feedMissed := false, holaxFed := s.counter } }).uncause 483

/-- The next millisecond boundary of the free-running counter (R436). -/
def State.nextMs (s : State) : State := s.advance ((s.counter / 1350000 + 1) * 1350000)

/-- ALIVE_TOGGLE (R436): at a millisecond boundary, while no freeze condition holds; Holax has fed ALIVE where it serves. -/
def execAliveToggle (s : State) : Host.Outcome State Fault Refusal :=
  .next (
    let t := if s.firmware then s.feedAlive else s
    if t.aliveState = .toggling then
      let u := t.nextMs
      { u with faults := { u.faults with alivePin := !u.faults.alivePin } }
    else t)

/-- Whether the module is an X-grade part (R1). -/
def State.isX (s : State) : Bool := s.attrN Attr.variant % 2 = 1

/-- The alert threshold of the baseplate in 0.001 °C (R518). -/
def State.alertThreshold (s : State) : Int := if s.isX then 90000 else 85000

/-- Whether TEMP_ALERT_N is asserted after a reading of the baseplate sensor (R518): above the threshold, and from there down to 5 K below
it. -/
def State.alertAfter (s : State) (reading : Int) : Bool :=
  if s.boot.tempAlert then decide (s.alertThreshold - 5000 < reading) else decide (s.alertThreshold < reading)

/-- TEMP_ALERT (R423, R518): the baseplate sensor, read in 0.001 °C, crosses its threshold upwards, or falls 5 K below it. -/
def execTempAlert (reading : Int) (s : State) : Host.Outcome State Fault Refusal :=
  .next (s.when_ (decide (s.boot.phase ≠ .off) && s.boot.tempAlert != s.alertAfter reading) fun t =>
    let u : State := { t with boot := { t.boot with tempAlert := t.alertAfter reading } }
    if t.alertAfter reading then u.raise 492 true else u.uncause 492)

end Sys2Proof.Machine
end

