-- ==== Sys2Proof/Machine/Pmc.lean ====
section
/-! DEFINITION. Engine performance counters (R501 to R514): what the counters of a block read now, selections, wraps and samples. -/

namespace Sys2Proof.Machine

/-- EVENT of a PMC's selection (R504). -/
def State.pmcEvent (s : State) (c k : Nat) : Nat := s.attrN Attr.pmc_select 0 (8 * c + k) % 256

/-- Whether a slot matches a selection and its range (R504 to R506). -/
def slotMatches (sel range : Nat) (x : Slot) : Bool :=
  let kind := field sel 10 2
  field sel 0 8 != 0 && bitOf x.events (field sel 0 8) &&
    (field sel 8 2 == 0 || (field sel 8 2 == 1) == x.kernel) &&
    (kind == 0 || (!x.kernel && x.master == some (kind, field sel 12 9))) &&
    (!bitOf sel 21 || (decide (field range 0 22 ≤ x.lpn) && decide (x.lpn ≤ field range 32 22)))

/-- A slot counter now (R502, R503): 0 retired, 1 wasted, 2 starved-front, 3 starved-back. -/
def State.slotCount (s : State) (c k : Nat) : Nat :=
  let r := s.slotsNow c
  let own := ((List.range r.used).filter fun n => (Config.slot c n).category.val == k).length
  (own + (if k = 1 then r.costs else if k = 2 then r.idle / 5 else 0)) % 2 ^ 48

/-- A programmable counter now (R504, R505): the slots since its selection that match it. -/
def State.pmcCount (s : State) (c k : Nat) : Nat :=
  let r := s.slotsNow c
  let first := tblGet r.counted 0 k
  ((List.range (r.used - first)).filter fun n =>
    slotMatches (s.attrN Attr.pmc_select 0 (8 * c + k)) (s.attrN Attr.pmc_addr 0 (8 * c + k)) (Config.slot c (first + n))).length % 2 ^ 48

/-- A counter of a block by its place in it (R501). -/
def State.blockCount (s : State) (c n : Nat) : Nat := if n < 4 then s.slotCount c n else s.pmcCount c (n - 4)

/-- A selection or range of a PMC has changed (R507): the PMC and its OVF bit are cleared, and CFG_GEN counts. -/
def State.pmcChanged (s : State) (c k : Nat) : State :=
  let r := s.slotsNow c
  let ovf := if bitOf r.ovf (4 + k) then r.ovf - 2 ^ (4 + k) else r.ovf
  s.setPmc c { r with counted := tblSet r.counted 0 k r.used, ovf := ovf, cfgGen := (r.cfgGen + 1) % 2 ^ 32 }

/-- Whether a selection is refused (R504 to R506): a reserved event, privilege or master kind, or ADDR_EN with an event
class that does not allow it. -/
def pmcSelectBad (v : Nat) : Bool :=
  decide (0x0C < field v 0 8) || field v 8 2 == 3 || field v 10 2 == 3 ||
    (bitOf v 21 && !([4, 5, 6, 0x0A].contains (field v 0 8)))

/-- Whether a range is refused (R506). -/
def pmcAddrBad (v : Nat) : Bool :=
  decide (field v 32 22 < field v 0 22) || decide (3932159 < field v 32 22)

/-- One sample record (R512). -/
def sampleRecord (counter c e k : Nat) (kernel : Bool) (domain : Option (Fin 512)) (iaddr : Nat) : Nat :=
  let d := match domain with
    | some d => d.val
    | none => 0x1FF
  counter % 2 ^ 64 + c % 16 * 2 ^ 64 + e % 8 * 2 ^ 68 + k % 8 * 2 ^ 71 + boolNat kernel * 2 ^ 74 + d * 2 ^ 75 + iaddr % 2 ^ 32 * 2 ^ 96

/-- PMC_SAMPLE (R502, R511, R512): the newest 64 samples of a cluster are kept, and a sample costs 40 wasted slots. -/
def execPmcSample (c : Fin 16) (k : Fin 8) (e : Fin 8) (kernel : Bool) (domain : Option (Fin 512)) (iaddr : Nat) (s : State) :
    Host.Outcome State Fault Refusal :=
  .next (s.when_ (s.engines && s.pmcEvent c.val k.val != 0 && s.attr Attr.pmc_sample_period 0 (8 * c.val + k.val) != 0 &&
      s.engineList.contains (c.val, e.val)) fun t =>
    let n := t.attrN Attr.pmc_sample_count 0 c.val
    let u := t.put Attr.pmc_samples 0 (64 * c.val + n % 64) (sampleRecord t.counter c.val e.val k.val kernel domain iaddr : Nat)
    let r := u.slotsNow c.val
    (u.add Attr.pmc_sample_count 0 c.val 1).setPmc c.val { r with costs := r.costs + 40 })

/-- PMC_WRAP (R510): a counter passes 2^48 − 1, and its OVF bit is set; counters are read modulo 2^48. -/
def execPmcWrap (c : Fin 16) (which : Fin 12) (s : State) : Host.Outcome State Fault Refusal :=
  .next (s.when_ (s.engines && s.clusterEngines c.val != 0 && (decide (which.val < 4) || s.pmcEvent c.val (which.val - 4) != 0)) fun t =>
    t.setPmc c.val { t.pmc c.val with ovf := (t.pmc c.val).ovf ||| 2 ^ which.val })

end Sys2Proof.Machine
end

