-- ==== Sys2Proof/Machine/Limits.lean ====
section
/-! DEFINITION. The limits of the attributes (R349): the values that each object's own rules refuse, and the states that refuse a
write. They serve a SET, judged on the state as it would leave it, and the settings that step 9 applies (R396). -/

namespace Sys2Proof.Machine

/-- What a SET writes: an attribute of an instance, from an element on (R349). -/
structure Write where
  a : AttrDesc
  i : Nat
  first : Nat
  vals : List Int

/-- The state with the values of a SET in their places, no effect of theirs taken yet. -/
def State.written (s : State) (w : Write) : State := s.putList w.a w.i w.first w.vals

/-- The value of a scalar SET. -/
def Write.val (w : Write) : Int := w.vals.headD 0

/-! ### E_RANGE (R349 and each object's own limits) -/

/-- Limits of SYSTEM attributes (R371, R380, R390, R504, R506). -/
def State.rangeSystem (t : State) (w : Write) : Bool :=
  match w.a.id with
  | 0x01A0 => decide (codeT (t.attrN Attr.code_strength) ≤ t.attrN Attr.retire_limit)
  | 0x01A5 =>
    decide (codeT (t.attrN Attr.code_strength) ≤ t.attrN Attr.retire_limit) ||
      decide (codeT (t.attrN Attr.code_strength_active) ≤ t.attrN Attr.retire_limit)
  | 0x01E0 => w.vals.any fun v => pmcSelectBad v.toNat
  | 0x01E1 => w.vals.any fun v => pmcAddrBad v.toNat
  | _ => false

/-- The types that an input allows (R88). -/
def typeAllowed (s : State) (n : Nat) (v : Int) : Bool :=
  if n < 16 then decide (0 ≤ v) && decide (v ≤ 3) else v == s.attr Attr.input_type n

/-- Whether an INPUT attribute applies to a type (R90, R91, R105, R107, R111, R118, R120, R122). -/
def inputApplies (t : InputType) (n id : Nat) : Bool :=
  if [0x0202, 0x0203, 0x0204].contains id then decide (n < 16)
  else if [0x021A, 0x021F, 0x0220, 0x0221].contains id then decide (t = .syncE)
  else if [0x0222, 0x0223, 0x0224, 0x0225].contains id then decide (t = .pps)
  else if id = 0x0226 then decide (t = .pps) || decide (t = .ltc)
  else if [0x0227, 0x0228].contains id then decide (t = .video)
  else if [0x0229, 0x022A, 0x022B, 0x022C, 0x022D].contains id then decide (t = .ltc)
  else if id = 0x021D then decide (t = .pps) || decide (t = .syncE)
  else if [0x0219, 0x021B].contains id then decide (t ≠ .feedback)
  else true

/-- Limits of INPUT attributes (R88, R89, R90, R94, R99, R122). -/
def State.rangeInput (s t : State) (w : Write) : Bool :=
  let n := w.i
  let f := t.nominal n
  let k := t.attrN Attr.input_prediv n
  let fast := k != 0 && decide (2000000 * f.2 * k < f.1)
  let slow := decide (n < 16) && t.attr Attr.input_io_type n == 1 && decide (250000000 * f.2 < f.1)
  decide (n = 27) ||
    (match w.a.id with
     | 0x0201 => !typeAllowed s n w.val || fast || slow
     | 0x0202 => slow
     | 0x0203 => !nominalOk f || fast || slow
     | 0x0204 => !nominalOk f || fast || slow
     | 0x0205 => fast
     | 0x020A => decide (t.attr Attr.input_freq_leave n ≤ t.attr Attr.input_freq_enter n)
     | 0x020B => decide (t.attr Attr.input_freq_leave n ≤ t.attr Attr.input_freq_enter n)
     | _ => false)

/-- The ratio that a SET leaves active in a disabled synthesiser (R195). -/
def State.ratioSet (t : State) (w : Write) : Nat × Nat :=
  if w.a.id = 0x0502 then ((t.pendingRatio w.i).1, (t.activeRatio w.i).2)
  else if w.a.id = 0x0503 then ((t.activeRatio w.i).1, (t.pendingRatio w.i).2) else t.activeRatio w.i

/-- Limits of a synthesiser's ratio (R182), each half judged with the other's pending value (DEDUCED, log entry 59); while it is
disabled both buffers take the value (R195), so that the limits of its outputs hold too (R187). -/
def State.rangeSyn (s t : State) (w : Write) : Bool :=
  let v := t.ratioSet w
  decide (w.a.id = 0x0502 ∨ w.a.id = 0x0503) &&
    (!ratioOk (t.pendingRatio w.i) || (!s.flag Attr.syn_enable w.i && !ratioOk v) || (!s.flag Attr.syn_enable w.i && (List.range 32).any fun o =>
      decide (o / 4 = w.i) && settingOk (s.activeRatio w.i) (s.attrN Attr.output_driver o) (s.activeSetting o) &&
        !settingOk v (s.attrN Attr.output_driver o) (s.activeSetting o)))

/-- Whether an OUTPUT attribute is double-buffered (R195). -/
def outBuffered (id : Nat) : Bool := [0x0581, 0x0582, 0x0585, 0x0586, 0x0587].contains id

/-- The pulse rate that limits `pulse_offset` (R188, R209): the active one of a PULSE output, else the pending one. -/
def State.offsetRate (s : State) (o : Nat) : OutSetting := if (s.outp o).pulse then s.activeSetting o else s.pendingSetting o

/-- The setting that a SET leaves active in a disabled output (R195). -/
def State.settingSet (t : State) (w : Write) : OutSetting :=
  let x := t.activeSetting w.i
  let y := t.pendingSetting w.i
  match w.a.id with
  | 0x0581 => { x with pulse := y.pulse }
  | 0x0582 => { x with divider := y.divider }
  | 0x0585 => { x with num := y.num }
  | 0x0586 => { x with den := y.den }
  | 0x0587 => { x with width := y.width }
  | _ => x

/-- Limits of OUTPUT attributes (R187, R209): a pending setting is judged on the pending ratio; a disabled output's, which
both buffers take, on the active ratio. -/
def State.rangeOutput (s t : State) (w : Write) : Bool :=
  let o := w.i
  let v := if s.flag Attr.output_enable o then s.pendingRatio (o / 4) else s.activeRatio (o / 4)
  if outBuffered w.a.id then
    !settingOk v (t.attrN Attr.output_driver o) (t.pendingSetting o) ||
      (!s.flag Attr.output_enable o && settingOk v (t.attrN Attr.output_driver o) (s.activeSetting o) &&
        !settingOk v (t.attrN Attr.output_driver o) (t.settingSet w))
  else if w.a.id = 0x058C then !settingOk (s.activeRatio (o / 4)) (t.attrN Attr.output_driver o) (s.activeSetting o)
  else if w.a.id = 0x0588 then decide ((s.offsetRate o).den * secondUnits < 2 * (w.val.natAbs : Int) * (s.offsetRate o).num)
  else false

/-- Whether an offset in 0.1 ns exceeds `part` of a period given in seconds. -/
def offsetBeyond (p : Nat × Nat) (part : Nat) (v : Int) : Bool := decide (p.1 * 10000000000 < part * v.natAbs * p.2)

/-- Limits of the generators (R222, R225, R227). -/
def State.rangeGen (t : State) (w : Write) : Bool :=
  match w.a.id with
  | 0x0710 => offsetBeyond (framePeriod (t.attrN Attr.vidgen_vid_format w.i)) 1 (t.attr Attr.vidgen_vid_offset w.i)
  | 0x0711 => offsetBeyond (framePeriod (t.attrN Attr.vidgen_vid_format w.i)) 1 (t.attr Attr.vidgen_vid_offset w.i)
  | 0x0750 => decide (4 ≤ w.i) && decide (96000 < w.val)
  | 0x0793 => offsetBeyond (tcPeriod (t.attrN Attr.tcgen_tc_rate w.i)) 2 w.val
  | _ => false

/-- A port is enabled (R251): its reference may already stand beyond 100 ppm. -/
def State.portOn (s : State) (p : Nat) : State :=
  let d := s.attrN Attr.syn_dpll_active (s.attrN Attr.port_ref_syn p)
  if d < 16 ∧ farWord (s.attr Attr.dpll_freq_word d) then s.raise (Ev.port p 1) true else s

/-- The FEC codes that a speed allows (R249). -/
def fecAllowed (speed fec : Nat) : Bool :=
  match speed with
  | 0 => fec == 0
  | 1 => fec == 0 || fec == 1 || fec == 2
  | 2 => fec == 3
  | _ => fec == 0 || fec == 2

/-- Limits of PORT attributes (R249, R285): the MAC address is unicast. -/
def State.rangePort (t : State) (w : Write) : Bool :=
  match w.a.id with
  | 0x0802 => !fecAllowed (t.attrN Attr.port_speed w.i) (t.attrN Attr.port_fec w.i)
  | 0x0806 => t.attrN Attr.port_mac_addr w.i 0 % 2 == 1
  | _ => false

/-- Whether a SET breaks a limit of its object; `t` is the state that it would leave. -/
def State.setRange (s t : State) (w : Write) : Bool :=
  match w.a.obj with
  | .system => t.rangeSystem w
  | .input => s.rangeInput t w
  | .syn => s.rangeSyn t w
  | .output => s.rangeOutput t w
  | .vidgen => t.rangeGen w
  | .audgen => t.rangeGen w
  | .tcgen => t.rangeGen w
  | .port => t.rangePort w
  | .tic => t.ticRange w.i
  | _ => false

/-! ### E_STATE -/

/-- INPUT (R51, R91, R105, R122, R202): an attribute that does not apply, the `enable` of a feedback channel, and a grade source
without what it needs. That a SET of a nominal frequency which R91 forces is refused, and with E_STATE, is the model's choice
(log entry 80). -/
def State.stateInput (s t : State) (w : Write) : Bool :=
  let n := w.i
  let g := t.attr Attr.input_grade_source n
  let needsTod := decide (2 ≤ g) && t.attr Attr.input_tod_rx n == 0
  !inputApplies (s.inputType n) n w.a.id ||
    (match w.a.id with
     | 0x0200 => decide (28 ≤ n)
     | 0x0203 => decide (s.inputType n = .pps) || decide (s.inputType n = .tenMhz)
     | 0x0204 => decide (s.inputType n = .pps) || decide (s.inputType n = .tenMhz)
     | 0x0219 => (g == 1 && decide (s.inputType n ≠ .syncE)) || needsTod
     | 0x0222 => needsTod
     | _ => false)

/-- Whether a TODGEN's companion is a PULSE output at 1 Hz whose synthesiser follows the DPLL bound to its domain (R232). -/
def State.companionOk (t : State) (n : Nat) : Bool :=
  let c := t.attrN Attr.todgen_tod_companion n
  if 31 < c then true
  else
    let x := if t.flag Attr.output_enable c then t.activeSetting c else t.pendingSetting c
    let d := if t.flag Attr.syn_enable (c / 4) then t.attrN Attr.syn_dpll_active (c / 4) else t.attrN Attr.syn_dpll (c / 4)
    x.pulse && x.num == x.den && t.boundDpll (t.attrN Attr.todgen_domain n) == some d

/-- Whether a SET of a synthesiser or an output takes a companion from a TODGEN that had one (R232). -/
def State.breaksCompanion (s t : State) : Bool := [0, 1].any fun n => s.companionOk n && !t.companionOk n

/-- OUTPUT (R187, R209, R232). -/
def State.stateOutput (s t : State) (w : Write) : Bool :=
  (outBuffered w.a.id && (t.pendingSetting w.i).pulse && !s.pulseDomain (s.attrN Attr.syn_dpll_active (w.i / 4))) ||
    (w.a.id == 0x058C && s.flag Attr.output_enable w.i) || (outBuffered w.a.id && s.breaksCompanion t)

/-- The generators (R213, R232, R241): a domain that is FREE or unbound, a companion that is none, a Lehr that a TODGEN lacks. -/
def State.stateGen (t : State) (w : Write) : Bool :=
  match w.a.id with
  | 0x0701 => (t.boundDpll w.val.toNat).isNone
  | 0x0741 => (t.boundDpll w.val.toNat).isNone
  | 0x0781 => (t.boundDpll w.val.toNat).isNone
  | 0x07C1 => (t.boundDpll w.val.toNat).isNone || !t.companionOk w.i
  | 0x07D2 => !t.companionOk w.i
  | _ => false

/-- Whether the synthesiser of a port's reference is LOCKED within 20 ppm of 12.5 GHz (R251). -/
def State.refReady (s : State) (p : Nat) : Bool :=
  let n := s.attrN Attr.port_ref_syn p
  let v := s.activeRatio n
  decide (s.synState n = .locked) && decide (((540000000 * v.1 : Int) - (12500000000 * v.2 : Int)).natAbs ≤ 250000 * v.2)

/-- Whether the two ports of a pair differ in speed (R253). -/
def State.pairBroken (t : State) (p : Nat) : Bool :=
  match t.paired p with
  | some q => t.attr Attr.port_speed p != t.attr Attr.port_speed q
  | none => false

/-- PORT (R250, R251, R253). -/
def State.statePort (s t : State) (w : Write) : Bool :=
  let on := s.flag Attr.port_enable w.i
  match w.a.id with
  | 0x0800 => w.val == 1 && !on && !s.refReady w.i
  | 0x0801 => on || t.pairBroken w.i
  | 0x0802 => on
  | 0x0804 => t.pairBroken w.i
  | 0x0805 => on
  | _ => false

/-- The Lehr attributes that a TODGEN has the IDs of (R241). -/
def lehrOfTod (id : Nat) : Bool := decide (0x07C5 ≤ id) && decide (id ≤ 0x07C9)

/-- Whether a SET meets E_STATE. -/
def State.setState (s t : State) (w : Write) : Bool :=
  match w.a.obj with
  | .system => w.a.id == 0x0145 && w.val != 255 && decide (s.inputType w.val.toNat ≠ .tenMhz)
  | .input => s.stateInput t w
  | .syn => s.breaksCompanion t
  | .output => s.stateOutput t w
  | .domain => !s.created w.i || (w.a.id == 0x0602 && (s.boundDpll w.i).isSome)
  | .vidgen => t.stateGen w
  | .audgen => t.stateGen w
  | .tcgen => t.stateGen w
  | .todgen => lehrOfTod w.a.id || t.stateGen w
  | .port => s.statePort t w
  | .session => true
  | .tic => t.ticBadState w.i
  | .fault => decide (w.a.id < 0x0A10) && !Ev.defined w.i
  | _ => false

end Sys2Proof.Machine
end

