-- ==== Sys2Proof/Machine/Selector.lean ====
section
/-! DEFINITION. Selectors (R124 to R149): eligibility, ranking, decisions, wait-to-restore, hold-off and the SELECTOR
actions. -/

namespace Sys2Proof.Machine

/-! ### Eligibility and rank (R128 to R130, R133, R135) -/

/-- Whether a source is pending wait-to-restore at a selector (R131). -/
def State.wtrPending (s : State) (n x : Nat) : Bool := (tblFind (s.sel n).wtr x).isSome

/-- The conditions of R128 but the last, of entry `k`. -/
def State.basicEligible (s : State) (n k : Nat) : Bool :=
  let e := s.cand n k
  match candNumber e with
  | some x => !candLocked e && s.sourceQualified x && decide (s.sourceGrade x ≤ s.attrN Attr.selector_min_grade n)
  | none => false

/-- Whether entry `k` is pending wait-to-restore. -/
def State.entryPending (s : State) (n k : Nat) : Bool :=
  match candNumber (s.cand n k) with
  | some x => s.wtrPending n x
  | none => false

/-- The eligible entries under the four conditions of R128. -/
def State.strictEligible (s : State) (n : Nat) : List Nat :=
  (List.range 24).filter fun k => s.basicEligible n k && !s.entryPending n k

/-- The index of the connected source in the list. -/
def State.selectedIndex (s : State) (n : Nat) : Option Nat := (s.sel n).source.bind (s.indexOf n)

/-- Whether the bypass of R128 is in use: no candidate is eligible and `wtr_bypass` is 1. -/
def State.bypassing (s : State) (n : Nat) : Bool :=
  (s.strictEligible n).isEmpty && s.flag Attr.selector_wtr_bypass n

/-- The eligible entries with the bypass of R128; a candidate that was taken under it keeps its eligibility, so that no
switch follows from a wait-to-restore that runs out (log entry 16). -/
def State.eligible (s : State) (n : Nat) : List Nat :=
  if s.bypassing n then (List.range 24).filter (s.basicEligible n)
  else (List.range 24).filter fun k =>
    s.basicEligible n k && (!s.entryPending n k || ((s.sel n).bypass && s.selectedIndex n == some k))

/-- The rank of an entry as one number, lower first (R129): grade, DRIFT where `preempt_drift` is 1, PRIORITY, index. -/
def State.rank (s : State) (n k : Nat) : Nat :=
  let e := s.cand n k
  let x := (candNumber e).getD 0
  let drift := boolNat (s.flag Attr.selector_preempt_drift n && s.sourceDrift x)
  ((s.sourceGrade x * 2 + drift) * 32 + candPriority e) * 24 + k

/-- The first-ranked of some entries. -/
def State.firstRanked (s : State) (n : Nat) : List Nat → Option Nat
  | [] => none
  | k :: ks =>
    match s.firstRanked n ks with
    | some j => if s.rank n j < s.rank n k then some j else some k
    | none => some k

/-- R133: the selected entry's source carries DRIFT and an eligible one without DRIFT has an equal or better grade. -/
def State.driftPreempts (s : State) (n cur : Nat) (es : List Nat) : Bool :=
  let src (k : Nat) : Nat := (candNumber (s.cand n k)).getD 0
  s.flag Attr.selector_preempt_drift n && s.sourceDrift (src cur) &&
    es.any fun k => !s.sourceDrift (src k) && decide (s.sourceGrade (src k) ≤ s.sourceGrade (src cur))

/-- The choice of the automatic rules among some eligible entries (R130, R133). -/
def State.autoChoice (s : State) (n : Nat) (es : List Nat) : Option Nat :=
  let first := s.firstRanked n es
  if s.attr Attr.selector_revertive n = 0 then first
  else
    match s.selectedIndex n with
    | some cur =>
      let g (k : Nat) : Nat := s.sourceGrade ((candNumber (s.cand n k)).getD 0)
      if es.contains cur && !(es.any fun k => decide (g k < g cur)) && !s.driftPreempts n cur es then some cur else first
    | none => first

/-- The entry that should be selected now (R130, R135), none where none is. -/
def State.choice (s : State) (n : Nat) : Option Nat :=
  let t := s.attrN Attr.selector_select_target n
  match SelectMode.ofCode (s.attr Attr.selector_select_mode n) with
  | .auto => s.autoChoice n (s.eligible n)
  | .manual =>
    if (s.eligible n).contains t then some t else s.autoChoice n ((s.eligible n).filter fun k => k != t)
  | .forced =>
    match candNumber (s.cand n t) with
    | some x => if s.sourceQualified x then some t else none
    | none => none

/-- Why selection is degraded now (R149): 1 the bypass, 2 a FORCED target that is not qualified, 3 a MANUAL target that
is not eligible. -/
def State.degradedNow (s : State) (n : Nat) : Nat :=
  match SelectMode.ofCode (s.attr Attr.selector_select_mode n) with
  | .forced => if (s.choice n).isNone then 2 else 0
  | .manual =>
    if (s.eligible n).contains (s.attrN Attr.selector_select_target n) then
      boolNat (s.entryPending n (s.attrN Attr.selector_select_target n))
    else 3
  | .auto =>
    match s.choice n with
    | some k => if s.entryPending n k then 1 else 0
    | none => 0

/-! ### A decision (R126, R132, R136, R146) -/

/-- A list that waits takes effect (R126): retained sources keep their state, the target follows its source, and the
selected source keeps its selection at its new index. -/
def State.applyList (s : State) (n : Nat) : State :=
  let r := s.sel n
  match r.newList with
  | none => s
  | some es =>
    let target := candNumber (s.cand n (s.attrN Attr.selector_select_target n))
    let list : List Int := (es ++ List.replicate (24 - es.length) 0).map fun e => ((e % 2 ^ 18 : Nat) : Int)
    let t := (s.putList Attr.selector_candidates n 0 list).put1 Attr.selector_cand_count n
      (es.filter fun e => !candEmpty e).length
    let kept (x : Nat) : Bool := (t.indexOf n x).isSome
    let u := t.setSel n { r with newList := none, left := r.left.filter kept, wtr := r.wtr.filter fun e => kept e.1 }
    let v := if s.attr Attr.selector_select_mode n = 0 then u
      else match target.bind (u.indexOf n) with
        | some k => u.put1 Attr.selector_select_target n k
        | none => u
    match v.selectedIndex n with
    | some k => v.put1 Attr.selector_selected n k
    | none => v

/-- Whether taking entry `k` now is taking it under the bypass of R128: it is pending, no candidate is eligible without the
bypass, and the mode is not FORCED, which needs none (R135). -/
def State.takenPending (s : State) (n k : Nat) : Bool :=
  s.entryPending n k && s.bypassing n && s.attr Attr.selector_select_mode n != SelectMode.forced.code

/-- The selector enters NO_REFERENCE (R146, R149). -/
def State.noReference (s : State) (n : Nat) : State :=
  let t := s.setSel n { s.sel n with source := none, bypass := false }
  let u := (t.put1 Attr.selector_sel_state n SelState.noReference.code).put1 Attr.selector_selected n 255
  (if s.attr Attr.selector_sel_state n = SelState.noReference.code then u else u.raise (evLoop n 1) true).dpllDisconnect n

/-- The selector connects entry `k` (R138, R146, R147, R149). -/
def State.connect (s : State) (n k cause : Nat) (phase : Int) : State :=
  match candNumber (s.cand n k) with
  | none => s
  | some x =>
    let old := s.attrN Attr.selector_selected n
    let t := s.setSel n { s.sel n with source := some x, bypass := s.takenPending n k }
    let u := (t.put1 Attr.selector_sel_state n SelState.selected.code).put1 Attr.selector_selected n k
    let v := (u.bump Attr.selector_switch_count n).put1 Attr.selector_last_switch n
      ((s.counter + old * 2 ^ 64 + k * 2 ^ 72 + cause * 2 ^ 80 : Nat) : Int)
    let w := (v.uncause (evLoop n 1)).raise (evLoop n 0) false (old * 256 + k)
    w.dpllConnect n x phase

/-- The selected candidate stays (R136), or comes back after HOLD_OFF; a DPLL that was closed during the HOLD_OFF follows no
candidate yet, and is connected (R164). -/
def State.stay (s : State) (n k : Nat) (phase : Int) : State :=
  let t := s.setSel n { s.sel n with bypass := s.takenPending n k || ((s.sel n).bypass && s.entryPending n k) }
  let u := (t.put1 Attr.selector_sel_state n SelState.selected.code).put1 Attr.selector_selected n k
  match (u.sel n).source with
  | some x =>
    if u.inLoop n || decide (u.dpllState n = .opened) then u.setDpll n { u.dpll n with heldOff := false } else u.dpllConnect n x phase
  | none => u

/-- The cause code of a switch from an entry (R147): a loss of eligibility that no command caused, a command, drift, a better
rank. -/
def State.switchCause (s : State) (n : Nat) (byCommand lostByCommand : Bool) (old new : Nat) : Nat :=
  if !(s.eligible n).contains old then (if lostByCommand then 3 else 0)
  else if byCommand then 3
  else if s.sourceDrift ((candNumber (s.cand n old)).getD 0) && !s.sourceDrift ((candNumber (s.cand n new)).getD 0) &&
    s.driftPreempts n old (s.eligible n) then 2
  else 1

/-- A selector that tracks the mate takes the implicit mate reference, or NO_REFERENCE while that is disqualified (R469). -/
def State.takeMate (s : State) (n : Nat) (phase : Int) : State :=
  if !s.mateQualified then s.noReference n
  else if (s.sel n).source = some mateSource then
    (s.put1 Attr.selector_sel_state n SelState.selected.code).setDpll n { s.dpll n with heldOff := false }
  else
    let old := s.attrN Attr.selector_selected n
    let t := s.setSel n { s.sel n with source := some mateSource, bypass := false }
    let u := (t.put1 Attr.selector_sel_state n SelState.selected.code).put1 Attr.selector_selected n 255
    let v := (u.bump Attr.selector_switch_count n).put1 Attr.selector_last_switch n
      ((s.counter + old * 2 ^ 64 + 255 * 2 ^ 72 + 3 * 2 ^ 80 : Nat) : Int)
    ((v.uncause (evLoop n 1)).raise (evLoop n 0) false (old * 256 + 255)).dpllConnect n mateSource phase

/-- The selector takes what should be selected (R146). A first connection, with no source before it, counts as a switch; one that
no command caused has cause 1 (log entry 82). -/
def State.takeChoice (s : State) (n : Nat) (byCommand lostByCommand fromHold : Bool) (phase : Int) : State :=
  if s.mateTracked n then s.takeMate n phase
  else match s.choice n with
  | none => s.noReference n
  | some k =>
    match s.selectedIndex n with
    | some old =>
      if old = k then s.stay n k phase
      else s.connect n k (if fromHold then 4 else s.switchCause n byCommand lostByCommand old k) phase
    | none => s.connect n k (if fromHold then 4 else if byCommand then 3 else 1) phase

/-- The degraded event is raised where selection becomes degraded for a reason (R149). -/
def State.judgeDegraded (s : State) (n : Nat) : State :=
  let now := s.degradedNow n
  let was := (s.sel n).degraded
  if now = was then s
  else
    let t := s.setSel n { s.sel n with degraded := now }
    if now = 0 then t.uncause (evLoop n 2) else t.raise (evLoop n 2) true (now - 1)

/-- Whether the selected candidate has lost its eligibility, as R132 sees it. -/
def State.selectedLost (s : State) (n : Nat) : Bool :=
  match s.selectedIndex n with
  | some k => !(s.eligible n).contains k
  | none => (s.sel n).source.isSome

/-- The changes of configuration that wait take effect at a decision boundary (R126, R137). -/
def State.applyChanges (s : State) (n : Nat) : State :=
  let t := s.applyList n
  t.setSel n { t.sel n with command := 0, cmdLost := false }

/-- The selector enters HOLD_OFF (R132). -/
def State.enterHoldOff (s : State) (n : Nat) : State :=
  let t := s.setSel n { s.sel n with holdEnds := s.counter + s.attrN Attr.selector_hold_off n * 1350000 }
  let u := t.put1 Attr.selector_sel_state n SelState.holdOff.code
  u.setDpll n { u.dpll n with heldOff := true, marks := (u.dpll n).marks ||| 8 }

/-- One decision of an enabled selector (R132, R136, R137, R146). -/
def State.decide_ (s : State) (n : Nat) (phase : Int) : State :=
  let cmd := (s.sel n).command
  let byCmd := (s.sel n).cmdLost
  let u := s.applyChanges n
  let v := match SelState.ofCode (u.attr Attr.selector_sel_state n) with
    | .holdOff => if cmd = 2 then u.takeChoice n true true false phase else u
    | .selected =>
      if u.selectedLost n && !byCmd && !u.mateTracked n && u.attr Attr.selector_hold_off n != 0 &&
          u.attr Attr.selector_select_mode n != SelectMode.forced.code then u.enterHoldOff n
      else u.takeChoice n (decide (cmd ≠ 0)) byCmd false phase
    | _ => u.takeChoice n (decide (cmd ≠ 0)) byCmd false phase
  if v.mateTracked n then v else v.judgeDegraded n

/-- The selector becomes DISABLED (R146). -/
def State.selDisable (s : State) (n : Nat) : State :=
  let t := s.setSel n { s.sel n with source := none, bypass := false, degraded := 0, command := 0, cmdLost := false }
  let u := (t.put1 Attr.selector_sel_state n SelState.disabled.code).put1 Attr.selector_selected n 255
  ((u.uncause (evLoop n 1)).uncause (evLoop n 2)).dpllDisconnect n

/-- A change of a selector's configuration by command starts a decision (R132, R136); `before` is the state before it, by which
a loss of the selected candidate's eligibility is known for the command's (R132). -/
def State.selCommand (s before : State) (n c : Nat) : State :=
  let lost := !(before.applyList n).selectedLost n && (s.applyList n).selectedLost n
  s.setSel n { s.sel n with command := max c (s.sel n).command, cmdLost := (s.sel n).cmdLost || lost }

/-- SELECTOR_DECISION (R136): `phase` is the phase of the candidate that the decision connects, against the DPLL's
output, as its continuous stamps show it (R138), positive where the candidate is later. A DISABLED selector takes up its
changed configuration and connects nothing (R126, R146). -/
def execSelectorDecision (n : Fin 16) (phase : Int) (s : State) : Host.Outcome State Fault Refusal :=
  .next (s.when_ s.timing fun t =>
    if t.flag Attr.selector_enable n.val then t.decide_ n.val phase else t.applyChanges n.val)

/-- WTR_EXPIRY (R131): a pending period ends; a decision follows with a row of its own. -/
def execWtrExpiry (n : Fin 16) (index : Fin 24) (s : State) : Host.Outcome State Fault Refusal :=
  .next (match candNumber (s.cand n.val index.val) with
    | some x =>
      match tblFind (s.sel n.val).wtr x with
      | some ends => s.when_ s.timing fun t =>
          (t.setSel n.val { t.sel n.val with wtr := tblDrop (t.sel n.val).wtr x }).advance ends
      | none => s
    | none => s)

/-- HOLD_OFF_EXPIRY (R132): the selector decides among the candidates eligible at that tick. -/
def execHoldOffExpiry (n : Fin 16) (phase : Int) (s : State) : Host.Outcome State Fault Refusal :=
  .next (s.when_ (s.timing && s.attr Attr.selector_sel_state n.val == SelState.holdOff.code) fun t =>
    (((t.advance (t.sel n.val).holdEnds).applyChanges n.val).takeChoice n.val false false true phase).judgeDegraded n.val)

/-! ### Actions (R148) -/

/-- Whether a non-empty entry breaks a range of R126. -/
def candBad (e : Nat) : Bool :=
  candKind e == 3 || (!candEmpty e && candPriority e == 0) || (candKind e == 1 && decide (26 < candSource e)) ||
    (candKind e == 2 && decide (511 < candSource e))

/-- Whether a source stands twice in a list (R126). -/
def candTwice : List Nat → Bool
  | [] => false
  | e :: es => ((candNumber e).isSome && es.any fun f => candNumber f == candNumber e) || candTwice es

/-- The source that MANUAL or FORCED selection names (R126). -/
def State.targetSource (s : State) (n : Nat) : Option Nat :=
  if s.attr Attr.selector_select_mode n = 0 then none
  else candNumber (s.cand n (s.attrN Attr.selector_select_target n))

/-- SELECTOR.SET_CANDIDATES (R126). -/
def execSetCandidates (who : Issuer) (selector : Nat) (entries : List Nat) (s : State) : Host.Outcome State Fault Refusal :=
  let lacks := match s.targetSource selector with
    | some x => !(entries.any fun e => candNumber e == some x)
    | none => false
  let own := match s.boundDom selector with
    | some d => entries.any fun e => candNumber e == some (64 + d)
    | none => false
  .next (s.doAct who
    { opcode := 0x0300, inst := selector
      refusals := [(decide (15 < selector) || decide (24 < entries.length) || entries.any candBad || candTwice entries, E_RANGE),
        ((entries.any fun e => candKind e == 2 && !s.created (candSource e)) || lacks, E_STATE), (own, E_LOOP)] }
    fun t => (t.setSel selector { t.sel selector with newList := some entries }).selCommand t selector 2)

/-- SELECTOR.SELECT (R135). -/
def execSelect (who : Issuer) (selector mode index : Nat) (s : State) : Host.Outcome State Fault Refusal :=
  let e := s.cand selector index
  .next (s.doAct who
    { opcode := 0x0301, inst := selector
      refusals := [(decide (15 < selector) || decide (2 < mode) || (mode != 0 && (decide (23 < index) || candEmpty e)), E_RANGE),
        (mode != 0 && candLocked e, E_STATE)] }
    fun t => ((t.put1 Attr.selector_select_mode selector mode).put1 Attr.selector_select_target selector
      (if mode = 0 then 255 else index)).selCommand t selector 2)

/-- SELECTOR.LOCKOUT (R134). -/
def execLockout (who : Issuer) (selector index on : Nat) (s : State) : Host.Outcome State Fault Refusal :=
  let e := s.cand selector index
  .next (s.doAct who
    { opcode := 0x0302, inst := selector
      refusals := [(decide (15 < selector) || decide (23 < index) || candEmpty e || decide (1 < on), E_RANGE),
        (on == 1 && s.attr Attr.selector_select_mode selector != 0 && s.attrN Attr.selector_select_target selector == index, E_STATE)] }
    fun t => (t.put Attr.selector_candidates selector index
      ((field e 0 17 + on * 2 ^ 17 : Nat) : Int)).selCommand t selector 2)

/-- SELECTOR.CLEAR_WTR (R131). -/
def execClearWtr (who : Issuer) (selector index : Nat) (s : State) : Host.Outcome State Fault Refusal :=
  .next (s.doAct who
    { opcode := 0x0303, inst := selector
      refusals := [(decide (15 < selector) || (decide (23 < index) && index != 255), E_RANGE)] }
    fun t =>
      let r := t.sel selector
      if index = 255 then t.setSel selector { r with wtr := [] }
      else match candNumber (t.cand selector index) with
        | some x => t.setSel selector { r with wtr := tblDrop r.wtr x }
        | none => t)

/-- SELECTOR.ALIGN (R141): the whole of `buildout_phase` is removed at the phase slope limit. -/
def execAlign (who : Issuer) (selector : Nat) (s : State) : Host.Outcome State Fault Refusal :=
  .next (s.doAct who
    { opcode := 0x0304, inst := selector
      refusals := [(decide (15 < selector), E_RANGE),
        (s.attr Attr.selector_sel_state selector != SelState.selected.code, E_STATE)] }
    fun t =>
      let b := t.attr Attr.selector_buildout_phase selector
      (t.put1 Attr.selector_buildout_phase selector 0).addMove selector .align (-b))

end Sys2Proof.Machine
end

