-- ==== Sys2Proof/Machine/Mailbox.lean ====
section
/-! DEFINITION. The host interface (R310 to R338): rings, fetching and its checks, completions and notifications, event
records, the owner registers, the time-read latch and SPI lite. -/

namespace Sys2Proof.Machine

/-! ### Registers and rings -/

/-- Whether the PCIe interface answers: from the end of step 2, and not in DORMANT (R395, R413). -/
def State.hostUp (s : State) : Bool :=
  (decide (s.boot.phase = .running) || decide (s.boot.phase = .safeTalk)) && decide (s.power ≠ .dormant)

/-- Whether commands are fetched for a client: Holax serves, or safe-talk serves client 0; fetching is not stopped by a power
failure or a restart that is due (R352, R364, R395, R490). -/
def State.fetches (s : State) (c : Nat) : Bool :=
  s.hostUp && !s.boot.fetchStopped && !s.boot.warmDue && s.boot.restore.isNone && (s.firmware || (decide (s.boot.phase = .safeTalk) && c == 0))

/-- Ring sizes (R314, R322). -/
def Ring.cmdSize (r : Ring) : Nat := 2 ^ (r.cfg % 16)
def Ring.cplSize (r : Ring) : Nat := 2 ^ (r.cfg / 16 % 16)
def evtSize : Nat := 1024
def Ring.enabled (r : Ring) : Bool := bitOf r.cfg 31

/-- TAGS_OUT of a client (R314). -/
def State.tagsOut (s : State) (c : Nat) : Nat := (s.host.inflight.filter fun f => f.client == c).length

/-- Whether a client is allowed (R319). -/
def State.allowed (s : State) (c : Nat) : Bool := c == 0 || bitOf (s.attrN Attr.client_allow 0 (c / 8)) (c % 8)

/-- `tag_pool` [0]: tags in use (R330). -/
def State.tagsUsed (s : State) : Nat := s.host.inflight.length + boolNat s.host.spi.busy + boolNat s.host.console.busy

/-- A word of a vector's entry of the MSI-X table: 0 and 1 the message address, 2 the message data, 3 the mask (R317). -/
def State.msixWord (s : State) (v k : Nat) : Nat :=
  if k = 3 then boolNat (bitOf s.host.msixMask v) else tblGet s.host.msixTable 0 (4 * v + k)

/-- The MSI-X message of a vector, as its table entry has it. -/
def State.msixMessage (s : State) (v : Nat) : Emission := .msix v (s.msixWord v 0 + s.msixWord v 1 * 2 ^ 32) (s.msixWord v 2)

/-- Sends an MSI-X message, or keeps it pending while its vector is masked (R331). -/
def State.sendMsix (s : State) (v : Nat) : State :=
  if bitOf s.host.msixMask v then { s with host := { s.host with msixPend := s.host.msixPend ||| 2 ^ v } }
  else s.emit (s.msixMessage v)

/-- A notification of a client's ring fires (R331): `evt` for its event ring. -/
def State.notify (s : State) (c : Nat) (evt : Bool) : State :=
  let r := s.ring c
  if (if evt then r.armEvt else r.armCpl) then
    let t := s.setRing c (if evt then { r with armEvt := false } else { r with armCpl := false })
    let u : State := if c = 0 then { t with host := { t.host with intW1c := t.host.intW1c ||| (if evt then 4 else 2) } } else t
    u.sendMsix (u.attrN Attr.client_vector 0 c)
  else s

/-- A client's rings stop being ACTIVE (R319, R361): its subscriptions are cleared. -/
def State.deactivate (s : State) (c : Nat) : State :=
  let t := s.setRing c { s.ring c with active := false }
  { t with faults := { t.faults with subs := tblDrop t.faults.subs c } }

/-- The doorbell instants once CMD_PI goes to `pi` at a tick: the entries that the write makes available take it (R324). -/
def Ring.ringUp (r : Ring) (now pi : Nat) : Tbl Nat :=
  let size := max 1 r.cmdSize
  (List.range ((pi + size - r.cmdPi % size) % size)).foldl (fun t k => tblPut t ((r.cmdPi + k) % size) now) r.rung

/-- CMD_PI_WRITE (R314): an index at or beyond the ring size is ignored. -/
def execCmdPiWrite (client : Fin 512) (value : Nat) (s : State) : Host.Outcome State Fault Refusal :=
  .next (s.when_ s.hostUp fun t =>
    let r := t.ring client.val
    if decide (r.cmdSize ≤ value) then (t.setRing client.val { r with indexError := true }).raise 520 false client.val
    else t.setRing client.val { r with cmdPi := value % 2 ^ 32, rung := r.ringUp t.counter (value % 2 ^ 32) })

/-- CPL_CI_WRITE (R322). -/
def execCplCiWrite (client : Fin 512) (value : Nat) (s : State) : Host.Outcome State Fault Refusal :=
  .next (s.when_ s.hostUp fun t =>
    let r := t.ring client.val
    if decide (r.cplSize ≤ value) then (t.setRing client.val { r with indexError := true }).raise 520 false client.val
    else t.setRing client.val { r with cplCi := value % 2 ^ 32 })

/-- EVT_CI_WRITE (R322). -/
def execEvtCiWrite (client : Fin 512) (value : Nat) (s : State) : Host.Outcome State Fault Refusal :=
  .next (s.when_ s.hostUp fun t =>
    let r := t.ring client.val
    if decide (evtSize ≤ value) then (t.setRing client.val { r with indexError := true }).raise 520 false client.val
    else t.setRing client.val { r with evtCi := value % 2 ^ 32 })

/-- Whether the configuration of a client's rings may be enabled (R319): aligned bases and sizes in range. -/
def Ring.cfgOk (r : Ring) (cfg : Nat) : Bool :=
  r.cmdBase % 4096 == 0 && r.cplBase % 4096 == 0 && r.evtBase % 4096 == 0 && decide (4 ≤ cfg % 16) && decide (cfg % 16 ≤ 8) &&
    decide (5 ≤ cfg / 16 % 16) && decide (cfg / 16 % 16 ≤ 9)

/-- RING_ENABLE (R314, R319): a RING_CFG write with ENABLE 1. It clears bits [4:1] of RING_STATUS; while ACTIVE is 1 it has no
further effect. -/
def execRingEnable (client : Fin 512) (cfg : Nat) (s : State) : Host.Outcome State Fault Refusal :=
  let c := client.val
  .next (s.when_ s.hostUp fun t =>
    let q : Ring := { t.ring c with indexError := false, dmaFault := false, cfgError := false, denied := false }
    let r : Ring := { q with cfg := cfg % 256 + 2 ^ 31 }
    if q.active then t.setRing c q
    else if !t.allowed c || (decide (t.boot.phase = .safeTalk) && c != 0) then (t.setRing c { r with denied := true }).raise 512 false c
    else if !r.cfgOk cfg then (t.setRing c { r with cfgError := true }).raise 512 false c
    else t.setRing c { r with
      cmdPi := 0, cmdCi := 0, cplCi := 0, evtCi := 0, cplPi := 0, evtPi := 0, cplPhase := true, evtPhase := true, active := true, dead := false, halted := false
      limitHeld := false, poolHeld := false, rung := [], fullSince := none, fullTold := false })

/-- ENABLE of a client's rings is 0: fetching stops at once (R319). -/
def State.disableRing (s : State) (c : Nat) : State := s.setRing c { s.ring c with cfg := (s.ring c).cfg % 2 ^ 31 }

/-- RING_DISABLE (R314, R319): a RING_CFG write with ENABLE 0 stops fetching at once; the sizes take their values while ACTIVE is
0. -/
def execRingDisable (client : Fin 512) (cfg : Nat) (s : State) : Host.Outcome State Fault Refusal :=
  .next (s.when_ s.hostUp fun t =>
    if (t.ring client.val).active then t.disableRing client.val
    else t.setRing client.val { t.ring client.val with cfg := cfg % 256 })

/-- RING_DRAINED (R319). -/
def execRingDrained (client : Fin 512) (s : State) : Host.Outcome State Fault Refusal :=
  .next (s.when_ ((s.ring client.val).active && !(s.ring client.val).enabled && s.tagsOut client.val == 0) fun t => t.deactivate client.val)

/-- IRQ_ARM_WRITE (R314, R333). -/
def execIrqArmWrite (client : Fin 512) (value : Nat) (s : State) : Host.Outcome State Fault Refusal :=
  .next (s.when_ s.hostUp fun t =>
    let r := t.ring client.val
    t.setRing client.val { r with armCpl := r.armCpl || bitOf value 0, armEvt := r.armEvt || bitOf value 1 })

/-- EVT_LOST_READ (R314, R335). -/
def execEvtLostRead (client : Fin 512) (s : State) : Host.Outcome State Fault Refusal :=
  .next (s.when_ s.hostUp fun t =>
    let r := t.ring client.val
    (t.setRing client.val { r with evtLost := 0 }).emit (.registerRead r.evtLost))

/-- Clears bits of a W1C register. -/
def w1c (old value : Nat) : Nat := old - (old &&& value)

/-- INT_STATUS_WRITE (R315): bits 0 to 2 are W1C; only page 0 holds the register. -/
def execIntStatusWrite (client : Fin 512) (value : Nat) (s : State) : Host.Outcome State Fault Refusal :=
  .next (s.when_ (s.hostUp && client.val == 0) fun t => { t with host := { t.host with intW1c := w1c t.host.intW1c (value % 8) } })

/-- INT_STATUS (R315). -/
def State.intStatus (s : State) : Nat :=
  s.host.intW1c % 8 + 8 * boolNat s.intFault + 16 * boolNat (!s.host.spi.fifo.isEmpty)

/-- Whether INT_N is driven low (R315, R395). -/
def State.intLow (s : State) : Bool := decide (s.boot.phase = .running) && (s.intStatus &&& s.host.intMask) != 0

/-- ALIVE_FEED_WRITE (R316). -/
def execAliveFeedWrite (client : Fin 512) (s : State) : Host.Outcome State Fault Refusal :=
  .next (s.when_ (s.hostUp && client.val == 0) fun t =>
    ({ t with faults := { t.faults with hostMissed := false }, host := { t.host with fedAt := t.counter } }).uncause 525)

/-- HOST_PERIOD in ticks (R315): units of 10 ms, 0 as 1. -/
def State.hostPeriod (s : State) : Nat := max 1 (s.host.aliveCfg / 256 % 256) * 13500000

/-- HOST_FEED_TIMEOUT (R316, R341): HOST_PERIOD has passed since the last feed, or since HOST_FEED_EN was set. -/
def execHostFeedTimeout (s : State) : Host.Outcome State Fault Refusal :=
  .next (s.when_ (decide (s.boot.phase = .running) && bitOf s.host.aliveCfg 0 && !s.faults.hostMissed) fun t =>
    let u := t.advance (t.host.fedAt + t.hostPeriod)
    ({ u with faults := { u.faults with hostMissed := true } }).raise 525 true)

/-- TW_BASE_WRITE (R388): a base at or above 0x3_C000_0000 is ignored. -/
def execTwBaseWrite (client : Fin 512) (high : Bool) (value : Nat) (s : State) : Host.Outcome State Fault Refusal :=
  .next (s.when_ (s.hostUp && client.val == 0) fun t =>
    let base := if high then value % 4 * 2 ^ 32 + t.host.twBase % 2 ^ 32 else t.host.twBase / 2 ^ 32 * 2 ^ 32 + value / 2 ^ 26 % 64 * 2 ^ 26
    if base < tmSize then { t with host := { t.host with twBase := base } } else t)

/-- MSIX_UNMASK (R331): a message pending in the PBA is sent. -/
def execMsixUnmask (vector : Fin 64) (s : State) : Host.Outcome State Fault Refusal :=
  .next (s.when_ s.hostUp fun t =>
    let bit := 2 ^ vector.val
    let u : State := { t with host := { t.host with msixMask := w1c t.host.msixMask bit, msixPend := w1c t.host.msixPend bit } }
    if bitOf t.host.msixPend vector.val then u.emit (u.msixMessage vector.val) else u)

/-- The register of a client's page that a plain write sets, where its rings are not ACTIVE: the ring bases (R314, R319). -/
def Ring.writeBase (r : Ring) (offset value : Nat) : Ring :=
  let lo (b : Nat) : Nat := b / 2 ^ 32 * 2 ^ 32 + value % 2 ^ 32
  let hi (b : Nat) : Nat := value % 2 ^ 32 * 2 ^ 32 + b % 2 ^ 32
  if r.active then r
  else if offset = 0x10 then { r with cmdBase := lo r.cmdBase }
  else if offset = 0x14 then { r with cmdBase := hi r.cmdBase }
  else if offset = 0x18 then { r with cplBase := lo r.cplBase }
  else if offset = 0x1C then { r with cplBase := hi r.cplBase }
  else if offset = 0x20 then { r with evtBase := lo r.evtBase }
  else if offset = 0x24 then { r with evtBase := hi r.evtBase }
  else r

/-- A write of a word of the MSI-X table (R317): the address, aligned to 4 bytes, and the data of a message, or the mask of its
vector; the row that unmasks a vector is MSIX_UNMASK. -/
def State.writeMsix (s : State) (v k value : Nat) : State :=
  if k = 3 then (if value % 2 = 1 then { s with host := { s.host with msixMask := s.host.msixMask ||| 2 ^ v } } else s)
  else { s with host := { s.host with msixTable := tblSet s.host.msixTable 0 (4 * v + k) (if k = 0 then value % 2 ^ 32 / 4 * 4 else value % 2 ^ 32) } }

/-- A write of ALIVE_CFG (R315, R316): setting HOST_FEED_EN starts the feed period, and clearing it ends what its lack had frozen. -/
def State.writeAliveCfg (s : State) (value : Nat) : State :=
  let on := bitOf value 0
  let t : State := { s with host := { s.host with
    aliveCfg := value / 256 % 256 * 256 + value % 2
    fedAt := if on && !bitOf s.host.aliveCfg 0 then s.counter else s.host.fedAt } }
  if on then t else ({ t with faults := { t.faults with hostMissed := false } }).uncause 525

/-- REGISTER_WRITE (R313 to R315, R317): the ring bases of a page, INT_MASK, ALIVE_CFG and, in BAR4, the MSI-X table; every
other offset of this row, and an access that is not aligned, is ignored. -/
def execRegisterWrite (bar4 : Bool) (offset value : Nat) (aligned : Bool) (s : State) : Host.Outcome State Fault Refusal :=
  .next (s.when_ (s.hostUp && aligned && offset % 4 == 0 && decide (offset < if bar4 then 0x10000 else 0x200000)) fun t =>
    let c := offset / 0x1000
    if bar4 then (if 0xE000 ≤ offset ∧ offset < 0xE400 then t.writeMsix (offset / 16 % 64) (offset / 4 % 4) value else t)
    else
    let o := offset % 0x1000
    if c = 0 ∧ o = 0x804 then { t with host := { t.host with intMask := value % 32 ||| 8 } }
    else if c = 0 ∧ o = 0x808 then t.writeAliveCfg value
    else t.setRing c ((t.ring c).writeBase o value))

/-! ### The time-read latch (R65, R66) -/

/-- A capture for a client, or for SPI lite with client 0's rights in block 512 (R65, R66). With CNT_ONLY no domain is looked at, and
DENIED, UNSET and NOT_CREATED read 0; a FREE domain is assigned to nobody, so that a client other than 0 that names it finds
DENIED alone (DESIGN CHOICE, log entry 77). -/
def State.capture (s : State) (block client value : Nat) : State :=
  let d := value % 512
  let only := bitOf value 9
  let denied := client != 0 && !(s.created d && s.attrN Attr.domain_owner_client d == client)
  let missing := !denied && !s.created d
  let unset := !denied && !missing && s.attr Attr.domain_time_status d == 0
  let t : Int := if only || denied || missing then 0 else s.domNow d
  let status := if only then 1 + d * 65536 else 1 + 2 * boolNat denied + 4 * boolNat unset + 8 * boolNat missing + d * 65536
  let b : LatchBlock :=
    { status := status, sec := (secondsOf t % 2 ^ 64).toNat, nsec := (t % secondUnits / 65536).toNat, frac := (t % 65536).toNat, counter := s.counter }
  { s with host := { s.host with latchBlocks := tblPut s.host.latchBlocks block b } }

/-- TL_CTRL_WRITE (R65, R66). -/
def execTlCtrlWrite (client : Fin 512) (value : Nat) (s : State) : Host.Outcome State Fault Refusal :=
  .next (s.when_ s.hostUp fun t => t.capture client.val client.val value)

/-! ### CRC-32C (R325) -/

/-- One bit of the reflected Castagnoli division. -/
def crcBit (c : Nat) : Nat := if c % 2 = 1 then (c / 2) ^^^ 0x82F63B78 else c / 2

/-- One byte. -/
def crcByte (c : Nat) (b : Byte) : Nat := crcBit (crcBit (crcBit (crcBit (crcBit (crcBit (crcBit (crcBit (c ^^^ b.toNat))))))))

/-- CRC-32C of bytes in memory order. -/
def crc32c (bs : List Byte) : Nat := (bs.foldl crcByte 0xFFFFFFFF) ^^^ 0xFFFFFFFF

/-! ### Fetching and its checks (R323, R326, R328) -/

/-- The opcodes of R342 with the payload sizes that each accepts. -/
def opcodes : List (Nat × Nat × Nat) :=
  [(0x00F0, 20, 20), (0x00F1, 9, 4096), (0x00F2, 24, 1044), (0x00F3, 8, 8), (0x0100, 4, 4), (0x0101, 4, 4), (0x0102, 4, 4), (0x0103, 4, 4),
    (0x0104, 8, 8), (0x0105, 8, 8), (0x0106, 16, 16), (0x0107, 8, 8), (0x0108, 4, 4), (0x0109, 0, 0), (0x010A, 20, 20), (0x010B, 14, 28),
    (0x010C, 4, 4), (0x010D, 20, 20)] ++
  [(0x0300, 4, 100), (0x0301, 4, 4), (0x0302, 4, 4), (0x0303, 4, 4), (0x0304, 4, 4), (0x0400, 4, 4), (0x0401, 4, 4), (0x0402, 12, 12),
    (0x0403, 12, 12), (0x0404, 4, 4), (0x0500, 12, 28), (0x0501, 4, 4), (0x0502, 4, 4), (0x0600, 5, 5), (0x0601, 2, 2), (0x0602, 4, 4),
    (0x0603, 3, 3), (0x0604, 3, 3), (0x0605, 20, 20), (0x0606, 14, 14), (0x0607, 8, 8), (0x0608, 12, 12), (0x0609, 7, 7),
    (0x060A, 4, 516), (0x060B, 2, 2)] ++
  [(0x0700, 4, 4), (0x0800, 36, 36), (0x0801, 4, 4), (0x0802, 40, 40), (0x0803, 4, 4), (0x0804, 8, 8), (0x0805, 32, 32), (0x0900, 4, 4),
    (0x0901, 20, 20), (0x0A00, 4, 4), (0x0A01, 4, 4), (0x0A02, 8, 8), (0x0A03, 12, 12), (0x0B00, 4, 4), (0x0C00, 4, 4), (0x0C01, 4, 4),
    (0x0C02, 4, 4), (0x0C03, 4, 4), (0x0D00, 4, 4), (0x0E00, 4, 4), (0x0F00, 4, 4), (0x0F01, 4, 4), (0x1100, 20, 20), (0x1101, 4, 4)]

/-- Whether an opcode is listed in R342. -/
def opcodeKnown (op : Nat) : Bool := opcodes.any fun x => x.1 == op

/-- Whether an opcode accepts a LENGTH (R342); SYN.COMMIT takes 12 or 28. -/
def lengthOk (op len : Nat) : Bool :=
  opcodes.any fun x => x.1 == op && decide (x.2.1 ≤ len) && decide (len ≤ x.2.2) && (op != 0x0500 || len == 12 || len == 28)

/-- Whether the audit log records an opcode: SET and every action (R355). -/
def audited (op : Nat) : Bool := opcodeKnown op && op != 0x00F0 && op != 0x00F2 && op != 0x00F3

/-- The object of an action's opcode (R342). -/
def actionObj (code : Nat) : Option Obj :=
  [none, some Obj.system, some .input, some .selector, some .dpll, some .syn, some .domain, some .vidgen, some .port, some .tic, some .fault,
    some .store, some .mate, some .output, some .audgen, some .tcgen, some .todgen, some .session].getD code none

/-- A field of a payload (R77, R148, R179, R208, R247, R287, R309, R348 to R351, R357). -/
def payloadField (bs : List Byte) (offset bytes : Nat) : Nat := natLE ((bs.drop offset).take bytes)

/-- The object instance that an instance and an attribute ID name. -/
def attrTarget (bs : List Byte) (offset : Nat) : List (Obj × Nat) :=
  ((Obj.ofAttr (payloadField bs (offset + 2) 2)).map fun o => (o, payloadField bs offset 2)).toList

/-- The object instances that a command names (R327). Commit slots, key slots and host queues count as instances of their object from
16, 32 and 64 on. -/
def commandNames (op : Nat) (bs : List Byte) : List (Obj × Nat) :=
  if op = 0x00F0 ∨ op = 0x00F1 then attrTarget bs 0
  else if op = 0x00F2 then (List.range (min 256 (payloadField bs 0 2))).flatMap fun k => attrTarget bs (20 + 4 * k)
  else if op = 0x00F3 then []
  else if op = 0x010B then (Obj.system, 0) :: (List.range (min 8 (payloadField bs 0 1))).map fun k => (Obj.domain, payloadField bs (12 + 2 * k) 2)
  else if op = 0x0500 then
    (Obj.syn, 16 + payloadField bs 0 1) :: ((List.range 8).filter fun n => bitOf (payloadField bs 3 1) n).map (fun n => (Obj.syn, n)) ++
      ((List.range 32).filter fun n => bitOf (payloadField bs 4 4) n).map fun n => (Obj.output, n)
  else if op = 0x0501 then [(.syn, 16 + payloadField bs 0 1)]
  else if op = 0x0802 ∨ op = 0x0803 then [(.port, 32 + payloadField bs 0 1)]
  else if op = 0x0804 ∨ op = 0x0805 then [(.port, 64 + payloadField bs 0 1)]
  else if op = 0x1100 then [(.port, payloadField bs 0 1)]
  else
    match actionObj (op / 256) with
    | none => []
    | some .system => [(.system, 0)]
    | some .store => [(.store, 0)]
    | some .mate => [(.mate, 0)]
    | some o => [(o, payloadField bs 0 (if o = .domain ∨ o = .fault ∨ o = .session then 2 else 1))]

/-- A fetched command entry (R323). -/
structure Entry where
  opcode : Nat
  tag : Nat
  crc : Bool
  ptr : Bool
  fence : Bool
  length : Nat
  bufCrc : Nat
  entryCrc : Nat
deriving DecidableEq, Repr

/-- The fields of the 64 bytes of an entry. -/
def Entry.ofBytes (bs : List Byte) : Entry :=
  let h := natLE (bs.take 4)
  { opcode := h % 65536, tag := h / 65536 % 2048, crc := bitOf h 27, ptr := bitOf h 28, fence := bitOf h 29
    length := natLE ((bs.drop 4).take 2), bufCrc := natLE ((bs.drop 16).take 4), entryCrc := natLE ((bs.drop 60).take 4) }

/-- Steps 1 to 5 of R326 for an entry and its payload buffer; `flip` inverts low bits of the stored ENTRY_CRC (R443), and
`tagTaken` is step 2. -/
def Entry.check (e : Entry) (bs : List Byte) (payload : Option (List Byte)) (flip : Nat) (tagTaken : Bool) : Option Nat :=
  let badEntry := e.crc && crc32c (bs.take 60) != (e.entryCrc ^^^ (2 ^ flip - 1))
  let badBuf := e.crc && e.ptr && (match payload with
    | some p => crc32c p != e.bufCrc
    | none => false)
  firstRefusal
    [(badEntry || badBuf, E_CHECK), (tagTaken, E_TAG), (!opcodeKnown e.opcode, E_OPCODE),
      (!lengthOk e.opcode e.length || (!e.ptr && decide (48 < e.length)) || (e.ptr && (e.length == 0 || decide (4096 < e.length))), E_LENGTH),
      (e.ptr && payload.isNone, E_POINTER)]

/-- A command completed by steps 1 to 5 (R326, R341, R355). -/
def State.rejectEntry (s : State) (who : Issuer) (opcode slot code : Nat) : State :=
  let a := if audited opcode then s.audit who opcode code 0 0 else s
  let t : State := { a with host := { a.host with completed := a.host.completed ++
    [{ who := who, opcode := opcode, slot := slot, status := code, result := [], resultLen := 0 }] } }
  if code = E_CHECK then (t.bump Attr.crc_failures).raiseOnce 515 (issuerNumber who)
  else if code = E_POINTER then t.pointerFault who 0x0106
  else t

/-- Whether a ring tag is free for a client under the reserve rule (R328). -/
def State.poolFree (s : State) (c : Nat) : Bool :=
  let free := 2046 - s.host.inflight.length
  let reserve := min 64 (s.attrN Attr.client_tag_limit 0 0) - s.tagsOut 0
  if c = 0 then decide (0 < free) else decide (reserve < free)

/-- Whether the module can fetch for a client (R321, R328). -/
def State.canFetch (s : State) (c : Nat) : Bool :=
  let r := s.ring c
  s.fetches c && r.active && r.enabled && !r.halted && r.cmdPi != r.cmdCi && decide (s.tagsOut c < s.attrN Attr.client_tag_limit 0 c) && s.poolFree c

/-- The client whose turn is next (R328): client 0 in every second turn, the others in the order of their numbers. -/
def State.nextClient (s : State) : Option Nat :=
  let others := (s.host.rings.map (·.1)).filter fun c => c != 0 && s.canFetch c
  let next := (others.find? fun c => decide (s.host.turn < c)).orElse fun _ => others.head?
  if s.canFetch 0 && (!s.host.turnZero || next.isNone) then some 0 else next

/-- A fetch for a client has had its turn. -/
def State.hadTurn (s : State) (c : Nat) : State :=
  { s with host := { s.host with turn := if c = 0 then s.host.turn else c, turnZero := c == 0 } }

/-- The fetch of one entry (R321, R324, R326 to R328). -/
def State.fetch (s : State) (c : Fin 512) (entry : List Byte) (payload : Option (List Byte)) (entryReachable : Bool) : State :=
  let r := { s.ring c.val with limitHeld := false, poolHeld := false }
  let slot := r.cmdCi
  if !entryReachable then (s.setRing c.val { r with dmaFault := true, halted := true }).raise 513 false c.val
  else
    let e := Entry.ofBytes entry
    let who : Issuer := .ring c ⟨e.tag % 2048, Nat.mod_lt _ (by decide)⟩
    let taken := s.host.inflight.any fun f => f.client == c.val && f.tag == e.tag
    let inj := if e.crc then s.takeInjection 2 c.val else none
    let t := match inj with
      | some x => x.2
      | none => s
    let code := e.check entry payload (match inj with
      | some x => x.1
      | none => 0) taken
    let lost := code == some E_POINTER
    let u := t.setRing c.val { r with cmdCi := (slot + 1) % r.cmdSize, dmaFault := r.dmaFault || lost, halted := r.halted || lost }
    let flight : InFlight :=
      { client := c.val, tag := e.tag, opcode := e.opcode, slot := slot, fence := e.fence, rung := tblGet r.rung s.counter slot, fetched := s.counter
        names := commandNames e.opcode ((if e.ptr then payload.getD [] else entry.drop 8).take e.length) }
    let v : State := { u with host := { u.host with
      orphans := u.host.orphans.erase (c.val, e.tag)
      inflight := u.host.inflight ++ [flight] } }
    match code with
    | some k => v.rejectEntry who e.opcode slot k
    | none => v

/-- COMMAND_FETCH (R326, R328, R329): one entry of a client's ring is fetched where a tag is free and its turn has come, and checked. A
command that passes starts when its own command row runs. A fetch that the pool defers counts once. -/
def execCommandFetch (client : Fin 512) (entry : List Byte) (payload : Option (List Byte)) (entryReachable : Bool) (s : State) :
    Host.Outcome State Fault Refusal :=
  let c := client.val
  let r := s.ring c
  .next (s.when_ (s.fetches c && r.active && r.enabled && !r.halted && r.cmdPi != r.cmdCi) fun t =>
    if t.attrN Attr.client_tag_limit 0 c ≤ t.tagsOut c then (t.setRing c { r with limitHeld := true }).raiseOnce 517 c
    else if !t.poolFree c then
      if r.poolHeld then t else ((t.setRing c { r with poolHeld := true }).bump Attr.pool_waits).raiseOnce 516 c
    else if t.nextClient = some c then (t.fetch client entry payload entryReachable).hadTurn c
    else t)

/-! ### Completions (R324, R329, R331) -/

/-- A list of bytes filled with zeros, or cut, to a length. -/
def padBytes (n : Nat) (bs : List Byte) : List Byte := (bs ++ List.replicate n 0).take n

/-- A completion entry (R324). -/
def completionEntry (d : Done) (tag cmdCi waitUs serviceUs : Nat) (phase : Bool) : List Byte :=
  bytesLE 2 (tag + boolNat phase * 32768) ++ bytesLE 2 d.status ++ bytesLE 2 d.opcode ++ bytesLE 1 d.slot ++ bytesLE 1 cmdCi ++
    bytesLE 4 (satNat 4294967295 waitUs) ++ bytesLE 2 (satNat 65535 serviceUs) ++ bytesLE 2 d.resultLen ++ padBytes 16 d.result

/-- `cmd_mean_service` takes one more completion (R321). -/
def State.served (s : State) (ns : Nat) : State :=
  { s with host := { s.host with services := (ns :: s.host.services).take 10000 } }

/-- `cmd_mean_service` (R321). -/
def State.meanService (s : State) : Nat := s.host.services.sum / max 1 s.host.services.length

/-- Returns the tag of a command (R328). -/
def State.returnTag (s : State) (c tag : Nat) : State :=
  match takeFirst (fun f => f.client == c && f.tag == tag) s.host.inflight with
  | some (_, rest) => { s with host := { s.host with inflight := rest } }
  | none => s

/-- The ticks from a completed command's doorbell to its fetch, and from its fetch to now (R324). -/
def State.timesOf (s : State) (d : Done) : Nat × Nat :=
  match s.host.inflight.find? fun f => f.isOf d.who && f.slot == d.slot with
  | some f => (f.fetched - f.rung, s.counter - f.fetched)
  | none => (0, 0)

/-- Ticks in whole microseconds, and in ns. -/
def ticksUs (t : Nat) : Nat := t / 1350
def ticksNs (t : Nat) : Nat := t * 20 / 27

/-- Writes one completion to its ring (R322, R324, R331). -/
def State.writeCompletion (s : State) (c : Nat) (d : Done) : State :=
  let r := s.ring c
  let next := (r.cplPi + 1) % r.cplSize
  let x := s.timesOf d
  let entry := completionEntry d (issuerTag d.who) r.cmdCi (ticksUs x.1) (ticksUs x.2) r.cplPhase
  let t := s.setRing c { r with cplPi := next, cplPhase := if next = 0 then !r.cplPhase else r.cplPhase, fullSince := none, fullTold := false }
  (((t.returnTag c (issuerTag d.who)).emit (.completion c r.cplPi entry d.flag)).notify c false).served (ticksNs x.2)

/-- A completion finds its ring full (R329, R341): it waits, and EV 519 tells of a wait of more than 1 s. -/
def State.completionWaits (s : State) (c : Nat) : State :=
  let r := s.ring c
  match r.fullSince with
  | none => s.setRing c { r with fullSince := some s.counter }
  | some since => if since + ticksPerSecond < s.counter ∧ !r.fullTold then (s.setRing c { r with fullTold := true }).raise 519 false c else s

/-- COMPLETION_WRITE (R319, R321, R327, R329, R341): the oldest completion of a client that may be written is written once its ring has
room. One that cannot be written is discarded, with every later one, and its tag returns. -/
def execCompletionWrite (client : Fin 512) (reachable : Bool) (s : State) : Host.Outcome State Fault Refusal :=
  let c := client.val
  let r := s.ring c
  .next (match takeFirst (fun d => d.ofClient c && !s.heldBack d) s.host.completed with
    | some (d, rest) =>
      s.when_ (s.hostUp && r.active) fun t =>
        let u : State := { t with host := { t.host with completed := rest } }
        if r.dead then u.returnTag c (issuerTag d.who)
        else if (r.cplPi + 1) % r.cplSize = r.cplCi then t.completionWaits c
        else if !reachable then ((u.setRing c { r with dmaFault := true, halted := true, dead := true }).returnTag c (issuerTag d.who)).raise 514 false c
        else u.writeCompletion c d
    | none => s)

/-! ### Event records (R29, R334, R335, R338) -/

/-- The 16 bytes of an event record (R334). -/
def eventBytes (r : EventRec) (phase : Bool) : List Byte :=
  bytesLE 8 r.counter ++ bytesLE 8 (r.source % 1024 + r.cls % 4 * 1024 + r.repeats % 65536 * 65536 + r.detail % 65536 * 2 ^ 32 +
    r.domain % 512 * 2 ^ 48 + boolNat phase * 2 ^ 63)

/-- Whether a client's event ring has room. -/
def Ring.evtRoom (r : Ring) : Bool := (r.evtPi + 1) % evtSize != r.evtCi

/-- Writes a record, or an overflow record, into the next slot of a client's event ring. -/
def State.putEvent (s : State) (c : Nat) (x : Nat → Bool → Emission) : State :=
  let r := s.ring c
  let next := (r.evtPi + 1) % evtSize
  let t := s.setRing c { r with evtPi := next, evtPhase := if next = 0 then !r.evtPhase else r.evtPhase }
  (t.emit (x r.evtPi r.evtPhase)).notify c true

/-- A write into a client's event ring fails (R321, R341): the record is gone, and fetching stops. -/
def State.eventFault (s : State) (c : Nat) : State := (s.setRing c { s.ring c with dmaFault := true, halted := true }).raise 514 false c

/-- Writes the overflow record that a client is due, where there is room (R335, R338). -/
def State.flushLost (s : State) (c : Nat) (reachable : Bool) : State :=
  let r := s.ring c
  if r.active then
    if r.lostPending != 0 && r.evtRoom then
      if !reachable then s.eventFault c else
      let t := s.putEvent c (fun slot phase => .overflow c slot (satNat 65535 r.lostPending) phase)
      (t.setRing c { t.ring c with lostPending := 0 }).raise 518 false c
    else s
  else if c = 0 ∧ s.host.spi.lost ≠ 0 ∧ s.host.spi.fifo.length < 64 then
    let rec_ : EventRec :=
      { client := 0, source := 0x3FF, cls := 0, counter := s.counter, repeats := satNat 65535 s.host.spi.lost, detail := 0, domain := 0x1FF }
    ({ s with host := { s.host with spi := { s.host.spi with fifo := s.host.spi.fifo ++ [rec_], lost := 0 } } }).raise 518 false 0x0200
  else s

/-- Delivers one record to its client: its event ring, or for client 0 the SPI lite FIFO while that ring is not ACTIVE. -/
def State.deliver (s : State) (x : EventRec) (reachable : Bool) : State :=
  let c := x.client
  let t := s.flushLost c reachable
  let r := t.ring c
  if r.active then
    if r.lostPending == 0 && r.evtRoom then
      if reachable then t.putEvent c (fun slot phase => .event c slot x phase) else t.eventFault c
    else t.setRing c { r with lostPending := r.lostPending + 1, evtLost := r.evtLost + 1 }
  else if c = 0 then
    let p := t.host.spi
    if p.lost = 0 ∧ p.fifo.length < 64 then { t with host := { t.host with spi := { p with fifo := p.fifo ++ [x] } } }
    else { t with host := { t.host with spi := { p with lost := p.lost + 1 } } }
  else t

/-- Writes the event log's record of an event (R355): record k at (k mod 4,194,304) × 16. -/
def State.logEvent (s : State) (x : EventRec) : State :=
  let t := s.tmWrite (0x18018000 + s.tm.eventCount % 4194304 * 16) (eventBytes { x with domain := 0x1FF } false)
  { t with tm := { t.tm with eventCount := t.tm.eventCount + 1 } }

/-- The console's line of an event (R339). -/
def State.printEvent (s : State) (x : EventRec) : State := s.emit (.consoleEvent x)

/-- Whether a line of the console is in progress: being typed, or its command running. -/
def ConsoleUnit.inLine (u : ConsoleUnit) : Bool := u.busy || u.ended || !u.line.isEmpty

/-- The console prints the events that waited, where no line is in progress (R339). -/
def State.printEvents (s : State) : State :=
  if s.host.console.inLine then s
  else
    let t : State := { s with host := { s.host with console := { s.host.console with events := [] } } }
    s.host.console.events.foldl State.printEvent t

/-- A MAJOR or SEVERE event for the console: it is printed between lines (R339). -/
def State.tellConsole (s : State) (x : EventRec) : State :=
  ({ s with host := { s.host with console := { s.host.console with events := s.host.console.events ++ [x] } } }).printEvents

/-- EVENT_RECORD_DELIVERY (R29, R321, R334, R335, R339, R355): the Gaffer takes the records of a source, writes them to their
clients, logs the event, and prints a MAJOR or SEVERE one on the console. Writes to the clients in `unreachable` fail. -/
def execEventRecordDelivery (source : Fin 640) (unreachable : List (Fin 512)) (s : State) : Host.Outcome State Fault Refusal :=
  .next (s.when_ s.firmware fun t =>
    let mine := t.faults.waiting.filter fun x => x.source == source.val
    let u : State := { t with faults := { t.faults with waiting := t.faults.waiting.filter fun x => x.source != source.val } }
    mine.foldl (fun (v : State) x =>
      let w := v.deliver x (!unreachable.any fun c => c.val == x.client)
      if x.client = 0 then
        let y := w.logEvent x
        if 2 ≤ x.cls then y.tellConsole x else y
      else w) u)

/-- EVENT_OVERFLOW_RECORD (R335, R338): event ring space has returned. -/
def execEventOverflowRecord (client : Fin 512) (reachable : Bool) (s : State) : Host.Outcome State Fault Refusal :=
  .next (s.when_ s.firmware fun t => t.flushLost client.val reachable)

/-! ### SPI lite (R337, R338) -/

/-- Whether SPI lite answers: it stops in DORMANT (R413). -/
def State.spiUp (s : State) : Bool := s.hostUp

def State.setSpi (s : State) (p : SpiUnit) : State := { s with host := { s.host with spi := p } }

/-- SPI_STATUS (R337). -/
def State.spiStatus (s : State) : Nat :=
  let p := s.host.spi
  boolNat p.busy + 2 * boolNat p.done + 4 * boolNat (decide (s.boot.phase = .safeTalk)) + p.fifo.length % 256 * 256

/-- A register of a latch block as bytes (R65). -/
def LatchBlock.bytes (b : LatchBlock) : List Byte :=
  bytesLE 4 0 ++ bytesLE 4 b.status ++ bytesLE 8 b.sec ++ bytesLE 4 b.nsec ++ bytesLE 4 b.frac ++ bytesLE 8 b.counter

/-- A byte of a command entry as it reads: its reserved bits read 0 (R12, R323), those behind BUF_CRC too under PTR. -/
def entryByte (ptr : Bool) (a : Nat) (b : Byte) : Byte :=
  if a = 3 then b &&& 0x3F
  else if a = 6 ∨ a = 7 ∨ (56 ≤ a ∧ a < 60) then 0
  else if ptr ∧ 20 ≤ a ∧ a < 56 then 0
  else b

/-- The byte that a read of the SPI window returns at an address (R337). -/
def State.spiByte (s : State) (a : Nat) : Byte :=
  let p := s.host.spi
  if a < 0x40 then entryByte (bitOf (tblGet p.entry 0 3).toNat 4) a (tblGet p.entry 0 a)
  else if a < 0x60 then p.completion.getD (a - 0x40) 0
  else if 0x64 ≤ a ∧ a < 0x68 then (bytesLE 4 s.spiStatus).getD (a - 0x64) 0
  else if 0x80 ≤ a ∧ a < 0x90 then
    (match p.fifo with
     | x :: _ => (eventBytes x false).getD (a - 0x80) 0
     | [] => 0)
  else if 0x200 ≤ a ∧ a < 0x220 then ((tblGet s.host.latchBlocks {} 512).bytes).getD (a - 0x200) 0
  else if 0x1000 ≤ a ∧ a < 0x2000 then tblGet p.buffer 0 (a - 0x1000)
  else 0

/-- Counts an SPI error (R337, R341). -/
def State.spiError (s : State) : State := (s.bump Attr.spi_errors).raiseOnce 526

/-- One byte of an SPI WRITE: the command entry and the data buffer. -/
def State.spiPut (s : State) (a : Nat) (b : Byte) : State :=
  let p := s.host.spi
  if a < 0x40 then s.setSpi { p with entry := tblSet p.entry 0 a b }
  else if 0x1000 ≤ a ∧ a < 0x2000 then s.setSpi { p with buffer := tblSet p.buffer 0 (a - 0x1000) b }
  else s

/-- Bytes of an SPI transaction from an address that wraps at 0x2000. -/
def State.spiPuts (s : State) : Nat → List Byte → State
  | _, [] => s
  | a, b :: bs => (s.spiPut a b).spiPuts ((a + 1) % 0x2000) bs

/-- The payload buffer of the entry in the SPI window: the data buffer at the offset of BUF_ADDR. -/
def State.spiPayload (s : State) (bs : List Byte) (len : Nat) : Option (List Byte) :=
  let off := natLE ((bs.drop 8).take 8)
  if off + len ≤ 4096 then some (tblGetRun s.host.spi.buffer (0 : Byte) off len) else none

/-- GO of SPI_CTRL (R326, R337): the command entry is submitted and checked; a second GO while BUSY is an error. -/
def State.spiSubmit (s : State) : State :=
  s.when_ (!s.boot.fetchStopped && s.boot.restore.isNone) fun t =>
    if t.host.spi.busy then t.spiError
    else
      let u := t.setSpi { t.host.spi with busy := true, done := false, goAt := t.counter }
      let bs := tblGetRun u.host.spi.entry (0 : Byte) 0 64
      let e := Entry.ofBytes bs
      match e.check bs (if e.ptr then u.spiPayload bs e.length else some []) 0 false with
      | some k => u.rejectEntry .spi e.opcode 0 k
      | none => u

/-- SPI_GO (R337). -/
def execSpiGo (s : State) : Host.Outcome State Fault Refusal := .next (s.when_ s.spiUp State.spiSubmit)

/-- EVT_POP of SPI_CTRL (R337): the oldest record of the event FIFO is discarded. -/
def State.spiPop (s : State) : State := s.setSpi { s.host.spi with fifo := s.host.spi.fifo.drop 1 }

/-- SPI_EVT_POP (R337, R338). -/
def execSpiEvtPop (s : State) : Host.Outcome State Fault Refusal := .next (s.when_ s.spiUp State.spiPop)


/-- A write of SPI_CTRL (R337): its bits act as SPI_GO and SPI_EVT_POP do. -/
def State.spiCtrl (s : State) (b : Byte) : State :=
  let t := if bitOf b.toNat 0 then s.spiSubmit else s
  if bitOf b.toNat 1 then t.spiPop else t

/-- SPI_WRITE (R65, R337): writes of the entry and the data buffer are ignored and counted while BUSY; a write of SPI_CTRL acts, and
one of all of the block's TL_CTRL captures with client 0's rights. -/
def execSpiWrite (address : Nat) (bytes : List Byte) (s : State) : Host.Outcome State Fault Refusal :=
  let a := address % 0x2000
  let touched := (List.range bytes.length).map fun k => (a + k) % 0x2000
  let guarded := touched.any fun x => decide (x < 0x40) || decide (0x1000 ≤ x)
  .next (s.when_ s.spiUp fun t =>
    let u := if t.host.spi.busy then (if guarded then t.spiError else t) else t.spiPuts a bytes
    let v := if touched.contains 0x60 then u.spiCtrl (bytes.getD ((0x60 + 0x2000 - a) % 0x2000) 0) else u
    if a ≤ 0x200 ∧ 0x204 ≤ a + bytes.length then v.capture 512 0 (natLE ((bytes.drop (0x200 - a)).take 4)) else v)

/-- SPI_READ (R337). -/
def execSpiRead (address count : Nat) (s : State) : Host.Outcome State Fault Refusal :=
  .next (s.when_ s.spiUp fun t => t.emit (.spiRead ((List.range count).map fun k => t.spiByte ((address + k) % 0x2000))))

/-- SPI_COMMAND_DONE (R324, R337): the completion entry is written, BUSY clears, DONE and SPI_DONE are set. -/
def execSpiCommandDone (s : State) : Host.Outcome State Fault Refusal :=
  .next (match takeFirst (fun d => decide (d.who = .spi)) s.host.completed with
    | some (d, rest) =>
      s.when_ s.spiUp fun t =>
        let p := t.host.spi
        let tag := natLE ((tblGetRun p.entry (0 : Byte) 0 4).drop 2) % 2048
        let entry := completionEntry d tag 0 0 (ticksUs (t.counter - p.goAt)) p.phase
        let u := t.setSpi { p with busy := false, done := true, phase := !p.phase, completion := entry }
        ({ u with host := { u.host with completed := rest, intW1c := u.host.intW1c ||| 1 } }).served (ticksNs (t.counter - p.goAt))
    | none => s)

/-! ### Resets of the host interface (R312, R336) -/

/-- An interface reset (R312, R341, R361): rings disabled, tags returned, arms cleared, every BAR0 register at its reset
value, subscriptions and a pending injection of the mailbox checker cleared (R445); the completions of what still runs are
discarded. -/
def State.hostReset (s : State) : State :=
  let h := s.host
  let running := (h.inflight.filter fun f => !(h.completed.any fun d => d.ofClient f.client && issuerTag d.who == f.tag)).map fun f => (f.client, f.tag)
  let keep := h.completed.filter fun d => match d.who with
    | .ring _ _ => false
    | _ => true
  let t : State := { s with
    host := { spi := h.spi, console := h.console, completed := keep, orphans := h.orphans ++ running, services := h.services
              latchBlocks := h.latchBlocks.filter fun (e : Nat × LatchBlock) => e.1 == 512 }
    faults := { s.faults with subs := [], hostMissed := false, inject := tblDrop s.faults.inject 2 } }
  (t.uncause 525).raise 521

/-- PERST_N_ASSERTED (R312). -/
def execPerstNAsserted (s : State) : Host.Outcome State Fault Refusal := .next (s.when_ s.hostUp State.hostReset)

/-- PCIE_HOT_RESET (R312). -/
def execPcieHotReset (s : State) : Host.Outcome State Fault Refusal := .next (s.when_ s.hostUp State.hostReset)

/-- PCIE_FLR (R312). -/
def execPcieFlr (s : State) : Host.Outcome State Fault Refusal := .next (s.when_ s.hostUp State.hostReset)

/-- PCIE_LINK_DOWN (R341). -/
def execPcieLinkDown (s : State) : Host.Outcome State Fault Refusal := .next (s.when_ s.hostUp fun t => t.raise 522)

/-- PCIE_CORRECTABLE_ERRORS (R341): at most one occurrence in a 1 s interval. -/
def execPcieCorrectableErrors (s : State) : Host.Outcome State Fault Refusal := .next (s.when_ s.hostUp fun t => t.raiseOnce 523)

/-- PCIE_UNCORRECTABLE_ERROR (R341). -/
def execPcieUncorrectableError (s : State) : Host.Outcome State Fault Refusal := .next (s.when_ s.hostUp fun t => t.raise 524)

end Sys2Proof.Machine
end

