-- ==== Sys2Proof/Machine/Store.lean ====
section
/-! DEFINITION. The shadow store's transactions (R484 to R499): the four ways of storing, programs that verify or fail, the
power-fail store, the hold-up and the oven hours. -/

namespace Sys2Proof.Machine

/-! ### Transactions (R487, R488) -/

/-- The place of a way in the order of R488's table. -/
def StoreWay.rank : StoreWay → Nat
  | .powerFail => 0
  | .commit _ => 1
  | .restoreFactory => 1
  | .background => 2
  | .timeRecord => 3

def State.setRunning (s : State) (l : List Txn) : State := { s with store := { s.store with running := l } }

/-- Queues a transaction behind those that run or go before it. -/
def insertTxn (t : Txn) : List Txn → List Txn
  | [] => [t]
  | x :: xs => if t.way.rank < x.way.rank then t :: x :: xs else x :: insertTxn t xs

/-- Queues a transaction: the one that runs keeps running (R488). -/
def State.queueTxn (s : State) (way : StoreWay) (pages : List Nat) : State :=
  let t : Txn := { way := way, txn := s.store.nextTxn, pages := pages.length, left := pages }
  let u : State := { s with store := { s.store with nextTxn := (s.store.nextTxn + 1) % 2 ^ 32 } }
  match u.store.running with
  | [] => u.setRunning [t]
  | x :: xs => u.setRunning (x :: insertTxn t xs)

/-- The pages that the engine is programming: the first 8 of the running transaction, one a plane (R487, R489). -/
def State.busyPages (s : State) : List Nat :=
  match s.store.running with
  | t :: _ => t.left.take 8
  | [] => []

/-- `store_state` (R499). -/
def State.storeState (s : State) : Nat :=
  if s.store.running.any fun t => decide (t.way = .powerFail) then 2
  else match s.store.running with
    | t :: _ => if t.way = .restoreFactory then 3 else 1
    | [] => 0

/-- Whether a page waits in some transaction. -/
def State.inTxn (s : State) (p : Nat) : Bool := s.store.running.any fun t => t.left.contains p

/-- A way that stores each page as a transaction of its own (R488). -/
def StoreWay.single : StoreWay → Bool
  | .background => true
  | .powerFail => true
  | _ => false

/-- The end of the running transaction (R487, R488): `STORE.COMMIT` completes when every slot has verified, with E_FLASH where a
page failed. The erase of `SYSTEM.RESTORE_FACTORY` marks the SRAM copies invalid (R497). -/
def State.endTxn (s : State) (t : Txn) : State :=
  let u := if t.failed || t.way.single then s else s.put1 Attr.store_last_txn 0 t.txn
  match t.way with
  | .commit who => if t.failed then u.finish who 0x0B00 E_FLASH 0 else (u.finish who 0x0B00 0 0).raise 592 false 0xFFFF
  | .restoreFactory =>
    if t.failed then u else { u with store := { u.store with invalid := (List.range 828).map fun k => 72 + k } }
  | _ => u

/-- The running transaction has stored, or failed to store, a page. -/
def State.pageDone (s : State) (p : Nat) (failed : Bool) : State :=
  match s.store.running with
  | t :: rest =>
    let t2 : Txn := { t with left := t.left.filter fun q => q != p, failed := t.failed || failed }
    if t2.left = [] then (s.setRunning rest).endTxn t2 else s.setRunning (t2 :: rest)
  | [] => s

/-- A page's program in the running transaction has verified. -/
def State.pageStored (s : State) (p : Nat) : State :=
  match s.store.running with
  | t :: _ =>
    let u := if t.way.single then s.storePage p (decide (t.way = .powerFail)) else s.programPage p t.txn t.pages false (decide (t.way = .restoreFactory))
    u.pageDone p false
  | [] => s

/-- A page whose slot that does not hold the current copy has been programmed once more; and one whose slot has moved to a fresh spare
flash page (R487). -/
def PageRec.worn (r : PageRec) : PageRec := if r.current then { r with wearA := r.wearA + 1 } else { r with wearB := r.wearB + 1 }
def PageRec.onSpare (r : PageRec) : PageRec := if r.current then { r with wearA := 0 } else { r with wearB := 0 }

/-- A page's program has failed (R487, R500): its slot is erased; it is repeated once, then remapped to a spare flash page; with no spare left the
store of the page fails. -/
def State.pageFailed (s : State) (p : Nat) : State :=
  let q := (s.page p).worn
  let x := (s.setPage p q).noteWear p (max q.wearA q.wearB)
  if q.tries = 0 then x.setPage p { q with tries := 1 }
  else if 0 < s.store.spares then
    let n := s.store.spares - 1
    let t := x.setPage p q.onSpare
    let u : State := { t with store := { t.store with spares := n } }
    if n = 7 then u.raise 601 false p else u
  else ((x.setPage p { q with tries := 0 }).raise 593 false p).pageDone p true

/-- STORE_PROGRAM_COMPLETE (R486, R487): a slot program verifies, or fails. -/
def State.programResult (s : State) (p : Nat) (verified : Bool) : State := if verified then s.pageStored p else s.pageFailed p

/-- SLOT_ERASE_COMPLETE (R486): the background erase of the slot that does not hold the current copy. -/
def execSlotEraseComplete (page : Fin 1024) (s : State) : Host.Outcome State Fault Refusal :=
  .next (s.when_ (decide (s.boot.phase = .running) && decide (64 ≤ page.val) && decide (page.val < 900) && !s.busyPages.contains page.val) fun t =>
    let r := t.page page.val
    t.setPage page.val (if r.current then { r with a := .erased } else { r with b := .erased }))

/-- More than three quarters of the ordinary limit are DIRTY (R488). -/
def State.crowded (s : State) : Bool := decide (3 * ordinaryLimit s.store.holdup < 4 * s.dirtyPages.length)

/-- BACKGROUND_STORE (R488): a page that has been DIRTY for `store_delay`, or the oldest while too many are, is queued as a transaction
of its own. -/
def execBackgroundStore (page : Fin 1024) (s : State) : Host.Outcome State Fault Refusal :=
  .next (s.when_ (s.firmware && decide (page.val < 896) && s.pageDirty page.val && !s.inTxn page.val) fun s =>
    let due := s.crowded && decide (s.oldestDirty = some page.val)
    let t := if due then s else s.advance (s.dirtySince page.val + s.attrN Attr.store_delay * ticksPerSecond)
    t.queueTxn .background [page.val])

/-- The TIME pages (R483). -/
def timePages : List Nat := [896, 897, 898, 899]

/-- Captures the words of every created domain into the TIME pages on one tick (R483, R490). -/
def State.captureTime (s : State) : State :=
  { s with store := { s.store with
    timeWords := ((List.range 512).filter s.created).map fun d => (d, (s.dom d).wordsAt s.counter)
    timeCounter := s.counter
    timeDirty := timePages } }

/-- TIME_RECORD_STORE (R488): every 600 s. -/
def execTimeRecordStore (s : State) : Host.Outcome State Fault Refusal :=
  .next (s.when_ (s.firmware && !(s.store.running.any fun t => decide (t.way = .timeRecord))) fun t =>
    ((t.advance (t.store.timeCounter + 600 * ticksPerSecond)).captureTime).queueTxn .timeRecord timePages)

/-- The DIRTY pages of a run. -/
def State.dirtyRun (s : State) (first count : Nat) : List Nat :=
  (s.dirtyPages ++ s.store.timeDirty).filter fun p => decide (first ≤ p) && decide (p < first + count)

/-- STORE.COMMIT (R357, R488): a run without a DIRTY page completes at once. -/
def execStoreCommit (who : Issuer) (first count : Nat) (s : State) : Host.Outcome State Fault Refusal :=
  .next (s.act who
    { opcode := 0x0B00, inst := first
      refusals := [(decide (count = 0) || decide (1024 < first + count), E_RANGE),
        (s.store.running.any (fun t => match t.way with
          | .commit _ => true
          | .powerFail => true
          | .restoreFactory => true
          | _ => false), E_BUSY)] }
    fun t =>
      let run := t.dirtyRun first count
      if run = [] then (t.finish who 0x0B00 0 first).raise 592 false 0xFFFF else t.queueTxn (.commit who) run)

/-! ### Power failure (R490 to R492, R526, R527) -/

/-- Whether a transaction is a `STORE.COMMIT`'s. -/
def StoreWay.isCommit (t : Txn) : Bool :=
  match t.way with
  | .commit _ => true
  | _ => false

/-- The power-fail store starts (R423, R490, R526): fetching stops, the heaters go off, the TIME words are captured, an erase of
`SYSTEM.RESTORE_FACTORY` is abandoned, and every DIRTY page and then the TIME pages are queued. -/
def State.startPowerFail (s : State) : State :=
  let t : State := { s with boot := { s.boot with fetchStopped := true, heaters := false, supplyBack := false, restore := none } }
  let u := t.setRunning (t.store.running.filter fun x => decide (x.way ≠ .restoreFactory))
  let v := u.captureTime
  let mine := (v.store.running.head?.toList ++ v.store.running.filter StoreWay.isCommit).flatMap (·.left)
  let w := v.queueTxn .powerFail ((v.dirtyPages.filter fun p => !mine.contains p) ++ timePages)
  ({ w with store := { w.store with pfFrom := s.counter } }).raise 493 true

/-- Whether a power-fail store runs. -/
def State.powerFailing (s : State) : Bool := s.store.running.any fun t => decide (t.way = .powerFail)

/-- Whether the supply has failed. -/
def State.supplyFailed (s : State) : Bool := s.boot.pfLow || s.boot.onHoldup

/-- PF_N_ASSERTED (R490): low for 1 µs. -/
def execPfNAsserted (s : State) : Host.Outcome State Fault Refusal :=
  .next (s.when_ (decide (s.boot.phase ≠ .off)) fun t =>
    let u : State := { t with boot := { t.boot with pfLow := true, supplyBack := false } }
    if t.supplyFailed || t.boot.fetchStopped || t.boot.phase ≠ .running then u else u.startPowerFail)

/-- VMAIN_BELOW_THRESHOLD (R490, R526): the module runs on its hold-up bank. -/
def execVmainBelowThreshold (s : State) : Host.Outcome State Fault Refusal :=
  .next (s.when_ (decide (s.boot.phase ≠ .off)) fun t =>
    let u : State := { t with boot := { t.boot with onHoldup := true, supplyBack := false } }
    if t.supplyFailed || t.boot.fetchStopped || t.boot.phase ≠ .running then u else u.startPowerFail)

/-- The module resumes (R492, R527): fetching restarts and the heaters switch on. -/
def State.resumeSupply (s : State) : State :=
  ({ s with boot := { s.boot with fetchStopped := false, heaters := true, supplyBack := false } }).uncause 493

/-- What is left of a commit and of the power-fail store is programmed. -/
def State.drainStore : Nat → State → State
  | 0, s => s
  | k + 1, s =>
    if !s.powerFailing then s
    else match s.busyPages with
      | p :: _ => State.drainStore k (s.pageStored p)
      | [] => s

/-- POWER_FAIL_STORE_COMPLETE (R490, R492): the pages still to program have verified; the module resumes where its supply has
returned. -/
def execPowerFailStoreComplete (durationUs : Nat) (s : State) : Host.Outcome State Fault Refusal :=
  .next (s.when_ s.powerFailing fun s =>
    let t := s.advance (s.store.pfFrom + durationUs * 1350)
    let u := State.drainStore 2048 t
    let v : State := { u with store := { u.store with pfDuration := some durationUs } }
    if v.boot.supplyBack then v.resumeSupply else v)

/-- SUPPLY_RESTORED (R492): PF_N is high and VMAIN above 10.8 V; a store that runs completes first. -/
def execSupplyRestored (s : State) : Host.Outcome State Fault Refusal :=
  .next (s.when_ (decide (s.boot.phase ≠ .off) && s.supplyFailed) fun t =>
    let u : State := { t with boot := { t.boot with pfLow := false, onHoldup := false } }
    if u.powerFailing then { u with boot := { u.boot with supplyBack := true } } else u.resumeSupply)

/-! ### The hold-up and the oven hours (R491, R495) -/

/-- A measured hold-up time (R491). -/
def State.measureHoldup (s : State) (ms : Nat) : State :=
  let t := (({ s with store := { s.store with holdup := ms, holdupAt := s.counter } }).put1 Attr.store_holdup_ms 0 ms).put1 Attr.store_dirty_limit 0 (ordinaryLimit ms)
  if ms < 60 then t.raise 602 false 0xFFFF else t

/-- HOLDUP_MEASURE (R491): every 24 h. -/
def execHoldupMeasure (ms : Nat) (s : State) : Host.Outcome State Fault Refusal :=
  .next (s.when_ (s.firmware && !s.supplyFailed) fun t =>
    (t.advance (t.store.holdupAt + 86400 * ticksPerSecond)).measureHoldup ms)

/-- OVEN_HOURS (R495): an hour has passed in which the ovens were heated. -/
def execOvenHours (s : State) : Host.Outcome State Fault Refusal :=
  .next (s.when_ (decide (s.boot.phase ≠ .off) && s.boot.heaters && decide (s.power ≠ .dormant)) fun t =>
    (t.forEach (if t.isQ3 then [0, 1, 2] else [0]) fun u m => u.add Attr.store_oven_hours 0 m 1).enforceLimit)

end Sys2Proof.Machine
end

