-- ==== Sys2Proof/Machine/Mate.lean ====
section
/-! DEFINITION. The mate pair (R461 to R482): roles and claims, the implicit mate references, snapshots and the mirrored
session table, takeover and changeover, the mate link, and standby sleep. -/

namespace Sys2Proof.Machine

def State.setMate (s : State) (m : MateUnit) : State := { s with mate := m }

/-- Whether the module is one of a pair (R461). -/
def State.paired_ (s : State) : Bool := s.attr Attr.mate_mode == 1

/-- The codes of `role` (R480). -/
def State.standby (s : State) : Bool := s.paired_ && s.attr Attr.mate_role == 2
def State.active (s : State) : Bool := s.paired_ && s.attr Attr.mate_role == 3
def State.starting (s : State) : Bool := s.paired_ && s.attr Attr.mate_role == 1

/-- Whether the mate link is UP, and whether state copy runs (R475, R476). -/
def State.mateLinkUp (s : State) : Bool := s.attr Attr.mate_link_state == 2
def State.copying (s : State) : Bool := s.attr Attr.mate_copy_state == 1

/-- An event of the mate group (R362, R482). -/
def State.mateEvent (s : State) (ev : Nat) (cause : Bool := false) : State := s.raise ev cause s.mateDetail

/-! ### Roles (R461 to R465) -/

/-- A change of what drives the tracked selectors starts their decisions. -/
def State.redecide (s : State) : State :=
  s.forEach ((List.range 16).filter fun n => bitOf (s.attrN Attr.mate_track_mask) n && s.flag Attr.selector_enable n) fun t n => t.selCommand s n 1

/-- The tracked selectors follow the implicit mate references (R469). -/
def State.startTracking (s : State) : State :=
  ((s.setMate { s.mate with tracking := true }).put1 Attr.mate_track_state 0 1).redecide

/-- The implicit mate references end (R472). -/
def State.endTracking (s : State) : State :=
  if s.mate.tracking then ((s.setMate { s.mate with tracking := false }).put1 Attr.mate_track_state 0 0).redecide else s

/-- The module becomes STANDBY (R464, R465, R473). -/
def State.becomeStandby (s : State) : State :=
  let t := s.setMate { s.mate with claim := false, roleAct := false, deciding := false, takeover := none }
  let u := (t.put1 Attr.mate_role 0 2).mateEvent 538
  if u.copying then u.startTracking else u

/-- The module claims the active role (R462, R464, R472); ROLE_ACT follows with a row of its own. -/
def State.claimRole (s : State) : State := s.setMate { s.mate with claim := true, deciding := false, claimAt := s.counter }

/-- The role decision at the end of step 9 (R461, R464). -/
def State.decideRole (s : State) : State :=
  if !s.paired_ then
    (s.setMate { s.mate with claim := false, roleAct := true }).put1 Attr.mate_role 0 0
  else
    let t := (s.setMate { s.mate with claim := false, roleAct := false }).put1 Attr.mate_role 0 1
    if t.mate.ack then t.becomeStandby
    else if t.flag Attr.mate_role_pri || !t.mate.aliveIn then t.claimRole
    else t.setMate { t.mate with deciding := true, decideFrom := t.counter }

/-- ROLE_CLAIM_TIMEOUT (R464): 1 s without the mate's claim. -/
def execRoleClaimTimeout (s : State) : Host.Outcome State Fault Refusal :=
  .next (s.when_ (s.timing && s.starting && s.mate.deciding) fun s =>
    let t := s.advance (s.mate.decideFrom + ticksPerSecond)
    if t.mate.ack then t.becomeStandby else t.claimRole)

/-- ROLE_ACT_RAISE (R464, R472): 10 µs after the claim and after CHG_ACK reads low, or with CHG_ACK still high 4 ms after an unplanned
trigger; the module is ACTIVE and its mate references end. -/
def execRoleActRaise (s : State) : Host.Outcome State Fault Refusal :=
  .next (s.when_ (s.timing && s.paired_ && s.mate.claim && !s.mate.roleAct &&
      (!s.mate.ack || s.mate.takeover == some 0 || s.mate.takeover == some 1)) fun s =>
    let t := s.advance (if s.mate.ack then s.mate.claimAt + 5400000 else max s.mate.claimAt s.mate.ackAt + 13500)
    let u := (t.setMate { t.mate with roleAct := true }).put1 Attr.mate_role 0 3
    let v := match u.mate.takeover with
      | some k => (u.setMate { u.mate with tookAt := (u.counter, u.snapAge / 1350000) }).mateEvent (if k = 2 then 537 else 536)
      | none => u
    v.endTracking)

/-- Whether ALIVE is frozen (R436). -/
def State.aliveFrozen (s : State) : Bool := decide (s.aliveState ≠ .toggling)

/-- The module withdraws its claim (R465, R473): STANDBY, or where its own ALIVE is frozen, once that toggles again. -/
def State.withdraw (s : State) : State :=
  if s.aliveFrozen then (s.setMate { s.mate with claim := false, roleAct := false, takeover := none }).put1 Attr.mate_role 0 1
  else s.becomeStandby

/-- Both modules claim (R465): the split brain is resolved by ALIVE and primacy. The mate's ALIVE counts as frozen while
MATE_ALIVE_IN has no edges. -/
def State.bothClaim (s : State) : State :=
  let mateFrozen := !s.mate.aliveIn
  let yields := if s.aliveFrozen != mateFrozen then s.aliveFrozen else !s.flag Attr.mate_role_pri
  (if yields then s.withdraw else s).mateEvent 545

/-- CHG_ACK_RISE (R464, R465): the mate claims. -/
def execChgAckRise (s : State) : Host.Outcome State Fault Refusal :=
  .next ((s.setMate { s.mate with ack := true }).when_ (s.timing && s.paired_) fun u =>
    if u.mate.claim then u.bothClaim else if u.mate.deciding then u.becomeStandby else u)

/-! ### Standby sleep: waking (R478, R479) -/

/-- The standby starts its exit from STANDBY-WARM. -/
def State.leaveSleep (s : State) : State :=
  ({ s with boot := { s.boot with transition := some 0 } }).put1 Attr.mate_sleep_state 0 4

/-- A command that waits for the mate completes. -/
def State.answer (s : State) (who : Option Issuer) (opcode status : Nat) : State :=
  match who with
  | some w => s.finish w opcode status 0
  | none => s

/-- The sleep agreement ends uncommitted (R478); the MATE.SLEEP that opened it here is refused. -/
def State.cancelSleep (s : State) : State :=
  let who := match s.mate.agreement with
    | some a => a.who
    | none => none
  let t := (s.setMate { s.mate with agreement := none }).put1 Attr.mate_sleep_state 0 0
  (t.mateEvent 548).answer who 0x0C01 E_STATE

/-- A wake request reaches the standby (R478). -/
def State.wakeRequest (s : State) : State :=
  if s.attr Attr.mate_sleep_state = 3 then s.leaveSleep
  else match s.mate.agreement with
    | some a => if a.committed.isSome then s.setMate { s.mate with wakeDue := true } else (s.cancelSleep).emit (.mate 3 0)
    | none => s

/-! ### Takeover (R471 to R474) -/

/-- A takeover trigger on the standby (R465, R471, R472, R478): the claim rises, against the mate's where that stands, and sleep ends. -/
def State.trigger (s : State) (k : Nat) : State :=
  let t := (s.setMate { s.mate with takeover := some k }).claimRole
  (if t.mate.ack then t.bothClaim else t).wakeRequest

/-- ALIVE_LOST (R464, R471, R482): MATE_ALIVE_IN has had no edge for 3 ms. -/
def execAliveLost (s : State) : Host.Outcome State Fault Refusal :=
  .next ((s.setMate { s.mate with aliveIn := false }).when_ (s.timing && s.paired_) fun u =>
    if u.standby then (if u.mate.claim then u else u.trigger 0)
    else if u.active then u.mateEvent 539 true
    else if u.mate.deciding then u.claimRole
    else u)

/-- LINK_AND_ALIVE_LOST (R471): the link is DOWN, and MATE_ALIVE_IN has had no edge for 1.5 ms. -/
def execLinkAndAliveLost (s : State) : Host.Outcome State Fault Refusal :=
  .next (s.when_ (s.timing && s.standby && s.attr Attr.mate_link_state == 0 && !s.mate.claim) fun t =>
    (t.setMate { t.mate with aliveIn := false }).trigger 1)

/-- RELEASE (R471): CHG_ACK falls; while MATE_ALIVE_IN toggles, that triggers a standby. -/
def execRelease (s : State) : Host.Outcome State Fault Refusal :=
  .next ((s.setMate { s.mate with ack := false, ackAt := s.counter }).when_ (s.timing && s.paired_ && s.mate.ack) fun u =>
    if u.standby && !u.mate.claim && u.mate.aliveIn then u.trigger 2 else u)

/-- MATE_ALIVE_RESUMED (R473, R482): the mate's ALIVE has edges again; a module that yielded with its own ALIVE frozen becomes
STANDBY once that toggles. -/
def execMateAliveResumed (s : State) : Host.Outcome State Fault Refusal :=
  .next ((s.setMate { s.mate with aliveIn := true }).when_ (s.timing && s.paired_) fun t =>
    let u := t.uncause 539
    if u.starting && !u.mate.claim && !u.mate.deciding && !u.aliveFrozen then u.becomeStandby else u)

/-- What the snapshot says of one virtual domain reaches the time unit as one update (R473). -/
def State.adoptDomain (s : State) (localEdge instant : Nat) (e : SnapDomain) : State :=
  let d := e.domain.val
  if s.created d && s.virtual d then
    let w : DomWords := { offset := e.time, anchor := localEdge, period := e.period }
    let t := s.setDom d { s.dom d with slew := none }
    t.issue d { instant := instant, period := e.period, absolute := some (w.time instant 0), delta := 0, steps := 1, sets := true }
  else s

/-- What the snapshot says of a DPLL's holdover model is adopted (R473). -/
def State.adoptMeans (s : State) (e : Fin 16 × Int × Int × Int × Nat) : State :=
  (s.setDpll e.1.val { s.dpll e.1.val with means := (e.2.1, e.2.2.1, e.2.2.2.1) }).put1 Attr.dpll_ho_usable e.1.val (e.2.2.2.2 : Int)

/-- SNAPSHOT_ADOPTION (R473, R480): Holax on the new active module takes the last complete snapshot; `instant` is the domain
updates' instant. -/
def execSnapshotAdoption (instant : Nat) (s : State) : Host.Outcome State Fault Refusal :=
  .next (match s.mate.takeover with
    | some k => s.when_ (s.control && s.active && s.mate.roleAct) fun t =>
        let u := match t.mate.snap with
          | some p =>
            let v := p.domains.foldl (fun (x : State) e => x.adoptDomain p.localEdge instant e) t
            let w := p.ages.foldl (fun (x : State) (e : Fin 4 × Int × Int) => (x.put Attr.age_learned 0 e.1.val e.2.1).put Attr.tempco_learned 0 e.1.val e.2.2) v
            let x := p.means.foldl (fun (x : State) e => x.adoptMeans e) w
            let y := p.jams.foldl (fun (x : State) (e : Fin 2 × Option (Int × Nat)) => x.setGen (14 + e.1.val) { x.gen (14 + e.1.val) with base := e.2 }) x
            p.lehrs.foldl (fun (x : State) (e : Gen × Int) => x.putGenLehr (genNumber e.1) (x.genLehr (genNumber e.1)) e.2) y
          | none => t
        ((u.setMate { u.mate with takeover := none }).bump Attr.mate_takeovers).enforceLimit.put1 Attr.mate_last_takeover 0
          ((u.mate.tookAt.1 % 2 ^ 64 + k * 2 ^ 64 + u.mate.tookAt.2 % 65536 * 2 ^ 72 : Nat) : Int)
    | none => s)

/-! ### Snapshots (R466 to R470) -/

/-- The attributes that CONFIG_DIGEST leaves out: MATE, PORT addresses and calibration (R466, R496). -/
def digestLeavesOut (k : Nat) : Bool :=
  let id := keyId k
  decide (Obj.ofAttr id = some .mate) || (decide (0x0806 ≤ id) && decide (id ≤ 0x080B)) ||
    [Attr.input_delay.id, Attr.port_ext_rx_delay.id, Attr.port_ext_tx_delay.id, Attr.port_delay_asymmetry.id].contains id

/-- CONFIG_DIGEST (R466). -/
def State.configDigest (s : State) : Nat :=
  Config.digest (s.attrs.filter fun e => decide (keySurv e.1 = some .stored) && !digestLeavesOut e.1)

/-- The summary of a session's host-owned words and grants (R466). -/
def State.sessSummary (s : State) (n : Nat) : Nat :=
  Config.summary (s.tm.read (entryAddr n + 64) 64) ((List.range 3).map fun g => if s.granted n g then some (s.grant n g).log else none)

/-- The snapshot of this module at a labelled edge (R466). -/
def State.snapshot (s : State) (edge : Nat) (crcOk : Bool) : Snapshot :=
  let doms := (List.range 512).filter s.created
  let len := 64 + 64 * doms.length + 1024 + 4096 + 1024 + 12 * s.sessions.length
  { epoch := s.mate.snapSent + 1, length := len, arrived := len, crcOk := crcOk, holaxCompat := s.attrN Attr.compat_id
    counter := edge, digest := s.configDigest, localEdge := 0
    domains := doms.map fun d =>
      { domain := Fin.ofNat 512 d, time := s.domTime d edge, period := ((s.dom d).wordsAt edge).period, utcOffset := s.attr Attr.domain_utc_offset d
        leapState := s.attrN Attr.domain_leap_state d, leapDay := s.attr Attr.domain_leap_day d, slewRemaining := s.slewRemaining d
        timeStatus := s.attrN Attr.domain_time_status d }
    dplls := (List.range 16).map fun n =>
      { dpll := Fin.ofNat 16 n
        phase := (match s.boundDom n with
          | some d => s.domTime d edge
          | none => 0)
        word := s.attr Attr.dpll_freq_word n, dpllState := s.attrN Attr.dpll_state n, phaseOffset := s.attr Attr.dpll_phase_offset n
        buildout := s.buildoutPhase n }
    ages := (List.range 4).map fun m => (Fin.ofNat 4 m, s.attr Attr.age_learned 0 m, s.attr Attr.tempco_learned 0 m)
    means := (List.finRange 16).map fun n =>
      (n, (s.dpll n.val).means.1, (s.dpll n.val).means.2.1, (s.dpll n.val).means.2.2, s.attrN Attr.dpll_ho_usable n.val)
    jams := (List.finRange 2).map fun g => (g, (s.gen (14 + g.val)).base)
    lehrs := (List.finRange 8).map (fun g => (Gen.vid g, s.genLehr g.val)) ++ (List.finRange 6).map (fun g => (Gen.aud g, s.genLehr (8 + g.val))) ++
      (List.finRange 2).map fun g => (Gen.tc g, s.genLehr (14 + g.val))
    sessions := s.sessions.map fun n => (Fin.ofNat 16384 n, s.sessSummary n) }

/-- The latest rising edge of MATE_CLKO, the root divided by 540, one every 135 ticks (R461, R466; log entry 96). -/
def State.mateEdge (s : State) : Nat := s.counter / 135 * 135

/-- Sends one snapshot (R443, R466): a pending injection spoils its CRC. -/
def State.sendSnapshot (s : State) : State :=
  let inj := s.takeInjection 4 0
  let t := match inj with
    | some x => x.2
    | none => s
  (t.emit (.snapshot (t.snapshot t.mateEdge inj.isNone))).setMate { t.mate with snapSent := t.mate.snapSent + 1 }

/-- SNAPSHOT_SEND (R466): every 10 ms while COPYING. -/
def execSnapshotSend (s : State) : Host.Outcome State Fault Refusal :=
  .next (s.when_ (s.control && s.active && s.copying && s.mateLinkUp) fun s =>
    let t := s.advance (s.mate.snapAt + 13500000)
    (t.setMate { t.mate with snapAt := t.counter }).sendSnapshot)

/-- The link becomes DOWN, TRAINING or DEGRADED; leaving UP or DEGRADED for another state is an event (R475, R482). -/
def State.dropLink (s : State) (state : Int) : State :=
  let was := s.attr Attr.mate_link_state
  let t := (s.put1 Attr.mate_link_state 0 state).put1 Attr.mate_copy_state 0 0
  let u := if was = 2 ∨ was = 3 then t.mateEvent 540 true else t
  match u.mate.agreement with
  | some a => if a.committed.isNone then u.cancelSleep else u
  | none => u

/-- A link error (R475): `link_err_limit` of them within one second degrade the link. -/
def State.linkError (s : State) : State :=
  let fresh := decide (s.mate.errSince + ticksPerSecond ≤ s.counter) || s.mate.errCount == 0
  let k := if fresh then 1 else s.mate.errCount + 1
  let t := (s.setMate { s.mate with errCount := k, errSince := if fresh then s.counter else s.mate.errSince }).bump Attr.mate_link_errors
  if s.mateLinkUp && decide (t.attrN Attr.mate_link_err_limit ≤ k) then (t.put1 Attr.mate_link_state 0 3).mateEvent 541 true else t

/-- Whether a snapshot is complete (R467). -/
def State.snapComplete (s : State) (p : Snapshot) : Bool :=
  p.arrived == p.length && p.crcOk && decide (s.attrN Attr.mate_snap_epoch < p.epoch)

/-- The session digest of a snapshot against the mirrored table (R466, R479): entries whose summaries differ are stale, and
sessions that the active no longer has are freed. -/
def State.matchSessions (s : State) (p : Snapshot) : State :=
  let named := p.sessions.map fun (e : Fin 16384 × Nat) => e.1.val
  let stale := (p.sessions.filter fun (e : Fin 16384 × Nat) => tblFind s.mate.mirror e.1.val != some e.2).map fun e => e.1.val
  let gone := (s.mate.mirror.map (·.1)).filter fun n => !named.contains n
  let t := s.setMate { s.mate with stale := stale, mirror := s.mate.mirror.filter fun e => named.contains e.1 }
  t.forEach gone State.freeSession

/-- DPLLs on the mate reference that wait for a label compare it with the snapshot's seconds (R158). -/
def State.labelMates (s : State) : State :=
  s.forEach ((List.range 16).filter fun n => (s.dpll n).labelDue && (s.sel n).source == some mateSource) fun t n => t.labelAtAcquire n mateSource

/-- A complete snapshot takes the place of the last one (R467, R468). -/
def State.takeSnapshot (s : State) (p : Snapshot) : State :=
  let t := (s.setMate { s.mate with snap := some p }).put1 Attr.mate_snap_epoch 0 p.epoch
  let u := (t.uncause 543).matchSessions p
  let v := if p.digest = u.configDigest then u.uncause 551 else u.mateEvent 551 true
  (v.labelMates).judgeTrack

/-- SNAPSHOT_RECEIVED (R467, R468, R475): a snapshot is kept if complete, else discarded. -/
def execSnapshotReceived (snap : Snapshot) (s : State) : Host.Outcome State Fault Refusal :=
  .next (s.when_ (s.control && s.standby && s.copying && s.mateLinkUp) fun t =>
    if t.snapComplete snap then t.takeSnapshot snap
    else
      let u := (t.bump Attr.mate_snap_discards).raiseOnce 542 t.mateDetail
      if snap.crcOk then u else u.linkError)

/-- SNAPSHOT_STALE (R467, R470): `snap_age` exceeds 20 ms. -/
def execSnapshotStale (s : State) : Host.Outcome State Fault Refusal :=
  .next (match s.mate.snap with
    | some p => s.when_ (s.timing && s.standby) fun t =>
        (((t.advance (p.localEdge + 27000001))).mateEvent 543 true).judgeTrack
    | none => s)

/-- SNAP_MAX_AGE_EXCEEDED (R469): the implicit mate references are disqualified, and the tracked selectors decide. -/
def execSnapMaxAgeExceeded (s : State) : Host.Outcome State Fault Refusal :=
  .next (match s.mate.snap with
    | some p => s.when_ (s.timing && s.mate.tracking) fun t =>
        (t.advance (p.localEdge + t.attrN Attr.mate_snap_max_age * 1350000 + 1)).redecide
    | none => s)

/-- Writes a fetched session entry into the mirrored table (R466, R479). -/
def State.mirrorSession (s : State) (n : Nat) (c : SessionCopy) : State :=
  let t := s.createSession n (c.binding % 256) (c.binding / 256) (if c.role = 0 then .grantor else .grantee) .granted c.partner
    (s.sess n).addrType 0
  let u := t.forEach ((List.range 3).filter fun g => decide (0 < c.left.getD g 0)) fun v g =>
    v.setGrant n g { expires := some (v.counter + c.left.getD g 0 * ticksPerSecond), log := c.logs.getD g 0 }
  u.setMate { u.mate with stale := u.mate.stale.filter fun m => m != n, mirror := tblPut u.mate.mirror n c.summary }

/-- SESSION_ENTRY_FETCH (R466, R475, R479): a stale entry has been fetched over the link, or the fetch has failed. -/
def execSessionEntryFetch (session : Fin 16384) (entry : Option SessionCopy) (s : State) : Host.Outcome State Fault Refusal :=
  .next (s.when_ (s.engines && s.paired_ && s.mateLinkUp && s.mate.stale.contains session.val) fun t =>
    match entry with
    | some c => t.mirrorSession session.val c
    | none => t.linkError)

/-! ### The mate link (R463, R475, R476) -/

/-- The images' mate tables and compatibility IDs permit state copy (R476). -/
def State.copyAllowed (s : State) (p : MatePeer) : Bool :=
  let own := s.attrN Attr.compat_id
  let table := (if s.attr Attr.active_slot = 0 then s.boot.slotA else s.boot.slotB).holax.mateTable
  own == p.compat || (p.mateTable.contains own && table.contains p.compat)

/-- Which of two byte strings comes first. -/
def bytesBefore : List Byte → List Byte → Bool
  | [], _ => false
  | _, [] => false
  | x :: xs, y :: ys => decide (x.toNat < y.toNat) || (x == y && bytesBefore xs ys)

/-- `serial` as bytes. -/
def State.serial (s : State) : List Byte := (List.range 16).map fun k => BitVec.ofNat 8 (s.attrN Attr.serial 0 k)

/-- MATE_LINK_TRAINED (R463, R475, R476): straps, serials and compatibility IDs are exchanged. -/
def execMateLinkTrained (peer : MatePeer) (s : State) : Host.Outcome State Fault Refusal :=
  .next (s.when_ (s.timing && s.paired_ && (s.attr Attr.mate_link_state == 0 || s.attr Attr.mate_link_state == 1)) fun t =>
    let own := t.boot.rolePri
    let pri := if own = peer.pri then bytesBefore t.serial peer.serial else own
    let u := ((t.setMate { t.mate with peer := some peer, errCount := 0 }).put1 Attr.mate_link_state 0 2).put1 Attr.mate_role_pri 0 (boolInt pri)
    let v := ((u.put Attr.mate_versions 0 0 peer.version).put Attr.mate_versions 0 1 peer.compat).uncause 540 |>.uncause 541
    let w := if own = peer.pri then v.mateEvent 550 else v
    if w.copyAllowed peer then
      let x := (w.setMate { w.mate with snapAt := w.counter }).put1 Attr.mate_copy_state 0 1
      if x.standby && !x.mate.claim then x.startTracking else x
    else ((w.put1 Attr.mate_copy_state 0 2).endTracking).mateEvent 544)

/-- MATE_LINK_DOWN (R475). -/
def execMateLinkDown (s : State) : Host.Outcome State Fault Refusal :=
  .next (s.when_ (s.timing && s.attr Attr.mate_link_state != 0) fun t => (t.dropLink 0).uncause 541)

/-- MATE.LINK_RESET (R475, R481): the link retrains. -/
def execMateLinkReset (who : Issuer) (s : State) : Host.Outcome State Fault Refusal :=
  .next (s.doAct who { opcode := 0x0C03, refusals := [(!s.paired_, E_STATE)] } fun t => (t.dropLink 1).uncause 541)

/-! ### Changeover (R474, R481) -/

/-- Step 1 of a changeover on the active module: one extra snapshot; the receipt is awaited. -/
def State.startChangeover (s : State) (who : Option Issuer) : State :=
  let t := s.sendSnapshot
  t.setMate { t.mate with changeover := some who, changeAt := t.counter }

/-- Whether a changeover is refused here, but for what only the standby knows (R481). -/
def State.changeoverRefused (s : State) : Bool := !s.paired_ || !s.mateLinkUp || !s.copying || s.mate.changeover.isSome

/-- MATE.CHANGEOVER (R474, R481): on the active module it starts; `standbyReady` is whether the standby is TRACKING and AWAKE,
the first of which the standby reports. On the standby it is passed to the active module. -/
def execMateChangeover (who : Issuer) (standbyReady : Bool) (s : State) : Host.Outcome State Fault Refusal :=
  let here := s.attr Attr.mate_track_state == 2 && s.attr Attr.mate_sleep_state == 0
  .next (s.act who
    { opcode := 0x0C00, refusals := [(s.changeoverRefused || !(if s.active then standbyReady && s.attr Attr.mate_sleep_state == 0 else here), E_STATE)] }
    fun t => if t.active then t.startChangeover (some who) else (t.emit (.mate 4 0)).finish who 0x0C00 0 0)

/-- CHANGEOVER_RECEIPT (R473, R474): the receipt has come, or 5 ms have passed; CHG_REQ and ROLE_ACT fall on the same tick, and
the module becomes STANDBY while its ALIVE toggles. -/
def execChangeoverReceipt (received : Bool) (s : State) : Host.Outcome State Fault Refusal :=
  .next (match s.mate.changeover with
    | some who => s.when_ (s.control && s.active) fun s =>
        let t := if received then s else s.advance (s.mate.changeAt + 6750000)
        let u := t.setMate { t.mate with changeover := none, claim := false, roleAct := false }
        ((u.withdraw).emit (.mate 5 (boolNat received))).answer who 0x0C00 0
    | none => s)

/-! ### Standby sleep (R477 to R479, R481) -/

/-- Opens a sleep agreement on the active module: SLEEP_PROPOSE is sent. -/
def State.proposeSleep (s : State) (who : Option Issuer) : State :=
  ((s.setMate { s.mate with agreement := some { who := who } }).put1 Attr.mate_sleep_state 0 1).emit (.mate 0 0)

/-- Whether a sleep is refused here (R481). -/
def State.sleepRefused (s : State) : Bool :=
  !s.paired_ || !s.mateLinkUp || s.mate.agreement.isSome || s.attr Attr.mate_sleep_state != 0

/-- MATE.SLEEP (R477, R481): it completes with the agreement's end. On the standby it is passed to the active module. -/
def execMateSleep (who : Issuer) (s : State) : Host.Outcome State Fault Refusal :=
  .next (s.act who { opcode := 0x0C01, refusals := [(s.sleepRefused, E_STATE)] }
    fun t => if t.active then t.proposeSleep (some who) else (t.emit (.mate 6 0)).finish who 0x0C01 0 0)

/-- MATE.WAKE (R478, R481). -/
def execMateWake (who : Issuer) (s : State) : Host.Outcome State Fault Refusal :=
  .next (s.doAct who
    { opcode := 0x0C02, refusals := [(s.mate.agreement.isNone && s.attr Attr.mate_sleep_state == 0, E_STATE)] }
    fun t =>
      if t.active then
        (if t.attr Attr.mate_sleep_state = 3 then t.put1 Attr.mate_sleep_state 0 4 else t).emit (.mate 7 0)
      else t.wakeRequest)

/-- MATE_REQUEST_RECEIVED (R474, R477, R478): a MATE action that was issued on the mate is carried out here; one that cannot be
is dropped. -/
def execMateRequestReceived (request : MateRequest) (s : State) : Host.Outcome State Fault Refusal :=
  .next (s.when_ (s.control && s.paired_ && s.mateLinkUp) fun t =>
    match request with
    | .changeover => if t.active && !t.changeoverRefused then t.startChangeover none else t
    | .sleep => if t.active && !t.sleepRefused then t.proposeSleep none else t
    | .wake => if t.standby then t.wakeRequest else t)

/-- SLEEP_PROPOSE (R477): the standby answers ACCEPT (1) or REJECT (0). -/
def execSleepPropose (s : State) : Host.Outcome State Fault Refusal :=
  .next (s.when_ (s.control && s.standby && s.mateLinkUp) fun t =>
    if t.attr Attr.mate_track_state = 2 ∧ t.mate.claim = false ∧ t.mate.agreement = none ∧ t.attr Attr.mate_sleep_state = 0 then
      ((t.setMate { t.mate with agreement := some {} }).put1 Attr.mate_sleep_state 0 1).emit (.mate 1 1)
    else t.emit (.mate 1 0))

/-- SLEEP_ANSWER (R477): after ACCEPT the active module sends COMMIT, naming the entry instant at least 50 ms later, and the
command completes; after REJECT it completes with E_STATE. -/
def execSleepAnswer (accept : Bool) (instant : Nat) (s : State) : Host.Outcome State Fault Refusal :=
  .next (match s.mate.agreement with
    | some a => s.when_ (s.control && s.active && a.committed.isNone) fun t =>
        if accept then
          let entry := max instant (t.counter + 67500000)
          let u := (t.setMate { t.mate with agreement := some { committed := some entry } }).put1 Attr.mate_sleep_state 0 2
          ((u.emit (.mate 2 entry)).mateEvent 547).answer a.who 0x0C01 0
        else ((t.setMate { t.mate with agreement := none }).put1 Attr.mate_sleep_state 0 0).answer a.who 0x0C01 E_STATE
    | none => s)

/-- SLEEP_COMMIT (R477, R478): the standby receives COMMIT; that of a cancelled agreement is ignored. -/
def execSleepCommit (instant : Nat) (s : State) : Host.Outcome State Fault Refusal :=
  .next (match s.mate.agreement with
    | some a => s.when_ (s.control && s.standby && a.committed.isNone) fun t =>
        ((t.setMate { t.mate with agreement := some { committed := some instant } }).put1 Attr.mate_sleep_state 0 2).mateEvent 547
    | none => s)

/-- SLEEP_CANCEL (R478): the active module receives CANCEL. -/
def execSleepCancel (s : State) : Host.Outcome State Fault Refusal :=
  .next (s.when_ (s.control && s.active && s.mate.agreement.isSome) State.cancelSleep)

/-- SLEEP_ENTRY (R477): at T_c the standby starts its entry into STANDBY-WARM; the active module counts it asleep. -/
def execSleepEntry (s : State) : Host.Outcome State Fault Refusal :=
  .next (match s.mate.agreement.bind (·.committed) with
    | some entry => s.when_ s.control fun t =>
        let u := t.advance entry
        if u.standby then { u with boot := { u.boot with transition := some 2 } }
        else (u.setMate { u.mate with agreement := none }).put1 Attr.mate_sleep_state 0 3
    | none => s)

/-- WAKE_FETCH_COMPLETE (R479): no entry is stale, and `sleep_state` reads AWAKE. -/
def execWakeFetchComplete (s : State) : Host.Outcome State Fault Refusal :=
  .next (s.when_ (s.control && s.attr Attr.mate_sleep_state == 4 && s.mate.stale.isEmpty) fun t => t.put1 Attr.mate_sleep_state 0 0)

/-- What the end of a power-state transition means for a sleep (R478, R479): ASLEEP after the entry, which a wake request that
waits ends again; after the exit the standby is awake, once no entry is stale. -/
def State.sleepTransition (s : State) (power : Nat) : State :=
  if power = 2 ∧ s.mate.agreement.isSome then
    let t := (s.setMate { s.mate with agreement := none, wakeDue := false }).put1 Attr.mate_sleep_state 0 3
    if s.mate.wakeDue then t.leaveSleep else t
  else if power = 0 ∧ s.attr Attr.mate_sleep_state = 4 then
    let t := s.mateEvent 549
    if t.mate.stale.isEmpty then t.put1 Attr.mate_sleep_state 0 0 else t
  else s

end Sys2Proof.Machine
end

