-- ==== Sys2Proof/Machine/Restore.lean ====
section
/-! DEFINITION. What a restart does to the shadow store (R418, R486, R493 to R495): programs that it interrupts, incomplete
transactions, the pages' newest slots, and the domain time record. -/

namespace Sys2Proof.Machine

/-! ### Interrupted programs -/

/-- Whether a slot is newer than another (R486). -/
def FlashSlot.newer (x y : FlashSlot) : Bool :=
  let d := (x.seq + 2 ^ 32 - y.seq) % 2 ^ 32
  decide (1 ≤ d) && decide (d < 2 ^ 31)

/-- Whether a slot is valid (R486). -/
def FlashSlot.valid : FlashSlot → Bool
  | .good _ _ _ _ _ _ _ => true
  | _ => false

/-- TXN of a slot. -/
def FlashSlot.txn : FlashSlot → Option Nat
  | .good _ n _ _ _ _ _ => some n
  | _ => none

/-- Whether a slot was written by a power-fail store of a transaction at or after `from_`. -/
def FlashSlot.powerFailSince (from_ : Nat) : FlashSlot → Bool
  | .good _ n _ pf _ _ _ => pf && decide (from_ ≤ n)
  | _ => false

/-- A program that a reset or a power loss cuts short leaves its slot valid or invalid, which the spec does not state: a free
value decides (log entry 3). The SRAM copy keeps its state. -/
def State.cutProgram (s : State) (t : Txn) (p : Nat) : State :=
  let u := s.spend
  let v := u.programPage p (if t.way.single then s.store.nextTxn else t.txn) (if t.way.single then 1 else t.pages)
    (decide (t.way = .powerFail)) (decide (t.way = .restoreFactory))
  let kept : State := { v with store := { v.store with dirty := u.store.dirty, dirtyPages := u.store.dirtyPages, timeDirty := u.store.timeDirty } }
  if s.free % 2 = 0 then kept
  else
    let r := kept.page p
    let back : PageRec := if r.current then { r with b := .bad, current := false } else { r with a := .bad, current := true }
    kept.setPage p back

/-- The transactions in progress end where they stand. -/
def State.cutStore (s : State) : State :=
  match s.store.running with
  | t :: _ =>
    let u := s.forEach s.busyPages fun v p => v.cutProgram t p
    { u with store := { u.store with running := [], interrupted := u.store.interrupted ++ [t] } }
  | [] => s

/-! ### What a slot holds (R483, R485) -/

/-- CLASS of a page (R483, R485): 0 FACTORY, 1 KEPT, 2 ERASABLE, 3 TIME. -/
def pageClass (p : Nat) : Nat := if p < 64 then 0 else if p < 72 then 1 else if p < 896 then 2 else 3

/-- The record of a domain in its TIME page (R483): O_d, F0_d and P_d. -/
def DomWords.record (w : DomWords) : List Byte := intBytesLE 16 w.offset ++ bytesLE 8 w.anchor ++ bytesLE 8 w.period

/-- The 4,096 data bytes of a slot (R483, R485): of a TIME page its 128 domains, of another where Holax places its attributes. -/
def slotData (p : Nat) (data : Tbl Int) (time : List (Nat × DomWords)) : List Byte :=
  if p < 896 then (List.range 4096).map fun k => Config.pageByte p data k
  else (List.range 128).flatMap fun k =>
    match time.find? fun e => e.1 == (p - 896) * 128 + k with
    | some e => e.2.record
    | none => List.replicate 32 0

/-- The header of a slot ahead of its CRC (R485). -/
def slotHead (p seq txn pages : Nat) (powerFail : Bool) (counter : Nat) : List Byte :=
  bytesLE 2 (p % 1024 + pageClass p * 1024) ++ bytesLE 4 seq ++ bytesLE 4 txn ++ bytesLE 2 pages ++ bytesLE 4 (boolNat powerFail) ++
    bytesLE 8 counter ++ bytesLE 4 0

/-- The 32 bytes of a slot's header (R485): its CRC is over the data and the header with the CRC field 0. -/
def slotHeader (p : Nat) (f : FlashSlot) : Option (List Byte) :=
  match f with
  | .good seq txn pages pf counter data time =>
    let head := slotHead p seq txn pages pf counter
    some (head ++ bytesLE 4 (crc32c (slotData p data time ++ head ++ List.replicate 4 0)))
  | _ => none

/-! ### Restoring (R493) -/

/-- The slots of a page that hold a transaction. -/
def PageRec.holding (r : PageRec) (txn : Nat) : Nat := boolNat (r.a.txn == some txn) + boolNat (r.b.txn == some txn)

/-- The valid slots that carry a transaction's TXN. -/
def State.txnSlots (s : State) (txn : Nat) : Nat := ((List.range 900).map fun p => (s.page p).holding txn).sum

/-- Erases the slots of a transaction. -/
def PageRec.without (r : PageRec) (txn : Nat) : PageRec :=
  { r with a := if r.a.txn = some txn then .erased else r.a, b := if r.b.txn = some txn then .erased else r.b }

/-- One interrupted transaction (R493 step 2): complete, and its last pages are rolled forward, or rolled back; a transaction of
one page that left no valid slot has left nothing to roll back. -/
def State.settleTxn (s : State) (t : Txn) : State :=
  if t.way.single then
    s.forEach (t.left.take 8) fun u p => if (u.page p).now.newer (u.page p).other && (u.page p).other.valid then u.raise 595 false p else u
  else if t.pages ≤ s.txnSlots t.txn then s.forEach (t.left.take 8) fun u p => u.raise 595 false p
  else if s.txnSlots t.txn = 0 then s
  else ((s.forEach (List.range 900) fun u p => u.setPage p ((u.page p).without t.txn)).bump Attr.store_rollbacks).raise 596 false 0xFFFF

/-- The slot that a page takes: its newest valid one (R493 step 3), true for slot B. -/
def PageRec.pick (r : PageRec) : Option Bool :=
  if r.a.valid && r.b.valid then some (r.b.newer r.a) else if r.a.valid then some false else if r.b.valid then some true else none

/-- Whether an attribute key stands in a shadow page. -/
def inPage (p k : Nat) : Bool := decide (keySurv k = some .stored) && shadowPage k == p

/-- The STORED values of a slot. -/
def FlashSlot.data : FlashSlot → Tbl Int
  | .good _ _ _ _ _ d _ => d
  | _ => []

/-- The captured words of a slot with the tick of their capture. -/
def FlashSlot.times : FlashSlot → List (Nat × DomWords) × Nat
  | .good _ _ _ _ c _ w => (w, c)
  | _ => ([], 0)

/-- The values of a page's keys take the place of those in SRAM. -/
def State.loadPage (s : State) (p : Nat) (values : Tbl Int) : State :=
  { s with
    attrs := values.foldl (fun t e => tblPut t e.1 e.2) (s.attrs.filter fun e => !inPage p e.1)
    store := { s.store with dirty := s.store.dirty.filter fun e => shadowPage e.1 != p, dirtyPages := tblDrop s.store.dirtyPages p } }

/-- One ordinary page is restored (R418, R493 steps 3 and 4, R494). -/
def State.restorePage (s : State) (p : Nat) (sram : Bool) : State :=
  let r := s.page p
  if sram then
    match r.pick with
    | some b => s.setPage p { r with current := b }
    | none => s
  else
    match r.pick with
    | some b =>
      let q : PageRec := { r with current := b }
      let t := (s.setPage p q).loadPage p q.now.data
      if q.other = .bad then t.raise 597 false p else t
    | none =>
      let t := s.loadPage p []
      ({ t with store := { t.store with dirtyPages := tblPut t.store.dirtyPages p t.counter } }).raise 598 false p

/-- A TIME page is DIRTY, or no longer is. -/
def State.timePage (s : State) (p : Nat) (dirty : Bool) : State :=
  let rest := s.store.timeDirty.filter fun q => q != p
  { s with store := { s.store with timeDirty := if dirty then rest ++ [p] else rest } }

/-- Captured words as of the tick of their capture, with that time as their offset. -/
def DomWords.asOf (w : DomWords) (count : Nat) : DomWords := { offset := w.time count 0, anchor := 0, period := w.period }

/-- What a TIME page records: the words and the tick of their capture, from SRAM or from the newest valid slot; a lost page records
nothing and is DIRTY (R484, R493, R494). -/
def State.restoreTime (s : State) (p : Nat) (sram : Bool) : List (Nat × DomWords) × State :=
  if sram then ((s.store.timeWords.filter fun e => e.1 / 128 == p - 896).map fun e => (e.1, e.2.asOf s.store.timeCounter), s)
  else
    let r := s.page p
    match r.pick with
    | some b =>
      let q : PageRec := { r with current := b }
      let t := (s.setPage p q).timePage p false
      (q.now.times.1.map fun e => (e.1, e.2.asOf q.now.times.2), if q.other = .bad then t.raise 597 false p else t)
    | none => ([], (s.timePage p true).raise 598 false p)

/-- Whether step 8 takes a page from the shadow SRAM (R416, R418, R497). -/
def State.fromSram (s : State) (p : Nat) : Bool := s.boot.sram && !s.store.invalid.contains p

/-- The power-fail slots newer than the previous boot (R500). -/
def State.powerFailPages (s : State) : Nat :=
  ((List.range 900).filter fun p => (s.page p).a.powerFailSince s.store.bootTxn || (s.page p).b.powerFailSince s.store.bootTxn).length

/-- The TIME pages are restored; SRAM holds their record afterwards. -/
def State.restoreTimes (s : State) : List (Nat × Int) × State :=
  let r := timePages.foldl (fun (acc : List (Nat × DomWords) × State) p =>
    let x := acc.2.restoreTime p (acc.2.fromSram p)
    (acc.1 ++ x.1, x.2)) ([], s)
  (r.1.map fun e => (e.1, e.2.offset), { r.2 with store := { r.2.store with timeWords := r.1, timeCounter := 0 } })

/-- The factory pages, which step 2 and step 7 read from flash: a copy lost is reported at every boot (R494). -/
def State.judgeFactory (s : State) : State :=
  s.forEach (List.range 64) fun t p => if ((t.page p).a = .bad) ∨ ((t.page p).b = .bad) then t.raise 599 false p else t

/-- Step 8 (R493): the flash is put in order, every page is loaded, and the recorded domain times come back. -/
def State.restoreStore (s : State) : List (Nat × Int) × State :=
  let t := s.forEach (List.range s.store.interrupted.length) fun u k => u.settleTxn (s.store.interrupted.getD k { way := .background, txn := 0, pages := 1, left := [] })
  let n := t.powerFailPages
  let u := (if n = 0 then t else t.raise 594 false (satNat 65535 n)).judgeFactory
  let v := u.forEach ((List.range 832).map fun k => 64 + k) fun w p => w.restorePage p (w.fromSram p)
  let r := v.restoreTimes
  (r.1, { r.2 with
    store := { r.2.store with invalid := [], interrupted := [], bootTxn := r.2.store.nextTxn }
    boot := { r.2.boot with sram := true, loaded := true } })

/-- After a power-on the power cycle is counted, the last power-fail duration noted, page 64 stored at once, and the hold-up
measured (R491, R493 step 6, R495, R499). -/
def State.afterPowerOn (s : State) (holdupMs : Nat) : State :=
  let t := s.bump Attr.store_power_cycles
  let u := match t.store.pfDuration with
    | some d => ({ t with store := { t.store with pfDuration := none } }).put1 Attr.store_pf_last 0 d
    | none => t
  let v := u.storePage 64 false
  ({ v with store := { v.store with bootTxn := v.store.nextTxn } }).measureHoldup holdupMs

/-- The domains start from the recorded time, UNSET and at P_nom (R75); a domain without a record starts at 0 s. -/
def State.startDomains (s : State) (times : List (Nat × Int)) : State :=
  ({ s with doms := [] }).forEach ((List.range 512).filter s.created) fun t d =>
    let o := match times.find? fun (e : Nat × Int) => e.1 == d with
      | some e => e.2
      | none => 0
    let u := t.setDom d { words := ⟨o, t.counter, nominalPeriod.toNat⟩ }
    u.setDom d { u.dom d with tzIndex := tzReached (u.tzEntries d) (u.utcHeld d o) }

end Sys2Proof.Machine
end

