-- ==== Sys2Proof/Machine/Boot.lean ====
section
/-! DEFINITION. The power-up sequence (R393 to R398, R401, R402, R417): what a reset clears, the nine steps, safe-talk, and
the rows of the supply and of RESET_N. -/

namespace Sys2Proof.Machine

def State.setBoot (s : State) (b : BootUnit) : State := { s with boot := b }

/-! ### What a reset clears (R392, R393, R404, R417) -/

/-- The VOLATILE attributes that report what lies outside the reset's reach: the boot flash, the shadow flash and the bank. -/
def bootKept : List Nat :=
  [Attr.boot_slot.id, Attr.slot_valid.id, Attr.slot_versions.id, Attr.store_wear.id, Attr.store_last_txn.id, Attr.store_holdup_ms.id,
   Attr.store_dirty_limit.id]

/-- Whether an attribute keeps its value until step 8: FACTORY ones; STORED ones in the shadow SRAM, which a power loss clears;
the warm-up, which a power-on or an exit from DORMANT starts anew (`fresh`). -/
def keptKey (powerOn fresh : Bool) (k : Nat) : Bool :=
  match keySurv k with
  | some .factory => true
  | some .stored => !powerOn
  | _ => bootKept.contains (keyId k) || (!fresh && [Attr.warmup_state.id, Attr.warmup_elapsed.id].contains (keyId k))

/-- The Crucible's attributes as a start leaves them (R52, R55): fitted ovens WARMUP, the external member ABSENT, OSC0 with weight 1. -/
def State.crucibleAttrs (s : State) : State :=
  let oven : Int := if s.isQ3 then OscState.warmup.code else OscState.notFitted.code
  (s.putList Attr.osc_state 0 0 [OscState.warmup.code, oven, oven, OscState.absent.code]).put Attr.osc_weight 0 0 65536

/-- The ticks that the warm-up in progress has run. -/
def State.warmRun (s : State) : Nat := s.boot.warmBase + s.counter - s.boot.warmSince

/-- The module as a reset leaves it before step 1 ends (R393, R395, R417): `powerOn` after a loss of supply, `clear` where the
counter is cleared (R58). A program that the reset interrupts is cut short. RESET_N in DORMANT leaves it, and the warm-up starts anew
(R404, R416). -/
def State.cleared (s : State) (powerOn clear : Bool) (phase : Phase) : State :=
  let c := s.cutStore
  let warm := decide (c.attr Attr.warmup_state = WarmupState.warmUp.code)
  let fresh := powerOn || decide (c.power = .dormant)
  let t : State :=
    { State.reset with
      counter := if clear then 0 else c.counter
      attrs := c.attrs.filter fun (e : Nat × Int) => keptKey powerOn fresh e.1
      store := if powerOn then { c.store with dirty := [], dirtyPages := [], timeWords := [], timeDirty := [], timeCounter := 0, invalid := [] }
        else c.store
      boot :=
        { phase := phase, vmain := c.boot.vmain, onHoldup := c.boot.onHoldup, pfLow := c.boot.pfLow
          heaters := c.boot.heaters || !c.supplyFailed, lastStep := 0, slotA := c.boot.slotA, slotB := c.boot.slotB
          warmSince := if powerOn ∨ clear then 0 else c.boot.warmSince
          warmBase := if fresh then 0 else if clear ∧ warm then c.warmRun else c.boot.warmBase
          loaded := false, sram := c.boot.sram && !powerOn, counts := c.boot.counts && !powerOn && !clear, rolePri := c.boot.rolePri, factoryNLow := c.boot.factoryNLow
          pwrGood := c.boot.pwrGood && !powerOn }
      mate := { ack := c.mate.ack, aliveIn := c.mate.aliveIn, roleAct := false }
      factory := c.factory
      pending := c.pending, freeCount := c.freeCount, out := c.out }
  t.crucibleAttrs

/-! ### Steps and their failures (R393, R394, R402) -/

/-- The codes of each step (R393). -/
def stepCodes (k : Nat) : List Nat :=
  [[], [0x0101, 0x0102], [0x0201], [0x0301], [0x0401, 0x0402], [0x0501], [0x0601, 0x0602], [0x0701], [0x0801]].getD k []

/-- The code of a failure that the hardware finds in a step: the code given, where the step has it. -/
def stepCode (k code : Nat) : Nat := if (stepCodes k).contains code then code else (stepCodes k).headD 0

/-- A step has failed: safe-talk (R394, R402, R403). A failed write check is the initialisation failure (R372). -/
def State.bootFails (s : State) (k code : Nat) : State :=
  let t := s.setBoot { s.boot with phase := .safeTalk, gafferUp := true, lastStep := k - 1, failingStep := k, failCode := code, endCounter := s.counter } |>.put1 Attr.power_state 0 0
  if code = 0x0402 then t.raise 398 else t

/-- A finding that does not fail a step is written to the boot log (R355, R394); its text is a free value (log entry 3). -/
def State.bootLog (s : State) : State :=
  let t := s.spend.tmWrite (0x1C018000 + s.tm.bootCount % 16384 * 64) (bytesLE 64 (s.free.toNat % 256 ^ 64))
  { t with tm := { t.tm with bootCount := t.tm.bootCount + 1 } }

/-- Step 1 (R393, R461, R528, R541): the root locks, PWR_GOOD rises and ROLE_PRI is sampled. -/
def bootRoot (s : State) : State × Option Nat :=
  let t := (s.put1 Attr.root_locked 0 1).put1 Attr.mate_role_pri 0 (boolInt s.boot.rolePri)
  (t.setBoot { t.boot with pwrGood := true, counts := true }, none)

/-- A repair record is applied to the map (R458). -/
def RepairUnit.apply (r : RepairUnit) (v : Nat) : RepairUnit :=
  let c := field v 2 4
  let k := tblGet r.clusters {} c
  let repl := field v 16 6
  match field v 0 2 with
  | 0 =>
    let m := k.map.map fun p => if p = field v 6 4 then (if repl = 0x3F then 9 else repl) else p
    { r with clusters := tblSet r.clusters {} c { k with map := m, spare := if k.spare = some repl ∨ k.spare = some (field v 6 4) then none else k.spare } }
  | 1 => { r with clusters := tblSet r.clusters {} c { k with lost := true, spare := none } }
  | 2 =>
    let phys := field v 10 6
    match (List.range 48).find? fun ch => (let x := tblGet r.channels ({} : ChannelRec) ch; if x.phys = 52 then ch == phys else x.phys == phys) with
    | some ch =>
      { r with
        channels := tblSet r.channels {} ch (if repl = 0x3F then { tblGet r.channels {} ch with lost := true } else { phys := repl })
        spares := r.spares.filter fun p => p != repl && p != phys }
    | none => { r with spares := r.spares.filter fun p => p != phys }
  | _ => r

/-- Step 2 (R393, R458, R493): the shipping map with the repair records that the newest slot of page 66 holds. -/
def bootFuse (s : State) : State × Option Nat :=
  let data := match (s.page 66).pick with
    | some b => (if b then (s.page 66).b else (s.page 66).a).data
    | none => []
  let words := (List.range 48).map fun k => (tblGet data 0 (Attr.repair_records.key 0 k)).toNat
  ({ s with repair := (words.filter fun v => bitOf v 22).foldl RepairUnit.apply State.reset.repair }, none)

/-- Step 3 (R393, R416): the shadow SRAM keeps its content but after a power-on. -/
def bootBist (s : State) : State × Option Nat := (s, none)

/-- Step 4 (R372): every frame is written with zero; the duration is `init_time`. -/
def bootTable (us : Nat) (s : State) : State × Option Nat := (({ s with tm := { passFrom := s.counter } }).put1 Attr.init_time 0 us, none)

/-- A repair that a self-test makes: its record waits for step 8; its SECONDS are a free value, since no domain has a time yet
(log entry 3). The boot log takes a line. -/
def State.selfTestRecord (s : State) (kind cluster phys channel replacement : Nat) : State :=
  let v := repairWord kind cluster phys channel replacement 0 s.free
  ({ s.spend with repair := { s.repair with found := s.repair.found ++ [v] } }).bootLog

/-- A physical engine fails its test (R450, R453): a spare takes its logical number, or it leaves service. -/
def State.selfTestEngine (s : State) (failed : List Nat) (x : Nat) : State :=
  let c := x / 9
  let p := x % 9
  let r := s.cluster c
  if r.lost || decide (15 < c) then s
  else if r.spare = some p then (s.setCluster c { r with spare := none }).bootLog
  else if r.map.contains p then
    match r.spare with
    | some k =>
      if failed.contains (9 * c + k) then (s.setCluster c { r with map := r.map.map fun q => if q = p then 9 else q }).selfTestRecord 0 c p 0 0x3F
      else (s.setCluster c { r with map := r.map.map fun q => if q = p then k else q, spare := none }).selfTestRecord 0 c p 0 k
    | none => (s.setCluster c { r with map := r.map.map fun q => if q = p then 9 else q }).selfTestRecord 0 c p 0 0x3F
  else s

/-- Step 5 (R393, R450): at least 112 engines in service. -/
def bootEngines (failed : List Nat) (s : State) : State × Option Nat :=
  let t := s.forEach failed fun u x => u.selfTestEngine failed x
  (t, if t.engineCount < 112 then some 0x0501 else none)

/-- The image slot of a number. -/
def State.imageSlot (s : State) (slot : Nat) : ImageSlot := if slot = 0 then s.boot.slotA else s.boot.slotB

/-- Whether two images go together (R400): each lists the other's compatibility ID, and both list the stepping. -/
def State.pairOk (s : State) (holax batt : ImageHead) : Bool :=
  let stepping := s.attrN Attr.soc_stepping
  holax.table.contains batt.id && batt.table.contains holax.id && holax.steppings.contains stepping && batt.steppings.contains stepping

/-- Whether a slot's image pair is acceptable (R400), its images intact or not. -/
def State.acceptable (s : State) (slot : Nat) (intact : Bool) : Bool :=
  bitOf (s.attrN Attr.slot_valid) slot && intact && s.pairOk (s.imageSlot slot).holax (s.imageSlot slot).batt

/-- Whether a slot can boot (R400, R401). -/
def State.slotBoots (s : State) (env : BootEnv) (slot : Nat) : Bool :=
  s.acceptable slot (if slot = 0 then env.readA.intact else env.readB.intact)

/-- The pair of a slot runs (R356, R401). -/
def State.bootSlot (s : State) (slot : Nat) : State :=
  let i := s.imageSlot slot
  ((((s.put1 Attr.active_slot 0 slot).put1 Attr.holax_version 0 i.holax.version).put1 Attr.batt_version 0 i.batt.version).put Attr.compat_id 0 0 i.holax.id).put
    Attr.compat_id 0 1 i.batt.id

/-- Step 6 (R401): the named slot, or the other. -/
def bootGaffer (env : BootEnv) (named : Nat) (s : State) : State × Option Nat :=
  let other := 1 - named
  if s.slotBoots env named then (s.bootSlot named, none)
  else if s.slotBoots env other then ((((s.bootSlot other).put1 Attr.boot_fallback 0 1).raise 486).bootLog, none)
  else (s, some (if s.attrN Attr.slot_valid % 4 = 0 then 0x0601 else 0x0602))

/-- A physical channel fails its trim (R393, R457): the next good spare takes its place; a channel without one is counted. -/
def State.selfTestChannel (s : State) (failed : List Nat) (p : Nat) : State × Nat :=
  match (List.range 48).find? fun ch => s.channelPhys ch == p && !(s.channel ch).lost with
  | none => (if s.repair.spares.contains p then { s with repair := { s.repair with spares := s.repair.spares.filter fun q => q != p } } else s, 0)
  | some ch =>
    match s.repair.spares.filter fun q => !failed.contains q with
    | k :: _ =>
      let t : State := { s with repair := { s.repair with spares := s.repair.spares.filter fun q => q != k } }
      ((t.setChannel ch { phys := k }).selfTestRecord 2 0 0 p k, 0)
    | [] => (s, 1)

/-- Step 7 (R290, R393): the trim of all 52 channels. -/
def bootVernier (failed : List Nat) (s : State) : State × Option Nat :=
  let r := failed.foldl (fun (acc : State × Nat) p =>
    let x := acc.1.selfTestChannel failed p
    (x.1, acc.2 + x.2)) (s, 0)
  (r.1, if 0 < r.2 then some 0x0701 else none)

/-- The records of the self-test go into the repair table (R458). -/
def State.flushRecords (s : State) : State :=
  let t := s.repair.found.foldl (fun (u : State) v =>
    match (List.range 48).find? fun k => !bitOf (u.attrN Attr.repair_records 0 k) 22 with
    | some k => u.put Attr.repair_records 0 k v
    | none => u.raise 468 false 0xFF00) s
  { t with repair := { t.repair with found := [] } }

/-- The working copies of step 8: the Cullet table is enabled, and the strength that the frames were written with is in force
(R371, R372, R493). -/
def State.afterLoad (s : State) : State := (s.flushRecords).put1 Attr.code_strength_active 0 (s.attr Attr.code_strength)

/-- Whether a FACTORY page has no valid slot (R494). -/
def State.factoryLost (s : State) : Bool := (List.range 64).any fun p => (s.page p).pick.isNone

/-- Step 8 (R393, R418, R493 to R495). -/
def bootRestore (powerOn : Bool) (holdupMs : Nat) (s : State) : State × Option Nat :=
  if s.factoryLost then (s, some 0x0801)
  else
    let t := s.restoreStore.2.afterLoad
    (if powerOn then t.afterPowerOn holdupMs else t, none)

/-- Step 8 on leaving DORMANT (R416): the shadow SRAM stayed powered. -/
def bootReload (s : State) : State × Option Nat :=
  let t := s.restoreTimes.2.afterLoad
  (t.setBoot { t.boot with loaded := true }, none)

/-! ### Step 9 (R396) -/

/-- A stored setting that fails its checks keeps its default (R396). -/
def State.rejectSetting (s : State) (p : Nat → Bool) : State :=
  ((((s.resetKeys p).bump Attr.config_rejects).raise 487).bootLog)

/-- What a stored setting must agree with beside its own limits (R105, R232, R253). -/
def State.storedState (s : State) (w : Write) : Bool :=
  match w.a.id with
  | 0x0219 => let g := s.attr Attr.input_grade_source w.i
    (g == 1 && decide (s.inputType w.i ≠ .syncE)) || (decide (2 ≤ g) && s.attr Attr.input_tod_rx w.i == 0)
  | 0x07D2 => !s.companionOk w.i
  | 0x0801 => s.pairBroken w.i
  | 0x0804 => s.pairBroken w.i
  | _ => false

/-- Whether the setting under a key fails the checks of its own chapter (R396); those of a synthesiser, an output and a counter are
checked as they are applied. -/
def State.settingBad (s : State) (k : Nat) : Bool :=
  match Attr.find (keyId k) with
  | some a =>
    let w : Write := { a := a, i := keyInst k, first := keyElem k, vals := [tblGet s.attrs 0 k] }
    decide (a.surv = .stored) && decide (a.mode = .rw) &&
      (!w.vals.all a.accepts || s.storedState w || (!(decide (a.obj = .syn) || decide (a.obj = .output) || decide (a.obj = .tic)) && s.setRange s w))
  | none => false

/-- The objects in the order of R396, step 1 to step 9. -/
def configOrder : List Obj :=
  [.system, .fault, .store, .mate, .input, .domain, .syn, .dpll, .selector, .output, .vidgen, .audgen, .tcgen, .todgen, .port, .tic]

/-- The settings of one object that fail their checks keep their defaults. -/
def State.checkObject (s : State) (o : Obj) : State :=
  ((s.attrs.map (·.1)).filter fun k => decide (Obj.ofAttr (keyId k) = some o)).foldl
    (fun (t : State) k => if t.settingBad k then t.rejectSetting fun j => j == k else t) s

/-- `ext_input` is applied after the INPUT settings (R51, R396): an input that is not configured as 10 MHz is rejected. -/
def State.checkExtInput (s : State) : State :=
  let x := s.attrN Attr.ext_input
  if x ≠ 255 ∧ s.inputType x ≠ .tenMhz then s.rejectSetting fun k => k == Attr.ext_input.key 0 0 else s

/-- Whether a key is one of some attributes of an instance. -/
def keyAmong (as : List AttrDesc) (i k : Nat) : Bool := as.any fun a => k == a.key i 0

/-- One synthesiser is applied (R195, R396). -/
def State.applySyn (s : State) (n : Nat) : State :=
  let t := if ratioOk (s.pendingRatio n) then s else s.rejectSetting (keyAmong [Attr.syn_vco_num, Attr.syn_vco_den] n)
  (t.setRatio n (t.pendingRatio n)).put1 Attr.syn_dpll_active n (t.attr Attr.syn_dpll n)

/-- One output is applied (R195, R396). -/
def State.applyOutput (s : State) (o : Nat) : State :=
  let t := if settingOk (s.activeRatio (o / 4)) (s.attrN Attr.output_driver o) (s.pendingSetting o) then s
    else s.rejectSetting fun k => decide (Obj.ofAttr (keyId k) = some .output) && keyInst k == o
  t.commitOutput o

/-- One counter is applied (R291 to R296, R396). -/
def State.applyTic (s : State) (n : Nat) : State :=
  let t := if s.ticRange n || s.ticBadState n then s.rejectSetting (fun k => decide (Obj.ofAttr (keyId k) = some .tic) && keyInst k == n) else s
  t.assignRoutes

/-- The `enable` attributes, which are applied last (R396). -/
def State.applyEnables (s : State) : State :=
  let inputs := s.forEach ((List.range 28).filter fun n => s.flag Attr.input_enable n) State.startInput
  let sels := inputs.forEach ((List.range 16).filter fun n => inputs.flag Attr.selector_enable n) fun t n => t.selCommand t n 1
  let syns := sels.forEach ((List.range 8).filter fun n => sels.flag Attr.syn_enable n) State.synOn
  let gens := syns.forEach ((List.range 18).filter syns.genEnabled) State.genArm
  let ports := gens.forEach ((List.range 4).filter fun p => gens.flag Attr.port_enable p) State.portOn
  ports.forEach ((List.range 12).filter fun n => ports.flag Attr.tic_enable n) State.startTic

/-- The STORED settings reach the hardware, in the order of R396. -/
def State.applyConfig (s : State) : State :=
  let ext := ((configOrder.take 5).foldl State.checkObject s).checkExtInput
  let checked := (configOrder.drop 5).foldl State.checkObject ext
  let times := checked.startDomains (checked.store.timeWords.map fun (e : Nat × DomWords) => (e.1, e.2.time checked.store.timeCounter 0))
  let doms := times.forEach times.domains State.placeTasks
  let syns := doms.forEach (List.range 8) State.applySyn
  let outs := syns.forEach (List.range 32) State.applyOutput
  let vids := outs.forEach (List.range 8) fun t n => t.put1 Attr.vidgen_format_active n (t.attr Attr.vidgen_vid_format n)
  let ports := vids.bindings.foldl (fun (t : State) b =>
    (t.setBindRec b.1 b.2 { t.bindRec b.1 b.2 with since := t.counter }).put Attr.port_binding_state b.1 b.2 4) vids
  (ports.forEach (List.range 12) State.applyTic).applyEnables

/-- The counter blocks after the power-up sequence (R514): cleared, and counting from now. -/
def State.freshSlots (s : State) : State := 
  ({ s with pmcs := [] }).forEach (List.range 16) fun t c => t.setPmc c { since := t.counter }

/-- The end of step 9 (R394, R396, R403, R408, R412): the role is decided, RUN; a supply that has failed meanwhile starts its
store (R490). -/
def State.bootEnds (s : State) (cause : Nat) (stepTimes : List Nat) : State :=
  let t := (((s.freshSlots.putList Attr.boot_step_time 0 0 ((List.range 9).map fun k => ((stepTimes.getD k 0 : Nat) : Int))).put1 Attr.reset_cause 0 cause).put1
    Attr.power_state 0 0)
  let u := (t.setBoot { t.boot with phase := .running, gafferUp := true, lastStep := 9, failingStep := 255, failCode := 0, endCounter := t.counter }).decideRole
  if u.supplyFailed then u.startPowerFail else u

/-- The time that a step takes has passed (R393, R394), where the counter counts. -/
def State.stepTook (s : State) (env : BootEnv) (k : Nat) : State :=
  if s.counting then s.advance (s.counter + env.stepTimes.getD (k - 1) 0 * 1350) else s

/-- Runs steps in order; the first that fails ends the run (R393, R394). -/
def State.runSteps (s : State) (env : BootEnv) : List (Nat × (State → State × Option Nat)) → State
  | [] => s
  | (k, f) :: rest =>
    let now := s.stepTook env k
    if env.failAt.map (fun j => j.val + 1) = some k then now.bootFails k (stepCode k env.failCode)
    else
      match f now with
      | (t, some code) => t.bootFails k code
      | (t, none) => t.runSteps env rest

/-- Step 9 (R393, R396). -/
def bootConfig (cause : Nat) (stepTimes : List Nat) (s : State) : State × Option Nat := (s.applyConfig.bootEnds cause stepTimes, none)

/-- The nine steps. -/
def bootSteps (env : BootEnv) (powerOn : Bool) (named cause : Nat) : List (Nat × (State → State × Option Nat)) :=
  [(1, bootRoot), (2, bootFuse), (3, bootBist), (4, bootTable (env.stepTimes.getD 3 0)), (5, bootEngines env.failedEngines), (6, bootGaffer env named),
   (7, bootVernier env.failedChannels), (8, bootRestore powerOn env.holdupMs), (9, bootConfig cause env.stepTimes)]

/-- The steps on leaving DORMANT (R416). -/
def wakeSteps (env : BootEnv) : List (Nat × (State → State × Option Nat)) :=
  [(4, bootTable (env.stepTimes.getD 3 0)), (5, bootEngines env.failedEngines), (7, bootVernier env.failedChannels), (8, bootReload),
   (9, bootConfig 5 env.stepTimes)]

/-- The power-up sequence on a cleared module (R393); `slot` as in SYSTEM.REBOOT. -/
def State.powerUp (s : State) (env : BootEnv) (powerOn : Bool) (slot cause : Nat) : State :=
  s.runSteps env (bootSteps env powerOn (if slot ≤ 1 then slot else s.attrN Attr.boot_slot % 2) cause)

/-- A restart by command (R352, R407): everything but the ovens, the root and the counter. -/
def State.restart (s : State) (env : BootEnv) (slot cause : Nat) : State :=
  (s.cleared false false .held).powerUp env false slot cause

/-! ### Supply and RESET_N (R393, R397, R407, R492) -/

/-- VMAIN_APPLIED (R393, R404, R407): VMAIN and PF_N are up; the ovens start to heat. -/
def execVmainApplied (env : BootEnv) (s : State) : Host.Outcome State Fault Refusal :=
  .next (s.when_ (decide (s.boot.phase = .off)) fun t =>
    (t.setBoot { t.boot with phase := .held, vmain := true, onHoldup := false, pfLow := false, heaters := true }).powerUp env true 255 0)

/-- RESET_N_ASSERTED (R397, R407): low for 1 µs; the outputs are released, the counter is cleared (R58). -/
def execResetNAsserted (s : State) : Host.Outcome State Fault Refusal :=
  .next (s.when_ (decide (s.boot.phase ≠ .off)) fun t => t.cleared false true .held)

/-- RESET_N_RELEASED (R393, R407). -/
def execResetNReleased (env : BootEnv) (s : State) : Host.Outcome State Fault Refusal :=
  .next (s.when_ (decide (s.boot.phase = .held)) fun t => t.powerUp env false 255 1)

/-- HOLDUP_EXHAUSTED (R492, R526): the module stops without power. -/
def execHoldupExhausted (s : State) : Host.Outcome State Fault Refusal :=
  .next (s.when_ (s.boot.onHoldup && decide (s.boot.phase ≠ .off)) fun t =>
    let u := t.cleared true true .off
    u.setBoot { u.boot with vmain := false, heaters := false, pwrGood := false })

end Sys2Proof.Machine
end

