-- ==== Sys2Proof/Machine/Filter.lean ====
section
/-! DEFINITION. The loop filter of a DPLL: a type-2, proportional-integral loop whose natural frequency follows from bandwidth and
damping (R150, R152, R153; log entry 83), and the duty of the analogue lock indication (R176). -/

namespace Sys2Proof.Machine

/-- 10^6 × c(ζ), where c(ζ)² = 1 + 2ζ² + √((1 + 2ζ²)² + 1) and ζ is `damping` / 100: the −3 dB frequency of a type-2 loop is c(ζ) times
its natural frequency. -/
def dampingFactor (damping : Nat) : Nat :=
  let a := 10000 + 2 * damping * damping
  isqrt (a * 10 ^ 8 + isqrt ((a * a + 10 ^ 8) * 10 ^ 16))

/-- The natural frequency ω_n in 10^-9 rad/s of a bandwidth in mHz and a damping in 0.01 (R152). -/
def naturalFrequency (mHz damping : Nat) : Nat := 6283185307180 * mHz / dampingFactor damping

/-- ω_n of DPLLn with `bw_used` and `damping`, in 10^-9 rad/s. -/
def State.naturalOf (s : State) (n : Nat) : Int :=
  naturalFrequency (bandwidths.getD (s.attrN Attr.dpll_bw_used n) 1) (s.attrN Attr.dpll_damping n)

/-- The proportional part of the word, 2 ζ ω_n × error, in 10^-18; an error in 2^-16 ns is positive where the candidate is later,
which lowers the word. -/
def State.proportional (s : State) (n : Nat) (e : Int) : Int :=
  -(s.attr Attr.dpll_damping n * s.naturalOf n * e / (50 * 65536))

/-- What one sample adds to the integrator, ω_n² × error × the sample interval, in 10^-30. -/
def State.integralStep (s : State) (n : Nat) (e : Int) : Int :=
  let f := s.attr Attr.dpll_pd_rate n
  if f = 0 then 0 else -(s.naturalOf n * s.naturalOf n * e * 1000000 / (65536 * f))

/-- The duty that a sample gives, in 1/256, rounded down (R176): 1 − |phase error| / `lock_limit_used`. -/
def State.sampleDuty (s : State) (n : Nat) (e : Int) : Nat :=
  let limit := s.attrN Attr.dpll_lock_limit_used n
  if limit = 0 then 0 else 256 * (limit * 65536 - min (limit * 65536) (e.natAbs * 1000)) / (limit * 65536)

end Sys2Proof.Machine
end

