-- ==== Sys2Proof/Machine/Dpll.lean ====
section
/-! DEFINITION. DPLLs (R150 to R180): the phase detector, lock, settling, slope-limited movements, holdover, the ledger,
posts to a bound domain and the DPLL actions. -/

namespace Sys2Proof.Machine

/-! ### Actions (R166, R179) -/

/-- DPLL.OPEN (R164, R166): the phase detector is disconnected, the word is frozen at its value and movements are held. -/
def State.openDpll (s : State) (n : Nat) : State :=
  let t := s.rebase n
  let u := t.setDpll n { t.dpll n with
    base := t.attr Attr.dpll_freq_word n
    moves := (t.dpll n).moves.map fun m => { m with since := none }
    heldOff := false
    labelDue := false
    useShort := false }
  ((u.put1 Attr.dpll_ho_te_est n 0).put1 Attr.dpll_ho_elapsed n 0).toDpllState n .opened

def execDpllOpen (who : Issuer) (dpll : Nat) (s : State) : Host.Outcome State Fault Refusal :=
  .next (s.doAct who
    { opcode := 0x0400, inst := dpll
      refusals := [(decide (15 < dpll), E_RANGE), (decide (s.dpllState dpll = .opened), E_STATE)] }
    fun t => t.openDpll dpll)

/-- The part of `phase_offset` that the output has reached (R166). -/
def State.offsetReached (s : State) (n : Nat) : Int :=
  s.attr Attr.dpll_phase_offset n - (((s.dpll n).moves.filter fun m => decide (m.kind = .phaseOffset)).map (s.moveLeft n)).sum

/-- DPLL.CLOSE (R164, R166). `phase` is the selected candidate's phase against the DPLL's output, positive where it is
later. The unrun part of a build-out removal is part of that phase; the rest of a movement of `phase_offset` resumes. `settling`
is raised in every case (R160). -/
def State.closeDpll (s : State) (n : Nat) (phase : Int) : State :=
  let t := s.setDpll n { s.dpll n with integrator := s.attr Attr.dpll_freq_word n, integralRest := 0, timerFrom := s.counter }
  match if t.attr Attr.selector_sel_state n = SelState.selected.code then (t.sel n).source else none with
  | some x =>
    let reached := t.offsetReached n
    let u := (t.dropMoves n [.buildOut, .align, .phaseAlign]).2
    u.enterAcquire n x (phase - reached)
  | none =>
    let u := ((t.holdMoves n).resumeMoves n).settle n
    if u.flag Attr.dpll_has_locked n then u.enterHoldover n else u.enterFreeRun n

def execDpllClose (who : Issuer) (dpll : Nat) (phase : Int) (s : State) : Host.Outcome State Fault Refusal :=
  .next (s.doAct who
    { opcode := 0x0401, inst := dpll
      refusals := [(decide (15 < dpll), E_RANGE), (decide (s.dpllState dpll ≠ .opened), E_STATE)] }
    fun t => t.closeDpll dpll phase)

/-- DPLL.SET_FREQ (R166, R167): the last word before a post wins. -/
def execSetFreq (who : Issuer) (dpll : Nat) (word : Int) (s : State) : Host.Outcome State Fault Refusal :=
  .next (s.doAct who
    { opcode := 0x0402, inst := dpll
      refusals := [(decide (15 < dpll) || decide (250000000000000 < word.natAbs), E_RANGE),
        (decide (s.dpllState dpll ≠ .opened), E_STATE)] }
    fun t => t.setDpll dpll { t.dpll dpll with pendWord := some word })

/-- DPLL.NUDGE_PHASE (R166, R167): nudges before a post add, and each counts. -/
def execNudgePhase (who : Issuer) (dpll : Nat) (interval : Int) (s : State) : Host.Outcome State Fault Refusal :=
  .next (s.doAct who
    { opcode := 0x0403, inst := dpll
      refusals := [(decide (15 < dpll) || decide (secondUnits < interval.natAbs), E_RANGE),
        (decide (s.dpllState dpll ≠ .opened), E_STATE)] }
    fun t =>
      let u := t.markSwitch dpll
      let r := u.dpll dpll
      u.setDpll dpll { r with pendNudge := r.pendNudge + interval, nudges := r.nudges + 1 })

/-- The ensemble seconds for which a DPLL's ledger lists a record. -/
def State.ledgerSeconds (s : State) (n : Nat) : List Nat :=
  (List.range 86400).filterMap fun k =>
    match s.ledgerPlace n k with
    | some r => if r.second % 86400 = k then some r.second else none
    | none => none

/-- DPLL.RESET_HISTORY (R179): every record becomes unusable, `has_locked`, `ho_ready` and `phase_offset` clear, and the
output moves at `slope_limit`. -/
def State.resetHistory (s : State) (n : Nat) : State :=
  let r := s.dpll n
  let t := s.setDpll n { r with fifo := r.fifo.map fun q => { q with flags := q.flags ||| 32 } }
  let u := t.forEach (t.ledgerSeconds n) fun x sec => x.ledgerMark n sec 32
  let v := ((u.put1 Attr.dpll_has_locked n 0).put1 Attr.dpll_ho_ready n 0).put1 Attr.dpll_ho_usable n 0
  let x := v.attr Attr.dpll_phase_offset n
  let w := v.put1 Attr.dpll_phase_offset n 0
  if w.dpllState n = .freeRun then w.startWordMove n .phaseOffset (-x) else w.addMove n .phaseOffset (-x)

def execResetHistory (who : Issuer) (dpll : Nat) (s : State) : Host.Outcome State Fault Refusal :=
  .next (s.doAct who
    { opcode := 0x0404, inst := dpll
      refusals := [(decide (15 < dpll), E_RANGE),
        (decide (s.dpllState dpll = .holdover) || decide (s.dpllState dpll = .holdoverLimit), E_STATE)] }
    fun t => t.resetHistory dpll)

/-! ### The loop (R155, R162) -/

/-- An unbound DPLL applies the words and nudges that wait (R167). -/
def State.applyWaiting (s : State) (n : Nat) : State :=
  let r := s.dpll n
  let t := match r.pendWord with
    | some y => s.setWord n y
    | none => s
  let u := t.put1 Attr.dpll_phase_offset n (t.attr Attr.dpll_phase_offset n + r.pendOffset)
  (u.setDpll n { u.dpll n with pendWord := none, pendNudge := 0, pendOffset := 0, nudges := 0, setsTime := false }).phaseJump n
    r.pendNudge

/-- Whether a sample loses lock (R162): `freqError` in 10^-15, `lock_freq_limit` in ppt, `lock_limit_used` in ps. -/
def State.lockLost (s : State) (n : Nat) (phaseError freqError : Int) : Bool :=
  decide (2 * s.attrN Attr.dpll_lock_limit_used n * 65536 < phaseError.natAbs * 1000) ||
    decide (2 * s.attrN Attr.dpll_lock_freq_limit n * 1000 < freqError.natAbs)

/-- The loop takes a sample (R150, R155): the phase error is reported with the duty that follows from it (R176), the second's record
takes it (R169), the integrator moves by the integral part, and the word is the integrator with the proportional part. -/
def State.loopSample (s : State) (n : Nat) (phaseError : Int) : State :=
  let r := s.dpll n
  let whole := r.integrator * 1000000000000 + r.integralRest + s.integralStep n phaseError
  let ps := picoseconds phaseError
  let t := s.setDpll n { r with
    integrator := clampWord (whole / 1000000000000)
    integralRest := whole % 1000000000000
    duty := s.sampleDuty n phaseError
    errSquares := r.errSquares + ps * ps
    errCount := r.errCount + 1 }
  (t.setWord n ((t.dpll n).integrator + t.proportional n phaseError)).put1 Attr.dpll_phase_error n phaseError

/-- Whether no stamp of the selected input reaches the phase detector: while its channel is replaced (R457), and while it fails its
phase-jump monitor (R143). -/
def State.streamPaused (s : State) (n : Nat) : Bool :=
  match (s.sel n).source with
  | some x => !isDomainSource x && (s.channelDown (channelInput x) || bitOf (s.attrN Attr.input_qual_flags (channelInput x)) 2)
  | none => false

/-- The active module's ticks at a counter value since the labelled edge of the last snapshot, in tick / 1024 (R469): 135 for each
MATE_CLKI period, interpolated between the last two stamps, which `mate_clk_delay` corrects. -/
def State.activeTicks (s : State) (p : Snapshot) (count : Nat) : Int :=
  let r := s.input 26
  let period : Int := 135 * 1024
  let delay := s.attr Attr.mate_clk_delay * 13824 / 10000
  let start : Int := (p.localEdge : Int) * 1024 - delay
  match r.prevStamp, r.lastStamp with
  | some a, some (_, last) =>
    let b := a.2 - delay
    let q := last - delay
    if q ≤ b then (count : Int) * 1024 - start
    else roundQuot (q - start) period * period + ((count : Int) * 1024 - q) * (roundQuot (q - b) period * period) / (q - b)
  | _, _ => (count : Int) * 1024 - start

/-- The phase of the implicit mate reference of DPLLn at a counter value (R469): the active DPLL's, advanced by its frequency word. -/
def State.matePhase (s : State) (n count : Nat) : Option Int :=
  match s.mate.snap with
  | some p =>
    (p.dplls.find? fun e => e.dpll.val == n).map fun e =>
      e.phase + s.activeTicks p count * (20 * 64 * (1000000000000000000 + e.word)) / 27000000000000000000
  | none => none

/-- The phase error of a sample (R155, R469): against the implicit mate reference on full time, else the one measured. -/
def State.samplePhase (s : State) (n : Nat) (measured : Int) : Int :=
  match s.boundDom n, s.matePhase n s.counter with
  | some d, some m => if (s.sel n).source = some mateSource then s.domNow d - m else measured
  | _, _ => measured

/-- PD_SAMPLE (R155, R162, R167, R469). -/
def execPdSample (n : Fin 16) (measured freqError : Int) (s : State) : Host.Outcome State Fault Refusal :=
  .next (s.when_ s.timing fun t =>
    let u := if (t.boundDom n.val).isNone then t.applyWaiting n.val else t
    if u.inLoop n.val && !(u.dpll n.val).heldOff && !u.streamPaused n.val then
      let phaseError := u.samplePhase n.val measured
      let v := u.loopSample n.val phaseError
      if v.dpllState n.val = .locked ∧ v.lockLost n.val phaseError freqError = true then
        let w := (v.toDpllState n.val .acquire).settle n.val
        match (w.sel n.val).source with
        | some x => w.labelAtAcquire n.val x
        | none => w
      else v
    else u)

/-- LOCK_ACQUIRED (R75, R162 to R164): the conditions have held at every sample for `lock_time`. -/
def execLockAcquired (n : Fin 16) (s : State) : Host.Outcome State Fault Refusal :=
  .next (s.when_ (s.timing && decide (s.dpllState n.val = .acquire) && !s.flag Attr.dpll_settling n.val &&
      !(s.dpll n.val).heldOff &&
      decide ((s.attr Attr.dpll_phase_error n.val).natAbs * 1000 ≤ s.attrN Attr.dpll_lock_limit_used n.val * 65536)) fun t =>
    let u := (t.toDpllState n.val .locked).put1 Attr.dpll_has_locked n.val 1
    match u.boundDom n.val with
    | some d => u.leaveUnset d
    | none => u)

/-- SETTLING_END (R160): the longer of 16 samples and 2 / `bw_used` has passed. -/
def execSettlingEnd (n : Fin 16) (s : State) : Host.Outcome State Fault Refusal :=
  .next (s.when_ (s.timing && s.flag Attr.dpll_settling n.val) fun t =>
    (t.advance (t.dpll n.val).settleEnds).put1 Attr.dpll_settling n.val 0)

/-- The ticks that a slope needs for a distance. -/
def slopeTicks (slope : Nat) (x : Int) : Nat :=
  if slope = 0 then 0 else (x.natAbs * 1000 * ticksPerSecond + slope * 65536 - 1) / (slope * 65536)

/-- The running movement of a DPLL that ends first, with its end. -/
def State.nextEnd (s : State) (n : Nat) : Option (Movement × Nat) :=
  ((s.dpll n).moves.filterMap fun m => m.since.map fun t => (m, t + slopeTicks (s.slopeOf n m.kind) m.remaining)).foldl
    (fun (best : Option (Movement × Nat)) e =>
      match best with
      | some b => if e.2 < b.2 then some e else some b
      | none => some e) none

/-- SLOPE_MOVEMENT_COMPLETE (R154, R168): a movement has run out, the next one starts, and the word returns to its value where the
movement ran through it. -/
def execSlopeMovementComplete (n : Fin 16) (s : State) : Host.Outcome State Fault Refusal :=
  .next (match s.nextEnd n.val with
    | some (m, tick) => s.when_ s.timing fun t =>
        let u := t.advance tick
        let v := u.setDpll n.val { u.dpll n.val with moves := u.runHead n.val ((u.dpll n.val).moves.erase m) }
        if m.word || (v.dpll n.val).moves.any (·.word) then v.reword n.val else v
    | none => s)

/-! ### Holdover (R171 to R173) -/

/-- TE_est in ps at a time since entry in ms (R173). -/
def State.teEstimate (s : State) (n ms : Nat) : Nat :=
  s.attrN Attr.dpll_ho_te_coeff n 0 + s.attrN Attr.dpll_ho_te_coeff n 1 * ms / 1000000 +
    s.attrN Attr.dpll_ho_te_coeff n 2 * ms * ms / 1000000000000000

/-- The milliseconds since a DPLL's entry to holdover (R173). -/
def State.sinceEntry (s : State) (n : Nat) : Nat := (s.counter - (s.dpll n).entered) / 1350000

/-- TE_ESTIMATE_EVAL (R164, R173): every 1 ms in holdover; the next whole millisecond since entry has come. -/
def execTeEstimateEval (n : Fin 16) (s : State) : Host.Outcome State Fault Refusal :=
  .next (s.when_ (s.timing && (decide (s.dpllState n.val = .holdover) || decide (s.dpllState n.val = .holdoverLimit))) fun t0 =>
    let t := t0.advance ((t0.dpll n.val).entered + (t0.sinceEntry n.val + 1) * 1350000)
    let te := t.teEstimate n.val (t.sinceEntry n.val)
    let u := (t.put1 Attr.dpll_ho_te_est n.val te).put1 Attr.dpll_ho_elapsed n.val
      ((t.sinceEntry n.val / 1000 % 2 ^ 32 : Nat) : Int)
    let budget := u.attrN Attr.dpll_ho_budget n.val * 1000
    if budget < te then u.toDpllState n.val .holdoverLimit
    else if te < budget then u.toDpllState n.val .holdover
    else u)

/-- The holdover word is computed from the usable records (R171): y_ho = ȳ − [ŷ(t, T) − ŷ(t̄, T̄)], in 10^-18. The model is
linear in t and T, so that ŷ(t̄, T̄) is the mean of ŷ over the records. -/
def State.computeHoldover (s : State) (n : Nat) (temp : Int) : State :=
  let us := s.usable n
  let ready := decide (s.attrN Attr.dpll_ho_window n ≤ 2 * us.length) && decide (60 ≤ us.length)
  let t := (s.put1 Attr.dpll_ho_usable n us.length).put1 Attr.dpll_ho_ready n (boolInt ready)
  match meanOf (us.map fun r => r.freq * 1000), meanOf (us.map fun r => (r.second : Int)), meanOf (us.map (·.temp)) with
  | some y, some sec, some tm =>
    let then_ := (meanOf (us.map fun r => t.ensembleModel r.second r.temp)).getD 0
    let bracket := t.ensembleModel s.second temp - then_
    (t.setDpll n { t.dpll n with means := (y, sec, tm) }).put1 Attr.dpll_ho_freq n (clampWord (y - bracket))
  | _, _, _ => t

/-- Firmware writes E0, E1 and E2 (R173). -/
def State.writeCoeffs (s : State) (n : Nat) : State :=
  let us := s.usable n
  s.putList Attr.dpll_ho_te_coeff n 0 [(satNat 0xFFFFFFFF (teE0 us) : Int), (satNat 0xFFFFFFFF (s.teE1 us) : Int),
    (satNat 0xFFFFFFFF s.teE2 : Int)]

/-- HOLDOVER_WORD_REFRESH (R26, R171 to R173, R433): once per second firmware writes the holdover word with its
coefficients, and the free-run word; the DPLL takes what its state uses, and the control-loss timer restarts. With fewer than two
usable records no holdover word is written, and the coefficients stay (log entry 84). -/
def execHoldoverWordRefresh (n : Fin 16) (s : State) : Host.Outcome State Fault Refusal :=
  .next (s.when_ s.engines fun t =>
    let temp := t.meanTemp
    let u := t.computeHoldover n.val temp
    let free := clampWord (-(u.ensembleModel u.second temp))
    let v := u.setDpll n.val { u.dpll n.val with freeRunWord := free, ctrlLost := false, timerFrom := u.counter }
    let ready := v.flag Attr.dpll_ho_ready n.val
    let held := decide (v.dpllState n.val = .holdover) || decide (v.dpllState n.val = .holdoverLimit)
    let w :=
      if held && ready then
        (v.setDpll n.val { v.dpll n.val with useShort := false }).setWord n.val (v.attr Attr.dpll_ho_freq n.val)
      else if v.dpllState n.val = .freeRun then v.setWord n.val free
      else v
    (if (held && !ready) || decide ((w.usable n.val).length < 2) then w else w.writeCoeffs n.val).uncause (496 + n.val))

/-- HOLDOVER_SUMMARY_STORE (R178): every 10 minutes the summaries go to the shadow store. -/
def execHoldoverSummaryStore (s : State) : Host.Outcome State Fault Refusal :=
  .next (s.when_ s.engines fun t =>
    (t.forEach (List.range 16) fun u n =>
      let (y, sec, tm) := (u.dpll n).means
      u.putList Shadow.summary n 0 [y, sec, tm, u.attr Attr.dpll_ho_usable n, u.attr Attr.dpll_has_locked n]).enforceLimit)

/-- CTRL_LOSS_TIMEOUT (R433): the control-loss timer of a bound DPLL that is not OPEN reaches `ctrl_loss_timeout`. -/
def execCtrlLossTimeout (n : Fin 16) (s : State) : Host.Outcome State Fault Refusal :=
  .next (match s.boundDom n.val with
    | some d => s.when_ (s.timing && decide (s.dpllState n.val ≠ .opened) && !(s.dpll n.val).ctrlLost) fun s =>
        let t := s.advance ((s.dpll n.val).timerFrom + s.attrN Attr.fault_ctrl_loss_timeout * ticksPerSecond)
        (t.setDpll n.val { t.dpll n.val with ctrlLost := true }).raise (496 + n.val) true 0 [.dom d]
    | none => s)

/-! ### Posts and the ledger (R167, R169) -/

/-- One fraction LSB, 2^-16 ns, in the unit of a DPLL's lead. -/
def leadUnit : Int := 27000000000000000000 * 2 ^ 32

/-- How far the DPLL's phase is ahead of its domain's time at a post instant (R167), in the unit of its lead: the domain's time there
is the rounded one of R59. -/
def State.leadAt (s : State) (n d instant : Nat) : Int :=
  let w := ((s.dom d).words)
  let exact := w.offset * 2 ^ 32 + ((instant : Int) - w.anchor) * w.period
  s.phaseLead n instant - 27000000000000000000 * (w.time instant 0 * 2 ^ 32 - exact)

/-- DPLL_POST (R62, R167, R168): the DPLL posts its word to its bound domain; the nudges that wait make part of Δ and
each counts, and `phase_offset` takes the steps of ADJ_PHASE. -/
def execDpllPost (n : Fin 16) (instant : Nat) (s : State) : Host.Outcome State Fault Refusal :=
  .next (match s.boundDom n.val with
    | none => s
    | some d => s.when_ s.timing fun t =>
        if t.canUpdate d instant then
          let lead := t.leadAt n.val d instant
          let u := match (t.dpll n.val).pendWord with
            | some y => t.setWord n.val y
            | none => t
          let r := u.dpll n.val
          let y := u.attr Attr.dpll_freq_word n.val
          let v := u.put1 Attr.dpll_phase_offset n.val (u.attr Attr.dpll_phase_offset n.val + r.pendOffset)
          (v.setDpll n.val { v.dpll n.val with
              pendWord := none, pendNudge := 0, pendOffset := 0, nudges := 0, setsTime := false
              posted := (periodWord y : Int), acc := lead % leadUnit, accSince := instant }).setPend d
            { instant := instant, period := periodWord y, absolute := none, delta := lead / leadUnit + r.pendNudge
              steps := r.nudges, jump := r.pendNudge, sets := r.setsTime }
        else t.refuseUpdate d)

/-- The marks that a second starts with (R169): what is already true at its first tick. -/
def State.freshMarks (s : State) (n : Nat) : Nat :=
  let r := s.dpll n
  let drift := match (s.sel n).source with
    | some x => s.sourceDrift x
    | none => false
  boolNat (decide (s.dpllState n ≠ .locked)) + 2 * boolNat (s.flag Attr.dpll_settling n) +
    4 * boolNat (r.moves.any fun m => m.since.isSome) + 8 * boolNat r.heldOff + 32 * boolNat drift

/-- The mean of the frequency word over the second that ends, in 10^-15 (R169). -/
def State.meanWord (s : State) (n : Nat) : Int :=
  let r := s.dpll n
  if s.counter ≤ r.tickMark then s.attr Attr.dpll_freq_word n / 1000
  else roundQuot (s.wordIntegral n - r.sumMark) (1000 * ((s.counter - r.tickMark : Nat) : Int))

/-- The RMS phase error over the second that ends, in ps; of a second without a sample the spec gives none, and it is a free value
(R169; log entry 84). -/
def State.phaseRms (s : State) (n : Nat) : Nat :=
  let r := s.dpll n
  if r.errCount = 0 then s.free.toNat % 65536 else satNat 65535 (rootQuot r.errSquares r.errCount)

/-- The record of the second that ends (R169). -/
def State.formRecord (s : State) (n second : Nat) : LedgerRec :=
  { freq := s.meanWord n, temp := s.meanTemp, flags := (s.dpll n).marks ||| s.freshMarks n, second := second % 2 ^ 32
    ref := s.attrN Attr.selector_selected n
    grade := match (s.sel n).source with
      | some x => s.sourceGrade x
      | none => 15
    phaseRms := s.phaseRms n }

/-- LEDGER_RECORD (R169): an ensemble second ends, and hardware places its record, which bears the number of the second, in the FIFO
of 64; a full FIFO loses its oldest record. -/
def execLedgerRecord (n : Fin 16) (s : State) : Host.Outcome State Fault Refusal :=
  .next (s.when_ s.timing fun t =>
    let ends := max t.second ((t.dpll n.val).secondCount + 1)
    let u := t.advance (ends * ticksPerSecond)
    let r := u.dpll n.val
    let rec_ := u.formRecord n.val (ends - 1)
    let full := decide (64 ≤ r.fifo.length)
    let v := (u.setDpll n.val { r with
      fifo := (if full then r.fifo.drop 1 else r.fifo) ++ [rec_]
      marks := u.freshMarks n.val
      errSquares := 0
      errCount := 0
      sumMark := u.wordIntegral n.val
      tickMark := u.counter
      secondCount := ends }).spend
    if full then v.bump Attr.dpll_ledger_gaps n.val else v)

/-- LEDGER_DRAIN (R169): firmware moves the records of the FIFO to the ledger, oldest first. -/
def execLedgerDrain (n : Fin 16) (s : State) : Host.Outcome State Fault Refusal :=
  .next (s.when_ s.engines fun t =>
    let r := t.dpll n.val
    r.fifo.foldl (fun u q => u.tmWrite (ledgerAddr n.val q.second) q.bytes) (t.setDpll n.val { r with fifo := [] }))

end Sys2Proof.Machine
end

