-- ==== Sys2Proof/Machine/System.lean ====
section
/-! DEFINITION. The SYSTEM actions and the restarts of the control plane (R351 to R355, R408 to R416, R446, R497): warm reset,
Gaffer restart, reboot, factory restore, power states, firmware updates, reports and logs. -/

namespace Sys2Proof.Machine

/-! ### Completions at a restart (R336, R352) -/

/-- A command whose completion is written before it acts (R352): at once where its ring has room, else as any completion. -/
def State.completeFirst (s : State) (who : Issuer) (opcode inst : Nat) : State :=
  let t := s.finish who opcode 0 inst
  match who with
  | .ring c _ =>
    let r := t.ring c.val
    match takeFirst (fun d => decide (d.who = who)) t.host.completed with
    | some (d, rest) =>
      if r.active && !r.dead && (r.cplPi + 1) % r.cplSize != r.cplCi then
        ({ t with host := { t.host with completed := rest } }).writeCompletion c.val d
      else t
    | none => t
  | _ => t

/-- The 10 ms between the completion of such a command and its act have passed (R352): no command is fetched in them. -/
def State.tenMs (s : State) : State := if s.counting then s.advance (s.counter + 13500000) else s

/-- Every ring tag in use, and a command of SPI lite that runs, completes with E_RESTARTED (R336, R341); what still runs of them
has no completion any more. -/
def State.restartTags (s : State) : State :=
  let h := s.host
  let waiting (c tag : Nat) : Bool := h.completed.any fun d => d.ofClient c && issuerTag d.who == tag
  let spi := h.completed.filter fun d => decide (d.who = .spi)
  let mk (who : Issuer) (opcode slot : Nat) : Done :=
    { who := who, opcode := opcode, slot := slot, status := E_RESTARTED, result := [], resultLen := 0 }
  let rings := h.inflight.map fun f => mk (.ring (Fin.ofNat 512 f.client) (Fin.ofNat 2048 f.tag)) f.opcode f.slot
  let spiNow := if h.spi.busy && spi.isEmpty then [mk .spi (natLE (tblGetRun h.spi.entry (0 : Byte) 0 2)) 0] else []
  let t : State := { s with host := { h with
    completed := spi ++ spiNow ++ rings
    orphans := h.orphans ++ (h.inflight.filter fun f => !waiting f.client f.tag).map fun f => (f.client, f.tag) } }
  if h.inflight.isEmpty then t else t.raise 527

/-! ### Firmware updates (R353) -/

/-- The interface of an issuer (R353). -/
def faceOf : Issuer → Nat
  | .ring _ _ => 0
  | .spi => 1
  | .console => 2

/-- `fw_update` (R356). -/
def State.noteFw (s : State) (state : Nat) (u : FwOpen) : State :=
  (s.put Attr.fw_update 0 0 (state + u.slot * 4 + u.face * 8 : Nat)).put Attr.fw_update 0 1 u.bytes

/-- A restart closes an open update and leaves its slot invalid (R353, R417). -/
def State.closeFw (s : State) : State :=
  match s.boot.fw with
  | some u => (s.setBoot { s.boot with fw := none }).noteFw 3 u
  | none => s

/-- Marks a slot invalid, or valid with what its images carry. -/
def State.setSlot (s : State) (slot : Nat) (i : ImageSlot) : State :=
  let mask := s.attrN Attr.slot_valid
  let bit := 2 ^ slot
  let t := s.put1 Attr.slot_valid 0 (mask - (if bitOf mask slot then bit else 0) + (if i.valid then bit else 0) : Nat)
  let u := (t.put Attr.slot_versions 0 (2 * slot) i.holax.version).put Attr.slot_versions 0 (2 * slot + 1) i.batt.version
  u.setBoot (if slot = 0 then { u.boot with slotA := i } else { u.boot with slotB := i })

/-- An invalid slot. -/
def ImageSlot.none_ : ImageSlot := {}

/-- SYSTEM.FW_BEGIN (R351, R353): the slot is marked invalid. In safe-talk before step 6 no slot is active. -/
def execFwBegin (who : Issuer) (slot total : Nat) (s : State) : Host.Outcome State Fault Refusal :=
  .next (s.doAct who
    { opcode := 0x0105, safeTalk := true, inst := slot
      refusals := [(decide (1 < slot) || decide (total = 0) || decide (31457280 < total), E_RANGE),
        (decide (6 ≤ s.boot.lastStep) && s.attr Attr.active_slot == slot, E_IN_USE), (s.boot.fw.isSome, E_BUSY)] }
    fun t =>
      let u : FwOpen := { slot := slot, face := faceOf who, total := total, bytes := 0, crc := 0xFFFFFFFF }
      ((t.setSlot slot ImageSlot.none_).setBoot { (t.setSlot slot ImageSlot.none_).boot with fw := some u }).noteFw 1 u)

/-- SYSTEM.FW_WRITE (R351, R353, R359). -/
def execFwWrite (who : Issuer) (offset length : Nat) (data : List Byte) (reachable flashOk : Bool) (s : State) :
    Host.Outcome State Fault Refusal :=
  let u := s.boot.fw.getD { slot := 0, face := 0, total := 0, bytes := 0, crc := 0 }
  .next (s.act who
    { opcode := 0x0106, safeTalk := true, reachable := reachable
      refusals := [(decide (length = 0) || decide (4096 < length) ||
          (s.boot.fw.isSome && (offset != u.bytes || decide (u.total < offset + length))), E_RANGE),
        (s.boot.fw.isNone, E_STATE), (u.face != faceOf who, E_BUSY)] }
    fun t =>
      if !flashOk then t.finish who 0x0106 E_FLASH 0
      else
        let v : FwOpen := { u with bytes := u.bytes + length, crc := (padBytes length data).foldl crcByte u.crc }
        ((t.setBoot { t.boot with fw := some v }).noteFw 1 v).finish who 0x0106 0 0 (bytesLE 4 v.bytes))

/-- The status of SYSTEM.FW_FINISH (R353). -/
def fwStatus (u : FwOpen) (crc : Nat) (integrityOk pairOk flashOk : Bool) : Nat :=
  if u.bytes ≠ u.total then E_STATE
  else if u.crc ^^^ 0xFFFFFFFF ≠ crc then E_IMAGE
  else if !integrityOk then E_IMAGE
  else if !pairOk then E_IMAGE_PAIR
  else if !flashOk then E_FLASH
  else 0

/-- SYSTEM.FW_FINISH (R351, R353, R400): it closes the update, whatever its status; on an interface or for a slot that has no update open
it is refused and closes nothing. The images that were written are intact or not, and carry what their heads say. -/
def execFwFinish (who : Issuer) (slot crc : Nat) (integrityOk flashOk : Bool) (holax batt : ImageHead) (s : State) :
    Host.Outcome State Fault Refusal :=
  .next (s.act who
    { opcode := 0x0107, safeTalk := true, inst := slot
      refusals := [(decide (1 < slot), E_RANGE), (match s.boot.fw with
        | some u => u.face != faceOf who || u.slot != slot
        | none => true, E_STATE)] }
    fun t =>
      match t.boot.fw with
      | none => t
      | some u =>
        let code := fwStatus u crc integrityOk (t.pairOk holax batt) flashOk
        let closed := (t.setBoot { t.boot with fw := none }).noteFw (if code = 0 then 2 else 3) u
        let v := if code = 0 then
            closed.setSlot slot { valid := true, holax := holax, batt := batt }
          else closed
        (v.finish who 0x0107 code slot).raise 495)

/-- SYSTEM.FW_ACTIVATE (R351, R353). -/
def execFwActivate (who : Issuer) (slot : Nat) (s : State) : Host.Outcome State Fault Refusal :=
  .next (s.doAct who
    { opcode := 0x0108, safeTalk := true, inst := slot, refusals := [(decide (1 < slot), E_RANGE), (!bitOf (s.attrN Attr.slot_valid) slot, E_STATE)] }
    fun t => t.put1 Attr.boot_slot 0 slot)

/-! ### Gaffer restart and warm reset (R409, R410) -/

/-- A reset discards a pending injection of an SRAM array that it acts on (R445). -/
def State.dropSramInjection (s : State) (p : Nat → Bool) : State :=
  match tblFind s.faults.inject 1 with
  | some j => if p j.target then { s with faults := { s.faults with inject := tblDrop s.faults.inject 1 } } else s
  | none => s

/-- The Gaffer restarts (R336, R410), and an injection of its SRAM is discarded (R445). -/
def State.gafferRestart (s : State) : State :=
  let t := ((s.raise 482).dropSramInjection fun a => a == 0).bump Attr.gaffer_restarts
  (t.setBoot { t.boot with gafferUp := false }).closeFw

/-- GAFFER_WATCHDOG_EXPIRY (R407, R410, R423): not fed for 100 ms. -/
def execGafferWatchdogExpiry (s : State) : Host.Outcome State Fault Refusal :=
  .next (s.when_ (decide (s.boot.phase = .running)) fun t => (t.raise 481).gafferRestart)

/-- GAFFER_LOCKSTEP_MISMATCH (R407, R410, R423). -/
def execGafferLockstepMismatch (s : State) : Host.Outcome State Fault Refusal :=
  .next (s.when_ (decide (s.boot.phase = .running)) fun t => (t.raise 480).gafferRestart)

/-- Holax serves again (R336, R409, R410). -/
def State.serveAgain (s : State) : State :=
  let t := (s.settleSlots.setBoot { s.boot with gafferUp := true, warmRunning := false }).restartTags.feedAlive
  t.forEach t.domains State.retz

/-- GAFFER_RESTART_COMPLETE (R336, R410); within a warm reset the restart only starts its step 6 again. -/
def execGafferRestartComplete (s : State) : Host.Outcome State Fault Refusal :=
  .next (s.when_ (decide (s.boot.phase = .running) && !s.boot.gafferUp && !s.boot.warmRunning) State.serveAgain)

/-- A warm reset halts the engines and the Gaffer (R409). -/
def State.haltControl (s : State) : State :=
  ((s.settleSlots.setBoot { s.boot with gafferUp := false, warmRunning := true, warmDue := false }).dropSramInjection fun a => decide (a = 0 ∨ 2 ≤ a ∧ a ≤ 17)).closeFw

/-- SYSTEM.WARM_RESET (R352, R409, R412): the completion is written, then the engines and the Gaffer halt; a power-state transition in
progress ends first. -/
def execWarmReset (who : Issuer) (s : State) : Host.Outcome State Fault Refusal :=
  .next (s.act who { opcode := 0x0102 } fun t =>
    let u := (t.completeFirst who 0x0102 0).tenMs
    if u.boot.transition.isSome then u.setBoot { u.boot with warmDue := true } else u.haltControl)

/-- A step of a warm reset has failed (R402, R409): safe-talk, with the ports' transmitters off and the role given up. -/
def State.warmFails (s : State) (k code : Nat) : State :=
  let t := s.setBoot { s.boot with warmRunning := false }
  let u := (List.range 4).foldl (fun (x : State) p => if x.portUp p then x.linkDown p false else x) t
  let v := (u.bootFails k code).setMate { u.mate with claim := false, roleAct := false, deciding := false, takeover := none }
  v.restartTags

/-- WARM_RESET_COMPLETE (R402, R408, R409, R412): steps 5, 6, of the active slot alone, and 9 have run; the engines in
`failedEngines`, as 9 × cluster + physical engine, have failed their test. -/
def execWarmResetComplete (failedEngines : List Nat) (read : SlotRead) (s : State) : Host.Outcome State Fault Refusal :=
  .next (s.when_ (decide (s.boot.phase = .running) && s.boot.warmRunning) fun t =>
    match bootEngines failedEngines t with
    | (u, some code) => u.warmFails 5 code
    | (u, none) =>
      if u.acceptable (u.attrN Attr.active_slot) read.intact then
        let v := u.flushRecords
        ((v.forEach v.domains State.placeTasks).serveAgain.put1 Attr.reset_cause 0 4).raise 488
      else u.warmFails 6 (if u.attrN Attr.slot_valid % 4 = 0 then 0x0601 else 0x0602))

/-! ### Reboot and factory restore (R352, R497) -/

/-- SYSTEM.REBOOT (R351, R352, R407); DORMANT is left in the three ways of R416 only (log entry 57). -/
def execReboot (who : Issuer) (slot : Nat) (env : BootEnv) (s : State) : Host.Outcome State Fault Refusal :=
  .next (s.act who
    { opcode := 0x0103, safeTalk := true
      refusals := [(decide (1 < slot) && slot != 255, E_RANGE),
        (decide (s.power = .dormant) || !bitOf (s.attrN Attr.slot_valid) (if slot = 255 then s.attrN Attr.boot_slot else slot), E_STATE)] }
    fun t => (t.completeFirst who 0x0103 0).tenMs.restart env slot 2)

/-- SYSTEM.RESTORE_FACTORY (R351, R352, R416, R497): the erase is one transaction over pages 72 to 899; the restart follows it. -/
def execRestoreFactory (who : Issuer) (confirm : Nat) (env : BootEnv) (s : State) : Host.Outcome State Fault Refusal :=
  .next (s.act who { opcode := 0x0104, refusals := [(confirm != 0x46414354, E_RANGE), (decide (s.power = .dormant), E_STATE)] } fun t =>
    let u := (t.completeFirst who 0x0104 0).tenMs
    (u.setBoot { u.boot with restore := some env }).queueTxn .restoreFactory ((List.range 828).map fun k => 72 + k))

/-- The erase has ended (R497): verified, and the module restarts; else it goes on as it stood. -/
def State.restoreDone (s : State) : State :=
  match s.boot.restore with
  | some env =>
    if s.store.running.any fun t => decide (t.way = .restoreFactory) then s
    else if s.store.invalid.isEmpty then s.setBoot { s.boot with restore := none }
    else s.restart env 255 3
  | none => s

/-- STORE_PROGRAM_COMPLETE (R486 to R489, R497): a slot program of the engine verifies or fails. -/
def execStoreProgramComplete (page : Fin 1024) (verified : Bool) (s : State) : Host.Outcome State Fault Refusal :=
  .next (s.when_ (decide (s.boot.phase = .running) && s.busyPages.contains page.val) fun t => (t.programResult page.val verified).restoreDone)

/-! ### Power states (R413 to R416) -/

/-- `power_state` changes (R420). -/
def State.setPower (s : State) (k : Nat) : State := (s.settleSlots.put1 Attr.power_state 0 k).raise 489

/-- SYSTEM.SET_POWER (R351, R414): between RUN and QUIET at once; every other change is a transition that its own row ends. -/
def execSetPower (who : Issuer) (state : Nat) (s : State) : Host.Outcome State Fault Refusal :=
  .next (s.doAct who
    { opcode := 0x010C
      refusals := [(decide (3 < state), E_RANGE),
        (s.attr Attr.power_state == state || (decide (s.power = .dormant) && state != 0) || (decide (2 ≤ state) && s.mateLinkUp) || s.boot.fw.isSome,
          E_STATE)] }
    fun t =>
      if state ≤ 1 ∧ t.attr Attr.power_state ≤ 1 then (t.setBoot { t.boot with transition := none }).setPower state
      else t.setBoot { t.boot with transition := some state })

/-- The VOLATILE attributes of the blocks that stop in DORMANT which report a state (R392, R413); the others are counters and
records. -/
def dormantStatus : List Nat :=
  [0x0140, 0x0141, 0x0142, 0x0144, 0x0150, 0x0152, 0x0206, 0x0214, 0x0215, 0x0216, 0x0217, 0x0218, 0x021F, 0x0220, 0x0221, 0x0228, 0x022D,
   0x030D, 0x030E, 0x030F, 0x0310, 0x0400, 0x0402, 0x0406, 0x0409, 0x040B, 0x040C, 0x040F, 0x0417, 0x0418, 0x0506, 0x0507, 0x0509, 0x058B,
   0x0590, 0x0591, 0x0592, 0x0595, 0x0597, 0x0605, 0x061D, 0x061E, 0x0704, 0x0706, 0x0708, 0x0715, 0x0744, 0x0746, 0x0748, 0x0752, 0x0753,
   0x0784, 0x0786, 0x0788, 0x0796, 0x0797, 0x079A, 0x07C4, 0x07C6, 0x07C8, 0x07D6, 0x07D8, 0x0803, 0x0815, 0x0817, 0x0818, 0x081C, 0x0829,
   0x0C01, 0x0C03, 0x0C04, 0x0C06, 0x0C07, 0x0C08, 0x0C0F]

/-- Whether an attribute keeps its value in DORMANT: not a WARM one, nor a session's, nor the state of a stopped block. -/
def dormantKey (k : Nat) : Bool :=
  match keySurv k with
  | some .factory => true
  | some .stored => true
  | some .volatile => !dormantStatus.contains (keyId k) && decide (Obj.ofAttr (keyId k) ≠ some .session)
  | _ => false

/-- DORMANT is entered (R413, R417): every DIRTY page and the domain times are stored, and all but the root, the counter, the
console and the shadow store stops. -/
def State.enterDormant (s : State) : State :=
  let t := s.captureTime
  let u := t.forEach (t.dirtyPages ++ timePages) fun x p => x.storePage p false
  let v : State :=
    { State.reset with
      counter := u.counter, attrs := u.attrs.filter (fun (e : Nat × Int) => dormantKey e.1), store := u.store, factory := u.factory
      faults := { latches := u.faults.latches, waiting := u.faults.waiting, onceAt := u.faults.onceAt, inject := u.faults.inject
                  causeHeld := u.faults.causeHeld }
      host := { console := u.host.console }, repair := u.repair
      boot := { u.boot with heaters := false, transition := none }
      mate := { ack := u.mate.ack, aliveIn := u.mate.aliveIn, roleAct := false }
      pending := u.pending, freeCount := u.freeCount, out := u.out }
  v.crucibleAttrs.setPower 3

/-- The VOLATILE attributes that a DORMANT exit keeps (R392, R416): those that no block of it restarts. -/
def wakeKept : List Nat :=
  bootKept ++ [Attr.active_slot.id, Attr.holax_version.id, Attr.batt_version.id, Attr.compat_id.id, Attr.factory_mode.id, Attr.fw_update.id,
    Attr.boot_fallback.id, Attr.mate_role_pri.id]

/-- Whether an attribute keeps its value at a DORMANT exit. -/
def wakeKey (k : Nat) : Bool :=
  match keySurv k with
  | some .factory => true
  | some .stored => true
  | _ => wakeKept.contains (keyId k)

/-- DORMANT is left by command (R404, R416). -/
def State.leaveDormant (s : State) (env : BootEnv) : State :=
  let t : State := { s with attrs := s.attrs.filter (fun (e : Nat × Int) => wakeKey e.1), faults := {}, pmcs := [] }
  let u := (t.crucibleAttrs.put1 Attr.root_locked 0 1).setBoot { s.boot with heaters := true, transition := none, warmSince := s.counter, warmBase := 0 }
  let v := u.runSteps env (wakeSteps env)
  if v.boot.phase = .running then v.raise 489 else v

/-- POWER_TRANSITION_COMPLETE (R412 to R416, R478): a transition ends, and a warm reset that waits for it begins. -/
def execPowerTransitionComplete (env : BootEnv) (s : State) : Host.Outcome State Fault Refusal :=
  .next (match s.boot.transition with
    | some k => s.when_ (decide (s.boot.phase = .running)) fun t =>
        let u := if k = 3 then t.enterDormant
          else if t.power = .dormant then t.leaveDormant env
          else ((t.setBoot { t.boot with transition := none }).setPower k).sleepTransition k
        if t.boot.warmDue ∧ u.boot.phase = .running then u.haltControl else u
    | none => s)

/-! ### Reports, logs and times (R354, R355, R359, R403, R446) -/

/-- SYS_STATE.HOLAX_UP (R336, R396). -/
def State.holaxUp (s : State) : Bool := s.firmware

/-- SYSTEM.SELF_TEST_REPORT (R359, R403). -/
def execSelfTestReport (who : Issuer) (s : State) : Host.Outcome State Fault Refusal :=
  .next (s.act who { opcode := 0x0109, safeTalk := true } fun t =>
    t.finish who 0x0109 0 0 (bytesLE 1 t.boot.lastStep ++ bytesLE 1 t.boot.failingStep ++ bytesLE 2 t.boot.failCode ++
      bytesLE 1 (boolNat t.holaxUp) ++ bytesLE 3 0 ++ bytesLE 8 t.boot.endCounter))

/-- The record size of a log, its capacity and its base (R355, R366). -/
def logSize (log : Nat) : Nat := [16, 32, 64].getD log 16
def logCapacity (log : Nat) : Nat := [4194304, 2097152, 16384].getD log 1
def logBase (log : Nat) : Nat := [0x18018000, 0x14018000, 0x1C018000].getD log 0
/-- The records that a log has taken. -/
def State.logCount (s : State) (log : Nat) : Nat := [s.tm.eventCount, s.tm.auditCount, s.tm.bootCount].getD log 0

/-- SYSTEM.LOG_READ (R351, R355, R415). -/
def execLogRead (who : Issuer) (log count first : Nat) (buf : HostBuf) (s : State) : Host.Outcome State Fault Refusal :=
  .next (s.act who
    { opcode := 0x010A, safeTalk := true, reachable := bufOk who buf (logSize log * count)
      refusals := [(decide (2 < log) || decide (count = 0) || decide (256 < count), E_RANGE), (decide (s.power = .standbyWarm), E_STATE)] }
    fun t =>
      let n := t.logCount log
      t.finishRead who 0x010A 0 buf (logSize log) (fun k => logBase log + k % logCapacity log * logSize log) (n - min n (logCapacity log)) n first count)

/-- An entry of SYSTEM.TIME_READ (R354): the domain's time, or NOT_AVAILABLE. -/
def State.timeEntry (s : State) (who : Issuer) (d : Nat) : List Byte :=
  if s.created d && s.permits who (.domainOwner d) then s.timeValue d (s.domNow d)
  else List.replicate 14 0 ++ [8] ++ [0]

/-- SYSTEM.TIME_READ (R351, R354). -/
def execTimeRead (who : Issuer) (domains : List Nat) (buf : HostBuf) (s : State) : Host.Outcome State Fault Refusal :=
  .next (s.act who
    { opcode := 0x010B, right := .anyone, reachable := bufOk who buf (8 + 16 * domains.length)
      refusals := [(domains.isEmpty || decide (8 < domains.length) || domains.any (fun d => decide (511 < d)), E_RANGE)] }
    fun t => (t.writeResult who buf (bytesLE 8 t.counter ++ domains.flatMap (t.timeEntry who))).finish who 0x010B 0 0)

/-- SYSTEM.FACTORY_ENTER (R446). -/
def execFactoryEnter (who : Issuer) (token : List Byte) (s : State) : Host.Outcome State Fault Refusal :=
  .next (s.doAct who
    { opcode := 0x010D, refusals := [(!(s.boot.factoryNLow && Config.tokenIssued token s.serial), E_FACTORY)] }
    fun t => (t.put1 Attr.factory_mode 0 1).raise 494)

end Sys2Proof.Machine
end

