-- ==== Sys2Proof/Machine/Read.lean ====
section
/-! DEFINITION. What GET reads (R344, R345, R348): each attribute from its place in the attribute file, or formed from the unit
that owns it. -/

namespace Sys2Proof.Machine

/-! ### Attributes of SYSTEM, INPUT, SELECTOR and DPLL -/

/-- The whole seconds that are left until a tick, a part of a second counted as one. -/
def State.secondsTo (s : State) (t : Nat) : Nat := (t - s.counter + (ticksPerSecond - 1)) / ticksPerSecond

/-- `warmup_elapsed` (R404, R419). -/
def State.warmElapsed (s : State) : Int :=
  if s.attr Attr.warmup_state = WarmupState.warmUp.code then (s.warmRun / ticksPerSecond : Nat) else s.attr Attr.warmup_elapsed

/-- `cluster_state` (R459). -/
def State.clusterState (s : State) (c : Nat) : Nat :=
  s.clusterEngines c + 16 * boolNat (s.cluster c).spare.isSome + 32 * boolNat (s.cluster c).lost

/-- Whether an element of a SYSTEM attribute belongs to OSC1 or OSC2 on a Q1 (R2): the attributes of the members and
`outvote_count`. -/
def State.oscAbsent (s : State) (id e : Nat) : Bool :=
  !s.isQ3 && (e == 1 || e == 2) && ([Attr.osc_weight.id, Attr.osc_freq_offset.id, Attr.osc_temp.id, Attr.age_base.id, Attr.tempco_base.id,
    Attr.age_learned.id, Attr.tempco_learned.id, Attr.outvote_count.id].contains id)

/-- SYSTEM attributes. On a Q1 `osc_state` shows an oscillator that is not fitted by its code NOT_FITTED, and the other
attributes of one read 0 (DESIGN CHOICE, log entry 81). -/
def State.readSystem (s : State) (a : AttrDesc) (e : Nat) : Int :=
  if s.oscAbsent a.id e then 0
  else
  match a.id with
  | 0x0141 => s.weightNow e
  | 0x0144 => s.leadNow
  | 0x0184 => if e = 0 then s.tagsUsed else (2048 - s.tagsUsed : Nat)
  | 0x0187 => s.meanService
  | 0x01AD => s.cacheSlots.getD e 0
  | 0x01C2 => s.warmElapsed
  | 0x01D0 => s.engineCount
  | 0x01D1 => s.clusterState e
  | 0x01D3 => s.repair.spares.length
  | 0x01E3 => 0
  | _ => s.attr a 0 e

/-- INPUT attributes (R89, R91, R122, R202). -/
def State.readInput (s : State) (a : AttrDesc) (n e : Nat) : Int :=
  if n = 27 then (if a.id = 0x0206 then 0 else a.dflt 27 e)
  else if !inputApplies (s.inputType n) n a.id then 0
  else
    match a.id with
    | 0x0200 => boolInt (s.inputOn n)
    | 0x0203 => if n < 16 then (s.nominal n).1 else s.attr a n e
    | 0x0204 => if n < 16 then (s.nominal n).2 else s.attr a n e
    | 0x0206 => s.prediv n
    | _ => s.attr a n e

/-- One element of `cand_status` (R147). -/
def State.candStatus (s : State) (n k : Nat) : Nat :=
  match candNumber (s.cand n k) with
  | none => 0
  | some x =>
    s.sourceGrade x + 16 * boolNat (s.sourceQualified x) + 32 * boolNat ((s.eligible n).contains k) + 64 * boolNat (s.wtrPending n x) +
      128 * boolNat (s.sourceDrift x) + 256 * boolNat (candLocked (s.cand n k))

/-- SELECTOR attributes (R147). -/
def State.readSelector (s : State) (a : AttrDesc) (n e : Nat) : Int :=
  match a.id with
  | 0x030F => s.candStatus n e
  | 0x0310 =>
    match (candNumber (s.cand n e)).bind (tblFind (s.sel n).wtr) with
    | some t => s.secondsTo t
    | none => 0
  | 0x0311 => s.buildoutPhase n
  | _ => s.attr a n e

/-- DPLL attributes (R178). -/
def State.readDpll (s : State) (a : AttrDesc) (n e : Nat) : Int :=
  match a.id with
  | 0x040F => s.alignRemaining n
  | _ => s.attr a n e

/-! ### SYN, OUTPUT, DOMAIN and generators -/

/-- SYN attributes (R207). -/
def State.readSyn (s : State) (a : AttrDesc) (n e : Nat) : Int :=
  match a.id with
  | 0x0508 => s.tapUsers n
  | _ => s.attr a n e

/-- OUTPUT attributes (R209): an output in CLOCK mode has no Lehr error. -/
def State.readOutput (s : State) (a : AttrDesc) (n e : Nat) : Int :=
  let lehr := if (s.outp n).pulse then s.outLehr n else 0
  match a.id with
  | 0x0584 => s.freqActive n
  | 0x058B => s.phaseRemaining n
  | 0x0590 => (s.outState n).code
  | 0x0591 => boolInt (s.outAligned n)
  | 0x0595 => boolInt (lehr != 0)
  | 0x0596 => lehr
  | 0x0597 => lehrEta lehr (s.attrN Attr.output_lehr_rate n)
  | _ => s.attr a n e

/-- DOMAIN attributes of a created domain (R76). -/
def State.readDomain (s : State) (a : AttrDesc) (d e : Nat) : Int :=
  match a.id with
  | 0x0606 => natLE (s.timeValue d (s.domNow d))
  | 0x0607 => natLE (timeBytes ((s.dom d).wordsAt s.counter).offset)
  | 0x0608 => ((s.dom d).wordsAt s.counter).anchor
  | 0x0609 => ((s.dom d).wordsAt s.counter).period
  | 0x060A => s.freqAdj d
  | 0x060B => s.slewRemaining d
  | 0x061D => s.offsetAt d (s.utcHeld d (s.domNow d))
  | 0x061E => boolInt (s.dateValid d)
  | _ => s.attr a d e

/-- The attributes that the four generator objects share, by their offset from the object's base (R241). -/
def State.readGen (s : State) (a : AttrDesc) (g offset i e : Nat) : Int :=
  match offset with
  | 0x04 => (s.genState g).code
  | 0x05 => if 16 ≤ g then 0 else s.attr a i e
  | 0x06 => if 16 ≤ g then 0 else boolInt (s.genLehr g != 0)
  | 0x07 => if 16 ≤ g then 0 else s.genLehr g
  | 0x08 => if 16 ≤ g then 0 else lehrEta (s.genLehr g) (s.attrN (genRate g) (genInst g))
  | 0x09 => if 16 ≤ g then 0 else s.attr a i e
  | _ => s.attr a i e

/-- `tod_tx_state` (R234, R246): QUIET, SENDING, or IDLE. -/
def State.todState (s : State) (n : Nat) : Int :=
  if s.genState (16 + n) = .running then (if s.todQuiet n then 2 else 1) else 0

/-- VIDGEN, AUDGEN, TCGEN and TODGEN attributes (R241 to R246). -/
def State.readGenObj (s : State) (a : AttrDesc) (i e : Nat) : Int :=
  if a.id < 0x0740 then s.readGen a i (a.id - 0x0700) i e
  else if a.id < 0x0780 then s.readGen a (8 + i) (a.id - 0x0740) i e
  else if a.id = 0x0796 then s.tcAddress i
  else if a.id = 0x0797 then s.tcDateNow i
  else if a.id < 0x07C0 then s.readGen a (14 + i) (a.id - 0x0780) i e
  else if a.id = 0x07D6 then s.todState i
  else s.readGen a (16 + i) (a.id - 0x07C0) i e

/-! ### PORT, SESSION, TIC, FAULT, STORE and MATE -/

/-- PORT attributes (R253, R265, R279, R285). -/
def State.readPort (s : State) (a : AttrDesc) (p e : Nat) : Int :=
  match a.id with
  | 0x0804 => s.attr a (p / 2 * 2) e
  | 0x0817 => s.grantedRate p
  | 0x0818 => s.eventCapacity
  | 0x081C => s.credits p e
  | _ => s.attr a p e

/-- SESSION attributes of a session that is not FREE (R279, R286). -/
def State.readSession (s : State) (a : AttrDesc) (n e : Nat) : Int :=
  let r := s.sess n
  match a.id with
  | 0x0883 => (r.partner.addr / 256 ^ (15 - e) % 256 : Nat)
  | 0x0884 => (r.partner.portId / 256 ^ (9 - e) % 256 : Nat)
  | 0x0885 => (s.grant n e).log
  | 0x0886 => (match (s.grant n e).expires with
    | some t => s.secondsTo t
    | none => 0 : Nat)
  | 0x0887 => (s.sessionCost n / 8 : Nat)
  | _ => s.attr a n e

/-- TIC attributes (R308). -/
def State.readTic (s : State) (a : AttrDesc) (n e : Nat) : Int :=
  match a.id with
  | 0x090C => (s.ticState n).code
  | 0x0913 => s.freeUsed
  | _ => s.attr a n e

/-- FAULT attributes (R422, R447): a reserved source reads 0. -/
def State.readFault (s : State) (a : AttrDesc) (ev e : Nat) : Int :=
  match a.id with
  | 0x0A10 => s.attr a ev e
  | 0x0A11 => s.attr a ev e
  | 0x0A12 => s.attr a ev e
  | 0x0A13 => s.aliveState.code
  | 0x0A14 => s.severe.length
  | 0x0A15 => s.injectPending
  | id =>
    if !Ev.defined ev || s.notFitted ev then 0
    else if id = 0x0A04 then s.faultState ev
    else if id = 0x0A05 then (s.latch ev).count
    else if id = 0x0A06 then (s.latch ev).last
    else if id = 0x0A07 then s.scopeWord ev
    else s.attr a ev e

/-- `page_state` of a page (R499); a reserved page reads 0 (R483). -/
def State.pageState (s : State) (p : Nat) : Nat :=
  if 900 ≤ p then 0
  else
    let r := s.page p
    pageClass p + 4 * boolNat (s.pageDirty p) + 8 * boolNat (s.busyPages.contains p) + 16 * boolNat r.current +
      32 * boolNat (r.a.valid != r.b.valid)

/-- STORE attributes (R499). -/
def State.readStore (s : State) (a : AttrDesc) (e : Nat) : Int :=
  match a.id with
  | 0x0B00 => s.storeState
  | 0x0B01 => s.pageState e
  | 0x0B02 => if e = 0 then s.dirtyPages.length else s.store.timeDirty.length
  | 0x0B03 => ordinaryLimit s.store.holdup
  | 0x0B0B => s.store.spares
  | _ => s.attr a 0 e

/-- The largest phase error of a tracked DPLL (R480). -/
def State.trackError (s : State) : Int :=
  ((List.range 16).filter s.mateTracked).foldl (fun (best : Int) n =>
    let x := s.attr Attr.dpll_phase_error n
    if best.natAbs < x.natAbs then x else best) 0

/-- MATE attributes (R480). -/
def State.readMate (s : State) (a : AttrDesc) (e : Nat) : Int :=
  match a.id with
  | 0x0C07 => s.trackError
  | 0x0C09 => (s.snapAge / 1350 : Nat)
  | _ => s.attr a 0 e

/-! ### One element, one value -/

/-- One element of an attribute as GET reads it; an attribute that safe-talk has not loaded reads 0 (R364). -/
def State.readElem (s : State) (a : AttrDesc) (i e : Nat) : Int :=
  if !s.boot.loaded && decide (a.surv = .stored) then 0
  else if decide (a.mode = .wo) then 0
  else
    match a.obj with
    | .system => s.readSystem a e
    | .input => s.readInput a i e
    | .selector => s.readSelector a i e
    | .dpll => s.readDpll a i e
    | .syn => s.readSyn a i e
    | .output => s.readOutput a i e
    | .domain => s.readDomain a i e
    | .vidgen => s.readGenObj a i e
    | .audgen => s.readGenObj a i e
    | .tcgen => s.readGenObj a i e
    | .todgen => s.readGenObj a i e
    | .port => s.readPort a i e
    | .session => s.readSession a i e
    | .tic => s.readTic a i e
    | .fault => s.readFault a i e
    | .store => s.readStore a e
    | .mate => s.readMate a e

/-- A run of elements as bytes (R346). -/
def State.readRun (s : State) (a : AttrDesc) (i first count : Nat) : List Byte :=
  (List.range count).flatMap fun k => intBytesLE a.bytes (s.readElem a i (first + k))

/-- The run that a GET names (R348): its length; none where it does not lie within the attribute. -/
def AttrDesc.runOf (a : AttrDesc) (first count : Nat) : Option Nat :=
  if !a.array then (if first = 0 ∧ count ≤ 1 then some 1 else none)
  else if count = 0 then (if first < a.count then some (a.count - first) else none)
  else if first + count ≤ a.count then some count
  else none

/-! ### Who may read, and when (R345, R363, R364, R415) -/

/-- The right that an attribute of an instance needs (R345, R363). -/
def State.readRight (s : State) (a : Option AttrDesc) (i : Nat) : Right :=
  match a with
  | some a =>
    if a.id ≤ 0x010C then .anyone
    else if a.obj = .domain then .domainOwner i
    else if a.obj = .session ∧ s.attr Attr.session_sess_state i ≠ 0 then .domainOwner (s.sessDomain i)
    else .owner0
  | none => .owner0

/-- Whether a read is refused with E_STATE (R345, R415): another attribute of a FREE domain or session than those it keeps, or a
session's in STANDBY-WARM. -/
def State.readState (s : State) (a : AttrDesc) (i : Nat) : Bool :=
  if a.obj = .domain then !s.created i && a.id != 0x0600 && a.id != 0x0601
  else if a.obj = .session then decide (s.power = .standbyWarm) || (s.attr Attr.session_sess_state i == 0 && a.id != 0x0880)
  else false

/-- Whether the safe-talk set holds a read: attributes of SYSTEM and FAULT (R364); an ID that names none is left to its own
check. -/
def safeRead (a : Option AttrDesc) : Bool :=
  match a with
  | some a => decide (a.obj = .system) || decide (a.obj = .fault)
  | none => false

end Sys2Proof.Machine
end

