-- ==== Sys2Proof/Machine/Write.lean ====
section
/-! DEFINITION. What a SET checks (R349, R360): the refusals of each object's attributes, judged on the state as the SET would
leave it. -/

namespace Sys2Proof.Machine

/-- The elements that a value holds (R346). -/
def elemsOf (a : AttrDesc) : Nat → List Byte → List Int
  | 0, _ => []
  | n + 1, bs =>
    (if a.signed then intLE a.bytes (bs.take a.bytes) else (natLE (bs.take a.bytes) : Int)) :: elemsOf a n (bs.drop a.bytes)

/-- An element as it is kept: reserved bits are ignored (R12, R291, R504, R506), and bit 0 of `client_allow` reads 1 (R321). -/
def keptValue (a : AttrDesc) (e : Nat) (v : Int) : Int :=
  if a.id = 0x01E0 then v % 2 ^ 22
  else if a.id = 0x01E1 then ((field v.toNat 0 22 + field v.toNat 32 22 * 2 ^ 32 : Nat) : Int)
  else if a.id = 0x0902 ∨ a.id = 0x0903 then (sourceFields v.toNat : Nat)
  else if a.id = 0x0180 ∧ e = 0 then v / 2 * 2 + 1
  else v

/-- The values of a run as they are kept. -/
def keptRun (a : AttrDesc) : Nat → List Int → List Int
  | _, [] => []
  | e, v :: vs => keptValue a e v :: keptRun a (e + 1) vs

/-! ### E_IN_USE and E_BUSY -/

/-- Whether a SET meets E_IN_USE (R51, R111, R184, R279, R292). -/
def State.setInUse (s t : State) (w : Write) : Bool :=
  match w.a.id with
  | 0x0200 => s.attr Attr.ext_input == w.i && w.val == 0
  | 0x0201 => s.attr Attr.ext_input == w.i && w.val != s.attr Attr.input_type w.i
  | 0x0203 => s.attr Attr.ext_input == w.i && w.val != s.attr Attr.input_nominal_num w.i
  | 0x0204 => s.attr Attr.ext_input == w.i && w.val != s.attr Attr.input_nominal_den w.i
  | 0x0222 => w.val != 0 && (List.range 36).any fun n => n != w.i && s.attr Attr.input_tod_rx n == w.val
  | 0x0500 => w.val == 0 && s.tapUsers w.i != 0
  | 0x0816 => decide (w.val < s.grantedRate w.i)
  | _ => decide (w.a.obj = .tic) && decide (s.routes.length < t.routes.length) && !t.routesFit

/-- Whether a SET meets E_BUSY (R198, R349, R489): an armed commit slot holds its pending value, or its page is being stored. -/
def State.setBusy (s : State) (w : Write) : Bool :=
  (decide (w.a.id = 0x0501 ∨ w.a.id = 0x0502 ∨ w.a.id = 0x0503) && s.synArmed w.i) || (outBuffered w.a.id && s.outArmed w.i) ||
    (decide (w.a.surv = .stored) && s.busyPages.contains (shadowPage (w.a.key w.i w.first)))

/-! ### The refusals of a SET in their order (R360) -/

/-- Whether an attribute of an instance takes no SET (R253, R349): RO, or the `tc_pair` of ETH1 and ETH3. -/
def AttrDesc.readOnly (a : AttrDesc) (i : Nat) : Bool := decide (a.mode = .ro) || (a.id == 0x0804 && i % 2 == 1)

/-- The run that a SET names: `count` elements from `first` (R349). -/
def AttrDesc.runFits (a : AttrDesc) (first count : Nat) : Bool :=
  count != 0 && decide (first + count ≤ (if a.array then a.count else 1))

/-- The refusals of a SET to attribute `a`: of a TODGEN's Lehr attributes, that it has none (R241). -/
def State.setRefusals (s : State) (a : AttrDesc) (w : Write) (count : Nat) (raw : List Int) : List (Bool × Nat) :=
  let t := s.written w
  [(a.readOnly w.i && !(a.obj == .todgen && lehrOfTod a.id), E_READ_ONLY),
    (decide (a.obj.instances ≤ w.i) || !a.runFits w.first count || raw.any (fun v => !a.accepts v) || s.setRange t w, E_RANGE),
    (s.setState t w, E_STATE), (s.setInUse t w, E_IN_USE), (s.setBusy w, E_BUSY)]

end Sys2Proof.Machine
end

