-- ==== Sys2Proof/Machine/Verbs.lean ====
section
/-! DEFINITION. The generic verbs GET, SET, BULK_GET and SUBSCRIBE (R348 to R350, R361), and what a SET of each attribute does
beside giving it its value. -/

namespace Sys2Proof.Machine

/-! ### SYSTEM (R51, R56, R319, R507) -/

/-- `ext_input` names another input, or none (R51). -/
def State.afterExtInput (s : State) : State :=
  let t := s.extLeave false
  let n := t.attrN Attr.ext_input
  if n < 16 ∧ t.attr Attr.input_qual_state n = QualState.qualified.code then t.extJoin else t

/-- Clients that lose their bit in `client_allow` while ACTIVE are disabled and DENIED (R319, R341). -/
def State.afterAllow (s : State) : State :=
  s.forEach ((List.range 512).filter fun c => !s.allowed c && (s.ring c).active && !(s.ring c).denied) fun t c =>
    ((t.disableRing c).setRing c { (t.disableRing c).ring c with denied := true }).raise 512 false c

/-- The PMCs whose selection or range changes (R507). -/
def State.afterPmc (s t : State) (a : AttrDesc) : State :=
  t.forEach ((List.range 128).filter fun x => s.attr a 0 x != t.attr a 0 x) fun u x => u.pmcChanged (x / 8) (x % 8)

/-- `pmc_ovf_clear` is write-only: each bit that is written clears its OVF bit (R510). -/
def State.clearOvf (s : State) : Nat → List Int → State
  | _, [] => s
  | c, v :: vs =>
    (s.setPmc c { s.pmc c with ovf := (s.pmc c).ovf - ((s.pmc c).ovf &&& v.toNat) }).clearOvf (c + 1) vs

def State.setSystem (s : State) (w : Write) : State :=
  let t := s.written w
  match w.a.id with
  | 0x0145 => if t.attr Attr.ext_input = s.attr Attr.ext_input then s else t.afterExtInput
  | 0x0146 => t.reweigh
  | 0x0180 => t.afterAllow
  | 0x01E0 => s.afterPmc t Attr.pmc_select
  | 0x01E1 => s.afterPmc t Attr.pmc_addr
  | 0x01E3 => s.clearOvf w.first w.vals
  | _ => t

/-! ### INPUT (R91, R94, R97, R101, R106) -/

/-- Counters that use an INPUT settle anew when its nominal frequency or pre-division changes (R304). -/
def State.resettle (s : State) (n : Nat) : State :=
  s.forEach ((List.range 12).filter fun k => s.flag Attr.tic_enable k &&
      [s.ticA k, s.ticB k].any fun v => ticKind v == 1 && ticIndex v == n) fun t k =>
    t.setTic k { t.tic k with settling := 2 }

/-- Setting `input_type` reloads every monitor threshold with the type's default (R91, R105); what another type had attached is
dropped. -/
def State.loadType (s : State) (n : Nat) : State :=
  let ty := s.attrN Attr.input_type n
  let t := [(Attr.input_los_edges, (2 : Int)), (Attr.input_freq_enter, 900), (Attr.input_freq_leave, 1000),
      (Attr.input_freq_gate, Default.inputFreqGate ty), (Attr.input_phase_jump_limit, Default.inputPhaseJump ty),
      (Attr.input_tie_window, Default.inputTieWindow ty), (Attr.input_tie_limit, Default.inputTieLimit ty),
      (Attr.input_drift_limit, 100), (Attr.input_drift_time, 60), (Attr.input_drift_horizon, 300), (Attr.input_soak_time, 10),
      (Attr.input_grade_source, Default.inputGradeSource ty), (Attr.input_assigned_grade, Default.inputAssignedGrade ty),
      (Attr.input_msg_timeout, Default.inputMsgTimeout ty), (Attr.input_msg_lost_grade, 12)].foldl
    (fun (u : State) (e : AttrDesc × Int) => u.put1 e.1 n e.2) s
  let u := if ty = 1 then (t.put1 Attr.input_nominal_num n 1).put1 Attr.input_nominal_den n 1
    else if ty = 2 then (t.put1 Attr.input_nominal_num n 10000000).put1 Attr.input_nominal_den n 1 else t
  if ty = 1 then u else u.put1 Attr.input_tod_rx n 0

/-- The input leaves QUALIFIED, and its monitors start as at enable. -/
def State.startAgain (s : State) (n : Nat) : State :=
  (if s.attr Attr.input_qual_state n = QualState.qualified.code then s.leaveQualified n else s).startMonitors n

/-- A new type: the input starts its monitors again in DISQUALIFIED (R91, R101). -/
def State.afterType (s : State) (n : Nat) : State :=
  let t := s.loadType n
  if t.inputOn n then ((t.startAgain n).resettle n) else t

/-- A changed frequency threshold or gate restarts the gate in progress, which decides as at power-up (R101). -/
def State.newGate (t s : State) (a : AttrDesc) (n : Nat) : State :=
  if t.attr a n = s.attr a n then t else t.setInput n { (t.input n).newGate t.counter with freqPass := false }

/-- What a SET of an input's attribute does beside giving it its value, the restart of a soak aside. -/
def State.inputChanged (s t : State) (w : Write) : State :=
  let n := w.i
  match w.a.id with
  | 0x0200 =>
    if t.flag Attr.input_enable n = s.flag Attr.input_enable n then t
    else if t.flag Attr.input_enable n then t.startInput n else t.stopInput n
  | 0x0201 => t.afterType n
  | 0x0203 => if t.nominal n = s.nominal n then t else (t.renominal n).resettle n
  | 0x0204 => if t.nominal n = s.nominal n then t else (t.renominal n).resettle n
  | 0x0205 => if t.prediv n = s.prediv n then t else (t.renominal n).resettle n
  | 0x020A => t.newGate s w.a n
  | 0x020B => t.newGate s w.a n
  | 0x020C => t.newGate s w.a n
  | 0x0219 => t.regrade n 0
  | 0x021B => t.regrade n 0
  | 0x021C => t.regrade n 0
  | 0x021D => t.regrade n 0
  | 0x021E => t.regrade n 0
  | 0x0227 => if t.inputOn n then t.judgeFormat n else t
  | _ => t

/-- INPUT: a changed monitor threshold (0x0209 to 0x0212) also restarts a soak in progress (R101). -/
def State.setInputAttr (s : State) (w : Write) : State :=
  let t := s.inputChanged (s.written w) w
  if 0x0209 ≤ w.a.id && decide (w.a.id ≤ 0x0212) && t.attr w.a w.i != s.attr w.a w.i then t.restartSoak w.i else t

/-! ### SELECTOR and DPLL (R132, R146, R152 to R160) -/

def State.setSelector (s : State) (w : Write) : State :=
  let n := w.i
  let t := s.written w
  if w.a.id = 0x0300 then
    if t.flag Attr.selector_enable n = s.flag Attr.selector_enable n then t
    else if t.flag Attr.selector_enable n then t.selCommand s n 1
    else t.selDisable n
  else if t.flag Attr.selector_enable n then t.selCommand s n 1
  else t

/-- A change of `slope_limit` or `slew_rate` applies to the movement in progress (R159): what it has left is restated, a movement
through the word takes its new rate, and without a limit the rest is made at once (R183). -/
def State.reslope (s : State) (n : Nat) (change : State → State) : State :=
  let r := s.rebase n
  let t := change r
  let u := if (t.dpll n).moves.any (·.word) then t.reword n else t
  let free := [MoveKind.buildOut, .align, .phaseAlign, .phaseOffset, .domainSlew].filter fun k => u.slopeOf n k == 0
  match u.dropMoves n free with
  | (rest, v) => if rest = 0 then u else v.setDpll n { v.dpll n with pendNudge := (v.dpll n).pendNudge + rest }

/-- A change of `bandwidth` gives `bw_used` its value, and settles where that changes (R152, R160). -/
def State.afterBandwidth (s : State) (n : Nat) : State :=
  match s.connected n with
  | some x =>
    if s.attrN Attr.dpll_bw_used n = s.bandwidthFor n x then s
    else (s.put1 Attr.dpll_bw_used n (s.bandwidthFor n x)).settle n
  | none => s

def State.setDpllAttr (s : State) (w : Write) : State :=
  let n := w.i
  let t := s.written w
  match w.a.id with
  | 0x0401 => t.afterBandwidth n
  | 0x0403 => if t.attr Attr.dpll_damping n = s.attr Attr.dpll_damping n then t else t.settle n
  | 0x0404 => s.reslope n fun u => u.written w
  | 0x0405 =>
    match t.connected n with
    | some x => t.put1 Attr.dpll_lock_limit_used n (t.lockLimitFor n x)
    | none => t
  | _ => t

/-! ### SYN and OUTPUT (R185, R189, R191 to R195) -/

/-- A SET of a buffered attribute of a disabled synthesiser also writes the active value that it has (R195). -/
def State.activateSyn (s : State) (n id : Nat) : State :=
  match id with
  | 0x0501 => s.countSafe (s.put1 Attr.syn_dpll_active n (s.attr Attr.syn_dpll n))
  | 0x0502 => s.setRatio n (s.attrN Attr.syn_vco_num n, (s.activeRatio n).2)
  | 0x0503 => s.setRatio n ((s.activeRatio n).1, s.attrN Attr.syn_vco_den n)
  | _ => s

def State.setSynAttr (s : State) (w : Write) : State :=
  let n := w.i
  let t := s.written w
  if w.a.id = 0x0500 then
    if t.flag Attr.syn_enable n = s.flag Attr.syn_enable n then t
    else if t.flag Attr.syn_enable n then t.synOn n
    else t.synOff n
  else if t.flag Attr.syn_enable n then t
  else t.activateSyn n w.a.id

/-- A SET of a buffered attribute of a disabled output also writes the active value that it has (R195). -/
def State.activateOut (s : State) (o id : Nat) : State :=
  let x := s.pendingSetting o
  match id with
  | 0x0581 => s.setOutp o { s.outp o with pulse := x.pulse }
  | 0x0582 => s.put1 Attr.output_divider_active o x.divider
  | 0x0585 => s.setOutp o { s.outp o with num := x.num }
  | 0x0586 => s.setOutp o { s.outp o with den := x.den }
  | 0x0587 => s.setOutp o { s.outp o with width := x.width }
  | _ => s

def State.setOutputAttr (s : State) (w : Write) : State :=
  let o := w.i
  let t := s.written w
  if outBuffered w.a.id then (if t.flag Attr.output_enable o then t else t.activateOut o w.a.id)
  else
    match w.a.id with
    | 0x0580 =>
      if t.flag Attr.output_enable o = s.flag Attr.output_enable o then t
      else if !t.flag Attr.output_enable o then t.setOutp o { t.outp o with starting := false }
      else if t.synState (o / 4) = .locked then t.startOutput o else t
    | 0x0588 =>
      if (s.outp o).started ∧ (s.outp o).pulse then t.outMove o (s.attr Attr.output_pulse_offset o - t.attr Attr.output_pulse_offset o) else t
    | 0x0589 => t.moveDelay o ((t.attr Attr.output_coarse_delay o - s.attr Attr.output_coarse_delay o) * 1024)
    | 0x058A => t.moveDelay o (t.attr Attr.output_fine_phase o - s.attr Attr.output_fine_phase o)
    | 0x0594 => (s.rebaseOut o).written w
    | _ => t

/-! ### DOMAIN (R74, R80, R168) -/

def State.setDomainAttr (s : State) (w : Write) : State :=
  let d := w.i
  let t := s.written w
  match w.a.id with
  | 0x060C =>
    match s.boundDpll d with
    | some n => s.reslope n fun u => u.written w
    | none => t
  | 0x060D =>
    if s.closing d (s.domNow d) then
      s.setDom d { s.dom d with deferred := { (s.dom d).deferred with offset := some (w.val, true) } }
    else (s.setUtcOffset d w.val true).judgeLeap d
  | 0x060E => t.judgeLeap d
  | _ => t

/-! ### Generators (R213, R214, R222, R223, R229, R235, R237) -/

/-- A generator's `domain` names another domain: it leaves STOPPED, and while it runs its target moves by the difference of the
two times (R213, R235). -/
def State.afterGenDomain (s t : State) (g : Nat) : State :=
  let u := t.setGen g { t.gen g with stopped := false }
  if !(s.gen g).running then (if t.genEnabled g then u.genArm g else u)
  else if 16 ≤ g then u
  else
    let v := u.genShift g (s.genLehr g) (t.lehrTime (t.genDomain g) - s.lehrTime (s.genDomain g))
    if 14 ≤ g ∧ t.genDomain g ≠ s.genDomain g then v.jamNext (g - 14) else v

/-- A change of a rate while the generator runs (R235): the unit in progress is emitted to its end, and the first of the new rate begins
there, its error formed against the new grid (DEDUCED from R223, log entry 87); `old` is the state before. -/
def State.newRate (s old : State) (g : Nat) : State :=
  if (s.gen g).running then s.putGenLehr g (old.genLehr g) (s.gridError g (old.unitEnd g).1) else s

/-- `offset` is the ID less the base of the object. -/
def State.setGenAttr (s : State) (w : Write) (g offset : Nat) : State :=
  let t := s.written w
  match offset with
  | 0 =>
    if t.genEnabled g = s.genEnabled g then (if t.genEnabled g ∧ (s.gen g).stopped then t.genArm g else t)
    else if t.genEnabled g then t.genArm g
    else (t.genLeaves g).genEnd s g
  | 1 => s.afterGenDomain t g
  | 5 => (s.rebaseGen g).written w
  | _ =>
    match w.a.id with
    | 0x0710 =>
      if (s.gen g).running then t.setGen g { t.gen g with formatDue := true }
      else t.put1 Attr.vidgen_format_active g (t.attr Attr.vidgen_vid_format g)
    | 0x0711 =>
      if (s.gen g).running then t.genMove g ((s.attr Attr.vidgen_vid_offset g - t.attr Attr.vidgen_vid_offset g) * 65536 / 10) else t
    | 0x0750 => if t.attr Attr.audgen_aud_rate w.i = s.attr Attr.audgen_aud_rate w.i then t else t.newRate s g
    | 0x0792 => t.judgeDate g
    | 0x07D0 => t.judgeDate g
    | 0x0790 => if t.attr Attr.tcgen_tc_rate w.i = s.attr Attr.tcgen_tc_rate w.i then t else (t.newRate s g).jamNext w.i
    | 0x0791 => if t.attr Attr.tcgen_tc_timebase w.i = s.attr Attr.tcgen_tc_timebase w.i then t else t.jamNext w.i
    | 0x0793 =>
      if (s.gen g).running then t.genMove g ((s.attr Attr.tcgen_tc_offset w.i - t.attr Attr.tcgen_tc_offset w.i) * 65536 / 10) else t
    | _ => t

/-! ### PORT, TIC, FAULT and MATE (R250, R251, R292, R304, R305, R426, R461, R469) -/

def State.setPortAttr (s : State) (w : Write) : State :=
  let p := w.i
  let t := s.written w
  match w.a.id with
  | 0x0800 =>
    if t.flag Attr.port_enable p = s.flag Attr.port_enable p then t
    else if t.flag Attr.port_enable p then t.portOn p
    else ((t.linkDown p false).uncause (Ev.port p 0)).uncause (Ev.port p 1)
  | 0x0801 =>
    if t.attr Attr.port_speed p = s.attr Attr.port_speed p ∨ !t.inputOn (22 + p) then t
    else (((t.renominal (22 + p)).restartGate (22 + p)).requalify (22 + p)).resettle (22 + p)
  | _ => t

def State.setTicAttr (s : State) (w : Write) : State :=
  let n := w.i
  let t := s.written w
  let again := (t.assignRoutes).setTic n { t.tic n with settling := 2 }
  if w.a.id = 0x0900 then
    if t.flag Attr.tic_enable n = s.flag Attr.tic_enable n then t
    else if t.flag Attr.tic_enable n then t.assignRoutes.startTic n else t.assignRoutes
  else if !t.flag Attr.tic_enable n then t
  else
    match w.a.id with
    | 0x0901 => again.setTic n { again.tic n with block := { seq := (again.tic n).block.seq } }
    | 0x0902 => again
    | 0x0903 => again
    | 0x0904 => again.setTic n { again.tic n with block := { seq := (again.tic n).block.seq } }
    | 0x0905 => again
    | 0x0906 => again
    | 0x0907 => t.setTic n { t.tic n with window := 1 }
    | 0x0908 => t.setTic n { t.tic n with window := 1 }
    | 0x0909 => t.setTic n { t.tic n with fill := t.attrN Attr.tic_avg_len n }
    | 0x090A => t.setTic n { t.tic n with block := { seq := (t.tic n).block.seq } }
    | 0x090B => t.setTic n { t.tic n with block := { seq := (t.tic n).block.seq } }
    | _ => t

def State.setFaultAttr (s : State) (w : Write) : State :=
  let t := s.written w
  if w.a.id = 0x0A01 ∨ w.a.id = 0x0A02 then t.setLatch w.i { t.latch w.i with window := none } else t

def State.setMateAttr (s : State) (w : Write) : State :=
  let t := s.written w
  match w.a.id with
  | 0x0C00 =>
    if t.paired_ = s.paired_ then t
    else if t.paired_ then t.decideRole
    else (t.endTracking.dropLink 0).decideRole
  | 0x0C05 =>
    let changed (n : Nat) : Bool := bitOf (s.attrN Attr.mate_track_mask) n != bitOf (t.attrN Attr.mate_track_mask) n
    (t.forEach ((List.range 16).filter fun n => t.mate.tracking && changed n && t.flag Attr.selector_enable n) fun u n => u.selCommand s n 1).judgeTrack
  | _ => t

/-! ### SET (R349) -/

/-- What an accepted SET does: the values, and what hardware and firmware make of them. -/
def State.applySet (s : State) (w : Write) : State :=
  match w.a.obj with
  | .system => s.setSystem w
  | .input => s.setInputAttr w
  | .selector => s.setSelector w
  | .dpll => s.setDpllAttr w
  | .syn => s.setSynAttr w
  | .output => s.setOutputAttr w
  | .domain => s.setDomainAttr w
  | .vidgen => s.setGenAttr w w.i (w.a.id - 0x0700)
  | .audgen => s.setGenAttr w (8 + w.i) (w.a.id - 0x0740)
  | .tcgen => s.setGenAttr w (14 + w.i) (w.a.id - 0x0780)
  | .todgen => s.setGenAttr w (16 + w.i) (w.a.id - 0x07C0)
  | .port => s.setPortAttr w
  | .session => s
  | .tic => s.setTicAttr w
  | .fault => s.setFaultAttr w
  | .store => s.written w
  | .mate => s.setMateAttr w

/-- The right that a SET needs (R363): a DOMAIN attribute may be written by the owner client. -/
def writeRight (a : Option AttrDesc) (i : Nat) : Right :=
  match a with
  | some a => if a.obj = .domain then .domainOwner i else .owner0
  | none => .owner0

/-- SET (R349): every element is checked before any is written. A value whose length is not the run's is no SET of R342. -/
def execSet (who : Issuer) (inst attr first count : Nat) (value : List Byte) (s : State) : Host.Outcome State Fault Refusal :=
  .next (match Attr.find attr with
    | none =>
      s.doAct who { opcode := 0x00F1, inst := inst, attr := attr, refusals := [(true, E_ATTR)] } fun t => t
    | some a =>
      let raw := elemsOf a count value
      let w : Write := { a := a, i := inst, first := first, vals := keptRun a first raw }
      s.doAct who
        { opcode := 0x00F1, inst := inst, attr := attr, right := writeRight (some a) inst
          refusals := (value.length != count * a.bytes, E_LENGTH) :: s.setRefusals a w count raw }
        fun t => t.applySet w)

/-! ### GET and BULK_GET (R348, R350) -/

/-- GET (R348). -/
def execGet (who : Issuer) (inst attr first count : Nat) (buf : HostBuf) (s : State) : Host.Outcome State Fault Refusal :=
  let a := Attr.find attr
  let run := a.bind fun d => d.runOf first count
  let size := match a with
    | some d => run.getD 0 * d.bytes
    | none => 0
  .next (s.act who
    { opcode := 0x00F0, inst := inst, attr := attr, safeTalk := safeRead a, right := s.readRight a inst
      reachable := buf.addr == 0 || bufOk who buf size
      refusals := [(a.isNone, E_ATTR),
        (run.isNone || (match a with
          | some d => decide (d.obj.instances ≤ inst)
          | none => false), E_RANGE),
        (if buf.addr = 0 then decide (16 < size) else decide (buf.len < size), E_BUFFER),
        ((match a with
          | some d => s.readState d inst
          | none => false), E_STATE)] }
    fun t =>
      match a with
      | some d =>
        let v := t.readRun d inst first (run.getD 0)
        if buf.addr = 0 then t.finish who 0x00F0 0 inst v
        else (t.writeResult who buf v).finish who 0x00F0 0 inst [] (some size)
      | none => t)

/-- One item of a BULK_GET: its status and its value. -/
def State.bulkItem (s : State) (who : Issuer) (inst attr : Nat) : Nat × List Byte :=
  let a := Attr.find attr
  if !s.permits who (s.readRight a inst) then (E_DENIED, [])
  else match a with
    | none => (E_ATTR, [])
    | some d =>
      if d.obj.instances ≤ inst then (E_RANGE, [])
      else if s.readState d inst then (E_STATE, [])
      else (0, s.readRun d inst 0 d.count)

/-- The result of one item: status, length, value, and padding to 8 bytes. -/
def bulkBytes (r : Nat × List Byte) : List Byte :=
  bytesLE 2 r.1 ++ bytesLE 2 r.2.length ++ r.2 ++ List.replicate ((8 - (4 + r.2.length) % 8) % 8) 0

/-- BULK_GET (R350). -/
def execBulkGet (who : Issuer) (buf : HostBuf) (items : List (Nat × Nat)) (s : State) : Host.Outcome State Fault Refusal :=
  let out := items.flatMap fun e => bulkBytes (s.bulkItem who e.1 e.2)
  .next (s.act who
    { opcode := 0x00F2, right := .anyone, safeTalk := items.all fun e => safeRead (Attr.find e.2)
      reachable := bufOk who buf out.length
      refusals := [(items.isEmpty || decide (256 < items.length), E_RANGE), (decide (buf.len < out.length), E_BUFFER)] }
    fun t => (t.writeResult who buf out).finish who 0x00F2 0 0)

/-! ### SUBSCRIBE (R361) -/

/-- Sets or clears the bits `first` to `first + count − 1` of a word. -/
def setBits (v first count : Nat) (on : Bool) : Nat :=
  let mask := (2 ^ count - 1) * 2 ^ first
  if on then v ||| mask else v ^^^ (v &&& mask)

/-- SUBSCRIBE (R361): client 0 receives every event whatever it subscribes. -/
def execSubscribe (who : Issuer) (first count on : Nat) (s : State) : Host.Outcome State Fault Refusal :=
  .next (s.doAct who
    { opcode := 0x00F3, right := .anyone
      refusals := [(count == 0 || decide (640 < first + count) || decide (1 < on), E_RANGE)] }
    fun t =>
      let c := issuerClient who
      if c = 0 then t
      else { t with faults := { t.faults with subs := tblSet t.faults.subs 0 c (setBits (tblGet t.faults.subs 0 c) first count (on == 1)) } })

end Sys2Proof.Machine
end

