-- ==== Sys2Proof/Machine/Names.lean ====
section
/-! DEFINITION. The attribute names by which the console names attributes (R339), in capitals, with their IDs; one list for each
object of R344. -/

namespace Sys2Proof.Machine

/-- Attributes of SYSTEM. -/
def namesSystem : List (Nat × String) :=
  [(0x0100, "VARIANT"), (0x0101, "SOC_STEPPING"), (0x0102, "SERIAL"), (0x0103, "HOLAX_VERSION"), (0x0104, "BATT_VERSION"),
    (0x0105, "ACTIVE_SLOT"), (0x0106, "BOOT_SLOT"), (0x0107, "SLOT_VALID"), (0x0108, "SLOT_VERSIONS"), (0x0109, "COMPAT_ID"),
    (0x010A, "FW_UPDATE"), (0x010B, "POWER_STATE"), (0x010C, "FACTORY_MODE"), (0x0140, "OSC_STATE"), (0x0141, "OSC_WEIGHT"),
    (0x0142, "OSC_FREQ_OFFSET"), (0x0143, "OSC_TEMP"), (0x0144, "LEAD_OSC"), (0x0145, "EXT_INPUT"), (0x0146, "EXT_WEIGHT_CAP"),
    (0x0147, "OUTVOTE_FREQ_LIMIT"), (0x0148, "OUTVOTE_STEP_LIMIT"), (0x0149, "READMIT_MODE"), (0x014A, "LEARN_DPLL"),
    (0x014B, "LEARN_GRADE_MAX"), (0x014C, "AGE_BASE"), (0x014D, "TEMPCO_BASE"), (0x014E, "AGE_LEARNED"),
    (0x014F, "TEMPCO_LEARNED"), (0x0150, "LEARN_STATE"), (0x0151, "OUTVOTE_COUNT"), (0x0152, "CLOSURE_ERROR"),
    (0x0153, "ROOT_LOCKED"), (0x0160, "LOCKA0_SET"), (0x0161, "LOCKA1_SET"), (0x0180, "CLIENT_ALLOW"),
    (0x0181, "CLIENT_TAG_LIMIT"), (0x0182, "CLIENT_VECTOR"), (0x0183, "CLIENT_COUNTER_MAP"), (0x0184, "TAG_POOL")] ++
  [(0x0185, "POOL_WAITS"), (0x0186, "CRC_FAILURES"), (0x0187, "CMD_MEAN_SERVICE"), (0x0188, "SPI_ERRORS"),
    (0x0189, "CONSOLE_OVERRUNS"), (0x01A0, "CODE_STRENGTH"), (0x01A1, "CODE_STRENGTH_ACTIVE"), (0x01A2, "FULLER_PERIOD"),
    (0x01A3, "FULLER_POSITION"), (0x01A4, "FULLER_PASSES"), (0x01A5, "RETIRE_LIMIT"), (0x01A6, "CE_COUNTS"),
    (0x01A7, "CE_UNLOGGED"), (0x01A8, "READ_RETRIES"), (0x01A9, "POISONED"), (0x01AA, "CE_LOG"), (0x01AB, "CULLET"),
    (0x01AC, "SPARE_STATE"), (0x01AD, "CACHE_SLOTS"), (0x01AE, "CACHE_COUNTS"), (0x01AF, "TW_DISCARDS"), (0x01B0, "INIT_TIME"),
    (0x01C0, "WARMUP_OUTPUTS"), (0x01C1, "WARMUP_STATE"), (0x01C2, "WARMUP_ELAPSED"), (0x01C3, "RESET_CAUSE"),
    (0x01C4, "BOOT_STEP_TIME"), (0x01C5, "BOOT_FALLBACK"), (0x01C6, "GAFFER_RESTARTS"), (0x01C7, "CONFIG_REJECTS"),
    (0x01D0, "ENGINES_IN_SERVICE"), (0x01D1, "CLUSTER_STATE"), (0x01D2, "REPAIR_RECORDS"), (0x01D3, "STAMP_SPARES_FREE"),
    (0x01D4, "REBALANCES"), (0x01E0, "PMC_SELECT"), (0x01E1, "PMC_ADDR"), (0x01E2, "PMC_SAMPLE_PERIOD"),
    (0x01E3, "PMC_OVF_CLEAR"), (0x01E4, "PMC_SAMPLES")] ++
  [(0x01E5, "PMC_SAMPLE_COUNT")]

/-- Attributes of INPUT. -/
def namesInput : List (Nat × String) :=
  [(0x0200, "ENABLE"), (0x0201, "INPUT_TYPE"), (0x0202, "IO_TYPE"), (0x0203, "NOMINAL_NUM"), (0x0204, "NOMINAL_DEN"),
    (0x0205, "PREDIV"), (0x0206, "PREDIV_USED"), (0x0207, "EDGE"), (0x0208, "INPUT_DELAY"), (0x0209, "LOS_EDGES"),
    (0x020A, "FREQ_ENTER"), (0x020B, "FREQ_LEAVE"), (0x020C, "FREQ_GATE"), (0x020D, "PHASE_JUMP_LIMIT"), (0x020E, "TIE_WINDOW"),
    (0x020F, "TIE_LIMIT"), (0x0210, "DRIFT_LIMIT"), (0x0211, "DRIFT_TIME"), (0x0212, "DRIFT_HORIZON"), (0x0213, "SOAK_TIME"),
    (0x0214, "QUAL_STATE"), (0x0215, "QUAL_FLAGS"), (0x0216, "FREQ_OFFSET"), (0x0217, "FREQ_TREND"), (0x0218, "GRADE"),
    (0x0219, "GRADE_SOURCE"), (0x021A, "SSM_OPTION"), (0x021B, "ASSIGNED_GRADE"), (0x021C, "GRADE_OVERRIDE"),
    (0x021D, "MSG_TIMEOUT"), (0x021E, "MSG_LOST_GRADE"), (0x021F, "SSM_RX"), (0x0220, "ESSM_RX"), (0x0221, "ESSM_CASCADE"),
    (0x0222, "TOD_RX"), (0x0223, "TOD_PROTOCOL"), (0x0224, "TOD_BAUD"), (0x0225, "TOD_LABEL"), (0x0226, "TIME_DOMAIN"),
    (0x0227, "VSYNC_EXPECT")] ++
  [(0x0228, "VSYNC_FORMAT"), (0x0229, "LTC_DATE_MODE"), (0x022A, "LTC_TIMEBASE"), (0x022B, "LTC_DISCARD_N"),
    (0x022C, "LTC_DISCARD_W"), (0x022D, "LTC_RATE"), (0x022E, "RX_ERRORS"), (0x022F, "STAMPS")]

/-- Attributes of SELECTOR. -/
def namesSelector : List (Nat × String) :=
  [(0x0300, "ENABLE"), (0x0301, "CANDIDATES"), (0x0302, "CAND_COUNT"), (0x0303, "REVERTIVE"), (0x0304, "WTR_TIME"),
    (0x0305, "HOLD_OFF"), (0x0306, "SELECT_MODE"), (0x0307, "SELECT_TARGET"), (0x0308, "PREEMPT_DRIFT"), (0x0309, "SWITCH_MODE"),
    (0x030A, "TIME_ALIGN"), (0x030B, "WTR_BYPASS"), (0x030C, "MIN_GRADE"), (0x030D, "SEL_STATE"), (0x030E, "SELECTED"),
    (0x030F, "CAND_STATUS"), (0x0310, "WTR_REMAINING"), (0x0311, "BUILDOUT_PHASE"), (0x0312, "SWITCH_COUNT"),
    (0x0313, "LAST_SWITCH")]

/-- Attributes of DPLL. -/
def namesDpll : List (Nat × String) :=
  [(0x0400, "DPLL_STATE"), (0x0401, "BANDWIDTH"), (0x0402, "BW_USED"), (0x0403, "DAMPING"), (0x0404, "SLOPE_LIMIT"),
    (0x0405, "LOCK_LIMIT"), (0x0406, "LOCK_LIMIT_USED"), (0x0407, "LOCK_FREQ_LIMIT"), (0x0408, "LOCK_TIME"),
    (0x0409, "PHASE_ERROR"), (0x040A, "FREQ_WORD"), (0x040B, "SETTLING"), (0x040C, "PD_RATE"), (0x040D, "HAS_LOCKED"),
    (0x040E, "PHASE_OFFSET"), (0x040F, "ALIGN_REMAINING"), (0x0410, "HO_WINDOW"), (0x0411, "HO_GUARD"), (0x0412, "HO_BUDGET"),
    (0x0413, "HO_READY"), (0x0414, "HO_USABLE"), (0x0415, "HO_FREQ"), (0x0416, "HO_TE_COEFF"), (0x0417, "HO_TE_EST"),
    (0x0418, "HO_ELAPSED"), (0x0419, "LEDGER_GAPS"), (0x041A, "STATE_SINCE")]

/-- Attributes of SYN. -/
def namesSyn : List (Nat × String) :=
  [(0x0500, "SYN_ENABLE"), (0x0501, "DPLL"), (0x0502, "VCO_NUM"), (0x0503, "VCO_DEN"), (0x0504, "DPLL_ACTIVE"),
    (0x0505, "VCO_ACTIVE"), (0x0506, "SYN_STATE"), (0x0507, "TUNE_MARGIN"), (0x0508, "TAP_USERS"), (0x0509, "COMMIT_SLOTS"),
    (0x050A, "COMMIT_LATE"), (0x050B, "RETUNES")]

/-- Attributes of OUTPUT. -/
def namesOutput : List (Nat × String) :=
  [(0x0580, "ENABLE"), (0x0581, "OUT_MODE"), (0x0582, "DIVIDER"), (0x0583, "DIVIDER_ACTIVE"), (0x0584, "FREQ_ACTIVE"),
    (0x0585, "PULSE_NUM"), (0x0586, "PULSE_DEN"), (0x0587, "PULSE_WIDTH"), (0x0588, "PULSE_OFFSET"), (0x0589, "COARSE_DELAY"),
    (0x058A, "FINE_PHASE"), (0x058B, "PHASE_REMAINING"), (0x058C, "DRIVER"), (0x058D, "CMOS_POLARITY"), (0x058E, "SAFE_ACTION"),
    (0x058F, "RUN_COND"), (0x0590, "OUT_STATE"), (0x0591, "ALIGNED"), (0x0592, "DRIVER_FAULT"), (0x0593, "SAFE_ENTRIES"),
    (0x0594, "LEHR_RATE"), (0x0595, "LEHR_STATE"), (0x0596, "LEHR_REMAINING"), (0x0597, "LEHR_ETA"), (0x0598, "LEHR_MOVES")]

/-- Attributes of DOMAIN. -/
def namesDomain : List (Nat × String) :=
  [(0x0600, "STATE"), (0x0601, "OWNER_CLIENT"), (0x0602, "TIMESCALE"), (0x0603, "BOUND_DPLL"), (0x0604, "SERVO_MODE"),
    (0x0605, "TIME_STATUS"), (0x0606, "TIME_NOW"), (0x0607, "OFFSET_WORD"), (0x0608, "ANCHOR"), (0x0609, "PERIOD_WORD"),
    (0x060A, "FREQ_ADJ"), (0x060B, "SLEW_REMAINING"), (0x060C, "SLEW_RATE"), (0x060D, "UTC_OFFSET"), (0x060E, "UTC_SOURCE"),
    (0x060F, "LEAP_STATE"), (0x0610, "LEAP_DAY"), (0x0611, "LEAP_ORIGIN"), (0x0612, "LEAP_DISAGREE"), (0x0613, "QUALITY_MODE"),
    (0x0614, "CLOCK_CLASS"), (0x0615, "CLOCK_ACCURACY"), (0x0616, "CLOCK_VARIANCE"), (0x0617, "TIME_SOURCE"),
    (0x0618, "TZ_BASE_OFFSET"), (0x0619, "TZ_BASE_DST"), (0x061A, "TZ_BASE_CODE"), (0x061B, "TZ_TABLE"), (0x061C, "TZ_COUNT"),
    (0x061D, "LOCAL_OFFSET_NOW"), (0x061E, "DATE_VALID"), (0x061F, "UPDATE_REFUSALS"), (0x0620, "STEPS")]

/-- Attributes of VIDGEN. -/
def namesVidgen : List (Nat × String) :=
  [(0x0700, "ENABLE"), (0x0701, "DOMAIN"), (0x0702, "RUN_COND"), (0x0703, "START_COND"), (0x0704, "GEN_STATE"),
    (0x0705, "LEHR_RATE"), (0x0706, "LEHR_STATE"), (0x0707, "LEHR_REMAINING"), (0x0708, "LEHR_ETA"), (0x0709, "LEHR_MOVES"),
    (0x0710, "VID_FORMAT"), (0x0711, "VID_OFFSET"), (0x0712, "BB_SETUP"), (0x0713, "TENFIELD_ID"), (0x0714, "FORMAT_ACTIVE"),
    (0x0715, "OUT_FAULT")]

/-- Attributes of AUDGEN. -/
def namesAudgen : List (Nat × String) :=
  [(0x0750, "AUD_RATE"), (0x0751, "AES_TOD_CODE"), (0x0752, "AES_GRADE"), (0x0753, "OUT_FAULT")]

/-- Attributes of TCGEN. -/
def namesTcgen : List (Nat × String) :=
  [(0x0790, "TC_RATE"), (0x0791, "TC_TIMEBASE"), (0x0792, "TC_DATE"), (0x0793, "TC_OFFSET"), (0x0794, "JAM_TIME"),
    (0x0795, "LEAP_FLAG"), (0x0796, "TC_ADDRESS"), (0x0797, "TC_DATE_NOW"), (0x0798, "JAM_COUNT"), (0x0799, "JAM_LAST_DELTA"),
    (0x079A, "OUT_FAULT")]

/-- Attributes of TODGEN. -/
def namesTodgen : List (Nat × String) :=
  [(0x07D0, "TOD_TX_PROTOCOL"), (0x07D1, "TOD_TX_BAUD"), (0x07D2, "TOD_COMPANION"), (0x07D3, "TOD_TX_LABEL"),
    (0x07D4, "TOD_TX_DELAY"), (0x07D5, "TOD_QUIET_LIMIT"), (0x07D6, "TOD_TX_STATE"), (0x07D7, "TOD_TX_COUNT"),
    (0x07D8, "OUT_FAULT")]

/-- Attributes of PORT. -/
def namesPort : List (Nat × String) :=
  [(0x0800, "ENABLE"), (0x0801, "SPEED"), (0x0802, "FEC"), (0x0803, "LINK_STATE"), (0x0804, "TC_PAIR"), (0x0805, "REF_SYN"),
    (0x0806, "MAC_ADDR"), (0x0807, "IPV4_ADDR"), (0x0808, "IPV4_PREFIX"), (0x0809, "IPV4_GATEWAY"), (0x080A, "IPV6_ADDR"),
    (0x080B, "IPV6_GATEWAY"), (0x080C, "VLAN_ID"), (0x080D, "VLAN_PCP"), (0x080E, "DSCP"), (0x080F, "RX_LATENCY_FACT"),
    (0x0810, "TX_LATENCY_FACT"), (0x0811, "EXT_RX_DELAY"), (0x0812, "EXT_TX_DELAY"), (0x0813, "DELAY_ASYMMETRY"),
    (0x0814, "BINDINGS"), (0x0815, "BINDING_STATE"), (0x0816, "GRANT_BUDGET"), (0x0817, "GRANTED_RATE"),
    (0x0818, "EVENT_CAPACITY"), (0x0819, "MCAST_BUDGET"), (0x081A, "GRANT_REFUSALS"), (0x081B, "STATELESS_DROPS"),
    (0x081C, "CREDITS"), (0x081D, "HOST_CREDIT_LIMIT"), (0x081E, "LATE_LAUNCHES"), (0x081F, "TX_DROPS"),
    (0x0820, "TRANSIT_DROPS"), (0x0821, "TRANSIT_UNCORRECTED"), (0x0822, "RX_IGNORED"), (0x0823, "AUTH_FAIL"),
    (0x0824, "KEY_SLOTS"), (0x0825, "ESMC_ENABLE"), (0x0826, "ESMC_OPTION"), (0x0827, "ESMC_EXTENDED")] ++
  [(0x0828, "ESMC_OVERRIDE"), (0x0829, "ESMC_TX_QL"), (0x082A, "HOSTQ")]

/-- Attributes of SESSION. -/
def namesSession : List (Nat × String) :=
  [(0x0880, "SESS_STATE"), (0x0881, "SESS_ROLE"), (0x0882, "SESS_BINDING"), (0x0883, "PARTNER_ADDR"),
    (0x0884, "PARTNER_PORT_ID"), (0x0885, "GRANT_LOG"), (0x0886, "GRANT_REMAINING"), (0x0887, "SESS_COST"), (0x0888, "TX_MSGS"),
    (0x0889, "RX_MSGS"), (0x088A, "RX_LOST"), (0x088B, "RETRIES"), (0x088C, "LATE_COMPLETIONS"), (0x088D, "GRANTS_EXHAUSTED"),
    (0x088E, "REFUSALS_RX"), (0x088F, "SESS_ENGINE"), (0x0890, "OFFSET_FROM_MASTER"), (0x0891, "MEAN_PATH_DELAY")]

/-- Attributes of TIC. -/
def namesTic : List (Nat × String) :=
  [(0x0900, "ENABLE"), (0x0901, "TIC_MODE"), (0x0902, "SRC_A"), (0x0903, "SRC_B"), (0x0904, "TIC_TIMEBASE"),
    (0x0905, "NOMINAL_NUM"), (0x0906, "NOMINAL_DEN"), (0x0907, "WIN_OPEN"), (0x0908, "WIN_CLOSE"), (0x0909, "AVG_LEN"),
    (0x090A, "STAT_LEN"), (0x090B, "STAT_INCLUDE"), (0x090C, "TIC_STATE"), (0x090D, "STAT_RESULT"), (0x090E, "LAST_SAMPLE"),
    (0x090F, "SAMPLES"), (0x0910, "STOPS_OUTSIDE"), (0x0911, "STARTS_UNMATCHED"), (0x0912, "STAMPS_MISSED"),
    (0x0913, "FREE_USED")]

/-- Attributes of FAULT. -/
def namesFault : List (Nat × String) :=
  [(0x0A00, "BASE_CLASS"), (0x0A01, "COUNT_N"), (0x0A02, "COUNT_W"), (0x0A03, "ESCALATE"), (0x0A04, "FAULT_STATE"),
    (0x0A05, "FAULT_COUNT"), (0x0A06, "LAST_LATCH"), (0x0A07, "SCOPE"), (0x0A10, "INT_CLASS"), (0x0A11, "DOMAIN_POLICY"),
    (0x0A12, "CTRL_LOSS_TIMEOUT"), (0x0A13, "ALIVE_STATE"), (0x0A14, "SEVERE_LATCHED"), (0x0A15, "INJECT_PENDING")]

/-- Attributes of STORE. -/
def namesStore : List (Nat × String) :=
  [(0x0B00, "STORE_STATE"), (0x0B01, "PAGE_STATE"), (0x0B02, "DIRTY_COUNT"), (0x0B03, "DIRTY_LIMIT"), (0x0B04, "HOLDUP_MS"),
    (0x0B05, "STORE_DELAY"), (0x0B06, "DIRTY_WAITS"), (0x0B07, "LAST_TXN"), (0x0B08, "PF_LAST"), (0x0B09, "ROLLBACKS"),
    (0x0B0A, "STORE_WEAR"), (0x0B0B, "FLASH_SPARES_FREE"), (0x0B0C, "POWER_CYCLES"), (0x0B0D, "OVEN_HOURS")]

/-- Attributes of MATE. -/
def namesMate : List (Nat × String) :=
  [(0x0C00, "MATE_MODE"), (0x0C01, "ROLE"), (0x0C02, "ROLE_PRI"), (0x0C03, "MATE_LINK_STATE"), (0x0C04, "COPY_STATE"),
    (0x0C05, "TRACK_MASK"), (0x0C06, "TRACK_STATE"), (0x0C07, "TRACK_ERROR"), (0x0C08, "SNAP_EPOCH"), (0x0C09, "SNAP_AGE"),
    (0x0C0A, "SNAP_MAX_AGE"), (0x0C0B, "SNAP_DISCARDS"), (0x0C0C, "LINK_ERRORS"), (0x0C0D, "LINK_ERR_LIMIT"),
    (0x0C0E, "MATE_CLK_DELAY"), (0x0C0F, "SLEEP_STATE"), (0x0C10, "TAKEOVERS"), (0x0C11, "LAST_TAKEOVER"),
    (0x0C12, "MATE_VERSIONS")]

/-- The objects that the console names (R339, R344). -/
def objectNames : List (String × Obj) :=
  [("SYSTEM", .system), ("INPUT", .input), ("SELECTOR", .selector), ("DPLL", .dpll), ("SYN", .syn), ("OUTPUT", .output),
    ("DOMAIN", .domain), ("VIDGEN", .vidgen), ("AUDGEN", .audgen), ("TCGEN", .tcgen), ("TODGEN", .todgen), ("PORT", .port),
    ("SESSION", .session), ("TIC", .tic), ("FAULT", .fault), ("STORE", .store), ("MATE", .mate)]

/-- The attribute names of an object. -/
def Obj.names : Obj → List (Nat × String)
  | .system => namesSystem
  | .input => namesInput
  | .selector => namesSelector
  | .dpll => namesDpll
  | .syn => namesSyn
  | .output => namesOutput
  | .domain => namesDomain
  | .vidgen => namesVidgen
  | .audgen => namesAudgen
  | .tcgen => namesTcgen
  | .todgen => namesTodgen
  | .port => namesPort
  | .session => namesSession
  | .tic => namesTic
  | .fault => namesFault
  | .store => namesStore
  | .mate => namesMate

/-- The ID of an object's attribute by its name. -/
def Obj.attrNamed (o : Obj) (name : String) : Option Nat := (o.names.find? fun e => e.2 == name).map (·.1)

end Sys2Proof.Machine
end

