-- ==== Sys2Proof/Machine/Console.lean ====
section
/-! DEFINITION. The console (R339): its characters, its lines, and the actions that a line issues with the field names of their payload
tables (R77, R148, R179, R208, R247, R287, R309, R351, R357). What the rule leaves open of the syntax stands in log entry 26. -/

namespace Sys2Proof.Machine

/-! ### Words and values -/

/-- A character in capitals. -/
def upperCode (c : Nat) : Nat := if 97 ≤ c ∧ c ≤ 122 then c - 32 else c

/-- The words of a line, in capitals. -/
def wordsOf : List Nat → List Nat → List (List Nat)
  | [], w => if w.isEmpty then [] else [w]
  | c :: cs, w => if c = 32 then (if w.isEmpty then wordsOf cs [] else w :: wordsOf cs []) else wordsOf cs (w ++ [upperCode c])

/-- A word as text. -/
def textOf (w : List Nat) : String := String.ofList (w.map Char.ofNat)

/-- What stands before and after the first `=` of a word. -/
def splitEq : List Nat → Option (List Nat × List Nat)
  | [] => none
  | c :: cs => if c = 61 then some ([], cs) else (splitEq cs).map fun r => (c :: r.1, r.2)

/-- Digits in a base. -/
def digitsOf (base : Nat) : Nat → List Nat → Option Nat
  | n, [] => some n
  | n, c :: cs =>
    let d := if 48 ≤ c ∧ c ≤ 57 then c - 48 else if 65 ≤ c ∧ c ≤ 70 then c - 55 else 99
    if d < base then digitsOf base (n * base + d) cs else none

/-- A number without a sign: decimal, or hexadecimal with 0x. -/
def unsignedOf (w : List Nat) : Option Nat :=
  match w with
  | [] => none
  | 48 :: 88 :: ds => if ds.isEmpty then none else digitsOf 16 0 ds
  | ds => digitsOf 10 0 ds

/-- A value (R339). -/
def valueOf (w : List Nat) : Option Int :=
  match w with
  | 45 :: ds => (unsignedOf ds).map fun n => -(n : Int)
  | 43 :: ds => (unsignedOf ds).map fun n => (n : Int)
  | ds => (unsignedOf ds).map fun n => (n : Int)

/-! ### Actions and their fields -/

/-- A field of a payload: its name, its size in bytes, whether it is signed. -/
structure FieldSpec where
  name : String
  bytes : Nat
  signed : Bool := false

/-- The fields of one size. -/
def fieldsOf (bytes : Nat) (names : List String) : List FieldSpec := names.map fun n => { name := n, bytes := bytes }

/-- The payload fields of each action, pads and pointers aside; a field that a payload repeats may be given more than once. -/
def actionFields : List (String × List FieldSpec) :=
  [("SYSTEM.OSC_READMIT", fieldsOf 1 ["MEMBER"]), ("SYSTEM.OSC_EXCLUDE", fieldsOf 1 ["MEMBER"]), ("SYSTEM.WARM_RESET", []),
    ("SYSTEM.REBOOT", fieldsOf 1 ["SLOT"]), ("SYSTEM.RESTORE_FACTORY", fieldsOf 4 ["CONFIRM"]),
    ("SYSTEM.FW_BEGIN", fieldsOf 1 ["SLOT"] ++ fieldsOf 4 ["TOTAL"]),
    ("SYSTEM.FW_WRITE", fieldsOf 4 ["OFFSET"] ++ fieldsOf 2 ["LENGTH"]),
    ("SYSTEM.FW_FINISH", fieldsOf 1 ["SLOT"] ++ fieldsOf 4 ["CRC"]), ("SYSTEM.FW_ACTIVATE", fieldsOf 1 ["SLOT"]),
    ("SYSTEM.SELF_TEST_REPORT", []), ("SYSTEM.LOG_READ", fieldsOf 1 ["LOG"] ++ fieldsOf 2 ["COUNT"] ++ fieldsOf 8 ["FIRST"]),
    ("SYSTEM.TIME_READ", fieldsOf 1 ["COUNT"] ++ fieldsOf 2 ["DOMAIN"]), ("SYSTEM.SET_POWER", fieldsOf 1 ["STATE"]),
    ("SYSTEM.FACTORY_ENTER", fieldsOf 16 ["TOKEN"])] ++
  [("SELECTOR.SET_CANDIDATES", fieldsOf 1 ["SELECTOR", "COUNT"] ++ fieldsOf 4 ["ENTRY"]),
    ("SELECTOR.SELECT", fieldsOf 1 ["SELECTOR", "MODE", "INDEX"]), ("SELECTOR.LOCKOUT", fieldsOf 1 ["SELECTOR", "INDEX", "ON"]),
    ("SELECTOR.CLEAR_WTR", fieldsOf 1 ["SELECTOR", "INDEX"]), ("SELECTOR.ALIGN", fieldsOf 1 ["SELECTOR"]),
    ("DPLL.OPEN", fieldsOf 1 ["DPLL"]), ("DPLL.CLOSE", fieldsOf 1 ["DPLL"]),
    ("DPLL.SET_FREQ", fieldsOf 1 ["DPLL"] ++ [{ name := "WORD", bytes := 8, signed := true }]),
    ("DPLL.NUDGE_PHASE", fieldsOf 1 ["DPLL"] ++ [{ name := "INTERVAL", bytes := 8, signed := true }]),
    ("DPLL.RESET_HISTORY", fieldsOf 1 ["DPLL"]),
    ("SYN.COMMIT", fieldsOf 1 ["SLOT", "TRIGGER", "EDGE_OUTPUT", "SYN_MASK"] ++ fieldsOf 4 ["OUT_MASK"] ++ fieldsOf 2 ["DOMAIN"] ++
      fieldsOf 16 ["TIME"]),
    ("SYN.CANCEL", fieldsOf 1 ["SLOT"]), ("SYN.RETUNE", fieldsOf 1 ["SYN"])] ++
  [("DOMAIN.CREATE", fieldsOf 2 ["DOMAIN", "SOURCE"] ++ fieldsOf 1 ["TIMESCALE"]), ("DOMAIN.DELETE", fieldsOf 2 ["DOMAIN"]),
    ("DOMAIN.ASSIGN", fieldsOf 2 ["DOMAIN", "CLIENT"]), ("DOMAIN.BIND", fieldsOf 2 ["DOMAIN"] ++ fieldsOf 1 ["DPLL"]),
    ("DOMAIN.UNBIND", fieldsOf 2 ["DOMAIN"] ++ fieldsOf 1 ["DPLL"]), ("DOMAIN.SET_TIME", fieldsOf 2 ["DOMAIN"] ++ fieldsOf 16 ["TIME"]),
    ("DOMAIN.SET_CALENDAR", fieldsOf 2 ["DOMAIN", "YEAR"] ++ fieldsOf 1 ["MONTH", "DAY", "HOUR", "MINUTE", "SECOND"] ++
      fieldsOf 4 ["NANOSECONDS"]),
    ("DOMAIN.ADJ_FREQ", fieldsOf 2 ["DOMAIN"] ++ [{ name := "PPT", bytes := 4, signed := true }]),
    ("DOMAIN.ADJ_PHASE", fieldsOf 2 ["DOMAIN"] ++ fieldsOf 1 ["MODE"] ++ [{ name := "INTERVAL", bytes := 8, signed := true }]),
    ("DOMAIN.SCHEDULE_LEAP", fieldsOf 2 ["DOMAIN", "YEAR"] ++ fieldsOf 1 ["MONTH", "DAY", "KIND"]),
    ("DOMAIN.SET_TZ", fieldsOf 2 ["DOMAIN"] ++ fieldsOf 1 ["COUNT"] ++ fieldsOf 16 ["ENTRY"]), ("DOMAIN.RESET", fieldsOf 2 ["DOMAIN"])] ++
  [("VIDGEN.DO_STEP", fieldsOf 1 ["INSTANCE"]), ("AUDGEN.DO_STEP", fieldsOf 1 ["INSTANCE"]), ("TCGEN.DO_STEP", fieldsOf 1 ["INSTANCE"]),
    ("OUTPUT.DO_STEP", fieldsOf 1 ["OUTPUT"]), ("TCGEN.JAM", fieldsOf 1 ["TCGEN"]),
    ("PORT.BIND", fieldsOf 1 ["PORT", "SLOT"] ++ fieldsOf 32 ["ENTRY"]), ("PORT.UNBIND", fieldsOf 1 ["PORT", "SLOT"]),
    ("PORT.LOAD_KEY", fieldsOf 1 ["SLOT", "SPP", "ICV_LEN"] ++ fieldsOf 4 ["KEY_ID"] ++ fieldsOf 32 ["KEY"]),
    ("PORT.ERASE_KEY", fieldsOf 1 ["SLOT"]), ("PORT.HOSTQ", fieldsOf 1 ["QUEUE", "PORT", "POLICY"] ++ fieldsOf 2 ["CLIENT"]),
    ("PORT.SEND", fieldsOf 1 ["QUEUE", "FLAGS"] ++ fieldsOf 2 ["TS_OFFSET", "DOMAIN", "LENGTH"] ++ fieldsOf 16 ["LAUNCH"]),
    ("TIC.RESTART", fieldsOf 1 ["TIC"]), ("TIC.READ", fieldsOf 1 ["TIC"] ++ fieldsOf 2 ["COUNT"] ++ fieldsOf 8 ["FIRST"])] ++
  [("FAULT.ACK", fieldsOf 2 ["SOURCE"]), ("FAULT.CLEAR", fieldsOf 2 ["SOURCE"]),
    ("FAULT.INJECT", fieldsOf 1 ["CHECKER", "BITS"] ++ fieldsOf 4 ["TARGET"]), ("FAULT.LIST", fieldsOf 2 ["FIRST", "COUNT"]),
    ("STORE.COMMIT", fieldsOf 2 ["FIRST", "COUNT"]), ("MATE.CHANGEOVER", []), ("MATE.SLEEP", []), ("MATE.WAKE", []),
    ("MATE.LINK_RESET", []), ("SESSION.OPEN", fieldsOf 1 ["PORT", "SLOT", "ADDR_TYPE"] ++ fieldsOf 16 ["ADDRESS"]),
    ("SESSION.CLOSE", fieldsOf 2 ["SESSION"])]

/-- Whether a value fits its field. -/
def FieldSpec.fits (f : FieldSpec) (v : Int) : Bool :=
  if f.signed then decide (-(2 ^ (8 * f.bytes - 1) : Nat) ≤ v) && decide (v < (2 ^ (8 * f.bytes - 1) : Nat))
  else decide (0 ≤ v) && decide (v < (2 ^ (8 * f.bytes) : Nat))

/-- The fields of a line: none where a word is no field of the action, or a value does not fit. -/
def readFields (specs : List FieldSpec) : List (List Nat) → Option (List (String × Int))
  | [] => some []
  | w :: ws =>
    match splitEq w with
    | none => none
    | some (n, x) =>
      match specs.find? (fun f => f.name == textOf n), valueOf x, readFields specs ws with
      | some f, some v, some rest => if f.fits v then some ((f.name, v) :: rest) else none
      | _, _, _ => none

/-- The value of a field, 0 where the line does not give it. -/
def fieldValue (fs : List (String × Int)) (name : String) : Int := ((fs.find? fun e => e.1 == name).map (·.2)).getD 0
/-- Every value of a field that a payload repeats. -/
def fieldValues (fs : List (String × Int)) (name : String) : List Nat :=
  (fs.filter fun e => e.1 == name).map fun e => e.2.toNat

/-- Results by pointer come back as a console answer. -/
def consoleBuf : HostBuf := { addr := 1, len := 2 ^ 32, reachable := true }

/-- Actions of SYSTEM from the console. -/
def runSystem (name : String) (fs : List (String × Int)) (env : ConsoleEnv) (s : State) : Option (Host.Outcome State Fault Refusal) :=
  let v (n : String) : Nat := (fieldValue fs n).toNat
  match name with
  | "SYSTEM.OSC_READMIT" => some (execOscReadmit .console (v "MEMBER") env.condition s)
  | "SYSTEM.OSC_EXCLUDE" => some (execOscExclude .console (v "MEMBER") s)
  | "SYSTEM.WARM_RESET" => some (execWarmReset .console s)
  | "SYSTEM.REBOOT" => some (execReboot .console (v "SLOT") env.boot s)
  | "SYSTEM.RESTORE_FACTORY" => some (execRestoreFactory .console (v "CONFIRM") env.boot s)
  | "SYSTEM.FW_BEGIN" => some (execFwBegin .console (v "SLOT") (v "TOTAL") s)
  | "SYSTEM.FW_WRITE" => some (execFwWrite .console (v "OFFSET") (v "LENGTH") env.data env.reachable env.flashOk s)
  | "SYSTEM.FW_FINISH" =>
    some (execFwFinish .console (v "SLOT") (v "CRC") env.condition env.flashOk env.holax env.batt s)
  | "SYSTEM.FW_ACTIVATE" => some (execFwActivate .console (v "SLOT") s)
  | "SYSTEM.SELF_TEST_REPORT" => some (execSelfTestReport .console s)
  | "SYSTEM.LOG_READ" => some (execLogRead .console (v "LOG") (v "COUNT") (v "FIRST") consoleBuf s)
  | "SYSTEM.TIME_READ" => some (execTimeRead .console (fieldValues fs "DOMAIN") consoleBuf s)
  | "SYSTEM.SET_POWER" => some (execSetPower .console (v "STATE") s)
  | "SYSTEM.FACTORY_ENTER" => some (execFactoryEnter .console (bytesLE 16 (v "TOKEN")) s)
  | _ => none

/-- Actions of SELECTOR, DPLL and SYN from the console. -/
def runLoop (name : String) (fs : List (String × Int)) (env : ConsoleEnv) (s : State) : Option (Host.Outcome State Fault Refusal) :=
  let v (n : String) : Nat := (fieldValue fs n).toNat
  match name with
  | "SELECTOR.SET_CANDIDATES" => some (execSetCandidates .console (v "SELECTOR") (fieldValues fs "ENTRY") s)
  | "SELECTOR.SELECT" => some (execSelect .console (v "SELECTOR") (v "MODE") (v "INDEX") s)
  | "SELECTOR.LOCKOUT" => some (execLockout .console (v "SELECTOR") (v "INDEX") (v "ON") s)
  | "SELECTOR.CLEAR_WTR" => some (execClearWtr .console (v "SELECTOR") (v "INDEX") s)
  | "SELECTOR.ALIGN" => some (execAlign .console (v "SELECTOR") s)
  | "DPLL.OPEN" => some (execDpllOpen .console (v "DPLL") s)
  | "DPLL.CLOSE" => some (execDpllClose .console (v "DPLL") env.phase s)
  | "DPLL.SET_FREQ" => some (execSetFreq .console (v "DPLL") (fieldValue fs "WORD") s)
  | "DPLL.NUDGE_PHASE" => some (execNudgePhase .console (v "DPLL") (fieldValue fs "INTERVAL") s)
  | "DPLL.RESET_HISTORY" => some (execResetHistory .console (v "DPLL") s)
  | "SYN.COMMIT" =>
    some (execSynCommit .console (v "SLOT") (v "TRIGGER") (v "EDGE_OUTPUT") (v "SYN_MASK") (v "OUT_MASK") (v "DOMAIN") (v "TIME") s)
  | "SYN.CANCEL" => some (execSynCancel .console (v "SLOT") s)
  | "SYN.RETUNE" => some (execSynRetune .console (v "SYN") s)
  | _ => none

/-- Actions of DOMAIN from the console. -/
def runDomain (name : String) (fs : List (String × Int)) (env : ConsoleEnv) (s : State) : Option (Host.Outcome State Fault Refusal) :=
  let v (n : String) : Nat := (fieldValue fs n).toNat
  match name with
  | "DOMAIN.CREATE" => some (execDomainCreate .console (v "DOMAIN") (v "TIMESCALE") (v "SOURCE") s)
  | "DOMAIN.DELETE" => some (execDomainDelete .console (v "DOMAIN") s)
  | "DOMAIN.ASSIGN" => some (execDomainAssign .console (v "DOMAIN") (v "CLIENT") s)
  | "DOMAIN.BIND" => some (execDomainBind .console (v "DOMAIN") (v "DPLL") s)
  | "DOMAIN.UNBIND" => some (execDomainUnbind .console (v "DOMAIN") (v "DPLL") s)
  | "DOMAIN.SET_TIME" => some (execSetTime .console (v "DOMAIN") (v "TIME") env.instant s)
  | "DOMAIN.SET_CALENDAR" =>
    let civil : CivilTime :=
      { year := v "YEAR", month := v "MONTH", day := v "DAY", hour := v "HOUR", minute := v "MINUTE", second := v "SECOND" }
    some (execSetCalendar .console (v "DOMAIN") civil (v "NANOSECONDS") env.instant s)
  | "DOMAIN.ADJ_FREQ" => some (execAdjFreq .console (v "DOMAIN") (fieldValue fs "PPT") env.instant s)
  | "DOMAIN.ADJ_PHASE" => some (execAdjPhase .console (v "DOMAIN") (v "MODE") (fieldValue fs "INTERVAL") env.instant s)
  | "DOMAIN.SCHEDULE_LEAP" => some (execScheduleLeap .console (v "DOMAIN") (v "YEAR") (v "MONTH") (v "DAY") (v "KIND") s)
  | "DOMAIN.SET_TZ" => some (execSetTz .console (v "DOMAIN") (fieldValues fs "ENTRY") s)
  | "DOMAIN.RESET" => some (execDomainReset .console (v "DOMAIN") env.instant s)
  | _ => none

/-- Actions of the generators, OUTPUT, PORT, SESSION and TIC from the console. -/
def runSignals (name : String) (fs : List (String × Int)) (env : ConsoleEnv) (s : State) : Option (Host.Outcome State Fault Refusal) :=
  let v (n : String) : Nat := (fieldValue fs n).toNat
  match name with
  | "VIDGEN.DO_STEP" => some (execVidgenDoStep .console (v "INSTANCE") s)
  | "AUDGEN.DO_STEP" => some (execAudgenDoStep .console (v "INSTANCE") s)
  | "TCGEN.DO_STEP" => some (execTcgenDoStep .console (v "INSTANCE") s)
  | "OUTPUT.DO_STEP" => some (execOutputDoStep .console (v "OUTPUT") s)
  | "TCGEN.JAM" => some (execTcgenJam .console (v "TCGEN") s)
  | "PORT.BIND" => some (execPortBind .console (v "PORT") (v "SLOT") (v "ENTRY") s)
  | "PORT.UNBIND" => some (execPortUnbind .console (v "PORT") (v "SLOT") s)
  | "PORT.LOAD_KEY" => some (execLoadKey .console (v "SLOT") (v "SPP") (v "ICV_LEN") (v "KEY_ID") (v "KEY") s)
  | "PORT.ERASE_KEY" => some (execEraseKey .console (v "SLOT") s)
  | "PORT.HOSTQ" => some (execHostq .console (v "QUEUE") (v "PORT") (v "CLIENT") (v "POLICY") s)
  | "PORT.SEND" =>
    some (execPortSend .console (v "QUEUE") (v "FLAGS") (v "TS_OFFSET") (v "DOMAIN") (v "LENGTH") (v "LAUNCH")
      env.data env.reachable s)
  | "TIC.RESTART" => some (execTicRestart .console (v "TIC") s)
  | "TIC.READ" => some (execTicRead .console (v "TIC") (v "COUNT") (v "FIRST") consoleBuf s)
  | "SESSION.OPEN" => some (execSessionOpen .console (v "PORT") (v "SLOT") (v "ADDR_TYPE") (v "ADDRESS") env.pick s)
  | "SESSION.CLOSE" => some (execSessionClose .console (v "SESSION") s)
  | _ => none

/-- Actions of FAULT, STORE and MATE from the console. -/
def runFaults (name : String) (fs : List (String × Int)) (env : ConsoleEnv) (s : State) : Option (Host.Outcome State Fault Refusal) :=
  let v (n : String) : Nat := (fieldValue fs n).toNat
  match name with
  | "FAULT.ACK" => some (execFaultAck .console (v "SOURCE") s)
  | "FAULT.CLEAR" => some (execFaultClear .console (v "SOURCE") s)
  | "FAULT.INJECT" => some (execFaultInject .console (v "CHECKER") (v "BITS") (v "TARGET") s)
  | "FAULT.LIST" => some (execFaultList .console (v "FIRST") (v "COUNT") consoleBuf s)
  | "STORE.COMMIT" => some (execStoreCommit .console (v "FIRST") (v "COUNT") s)
  | "MATE.CHANGEOVER" => some (execMateChangeover .console env.condition s)
  | "MATE.SLEEP" => some (execMateSleep .console s)
  | "MATE.WAKE" => some (execMateWake .console s)
  | "MATE.LINK_RESET" => some (execMateLinkReset .console s)
  | _ => none

/-- The state that an outcome goes on in. -/
def nextOr (s : State) : Host.Outcome State Fault Refusal → State
  | .next t => t
  | _ => s

/-- An action of a line. -/
def runAction (name : String) (fs : List (String × Int)) (env : ConsoleEnv) (s : State) : Option State :=
  ((runSystem name fs env s).orElse fun _ => (runLoop name fs env s).orElse fun _ => (runDomain name fs env s).orElse fun _ =>
    (runSignals name fs env s).orElse fun _ => runFaults name fs env s).map (nextOr s)

/-! ### Lines and characters (R339) -/

/-- The line ends with `ERR` and a status. -/
def State.consoleErr (s : State) (code : Nat) : State := s.complete .console 0 code

def State.setConsole (s : State) (u : ConsoleUnit) : State := { s with host := { s.host with console := u } }

/-- `get` and `set`: the object, the instance, and the attribute by its name. -/
def State.consoleGet (s : State) (obj inst name : List Nat) : State :=
  match objectNames.find? (fun e => e.1 == textOf obj), valueOf inst with
  | some o, some n =>
    match o.2.attrNamed (textOf name) with
    | none => s.consoleErr E_ATTR
    | some id =>
      let signed := ((Attr.find id).map (·.signed)).getD false
      let t := s.setConsole { s.host.console with asked := textOf name, signed := signed }
      if n < 0 then s.consoleErr E_RANGE else nextOr t (execGet .console n.toNat id 0 0 consoleBuf t)
  | _, _ => s.consoleErr E_RANGE

def State.consoleSet (s : State) (obj inst name value : List Nat) : State :=
  match objectNames.find? (fun e => e.1 == textOf obj), valueOf inst, valueOf value with
  | some o, some n, some v =>
    match (o.2.attrNamed (textOf name)).bind Attr.find with
    | none => s.consoleErr E_ATTR
    | some a =>
      let size := a.count * a.bytes
      let f : FieldSpec := { name := "", bytes := size, signed := a.signed }
      if n < 0 ∨ !f.fits v then s.consoleErr E_RANGE else nextOr s (execSet .console n.toNat a.id 0 a.count (intBytesLE size v) s)
  | _, _, _ => s.consoleErr E_RANGE

/-- A line is run: nothing but a prompt for an empty one, E_OPCODE for a name that is no action. -/
def State.consoleRun (s : State) (line : List Nat) (env : ConsoleEnv) : State :=
  match wordsOf line [] with
  | [] => { s with host := { s.host with console := { s.host.console with busy := false } }, out := .consolePrompt :: s.out }
  | w :: ws =>
    match textOf w, ws with
    | "GET", [obj, inst, name] => s.consoleGet obj inst name
    | "SET", [obj, inst, pair] =>
      match splitEq pair with
      | some (name, value) => s.consoleSet obj inst name value
      | none => s.consoleErr E_RANGE
    | name, args =>
      match actionFields.find? fun e => e.1 == name with
      | none => s.consoleErr E_OPCODE
      | some e =>
        match readFields e.2 args with
        | none => s.consoleErr E_RANGE
        | some fs => (runAction name fs env s).getD (s.consoleErr E_OPCODE)

/-- One character enters the line: CR or LF ends it, an LF after a CR is part of that end, backspace deletes the last character,
and at most 255 are kept. -/
def ConsoleUnit.enter (u : ConsoleUnit) (c : Nat) : ConsoleUnit :=
  if c = 10 ∧ u.lastCr then { u with lastCr := false }
  else if c = 13 ∨ c = 10 then { u with ended := true, lastCr := decide (c = 13) }
  else if c = 8 then { u with line := u.line.dropLast, lastCr := false }
  else { u with line := if u.line.length < 255 then u.line ++ [c] else u.line, lastCr := false }

/-- The characters that waited enter the line, up to the end of one. -/
def ConsoleUnit.drain : List Nat → ConsoleUnit → ConsoleUnit
  | [], u => { u with held := [] }
  | c :: cs, u => if u.busy || u.ended then { u with held := c :: cs } else ConsoleUnit.drain cs (u.enter c)

/-- The console takes up what it holds. -/
def State.drained (s : State) : State :=
  { s with host := { s.host with console := ConsoleUnit.drain s.host.console.held s.host.console } }

/-- CONSOLE_CHARACTER (R339, R341): the character is echoed; while a command runs it waits, and beyond 256 it is lost. -/
def execConsoleCharacter (char : Nat) (s : State) : Host.Outcome State Fault Refusal :=
  .next (s.when_ (decide (s.service .console ≠ .unserved)) fun t =>
    let u := t.drained
    let c := u.host.console
    if c.busy || c.ended then
      if c.held.length < 256 then
        ({ u with host := { u.host with console := { c with held := c.held ++ [char % 256] } } }).emit (.echo (char % 256))
      else (u.bump Attr.console_overruns).raiseOnce 528
    else ({ u with host := { u.host with console := c.enter (char % 256) } }).emit (.echo (char % 256)))

/-- CONSOLE_LINE (R339): the line that has ended is parsed and issued. -/
def execConsoleLine (env : ConsoleEnv) (s : State) : Host.Outcome State Fault Refusal :=
  .next (s.when_ (decide (s.service .console ≠ .unserved)) fun t =>
    let u := t.drained
    let c := u.host.console
    if c.busy || !c.ended then u
    else
      (({ u with host := { u.host with console := { c with line := [], ended := false, busy := true } } }).consoleRun c.line env).printEvents)

/-! ### What the console writes (R339) -/

/-- A number in decimal, with its sign; and in hexadecimal with 0x. -/
def decimalText (v : Int) : List Nat := (if v < 0 then [45] else []) ++ (Nat.toDigits 10 v.natAbs).map Char.toNat
def hexText (v : Nat) : List Nat := [48, 120] ++ (Nat.toDigits 16 v).map Char.toNat

/-- The name of an attribute as the console writes it: in small letters. -/
def lowerText (name : String) : List Nat := name.toList.map fun c => let n := c.toNat; if 65 ≤ n ∧ n ≤ 90 then n + 32 else n

/-- The characters of a text. -/
def textCodes (t : String) : List Nat := t.toList.map Char.toNat

/-- The value of bytes: as the sign has it. -/
def bytesValue (signed : Bool) (bs : List Byte) : Int := if signed then intLE bs.length bs else natLE bs

/-- `<attribute>=<value>`, or `result=<value>` for a result that is no attribute. -/
def valueLine (name : String) (signed : Bool) (bytes : List Byte) : List Nat :=
  (if name = "" then textCodes "result" else lowerText name) ++ [61] ++ decimalText (bytesValue signed bytes)

/-- The lines, and at the end of an answer the prompt, that the console writes for an entry of the trace: a value, an answer with
its inline value, if it has one, and its status, an event with its number, class and counter, or a prompt alone. How a result that is
no attribute, a status and a class are spelt is log entry 26. -/
def Emission.consoleLines : Emission → List (List Nat)
  | .consoleValue name signed bytes => [valueLine name signed bytes]
  | .console name signed status bytes =>
    (if bytes.isEmpty then [] else [valueLine name signed bytes]) ++
      [if status = 0 then textCodes "OK" else textCodes "ERR " ++ hexText status, textCodes "> "]
  | .consoleEvent r => [textCodes "EV " ++ decimalText r.source ++ [32] ++ decimalText r.cls ++ [32] ++ hexText r.counter]
  | .consolePrompt => [textCodes "> "]
  | _ => []

end Sys2Proof.Machine
end

