-- ==== Sys2Proof/Machine/TableMem.lean ====
section
/-! DEFINITION. Table memory (R366 to R391): Fuller, poison and its recovery, retirement and the Cullet table, and the
BAR2 window. -/

namespace Sys2Proof.Machine

/-- The region code of a page (R366). -/
def regionOf (lpn : Nat) : Nat :=
  if lpn < 512 then 0 else if lpn < 8704 then 1 else if lpn < 10752 then 2 else if lpn < 76288 then 3
  else if lpn < 81688 then 4 else if lpn < 81944 then 5 else if lpn < 98328 then 6 else if lpn < 114712 then 7
  else if lpn < 114968 then 8 else if lpn < 115160 then 9 else if lpn < 124610 then 10 else 11

/-- What a frame holds (R367, R381): a page, a spare that holds none, a frame whose page was remapped, or nothing. -/
inductive FrameRole
  | page (lpn : Nat)
  | freeSpare (k : Nat)
  | left
  | reserved
deriving DecidableEq, Repr

def State.frameRole (s : State) (f : Nat) : FrameRole :=
  if f < lpnCount then (if s.frameOf f == f then .page f else .left)
  else if f < lpnCount + 64 then
    (match s.cullet.find? fun e => e.2 == f - lpnCount with
     | some e => .page e.1
     | none => .freeSpare (f - lpnCount))
  else .reserved

/-- The frames of the device, its bytes per frame, and the first device address of a frame (R367). -/
def frameCount : Nat := 3947580
def frameBytes : Nat := 4352
def frameAddr (f : Nat) : Nat := f * frameBytes

/-- Bit errors per frame that the page code corrects, and the first bit of its check symbols in the code word (R368). -/
def State.strength (s : State) : Nat := codeT (s.attrN Attr.code_strength_active)
def State.checkFrom (s : State) : Nat := (frameBytes - 2 * s.strength) * 8

/-- TAG and REGION of a frame (R369). A frame whose page was remapped keeps those of the page. -/
def State.frameTag (s : State) (f : Nat) : Nat × Nat :=
  match s.frameRole f with
  | .page lpn => (lpn, regionOf lpn)
  | .freeSpare _ => (0xFFFFFFFE, 0xFE)
  | .left => (f, regionOf f)
  | .reserved => (0xFFFFFFFF, 0xFF)

/-- The metadata of a frame (R369). -/
def State.metadata (s : State) (f : Nat) : Nat :=
  (s.frameTag f).1 + (s.frameTag f).2 * 2 ^ 32 + boolNat (s.frame f).poison * 2 ^ 40 + boolNat (!(s.frame f).written) * 2 ^ 41

/-- The bytes of a frame ahead of its check symbols (R368). -/
def State.frameData (s : State) (f : Nat) : List Byte :=
  (match s.frameRole f with
   | .page lpn => s.tm.read (lpn * 4096) 4096
   | _ => List.replicate 4096 0) ++ bytesLE 64 (s.metadata f) ++ List.replicate (4352 - 2 * s.strength - 4160) 0

/-- The DPLLs whose ledgers lie partly in a page (R366). -/
def ledgerDplls (lpn : Nat) : List Nat :=
  (List.range 16).filter fun n =>
    decide (lpn * 4096 < 0x12A00000 + (n + 1) * 1382400) && decide (0x12A00000 + n * 1382400 < (lpn + 1) * 4096)

/-- The sessions that a page of region 1, 2 or 3 serves (R366). -/
def pageSessions (lpn : Nat) : List Nat :=
  match regionOf lpn with
  | 1 => [2 * (lpn - 512), 2 * (lpn - 512) + 1]
  | 2 => (List.range 8).map fun k => 8 * (lpn - 8704) + k
  | 3 => [(lpn - 10752) / 4]
  | _ => []

/-- The scope of EV 389 and EV 390 (R391): the domains whose entries, sessions or bound DPLL ledgers lie in the page. -/
def State.pageScope (s : State) (lpn : Nat) : List ScopeItem :=
  match regionOf lpn with
  | 0 => [.dom lpn]
  | 1 => ((pageSessions lpn).filter fun n => s.attr Attr.session_sess_state n != 0).map fun n => .dom (s.sessDomain n)
  | 4 => (ledgerDplls lpn).filterMap fun n => (s.boundDom n).map .dom
  | _ => []

/-! ### Errors (R373 to R376) -/

/-- The address-log entry of an error (R374). -/
def logEntry (counter lpn frame bits region : Nat) (positions : List Nat) : Nat :=
  let pos := (List.range 6).map fun k => (positions.getD k 0xFFFF) % 65536 * 2 ^ (160 + 16 * k)
  counter % 2 ^ 64 + lpn % 2 ^ 32 * 2 ^ 64 + frame % 2 ^ 32 * 2 ^ 96 + bits % 256 * 2 ^ 128 + region % 256 * 2 ^ 136 + 2 ^ 144 + pos.sum

/-- Whether an address-log entry is VALID without REWRITTEN. -/
def logActive (v : Nat) : Bool := bitOf v 144 && !bitOf v 145

/-- The entry that a new finding takes: a free one, else the oldest with REWRITTEN. -/
def State.logSlot (s : State) : Option Nat :=
  let e (k : Nat) := s.attrN Attr.ce_log 0 k
  match (List.range 16).find? fun k => !bitOf (e k) 144 with
  | some k => some k
  | none =>
    let done := (List.range 16).filter fun k => bitOf (e k) 145
    done.find? fun k => done.all fun j => decide (e k % 2 ^ 64 ≤ e j % 2 ^ 64)

/-- A correctable error in a ledger region (R374, R378): logged once per frame, and written back by Fuller alone. -/
def State.ledgerError (s : State) (lpn frame bits : Nat) (positions : List Nat) (fuller : Bool) : State :=
  let back (u : State) : State := if fuller then u.logRewritten frame true else u
  let t := s.add Attr.ce_counts 0 1 1
  let known := (List.range 16).any fun k => logActive (t.attrN Attr.ce_log 0 k) && t.attrN Attr.ce_log 0 k / 2 ^ 96 % 2 ^ 32 == frame
  if known then back t
  else
    match t.logSlot with
    | some k =>
      back ((t.put Attr.ce_log 0 k (logEntry t.counter lpn frame bits (regionOf lpn) positions : Nat)).raise 385 false k)
    | none => (t.bump Attr.ce_unlogged).raise 386 false 0xFFFF

/-- Marks a spare BAD (R380). -/
def State.spareBad (s : State) (k : Nat) : State := (s.put Attr.spare_state 0 k 2).enforceLimit.raise 393 false 0xFFFF

/-- A frame has met a condition of retirement (R380). -/
def State.retireFrame (s : State) (f cause : Nat) : State :=
  match s.frameRole f with
  | .page lpn => s.submit lpn cause
  | .freeSpare k => if s.attr Attr.spare_state 0 k = 2 then s else s.spareBad k
  | .left => s
  | .reserved => s

/-- A frame that cannot be decoded is poisoned (R376); `tag` where its TAG differed (R370). -/
def State.poison (s : State) (f : Nat) (tag : Bool) : State :=
  let t := s.setFrame f { s.frame f with poison := true, checkErrors := 0 }
  let u := match t.frameRole f with
    | .page lpn =>
      let v := (t.bump Attr.poisoned).raise 389 false 0xFFFF (t.pageScope lpn)
      if tag then v.raise 390 false 0xFFFF (t.pageScope lpn) else v
    | _ => t
  u.retireFrame f (if tag then 2 else 1)

/-- The errors that the decode of a frame corrected (R373 to R375, R378, R380). -/
def State.corrected (s : State) (f : Nat) (positions : List Nat) (fuller : Bool) : State :=
  let bits := positions.length
  if bits = 0 then s
  else
    let t :=
      if positions.all fun x => decide (s.checkFrom ≤ x) then (s.add Attr.ce_counts 0 2 1).raiseOnce 387 0xFFFF
      else match s.frameRole f with
        | .page lpn =>
          if ledgerRegion lpn then s.ledgerError lpn f bits positions fuller else (s.add Attr.ce_counts 0 0 1).raiseOnce 384 0xFFFF
        | .left => (s.add Attr.ce_counts 0 0 1).raiseOnce 384 0xFFFF
        | _ => (s.add Attr.ce_counts 0 3 1).raiseOnce 384 0xFFFF
    if s.attrN Attr.retire_limit < bits then t.retireFrame f 0 else t

/-- Whether a decode yields the frame's data (R368, R370, R376). -/
def State.decodes (s : State) (r : FrameRead) : Bool := r.tagOk && decide (r.tries < 3) && decide (r.positions.length ≤ s.strength)

/-- The read of a frame, by Fuller or for a request (R370, R373 to R376, R378). -/
def State.readFrame (s : State) (f : Nat) (r : FrameRead) (fuller : Bool) : State :=
  let t := match s.frameRole f with
    | .page lpn => s.findCheck lpn
    | _ => s
  if !t.decodes r then t.poison f (!r.tagOk)
  else
    let u := if 0 < r.tries then (t.bump Attr.read_retries).raise 388 false 0xFFFF else t
    let c := u.frame f
    (u.setFrame f (if c.poison then c else { c with recovered := false })).corrected f r.positions fuller

/-- The pass in progress has taken more than 1 % too long (R378): each frame has its share of the `fuller_period` that it was read
under. -/
def State.passLate (s : State) : Bool :=
  decide (101 * s.tm.passSum * ticksPerSecond < 100 * frameCount * (s.counter - s.tm.passFrom))

/-- Fuller steps to its next frame (R378). -/
def State.fullerNext (s : State) : State :=
  let f := s.attrN Attr.fuller_position
  let t : State := { s with tm := { s.tm with passSum := s.tm.passSum + s.attrN Attr.fuller_period } }
  if f + 1 < frameCount then t.put1 Attr.fuller_position 0 (f + 1 : Nat)
  else
    let u := ((t.put1 Attr.fuller_position 0 0).bump Attr.fuller_passes).raise 394 false 0xFFFF
    let v := if t.passLate then u.raise 395 false 0xFFFF else u
    { v with tm := { v.tm with passFrom := v.counter, passSum := 0 } }

/-- FULLER_FRAME_READ (R376, R378): Fuller reads the frame at `fuller_position` and steps to the next. -/
def execFullerFrameRead (read : FrameRead) (s : State) : Host.Outcome State Fault Refusal :=
  .next (s.when_ s.memoryUp fun t => (t.readFrame (t.attrN Attr.fuller_position) read true).fullerNext)

/-- CACHE_FILL (R376, R386, R387): the fill reads the whole frame, the slot becomes VALID, and the writes that wait are
applied. -/
def execCacheFill (lpn : Nat) (read : FrameRead) (s : State) : Host.Outcome State Fault Refusal :=
  .next (match takeFirst (fun c => c.lpn == lpn && decide (c.state = .filling)) s.tm.cache with
    | some (c, rest) =>
      s.when_ s.memoryUp fun t =>
        (((t.readFrame (t.frameOf lpn) read false).setCache (rest ++ [{ c with state := .valid, writes := [] }])).cacheCount 0).applyWrites
          c.writes
    | none => s)

/-! ### Retirement (R380 to R382) -/

/-- The lowest free spare (log entry 21). -/
def State.freeSpare (s : State) : Option Nat := (List.range 64).find? fun k => s.attr Attr.spare_state 0 k == 0

/-- The Cullet entry that remaps a page. -/
def State.culletOf (s : State) (lpn : Nat) : Option Nat :=
  (List.range 32).find? fun e => bitOf (s.attrN Attr.cullet 0 e) 28 && s.attrN Attr.cullet 0 e % 4194304 == lpn

/-- The Cullet entry that a page uses or takes. -/
def State.culletSlot (s : State) (lpn : Nat) : Option Nat :=
  match s.culletOf lpn with
  | some e => some e
  | none => (List.range 32).find? fun e => !bitOf (s.attrN Attr.cullet 0 e) 28

/-- A Cullet table entry written in the field (R381). -/
def culletEntry (lpn spare cause : Nat) (seconds : Int) : Nat :=
  lpn % 4194304 + spare % 64 * 2 ^ 22 + 2 ^ 28 + 2 ^ 29 + cause % 4 * 2 ^ 30 + (seconds % 2 ^ 32).toNat * 2 ^ 32

/-- Drops every byte of a page: it reads zero. -/
def TableMem.zeroPage (m : TableMem) (lpn : Nat) : TableMem := { m with bytes := tblKeep (fun a => a / 4096 != lpn) m.bytes }

/-- The copy of a page to a spare frame and the switch of its mapping (R381); a remapped page's spare becomes BAD (R380). -/
def State.retire (s : State) (lpn spare entry cause : Nat) : State :=
  let lost := s.poisoned lpn
  let old := s.culletOf lpn
  let oldSpare := s.attrN Attr.cullet 0 entry / 4194304 % 64
  let t : State := if lost then { s with tm := s.tm.zeroPage lpn } else s
  let u := ((t.put Attr.cullet 0 entry (culletEntry lpn spare cause (secondsOf (t.domNow 0)) : Nat)).put Attr.spare_state 0 spare 1).setFrame
    (lpnCount + spare) { poison := lost, written := true }
  (match old with
   | some _ => u.spareBad oldSpare
   | none => u).enforceLimit.raise 391 false entry

/-- PAGE_RETIRE (R381, R382): acts on a page submitted for retirement. Without a free entry or a free spare the page stays
in its frame. -/
def execPageRetire (lpn : Nat) (cause : Nat) (s : State) : Host.Outcome State Fault Refusal :=
  .next (match takeFirst (fun e => e == (lpn, cause)) s.tm.retire with
    | some (_, rest) =>
      s.when_ s.memoryUp fun t =>
        let u : State := { t with tm := { t.tm with retire := rest } }
        (match u.culletSlot lpn, u.freeSpare with
         | some e, some k => u.retire lpn k e cause
         | _, _ => u.raise 392 false 0xFFFF)
    | none => s)

/-! ### Recovery of a poisoned page (R377) -/

/-- The frames of a session's queue that wait at its port are dropped and counted in `tx_drops`. -/
def State.dropSessionFrames (s : State) (n : Nat) : State :=
  s.forEach (List.range 4) fun t p =>
    let r := t.port p
    let mine (f : TxFrame) : Bool := decide (f.cls = .session) && f.queue == n
    let gone := r.waiting.filter mine
    let u := (t.setPort p { r with waiting := r.waiting.filter fun f => !mine f }).add Attr.port_tx_drops p 0 gone.length
    gone.foldl (fun x f => x.tellDesc f .dropped) u

/-- The records of a lost ledger page, rewritten with NOT_LOCKED set. -/
def lostLedgerPage : List Byte := (List.replicate 256 (List.replicate 7 0 ++ [1] ++ List.replicate 8 0)).flatten

/-- What recovery does for the region of a page. -/
def State.recoverRegion (s : State) (lpn : Nat) : State :=
  match regionOf lpn with
  | 1 => s.forEach ((pageSessions lpn).filter fun n => s.attr Attr.session_sess_state n != 0) State.freeSession
  | 2 => { s.forEach (pageSessions lpn) State.dropSessionFrames with tm := s.tm }
  | 3 => s.forEach (pageSessions lpn) State.dropSessionFrames
  | 4 =>
    let t := s.tmWrite (lpn * 4096) lostLedgerPage
    t.forEach (ledgerDplls lpn) fun u n => u.put1 Attr.dpll_ho_usable n (u.usable n).length
  | 11 => if Config.kernelPage lpn then s.gafferRestart else s
  | _ => s

/-- POISON_RECOVERY (R377): Holax clears POISON by a whole-page write and restores the region as its table states. A page
that stays in its frame because no entry or spare is free is recovered once, until its frame has been read again. -/
def execPoisonRecovery (lpn : Nat) (s : State) : Host.Outcome State Fault Refusal :=
  .next (s.when_ (s.control && s.memoryUp && s.poisoned lpn && !(s.frame (s.frameOf lpn)).recovered) fun t =>
    let full := (t.culletSlot lpn).isNone || t.freeSpare.isNone
    let u := t.setFrame (t.frameOf lpn) { recovered := full, written := true }
    ({ u with tm := u.tm.zeroPage lpn }).recoverRegion lpn)

/-! ### The device and the window -/

/-- MEMORY_TEMPERATURE (R391). -/
def execMemoryTemperature (s : State) : Host.Outcome State Fault Refusal :=
  .next (s.when_ s.memoryUp fun t => t.raise 397 false 0xFFFF)

/-- The bytes of a window write with their logical addresses, without those beyond the logical space (R388). -/
def State.windowBytes (s : State) (offset : Nat) (bytes : List Byte) : List (Nat × Byte) :=
  (bytes.zipIdx.map fun (x : Byte × Nat) => (s.host.twBase + offset + x.2, x.1)).filter fun x => decide (x.1 < tmSize)

/-- Whether a host write to a page waits for its cache slot (R387). -/
def State.writeWaits (s : State) (lpn : Nat) : Bool :=
  s.tm.cache.any fun c => c.lpn == lpn && (decide (c.state = .filling) || decide (c.state = .evicting))

/-- Whether a byte of a window write is kept (R376, R389). -/
def State.windowKept (s : State) (a : Nat) : Bool := s.memoryUp && hostOwned a && !s.poisoned (a / 4096)

/-- BAR2_WRITE (R370, R376, R387, R389, R415), within one page: its frame is read, unless the write waits for a cache slot, and
host-owned words of the session table are written; a write that reaches anything else is discarded there and counted. -/
def execBar2Write (offset : Nat) (bytes : List Byte) (read : FrameRead) (s : State) : Host.Outcome State Fault Refusal :=
  .next (s.when_ (decide (s.boot.phase = .running) && decide (s.power ≠ .dormant)) fun t =>
    let inside := t.windowBytes offset bytes
    let u := match inside.find? fun x => t.windowKept x.1 with
      | some x => if t.writeWaits (x.1 / 4096) then t else t.readFrame (t.frameOf (x.1 / 4096)) read false
      | none => t
    let good := inside.filter fun x => u.windowKept x.1
    let v := good.foldl (fun (y : State) x => y.hostByte x.1 (hostKept x.1 x.2)) u
    if good.length < inside.length then (v.bump Attr.tw_discards).raiseOnce 396 0xFFFF else v)

end Sys2Proof.Machine
end

