-- ==== Sys2Proof/Machine/Dispatch.lean ====
section
/-! DEFINITION. The commands' meanings, one arm for each constructor of `Instr`. -/

namespace Sys2Proof.Machine

def exec (i : Instr) (s : State) : Host.Outcome State Fault Refusal :=
  match i with
  -- Supply, reset pins and the host link (R312, R341, R393, R407, R490, R492, R526)
  | .vmainApplied env => Sys2Proof.Machine.execVmainApplied env s
  | .resetNAsserted => Sys2Proof.Machine.execResetNAsserted s
  | .resetNReleased env => Sys2Proof.Machine.execResetNReleased env s
  | .pfNAsserted => Sys2Proof.Machine.execPfNAsserted s
  | .vmainBelowThreshold => Sys2Proof.Machine.execVmainBelowThreshold s
  | .powerFailStoreComplete durationUs => Sys2Proof.Machine.execPowerFailStoreComplete durationUs s
  | .supplyRestored => Sys2Proof.Machine.execSupplyRestored s
  | .holdupExhausted => Sys2Proof.Machine.execHoldupExhausted s
  | .perstNAsserted => Sys2Proof.Machine.execPerstNAsserted s
  | .pcieHotReset => Sys2Proof.Machine.execPcieHotReset s
  | .pcieFlr => Sys2Proof.Machine.execPcieFlr s
  | .pcieLinkDown => Sys2Proof.Machine.execPcieLinkDown s
  | .pcieCorrectableErrors => Sys2Proof.Machine.execPcieCorrectableErrors s
  | .pcieUncorrectableError => Sys2Proof.Machine.execPcieUncorrectableError s
  | .gafferWatchdogExpiry => Sys2Proof.Machine.execGafferWatchdogExpiry s
  | .gafferLockstepMismatch => Sys2Proof.Machine.execGafferLockstepMismatch s
  | .gafferRestartComplete => Sys2Proof.Machine.execGafferRestartComplete s
  | .warmResetComplete failedEngines read => Sys2Proof.Machine.execWarmResetComplete failedEngines read s
  -- Generic verbs (R348 to R350, R361)
  | .get who inst attr first count buf => Sys2Proof.Machine.execGet who inst attr first count buf s
  | .set who inst attr first count value => Sys2Proof.Machine.execSet who inst attr first count value s
  | .bulkGet who buf items => Sys2Proof.Machine.execBulkGet who buf items s
  | .subscribe who first count on => Sys2Proof.Machine.execSubscribe who first count on s
  -- SYSTEM actions (R351)
  | .oscReadmit who member conditionHolds => Sys2Proof.Machine.execOscReadmit who member conditionHolds s
  | .oscExclude who member => Sys2Proof.Machine.execOscExclude who member s
  | .warmReset who => Sys2Proof.Machine.execWarmReset who s
  | .reboot who slot env => Sys2Proof.Machine.execReboot who slot env s
  | .restoreFactory who confirm env => Sys2Proof.Machine.execRestoreFactory who confirm env s
  | .fwBegin who slot total => Sys2Proof.Machine.execFwBegin who slot total s
  | .fwWrite who offset length data reachable flashOk => Sys2Proof.Machine.execFwWrite who offset length data reachable flashOk s
  | .fwFinish who slot crc integrityOk flashOk holax batt => Sys2Proof.Machine.execFwFinish who slot crc integrityOk flashOk holax batt s
  | .fwActivate who slot => Sys2Proof.Machine.execFwActivate who slot s
  | .selfTestReport who => Sys2Proof.Machine.execSelfTestReport who s
  | .logRead who log count first buf => Sys2Proof.Machine.execLogRead who log count first buf s
  | .timeRead who domains buf => Sys2Proof.Machine.execTimeRead who domains buf s
  | .setPower who state => Sys2Proof.Machine.execSetPower who state s
  | .powerTransitionComplete env => Sys2Proof.Machine.execPowerTransitionComplete env s
  | .factoryEnter who token => Sys2Proof.Machine.execFactoryEnter who token s
  -- SELECTOR actions (R148)
  | .setCandidates who selector entries => Sys2Proof.Machine.execSetCandidates who selector entries s
  | .select who selector mode index => Sys2Proof.Machine.execSelect who selector mode index s
  | .lockout who selector index on => Sys2Proof.Machine.execLockout who selector index on s
  | .clearWtr who selector index => Sys2Proof.Machine.execClearWtr who selector index s
  | .align who selector => Sys2Proof.Machine.execAlign who selector s
  -- DPLL actions (R179)
  | .dpllOpen who dpll => Sys2Proof.Machine.execDpllOpen who dpll s
  | .dpllClose who dpll phase => Sys2Proof.Machine.execDpllClose who dpll phase s
  | .setFreq who dpll word => Sys2Proof.Machine.execSetFreq who dpll word s
  | .nudgePhase who dpll interval => Sys2Proof.Machine.execNudgePhase who dpll interval s
  | .resetHistory who dpll => Sys2Proof.Machine.execResetHistory who dpll s
  -- SYN actions (R208)
  | .synCommit who slot trigger edgeOutput synMask outMask domain time => Sys2Proof.Machine.execSynCommit who slot trigger edgeOutput synMask outMask domain time s
  | .synCancel who slot => Sys2Proof.Machine.execSynCancel who slot s
  | .synRetune who syn => Sys2Proof.Machine.execSynRetune who syn s
  -- DOMAIN actions (R77); `instant` is the update instant that the domain controller chooses (R61)
  | .domainCreate who domain timescale source => Sys2Proof.Machine.execDomainCreate who domain timescale source s
  | .domainDelete who domain => Sys2Proof.Machine.execDomainDelete who domain s
  | .domainAssign who domain client => Sys2Proof.Machine.execDomainAssign who domain client s
  | .domainBind who domain dpll => Sys2Proof.Machine.execDomainBind who domain dpll s
  | .domainUnbind who domain dpll => Sys2Proof.Machine.execDomainUnbind who domain dpll s
  | .setTime who domain time instant => Sys2Proof.Machine.execSetTime who domain time instant s
  | .setCalendar who domain civil nanoseconds instant => Sys2Proof.Machine.execSetCalendar who domain civil nanoseconds instant s
  | .adjFreq who domain ppt instant => Sys2Proof.Machine.execAdjFreq who domain ppt instant s
  | .adjPhase who domain mode interval instant => Sys2Proof.Machine.execAdjPhase who domain mode interval instant s
  | .scheduleLeap who domain year month day kind => Sys2Proof.Machine.execScheduleLeap who domain year month day kind s
  | .setTz who domain entries => Sys2Proof.Machine.execSetTz who domain entries s
  | .domainReset who domain instant => Sys2Proof.Machine.execDomainReset who domain instant s
  -- Broadcast actions (R247)
  | .vidgenDoStep who n => Sys2Proof.Machine.execVidgenDoStep who n s
  | .audgenDoStep who n => Sys2Proof.Machine.execAudgenDoStep who n s
  | .tcgenDoStep who n => Sys2Proof.Machine.execTcgenDoStep who n s
  | .outputDoStep who n => Sys2Proof.Machine.execOutputDoStep who n s
  | .tcgenJam who n => Sys2Proof.Machine.execTcgenJam who n s
  -- PORT actions (R287)
  | .portBind who port slot entry => Sys2Proof.Machine.execPortBind who port slot entry s
  | .portUnbind who port slot => Sys2Proof.Machine.execPortUnbind who port slot s
  | .loadKey who slot spp icvLen keyId key => Sys2Proof.Machine.execLoadKey who slot spp icvLen keyId key s
  | .eraseKey who slot => Sys2Proof.Machine.execEraseKey who slot s
  | .hostq who queue port client policy => Sys2Proof.Machine.execHostq who queue port client policy s
  | .portSend who queue flags tsOffset domain length launch frame reachable => Sys2Proof.Machine.execPortSend who queue flags tsOffset domain length launch frame reachable s
  -- TIC actions (R309)
  | .ticRestart who tic => Sys2Proof.Machine.execTicRestart who tic s
  | .ticRead who tic count first buf => Sys2Proof.Machine.execTicRead who tic count first buf s
  -- FAULT, STORE and MATE actions (R357)
  | .faultAck who source => Sys2Proof.Machine.execFaultAck who source s
  | .faultClear who source => Sys2Proof.Machine.execFaultClear who source s
  | .faultInject who checker bits target => Sys2Proof.Machine.execFaultInject who checker bits target s
  | .faultList who first count buf => Sys2Proof.Machine.execFaultList who first count buf s
  | .storeCommit who first count => Sys2Proof.Machine.execStoreCommit who first count s
  | .mateChangeover who standbyReady => Sys2Proof.Machine.execMateChangeover who standbyReady s
  | .mateSleep who => Sys2Proof.Machine.execMateSleep who s
  | .mateWake who => Sys2Proof.Machine.execMateWake who s
  | .mateLinkReset who => Sys2Proof.Machine.execMateLinkReset who s
  -- SESSION actions (R287)
  | .sessionOpen who port slot addrType address pick => Sys2Proof.Machine.execSessionOpen who port slot addrType address pick s
  | .sessionClose who session => Sys2Proof.Machine.execSessionClose who session s
  -- Mailbox registers and rings (R313 to R339)
  | .cmdPiWrite client value => Sys2Proof.Machine.execCmdPiWrite client value s
  | .commandFetch client entry payload entryReachable => Sys2Proof.Machine.execCommandFetch client entry payload entryReachable s
  | .completionWrite client reachable => Sys2Proof.Machine.execCompletionWrite client reachable s
  | .cplCiWrite client value => Sys2Proof.Machine.execCplCiWrite client value s
  | .evtCiWrite client value => Sys2Proof.Machine.execEvtCiWrite client value s
  | .ringEnable client cfg => Sys2Proof.Machine.execRingEnable client cfg s
  | .ringDisable client cfg => Sys2Proof.Machine.execRingDisable client cfg s
  | .ringDrained client => Sys2Proof.Machine.execRingDrained client s
  | .irqArmWrite client value => Sys2Proof.Machine.execIrqArmWrite client value s
  | .evtLostRead client => Sys2Proof.Machine.execEvtLostRead client s
  | .intStatusWrite client value => Sys2Proof.Machine.execIntStatusWrite client value s
  | .aliveFeedWrite client => Sys2Proof.Machine.execAliveFeedWrite client s
  | .twBaseWrite client high value => Sys2Proof.Machine.execTwBaseWrite client high value s
  | .tlCtrlWrite client value => Sys2Proof.Machine.execTlCtrlWrite client value s
  | .msixUnmask vector => Sys2Proof.Machine.execMsixUnmask vector s
  | .registerWrite bar4 offset value aligned => Sys2Proof.Machine.execRegisterWrite bar4 offset value aligned s
  | .bar2Write offset bytes read => Sys2Proof.Machine.execBar2Write offset bytes read s
  | .eventRecordDelivery source unreachable => Sys2Proof.Machine.execEventRecordDelivery source unreachable s
  | .eventOverflowRecord client reachable => Sys2Proof.Machine.execEventOverflowRecord client reachable s
  | .spiWrite address bytes => Sys2Proof.Machine.execSpiWrite address bytes s
  | .spiRead address count => Sys2Proof.Machine.execSpiRead address count s
  | .spiGo => Sys2Proof.Machine.execSpiGo s
  | .spiEvtPop => Sys2Proof.Machine.execSpiEvtPop s
  | .spiCommandDone => Sys2Proof.Machine.execSpiCommandDone s
  | .consoleLine env => Sys2Proof.Machine.execConsoleLine env s
  | .hostFeedTimeout => Sys2Proof.Machine.execHostFeedTimeout s
  -- Crucible (R41 to R57)
  | .comparatorMeasurement d01 d12 d20 ext => Sys2Proof.Machine.execComparatorMeasurement d01 d12 d20 ext s
  | .rootPhaseSteer diff => Sys2Proof.Machine.execRootPhaseSteer diff s
  | .outvoteEvaluation obs => Sys2Proof.Machine.execOutvoteEvaluation obs s
  | .weightRecompute variances separable => Sys2Proof.Machine.execWeightRecompute variances separable s
  | .ovenJoin m => Sys2Proof.Machine.execOvenJoin m s
  | .ovenFault m => Sys2Proof.Machine.execOvenFault m s
  | .warmupTimeout => Sys2Proof.Machine.execWarmupTimeout s
  | .readmitConditionMet m => Sys2Proof.Machine.execReadmitConditionMet m s
  | .readmitRampComplete m => Sys2Proof.Machine.execReadmitRampComplete m s
  | .modelFitUpdate fits => Sys2Proof.Machine.execModelFitUpdate fits s
  | .ambientGradient => Sys2Proof.Machine.execAmbientGradient s
  | .rootUnlock => Sys2Proof.Machine.execRootUnlock s
  -- Domains (R61 to R84)
  | .domainUpdateApply d => Sys2Proof.Machine.execDomainUpdateApply d s
  | .slewEnd d => Sys2Proof.Machine.execSlewEnd d s
  | .leapSecond d => Sys2Proof.Machine.execLeapSecond d s
  | .tzTableApply d => Sys2Proof.Machine.execTzTableApply d s
  | .tzTransition d => Sys2Proof.Machine.execTzTransition d s
  -- Inputs (R93 to R121)
  | .inputEdge n count vernier frameStart => Sys2Proof.Machine.execInputEdge n count vernier frameStart s
  | .losTimeout n => Sys2Proof.Machine.execLosTimeout n s
  | .freqGateComplete n => Sys2Proof.Machine.execFreqGateComplete n s
  | .soakExpiry n => Sys2Proof.Machine.execSoakExpiry n s
  | .driftEvaluation n => Sys2Proof.Machine.execDriftEvaluation n s
  | .wanderEvaluation n => Sys2Proof.Machine.execWanderEvaluation n s
  | .msgTimeout n => Sys2Proof.Machine.execMsgTimeout n s
  | .esmcPduReceived port ssm extended => Sys2Proof.Machine.execEsmcPduReceived port ssm extended s
  | .timeEventMessage rx timing seconds => Sys2Proof.Machine.execTimeEventMessage rx timing seconds s
  | .timeAnnounceMessage rx checksumOk samples status clockClass accuracy utc => Sys2Proof.Machine.execTimeAnnounceMessage rx checksumOk samples status clockClass accuracy utc s
  | .nmeaZda rx timing civil => Sys2Proof.Machine.execNmeaZda rx timing civil s
  | .nmeaRmc rx timing civil statusA => Sys2Proof.Machine.execNmeaRmc rx timing civil statusA s
  | .videoFormatDetected n format => Sys2Proof.Machine.execVideoFormatDetected n format s
  | .ltcFrameDecoded n rate civil frame zone count vernier => Sys2Proof.Machine.execLtcFrameDecoded n rate civil frame zone count vernier s
  | .ltcDiscardWindowClear n => Sys2Proof.Machine.execLtcDiscardWindowClear n s
  -- Selectors and domain references (R25, R131 to R137, R277)
  | .selectorDecision n phase => Sys2Proof.Machine.execSelectorDecision n phase s
  | .wtrExpiry n index => Sys2Proof.Machine.execWtrExpiry n index s
  | .holdOffExpiry n phase => Sys2Proof.Machine.execHoldOffExpiry n phase s
  | .servoUpdate d offset ppt delta instant => Sys2Proof.Machine.execServoUpdate d offset ppt delta instant s
  | .domainRefStale d => Sys2Proof.Machine.execDomainRefStale d s
  | .pktHoldLimitExpiry d => Sys2Proof.Machine.execPktHoldLimitExpiry d s
  -- DPLLs (R154 to R178)
  | .pdSample n phaseError freqError => Sys2Proof.Machine.execPdSample n phaseError freqError s
  | .lockAcquired n => Sys2Proof.Machine.execLockAcquired n s
  | .settlingEnd n => Sys2Proof.Machine.execSettlingEnd n s
  | .slopeMovementComplete n => Sys2Proof.Machine.execSlopeMovementComplete n s
  | .teEstimateEval n => Sys2Proof.Machine.execTeEstimateEval n s
  | .holdoverWordRefresh n => Sys2Proof.Machine.execHoldoverWordRefresh n s
  | .dpllPost n instant => Sys2Proof.Machine.execDpllPost n instant s
  | .ledgerRecord n => Sys2Proof.Machine.execLedgerRecord n s
  | .ledgerDrain n => Sys2Proof.Machine.execLedgerDrain n s
  | .holdoverSummaryStore => Sys2Proof.Machine.execHoldoverSummaryStore s
  -- Synthesisers and outputs (R185 to R211)
  | .calibrationComplete n => Sys2Proof.Machine.execCalibrationComplete n s
  | .calibrationFailure n => Sys2Proof.Machine.execCalibrationFailure n s
  | .retuneComplete n => Sys2Proof.Machine.execRetuneComplete n s
  | .synthesiserUnlock n => Sys2Proof.Machine.execSynthesiserUnlock n s
  | .tuningMarginLow n margin => Sys2Proof.Machine.execTuningMarginLow n margin s
  | .outputStart n => Sys2Proof.Machine.execOutputStart n s
  | .outputStop n => Sys2Proof.Machine.execOutputStop n s
  | .outputUngate n => Sys2Proof.Machine.execOutputUngate n s
  | .commitTrigger slot => Sys2Proof.Machine.execCommitTrigger slot s
  | .stepperStep n => Sys2Proof.Machine.execStepperStep n s
  | .driverFault n present => Sys2Proof.Machine.execDriverFault n present s
  -- Broadcast generators (R214 to R248)
  | .generatorStart g => Sys2Proof.Machine.execGeneratorStart g s
  | .generatorGate g => Sys2Proof.Machine.execGeneratorGate g s
  | .stepRestart g => Sys2Proof.Machine.execStepRestart g s
  | .lehrMovementEnd g => Sys2Proof.Machine.execLehrMovementEnd g s
  | .videoFormatChange n => Sys2Proof.Machine.execVideoFormatChange n s
  | .aesGradeChange n => Sys2Proof.Machine.execAesGradeChange n s
  | .jamArm n transition => Sys2Proof.Machine.execJamArm n transition s
  | .dailyJam n => Sys2Proof.Machine.execDailyJam n s
  | .tcJamApply n => Sys2Proof.Machine.execTcJamApply n s
  | .todgenMessage n => Sys2Proof.Machine.execTodgenMessage n s
  | .generatorOutputFault g present => Sys2Proof.Machine.execGeneratorOutputFault g present s
  -- Ports, PTP and sessions (R250 to R288)
  | .portLinkUp p => Sys2Proof.Machine.execPortLinkUp p s
  | .portLinkDown p => Sys2Proof.Machine.execPortLinkDown p s
  | .ptpReadyAfterLink p => Sys2Proof.Machine.execPtpReadyAfterLink p s
  | .announceReceived p slot head fields => Sys2Proof.Machine.execAnnounceReceived p slot head fields s
  | .syncReceived p slot head twoStep count vernier origin correction => Sys2Proof.Machine.execSyncReceived p slot head twoStep count vernier origin correction s
  | .followUpReceived p slot head origin correction => Sys2Proof.Machine.execFollowUpReceived p slot head origin correction s
  | .delayReqReceived p slot head unicast count vernier correction => Sys2Proof.Machine.execDelayReqReceived p slot head unicast count vernier correction s
  | .delayRespReceived p slot head receive correction => Sys2Proof.Machine.execDelayRespReceived p slot head receive correction s
  | .pdelayReqReceived p slot head count vernier correction => Sys2Proof.Machine.execPdelayReqReceived p slot head count vernier correction s
  | .pdelayRespReceived p slot head count vernier request response => Sys2Proof.Machine.execPdelayRespReceived p slot head count vernier request response s
  | .grantRequestReceived p slot head type log duration pick => Sys2Proof.Machine.execGrantRequestReceived p slot head type log duration pick s
  | .grantReceived session type log duration => Sys2Proof.Machine.execGrantReceived session type log duration s
  | .cancelReceived session type => Sys2Proof.Machine.execCancelReceived session type s
  | .managementReceived p slot head action id => Sys2Proof.Machine.execManagementReceived p slot head action id s
  | .transitFrameReceived p kind length fcsOk auth domainNumber transport residence checksum correction => Sys2Proof.Machine.execTransitFrameReceived p kind length fcsOk auth domainNumber transport residence checksum correction s
  | .arpNdpEchoReceived p kind vlan => Sys2Proof.Machine.execArpNdpEchoReceived p kind vlan s
  | .frameIgnored p => Sys2Proof.Machine.execFrameIgnored p s
  | .ptpMessageSend p slot session kind launch => Sys2Proof.Machine.execPtpMessageSend p slot session kind launch s
  | .frameEnqueue p cls => Sys2Proof.Machine.execFrameEnqueue p cls s
  | .creditsExhausted p cls => Sys2Proof.Machine.execCreditsExhausted p cls s
  | .launchGateOpen p => Sys2Proof.Machine.execLaunchGateOpen p s
  | .frameDeparture p count vernier => Sys2Proof.Machine.execFrameDeparture p count vernier s
  | .frameTransmitDone p => Sys2Proof.Machine.execFrameTransmitDone p s
  | .esmcInformationPdu p => Sys2Proof.Machine.execEsmcInformationPdu p s
  | .esmcEventPdu p => Sys2Proof.Machine.execEsmcEventPdu p s
  | .bmcaPass d => Sys2Proof.Machine.execBmcaPass d s
  | .announceReceiptTimeout p slot => Sys2Proof.Machine.execAnnounceReceiptTimeout p slot s
  | .grantRetryTimeout session type => Sys2Proof.Machine.execGrantRetryTimeout session type s
  | .backoffEnd session type => Sys2Proof.Machine.execBackoffEnd session type s
  | .grantRenew session type => Sys2Proof.Machine.execGrantRenew session type s
  | .grantExpiry session type => Sys2Proof.Machine.execGrantExpiry session type s
  | .portUnbindApply p slot => Sys2Proof.Machine.execPortUnbindApply p slot s
  -- TIC (R296, R297)
  | .ticRawMeasurement n stamps => Sys2Proof.Machine.execTicRawMeasurement n stamps s
  | .ticWindowClose n => Sys2Proof.Machine.execTicWindowClose n s
  -- Table memory (R376 to R391)
  | .fullerFrameRead read => Sys2Proof.Machine.execFullerFrameRead read s
  | .pageRetire lpn cause => Sys2Proof.Machine.execPageRetire lpn cause s
  | .poisonRecovery lpn => Sys2Proof.Machine.execPoisonRecovery lpn s
  | .cacheFill lpn read => Sys2Proof.Machine.execCacheFill lpn read s
  | .cacheWritebackRetire lpn => Sys2Proof.Machine.execCacheWritebackRetire lpn s
  | .memoryTemperature => Sys2Proof.Machine.execMemoryTemperature s
  -- Repair (R451 to R457); `tasks` are the domains whose servo or BMCA task ran there, placed by Holax (R20)
  | .engineFailure c e detector lost => Sys2Proof.Machine.execEngineFailure c e detector lost s
  | .spareRepairComplete c testPassed => Sys2Proof.Machine.execSpareRepairComplete c testPassed s
  | .clusterLost c lost => Sys2Proof.Machine.execClusterLost c lost s
  | .rebalanceComplete c moves => Sys2Proof.Machine.execRebalanceComplete c moves s
  | .vernierBackgroundLoop deviations => Sys2Proof.Machine.execVernierBackgroundLoop deviations s
  | .channelReplaced ch => Sys2Proof.Machine.execChannelReplaced ch s
  -- Fault collection (R423 to R446, R518)
  | .sramScrub array bits => Sys2Proof.Machine.execSramScrub array bits s
  | .countWindowClose source => Sys2Proof.Machine.execCountWindowClose source s
  | .aliveFeedMissed => Sys2Proof.Machine.execAliveFeedMissed s
  | .aliveToggle => Sys2Proof.Machine.execAliveToggle s
  | .ctrlLossTimeout n => Sys2Proof.Machine.execCtrlLossTimeout n s
  | .tempAlert reading => Sys2Proof.Machine.execTempAlert reading s
  | .injectCauseEnd => Sys2Proof.Machine.execInjectCauseEnd s
  -- Performance counters (R510, R511)
  | .pmcSample c k e kernel domain iaddr => Sys2Proof.Machine.execPmcSample c k e kernel domain iaddr s
  | .pmcWrap c which => Sys2Proof.Machine.execPmcWrap c which s
  -- Shadow store (R486 to R495)
  | .storeProgramComplete page verified => Sys2Proof.Machine.execStoreProgramComplete page verified s
  | .slotEraseComplete page => Sys2Proof.Machine.execSlotEraseComplete page s
  | .backgroundStore page => Sys2Proof.Machine.execBackgroundStore page s
  | .timeRecordStore => Sys2Proof.Machine.execTimeRecordStore s
  | .holdupMeasure ms => Sys2Proof.Machine.execHoldupMeasure ms s
  | .ovenHours => Sys2Proof.Machine.execOvenHours s
  -- Mate pair (R463 to R479)
  | .mateLinkTrained peer => Sys2Proof.Machine.execMateLinkTrained peer s
  | .mateLinkDown => Sys2Proof.Machine.execMateLinkDown s
  | .roleClaimTimeout => Sys2Proof.Machine.execRoleClaimTimeout s
  | .roleActRaise => Sys2Proof.Machine.execRoleActRaise s
  | .chgAckRise => Sys2Proof.Machine.execChgAckRise s
  | .snapshotSend => Sys2Proof.Machine.execSnapshotSend s
  | .snapshotReceived snap => Sys2Proof.Machine.execSnapshotReceived snap s
  | .snapshotStale => Sys2Proof.Machine.execSnapshotStale s
  | .sessionEntryFetch session entry => Sys2Proof.Machine.execSessionEntryFetch session entry s
  | .aliveLost => Sys2Proof.Machine.execAliveLost s
  | .linkAndAliveLost => Sys2Proof.Machine.execLinkAndAliveLost s
  | .release => Sys2Proof.Machine.execRelease s
  | .snapshotAdoption instant => Sys2Proof.Machine.execSnapshotAdoption instant s
  | .mateAliveResumed => Sys2Proof.Machine.execMateAliveResumed s
  | .changeoverReceipt received => Sys2Proof.Machine.execChangeoverReceipt received s
  | .sleepPropose => Sys2Proof.Machine.execSleepPropose s
  | .sleepAnswer accept instant => Sys2Proof.Machine.execSleepAnswer accept instant s
  | .sleepCommit instant => Sys2Proof.Machine.execSleepCommit instant s
  | .sleepCancel => Sys2Proof.Machine.execSleepCancel s
  | .sleepEntry => Sys2Proof.Machine.execSleepEntry s
  | .wakeFetchComplete => Sys2Proof.Machine.execWakeFetchComplete s
  | .consoleCharacter char => Sys2Proof.Machine.execConsoleCharacter char s
  | .nextUtcDay d => Sys2Proof.Machine.execNextUtcDay d s
  | .snapMaxAgeExceeded => Sys2Proof.Machine.execSnapMaxAgeExceeded s
  | .mateRequestReceived request => Sys2Proof.Machine.execMateRequestReceived request s

end Sys2Proof.Machine
end

