-- ==== Sys2Proof/Machine/Step.lean ====
section
/-! DEFINITION. One step of the block: the command at the front of the queue, or one tick of the counter. -/

namespace Sys2Proof.Machine

/-- One tick of the free-running counter: it counts once the root has locked since the counter was cleared (R33, R58; log entries 1 and 72). -/
def State.tick (s : State) : State :=
  if s.counting then { s with counter := s.counter + 1 } else s

/-- One step: `exec` of the command at the front of the queue on the state with the queue's rest; on an empty queue the
block idles for one tick of its counter (log entry 1). -/
def step (s : State) : Host.Outcome State Fault Refusal :=
  match s.pending with
  | [] => .next s.tick
  | c :: cs => exec c { s with pending := cs }

/-- The state with the command that a table word spells at the front of its queue; no word spells one. -/
def State.withFetchWord (s : State) (nbits w : Nat) : State :=
  match decodeTableWord nbits w with
  | some c => { s with pending := c :: s.pending }
  | none => s

end Sys2Proof.Machine
end

