-- ==== Sys2Proof/Machine/Signals.lean ====
section
/-! DEFINITION. What the generators and the outputs emit at an instant (R187, R191, R197, R217 to R231, R238): functions of the
state that keep nothing of their own. Layouts of a standard that the spec names and does not repeat are PRESUMED (log entry 89). -/

namespace Sys2Proof.Machine

/-! ### The place of a signal (R217, R218) -/

/-- Where a generator's signal stands in its own time, from alignment point 0 on, in 2^-16 ns: the domain's time less the Lehr error
and the offset; the last unit of a generator that has been disabled goes on to its end. -/
def State.signalPlace (s : State) (g : Nat) : Int :=
  let now := s.lehrTime (s.genDomain g)
  match (s.gen g).ending with
  | some (ends, place) => if now < ends then place - (ends - now) - s.genOffset g else now - s.genLehr g - s.genOffset g
  | none => now - s.genLehr g - s.genOffset g

/-- The number of the period that a place lies in, and the time since it began, rounded down. -/
def periodAt (p : Nat × Nat) (x : Int) : Int := x * p.2 / ((p.1 : Int) * secondUnits)

/-- The alignment points k × S + o of a signal, as domain times rounded down (R217). -/
def State.alignPoint (s : State) (g : Nat) (k : Int) : Int :=
  k * (s.genPeriod g).1 * secondUnits / (s.genPeriod g).2 + s.genOffset g

/-! ### Video (R219 to R222) -/

/-- The lines of a frame, and whether it has two fields. -/
def videoLines (code : Nat) : Nat :=
  if code = 1 then 525 else if code = 2 then 625 else if code ≤ 5 then 750 else 1125
def interlaced (code : Nat) : Bool := [1, 2, 6, 7, 8].contains code

/-- The nominal levels of a format in 0.1 mV (R220). -/
structure VideoLevels where
  syncLow : Int
  syncHigh : Int
  burst : Int
  setup : Int
deriving DecidableEq, Repr

/-- R220: blanking is 0; `bb_setup` gives 525 its setup. -/
def videoLevels (code : Nat) (setup : Bool) : VideoLevels :=
  if code = 1 then { syncLow := -2860, syncHigh := 0, burst := 2860, setup := if setup then 536 else 0 }
  else if code = 2 then { syncLow := -3000, syncHigh := 0, burst := 3000, setup := 0 }
  else { syncLow := -3000, syncHigh := 3000, burst := 0, setup := 0 }

/-- The subcarrier of a black burst in Hz (R220). -/
def subcarrier (code : Nat) : Nat × Nat := if code = 1 then (315000000, 88) else if code = 2 then (443361875, 100) else (0, 1)

/-- The place of a video signal in its sequence: the frame counted from 0 (the example after R248), field and line from 1, the time since
the line began, the colour field of the four or eight and the field of the ten, and the phase of the subcarrier in 2^-16 of a cycle, 0 at
the alignment point (R217, R220, R221). -/
structure VideoPlace where
  frame : Nat
  field : Nat
  line : Nat
  since : Int
  colourField : Nat
  tenField : Nat
  phase : Nat
deriving DecidableEq, Repr

/-- The place of VIDGEN n. -/
def State.videoPlace (s : State) (n : Nat) : VideoPlace :=
  let code := s.attrN Attr.vidgen_format_active n
  let lines := videoLines code
  let x := s.signalPlace n
  let p := videoPeriod code
  let k := periodAt p x
  let inSeq := x - k * p.1 * secondUnits / p.2
  let f := framePeriod code
  let frame := periodAt f inSeq
  let inFrame := inSeq - frame * f.1 * secondUnits / f.2
  let l := periodAt (f.1, f.2 * lines) inFrame
  let half := if interlaced code then periodAt (f.1, f.2 * 2) inFrame else 0
  let fields : Int := 2 * frame + half
  { frame := frame.toNat, field := half.toNat + 1, line := l.toNat + 1
    since := inFrame - l * f.1 * secondUnits / (f.2 * lines)
    colourField := if code = 1 then (fields % 4).toNat + 1 else if code = 2 then (fields % 8).toNat + 1 else 0
    tenField := if code = 1 then (fields % 10).toNat + 1 else 0
    phase := (inSeq * (subcarrier code).1 * 65536 / ((subcarrier code).2 * secondUnits) % 65536).toNat }

/-- The parts of a video line, as `Config.videoPart` numbers them: 0 blanking. -/
inductive VideoPart
  | blanking
  | syncLow
  | syncHigh
  | burst
  | picture
  | identification
deriving DecidableEq, Repr

def VideoPart.ofCode (k : Nat) : VideoPart := [.blanking, .syncLow, .syncHigh, .burst, .picture, .identification].getD k .blanking

/-- What VIDGEN n drives into 75 Ω: the level in 0.1 mV, the burst about it as its peak-to-peak amplitude and its phase. -/
structure VideoSample where
  level : Int := 0
  burst : Int := 0
  phase : Nat := 0
deriving DecidableEq, Repr

/-- The sample of VIDGEN n (R219 to R221): with `tenfield_id` 0 the lines of the identification carry blanking. -/
def State.videoSample (s : State) (n : Nat) : VideoSample :=
  let code := s.attrN Attr.vidgen_format_active n
  let v := s.videoPlace n
  let l := videoLevels code (s.flag Attr.vidgen_bb_setup n)
  match VideoPart.ofCode (Config.videoPart code v.field v.line v.since) with
  | .blanking => {}
  | .syncLow => { level := l.syncLow }
  | .syncHigh => { level := l.syncHigh }
  | .burst => { burst := l.burst, phase := v.phase }
  | .picture => { level := l.setup }
  | .identification => if code = 1 ∧ s.flag Attr.vidgen_tenfield_id n then { level := Config.tenFieldLevel v.tenField v.since } else {}

/-! ### Word clock (R224) -/

/-- The place of a domain time in steps of tick / 64, rounded to the nearest. -/
def DomWords.stepOf (w : DomWords) (t : Int) : Int := (w.anchor : Int) * 64 + (2 * (t - w.offset) * 2 ^ 38 + w.period) / (2 * w.period)

/-- The rising edge of sample period k of AUDGEN m, and the falling edge half a period later, in steps of tick / 64 (R224). -/
def State.wordEdge (s : State) (m : Nat) (k : Int) (falling : Bool) : Int :=
  let fs := s.attrN Attr.audgen_aud_rate m
  let a := (2 * k + (if falling then 1 else 0)) * secondUnits / (2 * fs)
  (s.dom (s.genDomain (8 + m))).words.stepOf (a + s.genLehr (8 + m))

/-- The level of a word clock now. -/
def State.wordLevel (s : State) (m : Nat) : Bool :=
  let k := periodAt (s.genPeriod (8 + m)) (s.signalPlace (8 + m))
  decide ((s.counter : Int) * 64 < s.wordEdge m k true)

/-! ### AES11 (R225, R226) -/

/-- The preambles of AES3. -/
inductive Preamble
  | x
  | y
  | z
deriving DecidableEq, Repr

/-- One time slot of the AES3 framing: the block counted from alignment point 0, its frame, the subframe, the slot, and what it carries. -/
structure AesSlot where
  block : Int
  frame : Nat
  second : Bool
  slot : Nat
  preamble : Option Preamble
  bit : Bool
deriving DecidableEq, Repr

/-- Every block of 192 frames starts with Z (R225). -/
def preambleOf (frame : Nat) (second : Bool) : Preamble := if second then .y else if frame = 0 then .z else .x

/-- The sampling frequency in channel status: bits 6 and 7 of byte 0, and bits 3 to 6 of byte 4. -/
def aesRate (fs : Nat) : Nat × Nat :=
  if fs = 48000 then (2, 0) else if fs = 44100 then (1, 0) else if fs = 32000 then (3, 0)
  else if fs = 96000 then (0, 2) else if fs = 88200 then (0, 10) else (0, 0)

/-- The CRCC of channel status, over bytes sent least significant bit first: x^8 + x^4 + x^3 + x^2 + 1, all ones at first. -/
def crcc (bytes : List Nat) : Nat :=
  (bytes.flatMap fun b => (List.range 8).map fun k => b / 2 ^ k % 2).foldl
    (fun r b => if (r + b) % 2 = 1 then r / 2 ^^^ 0xB8 else r / 2) 255

/-- Four bytes of a sample address, least significant first. -/
def addressBytes (x : Int) : List Nat := (List.range 4).map fun k => (x % 2 ^ 32).toNat / 2 ^ (8 * k) % 256

/-- The domain second at which the local day of a domain time began (R225): with the leap that lies since then, and under the offset in
force at its midnight. -/
def State.localMidnight (s : State) (d : Nat) (a : Int) : Int :=
  let u := s.utcHeld d a
  let day := (u + s.offsetAt d u) / 86400
  let v := day * 86400 - s.offsetAt d (day * 86400 - s.offsetAt d u)
  let m := secondsOf a - (u - v) - (if s.inInserted d a then 1 else 0)
  match (s.dom d).lastLeap with
  | some (t, up) => if m * secondUnits < t ∧ t ≤ a then m - up else m
  | none => m

/-- The channel status block of AES_OUT m whose first sample lies at alignment point k (R225, R226): professional, the rate, the grade;
bytes 14 to 17 the local sample address, 18 to 21 that of the time of day with `aes_tod_code` 1, byte 22 the reliability flags, byte 23
the CRCC. -/
def State.channelStatus (s : State) (m : Nat) (k : Int) : List Nat :=
  let g := 12 + m
  let fs := s.attrN Attr.audgen_aud_rate (4 + m)
  let d := s.genDomain g
  let start := periodAt (s.genPeriod g) (s.gen g).start
  let tod := s.flag Attr.audgen_aes_tod_code (4 + m)
  let grade := if s.attr Attr.audgen_aes_grade (4 + m) = 0 then 1 else 2
  let today := k * 192 - s.localMidnight d (s.alignPoint g k) * fs
  let bytes := [1 + (aesRate fs).1 * 64, 0, 0, 0, grade + (aesRate fs).2 * 8] ++ List.replicate 9 0 ++
    addressBytes (192 * (k - start)) ++ (if tod then addressBytes today else List.replicate 4 0) ++
    [if tod && s.attr Attr.domain_time_status d != 0 then 0 else 128]
  bytes ++ [crcc bytes]

/-- The slot that AES_OUT m emits now: audio samples, validity and user bits are 0; the parity of a subframe is even (R225). -/
def State.aesSlot (s : State) (m : Nat) : AesSlot :=
  let fs := s.attrN Attr.audgen_aud_rate (4 + m)
  let n := periodAt (1, fs * 64) (s.signalPlace (12 + m))
  let frame := (n / 64 % 192).toNat
  let slot := (n % 32).toNat
  let second := decide (32 ≤ n % 64)
  let c := bitOf ((s.channelStatus m (n / 12288)).getD (frame / 8) 0) (frame % 8)
  { block := n / 12288, frame := frame, second := second, slot := slot
    preamble := if slot < 4 then some (preambleOf frame second) else none
    bit := c && (slot == 30 || slot == 31) }

/-! ### Linear timecode (R227, R231) -/

/-- Whether a TCGEN's address repeats the second before an inserted one (R228, R229, R231). -/
def State.tcRepeats (s : State) (n : Nat) : Bool := s.inInserted (s.genDomain (14 + n)) (s.framePoint n (s.frameNow n))

/-- The time zone group (R231): the code of `tc_timebase` LOCAL, 0 under UTC, and bit 6 with `leap_flag` TZ_BIT6 in a repeated second. -/
def State.zoneGroup (s : State) (n : Nat) : Nat :=
  let d := s.genDomain (14 + n)
  let u := s.utcHeld d (s.framePoint n (s.frameNow n))
  (if s.attr Attr.tcgen_tc_timebase n = 0 then s.zoneCode d (s.tcZone n u) else 0) +
    (if s.attr Attr.tcgen_leap_flag n = 0 ∧ s.tcRepeats n then 64 else 0)

/-- The user bits (R231) as eight binary groups: the date's digits from the units of the day to the tens of the year, then the time zone
group; 0 with `tc_date` NONE. -/
def State.userGroups (s : State) (n : Nat) : List Nat :=
  if s.attr Attr.tcgen_tc_date n ≠ 0 then List.replicate 8 0
  else (List.range 6).map (fun k => s.tcDateNow n / 16 ^ k % 16) ++ [s.zoneGroup n % 16, s.zoneGroup n / 16 % 16]

/-- Bits of a number, least significant first. -/
def lsbBits (count x : Nat) : List Bool := (List.range count).map fun k => bitOf x k

/-- The 80 bits of a frame (R227): the address and the binary groups, the drop flag, the colour frame flag 0, the binary group flags of
ST 309, the sync word, and the polarity correction bit that makes the number of zeros even. -/
def State.ltcWord (s : State) (n : Nat) : List Bool :=
  let a := s.tcAddress n
  let rate := s.attrN Attr.tcgen_tc_rate n
  let dated := s.attr Attr.tcgen_tc_date n = 0
  let g := s.userGroups n
  let bg (k : Nat) : List Bool := lsbBits 4 (g.getD k 0)
  let half := rate = 1
  let word (polarity : Bool) : List Bool :=
    lsbBits 4 a ++ bg 0 ++ lsbBits 2 (a / 16) ++ [tcDrop rate, false] ++ bg 1 ++
    lsbBits 4 (a / 2 ^ 8) ++ bg 2 ++ lsbBits 3 (a / 2 ^ 12) ++ [if half then false else polarity] ++ bg 3 ++
    lsbBits 4 (a / 2 ^ 16) ++ bg 4 ++ lsbBits 3 (a / 2 ^ 20) ++ [if half then decide dated else false] ++ bg 5 ++
    lsbBits 4 (a / 2 ^ 24) ++ bg 6 ++ lsbBits 2 (a / 2 ^ 28) ++ [false, if half then polarity else decide dated] ++ bg 7 ++
    lsbBits 16 0xBFFC
  let zeros := (word false).countP (!·)
  word (zeros % 2 == 1)

/-- The level of LTC_OUT n (R227): biphase mark, a transition at the start of every bit and one in the middle of a 1; the frames begin with
a rise. -/
def State.ltcLevel (s : State) (n : Nat) : Bool :=
  let p := s.genPeriod (14 + n)
  let halves := (periodAt (p.1, p.2 * 160) (s.signalPlace (14 + n)) % 160).toNat
  let bits := s.ltcWord n
  let ones := (bits.take (halves / 2)).countP (·)
  let middle := if halves % 2 = 1 ∧ bits.getD (halves / 2) false then 1 else 0
  (halves / 2 + 1 + ones + middle) % 2 == 1

/-! ### Outputs (R187, R191, R197, R238) -/

/-- The pulse that an output emits near a place of its grid falls on the retiming edge nearest to it (R238). -/
def State.pulseEdge (s : State) (o : Nat) (a : Int) : Int :=
  let x := a + s.outLehr o
  x - wrapInto (s.clockPeriod o) (x + stepsInterval (s.activeRatio (o / 4)) (s.outp o).stepper)

/-- The width of a pulse in 2^-16 ns: whole retiming periods (R187). -/
def State.pulseUnits (s : State) (o : Nat) : Int :=
  (widthPeriods (s.activeRatio (o / 4)) (s.activeSetting o) : Int) * (s.clockPeriod o).1 * secondUnits / (s.clockPeriod o).2

/-- The time since a pulse began, of the one in progress or the one before (R187, R191, R238). -/
def State.sincePulse (s : State) (o : Nat) : Int :=
  let now := s.gridTime o - s.outDelay o + s.phaseRemaining o - stepsInterval (s.activeRatio (o / 4)) (s.outp o).stepper
  let p := s.pulsePeriod o
  let k := periodAt p (now - s.outOffset o - s.outLehr o)
  let edge (j : Int) : Int := s.pulseEdge o (s.outOffset o + j * p.1 * secondUnits / p.2)
  if edge (k + 1) ≤ now then now - edge (k + 1) else if edge k ≤ now then now - edge k else now - edge (k - 1)

/-- The level of a running output's P pin: a CLOCK is high for the first half of its period, a PULSE for its width; a transitional period
(R197) is high for its first half, or for the width, and follows the rest of the period before it. -/
def State.outHigh (s : State) (o : Nat) : Bool :=
  let up (since period : Int) : Bool := if (s.outp o).pulse then decide (since < s.pulseUnits o) else decide (2 * since < period)
  let usual := up (if (s.outp o).pulse then s.sincePulse o else s.outPhase o) (periodUnits (s.outPeriod o))
  match (s.outp o).transit with
  | some x =>
    if x.ends ≤ s.counter then usual
    else
      let left : Int := ((x.ends - s.counter : Nat) : Int) * 1310720 / 27
      if left ≤ x.length then up (x.length - left) x.length else up (x.old - (left - x.length)) x.old
  | none => usual

end Sys2Proof.Machine
end

