-- ==== Sys2Proof/Machine/Pins.lean ====
section
/-! DEFINITION. The levels of the pins that follow from the state (R175, R176, R199, R215, R241, R395, R402, R413, R436, R461, R518,
R528, R531): they hold no state of their own. -/

namespace Sys2Proof.Machine

/-- The level of a pin. -/
inductive Pin
  | released
  | low
  | high
deriving DecidableEq, Repr

def Pin.of (high : Bool) : Pin := if high then .high else .low

/-- What a generator's pin carries: released, a video level, a slot of AES3 framing, a logic level, or, at LTC idle, the last level
driven. -/
inductive Signal
  | released
  | video (x : VideoSample)
  | aes (x : AesSlot)
  | logic (high : Bool)
  | held
deriving DecidableEq, Repr

/-- Whether the module is unpowered, held, in a power-up failure's safe-talk or DORMANT: its X outputs are released (R395, R402,
R413). -/
def State.pinsReleased (s : State) : Bool :=
  decide (s.boot.phase = .off) || decide (s.boot.phase = .held) || (decide (s.boot.phase = .safeTalk) && !s.boot.loaded) ||
    decide (s.power = .dormant)

/-- The P and N pins of an output at a level (R199, R209): the types but LVCMOS_PAIR are differential, and `cmos_polarity` COMPLEMENT
inverts the N pin of a pair. -/
def State.pinPair (s : State) (o : Nat) (level : Bool) : Pin × Pin :=
  let same := s.attr Attr.output_driver o == 4 && s.attr Attr.output_cmos_polarity o == 0
  (.of level, .of (if same then level else !level))

/-- SQUELCH_LOW (R199): P low, and N high but for LVCMOS_PAIR, whose pins are both low. -/
def State.squelchLow (s : State) (o : Nat) : Pin × Pin := (.low, if s.attr Attr.output_driver o = 4 then .low else .high)

/-- Whether a signal that has been stepped holds its idle level (R239): from the end of its unit to its restart. -/
def State.genHolds (s : State) (g : Nat) : Bool := (s.gen g).lehr.stepping && decide ((s.gen g).lehr.stepAt ≤ s.lehrTime (s.genDomain g))
def State.outHolds (s : State) (o : Nat) : Bool := (s.outp o).lehr.stepping && decide ((s.outp o).lehr.stepAt ≤ s.outTime o)

/-- OUT0 to OUT31, P and N (R199, R239, R395, R402). -/
def State.outPins (s : State) (o : Nat) : Pin × Pin :=
  if s.pinsReleased then (.released, .released)
  else if decide (s.boot.phase = .running) && decide (s.outState o = .running) then
    s.pinPair o (s.outHigh o && !s.outHolds o)
  else if s.attr Attr.output_safe_action o = 1 then (.released, .released)
  else s.squelchLow o

/-- The idle levels (R213, R538): 0 V, low, the last level driven, mark. -/
def genIdle (g : Nat) : Signal := if g < 8 then .video {} else if g < 14 then .logic false else if g < 16 then .held else .logic true

/-- Whether a generator drives its signal: running, or ending the unit in progress (R214, R215, R239). -/
def State.genDrives (s : State) (g : Nat) : Bool :=
  decide (s.boot.phase = .running) &&
    ((decide (s.genState g = .running) && !s.genHolds g) ||
      (match (s.gen g).ending with
       | some e => decide (s.lehrTime (s.genDomain g) < e.1)
       | none => false))

/-- The pins of the generators (R212 to R215, R395): the signal, or the idle level. A TODGEN's characters are its messages (R233). -/
def State.genPin (s : State) (g : Nat) : Signal :=
  if s.pinsReleased ∧ (s.boot.phase = .off ∨ s.power = .dormant) then .released
  else if s.pinsReleased ∧ 14 ≤ g ∧ g < 16 then .logic false
  else if !s.genDrives g then genIdle g
  else if g < 8 then .video (s.videoSample g)
  else if g < 12 then .logic (s.wordLevel (g - 8))
  else if g < 14 then .aes (s.aesSlot (g - 12))
  else if g < 16 then .logic (s.ltcLevel (g - 14))
  else genIdle g

/-- The duty of one DPLL on a LOCKA pin, in 1/256 (R176): that of the last sample in ACQUIRE and LOCKED, HOLD_OFF included, else
0. -/
def State.lockDuty (s : State) (n : Nat) : Nat := if s.dpllState n = .acquire ∨ s.dpllState n = .locked then (s.dpll n).duty else 0

/-- The duty of LOCKA0 or LOCKA1 (R175, R176): the least of its set; an empty set drives the pin low. -/
def State.lockaDuty (s : State) (pin : Nat) : Nat :=
  let set := s.attrN (if pin = 0 then Attr.locka0_set else Attr.locka1_set)
  let members := (List.range 16).filter (bitOf set)
  if members.isEmpty || !s.timing then 0 else (members.map s.lockDuty).foldl min 256

/-- The level of LOCKA0 or LOCKA1 (R176): bit `counter` / 128 of a first-order pulse-density stream of its duty, whose accumulator
stands at 0 at counter value 0 (DESIGN CHOICE, log entry 85). -/
def State.lockaLevel (s : State) (pin : Nat) : Bool :=
  let i := s.counter / 128
  decide (i * s.lockaDuty pin / 256 < (i + 1) * s.lockaDuty pin / 256)

/-- ALIVE (R395, R402, R436): static low until step 9 ends and in safe-talk. -/
def State.aliveLevel (s : State) : Bool := decide (s.boot.phase = .running) && s.faults.alivePin

/-- ROLE_ACT and CHG_REQ (R461, R462): low in reset and safe-talk. -/
def State.roleActLevel (s : State) : Bool := decide (s.boot.phase = .running) && s.mate.roleAct
def State.chgReqLevel (s : State) : Bool := decide (s.boot.phase = .running) && s.paired_ && s.mate.claim

/-- INT_N low (R315, R435), TEMP_ALERT_N low (R518), PWR_GOOD high (R528), HOLAX_UP (R315, R403). -/
def State.intNLow (s : State) : Bool := s.intLow
def State.tempAlertNLow (s : State) : Bool := s.boot.tempAlert
def State.pwrGoodLevel (s : State) : Bool := s.boot.pwrGood
def State.holaxUpBit (s : State) : Bool := s.holaxUp

/-- Whether ETHp's transmitter is on (R250, R395, R431). -/
def State.transmitterOn (s : State) (p : Nat) : Bool :=
  s.timing && s.flag Attr.port_enable p && !s.portForced p

end Sys2Proof.Machine
end

