-- ==== Sys2Proof/WellFormed.lean ====
section
/-! DEFINITION. What a well-formed command is: each field of a payload or a register fits the width that its table gives it (R77,
R148, R179, R208, R247, R287, R309, R323, R343, R348 to R351, R357), and each list has a length that can be. The meanings
stand for every command; a command that is not well-formed cannot be sent. -/

namespace Sys2Proof

/-- An unsigned field of `w` bits. -/
def natFits (w v : Nat) : Bool := decide (v < 2 ^ w)
/-- A signed field of `w` bits. -/
def intFits (w : Nat) (v : Int) : Bool := decide (-(2 ^ (w - 1) : Nat) ≤ v) && decide (v < (2 ^ (w - 1) : Nat))

/-- A buffer by pointer (R343): a 64-bit address and a 32-bit length. -/
def HostBuf.wellFormed (b : HostBuf) : Bool := natFits 64 b.addr && natFits 32 b.len

/-- The fields of a calendar instant (R77). -/
def CivilTime.wellFormed (c : CivilTime) : Bool :=
  natFits 16 c.year && natFits 8 c.month && natFits 8 c.day && natFits 8 c.hour && natFits 8 c.minute && natFits 8 c.second

/-- What an image carries (R400): a version, an ID, and lists of at most 32 IDs, 8 steppings and 32 IDs. -/
def ImageHead.wellFormed (h : ImageHead) : Bool :=
  natFits 24 h.version && natFits 32 h.id && decide (h.table.length ≤ 32) && decide (h.steppings.length ≤ 8) && decide (h.mateTable.length ≤ 32) &&
    h.table.all (natFits 32) && h.steppings.all (natFits 8) && h.mateTable.all (natFits 32)

/-- What a power-up finds (R393): a 16-bit code, nine durations, engines as 9 × cluster + physical engine, and stamping channels 0 to
51. -/
def BootEnv.wellFormed (e : BootEnv) : Bool :=
  natFits 16 e.failCode && e.stepTimes.length == 9 && e.failedEngines.all (fun x => decide (x < 144)) &&
    e.failedChannels.all (fun x => decide (x < 52))

/-- What a decode finds (R368, R376): rising bit positions of the code word of 34,816 bits, and at most the two retries and their
failure. -/
def FrameRead.wellFormed (r : FrameRead) : Bool :=
  decide (r.tries ≤ 3) && (r.positions.all fun x => decide (x < 34816)) && decide (r.positions.Pairwise (· < ·))

/-- Whether a command is well-formed. -/
def Instr.wellFormed : Instr → Bool
  | .vmainApplied env => env.wellFormed
  | .resetNAsserted => true
  | .resetNReleased env => env.wellFormed
  | .pfNAsserted => true
  | .vmainBelowThreshold => true
  | .powerFailStoreComplete _ => true
  | .supplyRestored => true
  | .holdupExhausted => true
  | .perstNAsserted => true
  | .pcieHotReset => true
  | .pcieFlr => true
  | .pcieLinkDown => true
  | .pcieCorrectableErrors => true
  | .pcieUncorrectableError => true
  | .gafferWatchdogExpiry => true
  | .gafferLockstepMismatch => true
  | .gafferRestartComplete => true
  | .warmResetComplete failed _ => failed.all fun x => decide (x < 144)
  | .get _ inst attr first count buf => natFits 16 inst && natFits 16 attr && natFits 16 first && natFits 16 count && buf.wellFormed
  | .set _ inst attr first count value =>
    natFits 16 inst && natFits 16 attr && natFits 16 first && natFits 16 count && decide (value.length ≤ 4088)
  | .bulkGet _ buf items => buf.wellFormed && decide (items.length ≤ 256) && (items.all fun e => natFits 16 e.1 && natFits 16 e.2)
  | .subscribe _ first count on => natFits 16 first && natFits 16 count && natFits 8 on
  | .oscReadmit _ member _ => natFits 8 member
  | .oscExclude _ member => natFits 8 member
  | .warmReset _ => true
  | .reboot _ slot env => natFits 8 slot && env.wellFormed
  | .restoreFactory _ confirm env => natFits 32 confirm && env.wellFormed
  | .fwBegin _ slot total => natFits 8 slot && natFits 32 total
  | .fwWrite _ offset length data _ _ => natFits 32 offset && natFits 16 length && data.length == length
  | .fwFinish _ slot crc _ _ holax batt => natFits 8 slot && natFits 32 crc && holax.wellFormed && batt.wellFormed
  | .fwActivate _ slot => natFits 8 slot
  | .selfTestReport _ => true
  | .logRead _ log count first buf => natFits 8 log && natFits 16 count && natFits 64 first && buf.wellFormed
  | .timeRead _ domains buf => buf.wellFormed && decide (domains.length ≤ 8) && domains.all (natFits 16)
  | .setPower _ state => natFits 8 state
  | .powerTransitionComplete env => env.wellFormed
  | .factoryEnter _ token => token.length == 16
  | .setCandidates _ selector entries => natFits 8 selector && decide (entries.length ≤ 24) && entries.all (natFits 32)
  | .select _ selector mode index => natFits 8 selector && natFits 8 mode && natFits 8 index
  | .lockout _ selector index on => natFits 8 selector && natFits 8 index && natFits 8 on
  | .clearWtr _ selector index => natFits 8 selector && natFits 8 index
  | .align _ selector => natFits 8 selector
  | .dpllOpen _ dpll => natFits 8 dpll
  | .dpllClose _ dpll _ => natFits 8 dpll
  | .setFreq _ dpll word => natFits 8 dpll && intFits 64 word
  | .nudgePhase _ dpll interval => natFits 8 dpll && intFits 64 interval
  | .resetHistory _ dpll => natFits 8 dpll
  | .synCommit _ slot trigger edgeOutput synMask outMask domain time =>
    natFits 8 slot && natFits 8 trigger && natFits 8 edgeOutput && natFits 8 synMask && natFits 32 outMask && natFits 16 domain && natFits 128 time
  | .synCancel _ slot => natFits 8 slot
  | .synRetune _ syn => natFits 8 syn
  | .domainCreate _ domain timescale source => natFits 16 domain && natFits 8 timescale && natFits 16 source
  | .domainDelete _ domain => natFits 16 domain
  | .domainAssign _ domain client => natFits 16 domain && natFits 16 client
  | .domainBind _ domain dpll => natFits 16 domain && natFits 8 dpll
  | .domainUnbind _ domain dpll => natFits 16 domain && natFits 8 dpll
  | .setTime _ domain time _ => natFits 16 domain && natFits 128 time
  | .setCalendar _ domain civil nanoseconds _ => natFits 16 domain && natFits 32 nanoseconds && civil.wellFormed
  | .adjFreq _ domain ppt _ => natFits 16 domain && intFits 32 ppt
  | .adjPhase _ domain mode interval _ => natFits 16 domain && natFits 8 mode && intFits 64 interval
  | .scheduleLeap _ domain year month day kind => natFits 16 domain && natFits 16 year && natFits 8 month && natFits 8 day && natFits 8 kind
  | .setTz _ domain entries => natFits 16 domain && decide (entries.length ≤ 32) && entries.all (natFits 128)
  | .domainReset _ domain _ => natFits 16 domain
  | .vidgenDoStep _ n => natFits 8 n
  | .audgenDoStep _ n => natFits 8 n
  | .tcgenDoStep _ n => natFits 8 n
  | .outputDoStep _ n => natFits 8 n
  | .tcgenJam _ n => natFits 8 n
  | .portBind _ port slot entry => natFits 8 port && natFits 8 slot && natFits 256 entry
  | .portUnbind _ port slot => natFits 8 port && natFits 8 slot
  | .loadKey _ slot spp icvLen keyId key => natFits 8 slot && natFits 8 spp && natFits 8 icvLen && natFits 32 keyId && natFits 256 key
  | .eraseKey _ slot => natFits 8 slot
  | .hostq _ queue port client policy => natFits 8 queue && natFits 8 port && natFits 16 client && natFits 8 policy
  | .portSend _ queue flags tsOffset domain length _ _ _ =>
    natFits 8 queue && natFits 8 flags && natFits 16 tsOffset && natFits 16 domain && natFits 16 length
  | .ticRestart _ tic => natFits 8 tic
  | .ticRead _ tic count first buf => natFits 8 tic && natFits 16 count && natFits 64 first && buf.wellFormed
  | .faultAck _ source => natFits 16 source
  | .faultClear _ source => natFits 16 source
  | .faultInject _ checker bits target => natFits 8 checker && natFits 8 bits && natFits 32 target
  | .faultList _ first count buf => natFits 16 first && natFits 16 count && buf.wellFormed
  | .storeCommit _ first count => natFits 16 first && natFits 16 count
  | .mateChangeover _ _ => true
  | .mateSleep _ => true
  | .mateWake _ => true
  | .mateLinkReset _ => true
  | .sessionOpen _ port slot addrType address _ => natFits 8 port && natFits 8 slot && natFits 8 addrType && natFits 128 address
  | .sessionClose _ session => natFits 16 session
  | .cmdPiWrite _ value => natFits 32 value
  | .commandFetch _ entry _ _ => entry.length == 64
  | .completionWrite _ _ => true
  | .cplCiWrite _ value => natFits 32 value
  | .evtCiWrite _ value => natFits 32 value
  | .ringEnable _ cfg => natFits 32 cfg
  | .ringDisable _ cfg => decide (cfg < 2 ^ 31)
  | .ringDrained _ => true
  | .irqArmWrite _ value => natFits 32 value
  | .evtLostRead _ => true
  | .intStatusWrite _ value => natFits 32 value
  | .aliveFeedWrite _ => true
  | .twBaseWrite _ _ value => natFits 32 value
  | .tlCtrlWrite _ value => natFits 32 value
  | .msixUnmask _ => true
  | .registerWrite bar4 offset value _ => natFits 32 value && decide (offset < if bar4 then 2 ^ 16 else 2 ^ 21)
  | .bar2Write offset bytes read => decide (offset + bytes.length ≤ 2 ^ 26) && decide (offset % 4096 + bytes.length ≤ 4096) && read.wellFormed
  | .eventRecordDelivery _ _ => true
  | .eventOverflowRecord _ _ => true
  | .spiWrite address _ => decide (address < 8192)
  | .spiRead address _ => decide (address < 8192)
  | .spiGo => true
  | .spiEvtPop => true
  | .spiCommandDone => true
  | .consoleLine env => env.boot.wellFormed && decide (env.data.length ≤ 4096)
  | .hostFeedTimeout => true
  | .comparatorMeasurement _ _ _ _ => true
  | .rootPhaseSteer _ => true
  | .outvoteEvaluation _ => true
  | .weightRecompute variances _ => variances.length == 4
  | .ovenJoin _ => true
  | .ovenFault _ => true
  | .warmupTimeout => true
  | .readmitConditionMet _ => true
  | .readmitRampComplete _ => true
  | .modelFitUpdate _ => true
  | .ambientGradient => true
  | .rootUnlock => true
  | .domainUpdateApply _ => true
  | .slewEnd _ => true
  | .leapSecond _ => true
  | .tzTableApply _ => true
  | .tzTransition _ => true
  | .inputEdge _ _ vernier _ => natFits 10 vernier
  | .losTimeout _ => true
  | .freqGateComplete _ => true
  | .soakExpiry _ => true
  | .driftEvaluation _ => true
  | .wanderEvaluation _ => true
  | .msgTimeout _ => true
  | .esmcPduReceived _ _ _ => true
  | .timeEventMessage _ _ _ => true
  | .timeAnnounceMessage _ _ _ _ _ _ _ => true
  | .nmeaZda _ _ civil => civil.wellFormed
  | .nmeaRmc _ _ civil _ => civil.wellFormed
  | .videoFormatDetected _ _ => true
  | .ltcFrameDecoded _ _ civil _ _ _ vernier => natFits 10 vernier && civil.wellFormed
  | .ltcDiscardWindowClear _ => true
  | .selectorDecision _ _ => true
  | .wtrExpiry _ _ => true
  | .holdOffExpiry _ _ => true
  | .servoUpdate _ _ _ _ _ => true
  | .domainRefStale _ => true
  | .pktHoldLimitExpiry _ => true
  | .pdSample _ _ _ => true
  | .lockAcquired _ => true
  | .settlingEnd _ => true
  | .slopeMovementComplete _ => true
  | .teEstimateEval _ => true
  | .holdoverWordRefresh _ => true
  | .dpllPost _ _ => true
  | .ledgerRecord _ => true
  | .ledgerDrain _ => true
  | .holdoverSummaryStore => true
  | .calibrationComplete _ => true
  | .calibrationFailure _ => true
  | .retuneComplete _ => true
  | .synthesiserUnlock _ => true
  | .tuningMarginLow _ _ => true
  | .outputStart _ => true
  | .outputStop _ => true
  | .outputUngate _ => true
  | .commitTrigger _ => true
  | .stepperStep _ => true
  | .driverFault _ _ => true
  | .generatorStart _ => true
  | .generatorGate _ => true
  | .stepRestart _ => true
  | .lehrMovementEnd _ => true
  | .videoFormatChange _ => true
  | .aesGradeChange _ => true
  | .jamArm _ _ => true
  | .dailyJam _ => true
  | .tcJamApply _ => true
  | .todgenMessage _ => true
  | .generatorOutputFault _ _ => true
  | .portLinkUp _ => true
  | .portLinkDown _ => true
  | .ptpReadyAfterLink _ => true
  | .announceReceived _ _ _ _ => true
  | .syncReceived _ _ _ _ _ vernier _ _ => natFits 10 vernier
  | .followUpReceived _ _ _ _ _ => true
  | .delayReqReceived _ _ _ _ _ vernier _ => natFits 10 vernier
  | .delayRespReceived _ _ _ _ _ => true
  | .pdelayReqReceived _ _ _ _ vernier _ => natFits 10 vernier
  | .pdelayRespReceived _ _ _ _ vernier _ _ => natFits 10 vernier
  | .grantRequestReceived _ _ _ _ _ _ _ => true
  | .grantReceived _ _ _ _ => true
  | .cancelReceived _ _ => true
  | .managementReceived _ _ _ _ _ => true
  | .transitFrameReceived _ _ _ _ _ _ _ _ checksum _ => natFits 16 checksum
  | .arpNdpEchoReceived _ _ _ => true
  | .frameIgnored _ => true
  | .ptpMessageSend _ _ _ _ _ => true
  | .frameEnqueue _ _ => true
  | .creditsExhausted _ _ => true
  | .launchGateOpen _ => true
  | .frameDeparture _ _ vernier => natFits 10 vernier
  | .frameTransmitDone _ => true
  | .esmcInformationPdu _ => true
  | .esmcEventPdu _ => true
  | .bmcaPass _ => true
  | .announceReceiptTimeout _ _ => true
  | .grantRetryTimeout _ _ => true
  | .backoffEnd _ _ => true
  | .grantRenew _ _ => true
  | .grantExpiry _ _ => true
  | .portUnbindApply _ _ => true
  | .ticRawMeasurement _ _ => true
  | .ticWindowClose _ => true
  | .fullerFrameRead read => read.wellFormed
  | .pageRetire _ _ => true
  | .poisonRecovery _ => true
  | .cacheFill _ read => read.wellFormed
  | .cacheWritebackRetire _ => true
  | .memoryTemperature => true
  | .engineFailure _ _ _ _ => true
  | .spareRepairComplete _ _ => true
  | .clusterLost _ _ => true
  | .rebalanceComplete _ _ => true
  | .vernierBackgroundLoop _ => true
  | .channelReplaced _ => true
  | .sramScrub _ _ => true
  | .countWindowClose _ => true
  | .aliveFeedMissed => true
  | .aliveToggle => true
  | .ctrlLossTimeout _ => true
  | .tempAlert _ => true
  | .injectCauseEnd => true
  | .pmcSample _ _ _ _ _ iaddr => natFits 32 iaddr
  | .pmcWrap _ _ => true
  | .storeProgramComplete _ _ => true
  | .slotEraseComplete _ => true
  | .backgroundStore _ => true
  | .timeRecordStore => true
  | .holdupMeasure _ => true
  | .ovenHours => true
  | .mateLinkTrained _ => true
  | .mateLinkDown => true
  | .roleClaimTimeout => true
  | .roleActRaise => true
  | .chgAckRise => true
  | .snapshotSend => true
  | .snapshotReceived _ => true
  | .snapshotStale => true
  | .sessionEntryFetch _ _ => true
  | .aliveLost => true
  | .linkAndAliveLost => true
  | .release => true
  | .snapshotAdoption _ => true
  | .mateAliveResumed => true
  | .changeoverReceipt _ => true
  | .sleepPropose => true
  | .sleepAnswer _ _ => true
  | .sleepCommit _ => true
  | .sleepCancel => true
  | .sleepEntry => true
  | .wakeFetchComplete => true
  | .consoleCharacter char => natFits 8 char
  | .nextUtcDay _ => true
  | .snapMaxAgeExceeded => true
  | .mateRequestReceived _ => true

end Sys2Proof
end

