-- ==== Sys2Proof/Safety.lean ====
section
/-! DEFINITION. The terms in which claims about the block are stated: when a command is served, how it is answered, which
parts of the state a command leaves alone, and the invariants of the machine. -/

namespace Sys2Proof.Machine

/-! ### Served and answered -/

/-- A command of this issuer is served with the full command set, and its completion is not discarded (R312, R336, R364). -/
def State.serves (s : State) (who : Issuer) : Prop :=
  s.service who = .full ∧
    match who with
    | .ring c g => s.host.orphans.contains (c.val, g.val) = false
    | _ => True

/-- The newest answer to an issuer carries this opcode and status (R324, R339): a completion that waits to be written, or the
console's line. -/
def State.answered (t : State) (who : Issuer) (opcode status : Nat) : Prop :=
  match who with
  | .console => ∃ name signed bytes, t.out = .console name signed status bytes :: t.out.tail
  | _ => ∃ d, t.host.completed.getLast? = some d ∧ d.who = who ∧ d.opcode = opcode ∧ d.status = status

/-- The result that the newest answer carries (R359). -/
def State.resultOf (t : State) (who : Issuer) : List Byte :=
  match who with
  | .console =>
    match t.out with
    | .console _ _ _ r :: _ => r
    | _ => []
  | _ =>
    match t.host.completed.getLast? with
    | some d => d.result
    | none => []

/-- A result handed over by pointer (R337, R343): to host memory, to the SPI data buffer, or on the console before its answer. -/
def State.handed (s t : State) (who : Issuer) (buf : HostBuf) (bytes : List Byte) : Prop :=
  match who with
  | .ring _ _ => t.out = .hostWrite buf.addr bytes :: s.out
  | .spi => t.host.spi.buffer = tblSetRun (0 : Byte) s.host.spi.buffer buf.addr bytes
  | .console => t.out.tail = .consoleValue s.host.console.asked s.host.console.signed bytes :: s.out

/-! ### Frames -/

/-- The parts of the state. -/
inductive Part
  | counter | attrs | crucible | doms | inputs | uarts | factory | sels | dplls | syns | outs | arms | gens | faults | host | tm | store | boot
  | net | tics | repair | pmcs | mate | pending | freeCount | out
deriving DecidableEq, Repr

/-- A part holds in `t` what it holds in `s`. -/
def State.same (s t : State) : Part → Prop
  | .counter => t.counter = s.counter
  | .attrs => t.attrs = s.attrs
  | .crucible => t.crucible = s.crucible
  | .doms => t.doms = s.doms
  | .inputs => t.inputs = s.inputs
  | .uarts => t.uarts = s.uarts
  | .factory => t.factory = s.factory
  | .sels => t.sels = s.sels
  | .dplls => t.dplls = s.dplls
  | .syns => t.syns = s.syns
  | .outs => t.outs = s.outs
  | .arms => t.arms = s.arms
  | .gens => t.gens = s.gens
  | .faults => t.faults = s.faults
  | .host => t.host = s.host
  | .tm => t.tm = s.tm
  | .store => t.store = s.store
  | .boot => t.boot = s.boot
  | .net => t.net = s.net
  | .tics => t.tics = s.tics
  | .repair => t.repair = s.repair
  | .pmcs => t.pmcs = s.pmcs
  | .mate => t.mate = s.mate
  | .pending => t.pending = s.pending
  | .freeCount => t.freeCount = s.freeCount
  | .out => t.out = s.out

/-- Every part but the listed ones is unchanged. -/
def State.sameBut (s t : State) (parts : List Part) : Prop := ∀ p, p ∉ parts → s.same t p

/-- Every attribute but those with the listed keys is unchanged. -/
def State.attrsBut (s t : State) (keys : List Nat) : Prop := ∀ k, k ∉ keys → tblFind t.attrs k = tblFind s.attrs k

/-- The attributes that the book-keeping of a completion or an occurrence may change beside a command's own: the background
store that makes room for a DIRTY page (R485, R487, R491), the check of the frame that takes the audit record (R374, R375),
and the counts of outputs forced and frames dropped by a SEVERE latch (R209, R431). -/
def bookAttrs : List Nat :=
  [Attr.store_dirty_waits.id, Attr.store_wear.id, Attr.store_last_txn.id, Attr.ce_counts.id, Attr.ce_log.id,
   Attr.output_safe_entries.id, Attr.port_tx_drops.id]

/-- Every attribute but those with the listed keys and those of the book-keeping is unchanged. -/
def State.attrsKept (s t : State) (keys : List Nat) : Prop :=
  ∀ k, k ∉ keys → keyId k ∉ bookAttrs → tblFind t.attrs k = tblFind s.attrs k

/-- Every byte of table memory outside `n` bytes from `a` on is unchanged. -/
def State.memBut (s t : State) (a n : Nat) : Prop := ∀ x, x < a ∨ a + n ≤ x → t.tm.byte x = s.tm.byte x

/-- What a command of the host may change beside `parts`, the attributes with the listed keys, and nothing more: the book-keeping
of its completion. That writes one record of the audit log (R355), and may store a DIRTY page in the background (R491); it may
latch only the sources of those two, 387, 600 and 601; it leaves the rings, the commands in flight and the subscriptions
alone. -/
def State.framed (s t : State) (parts : List Part) (keys : List Nat) : Prop :=
  s.sameBut t (parts ++ [.attrs, .faults, .tm, .store, .host, .out]) ∧ s.attrsKept t keys ∧ s.memBut t s.auditSlot 32 ∧
    t.host.rings = s.host.rings ∧ t.host.inflight = s.host.inflight ∧ t.faults.subs = s.faults.subs ∧
      ∀ ev, ev ≠ 387 → ev ≠ 600 → ev ≠ 601 → t.latch ev = s.latch ev

/-- As `framed`, for a command that raises sources of its own: an occurrence of a SEVERE class may besides drop the frames of the
ports that it forces idle and complete their sends (R431). -/
def State.framedRaise (s t : State) (parts : List Part) (keys : List Nat) : Prop :=
  s.sameBut t (parts ++ [.attrs, .faults, .tm, .store, .host, .out, .net]) ∧ s.attrsKept t keys ∧ t.host.rings = s.host.rings

/-! ### Start-up -/

/-- Nothing stops the power-up sequence of this module (R393, R394): no step and no self-test fails, the FACTORY pages are there,
the image of a slot boots, and no repair record takes an engine or a channel out of the map. -/
def State.startsUp (s : State) (env : BootEnv) (slot : Nat) : Prop :=
  env.failAt = none ∧ env.failedEngines = [] ∧ env.failedChannels = [] ∧ s.factoryLost = false ∧ slot ≤ 1 ∧
    s.slotBoots env slot = true ∧
    ∀ b k, (s.page 66).pick = some b → k < 48 →
      bitOf (tblGet (if b then (s.page 66).b else (s.page 66).a).data 0 (Attr.repair_records.key 0 k)).toNat 22 = false

/-- The module serves at the end of the power-up sequence (R396, R403, R412). -/
def State.started (t : State) (cause : Int) : Prop :=
  t.boot.phase = .running ∧ t.boot.lastStep = 9 ∧ t.boot.failingStep = 255 ∧ t.boot.failCode = 0 ∧ t.boot.gafferUp = true ∧
    t.attr Attr.power_state = 0 ∧ t.attr Attr.reset_cause = cause

/-! ### Invariants -/

/-- The slots of a commit group are numbered 0 to 7, each is listed once, and no synthesiser or output is a member of two armed
slots (R196, R198). -/
def State.armsExclusive (s : State) : Prop :=
  tblSorted s.arms = true ∧ (∀ x ∈ s.arms, x.1 < 8) ∧
    ∀ x ∈ s.arms, ∀ y ∈ s.arms, x.1 ≠ y.1 →
      (∀ n, n < 8 → ¬ (bitOf x.2.synMask n = true ∧ bitOf y.2.synMask n = true)) ∧
        ∀ o, o < 32 → ¬ (bitOf x.2.outMask o = true ∧ bitOf y.2.outMask o = true)

/-- The commands that clear the free-running counter: a power-on and RESET_N (R58). -/
def clearsCounter : Instr → Bool
  | .vmainApplied _ => true
  | .resetNAsserted => true
  | .resetNReleased _ => true
  | .holdupExhausted => true
  | _ => false

/-- A run is safe where every step has a next state. -/
def safeStep (s : State) : Prop := ∃ t, step s = .next t

end Sys2Proof.Machine
end

