-- ==== Sys2Proof/Certificates/Slice0/Obligations.lean ====
section
/-! DEFINITION. The statements about the block, for the provers. -/

open Sys2Proof Sys2Proof.Machine

/-- For every command c and state s whose queue is c followed by cs, step of s is exec of c on s with the queue cs. -/
def Obligations.StepTakesFront : Prop :=
  ∀ (c : Instr) (cs : List Instr) (s : State), s.pending = c :: cs → step s = exec c { s with pending := cs }

/-- With an empty queue, step answers a next state in which the free-running counter is one higher where it counts and unchanged
where it does not, and every other part is unchanged. That the model's idle step is one tick is its own choice (log entry 1). -/
def Obligations.IdleCounts : Prop :=
  ∀ s : State, s.pending = [] →
    ∃ t, step s = .next t ∧ t.counter = (if s.counting then s.counter + 1 else s.counter) ∧ s.sameBut t [.counter]

/-- After the first power-on the counter is 0, no commit slot is armed, every ring and latch is clear, no input, selector or DPLL
has a source, table memory holds zeros in its canonical form, power_cycles is 1, warm-up is under way with osc_state WARMUP
for the three ovens and ABSENT for the external member, and the queue is empty. -/
def Obligations.ResetState : Prop :=
  State.reset.counter = 0 ∧ State.reset.arms = [] ∧ State.reset.armsExclusive ∧ Memory.wf State.reset.tm = true ∧
    (∀ a, State.reset.tm.byte a = 0) ∧ (∀ c, State.reset.ring c = {}) ∧ (∀ ev, (State.reset.latch ev).latched = false) ∧
    (∀ n, (State.reset.sel n).source = none) ∧ State.reset.attr Attr.store_power_cycles = 1 ∧
    State.reset.attr Attr.warmup_state = WarmupState.warmUp.code ∧
    (∀ m, m < 3 → State.reset.osc m = .warmup) ∧ State.reset.osc 3 = .absent ∧ State.reset.boot.phase = .running ∧
    State.reset.pending = []

/-- Every step keeps the invariant that the armed commit slots are listed once each under the numbers 0 to 7 and that no
synthesiser and no output is a member of two of them. -/
def Obligations.ArmsExclusiveKept : Prop :=
  ∀ s t : State, s.armsExclusive → step s = .next t → t.armsExclusive

/-- No command but those of a power-on and of RESET_N lowers the free-running counter, and an idle step does not lower it either. -/
def Obligations.CounterNeverBack : Prop :=
  (∀ (c : Instr) (s t : State), clearsCounter c = false → exec c s = .next t → s.counter ≤ t.counter) ∧
    ∀ s t : State, s.pending = [] → step s = .next t → s.counter ≤ t.counter

/-- Where the listed bytes of table memory have strictly rising addresses and none equals 0 (what an unlisted byte reads as, a
reading the rules of initialisation give), they have so after every step. The sparse form itself is the model's own. -/
def Obligations.TableMemoryCanonicalKept : Prop :=
  ∀ s t : State, Memory.wf s.tm = true → step s = .next t → Memory.wf t.tm = true

/-- A write of bytes within the logical space to a page that is not poisoned gives each named byte its new value and leaves every
other byte as it was; a write to a poisoned page or beyond the logical space changes nothing. -/
def Obligations.TableMemoryWrite : Prop :=
  (∀ (s : State) (a : Nat) (bs : List Byte), a + bs.length ≤ tmSize → s.poisoned (a / 4096) = false →
    (∀ k (h : k < bs.length), (s.tmWrite a bs).tm.byte (a + k) = bs[k]) ∧ s.memBut (s.tmWrite a bs) a bs.length) ∧
  (∀ (s : State) (a : Nat) (bs : List Byte), tmSize < a + bs.length ∨ s.poisoned (a / 4096) = true → s.tmWrite a bs = s)

/-- An action whose issuer lacks the right completes with E_DENIED; one that a condition refuses completes with the status of the
first such condition; either changes nothing but the audit record and book-keeping of its completion. A command that is not
served leaves the state as it is. -/
def Obligations.RefusedChangesNothing : Prop :=
  (∀ (s : State) (who : Issuer) (a : Action) (f : State → State), s.serves who → a.reachable = true → s.permits who a.right = false →
      (s.act who a f).answered who a.opcode E_DENIED ∧ s.framed (s.act who a f) [] []) ∧
  (∀ (s : State) (who : Issuer) (a : Action) (f : State → State) (code : Nat), s.serves who → a.reachable = true →
      s.permits who a.right = true → firstRefusal a.refusals = some code →
      (s.act who a f).answered who a.opcode code ∧ s.framed (s.act who a f) [] []) ∧
  (∀ (s : State) (who : Issuer) (a : Action) (f : State → State), s.service who = .unserved → s.act who a f = s)

/-- GET of a run that the attribute has, of at most 16 bytes without a buffer or into a buffer that holds it, completes with the
bytes of the elements, inline or through the buffer, and changes no attribute, no table memory and no other part of the
module. BULK_GET of 1 to 256 items into a buffer that holds the result hands over status, length, value and padding of each
item and changes nothing else. SUBSCRIBE by a client other than 0 subscribes it to, or unsubscribes it from, exactly the
sources of the run. Commands shown to complete, each under the conditions its clause puts on the state and the operands: GET,
BULK_GET, SUBSCRIBE. -/
def Obligations.ReadingVerbs : Prop :=
  (∀ (s : State) (who : Issuer) (inst first count n : Nat) (a : AttrDesc) (buf : HostBuf), s.serves who → Attr.find a.id = some a →
      s.permits who (s.readRight (some a) inst) = true → a.runOf first count = some n → inst < a.obj.instances →
      s.readState a inst = false → buf.addr = 0 → n * a.bytes ≤ 16 →
    ∃ t, exec (.get who inst a.id first count buf) s = .next t ∧ t.answered who 0x00F0 0 ∧
      t.resultOf who = s.readRun a inst first n ∧ s.framed t [] []) ∧
  (∀ (s : State) (who : Issuer) (inst first count n : Nat) (a : AttrDesc) (buf : HostBuf), s.serves who → Attr.find a.id = some a →
      s.permits who (s.readRight (some a) inst) = true → a.runOf first count = some n → inst < a.obj.instances →
      s.readState a inst = false → buf.addr ≠ 0 → bufOk who buf (n * a.bytes) = true → n * a.bytes ≤ buf.len →
    ∃ t, exec (.get who inst a.id first count buf) s = .next t ∧ t.answered who 0x00F0 0 ∧
      s.handed t who buf (s.readRun a inst first n) ∧ s.framed t [] []) ∧
  (∀ (s : State) (who : Issuer) (buf : HostBuf) (items : List (Nat × Nat)), s.serves who → items ≠ [] → items.length ≤ 256 →
      bufOk who buf (items.flatMap fun e => bulkBytes (s.bulkItem who e.1 e.2)).length = true →
      (items.flatMap fun e => bulkBytes (s.bulkItem who e.1 e.2)).length ≤ buf.len →
    ∃ t, exec (.bulkGet who buf items) s = .next t ∧ t.answered who 0x00F2 0 ∧
      s.handed t who buf (items.flatMap fun e => bulkBytes (s.bulkItem who e.1 e.2)) ∧ s.framed t [] []) ∧
  (∀ (s : State) (who : Issuer) (first count on : Nat), s.serves who → issuerClient who ≠ 0 → 0 < count → first + count ≤ 640 → on ≤ 1 →
    ∃ t, exec (.subscribe who first count on) s = .next t ∧ t.answered who 0x00F3 0 ∧
      (∀ ev, t.subscribed (issuerClient who) ev =
        (if first ≤ ev ∧ ev < first + count then on == 1 else s.subscribed (issuerClient who) ev)) ∧
      (∀ c ev, c ≠ issuerClient who → t.subscribed c ev = s.subscribed c ev) ∧
      s.sameBut t [.attrs, .faults, .tm, .store, .host, .out] ∧ s.attrsKept t [])

/-- SET of one element of a shadow-store parameter, or of a DPLL parameter without an effect of its own, to an accepted value
completes with 0, gives the attribute the value and leaves every other attribute and part alone. SET of a read-only attribute
completes with E_READ_ONLY and changes nothing. Commands shown to complete, each under the conditions its clause puts on the
state and the operands: SET. -/
def Obligations.SetWrites : Prop :=
  (∀ (s : State) (who : Issuer) (inst : Nat) (a : AttrDesc) (value : List Byte) (v : Int), s.serves who → issuerClient who = 0 →
      Attr.find a.id = some a → (a.obj = .store ∨ a.obj = .dpll ∧ a.id ∉ [0x0401, 0x0403, 0x0404, 0x0405]) → a.mode = .rw →
      inst < a.obj.instances → value.length = a.bytes → elemsOf a 1 value = [v] → a.accepts v = true → s.busyPages = [] →
    ∃ t, exec (.set who inst a.id 0 1 value) s = .next t ∧ t.answered who 0x00F1 0 ∧ t.attr a inst 0 = v ∧
      s.framed t [] [a.key inst 0]) ∧
  (∀ (s : State) (who : Issuer) (inst first count : Nat) (a : AttrDesc) (value : List Byte), s.serves who → issuerClient who = 0 →
      Attr.find a.id = some a → a.mode = .ro → value.length = count * a.bytes →
    ∃ t, exec (.set who inst a.id first count value) s = .next t ∧ t.answered who 0x00F1 E_READ_ONLY ∧ s.framed t [] [])

/-- SYSTEM.FW_BEGIN opens an update of a slot that is not active and marks the slot invalid; SYSTEM.FW_WRITE takes the bytes at
the place reached and answers how many it holds; SYSTEM.FW_FINISH of a complete update whose CRC and images are good closes
it and marks the slot valid; SYSTEM.FW_ACTIVATE selects the slot of the next boot. Commands shown to complete, each under the
conditions its clause puts on the state and the operands: FW_BEGIN, FW_WRITE, FW_FINISH, FW_ACTIVATE. -/
def Obligations.FirmwareUpdate : Prop :=
  (∀ (s : State) (who : Issuer) (slot total : Nat), s.serves who → issuerClient who = 0 → slot ≤ 1 → 0 < total → total ≤ 31457280 →
      ¬ (6 ≤ s.boot.lastStep ∧ s.attr Attr.active_slot = slot) → s.boot.fw = none →
    ∃ t, exec (.fwBegin who slot total) s = .next t ∧ t.answered who 0x0105 0 ∧ bitOf (t.attrN Attr.slot_valid) slot = false ∧
      t.boot.fw = some { slot := slot, face := faceOf who, total := total, bytes := 0, crc := 0xFFFFFFFF } ∧
      s.framed t [.boot] [Attr.slot_valid.key 0 0, Attr.slot_versions.key 0 (2 * slot), Attr.slot_versions.key 0 (2 * slot + 1),
        Attr.fw_update.key 0 0, Attr.fw_update.key 0 1]) ∧
  (∀ (s : State) (who : Issuer) (offset length : Nat) (data : List Byte) (u : FwOpen), s.serves who → issuerClient who = 0 →
      s.boot.fw = some u → u.face = faceOf who → offset = u.bytes → 0 < length → length ≤ 4096 → offset + length ≤ u.total →
    ∃ t, exec (.fwWrite who offset length data true true) s = .next t ∧ t.answered who 0x0106 0 ∧
      t.boot.fw = some { u with bytes := offset + length, crc := (padBytes length data).foldl crcByte u.crc } ∧
      t.resultOf who = bytesLE 4 (offset + length) ∧ s.framed t [.boot] [Attr.fw_update.key 0 0, Attr.fw_update.key 0 1]) ∧
  (∀ (s : State) (who : Issuer) (slot : Nat) (u : FwOpen) (holax batt : ImageHead), s.serves who → issuerClient who = 0 →
      slot ≤ 1 → s.boot.fw = some u → u.face = faceOf who → u.slot = slot → u.bytes = u.total → s.pairOk holax batt = true →
    ∃ t, exec (.fwFinish who slot (u.crc ^^^ 0xFFFFFFFF) true true holax batt) s = .next t ∧ t.boot.fw = none ∧
      bitOf (t.attrN Attr.slot_valid) slot = true ∧ (t.latch 495).latched = true ∧
      s.framedRaise t [.boot] [Attr.slot_valid.key 0 0, Attr.slot_versions.key 0 (2 * slot), Attr.slot_versions.key 0 (2 * slot + 1),
        Attr.fw_update.key 0 0, Attr.fw_update.key 0 1]) ∧
  (∀ (s : State) (who : Issuer) (slot : Nat), s.serves who → issuerClient who = 0 → slot ≤ 1 →
      bitOf (s.attrN Attr.slot_valid) slot = true →
    ∃ t, exec (.fwActivate who slot) s = .next t ∧ t.answered who 0x0108 0 ∧ t.attr Attr.boot_slot = slot ∧
      s.framed t [] [Attr.boot_slot.key 0 0])

/-- SYSTEM.SELF_TEST_REPORT answers the steps, the failing code and the counter at the end of the power-up; SYSTEM.TIME_READ
hands over the counter and the time of each listed domain; SYSTEM.LOG_READ hands over the records of a log from the first
that it still holds; none of them changes anything else of the module. Commands shown to complete, each under the conditions
its clause puts on the state and the operands: SELF_TEST_REPORT, LOG_READ, TIME_READ. -/
def Obligations.SystemReports : Prop :=
  (∀ (s : State) (who : Issuer), s.serves who → issuerClient who = 0 →
    ∃ t, exec (.selfTestReport who) s = .next t ∧ t.answered who 0x0109 0 ∧
      t.resultOf who = bytesLE 1 s.boot.lastStep ++ bytesLE 1 s.boot.failingStep ++ bytesLE 2 s.boot.failCode ++
        bytesLE 1 (boolNat s.holaxUp) ++ bytesLE 3 0 ++ bytesLE 8 s.boot.endCounter ∧ s.framed t [] []) ∧
  (∀ (s : State) (who : Issuer) (domains : List Nat) (buf : HostBuf), s.serves who → domains ≠ [] → domains.length ≤ 8 →
      (∀ d ∈ domains, d ≤ 511) → bufOk who buf (8 + 16 * domains.length) = true →
    ∃ t, exec (.timeRead who domains buf) s = .next t ∧ t.answered who 0x010B 0 ∧
      s.handed t who buf (bytesLE 8 s.counter ++ domains.flatMap (s.timeEntry who)) ∧ s.framed t [] []) ∧
  (∀ (s : State) (who : Issuer) (log count first : Nat) (buf : HostBuf), s.serves who → issuerClient who = 0 → log ≤ 2 → 0 < count →
      count ≤ 256 → s.power ≠ .standbyWarm → bufOk who buf (logSize log * count) = true → (∀ lpn, s.poisoned lpn = false) →
      (∀ lpn, (s.frame (s.frameOf lpn)).checkErrors = 0) → s.logCount log ≤ logCapacity log → first ≤ s.logCount log →
      count ≤ s.logCount log - first →
    ∃ t, exec (.logRead who log count first buf) s = .next t ∧ t.answered who 0x010A 0 ∧
      t.resultOf who = bytesLE 8 first ++ bytesLE 2 count ∧
      s.handed t who buf ((List.range count).flatMap fun k => s.tm.read (logBase log + (first + k) % logCapacity log * logSize log) (logSize log)) ∧
      s.framed t [] [])

/-- SYSTEM.SET_POWER between RUN and QUIET takes effect at once and any other change becomes a transition that is under way; the
end of a transition to RUN, QUIET or STANDBY-WARM gives the power state; SYSTEM.FACTORY_ENTER with FACTORY_N low and an
issued token sets factory mode, and without an issued token is refused with E_FACTORY. Commands shown to complete, each under
the conditions its clause puts on the state and the operands: SET_POWER, POWER_TRANSITION_COMPLETE, FACTORY_ENTER. -/
def Obligations.SystemControl : Prop :=
  (∀ (s : State) (who : Issuer) (state : Nat), s.serves who → issuerClient who = 0 → state ≤ 3 → s.attr Attr.power_state ≠ state →
      (s.power = .dormant → state = 0) → (2 ≤ state → s.mateLinkUp = false) → s.boot.fw = none →
    ∃ t, exec (.setPower who state) s = .next t ∧ t.answered who 0x010C 0 ∧
      (if state ≤ 1 ∧ s.attr Attr.power_state ≤ 1 then
        t.attr Attr.power_state = state ∧ t.boot.transition = none ∧ (t.latch 489).latched = true
       else t.boot.transition = some state ∧ t.attr Attr.power_state = s.attr Attr.power_state) ∧
      s.framedRaise t [.boot, .pmcs] [Attr.power_state.key 0 0]) ∧
  (∀ (s : State) (env : BootEnv) (k : Nat), s.boot.phase = .running → s.boot.transition = some k → k ≤ 2 → s.power ≠ .dormant →
      s.mate.agreement = none →
    ∃ t, exec (.powerTransitionComplete env) s = .next t ∧ t.attr Attr.power_state = k ∧ t.boot.transition = none ∧
      (t.latch 489).latched = true) ∧
  (∀ (s : State) (who : Issuer) (token : List Byte), s.serves who → issuerClient who = 0 → s.boot.factoryNLow = true →
    ∃ t, exec (.factoryEnter who token) s = .next t ∧
      if Config.tokenIssued token s.serial then
        t.answered who 0x010D 0 ∧ t.attr Attr.factory_mode = 1 ∧ (t.latch 494).latched = true ∧
          s.framedRaise t [] [Attr.factory_mode.key 0 0]
      else t.answered who 0x010D E_FACTORY ∧ s.framed t [] [])

/-- COMPARATOR_MEASUREMENT in a Q3 reports the clamped closure error, counts consecutive bad and good closures, freezes the
weights at the tenth bad one and thaws them at the tenth good one; where the closure is good it keeps the three differences
and the phase of the external member, and outvotes, of three members or more, the one whose phase lies farthest beyond
outvote_step_limit. That a bad closure outvotes nobody is a reading of the model (log entry 73). ROOT_PHASE_STEER moves the
reference phase by at most 1 ps and changes nothing else; ROOT_UNLOCK clears root_locked and latches source 330 with its
cause; AMBIENT_GRADIENT latches source 335. Commands shown to complete, each under the conditions its clause puts on the
state and the operands: COMPARATOR_MEASUREMENT, ROOT_PHASE_STEER, AMBIENT_GRADIENT, ROOT_UNLOCK. -/
def Obligations.CrucibleMeasurement : Prop :=
  (∀ (s : State) (d01 d12 d20 : Int) (ext : Option Int), s.crucibleUp = true → s.isQ3 = true →
    ∃ t, exec (.comparatorMeasurement d01 d12 d20 ext) s = .next t ∧
      t.attr Attr.closure_error = clampInt (-2147483647) 2147483647 (d01 + d12 + d20) ∧
      (if 10000 < (d01 + d12 + d20).natAbs then
        t.crucible.bad = s.crucible.bad + 1 ∧ t.crucible.good = 0 ∧ t.crucible.diffs = s.crucible.diffs ∧ t.crucible.ext = s.crucible.ext ∧
          (∀ m, t.osc m = s.osc m) ∧ t.crucible.frozen = (s.crucible.frozen || decide (s.crucible.bad + 1 = 10)) ∧
          (s.crucible.bad + 1 = 10 → s.crucible.frozen = false → (t.latch 329).latched = true ∧ (t.latch 329).cause = true)
       else
        t.crucible.good = s.crucible.good + 1 ∧ t.crucible.bad = 0 ∧ t.crucible.diffs = [d01, d12, d20] ∧ t.crucible.ext = ext ∧
          t.crucible.frozen = (s.crucible.frozen && decide (s.crucible.good + 1 ≠ 10)) ∧
          (s.crucible.good + 1 = 10 → s.crucible.frozen = true → (t.latch 329).cause = false)) ∧
      s.sameBut t [.attrs, .crucible, .faults, .tm, .store, .host, .out, .net]) ∧
  (∀ (s : State) (d01 d12 d20 : Int) (ext : Option Int) (m : Nat), s.crucibleUp = true → s.isQ3 = true →
      (d01 + d12 + d20).natAbs ≤ 10000 → 3 ≤ s.ensemble.length →
      ((s.closureCheck (d01 + d12 + d20) false).keepPhases [d01, d12, d20] ext).firstOver
        (((s.closureCheck (d01 + d12 + d20) false).keepPhases [d01, d12, d20] ext).apart (s.phaseMoved [d01, d12, d20] ext))
        (s.attrN Attr.outvote_step_limit * 1000 * 65536) = some m →
    ∃ t, exec (.comparatorMeasurement d01 d12 d20 ext) s = .next t ∧ t.osc m = .outvoted) ∧
  (∀ (s : State) (diff : Int), s.crucibleUp = true → s.flag Attr.root_locked = true →
    exec (.rootPhaseSteer diff) s =
      .next { s with crucible := { s.crucible with rootPhase := s.crucible.rootPhase + clampInt (-1000) 1000 diff } }) ∧
  (∀ s : State, s.crucibleUp = true → s.flag Attr.root_locked = true →
    ∃ t, exec .rootUnlock s = .next t ∧ t.flag Attr.root_locked = false ∧ (t.latch 330).latched = true ∧ (t.latch 330).cause = true ∧
      s.framedRaise t [] [Attr.root_locked.key 0 0]) ∧
  (∀ s : State, s.crucibleUp = true →
    ∃ t, exec .ambientGradient s = .next t ∧ (t.latch 335).latched = true ∧ s.framedRaise t [] [])

/-- OVEN_JOIN makes a warming oven a member; OVEN_FAULT of a fitted member that is not the last outvotes it with its source
latched and its outvote counted; SYSTEM.OSC_EXCLUDE outvotes a member by command, and SYSTEM.OSC_READMIT and the readmission
condition in AUTO start the ramp of an outvoted one; a ramp that has run its time makes the member full again and the counter
stands at its end at least. Commands shown to complete, each under the conditions its clause puts on the state and the
operands: OSC_READMIT, OSC_EXCLUDE, OVEN_JOIN, OVEN_FAULT, READMIT_CONDITION_MET, READMIT_RAMP_COMPLETE. -/
def Obligations.CrucibleMembers : Prop :=
  (∀ (s : State) (m : Fin 3), s.crucibleUp = true → s.osc m.val = .warmup →
    ∃ t, exec (.ovenJoin m) s = .next t ∧ t.osc m.val = .member ∧
      s.sameBut t [.attrs, .crucible, .faults, .tm, .store, .host, .out, .net]) ∧
  (∀ (s : State) (m : Fin 3), s.crucibleUp = true → m.val = 0 ∨ s.isQ3 = true → s.ensemble.contains m.val = true → s.ensemble ≠ [m.val] →
    ∃ t, exec (.ovenFault m) s = .next t ∧ t.osc m.val = .outvoted ∧ (t.latch (326 + m.val)).latched = true ∧
      (t.latch (320 + m.val)).latched = true ∧ (t.latch (320 + m.val)).cause = true ∧
      t.attr Attr.outvote_count 0 m.val = (s.attr Attr.outvote_count 0 m.val + 1) % (256 ^ Attr.outvote_count.bytes : Nat) ∧
      s.sameBut t [.attrs, .crucible, .faults, .tm, .store, .host, .out, .net]) ∧
  (∀ (s : State) (who : Issuer) (m : Nat), s.serves who → issuerClient who = 0 → m ≤ 3 → m = 0 ∨ m = 3 ∨ s.isQ3 = true →
      s.ensemble.contains m = true → s.ensemble.length ≠ 1 →
    ∃ t, exec (.oscExclude who m) s = .next t ∧ t.answered who 0x0101 0 ∧ t.osc m = .outvoted ∧ (t.latch (320 + m)).latched = true ∧
      s.sameBut t [.attrs, .crucible, .faults, .tm, .store, .host, .out, .net]) ∧
  (∀ (s : State) (who : Issuer) (m : Nat), s.serves who → issuerClient who = 0 → m ≤ 3 → s.osc m = .outvoted →
    ∃ t, exec (.oscReadmit who m true) s = .next t ∧ t.answered who 0x0100 0 ∧ t.osc m = .ramping ∧
      tblFind t.crucible.ramps m = some { done := 0, since := if s.crucible.frozen then none else some s.counter } ∧
      (t.latch (320 + m)).cause = false ∧ s.sameBut t [.attrs, .crucible, .faults, .tm, .store, .host, .out]) ∧
  (∀ (s : State) (m : Fin 4), s.crucibleUp = true → s.attr Attr.readmit_mode = 0 → s.osc m.val = .outvoted →
    ∃ t, exec (.readmitConditionMet m) s = .next t ∧ t.osc m.val = .ramping ∧ (t.latch (320 + m.val)).cause = false ∧
      s.sameBut t [.attrs, .crucible, .faults, .store]) ∧
  (∀ (s : State) (m : Fin 4) (t0 : Nat), s.crucibleUp = true → s.osc m.val = .ramping → (s.ramp m.val).since = some t0 →
    ∃ t, exec (.readmitRampComplete m) s = .next t ∧ t.osc m.val = .member ∧ (t.latch 333).latched = true ∧
      t.counter = max s.counter (t0 + (rampTicks - (s.ramp m.val).done)) ∧
      s.sameBut t [.counter, .attrs, .crucible, .faults, .tm, .store, .host, .out, .net])

/-- OUTVOTE_EVALUATION at the next whole second of the counter reports each measured oscillator its clamped mean frequency over
100 s, and of three members or more outvotes the one that departs by the largest multiple of its limit, latching its source
with its cause, and nobody where none exceeds a limit; WEIGHT_RECOMPUTE outside a freeze takes the variances and the cap of
the external member, gives each member the weight at full ramp that they make, and reports the weights in force;
WARMUP_TIMEOUT ends warm-up 720 s after its start at the earliest, COMPLETE where an oven had joined and FAILED where none
had, with the oven fault of each fitted oven that had not; MODEL_FIT_UPDATE while learning adopts a fit that does not depart
from the baseline. Commands shown to complete, each under the conditions its clause puts on the state and the operands:
OUTVOTE_EVALUATION, WEIGHT_RECOMPUTE, WARMUP_TIMEOUT, MODEL_FIT_UPDATE. -/
def Obligations.CrucibleEvaluation : Prop :=
  (∀ (s : State) (obs : List OscSample), s.crucibleUp = true →
    ∃ t, exec (.outvoteEvaluation obs) s = .next t ∧ t.counter = max s.counter s.nextWhole ∧
      (∀ m, m < 4 → t.attr Attr.osc_freq_offset 0 m =
        (if s.oscMeasured m then clampInt (-2147483647) 2147483647 (((obs.getD m ⟨[], 0, 0⟩).windows).getD 99 0) else 0)) ∧
      s.sameBut t [.counter, .attrs, .crucible, .faults, .tm, .store, .host, .out, .net]) ∧
  (∀ (s : State) (obs : List OscSample), s.crucibleUp = true →
      (((s.advance s.nextWhole).observe obs).noteLearn.firstOver (((s.advance s.nextWhole).observe obs).noteLearn.worst obs)
        (s.oneLimit)) = none →
    ∃ t, exec (.outvoteEvaluation obs) s = .next t ∧ ∀ m, t.osc m = s.osc m) ∧
  (∀ (s : State) (obs : List OscSample) (m : Nat), s.crucibleUp = true → 3 ≤ s.ensemble.length → s.isQ3 = true →
      (((s.advance s.nextWhole).observe obs).noteLearn.firstOver (((s.advance s.nextWhole).observe obs).noteLearn.worst obs)
        (s.oneLimit)) = some m →
    ∃ t, exec (.outvoteEvaluation obs) s = .next t ∧ t.osc m = .outvoted ∧ (t.latch (320 + m)).latched = true ∧
      (t.latch (320 + m)).cause = true) ∧
  (∀ (s : State) (variances : List Nat) (separable : Bool), s.crucibleUp = true → s.crucible.frozen = false →
    ∃ t, exec (.weightRecompute variances separable) s = .next t ∧ t.crucible.separable = (separable && s.isQ3) ∧
      t.crucible.extCap = s.attrN Attr.ext_weight_cap ∧ (∀ m, m < 4 → tblFind t.crucible.variances m = some (variances.getD m 0)) ∧
      (∀ e ∈ State.targets { s with crucible := t.crucible }, t.target e.1 = weightOf e.2) ∧
      (∀ m, m < 4 → t.attr Attr.osc_weight 0 m = t.weightNow m) ∧ s.sameBut t [.attrs, .crucible, .store]) ∧
  (∀ s : State, s.crucibleUp = true → s.attr Attr.warmup_state = WarmupState.warmUp.code →
    ∃ t, exec .warmupTimeout s = .next t ∧
      t.attr Attr.warmup_state = (if (List.range 3).any fun m => s.ensemble.contains m || decide (s.osc m = .outvoted)
        then WarmupState.complete else WarmupState.failed).code ∧
      t.counter = max s.counter (s.boot.warmSince + 720 * ticksPerSecond - s.boot.warmBase) ∧
      (∀ m, m < 3 → m = 0 ∨ s.isQ3 = true → s.osc m = .warmup → (t.latch (326 + m)).latched = true) ∧
      s.sameBut t [.counter, .attrs, .faults, .tm, .store, .host, .out, .net]) ∧
  (∀ (s : State) (f : ModelFit), s.engines = true → s.learning = true → s.fitRejected f = false →
    ∃ t, exec (.modelFitUpdate [f]) s = .next t ∧ t.attr Attr.age_learned 0 f.member.val = f.age ∧
      t.attr Attr.tempco_learned 0 f.member.val = f.tempco ∧ t.attr Attr.learn_state = LearnState.learning.code ∧
      s.sameBut t [.attrs, .crucible, .faults, .store])

/-- DOMAIN.CREATE makes a free slot CREATED with its timescale, at 0 s and the nominal rate UNSET or at its source domain's words
SET; DOMAIN.ASSIGN gives it its owner client; DOMAIN.BIND binds it to a DPLL that no domain is bound to; DOMAIN.UNBIND makes
it virtual again; DOMAIN.DELETE of a domain that nothing uses frees the slot. Commands shown to complete, each under the
conditions its clause puts on the state and the operands: DOMAIN_CREATE, DOMAIN_DELETE, DOMAIN_ASSIGN, DOMAIN_BIND,
DOMAIN_UNBIND. -/
def Obligations.DomainLifecycle : Prop :=
  (∀ (s : State) (who : Issuer) (d timescale source : Nat), s.serves who → issuerClient who = 0 → d ≤ 511 → timescale ≤ 1 →
      (source ≤ 511 ∧ s.created source = true ∨ source = 0xFFFF) → s.created d = false →
    ∃ t, exec (.domainCreate who d timescale source) s = .next t ∧ t.answered who 0x0600 0 ∧ t.created d = true ∧
      t.attr Attr.domain_timescale d = timescale ∧ t.attr Attr.domain_utc_offset d = (if timescale = 0 then 37 else 0) ∧
      t.attr Attr.domain_time_status d = (if source ≤ 511 then TimeStatus.set.code else TimeStatus.unset.code) ∧
      (t.dom d).words = (if source ≤ 511 then (s.dom source).wordsAt s.counter else ⟨0, s.counter, nominalPeriod.toNat⟩) ∧
      (∀ e, e ≠ d → t.dom e = s.dom e) ∧ s.sameBut t [.attrs, .doms, .faults, .tm, .store, .host, .out]) ∧
  (∀ (s : State) (who : Issuer) (d client : Nat), s.serves who → issuerClient who = 0 → d ≤ 511 → client ≤ 511 → s.created d = true →
    ∃ t, exec (.domainAssign who d client) s = .next t ∧ t.answered who 0x0602 0 ∧ t.attr Attr.domain_owner_client d = client ∧
      s.framed t [] [Attr.domain_owner_client.key d 0]) ∧
  (∀ (s : State) (who : Issuer) (d n : Nat), s.serves who → issuerClient who = 0 → d ≤ 511 → n ≤ 15 → s.created d = true →
      (s.listing (64 + d)).contains n = false → s.boundDom n = none → s.boundDpll d = none →
    ∃ t, exec (.domainBind who d n) s = .next t ∧ t.answered who 0x0603 0 ∧ t.boundDpll d = some n ∧ (t.dom d).slew = none ∧
      (t.dom d).words = (s.dom d).words ∧ (t.dpll n).posted = (((s.dom d).wordsAt s.counter).period : Int) ∧
      s.framed t [.doms, .dplls, .outs] [Attr.domain_bound_dpll.key d 0, Attr.domain_time_status.key d 0]) ∧
  (∀ (s : State) (who : Issuer) (d n : Nat), s.serves who → issuerClient who = 0 → d ≤ 511 → n ≤ 15 → s.boundDpll d = some n →
    ∃ t, exec (.domainUnbind who d n) s = .next t ∧ t.answered who 0x0604 0 ∧ t.boundDpll d = none ∧
      t.attr Attr.domain_freq_adj d = freqOfPeriod ((s.dom d).wordsAt s.counter).period ∧ t.doms = s.doms ∧
      s.sameBut t [.attrs, .dplls, .outs, .gens, .faults, .tm, .store, .host, .out, .net]) ∧
  (∀ (s : State) (who : Issuer) (d : Nat), s.serves who → issuerClient who = 0 → d ≤ 511 → s.created d = true → s.inUse d = false →
    ∃ t, exec (.domainDelete who d) s = .next t ∧ t.answered who 0x0601 0 ∧ t.created d = false ∧ t.dom d = {} ∧
      (∀ e, e ≠ d → t.dom e = s.dom e) ∧ s.sameBut t [.attrs, .doms, .faults, .tm, .store, .host, .out])

/-- On a virtual domain under COMMANDED servo, DOMAIN.SET_TIME, SET_CALENDAR, ADJ_FREQ and ADJ_PHASE each give the time unit one
update for their instant: absolute at the given time and counted as a step, the new base frequency, or the relative step or
slew; the words in force stay until the update applies. The result is the update instant, and for ADJ_FREQ the new period
word. Commands shown to complete, each under the conditions its clause puts on the state and the operands: SET_TIME,
SET_CALENDAR, ADJ_FREQ, ADJ_PHASE. -/
def Obligations.DomainSteering : Prop :=
  (∀ (s : State) (who : Issuer) (d time instant : Nat) (x : Int), s.serves who → issuerClient who = 0 → d ≤ 511 →
      commandTime time = some x → s.created d = true → s.boundDpll d = none →
      s.attr Attr.domain_servo_mode d ≠ 0 → s.canUpdate d instant = true →
    ∃ t, exec (.setTime who d time instant) s = .next t ∧ t.answered who 0x0605 0 ∧ t.resultOf who = bytesLE 8 instant ∧ (t.dom d).words = (s.dom d).words ∧
      (t.dom d).slew = none ∧
      (t.dom d).pend = some { instant := instant, period := periodPpt (s.attr Attr.domain_freq_adj d), absolute := some x, delta := 0
                              steps := 1, sets := true } ∧
      s.framed t [.doms] []) ∧
  (∀ (s : State) (who : Issuer) (d ns instant : Nat) (civil : CivilTime), s.serves who → issuerClient who = 0 → d ≤ 511 →
      dateFieldsOk civil.year civil.month civil.day = true → timeFieldsOk civil.hour civil.minute civil.second = true →
      ns ≤ 999999999 → 0 ≤ civilSeconds civil + s.attr Attr.domain_utc_offset d →
      dateExists civil.year civil.month civil.day = true → s.created d = true → s.boundDpll d = none →
      s.attr Attr.domain_servo_mode d ≠ 0 → s.canUpdate d instant = true →
    ∃ t, exec (.setCalendar who d civil ns instant) s = .next t ∧ t.answered who 0x0606 0 ∧ t.resultOf who = bytesLE 8 instant ∧ (t.dom d).words = (s.dom d).words ∧
      ((t.dom d).pend.bind (·.absolute)) =
        some ((civilSeconds civil + s.attr Attr.domain_utc_offset d) * secondUnits + (ns : Int) * 65536) ∧
      s.framed t [.doms] []) ∧
  (∀ (s : State) (who : Issuer) (d : Nat) (ppt : Int) (instant : Nat), s.serves who → issuerClient who = 0 → d ≤ 511 →
      ppt.natAbs ≤ 2147483647 → (s.dom d).slew = none → s.created d = true → s.boundDpll d = none →
      s.attr Attr.domain_servo_mode d ≠ 0 → s.canUpdate d instant = true →
    ∃ t, exec (.adjFreq who d ppt instant) s = .next t ∧ t.answered who 0x0607 0 ∧ t.resultOf who = bytesLE 8 (periodPpt ppt) ∧ t.attr Attr.domain_freq_adj d = ppt ∧
      (t.dom d).words = (s.dom d).words ∧
      (t.dom d).pend = some { instant := instant, period := periodPpt ppt, absolute := none, delta := 0 } ∧
      s.framed t [.doms] [Attr.domain_freq_adj.key d 0]) ∧
  (∀ (s : State) (who : Issuer) (d : Nat) (x : Int) (instant : Nat), s.serves who → issuerClient who = 0 → d ≤ 511 →
      0 ≤ s.domNow d + x → s.created d = true → s.boundDpll d = none → s.attr Attr.domain_servo_mode d ≠ 0 →
      s.canUpdate d instant = true →
    ∃ t, exec (.adjPhase who d 0 x instant) s = .next t ∧ t.answered who 0x0608 0 ∧ t.resultOf who = bytesLE 8 instant ∧ (t.dom d).words = (s.dom d).words ∧
      (t.dom d).pend = some { instant := instant, period := periodPpt (s.attr Attr.domain_freq_adj d), absolute := none, delta := x
                              steps := if x = 0 then 0 else 1, jump := x } ∧
      s.framed t [.doms] []) ∧
  (∀ (s : State) (who : Issuer) (d : Nat) (x : Int) (instant : Nat), s.serves who → issuerClient who = 0 → d ≤ 511 → x ≠ 0 →
      s.created d = true → s.boundDpll d = none → s.attr Attr.domain_servo_mode d ≠ 0 → s.canUpdate d instant = true →
      (s.attr Attr.domain_freq_adj d + slewPpt (s.attrN Attr.domain_slew_rate d) x).natAbs ≤ 2147483647 →
    ∃ t, exec (.adjPhase who d 1 x instant) s = .next t ∧ t.answered who 0x0608 0 ∧ t.resultOf who = bytesLE 8 instant ∧ (t.dom d).words = (s.dom d).words ∧
      (t.dom d).slew = some (slewOf (s.attr Attr.domain_freq_adj d) (s.attrN Attr.domain_slew_rate d) instant x) ∧
      (t.dom d).pend = some
        { instant := instant
          period := slewPeriod (s.attr Attr.domain_freq_adj d) (slewOf (s.attr Attr.domain_freq_adj d) (s.attrN Attr.domain_slew_rate d) instant x)
          absolute := none, delta := 0 } ∧
      s.framed t [.doms] [])

/-- DOMAIN.SCHEDULE_LEAP of an existing last day of a month far enough ahead completes: it schedules an INSERT or a DELETE by
command for that day, or cancels the leap that stands for it, and in the closing window lets the change wait for the next UTC
day; DOMAIN.SET_TZ of a table of valid, rising entries completes and keeps it, its reserved bits cleared, for the next UTC
second boundary; DOMAIN.RESET of a virtual domain completes: it clears the counts, the base frequency, the slew and the
scheduled leap and gives the domain one relative update at the nominal rate. LEAP_SECOND at the instant of the change moves
utc_offset by one second in the leap's direction and leaves no leap scheduled; NEXT_UTC_DAY puts the changes that were
deferred in force; TZ_TABLE_APPLY puts the waiting table in force with its latest entry that is past; TZ_TRANSITION moves to
the next entry of the table, or to the latest that is past. Commands shown to complete, each under the conditions its clause
puts on the state and the operands: SCHEDULE_LEAP, SET_TZ, DOMAIN_RESET, LEAP_SECOND, TZ_TABLE_APPLY, TZ_TRANSITION,
NEXT_UTC_DAY. -/
def Obligations.DomainCalendar : Prop :=
  (∀ (s : State) (who : Issuer) (d year month kind : Nat), s.serves who → issuerClient who = 0 → d ≤ 511 → kind ≤ 2 →
      dateFieldsOk year month (daysInMonth year month) = true → dateExists year month (daysInMonth year month) = true →
      2 * secondUnits ≤ s.leapInstant d kind (daysFromCivil year month (daysInMonth year month)) * secondUnits - s.domNow d →
      (kind = 0 → s.leapOf d ≠ .none ∧ s.attr Attr.domain_leap_day d = dateCode year month (daysInMonth year month)) →
      s.created d = true → s.closing d (s.domNow d) = false →
    ∃ t, exec (.scheduleLeap who d year month (daysInMonth year month) kind) s = .next t ∧ t.answered who 0x0609 0 ∧
      t.leapOf d = LeapKind.ofCode kind ∧
      (kind ≠ 0 → t.attr Attr.domain_leap_day d = dayCode (daysFromCivil year month (daysInMonth year month)) ∧
        t.attr Attr.domain_leap_origin d = 0) ∧
      (t.dom d).words = (s.dom d).words ∧ t.attr Attr.domain_utc_offset d = s.attr Attr.domain_utc_offset d ∧
      s.sameBut t [.attrs, .doms, .faults, .tm, .store, .host, .out, .net]) ∧
  (∀ (s : State) (who : Issuer) (d year month kind : Nat), s.serves who → issuerClient who = 0 → d ≤ 511 → kind ≤ 2 →
      dateFieldsOk year month (daysInMonth year month) = true → dateExists year month (daysInMonth year month) = true →
      2 * secondUnits ≤ s.leapInstant d kind (daysFromCivil year month (daysInMonth year month)) * secondUnits - s.domNow d →
      (kind = 0 → s.leapOf d ≠ .none ∧ s.attr Attr.domain_leap_day d = dateCode year month (daysInMonth year month)) →
      s.created d = true → s.closing d (s.domNow d) = true →
    ∃ t, exec (.scheduleLeap who d year month (daysInMonth year month) kind) s = .next t ∧ t.answered who 0x0609 0 ∧
      t.leapOf d = s.leapOf d ∧
      (t.dom d).deferred.leap = some (LeapKind.ofCode kind, (daysFromCivil year month (daysInMonth year month)).toNat, true)) ∧
  (∀ (s : State) (who : Issuer) (d : Nat) (entries : List Nat), s.serves who → issuerClient who = 0 → d ≤ 511 → entries.length ≤ 32 →
      entries.all tzFieldsOk = true → tzRising entries = true → entries.all tzDateOk = true → s.created d = true →
    ∃ t, exec (.setTz who d entries) s = .next t ∧ t.answered who 0x060A 0 ∧
      t.dom d = { s.dom d with tzNext := some (entries.map tzMasked) } ∧ s.framed t [.doms] []) ∧
  (∀ (s : State) (who : Issuer) (d instant : Nat), s.serves who → issuerClient who = 0 → d ≤ 511 → s.created d = true →
      s.boundDpll d = none → s.canUpdate d instant = true →
    ∃ t, exec (.domainReset who d instant) s = .next t ∧ t.answered who 0x060B 0 ∧ t.attr Attr.domain_steps d = 0 ∧
      t.attr Attr.domain_update_refusals d = 0 ∧ t.attr Attr.domain_freq_adj d = 0 ∧ (t.dom d).slew = none ∧ t.leapOf d = .none ∧
      (t.dom d).ref.qualified = false ∧ (t.dom d).words = (s.dom d).words ∧
      (t.dom d).pend = some { instant := instant, period := nominalPeriod.toNat, absolute := none, delta := 0 } ∧
      s.sameBut t [.attrs, .doms, .faults, .tm, .store, .host, .out, .net]) ∧
  (∀ (s : State) (d : Fin 512), s.timing = true → s.created d.val = true → s.leapOf d.val ≠ .none →
    ∃ t, exec (.leapSecond d) s = .next t ∧
      t.attr Attr.domain_utc_offset d.val = s.attr Attr.domain_utc_offset d.val + (if s.leapOf d.val = .insert then 1 else -1) ∧
      t.leapOf d.val = .none ∧ (t.dom d.val).words = (s.dom d.val).words ∧
      t.counter = (s.reach d.val (s.leapChange d.val)).counter) ∧
  (∀ (s : State) (d : Fin 512) (o : Int) (c : Bool), s.firmware = true → s.created d.val = true →
      (s.dom d.val).deferred = { offset := some (o, c) } →
    ∃ t, exec (.nextUtcDay d) s = .next t ∧ t.attr Attr.domain_utc_offset d.val = o ∧ (t.dom d.val).deferred = {} ∧
      t.leapOf d.val = s.leapOf d.val ∧
      t.counter = (if s.closing d.val (s.domNow d.val) then (s.reach d.val (s.nextDay d.val)).counter else s.counter)) ∧
  (∀ (s : State) (d : Fin 512) (k : LeapKind) (day : Nat) (c : Bool), s.firmware = true → s.created d.val = true →
      (s.dom d.val).deferred = { leap := some (k, day, c) } →
    ∃ t, exec (.nextUtcDay d) s = .next t ∧ t.leapOf d.val = k ∧ (t.dom d.val).deferred = {} ∧
      t.attr Attr.domain_utc_offset d.val = s.attr Attr.domain_utc_offset d.val) ∧
  (∀ (s : State) (d : Fin 512) (es : List Nat), s.firmware = true → s.created d.val = true → (s.dom d.val).tzNext = some es →
      es.length ≤ 32 →
    ∃ t, exec (.tzTableApply d) s = .next t ∧ (t.dom d.val).tzNext = none ∧ t.attr Attr.domain_tz_count d.val = es.length ∧
      (∀ k (h : k < es.length), t.attr Attr.domain_tz_table d.val k = (es[k] : Int)) ∧
      (t.dom d.val).tzIndex = tzReached es (s.utcHeld d.val (s.domNow d.val)) ∧ t.counter = s.counter) ∧
  (∀ (s : State) (d : Fin 512), s.timing = true → s.firmware = true → s.created d.val = true →
      (s.dom d.val).tzIndex < s.attrN Attr.domain_tz_count d.val →
    ∃ t, exec (.tzTransition d) s = .next t ∧
      (t.dom d.val).tzIndex = max ((s.dom d.val).tzIndex + 1) (tzReached (s.tzEntries d.val) (s.utcHeld d.val (s.domNow d.val))) ∧
      (t.dom d.val).words = (s.dom d.val).words)

/-- DOMAIN_UPDATE_APPLY sets the words as the update says, keeps the words before it, counts its steps and leaves no update
pending, with the counter at the instant at least; SLEW_END closes a slew of a virtual domain at its base frequency where the
time unit takes the update; DOMAIN_REF_STALE and PKT_HOLD_LIMIT_EXPIRY disqualify the domain as a reference. Commands shown
to complete, each under the conditions its clause puts on the state and the operands: DOMAIN_UPDATE_APPLY, SLEW_END,
DOMAIN_REF_STALE, PKT_HOLD_LIMIT_EXPIRY. -/
def Obligations.DomainUpdates : Prop :=
  (∀ (s : State) (d : Fin 512) (u : DomUpdate), s.timing = true → (s.dom d.val).pend = some u → s.boundDpll d.val = none →
    ∃ t, exec (.domainUpdateApply d) s = .next t ∧ (t.dom d.val).words = (s.dom d.val).words.after u ∧
      (t.dom d.val).prev = some (s.dom d.val).words ∧ (t.dom d.val).lastUpdate = some u.instant ∧ (t.dom d.val).pend = none ∧
      t.counter = max s.counter u.instant ∧
      t.attr Attr.domain_steps d.val = (s.attr Attr.domain_steps d.val + u.steps) % (256 ^ Attr.domain_steps.bytes : Nat) ∧
      (∀ e, e ≠ d.val → t.dom e = s.dom e) ∧
      s.sameBut t [.counter, .attrs, .doms, .outs, .arms, .gens, .faults, .tm, .store, .host, .net, .out]) ∧
  (∀ (s : State) (d : Fin 512) (w : Slew), s.engines = true → (s.dom d.val).slew = some w → (s.dom d.val).pend = none →
      s.boundDpll d.val = none → s.canUpdate d.val (max s.counter w.finish) = true →
    ∃ t, exec (.slewEnd d) s = .next t ∧ (t.dom d.val).slew = none ∧ t.counter = max s.counter w.finish ∧
      (t.dom d.val).words.period = periodPpt (s.attr Attr.domain_freq_adj d.val) ∧
      t.attr Attr.domain_steps d.val = s.attr Attr.domain_steps d.val % (256 ^ Attr.domain_steps.bytes : Nat) ∧
      s.sameBut t [.counter, .attrs, .doms, .outs, .arms, .gens, .faults, .tm, .store, .host, .net, .out]) ∧
  (∀ (s : State) (d : Fin 512), s.timing = true → s.created d.val = true →
    ∃ t, exec (.domainRefStale d) s = .next t ∧ (t.dom d.val).ref.qualified = false ∧ (t.dom d.val).ref.fresh = false ∧
      (t.dom d.val).words = (s.dom d.val).words ∧ t.counter = s.counter) ∧
  (∀ (s : State) (d : Fin 512), s.engines = true → s.created d.val = true →
    ∃ t, exec (.pktHoldLimitExpiry d) s = .next t ∧ (t.dom d.val).ref.qualified = false ∧
      (t.dom d.val).words = (s.dom d.val).words ∧ t.counter = s.counter)

/-- SELECTOR.SET_CANDIDATES keeps a valid list for the next decision; SELECTOR.SELECT sets the mode and the target;
SELECTOR.LOCKOUT sets or clears the lockout bit of an entry; SELECTOR.CLEAR_WTR ends pending periods; each of the first three
makes a decision due as by command. SELECTOR.ALIGN of a selector in SELECTED puts the accumulated build-out under removal:
with a slope limit it adds a movement over its negative, and buildout_phase reads as before until that is complete; without a
limit the same phase waits as one nudge. Commands shown to complete, each under the conditions its clause puts on the state
and the operands: SET_CANDIDATES, SELECT, LOCKOUT, CLEAR_WTR, ALIGN. -/
def Obligations.SelectorActions : Prop :=
  (∀ (s : State) (who : Issuer) (n : Nat) (entries : List Nat), s.serves who → issuerClient who = 0 → n ≤ 15 → entries.length ≤ 24 →
      entries.any candBad = false → candTwice entries = false →
      (∀ e ∈ entries, candKind e = 2 → s.created (candSource e) = true) →
      (∀ x, s.targetSource n = some x → ∃ e ∈ entries, candNumber e = some x) →
      (∀ d, s.boundDom n = some d → ∀ e ∈ entries, candNumber e ≠ some (64 + d)) →
    ∃ t, exec (.setCandidates who n entries) s = .next t ∧ t.answered who 0x0300 0 ∧
      t.sel n = { s.sel n with newList := some entries, command := max 2 (s.sel n).command, cmdLost := (t.sel n).cmdLost } ∧ s.framed t [.sels] []) ∧
  (∀ (s : State) (who : Issuer) (n mode index : Nat), s.serves who → issuerClient who = 0 → n ≤ 15 → mode ≤ 2 →
      (mode ≠ 0 → index ≤ 23 ∧ candEmpty (s.cand n index) = false ∧ candLocked (s.cand n index) = false) →
    ∃ t, exec (.select who n mode index) s = .next t ∧ t.answered who 0x0301 0 ∧ t.attr Attr.selector_select_mode n = mode ∧
      t.attr Attr.selector_select_target n = (if mode = 0 then 255 else (index : Int)) ∧
      t.sel n = { s.sel n with command := max 2 (s.sel n).command, cmdLost := (t.sel n).cmdLost } ∧
      s.framed t [.sels] [Attr.selector_select_mode.key n 0, Attr.selector_select_target.key n 0]) ∧
  (∀ (s : State) (who : Issuer) (n index on : Nat), s.serves who → issuerClient who = 0 → n ≤ 15 → index ≤ 23 →
      candEmpty (s.cand n index) = false → on ≤ 1 →
      ¬ (on = 1 ∧ s.attr Attr.selector_select_mode n ≠ 0 ∧ s.attrN Attr.selector_select_target n = index) →
    ∃ t, exec (.lockout who n index on) s = .next t ∧ t.answered who 0x0302 0 ∧ candLocked (t.cand n index) = (on == 1) ∧
      candNumber (t.cand n index) = candNumber (s.cand n index) ∧ candPriority (t.cand n index) = candPriority (s.cand n index) ∧
      s.framed t [.sels] [Attr.selector_candidates.key n index]) ∧
  (∀ (s : State) (who : Issuer) (n index : Nat), s.serves who → issuerClient who = 0 → n ≤ 15 → index ≤ 23 ∨ index = 255 →
    ∃ t, exec (.clearWtr who n index) s = .next t ∧ t.answered who 0x0303 0 ∧
      (∀ k, k < 24 → index = 255 ∨ k = index → t.entryPending n k = false) ∧ s.framed t [.sels] []) ∧
  (∀ (s : State) (who : Issuer) (n : Nat), s.serves who → issuerClient who = 0 → n ≤ 15 →
      s.attr Attr.selector_sel_state n = SelState.selected.code →
    ∃ t, exec (.align who n) s = .next t ∧ t.answered who 0x0304 0 ∧ t.attr Attr.selector_buildout_phase n = 0 ∧
      (s.slopeOf n .align ≠ 0 → t.buildoutPhase n = s.buildoutPhase n) ∧
      (if s.attr Attr.selector_buildout_phase n = 0 then t.dpll n = s.dpll n
       else if s.slopeOf n .align = 0 then
         t.dpll n = { s.dpll n with pendNudge := (s.dpll n).pendNudge - s.attr Attr.selector_buildout_phase n }
       else ((t.dpll n).moves.map fun m => (m.kind, m.remaining)) =
         ((s.dpll n).moves.map fun m => (m.kind, m.remaining)) ++ [(.align, - s.attr Attr.selector_buildout_phase n)]) ∧
      (∀ m, m ≠ n → t.dpll m = s.dpll m) ∧ s.framed t [.dplls] [Attr.selector_buildout_phase.key n 0])

/-- A decision of a selector in NO_REFERENCE that finds nothing to select stays in NO_REFERENCE; one that finds a candidate
enters SELECTED, connects it and counts the switch; WTR_EXPIRY ends the pending period of an entry; HOLD_OFF_EXPIRY without a
candidate ends in NO_REFERENCE with its source latched. Commands shown to complete, each under the conditions its clause puts
on the state and the operands: SELECTOR_DECISION, WTR_EXPIRY, HOLD_OFF_EXPIRY. -/
def Obligations.SelectorEvents : Prop :=
  (∀ (s : State) (n : Fin 16) (phase : Int), s.timing = true → s.flag Attr.selector_enable n.val = true →
      s.attr Attr.selector_sel_state n.val = SelState.noReference.code → (s.sel n.val).newList = none → (s.sel n.val).source = none →
      s.mateTracked n.val = false → s.choice n.val = none → (s.sel n.val).degraded = s.degradedNow n.val →
    ∃ t, exec (.selectorDecision n phase) s = .next t ∧ t.attr Attr.selector_sel_state n.val = SelState.noReference.code ∧
      (t.sel n.val).source = none ∧ t.attr Attr.selector_selected n.val = 255 ∧ (t.sel n.val).command = 0 ∧
      t.attr Attr.selector_switch_count n.val = s.attr Attr.selector_switch_count n.val) ∧
  (∀ (s : State) (n : Fin 16) (phase : Int) (k x : Nat), s.timing = true → s.flag Attr.selector_enable n.val = true →
      s.attr Attr.selector_sel_state n.val = SelState.noReference.code → (s.sel n.val).newList = none → (s.sel n.val).source = none →
      s.mateTracked n.val = false → s.choice n.val = some k → candNumber (s.cand n.val k) = some x →
    ∃ t, exec (.selectorDecision n phase) s = .next t ∧ t.attr Attr.selector_sel_state n.val = SelState.selected.code ∧
      (t.sel n.val).source = some x ∧ t.attr Attr.selector_selected n.val = k ∧
      t.attr Attr.selector_switch_count n.val =
        (s.attr Attr.selector_switch_count n.val + 1) % (256 ^ Attr.selector_switch_count.bytes : Nat) ∧
      (t.latch (evLoop n.val 0)).latched = true) ∧
  (∀ (s : State) (n : Fin 16) (index : Fin 24) (x ends : Nat), s.timing = true → candNumber (s.cand n.val index.val) = some x →
      tblFind (s.sel n.val).wtr x = some ends →
    ∃ t, exec (.wtrExpiry n index) s = .next t ∧ t.entryPending n.val index.val = false ∧ t.counter = max s.counter ends ∧
      s.sameBut t [.counter, .sels]) ∧
  (∀ (s : State) (n : Fin 16) (phase : Int), s.timing = true → s.attr Attr.selector_sel_state n.val = SelState.holdOff.code →
      (s.sel n.val).newList = none → (s.advance (s.sel n.val).holdEnds).mateTracked n.val = false →
      (s.advance (s.sel n.val).holdEnds).choice n.val = none →
    ∃ t, exec (.holdOffExpiry n phase) s = .next t ∧ t.counter = max s.counter (s.sel n.val).holdEnds ∧ t.attr Attr.selector_sel_state n.val = SelState.noReference.code ∧
      (t.sel n.val).source = none ∧ (t.latch (evLoop n.val 1)).latched = true)

/-- DPLL.OPEN of a DPLL that is not OPEN opens it and holds its movements; DPLL.SET_FREQ and NUDGE_PHASE on an OPEN DPLL keep the
word and add up the nudges for its next post; DPLL.CLOSE raises settling and goes to ACQUIRE on the selected candidate from
the word in use, and without one to HOLDOVER, or to FREE-RUN with its word where the DPLL has never locked;
DPLL.RESET_HISTORY outside holdover clears has_locked, ho_ready and phase_offset. Commands shown to complete, each under the
conditions its clause puts on the state and the operands: DPLL_OPEN, DPLL_CLOSE, SET_FREQ, NUDGE_PHASE, RESET_HISTORY. -/
def Obligations.DpllActions : Prop :=
  (∀ (s : State) (who : Issuer) (n : Nat), s.serves who → issuerClient who = 0 → n ≤ 15 → s.dpllState n ≠ .opened →
    ∃ t, exec (.dpllOpen who n) s = .next t ∧ t.answered who 0x0400 0 ∧ t.dpllState n = .opened ∧
      (∀ m ∈ (t.dpll n).moves, m.since = none) ∧ t.flag Attr.dpll_settling n = s.flag Attr.dpll_settling n ∧
      t.attr Attr.dpll_freq_word n = s.attr Attr.dpll_freq_word n ∧ (t.latch (evLoop n 3)).latched = true ∧
      (∀ d, (t.dom d).words = (s.dom d).words)) ∧
  (∀ (s : State) (who : Issuer) (n : Nat) (word : Int), s.serves who → issuerClient who = 0 → n ≤ 15 → s.dpllState n = .opened →
      word.natAbs ≤ 250000000000000 →
    ∃ t, exec (.setFreq who n word) s = .next t ∧ t.answered who 0x0402 0 ∧ t.dpll n = { s.dpll n with pendWord := some word } ∧
      (∀ m, m ≠ n → t.dpll m = s.dpll m) ∧ s.framed t [.dplls] []) ∧
  (∀ (s : State) (who : Issuer) (n : Nat) (x : Int), s.serves who → issuerClient who = 0 → n ≤ 15 → s.dpllState n = .opened →
      x.natAbs ≤ secondUnits →
    ∃ t, exec (.nudgePhase who n x) s = .next t ∧ t.answered who 0x0403 0 ∧ (t.dpll n).pendNudge = (s.dpll n).pendNudge + x ∧
      (t.dpll n).nudges = (s.dpll n).nudges + 1 ∧ (t.dpll n).pendWord = (s.dpll n).pendWord ∧
      (∀ m, m ≠ n → t.dpll m = s.dpll m) ∧ s.framed t [.dplls] []) ∧
  (∀ (s : State) (who : Issuer) (n : Nat) (phase : Int), s.serves who → issuerClient who = 0 → n ≤ 15 → s.dpllState n = .opened →
      (s.sel n).source = none ∨ s.attr Attr.selector_sel_state n ≠ SelState.selected.code →
    ∃ t, exec (.dpllClose who n phase) s = .next t ∧ t.answered who 0x0401 0 ∧ t.flag Attr.dpll_settling n = true ∧
      (if s.flag Attr.dpll_has_locked n then t.dpllState n = .holdover
       else t.dpllState n = .freeRun ∧ (t.dpll n).base = clampWord (s.dpll n).freeRunWord ∧
         ((s.dpll n).moves = [] → t.attr Attr.dpll_freq_word n = clampWord (s.dpll n).freeRunWord))) ∧
  (∀ (s : State) (who : Issuer) (n x : Nat) (phase : Int), s.serves who → issuerClient who = 0 → n ≤ 15 → s.dpllState n = .opened →
      (s.sel n).source = some x → s.attr Attr.selector_sel_state n = SelState.selected.code →
    ∃ t, exec (.dpllClose who n phase) s = .next t ∧ t.answered who 0x0401 0 ∧ t.dpllState n = .acquire ∧
      t.flag Attr.dpll_settling n = true ∧ (t.dpll n).integrator = s.attr Attr.dpll_freq_word n) ∧
  (∀ (s : State) (who : Issuer) (n : Nat), s.serves who → issuerClient who = 0 → n ≤ 15 → s.dpllState n ≠ .holdover →
      s.dpllState n ≠ .holdoverLimit →
    ∃ t, exec (.resetHistory who n) s = .next t ∧ t.answered who 0x0404 0 ∧ t.flag Attr.dpll_has_locked n = false ∧
      t.flag Attr.dpll_ho_ready n = false ∧ t.attr Attr.dpll_phase_offset n = 0 ∧ t.dpllState n = s.dpllState n)

/-- PD_SAMPLE in the loop reports the phase error, adds its integral part to the integrator and gives the loop the integrator and
its proportional part as word, and leaves LOCKED for ACQUIRE exactly where a lock limit is exceeded twice. LOCK_ACQUIRED
enters LOCKED and sets has_locked; SETTLING_END at its instant clears settling and nothing else; SLOPE_MOVEMENT_COMPLETE ends
the movement that ends first, at its end. That the word is that of a proportional and integral loop with these coefficients
is a reading of the model (log entry 83). Commands shown to complete, each under the conditions its clause puts on the state
and the operands: PD_SAMPLE, LOCK_ACQUIRED, SETTLING_END, SLOPE_MOVEMENT_COMPLETE. -/
def Obligations.DpllLoop : Prop :=
  (∀ (s : State) (n : Fin 16) (x fe : Int), s.timing = true → s.inLoop n.val = true → (s.dpll n.val).heldOff = false →
      s.streamPaused n.val = false →
    ∃ t, exec (.pdSample n x fe) s = .next t ∧ t.attr Attr.dpll_phase_error n.val = s.samplePhase n.val x ∧
      t.dpllState n.val = (if s.dpllState n.val = .locked ∧ s.lockLost n.val (s.samplePhase n.val x) fe = true then .acquire
        else s.dpllState n.val) ∧
      (t.dpll n.val).integrator = clampWord (((s.dpll n.val).integrator * 1000000000000 + (s.dpll n.val).integralRest +
        s.integralStep n.val (s.samplePhase n.val x)) / 1000000000000) ∧
      (t.dpll n.val).base = clampWord ((t.dpll n.val).integrator + s.proportional n.val (s.samplePhase n.val x)) ∧
      (t.dpll n.val).duty = s.sampleDuty n.val (s.samplePhase n.val x) ∧ t.freeCount = s.freeCount ∧ t.counter = s.counter) ∧
  (∀ (s : State) (n : Fin 16), s.timing = true → s.dpllState n.val = .acquire → s.flag Attr.dpll_settling n.val = false →
      (s.dpll n.val).heldOff = false →
      (s.attr Attr.dpll_phase_error n.val).natAbs * 1000 ≤ s.attrN Attr.dpll_lock_limit_used n.val * 65536 →
    ∃ t, exec (.lockAcquired n) s = .next t ∧ t.dpllState n.val = .locked ∧ t.flag Attr.dpll_has_locked n.val = true ∧
      t.attr Attr.dpll_state_since n.val = s.counter ∧ (t.latch (evLoop n.val 3)).latched = true ∧
      (t.latch (evLoop n.val 4)).cause = false) ∧
  (∀ (s : State) (n : Fin 16), s.timing = true → s.flag Attr.dpll_settling n.val = true →
    exec (.settlingEnd n) s = .next ((s.advance (s.dpll n.val).settleEnds).put1 Attr.dpll_settling n.val 0) ∧
      ((s.advance (s.dpll n.val).settleEnds).put1 Attr.dpll_settling n.val 0).flag Attr.dpll_settling n.val = false) ∧
  (∀ (s : State) (n : Fin 16) (m : Movement) (tick : Nat), s.timing = true → s.nextEnd n.val = some (m, tick) →
      (s.dpll n.val).moves.any (·.word) = false →
    ∃ t, exec (.slopeMovementComplete n) s = .next t ∧
      ((t.dpll n.val).moves.map fun m => (m.kind, m.remaining)) = (((s.dpll n.val).moves.erase m).map fun m => (m.kind, m.remaining)) ∧
      t.counter = max s.counter tick ∧ (∀ j, j ≠ n.val → t.dpll j = s.dpll j) ∧ s.sameBut t [.counter, .dplls]) ∧
  (∀ (s : State) (n : Fin 16) (m : Movement) (tick : Nat), s.timing = true → s.nextEnd n.val = some (m, tick) →
      (s.dpll n.val).moves.any (·.word) = true →
    ∃ t, exec (.slopeMovementComplete n) s = .next t ∧
      ((t.dpll n.val).moves.map fun m => (m.kind, m.remaining)) = (((s.dpll n.val).moves.erase m).map fun m => (m.kind, m.remaining)) ∧
      t.counter = max s.counter tick ∧ (t.dpll n.val).base = (s.dpll n.val).base ∧
      ((s.dpll n.val).moves.erase m = [] → t.attr Attr.dpll_freq_word n.val = clampWord (s.dpll n.val).base))

/-- TE_ESTIMATE_EVAL, at the next whole millisecond since entry, reports the estimate and moves between HOLDOVER and HOLDOVER-
LIMIT as it stands to the budget; HOLDOVER_WORD_REFRESH restarts the control-loss timer, drops its cause, writes the free-run
word of the ensemble model and, outside holdover with two usable records or more, the coefficient E0 of the records;
LEDGER_RECORD at the end of an ensemble second appends the record of the second and loses the oldest of a full FIFO;
LEDGER_DRAIN empties the FIFO; HOLDOVER_SUMMARY_STORE gives the shadow store each summary. Commands shown to complete, each
under the conditions its clause puts on the state and the operands: TE_ESTIMATE_EVAL, HOLDOVER_WORD_REFRESH, LEDGER_RECORD,
LEDGER_DRAIN, HOLDOVER_SUMMARY_STORE. -/
def Obligations.DpllHoldover : Prop :=
  (∀ (s : State) (n : Fin 16) (u : State), s.timing = true → s.dpllState n.val = .holdover ∨ s.dpllState n.val = .holdoverLimit →
      u = s.advance ((s.dpll n.val).entered + (s.sinceEntry n.val + 1) * 1350000) →
    ∃ t, exec (.teEstimateEval n) s = .next t ∧ t.counter = u.counter ∧
      t.attr Attr.dpll_ho_te_est n.val = s.teEstimate n.val (u.sinceEntry n.val) ∧
      t.attr Attr.dpll_ho_elapsed n.val = ((u.sinceEntry n.val / 1000 % 2 ^ 32 : Nat) : Int) ∧
      t.dpllState n.val = (if s.attrN Attr.dpll_ho_budget n.val * 1000 < s.teEstimate n.val (u.sinceEntry n.val) then .holdoverLimit
        else if s.teEstimate n.val (u.sinceEntry n.val) < s.attrN Attr.dpll_ho_budget n.val * 1000 then .holdover
        else s.dpllState n.val)) ∧
  (∀ (s : State) (n : Fin 16), s.engines = true → s.dpllState n.val ≠ .holdover → s.dpllState n.val ≠ .holdoverLimit →
    ∃ t, exec (.holdoverWordRefresh n) s = .next t ∧ (t.dpll n.val).ctrlLost = false ∧ (t.dpll n.val).timerFrom = s.counter ∧
      (t.latch (496 + n.val)).cause = false ∧ t.attr Attr.dpll_ho_usable n.val = (s.usable n.val).length ∧
      (t.dpll n.val).freeRunWord = clampWord (-(s.ensembleModel s.second s.meanTemp)) ∧
      (2 ≤ (s.usable n.val).length → t.attr Attr.dpll_ho_te_coeff n.val 0 = (satNat 0xFFFFFFFF (teE0 (s.usable n.val)) : Int)) ∧
      t.dpllState n.val = s.dpllState n.val) ∧
  (∀ (s : State) (n : Fin 16) (ends : Nat), s.timing = true → ends = max s.second ((s.dpll n.val).secondCount + 1) →
    ∃ t, exec (.ledgerRecord n) s = .next t ∧ t.counter = max s.counter (ends * ticksPerSecond) ∧
      (t.dpll n.val).fifo = (if 64 ≤ (s.dpll n.val).fifo.length then (s.dpll n.val).fifo.drop 1 else (s.dpll n.val).fifo) ++
        [(s.advance (ends * ticksPerSecond)).formRecord n.val (ends - 1)] ∧
      t.attr Attr.dpll_ledger_gaps n.val = (if 64 ≤ (s.dpll n.val).fifo.length
        then (s.attr Attr.dpll_ledger_gaps n.val + 1) % (256 ^ Attr.dpll_ledger_gaps.bytes : Nat) else s.attr Attr.dpll_ledger_gaps n.val) ∧
      s.sameBut t [.counter, .dplls, .attrs, .store, .freeCount]) ∧
  (∀ (s : State) (n : Fin 16), s.engines = true →
    ∃ t, exec (.ledgerDrain n) s = .next t ∧ (t.dpll n.val).fifo = [] ∧ (∀ m, m ≠ n.val → t.dpll m = s.dpll m) ∧
      s.sameBut t [.dplls, .attrs, .store, .faults, .tm]) ∧
  (∀ s : State, s.engines = true →
    ∃ t, exec .holdoverSummaryStore s = .next t ∧
      (∀ n, n < 16 → t.attr Shadow.summary n 0 = (s.dpll n).means.1 ∧ t.attr Shadow.summary n 4 = s.attr Attr.dpll_has_locked n) ∧
      s.sameBut t [.attrs, .store, .faults])

/-- DPLL_POST gives the domain bound to the DPLL one update with its word, its lead over the domain in whole fractions and the
nudges that wait, each counted, and clears them, where the time unit takes it; CTRL_LOSS_TIMEOUT marks the DPLL and latches
its control-loss source; on a bound domain ADJ_FREQ on an OPEN DPLL and the step form of ADJ_PHASE outside the loop leave
their word or nudge for that post. Commands shown to complete, each under the conditions its clause puts on the state and the
operands: ADJ_FREQ, ADJ_PHASE, DPLL_POST, CTRL_LOSS_TIMEOUT. -/
def Obligations.DpllPost : Prop :=
  (∀ (s : State) (n : Fin 16) (instant d : Nat), s.timing = true → s.boundDom n.val = some d → s.canUpdate d instant = true →
      (s.dpll n.val).pendWord = none →
    ∃ t, exec (.dpllPost n instant) s = .next t ∧
      (t.dom d).pend = some { instant := instant, period := periodWord (s.attr Attr.dpll_freq_word n.val), absolute := none
                              delta := s.leadAt n.val d instant / leadUnit + (s.dpll n.val).pendNudge, steps := (s.dpll n.val).nudges
                              jump := (s.dpll n.val).pendNudge, sets := (s.dpll n.val).setsTime } ∧
      (t.dpll n.val).pendNudge = 0 ∧ (t.dpll n.val).nudges = 0 ∧ (t.dpll n.val).posted = (periodWord (s.attr Attr.dpll_freq_word n.val) : Int) ∧
      (t.dpll n.val).acc = s.leadAt n.val d instant % leadUnit ∧
      (t.dom d).words = (s.dom d).words ∧ s.sameBut t [.attrs, .doms, .dplls, .store]) ∧
  (∀ (s : State) (n : Fin 16) (d : Nat), s.timing = true → s.boundDom n.val = some d → s.dpllState n.val ≠ .opened →
      (s.dpll n.val).ctrlLost = false →
    ∃ t, exec (.ctrlLossTimeout n) s = .next t ∧ (t.dpll n.val).ctrlLost = true ∧ (t.latch (496 + n.val)).latched = true ∧
      (t.latch (496 + n.val)).cause = true ∧
      t.counter = max s.counter ((s.dpll n.val).timerFrom + s.attrN Attr.fault_ctrl_loss_timeout * ticksPerSecond) ∧
      s.framedRaise t [.counter, .dplls] []) ∧
  (∀ (s : State) (who : Issuer) (d n : Nat) (ppt : Int) (instant : Nat), s.serves who → issuerClient who = 0 → d ≤ 511 →
      s.boundDpll d = some n → s.dpllState n = .opened → ppt.natAbs ≤ 250000000 →
    ∃ t, exec (.adjFreq who d ppt instant) s = .next t ∧ t.answered who 0x0607 0 ∧ t.resultOf who = bytesLE 8 (periodPpt ppt) ∧
      t.dpll n = { s.dpll n with pendWord := some (ppt * 1000000) } ∧ s.framed t [.dplls] []) ∧
  (∀ (s : State) (who : Issuer) (d n : Nat) (x : Int) (instant : Nat), s.serves who → issuerClient who = 0 → d ≤ 511 →
      s.boundDpll d = some n → s.inLoop n = false → x.natAbs ≤ secondUnits → 0 ≤ s.domNow d + x →
    ∃ t, exec (.adjPhase who d 0 x instant) s = .next t ∧ t.answered who 0x0608 0 ∧ t.resultOf who = bytesLE 8 instant ∧
      (t.dpll n).pendNudge = (s.dpll n).pendNudge + x ∧ (t.dpll n).nudges = (s.dpll n).nudges + 1 ∧ t.doms = s.doms)

/-- SYN.COMMIT of members that are free, in range and ready arms the slot with them; one whose time has passed is refused with
E_RANGE and counted; SYN.CANCEL disarms the slot and reports it CANCELLED; SYN.RETUNE makes the pending ratio active and
leaves the synthesiser RETUNING. Commands shown to complete, each under the conditions its clause puts on the state and the
operands: SYN_COMMIT, SYN_CANCEL, SYN_RETUNE. -/
def Obligations.SynActions : Prop :=
  (∀ (s : State) (who : Issuer) (slot trigger edge synMask outMask d time : Nat), s.serves who → issuerClient who = 0 →
      s.commitRange slot trigger edge synMask outMask d time = false → s.triggerPassed trigger d time = false →
      s.commitState trigger edge synMask outMask d = false → s.commitInUse slot synMask outMask = false →
    ∃ t, exec (.synCommit who slot trigger edge synMask outMask d time) s = .next t ∧ t.answered who 0x0500 0 ∧
      tblFind t.arms slot = some { trigger := trigger, edgeOutput := edge, synMask := synMask % 256, outMask := outMask, domain := d
                                   time := (commandTime time).getD 0, armedAt := s.counter } ∧
      (∀ k, k ≠ slot → tblFind t.arms k = tblFind s.arms k) ∧ t.attr Attr.syn_commit_slots 0 slot = SlotOutcome.armed.code ∧
      s.framed t [.arms] [Attr.syn_commit_slots.key 0 slot]) ∧
  (∀ (s : State) (who : Issuer) (slot trigger edge synMask outMask d time : Nat), s.serves who → issuerClient who = 0 →
      s.commitRange slot trigger edge synMask outMask d time = false → s.triggerPassed trigger d time = true →
    ∃ t, exec (.synCommit who slot trigger edge synMask outMask d time) s = .next t ∧ t.answered who 0x0500 E_RANGE ∧ t.arms = s.arms ∧
      t.attr Attr.syn_commit_late = (s.attr Attr.syn_commit_late + 1) % (256 ^ Attr.syn_commit_late.bytes : Nat) ∧
      s.framed t [] [Attr.syn_commit_late.key 0 0]) ∧
  (∀ (s : State) (who : Issuer) (slot : Nat) (a : CommitArm), s.serves who → issuerClient who = 0 → slot ≤ 7 →
      tblFind s.arms slot = some a →
    ∃ t, exec (.synCancel who slot) s = .next t ∧ t.answered who 0x0501 0 ∧ tblFind t.arms slot = none ∧
      (∀ k, k ≠ slot → tblFind t.arms k = tblFind s.arms k) ∧ t.attr Attr.syn_commit_slots 0 slot = SlotOutcome.cancelled.code ∧
      (t.latch (Ev.commit slot)).latched = true ∧ s.framedRaise t [.arms] [Attr.syn_commit_slots.key 0 slot]) ∧
  (∀ (s : State) (who : Issuer) (n : Nat), s.serves who → issuerClient who = 0 → n ≤ 7 → ratioOk (s.pendingRatio n) = true →
      s.synState n ≠ .off → s.synState n ≠ .calibrating → s.tapUsers n = 0 →
    ∃ t, exec (.synRetune who n) s = .next t ∧ t.answered who 0x0502 0 ∧ t.synState n = .retuning ∧
      t.activeRatio n = s.pendingRatio n ∧ t.attr Attr.syn_vco_active n = vcoMilli (s.pendingRatio n) ∧
      t.attr Attr.syn_retunes n = (s.attr Attr.syn_retunes n + 1) % (256 ^ Attr.syn_retunes.bytes : Nat) ∧
      s.framed t [.syns] [Attr.syn_vco_active.key n 0, Attr.syn_state.key n 0, Attr.syn_retunes.key n 0])

/-- CALIBRATION_COMPLETE locks a calibrating synthesiser and lets its enabled outputs start, with a tuning margin that the spec
does not state (a free value, log entry 3); RETUNE_COMPLETE locks it at margin 100; CALIBRATION_FAILURE and
SYNTHESISER_UNLOCK leave it UNLOCKED with their source latched and its cause present; TUNING_MARGIN_LOW reports the margin,
with its cause present where it is below 10 per cent and gone where it is not (that the row also reports a risen margin is
the model's reading, log entry 86). Commands shown to complete, each under the conditions its clause puts on the state and
the operands: CALIBRATION_COMPLETE, CALIBRATION_FAILURE, RETUNE_COMPLETE, SYNTHESISER_UNLOCK, TUNING_MARGIN_LOW. -/
def Obligations.SynStates : Prop :=
  (∀ (s : State) (n : Fin 8), s.timing = true → s.synState n.val = .calibrating →
    ∃ t, exec (.calibrationComplete n) s = .next t ∧ t.synState n.val = .locked ∧ (t.syn n.val).lockedAt = s.counter ∧
      t.attr Attr.syn_tune_margin n.val = Config.freeValue s.freeCount % 101 ∧ t.freeCount = s.freeCount + 1 ∧
      (t.latch (Ev.syn n.val 0)).cause = false ∧ (t.latch (Ev.syn n.val 1)).cause = false ∧
      (∀ o, o < 32 → o / 4 = n.val → s.flag Attr.output_enable o = true → ((t.outp o).starting || (t.outp o).started) = true) ∧
      s.sameBut t [.attrs, .inputs, .syns, .outs, .faults, .tm, .store, .host, .out, .net, .freeCount]) ∧
  (∀ (s : State) (n : Fin 8), s.timing = true → s.synState n.val = .retuning →
    ∃ t, exec (.retuneComplete n) s = .next t ∧ t.synState n.val = .locked ∧ (t.syn n.val).lockedAt = s.counter ∧
      t.attr Attr.syn_tune_margin n.val = 100 ∧ (t.latch (Ev.syn n.val 3)).latched = true) ∧
  (∀ (s : State) (n : Fin 8), s.timing = true → s.synState n.val = .calibrating ∨ s.synState n.val = .retuning →
    ∃ t, exec (.calibrationFailure n) s = .next t ∧ t.synState n.val = .unlocked ∧ (t.latch (Ev.syn n.val 1)).latched = true ∧
      (t.latch (Ev.syn n.val 1)).cause = true ∧ s.framedRaise t [] [Attr.syn_state.key n.val 0]) ∧
  (∀ (s : State) (n : Fin 8), s.timing = true → s.synState n.val = .locked →
    ∃ t, exec (.synthesiserUnlock n) s = .next t ∧ t.synState n.val = .unlocked ∧ (t.latch (Ev.syn n.val 0)).latched = true ∧
      (t.latch (Ev.syn n.val 0)).cause = true ∧ s.framedRaise t [] [Attr.syn_state.key n.val 0]) ∧
  (∀ (s : State) (n : Fin 8) (margin : Nat), s.timing = true → s.synState n.val = .locked → margin ≤ 100 →
    ∃ t, exec (.tuningMarginLow n margin) s = .next t ∧ t.attr Attr.syn_tune_margin n.val = margin ∧
      (t.latch (Ev.syn n.val 2)).cause = decide (margin < 10) ∧
      (margin < 10 → 10 ≤ s.attr Attr.syn_tune_margin n.val → (t.latch (Ev.syn n.val 2)).latched = true) ∧ s.framedRaise t [] [Attr.syn_tune_margin.key n.val 0])

/-- OUTPUT_START runs an enabled output on a LOCKED synthesiser from the first instant of its grid at least 1 us after its
setting reached hardware, gated where its conditions ask it; OUTPUT_STOP stops a disabled output and clears its phase
movement, and gates one that is to be gated; OUTPUT_UNGATE re-enables the driver; STEPPER_STEP takes one fine step towards
zero; DRIVER_FAULT sets and clears the fault of the driver; OUTPUT.DO_STEP restarts a PULSE output that is off its target and
changes nothing on one that is on it. Commands shown to complete, each under the conditions its clause puts on the state and
the operands: OUTPUT_DO_STEP, OUTPUT_START, OUTPUT_STOP, OUTPUT_UNGATE, STEPPER_STEP, DRIVER_FAULT. -/
def Obligations.OutputEvents : Prop :=
  (∀ (s : State) (n : Fin 32), s.timing = true → (s.outp n.val).starting = true → s.flag Attr.output_enable n.val = true →
      s.synState (n.val / 4) = .locked →
    ∃ t, exec (.outputStart n) s = .next t ∧
      t.outp n.val = { s.outp n.val with starting := false, started := true, gated := s.outGateWanted n.val } ∧
      t.counter = (s.reachGrid n.val (s.startInstant n.val)).counter ∧
      (∀ m, m ≠ n.val → t.outp m = s.outp m) ∧ s.sameBut t [.counter, .outs]) ∧
  (∀ (s : State) (n : Fin 32), s.timing = true → (s.outp n.val).started = true →
      s.flag Attr.output_enable n.val = false ∨ s.synState (n.val / 4) = .off →
    ∃ t, exec (.outputStop n) s = .next t ∧
      t.outp n.val = { s.outp n.val with started := false, gated := false, orphan := false, stepper := 0, delayLeft := 0, transit := none, lehr := {} } ∧
      (∀ m, m ≠ n.val → t.outp m = s.outp m) ∧
      s.framedRaise t [.outs] [Attr.todgen_tod_tx_state.key 0 0, Attr.todgen_tod_tx_state.key 1 0]) ∧
  (∀ (s : State) (n : Fin 32), s.timing = true → (s.outp n.val).started = true → s.flag Attr.output_enable n.val = true →
      s.synState (n.val / 4) ≠ .off → s.outGateWanted n.val = true →
    ∃ t, exec (.outputStop n) s = .next t ∧ t.outp n.val = { s.outp n.val with gated := true } ∧
      (∀ m, m ≠ n.val → t.outp m = s.outp m) ∧
      s.framedRaise t [.outs] [Attr.todgen_tod_tx_state.key 0 0, Attr.todgen_tod_tx_state.key 1 0]) ∧
  (∀ (s : State) (n : Fin 32), s.timing = true → (s.outp n.val).started = true → s.outGateWanted n.val = false →
    ∃ t, exec (.outputUngate n) s = .next t ∧ t.outp n.val = { s.outp n.val with gated := false } ∧
      (∀ m, m ≠ n.val → t.outp m = s.outp m) ∧ s.sameBut t [.outs]) ∧
  (∀ (s : State) (n : Fin 32), s.timing = true → (s.outp n.val).started = true → (s.outp n.val).toRun ≠ 0 →
    ∃ t, exec (.stepperStep n) s = .next t ∧
      (t.outp n.val).toRun = (if 0 < (s.outp n.val).toRun then (s.outp n.val).toRun - 1 else (s.outp n.val).toRun + 1) ∧
      ((t.outp n.val).toRun = 0 → t.synMoving (n.val / 4) = false → (t.latch (Ev.movement (n.val / 4))).latched = true) ∧
      (∀ m, m ≠ n.val → t.outp m = s.outp m) ∧ s.framedRaise t [.outs] []) ∧
  (∀ (s : State) (n : Fin 32), s.timing = true →
    (∃ t, exec (.driverFault n true) s = .next t ∧ t.flag Attr.output_driver_fault n.val = true ∧
      (s.flag Attr.output_driver_fault n.val = false → (t.latch (Ev.driver n.val)).latched = true) ∧
      s.framedRaise t [] [Attr.output_driver_fault.key n.val 0]) ∧
    ∃ t, exec (.driverFault n false) s = .next t ∧ t.flag Attr.output_driver_fault n.val = false ∧
      (t.latch (Ev.driver n.val)).cause = false) ∧
  (∀ (s : State) (who : Issuer) (n : Nat), s.serves who → issuerClient who = 0 → n ≤ 31 → (s.outp n).pulse = true →
    ∃ t, exec (.outputDoStep who n) s = .next t ∧ t.answered who 0x0D00 0 ∧
      (if s.outLehr n = 0 then s.framed t [] []
       else (t.outp n).lehr = { e := s.outLehr n, since := s.outTime n, stepping := true, stepAt := s.pulseEnd n } ∧ (t.latch 580).latched = true ∧
        t.attr Attr.output_lehr_moves n = (s.attr Attr.output_lehr_moves n + 1) % (256 ^ Attr.output_lehr_moves.bytes : Nat) ∧
        s.framedRaise t [.outs] [Attr.output_lehr_moves.key n 0]))

/-- COMMIT_TRIGGER of an armed slot, at the trigger instant that its arm names (the first tick after the arm, the first rising
edge of the edge output, or the instant of the time T), makes the pending ratio and DPLL of each member synthesiser and the
pending setting of each member output active, disarms the slot, reports it APPLIED and latches its source. Commands shown to
complete, each under the conditions its clause puts on the state and the operands: COMMIT_TRIGGER. -/
def Obligations.CommitApplies : Prop :=
  ∀ (s u : State) (slot : Fin 8) (a : CommitArm), s.timing = true → tblFind s.arms slot.val = some a → s.triggerReached a = some u →
    ∃ t, exec (.commitTrigger slot) s = .next t ∧ tblFind t.arms slot.val = none ∧
      (∀ k, k ≠ slot.val → tblFind t.arms k = tblFind s.arms k) ∧
      t.attr Attr.syn_commit_slots 0 slot.val = SlotOutcome.applied.code ∧ (t.latch (Ev.commit slot.val)).latched = true ∧
      (∀ n, n < 8 → bitOf a.synMask n = true →
        t.activeRatio n = s.pendingRatio n ∧ t.attr Attr.syn_dpll_active n = s.attr Attr.syn_dpll n ∧
          (t.syn n).committedAt = some u.counter) ∧
      (∀ n, n < 8 → bitOf a.synMask n = false → t.syn n = s.syn n) ∧
      (∀ o, o < 32 → bitOf a.outMask o = true → t.activeSetting o = s.pendingSetting o) ∧ t.counter = u.counter

/-- The DO_STEP actions of VIDGEN, AUDGEN and TCGEN restart a generator that is off its target as stepping, count the movement
and latch source 580, and change nothing on one that is on it; TCGEN.JAM of a running 29.97 frames/s generator leaves a jam
due at the first alignment point at least 1 us later. Commands shown to complete, each under the conditions its clause puts
on the state and the operands: VIDGEN_DO_STEP, AUDGEN_DO_STEP, TCGEN_DO_STEP, TCGEN_JAM. -/
def Obligations.GeneratorActions : Prop :=
  (∀ (s : State) (who : Issuer) (n : Nat), s.serves who → issuerClient who = 0 → n ≤ 7 →
    ∃ t, exec (.vidgenDoStep who n) s = .next t ∧ t.answered who 0x0700 0 ∧
      (if s.genLehr n = 0 then s.framed t [] []
       else (t.gen n).lehr = { e := s.genLehr n, since := s.lehrTime (s.genDomain n), stepping := true, stepAt := (s.unitEnd n).1 } ∧ (t.latch 580).latched = true ∧
        s.framedRaise t [.gens] [Attr.vidgen_lehr_moves.key n 0])) ∧
  (∀ (s : State) (who : Issuer) (n : Nat), s.serves who → issuerClient who = 0 → n ≤ 5 →
    ∃ t, exec (.audgenDoStep who n) s = .next t ∧ t.answered who 0x0E00 0 ∧
      (if s.genLehr (8 + n) = 0 then s.framed t [] []
       else (t.gen (8 + n)).lehr = { e := s.genLehr (8 + n), since := s.lehrTime (s.genDomain (8 + n)), stepping := true, stepAt := (s.unitEnd (8 + n)).1 } ∧ (t.latch 580).latched = true ∧
        s.framedRaise t [.gens] [Attr.audgen_lehr_moves.key n 0])) ∧
  (∀ (s : State) (who : Issuer) (n : Nat), s.serves who → issuerClient who = 0 → n ≤ 1 →
    ∃ t, exec (.tcgenDoStep who n) s = .next t ∧ t.answered who 0x0F00 0 ∧
      (if s.genLehr (14 + n) = 0 then s.framed t [] []
       else (t.gen (14 + n)).lehr = { e := s.genLehr (14 + n), since := s.lehrTime (s.genDomain (14 + n)), stepping := true, stepAt := (s.unitEnd (14 + n)).1 } ∧ (t.latch 580).latched = true ∧
        s.framedRaise t [.gens] [Attr.tcgen_lehr_moves.key n 0])) ∧
  (∀ (s : State) (who : Issuer) (n : Nat), s.serves who → issuerClient who = 0 → n ≤ 1 → s.tc2997 n = true →
      s.genState (14 + n) = .running ∨ s.genState (14 + n) = .gated ∨ s.genState (14 + n) = .safe → (s.gen (14 + n)).running = true →
    ∃ t, exec (.tcgenJam who n) s = .next t ∧ t.answered who 0x0F01 0 ∧ 
      t.gen (14 + n) = { s.gen (14 + n) with jamDue := some (s.nextTcFrame n (s.lehrTime (s.genDomain (14 + n)) + microUnits)) } ∧
      (∀ g, g ≠ 14 + n → t.gen g = s.gen g) ∧ s.framed t [.gens] [])

/-- GENERATOR_START runs a released generator from its first alignment point on, gated where its conditions ask it;
GENERATOR_GATE follows those conditions; STEP_RESTART and LEHR_MOVEMENT_END leave the Lehr error of a generator or a PULSE
output at 0 and not stepping; GENERATOR_OUTPUT_FAULT sets and clears the fault of the output. Commands shown to complete,
each under the conditions its clause puts on the state and the operands: GENERATOR_START, GENERATOR_GATE, STEP_RESTART,
LEHR_MOVEMENT_END, GENERATOR_OUTPUT_FAULT. -/
def Obligations.GeneratorEvents : Prop :=
  (∀ (s : State) (g : Gen), s.timing = true → s.genReleased (genNumber g) = true →
    ∃ t, exec (.generatorStart g) s = .next t ∧ (t.gen (genNumber g)).running = true ∧
      (t.gen (genNumber g)).start = s.genStartPoint (genNumber g) ∧
      t.counter = (s.reach (s.genDomain (genNumber g)) (s.genStartPoint (genNumber g))).counter ∧
      (t.gen (genNumber g)).gated = s.genGateWanted (genNumber g) ∧
      (t.gen (genNumber g)).lehr = { since := t.lehrTime (t.genDomain (genNumber g)) } ∧
      (∀ k, k ≠ genNumber g → t.gen k = s.gen k)) ∧
  (∀ (s : State) (g : Gen), s.timing = true → (s.gen (genNumber g)).running = true →
    ∃ t, exec (.generatorGate g) s = .next t ∧ t.gen (genNumber g) = { s.gen (genNumber g) with gated := s.genGateWanted (genNumber g) } ∧
      (∀ k, k ≠ genNumber g → t.gen k = s.gen k) ∧ s.sameBut t [.gens]) ∧
  (∀ (s : State) (x : Gen), s.timing = true → (s.gen (genNumber x)).lehr.stepping = true →
    ∃ t, exec (.stepRestart (.gen x)) s = .next t ∧ 
      (t.gen (genNumber x)).lehr = { since := t.lehrTime (t.genDomain (genNumber x)) } ∧
      t.counter = (s.reach (s.genDomain (genNumber x)) (s.genRestartPoint (genNumber x))).counter ∧ s.framedRaise t [.counter, .gens] []) ∧
  (∀ (s : State) (n : Fin 32), s.timing = true → (s.outp n.val).lehr.stepping = true →
    ∃ t, exec (.stepRestart (.out n)) s = .next t ∧ (t.outp n.val).lehr = { since := t.outTime n.val } ∧
      t.counter = (s.reachGrid n.val (s.outRestartPoint n.val)).counter ∧ s.framedRaise t [.counter, .outs] []) ∧
  (∀ (s : State) (x : Gen), s.timing = true → (s.gen (genNumber x)).lehr.e ≠ 0 → (s.gen (genNumber x)).lehr.stepping = false →
    ∃ t, exec (.lehrMovementEnd (.gen x)) s = .next t ∧
      (t.gen (genNumber x)).lehr = { since := t.lehrTime (t.genDomain (genNumber x)) } ∧
      (t.latch 579).latched = true ∧ s.framedRaise t [.counter, .gens] []) ∧
  (∀ (s : State) (n : Fin 32), s.timing = true → (s.outp n.val).lehr.e ≠ 0 → (s.outp n.val).lehr.stepping = false →
    ∃ t, exec (.lehrMovementEnd (.out n)) s = .next t ∧ (t.outp n.val).lehr = { since := t.outTime n.val } ∧
      (t.latch 579).latched = true ∧ s.framedRaise t [.counter, .outs] []) ∧
  (∀ (s : State) (g : Gen), s.timing = true →
    (∃ t, exec (.generatorOutputFault g true) s = .next t ∧ t.flag (genFault (genNumber g)) (genInst (genNumber g)) = true ∧
      (s.flag (genFault (genNumber g)) (genInst (genNumber g)) = false → (t.latch (560 + genNumber g)).latched = true)) ∧
    ∃ t, exec (.generatorOutputFault g false) s = .next t ∧ t.flag (genFault (genNumber g)) (genInst (genNumber g)) = false ∧
      (t.latch (560 + genNumber g)).cause = false)

/-- VIDEO_FORMAT_CHANGE at the end of the frame in progress makes the set format active with its error formed against the new
grid; AES_GRADE_CHANGE reports the grade that holds now and latches source 586; JAM_ARM arms a jam in hardware; DAILY_JAM and
TC_JAM_APPLY take the base of the count that their instant sets; TODGEN_MESSAGE of a generator that is not quiet sends and
counts its pair of messages. Commands shown to complete, each under the conditions its clause puts on the state and the
operands: VIDEO_FORMAT_CHANGE, AES_GRADE_CHANGE, JAM_ARM, DAILY_JAM, TC_JAM_APPLY, TODGEN_MESSAGE. -/
def Obligations.GeneratorFormats : Prop :=
  (∀ (s : State) (n : Fin 8), s.timing = true → (s.gen n.val).running = true → (s.gen n.val).formatDue = true →
    ∃ t, exec (.videoFormatChange n) s = .next t ∧ t.attr Attr.vidgen_format_active n.val = s.attr Attr.vidgen_vid_format n.val ∧
      (t.gen n.val).formatDue = false ∧ (t.gen n.val).lehr.e = t.gridError n.val (s.unitEnd n.val).1 ∧
      (∀ k, k ≠ n.val → t.gen k = s.gen k) ∧ t.counter = (s.reach (s.genDomain n.val) (s.unitEnd n.val).1).counter) ∧
  (∀ (s : State) (n : Fin 2), s.timing = true → (s.gen (12 + n.val)).running = true →
      s.aesGradeNow (12 + n.val) ≠ s.attr Attr.audgen_aes_grade (4 + n.val) →
    ∃ t, exec (.aesGradeChange n) s = .next t ∧ t.attr Attr.audgen_aes_grade (4 + n.val) = s.aesGradeNow (12 + n.val) ∧
      (t.latch 586).latched = true ∧ s.framedRaise t [] [Attr.audgen_aes_grade.key (4 + n.val) 0]) ∧
  (∀ (s : State) (n : Fin 2) (transition : Bool), s.control = true → (s.gen (14 + n.val)).running = true →
    ∃ t, exec (.jamArm n transition) s = .next t ∧
      t.gen (14 + n.val) = (if transition then { s.gen (14 + n.val) with tzArmed := true } else { s.gen (14 + n.val) with dailyArmed := true }) ∧
      (∀ k, k ≠ 14 + n.val → t.gen k = s.gen k) ∧ s.sameBut t [.gens]) ∧
  (∀ (s : State) (n : Fin 2), s.timing = true → (s.gen (14 + n.val)).running = true → s.tc2997 n.val = true →
      (s.gen (14 + n.val)).dailyArmed = true ∨ s.firmware = true →
    ∃ t, exec (.dailyJam n) s = .next t ∧ (t.gen (14 + n.val)).dailyArmed = false ∧
      (t.gen (14 + n.val)).base = some (s.jamBase n.val (s.nextDaily n.val)) ∧ s.counter ≤ t.counter) ∧
  (∀ (s : State) (n : Fin 2) (j : Int), s.timing = true → (s.gen (14 + n.val)).running = true → s.tc2997 n.val = true →
      (s.gen (14 + n.val)).jamDue = some j →
    ∃ t, exec (.tcJamApply n) s = .next t ∧ (t.gen (14 + n.val)).jamDue = none ∧
      (t.gen (14 + n.val)).base = some (s.jamBase n.val j) ∧ s.counter ≤ t.counter) ∧
  (∀ (s : State) (n : Fin 2), s.timing = true → s.genState (16 + n.val) = .running → s.todQuiet n.val = false →
    ∃ t, exec (.todgenMessage n) s = .next t ∧ t.attr Attr.todgen_tod_tx_state n.val = TodTxState.sending.code ∧
      t.attr Attr.todgen_tod_tx_count n.val = (s.attr Attr.todgen_tod_tx_count n.val + 2) % (256 ^ Attr.todgen_tod_tx_count.bytes : Nat) ∧
      (s.attr Attr.todgen_tod_tx_state (1 - n.val) ≠ TodTxState.quiet.code → (t.latch 585).cause = false) ∧
      t.counter = (s.reachGrid (s.attrN Attr.todgen_tod_companion n.val) (s.todInstant n.val)).counter)

/-- INPUT_EDGE counts and keeps the stamp at its corrected place, starts the loss-of-signal time anew, and fails the phase
monitor at a departure from the fit beyond its limit; on an LTC input a transition only starts that time anew. LOS_TIMEOUT at
its instant fails the loss monitor and latches its source with its cause; FREQ_GATE_COMPLETE at the end of the gate reports
the clamped mean offset of the stamps of the gate, fails or passes the frequency monitor under its two limits and begins the
next gate, without a verdict on a suppressed feedback channel; SOAK_EXPIRY of a SOAKING input at the end of its soak leaves
it QUALIFIED. How stamps are numbered and fitted is a reading of the model (log entry 78). Commands shown to complete, each
under the conditions its clause puts on the state and the operands: INPUT_EDGE, LOS_TIMEOUT, FREQ_GATE_COMPLETE, SOAK_EXPIRY. -/
def Obligations.InputMonitors : Prop :=
  (∀ (s : State) (n : Fin 36) (count vernier : Nat) (frameStart : Bool), s.timing = true → s.inputOn n.val = true →
      s.channelDown n.val = false → s.inputType n.val ≠ .ltc →
    ∃ t, exec (.inputEdge n count vernier frameStart) s = .next t ∧
      t.attr Attr.input_stamps n.val = (s.attr Attr.input_stamps n.val + 1) % (256 ^ Attr.input_stamps.bytes : Nat) ∧
      (t.input n.val).lastStamp = some (count, s.stampPlace n.val count vernier) ∧ (t.input n.val).losFrom = count ∧
      (t.input n.val).prevStamp = (s.input n.val).lastStamp ∧
      (∀ m, m ≠ n.val → t.input m = s.input m) ∧ t.counter = s.counter) ∧
  (∀ (s : State) (n : Fin 36) (count vernier : Nat) (frameStart : Bool) (f : LineFit) (q : Int), s.timing = true →
      s.inputOn n.val = true → s.channelDown n.val = false → s.inputType n.val ≠ .ltc → bitOf (s.failing n.val) 0 = false →
      s.suppressed n.val = false → (s.input n.val).fit = some f →
      q = s.monitorPlace n.val count (s.stampPlace n.val count vernier) → s.departs n.val f (s.stampNumber n.val q, q) = true →
    ∃ t, exec (.inputEdge n count vernier frameStart) s = .next t ∧ (t.input n.val).fit = none ∧ bitOf (t.failing n.val) 2 = true) ∧
  (∀ (s : State) (n : Fin 36) (count vernier : Nat) (frameStart : Bool), s.timing = true → s.inputOn n.val = true →
      s.channelDown n.val = false → s.inputType n.val = .ltc →
    ∃ t, exec (.inputEdge n count vernier frameStart) s = .next t ∧ (t.input n.val).losFrom = count ∧
      (t.input n.val).lastStamp = (s.input n.val).lastStamp ∧ t.attr Attr.input_stamps n.val = s.attr Attr.input_stamps n.val ∧
      (s.suppressed n.val = false → bitOf (t.failing n.val) 0 = false)) ∧
  (∀ (s : State) (n : Fin 36), s.timing = true → s.inputOn n.val = true → s.suppressed n.val = false →
      (s.channel n.val).failed = false → bitOf (s.failing n.val) 0 = false →
    ∃ t, exec (.losTimeout n) s = .next t ∧ bitOf (t.failing n.val) 0 = true ∧ t.inputs = s.inputs ∧
      (t.latch (evInput n.val 0)).latched = true ∧ (t.latch (evInput n.val 0)).cause = true ∧
      t.counter = max s.counter (s.losAt n.val)) ∧
  (∀ (s u : State) (n : Fin 36), s.timing = true → s.inputOn n.val = true → u = s.advance (s.gateAt n.val) → u.suppressed n.val = false →
    ∃ t, exec (.freqGateComplete n) s = .next t ∧ t.counter = u.counter ∧ (t.input n.val).freqPass = u.gatePasses n.val ∧
      bitOf (t.failing n.val) 1 = !u.gatePasses n.val ∧ (t.input n.val).gate = [] ∧ (t.input n.val).gateStart = s.gateAt n.val ∧
      ∀ x y, s.gateOffset n.val = some (x, y) →
        t.attr Attr.input_freq_offset n.val = clampInt (-2147483647) 2147483647 (roundQuot (x * 1000000000000000) y)) ∧
  (∀ (s : State) (n : Fin 36), s.timing = true → s.inputOn n.val = true → (s.advance (s.gateAt n.val)).suppressed n.val = true →
    ∃ t, exec (.freqGateComplete n) s = .next t ∧ t.counter = max s.counter (s.gateAt n.val) ∧ (t.input n.val).gate = [] ∧
      (t.input n.val).freqPass = (s.input n.val).freqPass ∧ s.sameBut t [.counter, .inputs]) ∧
  (∀ (s : State) (n : Fin 36), s.timing = true → s.attr Attr.input_qual_state n.val = QualState.soaking.code →
    ∃ t, exec (.soakExpiry n) s = .next t ∧ t.attr Attr.input_qual_state n.val = QualState.qualified.code ∧
      (t.latch (evInput n.val 1)).cause = false ∧ t.inputs = s.inputs ∧ t.counter = max s.counter (s.soakAt n.val))

/-- DRIFT_EVALUATION with a fit over the averages held reports the clamped trend and fails the monitor where a drift condition
holds; WANDER_EVALUATION sets its verdict from the phase data held; MSG_TIMEOUT at its instant drops the last grade with a
quality event; ESMC_PDU_RECEIVED grades the port's input by its code; VIDEO_FORMAT_DETECTED and the LTC rows keep the format,
the label and the discards. Commands shown to complete, each under the conditions its clause puts on the state and the
operands: DRIFT_EVALUATION, WANDER_EVALUATION, MSG_TIMEOUT, ESMC_PDU_RECEIVED, VIDEO_FORMAT_DETECTED, LTC_FRAME_DECODED,
LTC_DISCARD_WINDOW_CLEAR. -/
def Obligations.InputFirmware : Prop :=
  (∀ (s u : State) (n : Fin 36) (f : LineFit), s.control = true → s.monitored n.val = true → u = s.noteSecond n.val →
      u.driftFit n.val = some f →
    ∃ t, exec (.driftEvaluation n) s = .next t ∧
      t.attr Attr.input_freq_trend n.val = clampInt (-2147483647) 2147483647 (roundQuot (2 * f.b) (1000 * f.d)) ∧
      (t.input n.val).driftClear = (if u.drifting n.val f then 0 else (s.input n.val).driftClear + 1) ∧
      (u.drifting n.val f = true → bitOf (t.failing n.val) 4 = true) ∧ (t.input n.val).avgs = (u.input n.val).avgs ∧
      t.counter = s.counter) ∧
  (∀ (s : State) (n : Fin 36), s.control = true → s.monitored n.val = true →
    ∃ t, exec (.wanderEvaluation n) s = .next t ∧ bitOf (t.failing n.val) 3 = s.wanders n.val ∧ t.counter = s.counter) ∧
  (∀ (s : State) (n : Fin 36) (g tick : Nat), s.control = true → s.monitored n.val = true →
      tblFind (s.input n.val).msgs (s.attrN Attr.input_grade_source n.val) = some (g, tick) → s.attrN Attr.input_grade_source n.val ≠ 0 →
    ∃ t, exec (.msgTimeout n) s = .next t ∧ tblFind (t.input n.val).msgs (s.attrN Attr.input_grade_source n.val) = none ∧
      (s.attr Attr.input_grade_override n.val = 255 → t.attrN Attr.input_grade n.val = s.attrN Attr.input_msg_lost_grade n.val) ∧
      (t.latch (evInput n.val 3)).latched = true ∧
      t.counter = max s.counter (tick + s.attrN Attr.input_msg_timeout n.val * ticksPerSecond)) ∧
  (∀ (s : State) (p : Fin 4) (ssm : Fin 16) (e : Option (Nat × Nat × Nat)), s.control = true → s.inputOn (22 + p.val) = true →
    ∃ t, exec (.esmcPduReceived p ssm e) s = .next t ∧ t.attr Attr.input_ssm_rx (22 + p.val) = ssm.val ∧
      tblFind (t.input (22 + p.val)).msgs 1 =
        some (esmcGrade (s.attr Attr.input_ssm_option (22 + p.val) == 1) ssm.val (e.map (·.1)), s.counter) ∧ t.counter = s.counter) ∧
  (∀ (s : State) (n : Fin 4) (format : Fin 17), s.control = true → s.inputOn (16 + n.val) = true →
    ∃ t, exec (.videoFormatDetected n format) s = .next t ∧ t.attr Attr.input_vsync_format (16 + n.val) = format.val ∧
      bitOf (t.failing (16 + n.val)) 6 = (format.val == 0 ||
        (s.attr Attr.input_vsync_expect (16 + n.val) != 0 && s.attr Attr.input_vsync_expect (16 + n.val) != (format.val : Int))) ∧
      t.counter = s.counter) ∧
  (∀ (s : State) (n : Fin 2) (rate : Fin 6) (civil : CivilTime) (frame : Nat) (zone : Fin 64) (count vernier : Nat) (sec : Int),
      s.timing = true → s.control = true → s.inputOn (20 + n.val) = true → s.channelDown (20 + n.val) = false →
      frame < ltcFrames rate.val → dropped rate.val civil.minute civil.second frame = false → s.ltcTime (20 + n.val) civil = some sec →
    ∃ t, exec (.ltcFrameDecoded n rate civil frame zone count vernier) s = .next t ∧ t.attr Attr.input_ltc_rate (20 + n.val) = rate.val ∧
      (t.input (20 + n.val)).ltcTime = some (sec, frame, s.stampPlace (20 + n.val) count vernier) ∧
      (t.input (20 + n.val)).lastStamp = some (count, s.stampPlace (20 + n.val) count vernier) ∧ t.counter = s.counter) ∧
  (∀ (s : State) (n : Fin 2), s.control = true → s.inputOn (20 + n.val) = true →
    ∃ t, exec (.ltcDiscardWindowClear n) s = .next t ∧ (t.input (20 + n.val)).discards = [] ∧
      bitOf (t.failing (20 + n.val)) 6 = false ∧
      ∀ last rest, (s.input (20 + n.val)).discards = last :: rest →
        t.counter = max s.counter (last + s.attrN Attr.input_ltc_discard_w (20 + n.val) * ticksPerSecond))

/-- A valid G.8271 time event or NMEA message under PRECEDING, within its window after the latest edge before it, whose time
keeps the sequence, is accepted as the label of that edge, and the NMEA ones grade the input; under FOLLOWING it waits for
the next edge. A time announce message with a good checksum grades the input; one with a bad checksum only counts an error.
Commands shown to complete, each under the conditions its clause puts on the state and the operands: TIME_EVENT_MESSAGE,
TIME_ANNOUNCE_MESSAGE, NMEA_ZDA, NMEA_RMC. -/
def Obligations.TimeOfDayMessages : Prop :=
  (∀ (s : State) (rx : Fin 2) (n seconds edge : Nat) (place : Int) (timing : LabelTiming), s.companion rx.val = some n → s.control = true →
      s.attr Attr.input_tod_protocol n = 0 → timing.checksumOk = true → s.attr Attr.input_tod_label n = 0 →
      (s.lastStamps n).find? (fun e => decide (e.2 ≤ (timing.start : Int) * 1024)) = some (edge, place) →
      inLabelWindow timing.start place = true → keepsSequence (s.input n).sequence seconds edge = true →
    ∃ t, exec (.timeEventMessage rx timing seconds) s = .next t ∧ (t.input n).sequence = some ((seconds : Int), edge) ∧
      (t.input n).label = some ((seconds : Int), place, s.counter) ∧ t.counter = s.counter) ∧
  (∀ (s : State) (rx : Fin 2) (n seconds : Nat) (timing : LabelTiming), s.companion rx.val = some n → s.control = true →
      s.attr Attr.input_tod_protocol n = 0 → timing.checksumOk = true → s.attr Attr.input_tod_label n ≠ 0 →
    ∃ t, exec (.timeEventMessage rx timing seconds) s = .next t ∧
      (t.input n).following = (s.input n).following ++
        [{ civil := none, seconds := (seconds : Int), short := false, grade := none, stop := timing.stop }] ∧ t.counter = s.counter) ∧
  (∀ (s : State) (rx : Fin 2) (n : Nat) (samples : List Bool) (status : TodStatus) (cls acc : Option Nat) (utc : UtcFields),
      s.companion rx.val = some n → s.control = true → s.attr Attr.input_tod_protocol n = 0 →
    (∃ t, exec (.timeAnnounceMessage rx true samples status cls acc utc) s = .next t ∧
      tblFind (t.input n).msgs 2 = some (todGrade status cls acc, s.counter) ∧ t.counter = s.counter) ∧
    ∃ t, exec (.timeAnnounceMessage rx false samples status cls acc utc) s = .next t ∧ t.inputs = s.inputs ∧
      t.attr Attr.input_rx_errors n 1 = (s.attr Attr.input_rx_errors n 1 + 1) % (256 ^ Attr.input_rx_errors.bytes : Nat)) ∧
  (∀ (s : State) (rx : Fin 2) (n edge : Nat) (place : Int) (timing : LabelTiming) (civil : CivilTime) (sec : Int),
      s.companion rx.val = some n → s.control = true → s.attr Attr.input_tod_protocol n = 1 → timing.checksumOk = true →
      s.attr Attr.input_tod_label n = 0 →
      (s.lastStamps n).find? (fun e => decide (e.2 ≤ (timing.start : Int) * 1024)) = some (edge, place) →
      inLabelWindow timing.start place = true →
      s.utcToDomain (s.attrN Attr.input_time_domain n) (s.domTimeAt (s.attrN Attr.input_time_domain n) place) civil = some sec →
      keepsSequence (s.input n).sequence sec edge = true →
    ∃ t, exec (.nmeaZda rx timing civil) s = .next t ∧ (t.input n).sequence = some (sec, edge) ∧
      tblFind (t.input n).msgs 3 = some (s.attrN Attr.input_assigned_grade n, s.counter) ∧ t.counter = s.counter) ∧
  (∀ (s : State) (rx : Fin 2) (n edge : Nat) (place : Int) (timing : LabelTiming) (civil : CivilTime) (statusA : Bool) (sec : Int),
      s.companion rx.val = some n → s.control = true → s.attr Attr.input_tod_protocol n = 1 → timing.checksumOk = true →
      s.attr Attr.input_tod_label n = 0 →
      (s.lastStamps n).find? (fun e => decide (e.2 ≤ (timing.start : Int) * 1024)) = some (edge, place) →
      inLabelWindow timing.start place = true →
      s.utcToDomain (s.attrN Attr.input_time_domain n) (s.domTimeAt (s.attrN Attr.input_time_domain n) place)
        (s.resolveYear (s.attrN Attr.input_time_domain n) civil) = some sec →
      keepsSequence (s.input n).sequence sec edge = true →
    ∃ t, exec (.nmeaRmc rx timing civil statusA) s = .next t ∧ (t.input n).sequence = some (sec, edge) ∧
      tblFind (t.input n).msgs 3 = some (if statusA then s.attrN Attr.input_assigned_grade n else 15, s.counter) ∧ t.counter = s.counter)

/-- PORT.BIND of a free slot writes its entry, and the binding is LISTENING; PORT.UNBIND marks the slot for the next 1 ms
boundary, at which VALID is cleared and its sessions are freed; PORT.LOAD_KEY fills a key slot and is denied to the console;
PORT.ERASE_KEY clears one key slot or all; PORT.HOSTQ assigns a host queue. Which portState a new binding has is the model's
reading (log entry 47). Commands shown to complete, each under the conditions its clause puts on the state and the operands:
PORT_BIND, PORT_UNBIND, LOAD_KEY, ERASE_KEY, HOSTQ, PORT_UNBIND_APPLY. -/
def Obligations.PortActions : Prop :=
  (∀ (s : State) (who : Issuer) (port slot e : Nat), s.serves who → issuerClient who = 0 → port ≤ 3 → slot ≤ 31 → entryOk e = true →
      s.transportOk port (bindTransport e) = true → s.power ≠ .standbyWarm → s.created (bindDomain e) = true →
      (bindRole e = 2 → s.boundDpll (bindDomain e) = none) → (bindRole e = 3 → (s.paired port).isSome = true) →
      s.bindUsed port slot = false →
      (∀ k, k < 32 → s.bindUsed port k = true →
        ¬ (bindNumber (s.binding port k) = bindNumber e ∧ bindTransport (s.binding port k) = bindTransport e)) →
    ∃ t, exec (.portBind who port slot e) s = .next t ∧ t.answered who 0x0800 0 ∧ t.binding port slot = storedEntry e % 2 ^ 224 ∧
      t.portState port slot = 4 ∧ t.bindRec port slot = { since := s.counter } ∧
      s.framed t [.net] [Attr.port_bindings.key port slot, Attr.port_binding_state.key port slot]) ∧
  (∀ (s : State) (who : Issuer) (port slot : Nat), s.serves who → issuerClient who = 0 → port ≤ 3 → slot ≤ 31 →
      s.power ≠ .standbyWarm → s.bindUsed port slot = true →
    ∃ t, exec (.portUnbind who port slot) s = .next t ∧ t.answered who 0x0801 0 ∧
      t.bindRec port slot = { s.bindRec port slot with unbinding := true } ∧ s.framed t [.net] []) ∧
  (∀ (s : State) (p : Fin 4) (slot : Fin 32), s.firmware = true → (s.bindRec p.val slot.val).unbinding = true →
    ∃ t, exec (.portUnbindApply p slot) s = .next t ∧ t.binding p.val slot.val = s.binding p.val slot.val - 2 ^ 20 ∧
      t.portState p.val slot.val = 0 ∧ t.bindRec p.val slot.val = {} ∧
      (∀ n ∈ s.sessionsOf p.val slot.val, n < 16384 → t.attr Attr.session_sess_state n = 0) ∧ t.counter = s.counter) ∧
  (∀ (s : State) (who : Issuer) (slot spp icvLen keyId key : Nat), s.serves who → issuerClient who = 0 → slot ≤ 255 → spp ≤ 255 →
      icvLen = 16 ∨ icvLen = 32 →
    ∃ t, exec (.loadKey who slot spp icvLen keyId key) s = .next t ∧
      if who = .console then t.answered who 0x0802 E_DENIED ∧ s.framed t [] []
      else t.answered who 0x0802 0 ∧
        t.attr Attr.port_key_slots 0 slot =
          ((spp + 256 + (if icvLen = 32 then 512 else 0) + keyId % 2 ^ 32 * 2 ^ 32 : Nat) : Int) ∧
        t.attr Shadow.keyValue 0 slot = ((key % 2 ^ 256 : Nat) : Int) ∧
        s.framed t [] [Attr.port_key_slots.key 0 slot, Shadow.keyValue.key 0 slot]) ∧
  (∀ (s : State) (who : Issuer) (slot : Nat), s.serves who → issuerClient who = 0 → slot ≤ 255 →
    ∃ t, exec (.eraseKey who slot) s = .next t ∧ t.answered who 0x0803 0 ∧
      (∀ k, k < 256 →
        if slot = 255 ∨ k = slot then t.attr Attr.port_key_slots 0 k = 0 ∧ t.attr Shadow.keyValue 0 k = 0
        else t.attr Attr.port_key_slots 0 k = s.attr Attr.port_key_slots 0 k ∧
          t.attr Shadow.keyValue 0 k = s.attr Shadow.keyValue 0 k) ∧
      s.framed t [] ((List.range 256).flatMap fun k => [Attr.port_key_slots.key 0 k, Shadow.keyValue.key 0 k])) ∧
  (∀ (s : State) (who : Issuer) (queue port client policy : Nat), s.serves who → issuerClient who = 0 → queue ≤ 63 → port ≤ 3 →
      client ≤ 511 → policy ≤ 1 →
      (∀ p, p < 4 → s.queued p queue = 0 ∧ ∀ f ∈ (s.port p).sends, f.queue ≠ queue) →
    ∃ t, exec (.hostq who queue port client policy) s = .next t ∧ t.answered who 0x0804 0 ∧ t.queueClient queue = some client ∧
      t.queuePort queue = port ∧ t.queueLate queue = policy ∧ s.framed t [] [Attr.port_hostq.key 0 queue])

/-- PORT_LINK_UP and PORT_LINK_DOWN give link_state; link loss drops the frames that hold credits, fails the SyncE channel of the
port, and latches its source with its cause; PTP is ready at its own row; an ignored frame is counted; an ARP, NDP or echo
request under its limit is answered; a transit event message is forwarded with its residence time from MDI to MDI and its
asymmetry in the correction and its UDP checksum updated for that field. Commands shown to complete, each under the
conditions its clause puts on the state and the operands: PORT_LINK_UP, PORT_LINK_DOWN, PTP_READY_AFTER_LINK,
TRANSIT_FRAME_RECEIVED, ARP_NDP_ECHO_RECEIVED, FRAME_IGNORED. -/
def Obligations.PortLinks : Prop :=
  (∀ (s : State) (p : Fin 4), s.timing = true → s.boot.phase = .running → s.flag Attr.port_enable p.val = true →
      s.flag Attr.port_link_state p.val = false →
    ∃ t, exec (.portLinkUp p) s = .next t ∧ t.attr Attr.port_link_state p.val = 1 ∧ t.port p.val = { s.port p.val with ready := false } ∧
      (t.latch (Ev.port p.val 0)).cause = false ∧ s.sameBut t [.attrs, .faults, .net] ∧
      s.attrsBut t [Attr.port_link_state.key p.val 0]) ∧
  (∀ (s : State) (p : Fin 4), s.timing = true → s.flag Attr.port_link_state p.val = true →
    ∃ t, exec (.portLinkDown p) s = .next t ∧ t.attr Attr.port_link_state p.val = 0 ∧ (t.port p.val).ready = false ∧
      (t.port p.val).buffer = [] ∧ (t.port p.val).leaving = [] ∧ (∀ f ∈ (t.port p.val).waiting, f.cls = .session) ∧
      (s.inputOn (22 + p.val) = true → bitOf (t.failing (22 + p.val)) 0 = true) ∧
      (t.latch (Ev.port p.val 0)).latched = true ∧ (t.latch (Ev.port p.val 0)).cause = true ∧ t.counter = s.counter) ∧
  (∀ (s : State) (p : Fin 4), s.portUp p.val = true →
    ∃ t, exec (.ptpReadyAfterLink p) s = .next t ∧ t.port p.val = { s.port p.val with ready := true } ∧ s.sameBut t [.net]) ∧
  (∀ (s : State) (p : Fin 4), s.portUp p.val = true → s.paired p.val = none →
    ∃ t, exec (.frameIgnored p) s = .next t ∧
      t.attr Attr.port_rx_ignored p.val = (s.attr Attr.port_rx_ignored p.val + 1) % (256 ^ Attr.port_rx_ignored.bytes : Nat) ∧
      s.sameBut t [.attrs] ∧ s.attrsBut t [Attr.port_rx_ignored.key p.val 0]) ∧
  (∀ (s : State) (p : Fin 4) (kind : ReplyKind) (vlan : Nat), s.portUp p.val = true →
      ((vlan : Int) = s.attr Attr.port_vlan_id p.val → s.answers p.val kind = true →
        (tblGet (s.port p.val).replies (0, 0) (replyLimit kind)).2 < 100 →
        ∃ t, exec (.arpNdpEchoReceived p kind vlan) s = .next t ∧
          (t.port p.val).waiting = (s.port p.val).waiting ++ [{ cls := .hardware, queue := 65535, length := 60, reply := some kind }] ∧ s.sameBut t [.net]) ∧
      ((vlan : Int) ≠ s.attr Attr.port_vlan_id p.val ∨ s.answers p.val kind = false →
        ∃ t, exec (.arpNdpEchoReceived p kind vlan) s = .next t ∧
          t.attr Attr.port_rx_ignored p.val = (s.attr Attr.port_rx_ignored p.val + 1) % (256 ^ Attr.port_rx_ignored.bytes : Nat) ∧
          s.sameBut t [.attrs])) ∧
  (∀ (s : State) (p : Fin 4) (q : Nat) (kind : TransitKind) (length domainNumber transport residence sum : Nat) (correction new : Int),
      s.paired p.val = some q → s.portUp p.val = true → s.portUp q = true → s.portForced p.val = false → s.portForced q = false →
      s.fifoRoom p.val length = true → transitEvent kind = true →
      new = correction + s.residenceTime p.val q domainNumber transport residence + s.transitAsymmetry p.val q kind →
    ∃ t, exec (.transitFrameReceived p kind length true none domainNumber transport residence sum correction) s = .next t ∧
      t.out = .forward q kind length new (if transport = 0 ∨ sum = 0 then sum
        else updatedChecksum sum (intBytesBE 8 correction) (intBytesBE 8 new)) [] :: s.out ∧ s.sameBut t [.out, .net]) ∧
  (∀ (s : State) (p : Fin 4) (q : Nat) (kind : TransitKind) (length domainNumber transport residence sum : Nat) (correction : Int),
      s.paired p.val = some q → s.portUp p.val = true → s.portUp q = true → s.portForced p.val = false → s.portForced q = false →
      s.fifoRoom p.val length = true → transitEvent kind = false →
    ∃ t, exec (.transitFrameReceived p kind length true none domainNumber transport residence sum correction) s = .next t ∧
      t.out = .forward q kind length correction sum [] :: s.out ∧ s.sameBut t [.out, .net])

/-- PORT.SEND puts its frame into its host queue; FRAME_ENQUEUE moves the next frame with credits into the transmit buffer;
CREDITS_EXHAUSTED latches its source with its cause; LAUNCH_GATE_OPEN releases the timed frame that is due first;
FRAME_DEPARTURE sends it, where it may start, with the departure time at the MDI in its bytes; FRAME_TRANSMIT_DONE removes
it, and a PORT.SEND completes then with 0. Commands shown to complete, each under the conditions its clause puts on the state
and the operands: PORT_SEND, FRAME_ENQUEUE, CREDITS_EXHAUSTED, LAUNCH_GATE_OPEN, FRAME_DEPARTURE, FRAME_TRANSMIT_DONE. -/
def Obligations.TransmitPath : Prop :=
  (∀ (s : State) (who : Issuer) (queue flags tsOffset domain length launch : Nat) (frame : List Byte), s.serves who →
      s.permits who (.hostQueue queue) = true → queue ≤ 63 → 64 ≤ length → length ≤ 9216 →
      (bitOf flags 0 = true ∨ bitOf flags 1 = true ∨ bitOf flags 2 = true → domain ≤ 511 ∧ s.created domain = true) →
      frame.length = length → (bitOf flags 1 = true → (eventShape frame).isSome = true ∧ 26 ≤ tsOffset ∧ tsOffset + 10 ≤ length) →
      (bitOf flags 0 = true → ∃ x, commandTime launch = some x ∧ x ≤ s.domNow domain + secondUnits) → s.power ≠ .standbyWarm →
      s.portUp (s.queuePort queue) = true →
    ∃ t f, exec (.portSend who queue flags tsOffset domain length launch frame true) s = .next t ∧ f.cls = FrameClass.host ∧
      f.queue = queue ∧ f.length = length ∧ f.data = frame ∧ f.host = some who ∧
      f.launch = (if bitOf flags 0 then some (domain, (commandTime launch).getD 0) else none) ∧
      (if s.queued (s.queuePort queue) queue < 64 then
        t.port (s.queuePort queue) =
          { s.port (s.queuePort queue) with waiting := (s.port (s.queuePort queue)).waiting ++ [f] }
       else t.port (s.queuePort queue) = { s.port (s.queuePort queue) with sends := (s.port (s.queuePort queue)).sends ++ [f] }) ∧
      s.sameBut t [.net]) ∧
  (∀ (s : State) (p : Fin 4) (cls : FrameClass) (f : TxFrame) (rest : List TxFrame), s.nextFrame p.val cls = some (f, rest) →
      s.portUp p.val = true → s.portForced p.val = false → f.kind = none ∨ (s.port p.val).ready = true → s.frameForced f = false →
      cls = .hardware ∨ s.control = true → f.launch = none →
    ∃ t, exec (.frameEnqueue p cls) s = .next t ∧
      (if s.creditFor p.val f then
        (t.port p.val).buffer = (s.port p.val).buffer ++ [f] ∧ (cls ≠ .host → (t.port p.val).waiting = rest) ∧
          (t.latch (Ev.port p.val 8)).cause = false ∧ s.sameBut t [.net, .faults]
       else t = s)) ∧
  (∀ (s : State) (p : Fin 4) (cls : FrameClass) (f : TxFrame) (rest : List TxFrame), s.nextFrame p.val cls = some (f, rest) →
      s.portUp p.val = true → s.creditFor p.val f = false →
    ∃ t, exec (.creditsExhausted p cls) s = .next t ∧ (t.latch (Ev.port p.val 8)).latched = true ∧
      (t.latch (Ev.port p.val 8)).cause = true ∧ t.counter = s.counter) ∧
  (∀ (s : State) (p : Fin 4) (f g : TxFrame) (rest : List TxFrame) (l : Nat × Int), s.firstTimed p.val = some f → f.launch = some l →
      s.portUp p.val = true → s.gateTime p.val l ≤ s.domNow l.1 → (s.port p.val).leaving = [] →
      takeFirst (fun x => decide (x = f)) (s.port p.val).buffer = some (g, rest) →
    ∃ t, exec (.launchGateOpen p) s = .next t ∧ (t.port p.val).buffer = { f with released := true } :: rest ∧ s.sameBut t [.net]) ∧
  (∀ (s : State) (p : Fin 4) (count vernier : Nat) (f g : TxFrame) (rest : List TxFrame) (x : Int), s.portUp p.val = true →
      x = s.domTime f.domain count vernier + s.txDelay p.val → g = { f with departure := some x, data := s.departing p.val f x } →
      s.portForced p.val = false → s.mayStart p.val f = true →
      takeFirst (fun x => x.released) (s.port p.val).buffer = some (f, rest) ∨
        takeFirst (fun x => x.released) (s.port p.val).buffer = none ∧
          takeFirst (fun x => x.launch.isNone) (s.port p.val).buffer = some (f, rest) →
    ∃ t, exec (.frameDeparture p count vernier) s = .next t ∧ (t.port p.val).buffer = rest ∧
      (t.port p.val).leaving = (s.port p.val).leaving ++ [g] ∧ t.out = .frame p.val g :: s.out ∧
      s.sameBut t [.net, .out, .attrs, .faults, .tm, .store]) ∧
  (∀ (s : State) (p : Fin 4) (f : TxFrame) (rest : List TxFrame), (s.port p.val).leaving = f :: rest → s.portUp p.val = true →
    ∃ t, exec (.frameTransmitDone p) s = .next t ∧ (t.port p.val).leaving = rest ∧ (f.host = none → s.sameBut t [.net]) ∧
      (∀ w, f.host = some w → s.serves w → t.answered w 0x0805 0))

/-- On a used binding of a ready port, a message that passes authentication is taken: the parent's Announce is kept, a Sync or
its Follow_Up gives the master-to-slave delay, a Delay_Resp the mean path delay, a Pdelay_Resp the link delay under AS2020,
with the neighbour's rate (log entry 92); a Delay_Req to a MASTER and a Pdelay_Req are answered within the responder's
budget, and a management message where the binding answers them. A message that fails authentication is only counted.
Commands shown to complete, each under the conditions its clause puts on the state and the operands: ANNOUNCE_RECEIVED,
SYNC_RECEIVED, FOLLOW_UP_RECEIVED, DELAY_REQ_RECEIVED, DELAY_RESP_RECEIVED, PDELAY_REQ_RECEIVED, PDELAY_RESP_RECEIVED,
MANAGEMENT_RECEIVED. -/
def Obligations.ReceivedPtp : Prop :=
  (∀ (s : State) (p : Fin 4) (slot : Fin 32) (head : PtpHead) (fields : AnnounceFields), s.engines = true →
      s.portReady p.val = true → s.bindUsed p.val slot.val = true →
      (s.authPasses p.val slot.val head = true → (s.bindRec p.val slot.val).parent = some head.sender →
        ∃ t, exec (.announceReceived p slot head fields) s = .next t ∧ (t.bindRec p.val slot.val).announce = some fields ∧
          (t.bindRec p.val slot.val).announceAlive = true ∧ t.counter = s.counter) ∧
      (s.authPasses p.val slot.val head = false →
        ∃ t, exec (.announceReceived p slot head fields) s = .next t ∧
          t.attr Attr.port_auth_fail p.val = (s.attr Attr.port_auth_fail p.val + 1) % (256 ^ Attr.port_auth_fail.bytes : Nat) ∧
          t.bindRec p.val slot.val = s.bindRec p.val slot.val ∧ t.doms = s.doms)) ∧
  (∀ (s : State) (p : Fin 4) (slot : Fin 32) (head : PtpHead) (twoStep : Bool) (count vernier : Nat) (origin correction : Int),
      s.engines = true → s.portReady p.val = true → s.bindUsed p.val slot.val = true → s.authPasses p.val slot.val head = true →
      s.fromParent p.val slot.val head = true →
    ∃ t, exec (.syncReceived p slot head twoStep count vernier origin correction) s = .next t ∧
      (if twoStep then (t.bindRec p.val slot.val).awaiting =
          some (head.seq, s.rxTime p.val (bindDomain (s.binding p.val slot.val)) count vernier, correction)
       else (t.bindRec p.val slot.val).masterToSlave =
          s.rxTime p.val (bindDomain (s.binding p.val slot.val)) count vernier - (origin + correction) -
            s.asymmetry p.val slot.val head.sender) ∧ t.counter = s.counter) ∧
  (∀ (s : State) (p : Fin 4) (slot : Fin 32) (head : PtpHead) (origin correction at_ c : Int), s.engines = true →
      s.portReady p.val = true → s.bindUsed p.val slot.val = true → s.authPasses p.val slot.val head = true →
      s.fromParent p.val slot.val head = true → (s.bindRec p.val slot.val).awaiting = some (head.seq, at_, c) →
    ∃ t, exec (.followUpReceived p slot head origin correction) s = .next t ∧ (t.bindRec p.val slot.val).awaiting = none ∧
      (t.bindRec p.val slot.val).masterToSlave = at_ - (origin + correction + c) - s.asymmetry p.val slot.val head.sender ∧
      t.counter = s.counter) ∧
  (∀ (s : State) (p : Fin 4) (slot : Fin 32) (head : PtpHead) (receive correction sent : Int), s.engines = true →
      s.portReady p.val = true → s.bindUsed p.val slot.val = true → s.authPasses p.val slot.val head = true →
      s.fromParent p.val slot.val head = true → (s.bindRec p.val slot.val).delayReqSent = some (head.seq, sent) →
    ∃ t, exec (.delayRespReceived p slot head receive correction) s = .next t ∧
      (t.bindRec p.val slot.val).slaveToMaster = receive - correction - sent + s.asymmetry p.val slot.val head.sender ∧
      (t.bindRec p.val slot.val).pathDelay =
        ((s.bindRec p.val slot.val).masterToSlave + (t.bindRec p.val slot.val).slaveToMaster) / 2 ∧ t.counter = s.counter) ∧
  (∀ (s : State) (p : Fin 4) (slot : Fin 32) (head : PtpHead) (count vernier : Nat) (request response sent arrival ratio delay : Int),
      s.engines = true → s.portReady p.val = true → s.bindUsed p.val slot.val = true → s.authPasses p.val slot.val head = true →
      bindProfile (s.binding p.val slot.val) = 4 → (s.bindRec p.val slot.val).pdelaySent = some (head.seq, sent) →
      arrival = s.rxTime p.val (bindDomain (s.binding p.val slot.val)) count vernier →
      ratio = rateRatio (s.bindRec p.val slot.val).pdelayLast response arrival →
      delay = linkDelay ratio sent request response arrival - psUnits (s.attr Attr.port_delay_asymmetry p.val) →
    ∃ t, exec (.pdelayRespReceived p slot head count vernier request response) s = .next t ∧
      (t.bindRec p.val slot.val).pathDelay = delay ∧ (t.bindRec p.val slot.val).rateRatio = ratio ∧
      (t.bindRec p.val slot.val).asCapable = decide (delay ≤ 800 * 65536) ∧
      (t.bindRec p.val slot.val).pdelayLast = some (response, arrival) ∧ t.counter = s.counter) ∧
  (∀ (s : State) (p : Fin 4) (slot : Fin 32) (head : PtpHead) (count vernier : Nat) (correction : Int), s.timing = true →
      s.portReady p.val = true → s.bindUsed p.val slot.val = true → s.authPasses p.val slot.val head = true →
      ticksPerSecond ≤ s.tokens p.val →
      (s.portState p.val slot.val = 6 →
        ∃ t f, exec (.delayReqReceived p slot head false count vernier correction) s = .next t ∧
          t.port p.val = { s.port p.val with
            waiting := (s.port p.val).waiting ++ [f], tokens := some (s.tokens p.val - ticksPerSecond, s.counter) } ∧
          f.kind = some PtpKind.delayResp ∧ f.seq = head.seq ∧ f.correction = correction ∧
          f.receive = some (s.rxTime p.val (bindDomain (s.binding p.val slot.val)) count vernier) ∧ s.sameBut t [.net]) ∧
      (bindProfile (s.binding p.val slot.val) = 4 →
        ∃ t f, exec (.pdelayReqReceived p slot head count vernier correction) s = .next t ∧
          t.port p.val = { s.port p.val with
            waiting := (s.port p.val).waiting ++ [f], tokens := some (s.tokens p.val - ticksPerSecond, s.counter) } ∧
          f.kind = some PtpKind.pdelayResp ∧ f.seq = head.seq ∧ f.correction = correction ∧
          f.receive = some (s.rxTime p.val (bindDomain (s.binding p.val slot.val)) count vernier) ∧ s.sameBut t [.net])) ∧
  (∀ (s : State) (p : Fin 4) (slot : Fin 32) (head : PtpHead) (action : MgmtAction) (id : MgmtId), s.engines = true →
      s.portReady p.val = true → s.bindUsed p.val slot.val = true → s.authPasses p.val slot.val head = true →
    ∃ t, exec (.managementReceived p slot head action id) s = .next t ∧
      (if bindMgmt (s.binding p.val slot.val) then
        (∃ f, (t.port p.val).waiting = (s.port p.val).waiting ++ [f] ∧ f.kind = some PtpKind.management ∧ f.seq = head.seq ∧
          f.answer = (if action ≠ .get then 3 else match id with | .other _ => 2 | _ => 1) ∧
          f.body = s.managementAnswer p.val slot.val f.answer action id) ∧ s.sameBut t [.net]
       else
        t.attr Attr.port_rx_ignored p.val = (s.attr Attr.port_rx_ignored p.val + 1) % (256 ^ Attr.port_rx_ignored.bytes : Nat) ∧
          s.sameBut t [.attrs]))

/-- A message that is due is queued with the next sequenceId of its binding; an ESMC PDU carries the quality that the port
transmits now, which esmc_tx_ql shows; a BMCA pass gives every binding of the domain but the TRANSPARENT ones the portState
that its recommendation asks for, and a domain with no binding in SLAVE has no qualified reference; an Announce timeout of
the parent disqualifies the domain's reference; the servo of a virtual domain writes the reference, and under AUTO with a
binding in SLAVE steers the domain. The algorithm of the BMCA is the one of the standards that the spec names (log entry 20).
Commands shown to complete, each under the conditions its clause puts on the state and the operands: SERVO_UPDATE,
PTP_MESSAGE_SEND, ESMC_INFORMATION_PDU, ESMC_EVENT_PDU, BMCA_PASS, ANNOUNCE_RECEIPT_TIMEOUT. -/
def Obligations.SentPtp : Prop :=
  (∀ (s : State) (p : Fin 4) (slot : Fin 32) (session : Option (Fin 16384)) (kind : PtpKind)
      (launch : Option (Fin 512 × Int)), s.engines = true → s.portReady p.val = true → s.bindUsed p.val slot.val = true →
      (session = none → bindMode (s.binding p.val slot.val) ≠ 1 ∧ s.sendsNow p.val slot.val kind = true) →
      (∀ n, session = some n → s.sessionSends n.val kind = true ∧
        s.attrN Attr.session_sess_binding n.val = slot.val * 256 + p.val) →
    ∃ t f, exec (.ptpMessageSend p slot session kind launch) s = .next t ∧
      (t.port p.val).waiting = (s.port p.val).waiting ++ [f] ∧ f.kind = some kind ∧ f.slot = slot.val ∧
      f.seq = (s.bindRec p.val slot.val).txSeq ∧ f.launch = launch.map (fun l => (l.1.val, l.2)) ∧
      (t.bindRec p.val slot.val).txSeq = ((s.bindRec p.val slot.val).txSeq + 1) % 65536 ∧
      s.sameBut t [.net, .attrs, .faults, .tm, .store] ∧ (session = none → s.sameBut t [.net])) ∧
  (∀ (s : State) (p : Fin 4), s.engines = true → s.portUp p.val = true → s.flag Attr.port_esmc_enable p.val = true →
    (∃ t f, exec (.esmcInformationPdu p) s = .next t ∧ t.attr Attr.port_esmc_tx_ql p.val = s.esmcQuality p.val ∧
      (t.port p.val).waiting.getLast? = some f ∧
      f.esmc = some (false, s.esmcQuality p.val % 256, s.esmcQuality p.val / 256, s.esmcCascade p.val) ∧ t.counter = s.counter) ∧
    ((s.esmcQuality p.val : Int) ≠ s.attr Attr.port_esmc_tx_ql p.val →
      ∃ t f, exec (.esmcEventPdu p) s = .next t ∧ t.attr Attr.port_esmc_tx_ql p.val = s.esmcQuality p.val ∧
        (t.port p.val).waiting.getLast? = some f ∧
        f.esmc = some (true, s.esmcQuality p.val % 256, s.esmcQuality p.val / 256, s.esmcCascade p.val) ∧
        (t.latch (Ev.port p.val 10)).latched = true ∧ t.counter = s.counter)) ∧
  (∀ (s : State) (d : Fin 512), s.engines = true → s.created d.val = true →
    ∃ t, exec (.bmcaPass d) s = .next t ∧
      (∀ b ∈ s.bmcaBindings d.val,
        t.portState b.1 b.2 = s.bmcaState d.val b.1 b.2 (s.recommend d.val b.1 b.2) ∧
          (t.portState b.1 b.2 ≠ s.portState b.1 b.2 → (t.latch (Ev.port b.1 3)).latched = true)) ∧
      ((t.slaveBinding d.val).isNone = true → (t.dom d.val).ref.qualified = false) ∧ t.counter = s.counter) ∧
  (∀ (s : State) (p : Fin 4) (slot : Fin 32), s.engines = true → s.bindUsed p.val slot.val = true →
      (s.bindRec p.val slot.val).parent.isSome = true → (s.bindRec p.val slot.val).announceAlive = true →
    ∃ t, exec (.announceReceiptTimeout p slot) s = .next t ∧ (t.bindRec p.val slot.val).announceAlive = false ∧
      (t.latch (Ev.port p.val 2)).latched = true ∧ (t.dom (bindDomain (s.binding p.val slot.val))).ref.qualified = false ∧
      (t.dom (bindDomain (s.binding p.val slot.val))).ref.timedOut = some (p.val, slot.val) ∧
      t.counter = max s.counter (s.announceDue p.val slot.val)) ∧
  (∀ (s : State) (d : Fin 512) (offset ppt delta : Int) (instant : Nat), s.engines = true → s.created d.val = true →
      s.virtual d.val = true → (s.dom d.val).ref.qualified = true →
    ∃ t, exec (.servoUpdate d offset ppt delta instant) s = .next t ∧ (t.dom d.val).ref.offset = offset ∧
      (t.dom d.val).ref.fresh = true ∧ (t.dom d.val).ref.grade = s.parentGrade d.val ∧ (t.dom d.val).words = (s.dom d.val).words ∧
      (if s.attr Attr.domain_servo_mode d.val = 0 ∧ (s.slaveBinding d.val).isSome = true ∧ s.canUpdate d.val instant = true then
        t.attr Attr.domain_freq_adj d.val = ppt ∧
          (t.dom d.val).pend = some
            { instant := instant, period := periodPpt ppt, absolute := none, delta := delta
              steps := if delta = 0 then 0 else 1, jump := delta }
       else (t.dom d.val).pend = (s.dom d.val).pend) ∧ t.counter = s.counter)

/-- SESSION.OPEN creates the lowest free session as grantee in REQUESTING; SESSION.CLOSE frees one; a grant request that the
grantor can serve is granted for 10 s to 1000 s and any other is refused and counted; a grant that is received is in force
for its duration; a cancelled or expired grant is no longer in force; a timed-out request is repeated or gives way to
backoff, whose end and a renewal ask anew. Commands shown to complete, each under the conditions its clause puts on the state
and the operands: SESSION_OPEN, SESSION_CLOSE, GRANT_REQUEST_RECEIVED, GRANT_RECEIVED, CANCEL_RECEIVED, GRANT_RETRY_TIMEOUT,
BACKOFF_END, GRANT_RENEW, GRANT_EXPIRY. -/
def Obligations.SessionsAndGrants : Prop :=
  (∀ (s : State) (who : Issuer) (port slot addrType address pick n : Nat), s.serves who → port ≤ 3 → slot ≤ 31 →
      addrType = 4 ∨ addrType = 6 → s.permits who (.domainOwner (bindDomain (s.binding port slot))) = true → s.power ≠ .standbyWarm →
      s.bindUsed port slot = true → bindMode (s.binding port slot) = 1 → ((s.sessionsOf port slot).filter s.grantee).length < 16 →
      s.sessionRoom = true → s.freeNumber = some n → s.poisoned (sessionPage n) = false →
    ∃ t, exec (.sessionOpen who port slot addrType address pick) s = .next t ∧ t.answered who 0x1100 0 ∧
      t.resultOf who = bytesLE 2 n ∧ t.attr Attr.session_sess_state n = SessState.requesting.code ∧ t.grantee n = true ∧
      t.attr Attr.session_sess_binding n = ((slot * 256 + port : Nat) : Int) ∧ (t.sess n).partner = ⟨address, 0⟩ ∧
      (∀ g, g < 3 → (t.grant n g).asking = true) ∧ (∀ m, m ≠ n → t.sess m = s.sess m) ∧
      s.sameBut t [.attrs, .net, .tm, .faults, .store, .host, .out]) ∧
  (∀ (s : State) (who : Issuer) (n : Nat), s.serves who → n ≤ 16383 → s.attr Attr.session_sess_state n ≠ 0 →
      s.permits who (.domainOwner (s.sessDomain n)) = true → s.power ≠ .standbyWarm → s.poisoned (sessionPage n) = false →
    ∃ t, exec (.sessionClose who n) s = .next t ∧ t.answered who 0x1101 0 ∧ t.attr Attr.session_sess_state n = 0 ∧ t.sess n = {} ∧
      (∀ m, m ≠ n → t.sess m = s.sess m) ∧ s.sameBut t [.attrs, .net, .tm, .faults, .store, .host, .out]) ∧
  (∀ (s : State) (p : Fin 4) (slot : Fin 32) (head : PtpHead) (type : GrantType) (log : Int) (duration pick n : Nat),
      s.engines = true → s.portReady p.val = true → s.bindUsed p.val slot.val = true → s.authPasses p.val slot.val head = true →
      s.partnerSession p.val slot.val head.sender = some n → n < 16384 →
    ∃ t, exec (.grantRequestReceived p slot head type log duration pick) s = .next t ∧
      (if bindMode (s.binding p.val slot.val) = 1 ∧ bindRole (s.binding p.val slot.val) ≤ 1 ∧
          inRange (logRange (bindProfile (s.binding p.val slot.val)) (grantIndex type)) log = true ∧
          s.budgetFits p.val (grantCost (grantIndex type) log)
            (if s.granted n (grantIndex type) then grantCost (grantIndex type) (s.grant n (grantIndex type)).log else 0) = true ∧
          s.hostAllows n (grantIndex type) log = true then
        t.grant n (grantIndex type) = { expires := some (s.counter + max 10 (min 1000 duration) * ticksPerSecond), log := log } ∧
          t.attr Attr.session_grant_log n (grantIndex type) = log
       else t.net.sessions = s.net.sessions ∧
        t.attr Attr.port_grant_refusals p.val =
          (s.attr Attr.port_grant_refusals p.val + 1) % (256 ^ Attr.port_grant_refusals.bytes : Nat)) ∧ t.counter = s.counter) ∧
  (∀ (s : State) (n : Fin 16384) (type : GrantType) (log : Int) (duration : Nat), s.engines = true →
      s.attr Attr.session_sess_state n.val ≠ 0 → s.grantee n.val = true → s.portReady (s.sessPort n.val) = true →
    ∃ t, exec (.grantReceived n type log duration) s = .next t ∧
      t.attr Attr.session_rx_msgs n.val = (s.attr Attr.session_rx_msgs n.val + 1) % (256 ^ Attr.session_rx_msgs.bytes : Nat) ∧
      (if duration = 0 then t.net = s.net
       else t.grant n.val (grantIndex type) = { expires := some (s.counter + duration * ticksPerSecond), log := log } ∧
        t.attr Attr.session_grant_log n.val (grantIndex type) = log) ∧ s.sameBut t [.attrs, .net]) ∧
  (∀ (s : State) (n : Fin 16384) (type : GrantType), s.engines = true → s.granted n.val (grantIndex type) = true →
      (s.portReady (s.sessPort n.val) = true →
        ∃ t, exec (.cancelReceived n type) s = .next t ∧ t.granted n.val (grantIndex type) = false ∧ t.counter = s.counter) ∧
      ∃ t e, exec (.grantExpiry n type) s = .next t ∧ (s.grant n.val (grantIndex type)).expires = some e ∧
        t.granted n.val (grantIndex type) = false ∧ t.counter = max s.counter e) ∧
  (∀ (s : State) (n : Fin 16384) (type : GrantType), s.engines = true → (s.grant n.val (grantIndex type)).asking = true →
    ∃ t, exec (.grantRetryTimeout n type) s = .next t ∧
      (if (s.grant n.val (grantIndex type)).tries < bindRetries (s.binding (s.sessPort n.val) (s.sessSlot n.val)) then
        (t.grant n.val (grantIndex type)).tries = (s.grant n.val (grantIndex type)).tries + 1 ∧
          (t.grant n.val (grantIndex type)).asking = true
       else (t.grant n.val (grantIndex type)).asking = false ∧ (t.grant n.val (grantIndex type)).backoff = true ∧
        t.attr Attr.session_sess_state n.val = SessState.backoff.code) ∧
      t.counter = max s.counter ((s.grant n.val (grantIndex type)).since + ticksPerSecond)) ∧
  (∀ (s : State) (n : Fin 16384) (type : GrantType), s.engines = true → (s.grant n.val (grantIndex type)).backoff = true →
    ∃ t, exec (.backoffEnd n type) s = .next t ∧ (t.grant n.val (grantIndex type)).asking = true ∧
      (t.grant n.val (grantIndex type)).backoff = false ∧ t.attr Attr.session_sess_state n.val = SessState.requesting.code ∧
      t.counter = max s.counter ((s.grant n.val (grantIndex type)).since + 10 * ticksPerSecond)) ∧
  (∀ (s : State) (n : Fin 16384) (type : GrantType), s.engines = true → s.grantee n.val = true →
      s.granted n.val (grantIndex type) = true → (s.grant n.val (grantIndex type)).asking = false → s.drain n.val = false →
    ∃ t, exec (.grantRenew n type) s = .next t ∧ (t.grant n.val (grantIndex type)).asking = true ∧
      t.granted n.val (grantIndex type) = true ∧ t.attr Attr.session_sess_state n.val = SessState.renewing.code ∧
      ∀ e, (s.grant n.val (grantIndex type)).expires = some e → t.counter =
        max s.counter (e - bindRenewLead (s.binding (s.sessPort n.val) (s.sessSlot n.val)) * (ticksPerSecond / 10)))

/-- TIC.RESTART clears the ring, the counts and the block of a counter; TIC.READ hands over the samples from the first one asked
for; in INTERVAL a stamp of A opens a start and a stamp of B that lies in its window makes a sample; in PERIOD and FREQUENCY
each stamp after the first does; TIC_WINDOW_CLOSE, once the window has closed, drops the oldest open start and counts it.
Commands shown to complete, each under the conditions its clause puts on the state and the operands: TIC_RESTART, TIC_READ,
TIC_RAW_MEASUREMENT, TIC_WINDOW_CLOSE. -/
def Obligations.IntervalCounters : Prop :=
  (∀ (s : State) (who : Issuer) (n : Nat), s.serves who → issuerClient who = 0 → n ≤ 11 → s.ticState n ≠ .disabled →
    ∃ t, exec (.ticRestart who n) s = .next t ∧ t.answered who 0x0900 0 ∧ t.attr Attr.tic_samples n = 0 ∧
      t.attr Attr.tic_stops_outside n = 0 ∧ t.attr Attr.tic_starts_unmatched n = 0 ∧ t.attr Attr.tic_stamps_missed n = 0 ∧
      t.tic n = { s.tic n with block := { seq := (s.tic n).block.seq } } ∧
      (∀ a, 0x1C118000 + n * 65536 ≤ a → a < 0x1C118000 + (n + 1) * 65536 → t.tm.byte a = 0) ∧ (∀ m, m ≠ n → t.tic m = s.tic m) ∧
      s.sameBut t [.attrs, .tics, .tm, .faults, .store, .host, .out] ∧
      s.attrsKept t [Attr.tic_samples.key n 0, Attr.tic_stops_outside.key n 0, Attr.tic_starts_unmatched.key n 0,
        Attr.tic_stamps_missed.key n 0]) ∧
  (∀ (s : State) (who : Issuer) (n count first : Nat) (buf : HostBuf), s.serves who → issuerClient who = 0 → n ≤ 11 → 0 < count →
      count ≤ 4096 → s.power ≠ .standbyWarm → bufOk who buf (16 * count) = true → (∀ lpn, s.poisoned lpn = false) →
      (∀ lpn, (s.frame (s.frameOf lpn)).checkErrors = 0) → s.attrN Attr.tic_samples n ≤ 4096 → 0 < first →
      first + count ≤ s.attrN Attr.tic_samples n + 1 →
    ∃ t, exec (.ticRead who n count first buf) s = .next t ∧ t.answered who 0x0901 0 ∧ t.resultOf who = bytesLE 8 first ++ bytesLE 2 count ∧
      s.handed t who buf ((List.range count).flatMap fun k => s.tm.read (ticSlot n (first + k)) 16) ∧ s.framed t [] []) ∧
  (∀ (s : State) (n : Fin 12) (x : TicStamp), s.timing = true → s.ticState n.val = .running → s.ticMode n.val = .interval →
      x.missed = false →
      (x.sourceB = false → (s.tic n.val).starts.length < 16 →
        ∃ t, exec (.ticRawMeasurement n [x]) s = .next t ∧
          t.tic n.val = { s.tic n.val with
            starts := (s.tic n.val).starts ++
              [{ point := s.ticPoint n.val x, opens := s.attrN Attr.tic_win_open n.val, closes := s.attrN Attr.tic_win_close n.val }] } ∧ s.sameBut t [.tics]) ∧
      (∀ y rest, x.sourceB = true →
        takeFirst (fun y => y.matches_ (s.ticPoint n.val x)) (s.tic n.val).starts = some (y, rest) →
        ∃ t, exec (.ticRawMeasurement n [x]) s = .next t ∧ (t.tic n.val).starts = rest ∧
          t.attr Attr.tic_samples n.val = ((s.attrN Attr.tic_samples n.val + 1 : Nat) : Int) ∧ t.counter = s.counter)) ∧
  (∀ (s : State) (n : Fin 12) (x : TicStamp) (q : TicPoint), s.timing = true → s.ticState n.val = .running →
      s.ticMode n.val = .period ∨ s.ticMode n.val = .frequency → x.missed = false → x.sourceB = false → (s.tic n.val).lastA = some q →
    ∃ t, exec (.ticRawMeasurement n [x]) s = .next t ∧
      (t.tic n.val).lastA =
        some (s.ticPoint n.val x) ∧
      t.attr Attr.tic_samples n.val = ((s.attrN Attr.tic_samples n.val + 1 : Nat) : Int) ∧ t.counter = s.counter) ∧
  (∀ (s : State) (n : Fin 12) (x : TicStart) (rest : List TicStart), s.timing = true → (s.tic n.val).starts = x :: rest →
    ∃ t, exec (.ticWindowClose n) s = .next t ∧ t.tic n.val = { s.tic n.val with starts := rest } ∧ t.counter = max s.counter x.closesAt ∧
      t.attr Attr.tic_starts_unmatched n.val =
        (s.attr Attr.tic_starts_unmatched n.val + 1) % (256 ^ Attr.tic_starts_unmatched.bytes : Nat) ∧ s.sameBut t [.counter, .attrs, .tics])

/-- FAULT.ACK sets ACKED of a latched source, or with 0xFFFF of every one; FAULT.CLEAR returns an acknowledged latch without a
cause to its base class, and refuses one that is not acknowledged or whose cause stands; FAULT.INJECT keeps an injection for
its checker, or at once spoils a frame or raises a source; FAULT.LIST hands over the records of a run of sources. Commands
shown to complete, each under the conditions its clause puts on the state and the operands: FAULT_ACK, FAULT_CLEAR,
FAULT_INJECT, FAULT_LIST. -/
def Obligations.FaultActions : Prop :=
  (∀ (s : State) (who : Issuer) (source : Nat), s.serves who → issuerClient who = 0 → source ≤ 639 ∨ source = 0xFFFF →
    ∃ t, exec (.faultAck who source) s = .next t ∧ t.answered who 0x0A00 0 ∧
      (∀ ev, ev ≠ 387 → ev ≠ 600 → ev ≠ 601 →
        t.latch ev =
          (if (source = 0xFFFF ∨ source = ev) ∧ (s.latch ev).latched = true then { s.latch ev with acked := true } else s.latch ev)) ∧
      s.sameBut t [.attrs, .faults, .tm, .store, .host, .out] ∧ s.attrsKept t []) ∧
  (∀ (s : State) (who : Issuer) (source : Nat), s.serves who → issuerClient who = 0 → source ≤ 639 → source ≠ 387 → source ≠ 600 →
      source ≠ 601 → (s.latch source).latched = true →
      ((s.latch source).acked = false →
        ∃ t, exec (.faultClear who source) s = .next t ∧ t.answered who 0x0A01 E_STATE ∧ s.framed t [] []) ∧
      ((s.latch source).acked = true → (s.latch source).cause = true →
        ∃ t, exec (.faultClear who source) s = .next t ∧ t.answered who 0x0A01 E_CAUSE_PRESENT ∧ s.framed t [] []) ∧
      ((s.latch source).acked = true → (s.latch source).cause = false →
        ∃ t, exec (.faultClear who source) s = .next t ∧ t.answered who 0x0A01 0 ∧
          t.latch source = { cls := Ev.baseClass source, last := (s.latch source).last } ∧ t.counter = s.counter)) ∧
  (∀ (s : State) (who : Issuer) (checker bits target : Nat), s.serves who → issuerClient who = 0 → 1 ≤ checker → checker ≤ 4 →
      s.injectRange checker bits target = false → tblFind s.faults.inject checker = none →
      (checker = 3 → 64 ≤ target ∧ target < 900) → s.store.dirty.length + s.store.dirtyPages.length ≤ ordinaryLimit s.store.holdup →
    ∃ t, exec (.faultInject who checker bits target) s = .next t ∧ t.answered who 0x0A02 0 ∧
      tblFind t.faults.inject checker = some { bits := bits, target := target } ∧ s.framed t [] []) ∧
  (∀ (s : State) (who : Issuer) (bits target : Nat), s.serves who → issuerClient who = 0 → s.injectRange 0 bits target = false →
      tblFind s.faults.inject 0 = none → s.frameOf target ≠ s.frameOf (s.auditSlot / 4096) →
    ∃ t, exec (.faultInject who 0 bits target) s = .next t ∧ t.answered who 0x0A02 0 ∧
      t.frame (s.frameOf target) = { s.frame (s.frameOf target) with checkErrors := bits } ∧ s.framed t [] []) ∧
  (∀ (s : State) (who : Issuer) (bits target : Nat), s.serves who → issuerClient who = 0 → s.injectRange 5 bits target = false →
      s.flag Attr.factory_mode = true → tblFind s.faults.inject 5 = none → s.faults.causeHeld = none → Ev.defined target = true →
      target ≠ 387 → target ≠ 600 → target ≠ 601 →
    ∃ t, exec (.faultInject who 5 bits target) s = .next t ∧ t.answered who 0x0A02 0 ∧ 
      t.faults.causeHeld = some (target, s.counter + bits * 1350000) ∧
      (t.latch target).latched = true ∧ (t.latch target).cause = true ∧ s.framedRaise t [] []) ∧
  (∀ (s : State) (who : Issuer) (first count : Nat) (buf : HostBuf), s.serves who → issuerClient who = 0 → 0 < count →
      first + count ≤ 640 → bufOk who buf (8 * count) = true →
    ∃ t, exec (.faultList who first count buf) s = .next t ∧ t.answered who 0x0A03 0 ∧ t.resultOf who = bytesLE 2 count ∧
      s.handed t who buf ((List.range count).flatMap fun k => s.faultRecord (first + k)) ∧ s.framed t [] [])

/-- The scrubber latches 484 for a corrected and 485 for an uncorrectable word; a count window closes at its end; a missed ALIVE
feed and a missed host feed latch their sources with their cause; ALIVE toggles at the next millisecond boundary while no
freeze condition holds and stands still under a SEVERE latch; the temperature alert follows the reading of its sensor, and an
injected cause ends at its end. Commands shown to complete, each under the conditions its clause puts on the state and the
operands: HOST_FEED_TIMEOUT, SRAM_SCRUB, COUNT_WINDOW_CLOSE, ALIVE_FEED_MISSED, ALIVE_TOGGLE, TEMP_ALERT, INJECT_CAUSE_END. -/
def Obligations.FaultEvents : Prop :=
  (∀ (s u : State) (array : Fin 20) (bits : Fin 3) (b : Nat), s.boot.phase = .running →
      (s.takeInjection 1 array.val).getD (bits.val, s) = (b, u) →
    ∃ t, exec (.sramScrub array bits) s = .next t ∧ (b = 0 → t = u) ∧ (b = 1 → s.onceDue 484 = true → (t.latch 484).latched = true) ∧
      (2 ≤ b → (t.latch 485).latched = true) ∧ t.counter = s.counter) ∧
  (∀ (s : State) (source : Fin 640) (opened k : Nat), (s.latch source.val).window = some (opened, k) →
    ∃ t, exec (.countWindowClose source) s = .next t ∧ t.latch source.val = { s.latch source.val with window := none } ∧
      t.counter = max s.counter (opened + s.attrN Attr.fault_count_w source.val * 1350000) ∧
      (∀ ev, ev ≠ source.val → t.latch ev = s.latch ev) ∧ s.sameBut t [.counter, .faults]) ∧
  (∀ s : State, s.boot.phase = .running → s.faults.feedMissed = false →
    ∃ t, exec .aliveFeedMissed s = .next t ∧ t.faults.feedMissed = true ∧ (t.latch 483).latched = true ∧ (t.latch 483).cause = true ∧
      t.counter = max s.counter (s.faults.holaxFed + 6750000)) ∧
  (∀ s : State, s.boot.phase = .running → bitOf s.host.aliveCfg 0 = true → s.faults.hostMissed = false →
    ∃ t, exec .hostFeedTimeout s = .next t ∧ t.faults.hostMissed = true ∧ (t.latch 525).latched = true ∧ (t.latch 525).cause = true ∧
      t.counter = max s.counter (s.host.fedAt + s.hostPeriod)) ∧
  (∀ s : State, s.aliveState = .toggling →
    ∃ t, exec .aliveToggle s = .next t ∧ t.faults.alivePin = (!s.faults.alivePin) ∧
      t.counter = (s.counter / 1350000 + 1) * 1350000 ∧ s.sameBut t [.counter, .faults]) ∧
  (∀ (s : State) (ev : Nat), ev ≠ 483 → (s.latch ev).latched = true → (s.latch ev).cls = 3 →
    ∃ t, exec .aliveToggle s = .next t ∧ t.faults.alivePin = s.faults.alivePin ∧ s.sameBut t [.faults]) ∧
  (∀ (s : State) (reading : Int), s.boot.phase ≠ .off → s.boot.tempAlert ≠ s.alertAfter reading →
    ∃ t, exec (.tempAlert reading) s = .next t ∧ t.boot.tempAlert = s.alertAfter reading ∧ (t.latch 492).cause = s.alertAfter reading ∧
      (s.alertAfter reading = true → (t.latch 492).latched = true) ∧ t.counter = s.counter) ∧
  (∀ (s : State) (ev ends : Nat), s.faults.causeHeld = some (ev, ends) →
    ∃ t, exec .injectCauseEnd s = .next t ∧ t.faults.causeHeld = none ∧ (t.latch ev).cause = false ∧
      t.counter = max s.counter ends ∧ s.sameBut t [.counter, .faults])

/-- A write of an index below the ring size is taken, that of CMD_PI as the doorbell of the entries it makes available, and one
at or beyond it sets INDEX_ERROR and latches 520; RING_CFG enables aligned rings of sizes in range with every index at 0 and
both phases 1, and a write with ENABLE 0 stops fetching at once, and sets the sizes while the rings are not ACTIVE; a drained
ring is no longer ACTIVE and its subscriptions are gone; arms are set, EVT_LOST is read and cleared. Commands shown to
complete, each under the conditions its clause puts on the state and the operands: CMD_PI_WRITE, CPL_CI_WRITE, EVT_CI_WRITE,
RING_ENABLE, RING_DISABLE, RING_DRAINED, IRQ_ARM_WRITE, EVT_LOST_READ. -/
def Obligations.RingRegisters : Prop :=
  (∀ (s : State) (c : Fin 512) (v : Nat), s.hostUp = true →
      (v < (s.ring c.val).cmdSize →
        ∃ t, exec (.cmdPiWrite c v) s = .next t ∧ t.ring c.val = { s.ring c.val with cmdPi := v % 2 ^ 32, rung := (s.ring c.val).ringUp s.counter (v % 2 ^ 32) } ∧
          (∀ d, d ≠ c.val → t.ring d = s.ring d) ∧ s.sameBut t [.host]) ∧
      ((s.ring c.val).cmdSize ≤ v →
        ∃ t, exec (.cmdPiWrite c v) s = .next t ∧ t.ring c.val = { s.ring c.val with indexError := true } ∧
          (t.latch 520).latched = true ∧ t.counter = s.counter)) ∧
  (∀ (s : State) (c : Fin 512) (v : Nat), s.hostUp = true →
      (v < (s.ring c.val).cplSize →
        ∃ t, exec (.cplCiWrite c v) s = .next t ∧ t.ring c.val = { s.ring c.val with cplCi := v % 2 ^ 32 } ∧
          (∀ d, d ≠ c.val → t.ring d = s.ring d) ∧ s.sameBut t [.host]) ∧
      ((s.ring c.val).cplSize ≤ v →
        ∃ t, exec (.cplCiWrite c v) s = .next t ∧ t.ring c.val = { s.ring c.val with indexError := true } ∧
          (t.latch 520).latched = true ∧ t.counter = s.counter)) ∧
  (∀ (s : State) (c : Fin 512) (v : Nat), s.hostUp = true →
      (v < evtSize →
        ∃ t, exec (.evtCiWrite c v) s = .next t ∧ t.ring c.val = { s.ring c.val with evtCi := v % 2 ^ 32 } ∧
          (∀ d, d ≠ c.val → t.ring d = s.ring d) ∧ s.sameBut t [.host]) ∧
      (evtSize ≤ v →
        ∃ t, exec (.evtCiWrite c v) s = .next t ∧ t.ring c.val = { s.ring c.val with indexError := true } ∧
          (t.latch 520).latched = true ∧ t.counter = s.counter)) ∧
  (∀ (s : State) (c : Fin 512) (cfg : Nat), s.hostUp = true → (s.ring c.val).active = false → s.boot.phase = .running →
      (s.allowed c.val = true → (s.ring c.val).cfgOk cfg = true →
        ∃ t, exec (.ringEnable c cfg) s = .next t ∧
          t.ring c.val = { s.ring c.val with
            indexError := false, dmaFault := false, cfgError := false, denied := false, cfg := cfg % 256 + 2 ^ 31, cmdPi := 0, cmdCi := 0
            cplCi := 0, evtCi := 0, cplPi := 0, evtPi := 0, cplPhase := true, evtPhase := true, active := true, dead := false
            limitHeld := false, poolHeld := false, halted := false, rung := [], fullSince := none, fullTold := false } ∧ s.sameBut t [.host]) ∧
      (s.allowed c.val = false →
        ∃ t, exec (.ringEnable c cfg) s = .next t ∧ (t.ring c.val).denied = true ∧ (t.ring c.val).active = false ∧
          (t.latch 512).latched = true ∧ t.counter = s.counter)) ∧
  (∀ (s : State) (c : Fin 512) (cfg : Nat), s.hostUp = true →
    ∃ t, exec (.ringDisable c cfg) s = .next t ∧
      t.ring c.val = { s.ring c.val with cfg := if (s.ring c.val).active then (s.ring c.val).cfg % 2 ^ 31 else cfg % 256 } ∧
      (t.ring c.val).enabled = false ∧ s.sameBut t [.host]) ∧
  (∀ (s : State) (c : Fin 512), (s.ring c.val).active = true → (s.ring c.val).enabled = false → s.tagsOut c.val = 0 →
    ∃ t, exec (.ringDrained c) s = .next t ∧ t.ring c.val = { s.ring c.val with active := false } ∧
      (∀ ev, t.subscribed c.val ev = false) ∧ s.sameBut t [.host, .faults]) ∧
  (∀ (s : State) (c : Fin 512) (v : Nat), s.hostUp = true →
    ∃ t, exec (.irqArmWrite c v) s = .next t ∧
      t.ring c.val =
        { s.ring c.val with armCpl := (s.ring c.val).armCpl || bitOf v 0, armEvt := (s.ring c.val).armEvt || bitOf v 1 } ∧
      s.sameBut t [.host]) ∧
  (∀ (s : State) (c : Fin 512), s.hostUp = true →
    ∃ t, exec (.evtLostRead c) s = .next t ∧ t.out = .registerRead (s.ring c.val).evtLost :: s.out ∧
      t.ring c.val = { s.ring c.val with evtLost := 0 } ∧ s.sameBut t [.host, .out])

/-- On page 0, INT_STATUS clears the bits written, ALIVE_FEED ends a missed feed, TW_BASE takes a base within the logical space,
INT_MASK keeps FAULT set, and HOST_FEED_EN starts and ends the feed period; a write of the MSI-X table in BAR4 sets its word
or masks its vector; a time-read capture takes the counter, and for a client that owns the domain its time; unmasking an
MSI-X vector sends what was pending. Commands shown to complete, each under the conditions its clause puts on the state and
the operands: INT_STATUS_WRITE, ALIVE_FEED_WRITE, TW_BASE_WRITE, TL_CTRL_WRITE, MSIX_UNMASK, REGISTER_WRITE. -/
def Obligations.OwnerRegisters : Prop :=
  (∀ (s : State) (c : Fin 512) (v : Nat), s.hostUp = true → c.val = 0 →
    (∃ t, exec (.intStatusWrite c v) s = .next t ∧ t.host = { s.host with intW1c := s.host.intW1c - (s.host.intW1c &&& (v % 8)) } ∧
      s.sameBut t [.host]) ∧
    (∃ t, exec (.aliveFeedWrite c) s = .next t ∧ t.faults.hostMissed = false ∧ (t.latch 525).cause = false ∧
      t.host = { s.host with fedAt := s.counter } ∧ s.sameBut t [.faults, .host]) ∧
    (∃ t, exec (.twBaseWrite c false v) s = .next t ∧
      t.host.twBase = (if s.host.twBase / 2 ^ 32 * 2 ^ 32 + v / 2 ^ 26 % 64 * 2 ^ 26 < tmSize then
        s.host.twBase / 2 ^ 32 * 2 ^ 32 + v / 2 ^ 26 % 64 * 2 ^ 26 else s.host.twBase) ∧ s.sameBut t [.host])) ∧
  (∀ (s : State) (c : Fin 512) (v : Nat), s.hostUp = true → bitOf v 9 = false →
    ∃ t, exec (.tlCtrlWrite c v) s = .next t ∧
      (tblGet t.host.latchBlocks {} c.val).counter = s.counter ∧
      (c.val = 0 ∨ s.attrN Attr.domain_owner_client (v % 512) = c.val → s.created (v % 512) = true →
        (tblGet t.host.latchBlocks {} c.val).sec = (secondsOf (s.domNow (v % 512)) % 2 ^ 64).toNat ∧
        (tblGet t.host.latchBlocks {} c.val).nsec = (s.domNow (v % 512) % secondUnits / 65536).toNat ∧
        (tblGet t.host.latchBlocks {} c.val).frac = (s.domNow (v % 512) % 65536).toNat) ∧
      (c.val ≠ 0 → ¬ (s.created (v % 512) = true ∧ s.attrN Attr.domain_owner_client (v % 512) = c.val) →
        tblGet t.host.latchBlocks {} c.val = { status := 3 + v % 512 * 65536, counter := s.counter }) ∧
      (∀ d, d ≠ c.val → tblGet t.host.latchBlocks {} d = tblGet s.host.latchBlocks {} d) ∧ s.sameBut t [.host]) ∧
  (∀ (s : State) (v : Fin 64), s.hostUp = true →
    ∃ t, exec (.msixUnmask v) s = .next t ∧ bitOf t.host.msixMask v.val = false ∧ bitOf t.host.msixPend v.val = false ∧
      t.out = (if bitOf s.host.msixPend v.val then s.msixMessage v.val :: s.out else s.out) ∧ s.sameBut t [.host, .out]) ∧
  (∀ (s : State) (v : Nat), s.hostUp = true →
    (∃ t, exec (.registerWrite false 0x804 v true) s = .next t ∧ t.host = { s.host with intMask := v % 32 ||| 8 } ∧ s.sameBut t [.host]) ∧
    (∃ t, exec (.registerWrite false 0x808 v true) s = .next t ∧ t.host.aliveCfg = v / 256 % 256 * 256 + v % 2 ∧
      (bitOf v 0 = true → t.faults = s.faults ∧ t.host.fedAt = (if bitOf s.host.aliveCfg 0 then s.host.fedAt else s.counter)) ∧
      (bitOf v 0 = false → t.faults.hostMissed = false ∧ (t.latch 525).cause = false) ∧ s.sameBut t [.host, .faults])) ∧
  (∀ (s : State) (c o v : Nat), s.hostUp = true → c < 512 → o < 0x800 → o % 4 = 0 →
    ∃ t, exec (.registerWrite false (c * 0x1000 + o) v true) s = .next t ∧ t.ring c = (s.ring c).writeBase o v ∧
      (∀ d, d ≠ c → t.ring d = s.ring d) ∧ s.sameBut t [.host]) ∧
  (∀ (s : State) (k m v : Nat), s.hostUp = true → k < 64 → m < 4 →
    ∃ t, exec (.registerWrite true (0xE000 + 16 * k + 4 * m) v true) s = .next t ∧
      (m < 3 → t.msixWord k m = (if m = 0 then v % 2 ^ 32 / 4 * 4 else v % 2 ^ 32) ∧ t.host.msixMask = s.host.msixMask) ∧
      (m = 3 → bitOf t.host.msixMask k = (bitOf s.host.msixMask k || bitOf v 0)) ∧
      (∀ k' m', k' < 64 → m' < 4 → ¬ (k' = k ∧ m' = m) → t.msixWord k' m' = s.msixWord k' m') ∧ s.sameBut t [.host]) ∧
  (∀ (s : State) (bar4 : Bool) (o v : Nat), ∃ t, exec (.registerWrite bar4 o v false) s = .next t ∧ t = s)

/-- COMMAND_FETCH takes the entry at the consumer index of an enabled ring into flight where a tag is free and the turn is the
client's; COMPLETION_WRITE writes the oldest completion of a client that no fence holds back to its ring and returns its tag;
EVENT_RECORD_DELIVERY writes a record to an ACTIVE event ring with room, and one for client 0 without an ACTIVE ring into the
SPI lite FIFO, and logs it; EVENT_OVERFLOW_RECORD writes the count of lost records. Commands shown to complete, each under
the conditions its clause puts on the state and the operands: COMMAND_FETCH, COMPLETION_WRITE, EVENT_RECORD_DELIVERY,
EVENT_OVERFLOW_RECORD. -/
def Obligations.RingTraffic : Prop :=
  (∀ (s : State) (c : Fin 512) (entry : List Byte) (payload : Option (List Byte)), s.fetches c.val = true →
      (s.ring c.val).active = true → (s.ring c.val).enabled = true → (s.ring c.val).halted = false →
      (s.ring c.val).cmdPi ≠ (s.ring c.val).cmdCi → s.tagsOut c.val < s.attrN Attr.client_tag_limit 0 c.val → s.poolFree c.val = true →
      s.nextClient = some c.val → (Entry.ofBytes entry).crc = false →
      (Entry.ofBytes entry).check entry payload 0
        (s.host.inflight.any fun f => f.client == c.val && f.tag == (Entry.ofBytes entry).tag) = none →
    ∃ t f, exec (.commandFetch c entry payload true) s = .next t ∧ t.host.inflight = s.host.inflight ++ [f] ∧ f.client = c.val ∧
      f.tag = (Entry.ofBytes entry).tag ∧ f.opcode = (Entry.ofBytes entry).opcode ∧ f.slot = (s.ring c.val).cmdCi ∧
      f.fence = (Entry.ofBytes entry).fence ∧ f.fetched = s.counter ∧
      (t.ring c.val).cmdCi = ((s.ring c.val).cmdCi + 1) % (s.ring c.val).cmdSize ∧ (t.ring c.val).cmdPi = (s.ring c.val).cmdPi ∧
      t.host.completed = s.host.completed ∧ (∀ d, d ≠ c.val → t.ring d = s.ring d) ∧ s.sameBut t [.host]) ∧
  (∀ (s : State) (c : Fin 512) (d : Done) (rest : List Done),
      takeFirst (fun d => d.ofClient c.val && !s.heldBack d) s.host.completed = some (d, rest) → s.hostUp = true →
      (s.ring c.val).active = true → (s.ring c.val).dead = false →
      ((s.ring c.val).cplPi + 1) % (s.ring c.val).cplSize ≠ (s.ring c.val).cplCi →
    ∃ t, exec (.completionWrite c true) s = .next t ∧ t.host.completed = rest ∧
      (t.ring c.val).cplPi = ((s.ring c.val).cplPi + 1) % (s.ring c.val).cplSize ∧
      .completion c.val (s.ring c.val).cplPi
        (completionEntry d (issuerTag d.who) (s.ring c.val).cmdCi (ticksUs (s.timesOf d).1) (ticksUs (s.timesOf d).2)
          (s.ring c.val).cplPhase) d.flag ∈ t.out ∧
      (∀ f rest, takeFirst (fun f => f.client == c.val && f.tag == issuerTag d.who) s.host.inflight = some (f, rest) →
        t.host.inflight = rest) ∧ s.sameBut t [.host, .out]) ∧
  (∀ (s : State) (source : Fin 640) (x : EventRec), s.firmware = true → s.faults.waiting.filter (fun y => y.source == source.val) = [x] →
      (x.client ≠ 0 → (s.ring x.client).active = true → (s.ring x.client).lostPending = 0 → (s.ring x.client).evtRoom = true →
        ∃ t, exec (.eventRecordDelivery source []) s = .next t ∧
          t.faults.waiting = s.faults.waiting.filter (fun y => y.source != source.val) ∧
          (t.ring x.client).evtPi = ((s.ring x.client).evtPi + 1) % evtSize ∧
          .event x.client (s.ring x.client).evtPi x (s.ring x.client).evtPhase ∈ t.out ∧ s.sameBut t [.host, .out, .faults]) ∧
      (x.client = 0 → (s.ring 0).active = false → s.host.spi.lost = 0 → s.host.spi.fifo.length < 64 →
        ∃ t, exec (.eventRecordDelivery source []) s = .next t ∧ t.host.spi.fifo = s.host.spi.fifo ++ [x] ∧
          t.tm.eventCount = s.tm.eventCount + 1 ∧ t.counter = s.counter)) ∧
  (∀ (s : State) (c : Fin 512), s.firmware = true → (s.ring c.val).active = true → (s.ring c.val).lostPending ≠ 0 →
      (s.ring c.val).evtRoom = true →
    ∃ t, exec (.eventOverflowRecord c true) s = .next t ∧ (t.ring c.val).lostPending = 0 ∧
      (t.ring c.val).evtPi = ((s.ring c.val).evtPi + 1) % evtSize ∧
      .overflow c.val (s.ring c.val).evtPi (satNat 65535 (s.ring c.val).lostPending) (s.ring c.val).evtPhase ∈ t.out ∧
      (t.latch 518).latched = true ∧ t.counter = s.counter)

/-- An SPI write of the command entry or of the data buffer is taken while SPI lite is not BUSY, and one of them while BUSY is
only counted; a read answers the window; SPI_GO makes it BUSY with a command that passes its checks, whose end sets DONE and
SPI_DONE; SPI_EVT_POP drops the oldest record. A character is echoed and enters the line; an ended line is parsed and issued,
and an empty one answers a prompt. Commands shown to complete, each under the conditions its clause puts on the state and the
operands: SPI_WRITE, SPI_READ, SPI_GO, SPI_EVT_POP, SPI_COMMAND_DONE, CONSOLE_LINE, CONSOLE_CHARACTER. -/
def Obligations.SpiAndConsole : Prop :=
  (∀ (s : State) (a : Nat) (bytes : List Byte), s.spiUp = true →
      (s.host.spi.busy = false → a + bytes.length ≤ 0x40 →
        ∃ t, exec (.spiWrite a bytes) s = .next t ∧ (∀ k (h : k < bytes.length), tblGet t.host.spi.entry 0 (a + k) = bytes[k]) ∧
          (∀ x, x < a ∨ a + bytes.length ≤ x → tblGet t.host.spi.entry 0 x = tblGet s.host.spi.entry 0 x) ∧
          t.host.spi.buffer = s.host.spi.buffer ∧ s.sameBut t [.host]) ∧
      (s.host.spi.busy = false → 0x1000 ≤ a → a + bytes.length ≤ 0x2000 →
        ∃ t, exec (.spiWrite a bytes) s = .next t ∧
          (∀ k (h : k < bytes.length), tblGet t.host.spi.buffer 0 (a - 0x1000 + k) = bytes[k]) ∧
          (∀ x, x < a - 0x1000 ∨ a - 0x1000 + bytes.length ≤ x → tblGet t.host.spi.buffer 0 x = tblGet s.host.spi.buffer 0 x) ∧
          t.host.spi.entry = s.host.spi.entry ∧ s.sameBut t [.host]) ∧
      (s.host.spi.busy = true → bytes ≠ [] → a + bytes.length ≤ 0x40 →
        ∃ t, exec (.spiWrite a bytes) s = .next t ∧ t.host.spi = s.host.spi ∧
          t.attr Attr.spi_errors = (s.attr Attr.spi_errors + 1) % (256 ^ Attr.spi_errors.bytes : Nat) ∧ t.counter = s.counter)) ∧
  (∀ (s : State) (a n : Nat), s.spiUp = true →
    ∃ t, exec (.spiRead a n) s = .next t ∧ t.out = .spiRead ((List.range n).map fun k => s.spiByte ((a + k) % 0x2000)) :: s.out ∧
      s.sameBut t [.out]) ∧
  (∀ s : State, s.spiUp = true → s.boot.fetchStopped = false → s.boot.restore = none → s.host.spi.busy = false →
      (Entry.ofBytes (tblGetRun s.host.spi.entry 0 0 64)).check (tblGetRun s.host.spi.entry 0 0 64)
        (if (Entry.ofBytes (tblGetRun s.host.spi.entry 0 0 64)).ptr then
          s.spiPayload (tblGetRun s.host.spi.entry 0 0 64) (Entry.ofBytes (tblGetRun s.host.spi.entry 0 0 64)).length
         else some []) 0 false = none →
    ∃ t, exec .spiGo s = .next t ∧ t.host.spi = { s.host.spi with busy := true, done := false, goAt := s.counter } ∧ s.sameBut t [.host]) ∧
  (∀ s : State, s.spiUp = true →
    ∃ t, exec .spiEvtPop s = .next t ∧ t.host.spi = { s.host.spi with fifo := s.host.spi.fifo.drop 1 } ∧ s.sameBut t [.host]) ∧
  (∀ (s : State) (d : Done) (rest : List Done), s.spiUp = true →
      takeFirst (fun d => decide (d.who = .spi)) s.host.completed = some (d, rest) →
    ∃ t, exec .spiCommandDone s = .next t ∧ t.host.completed = rest ∧ t.host.spi.busy = false ∧ t.host.spi.done = true ∧
      t.host.spi.completion =
        completionEntry d (natLE ((tblGetRun s.host.spi.entry 0 0 4).drop 2) % 2048) 0 0
          (ticksUs (s.counter - s.host.spi.goAt)) s.host.spi.phase ∧
      bitOf t.host.intW1c 0 = true ∧ s.sameBut t [.host]) ∧
  (∀ (s : State) (char : Nat), s.service .console ≠ .unserved → s.host.console.held = [] → s.host.console.busy = false →
      s.host.console.ended = false →
    ∃ t, exec (.consoleCharacter char) s = .next t ∧ t.host.console = s.host.console.enter (char % 256) ∧
      t.out = .echo (char % 256) :: s.out ∧ s.sameBut t [.host, .out]) ∧
  (∀ (s : State) (env : ConsoleEnv), s.service .console ≠ .unserved → s.host.console.held = [] → s.host.console.busy = false →
      s.host.console.ended = true →
    ∃ t, exec (.consoleLine env) s = .next t ∧
      t = (State.consoleRun
        { s with host := { s.host with console := { s.host.console with line := [], ended := false, busy := true } } }
        s.host.console.line env).printEvents ∧
      (s.host.console.events = [] → wordsOf s.host.console.line [] = [] → t.out = .consolePrompt :: s.out ∧
        t.host.console.busy = false ∧ t.host.console.line = [] ∧ s.sameBut t [.host, .out]) ∧
      (s.host.console.events = [] → wordsOf s.host.console.line [] = [[88]] →
        t.answered .console 0 E_OPCODE ∧ s.sameBut t [.host, .out]))

/-- FULLER_FRAME_READ steps through the frames, reports a retried read and the end of a pass, and poisons a frame that it cannot
decode; a page submitted for retirement is remapped to a free spare while an entry is free; a recovered page is not poisoned,
and reads zero outside the ledger records; a fill makes its cache slot VALID and applies a write that waited, and a write-
back frees its slot; a window write whose frame decodes reaches a host-owned word, and one anywhere else is discarded. Which
free spare and entry a retirement takes is the model's choice (log entry 21). Commands shown to complete, each under the
conditions its clause puts on the state and the operands: BAR2_WRITE, FULLER_FRAME_READ, PAGE_RETIRE, POISON_RECOVERY,
CACHE_FILL, CACHE_WRITEBACK_RETIRE, MEMORY_TEMPERATURE. -/
def Obligations.TableMemoryEvents : Prop :=
  (∀ (s : State) (read : FrameRead), s.memoryUp = true →
    ∃ t, exec (.fullerFrameRead read) s = .next t ∧
      t.attr Attr.fuller_position =
        ((if s.attrN Attr.fuller_position < 3947579 then s.attrN Attr.fuller_position + 1 else 0 : Nat) : Int) ∧
      (s.decodes read = false →
        (t.frame (s.attrN Attr.fuller_position)).poison = true ∧
        ∀ lpn, s.frameRole (s.attrN Attr.fuller_position) = .page lpn →
          (t.latch 389).latched = true ∧ (read.tagOk = false → (t.latch 390).latched = true)) ∧
      (s.decodes read = true → 0 < read.tries → (t.latch 388).latched = true) ∧
      (s.attrN Attr.fuller_position = 3947579 → (t.latch 394).latched = true) ∧ t.counter = s.counter) ∧
  (∀ (s : State) (lpn cause e k : Nat) (x : Nat × Nat) (rest : List (Nat × Nat)), lpn < lpnCount → s.memoryUp = true →
      takeFirst (fun y => y == (lpn, cause)) s.tm.retire = some (x, rest) → s.culletOf lpn = none → s.culletSlot lpn = some e →
      s.freeSpare = some k →
    ∃ t, exec (.pageRetire lpn cause) s = .next t ∧ t.frameOf lpn = lpnCount + k ∧ t.poisoned lpn = s.poisoned lpn ∧
      t.attr Attr.cullet 0 e = ((culletEntry lpn k cause (secondsOf (s.domNow 0)) : Nat) : Int) ∧ t.attr Attr.spare_state 0 k = 1 ∧
      (t.latch 391).latched = true ∧ t.counter = s.counter) ∧
  (∀ (s : State) (lpn : Nat), s.control = true → s.memoryUp = true → s.poisoned lpn = true →
      (s.frame (s.frameOf lpn)).recovered = false →
    ∃ t, exec (.poisonRecovery lpn) s = .next t ∧ t.poisoned lpn = false ∧
      (regionOf lpn ≠ 4 → ∀ a, a / 4096 = lpn → t.tm.byte a = 0) ∧ t.counter = s.counter) ∧
  (∀ (s : State) (lpn : Nat) (c : CacheSlot) (rest : List CacheSlot), s.memoryUp = true →
      (takeFirst (fun x => x.lpn == lpn && decide (x.state = .filling)) s.tm.cache = some (c, rest) →
        ∀ read : FrameRead, ∃ t, exec (.cacheFill lpn read) s = .next t ∧
          t.tm.cache = rest ++ [{ c with state := .valid, writes := [] }] ∧
          (∀ a b, c.writes = [(a, b)] → a / 4096 = lpn → lpn < lpnCount → s.decodes read = true → s.poisoned lpn = false →
            t.tm.byte a = b) ∧
          t.attr Attr.cache_counts 0 0 = (s.attr Attr.cache_counts 0 0 + 1) % (256 ^ Attr.cache_counts.bytes : Nat) ∧
          t.counter = s.counter) ∧
      (takeFirst (fun x => x.lpn == lpn && decide (x.state = .evicting)) s.tm.cache = some (c, rest) →
        ∃ t, exec (.cacheWritebackRetire lpn) s = .next t ∧
          (s.tm.wanted = [] → t.tm.cache = rest ++ [{ c with state := .kept, stale := !c.writes.isEmpty, writes := [] }]) ∧
          t.attr Attr.cache_counts 0 1 = (s.attr Attr.cache_counts 0 1 + 1) % (256 ^ Attr.cache_counts.bytes : Nat) ∧
          t.counter = s.counter)) ∧
  (∀ s : State, s.memoryUp = true →
    ∃ t, exec .memoryTemperature s = .next t ∧ (t.latch 397).latched = true ∧ t.counter = s.counter) ∧
  (∀ (s : State) (offset : Nat) (b : Byte) (read : FrameRead), s.boot.phase = .running → s.power ≠ .dormant → s.host.twBase + offset < tmSize →
      (s.memoryUp = true → hostOwned (s.host.twBase + offset) = true → s.poisoned ((s.host.twBase + offset) / 4096) = false →
        s.tm.cache = [] → s.decodes read = true →
        ∃ t, exec (.bar2Write offset [b] read) s = .next t ∧
          t.tm.byte (s.host.twBase + offset) = hostKept (s.host.twBase + offset) b ∧
          (read.positions = [] ∧ read.tries = 0 → s.memBut t (s.host.twBase + offset) 1) ∧ t.counter = s.counter) ∧
      (hostOwned (s.host.twBase + offset) = false →
        ∃ t, exec (.bar2Write offset [b] read) s = .next t ∧
          t.attr Attr.tw_discards = (s.attr Attr.tw_discards + 1) % (256 ^ Attr.tw_discards.bytes : Nat) ∧
          (s.onceDue 396 = false → s.sameBut t [.attrs]) ∧ t.counter = s.counter))

/-- ENGINE_FAILURE in a cluster with its spare starts a repair that keeps the domains of the engine as they stand, and counts a
lost message in its session; without a spare the engine leaves service. SPARE_REPAIR_COMPLETE gives the spare the logical
number where it passes its test. CLUSTER_LOST marks the cluster. REBALANCE_COMPLETE moves a session to an engine in service
with room, and leaves every servo and BMCA task on an engine in service. VERNIER_BACKGROUND_LOOP fails a channel that
deviates by more than 5 %, and CHANNEL_REPLACED gives it the next spare. PMC_SAMPLE and PMC_WRAP keep a sample and a wrap of
a performance counter. Commands shown to complete, each under the conditions its clause puts on the state and the operands:
ENGINE_FAILURE, SPARE_REPAIR_COMPLETE, CLUSTER_LOST, REBALANCE_COMPLETE, VERNIER_BACKGROUND_LOOP, CHANNEL_REPLACED,
PMC_SAMPLE, PMC_WRAP. -/
def Obligations.SelfRepair : Prop :=
  (∀ (s : State) (c : Fin 16) (e : Fin 8) (detector : EngineDetector) (lost : List (Fin 16384)), s.memoryUp = true →
      (s.cluster c.val).lost = false → (s.cluster c.val).map.getD e.val 9 ≠ 9 → (s.cluster c.val).repair = none →
    ∃ t, exec (.engineFailure c e detector lost) s = .next t ∧
      (if (s.cluster c.val).spare.isSome then
        t.cluster c.val =
          { s.cluster c.val with
              repair := some (e.val, detectorCause detector, s.taskDomains fun x => x == c.val * 256 + e.val) } ∧
        (∀ n, lost = [n] → s.attr Attr.session_sess_state n.val ≠ 0 → s.attrN Attr.session_sess_engine n.val = c.val * 256 + e.val →
          t.attr Attr.session_rx_lost n.val =
            (s.attr Attr.session_rx_lost n.val + 1) % (256 ^ Attr.session_rx_lost.bytes : Nat)) ∧
        s.sameBut t [.attrs, .repair, .pmcs]
       else (t.cluster c.val).map = (s.cluster c.val).map.set e.val 9 ∧ (t.latch (417 + 3 * c.val)).latched = true) ∧
      t.counter = s.counter) ∧
  (∀ (s : State) (c : Fin 16) (passed : Bool) (e cause k : Nat) (domains : List Nat), s.memoryUp = true → (s.cluster c.val).lost = false →
      (s.cluster c.val).repair = some (e, cause, domains) → (s.cluster c.val).spare = some k →
    ∃ t, exec (.spareRepairComplete c passed) s = .next t ∧
      t.cluster c.val =
        { s.cluster c.val with map := (s.cluster c.val).map.set e (if passed then k else 9), spare := none, repair := none } ∧
      (t.latch (if passed then 416 + 3 * c.val else 417 + 3 * c.val)).latched = true ∧
      (passed = false → (t.latch 469).latched = true) ∧ t.counter = s.counter) ∧
  (∀ (s : State) (c : Fin 16) (lost : List (Fin 16384)), s.memoryUp = true → (s.cluster c.val).lost = false →
    ∃ t, exec (.clusterLost c lost) s = .next t ∧ (t.cluster c.val).lost = true ∧ (t.cluster c.val).spare = none ∧
      (t.latch (418 + 3 * c.val)).latched = true ∧ t.counter = s.counter) ∧
  (∀ (s : State) (c : Fin 16) (n : Fin 16384) (d : Fin 16) (e : Fin 8), s.engines = true →
      (s.cluster c.val).lost = true ∨ (s.cluster c.val).map.contains 9 = true → s.attr Attr.session_sess_state n.val ≠ 0 →
      s.engineServes (d.val * 256 + e.val) = true →
      s.attrN Attr.session_sess_engine n.val = d.val * 256 + e.val ∨ s.engineLoad d.val e.val < 128 →
    ∃ t, exec (.rebalanceComplete c [(n, d, e)]) s = .next t ∧
      t.attr Attr.session_sess_engine n.val = ((d.val * 256 + e.val : Nat) : Int) ∧
      (∀ k, k < 512 → s.created k = true → t.engineServes (t.dom k).servo = true ∧ t.engineServes (t.dom k).bmca = true) ∧
      t.attr Attr.rebalances = (s.attr Attr.rebalances + 1) % (256 ^ Attr.rebalances.bytes : Nat) ∧ (t.latch 467).latched = true ∧
      t.counter = s.counter) ∧
  (∀ (s : State) (ch : Fin 48) (deviation : Nat), s.timing = true → s.channelDown ch.val = false →
    ∃ t, exec (.vernierBackgroundLoop [(ch, deviation)]) s = .next t ∧
      t.channel ch.val = (if 50 < deviation then { s.channel ch.val with failed := true } else s.channel ch.val) ∧
      s.sameBut t [.repair]) ∧
  (∀ (s : State) (ch : Fin 48), s.timing = true → (s.channel ch.val).failed = true →
    ∃ t, exec (.channelReplaced ch) s = .next t ∧
      (match s.repair.spares with
       | k :: rest => t.channel ch.val = { phys := k } ∧ t.repair.spares = rest ∧ (t.latch 464).latched = true
       | [] => (t.channel ch.val).lost = true ∧ (t.channel ch.val).failed = false ∧ (t.latch 465).latched = true) ∧
      t.counter = s.counter) ∧
  (∀ (s : State) (c : Fin 16) (k e : Fin 8) (kernel : Bool) (domain : Option (Fin 512)) (iaddr : Nat), s.engines = true →
      s.pmcEvent c.val k.val ≠ 0 → s.attr Attr.pmc_sample_period 0 (8 * c.val + k.val) ≠ 0 →
      s.engineList.contains (c.val, e.val) = true →
    ∃ t, exec (.pmcSample c k e kernel domain iaddr) s = .next t ∧
      t.attr Attr.pmc_samples 0 (64 * c.val + s.attrN Attr.pmc_sample_count 0 c.val % 64) =
        ((sampleRecord s.counter c.val e.val k.val kernel domain iaddr : Nat) : Int) ∧
      t.attr Attr.pmc_sample_count 0 c.val =
        (s.attr Attr.pmc_sample_count 0 c.val + 1) % (256 ^ Attr.pmc_sample_count.bytes : Nat) ∧
      t.pmc c.val = { s.slotsNow c.val with costs := (s.slotsNow c.val).costs + 40 } ∧ s.sameBut t [.attrs, .pmcs]) ∧
  (∀ (s : State) (c : Fin 16) (which : Fin 12), s.engines = true → s.clusterEngines c.val ≠ 0 →
      which.val < 4 ∨ s.pmcEvent c.val (which.val - 4) ≠ 0 →
    ∃ t, exec (.pmcWrap c which) s = .next t ∧
      t.pmc c.val = { s.pmc c.val with ovf := (s.pmc c.val).ovf ||| 2 ^ which.val } ∧ s.sameBut t [.pmcs])

/-- STORE.COMMIT, a background store and a time record queue the transaction of their pages behind what goes before it; a
verified program of a page of a background store takes the slot that does not hold the current copy, with SEQ one above, and
a failed one is repeated once; the last page of a STORE.COMMIT ends it; an erase empties the other slot; a background store
waits for store_delay, a time record for 600 s, and a measurement of the hold-up for 24 h, and it sets the dirty limit; an
hour of heating counts for each fitted oven. Commands shown to complete, each under the conditions its clause puts on the
state and the operands: STORE_COMMIT, STORE_PROGRAM_COMPLETE, SLOT_ERASE_COMPLETE, BACKGROUND_STORE, TIME_RECORD_STORE,
HOLDUP_MEASURE, OVEN_HOURS. -/
def Obligations.ShadowStore : Prop :=
  (∀ (s : State) (who : Issuer) (first count : Nat), s.serves who → issuerClient who = 0 → 0 < count → first + count ≤ 1024 →
      (∀ x ∈ s.store.running, x.way = .background ∨ x.way = .timeRecord) →
    ∃ t, exec (.storeCommit who first count) s = .next t ∧
      if s.dirtyRun first count = [] then (t.latch 592).latched = true ∧ s.framedRaise t [] []
      else t.store.running =
          (match s.store.running with
           | x :: xs => x :: insertTxn
              { way := .commit who, txn := s.store.nextTxn, pages := (s.dirtyRun first count).length, left := s.dirtyRun first count } xs
           | [] =>
              [{ way := .commit who, txn := s.store.nextTxn, pages := (s.dirtyRun first count).length, left := s.dirtyRun first count }]) ∧
        s.sameBut t [.store]) ∧
  (∀ (s : State) (p : Fin 1024) (x : Txn), s.boot.phase = .running → s.boot.restore = none → s.store.running = [x] →
      x.way = .background → x.left = [p.val] → p.val < 896 →
      (s.takeInjection 3 p.val = none →
        ∃ t, exec (.storeProgramComplete p true) s = .next t ∧ t.store.running = [] ∧
          (t.page p.val).current = (!(s.page p.val).current) ∧ (t.page p.val).now.seq = ((s.page p.val).now.seq + 1) % 2 ^ 32 ∧
          (t.page p.val).other = (s.page p.val).now ∧ t.pageDirty p.val = false ∧ t.counter = s.counter) ∧
      ((s.page p.val).tries = 0 →
        ∃ t, exec (.storeProgramComplete p false) s = .next t ∧ t.store.running = s.store.running ∧
          t.page p.val = { (s.page p.val).worn with tries := 1 } ∧ t.counter = s.counter)) ∧
  (∀ (s : State) (p : Fin 1024) (x : Txn) (who : Issuer), s.boot.phase = .running → s.boot.restore = none → s.store.running = [x] →
      x.way = .commit who → x.left = [p.val] → x.failed = false →
      s.store.dirty.length + s.store.dirtyPages.length ≤ ordinaryLimit s.store.holdup →
    ∃ t, exec (.storeProgramComplete p true) s = .next t ∧ t.store.running = [] ∧ (t.latch 592).latched = true ∧
      t.attr Attr.store_last_txn = x.txn ∧ t.counter = s.counter) ∧
  (∀ (s : State) (p : Fin 1024), s.boot.phase = .running → 64 ≤ p.val → p.val < 900 → s.busyPages.contains p.val = false →
    ∃ t, exec (.slotEraseComplete p) s = .next t ∧ (t.page p.val).other = .erased ∧ (t.page p.val).now = (s.page p.val).now ∧
      (t.page p.val).current = (s.page p.val).current ∧ (∀ q, q ≠ p.val → t.page q = s.page q) ∧ s.sameBut t [.store]) ∧
  (∀ (s : State) (p : Fin 1024), s.firmware = true → p.val < 896 → s.pageDirty p.val = true → s.inTxn p.val = false →
      s.store.running = [] →
    ∃ t, exec (.backgroundStore p) s = .next t ∧
      t.store.running = [{ way := .background, txn := s.store.nextTxn, pages := 1, left := [p.val] }] ∧
      t.counter =
        (if s.crowded = true ∧ s.oldestDirty = some p.val then s.counter
         else max s.counter (s.dirtySince p.val + s.attrN Attr.store_delay * ticksPerSecond)) ∧ s.sameBut t [.counter, .store]) ∧
  (∀ s : State, s.firmware = true → s.store.running = [] →
    ∃ t, exec .timeRecordStore s = .next t ∧
      t.store.running = [{ way := .timeRecord, txn := s.store.nextTxn, pages := 4, left := [896, 897, 898, 899] }] ∧
      t.counter = max s.counter (s.store.timeCounter + 600 * ticksPerSecond) ∧
      t.store.timeCounter = t.counter ∧ t.store.timeDirty = timePages ∧
      t.store.timeWords = ((List.range 512).filter s.created).map (fun d => (d, (s.dom d).wordsAt t.counter)) ∧
      s.sameBut t [.counter, .store]) ∧
  (∀ (s : State) (ms : Nat), s.firmware = true → s.supplyFailed = false →
    ∃ t, exec (.holdupMeasure ms) s = .next t ∧ t.attr Attr.store_holdup_ms = ms ∧ t.store.holdup = ms ∧
      t.attr Attr.store_dirty_limit = ordinaryLimit ms ∧ (ms < 60 → (t.latch 602).latched = true) ∧
      t.store.holdupAt = t.counter ∧ t.counter = max s.counter (s.store.holdupAt + 86400 * ticksPerSecond)) ∧
  (∀ s : State, s.boot.phase ≠ .off → s.boot.heaters = true → s.power ≠ .dormant →
    ∃ t, exec .ovenHours s = .next t ∧
      (∀ m, m < 3 → t.attr Attr.store_oven_hours 0 m =
        (if m = 0 ∨ s.isQ3 = true then (s.attr Attr.store_oven_hours 0 m + 1) % (256 ^ Attr.store_oven_hours.bytes : Nat)
         else s.attr Attr.store_oven_hours 0 m)) ∧ s.sameBut t [.attrs, .store, .faults])

/-- A power failure stops fetching, takes the heaters off, queues the power-fail store and latches 493 with its cause; the end of
that store keeps its duration, and the module resumes where its supply has returned; a return of the supply without a store
resumes at once; an exhausted hold-up stops the module with its counter cleared. Commands shown to complete, each under the
conditions its clause puts on the state and the operands: PF_N_ASSERTED, VMAIN_BELOW_THRESHOLD, POWER_FAIL_STORE_COMPLETE,
SUPPLY_RESTORED, HOLDUP_EXHAUSTED. -/
def Obligations.SupplyFails : Prop :=
  (∀ s : State, s.boot.phase ≠ .off →
    (∃ t, exec .pfNAsserted s = .next t ∧ t.boot.pfLow = true ∧
      (s.boot.phase = .running → s.supplyFailed = false → s.boot.fetchStopped = false →
        t.boot.fetchStopped = true ∧ t.boot.heaters = false ∧ t.powerFailing = true ∧ t.store.pfFrom = s.counter ∧
          t.boot.restore = none ∧ (t.latch 493).latched = true ∧
          (t.latch 493).cause = true) ∧ t.counter = s.counter) ∧
    ∃ t, exec .vmainBelowThreshold s = .next t ∧ t.boot.onHoldup = true ∧
      (s.boot.phase = .running → s.supplyFailed = false → s.boot.fetchStopped = false →
        t.boot.fetchStopped = true ∧ t.boot.heaters = false ∧ t.powerFailing = true ∧ t.store.pfFrom = s.counter ∧
          t.boot.restore = none ∧ (t.latch 493).latched = true ∧
          (t.latch 493).cause = true) ∧ t.counter = s.counter) ∧
  (∀ (s : State) (us : Nat), s.powerFailing = true →
    ∃ t, exec (.powerFailStoreComplete us) s = .next t ∧ t.store.pfDuration = some us ∧
      (s.boot.supplyBack = true → t.boot.fetchStopped = false ∧ t.boot.heaters = true ∧ (t.latch 493).cause = false) ∧
      t.counter = max s.counter (s.store.pfFrom + us * 1350)) ∧
  (∀ s : State, s.boot.phase ≠ .off → s.supplyFailed = true →
    ∃ t, exec .supplyRestored s = .next t ∧ t.supplyFailed = false ∧
      (if s.powerFailing then t.boot.supplyBack = true ∧ t.boot.fetchStopped = s.boot.fetchStopped
       else t.boot.fetchStopped = false ∧ t.boot.heaters = true ∧ (t.latch 493).cause = false) ∧ s.sameBut t [.boot, .faults]) ∧
  (∀ s : State, s.boot.onHoldup = true → s.boot.phase ≠ .off →
    ∃ t, exec .holdupExhausted s = .next t ∧ t.counter = 0 ∧ t.boot.phase = .off ∧ t.boot.vmain = false ∧ t.boot.heaters = false ∧
      t.boot.pwrGood = false ∧ t.pending = s.pending)

/-- RESET_N low holds the module with its counter cleared, no ring, no command in flight and no latch; its release and the
application of VMAIN run the power-up sequence, which ends in RUN where nothing stops it, and in safe-talk at its first step
where that fails; PERST_N, a hot reset and an FLR return every ring to its reset value; the link errors latch their sources.
Commands shown to complete, each under the conditions its clause puts on the state and the operands: VMAIN_APPLIED,
RESET_N_ASSERTED, RESET_N_RELEASED, PERST_N_ASSERTED, PCIE_HOT_RESET, PCIE_FLR, PCIE_LINK_DOWN, PCIE_CORRECTABLE_ERRORS,
PCIE_UNCORRECTABLE_ERROR. -/
def Obligations.ResetsAndStartUp : Prop :=
  (∀ s : State, s.boot.phase ≠ .off →
    ∃ t, exec .resetNAsserted s = .next t ∧ t.counter = 0 ∧ t.boot.phase = .held ∧ (∀ c, t.ring c = {}) ∧ t.host.inflight = [] ∧
      (∀ ev, t.latch ev = {}) ∧ t.arms = [] ∧ t.pending = s.pending) ∧
  (∀ (s : State) (env : BootEnv), s.boot.phase = .held →
      (s.startsUp env (s.attrN Attr.boot_slot % 2) → ∃ t, exec (.resetNReleased env) s = .next t ∧ t.started 1) ∧
      (env.failAt = some 0 → ∃ t, exec (.resetNReleased env) s = .next t ∧ t.boot.phase = .safeTalk ∧ t.boot.failingStep = 1)) ∧
  (∀ (s : State) (env : BootEnv), s.boot.phase = .off →
      (s.startsUp env (s.attrN Attr.boot_slot % 2) → ∃ t, exec (.vmainApplied env) s = .next t ∧ t.started 0) ∧
      (env.failAt = some 0 → ∃ t, exec (.vmainApplied env) s = .next t ∧ t.boot.phase = .safeTalk ∧ t.boot.failingStep = 1)) ∧
  (∀ s : State, s.hostUp = true →
    (∃ t, exec .perstNAsserted s = .next t ∧ (∀ c, t.ring c = {}) ∧ t.host.inflight = [] ∧ t.faults.subs = [] ∧
      (t.latch 521).latched = true ∧ t.counter = s.counter) ∧
    (∃ t, exec .pcieHotReset s = .next t ∧ (∀ c, t.ring c = {}) ∧ t.host.inflight = [] ∧ t.faults.subs = [] ∧
      (t.latch 521).latched = true ∧ t.counter = s.counter) ∧
    (∃ t, exec .pcieFlr s = .next t ∧ (∀ c, t.ring c = {}) ∧ t.host.inflight = [] ∧ t.faults.subs = [] ∧
      (t.latch 521).latched = true ∧ t.counter = s.counter) ∧
    (∃ t, exec .pcieLinkDown s = .next t ∧ (t.latch 522).latched = true ∧ s.framedRaise t [] []) ∧
    (∃ t, exec .pcieCorrectableErrors s = .next t ∧
      (if s.onceDue 523 then (t.latch 523).latched = true ∧ s.framedRaise t [] [] else t = s)) ∧
    ∃ t, exec .pcieUncorrectableError s = .next t ∧ (t.latch 524).latched = true ∧ s.framedRaise t [] [])

/-- SYSTEM.WARM_RESET, 10 ms after its completion, and a Gaffer failure halt the Gaffer and close an open update; at the end of
either, the Gaffer serves again and every command in flight completes with E_RESTARTED, or a failed step of a warm reset
leads to safe-talk; SYSTEM.REBOOT runs the power-up sequence with cause 2; SYSTEM.RESTORE_FACTORY queues the erase of pages
72 to 899, and the restart waits for it. Commands shown to complete, each under the conditions its clause puts on the state
and the operands: GAFFER_WATCHDOG_EXPIRY, GAFFER_LOCKSTEP_MISMATCH, GAFFER_RESTART_COMPLETE, WARM_RESET_COMPLETE, WARM_RESET,
REBOOT, RESTORE_FACTORY. -/
def Obligations.Restarts : Prop :=
  (∀ (s : State) (who : Issuer), s.serves who → issuerClient who = 0 →
    ∃ t, exec (.warmReset who) s = .next t ∧
      (if s.boot.transition = none then t.boot.gafferUp = false ∧ t.boot.warmRunning = true ∧ t.boot.fw = none
       else t.boot.warmDue = true ∧ t.boot.transition = s.boot.transition) ∧
      (who = .spi ∨ who = .console → t.answered who 0x0102 0) ∧
      t.counter = (if s.counting then s.counter + 13500000 else s.counter)) ∧
  (∀ (s : State) (read : SlotRead), s.boot.phase = .running → s.boot.warmRunning = true →
    ∃ t, exec (.warmResetComplete [] read) s = .next t ∧
      (if s.engineCount < 112 then t.boot.phase = .safeTalk ∧ t.boot.failingStep = 5 ∧ t.boot.failCode = 0x0501
       else if s.acceptable (s.attrN Attr.active_slot) read.intact = true then
        t.boot.gafferUp = true ∧ t.boot.warmRunning = false ∧ t.attr Attr.reset_cause = 4 ∧ (t.latch 488).latched = true ∧
        ∀ f ∈ s.host.inflight, ∃ d ∈ t.host.completed, d.status = E_RESTARTED ∧ d.opcode = f.opcode
       else t.boot.phase = .safeTalk ∧ t.boot.failingStep = 6 ∧
        t.boot.failCode = (if s.attrN Attr.slot_valid % 4 = 0 then 0x0601 else 0x0602)) ∧ t.counter = s.counter) ∧
  (∀ s : State, s.boot.phase = .running →
    (∃ t, exec .gafferWatchdogExpiry s = .next t ∧ t.boot.gafferUp = false ∧ t.boot.fw = none ∧ (t.latch 481).latched = true ∧
      (t.latch 482).latched = true ∧
      t.attr Attr.gaffer_restarts = (s.attr Attr.gaffer_restarts + 1) % (256 ^ Attr.gaffer_restarts.bytes : Nat) ∧
      t.counter = s.counter) ∧
    ∃ t, exec .gafferLockstepMismatch s = .next t ∧ t.boot.gafferUp = false ∧ t.boot.fw = none ∧ (t.latch 480).latched = true ∧
      (t.latch 482).latched = true ∧ t.counter = s.counter) ∧
  (∀ s : State, s.boot.phase = .running → s.boot.gafferUp = false → s.boot.warmRunning = false →
    ∃ t, exec .gafferRestartComplete s = .next t ∧ t.boot.gafferUp = true ∧ t.faults.feedMissed = false ∧
      (∀ f ∈ s.host.inflight, ∃ d ∈ t.host.completed, d.status = E_RESTARTED ∧ d.opcode = f.opcode) ∧ t.counter = s.counter) ∧
  (∀ (s : State) (who : Issuer) (slot : Nat) (env : BootEnv), s.serves who → issuerClient who = 0 → slot ≤ 1 → s.power ≠ .dormant →
      bitOf (s.attrN Attr.slot_valid) slot = true → s.startsUp env slot → s.store.running = [] →
      s.store.dirty.length + s.store.dirtyPages.length ≤ ordinaryLimit s.store.holdup →
    ∃ t, exec (.reboot who slot env) s = .next t ∧ t.started 2 ∧ t.pending = s.pending) ∧
  (∀ (s : State) (who : Issuer) (env : BootEnv), s.serves who → issuerClient who = 0 → s.power ≠ .dormant →
    ∃ t, exec (.restoreFactory who 0x46414354 env) s = .next t ∧ t.boot.restore = some env ∧
      (∃ x ∈ t.store.running, x.way = .restoreFactory ∧ x.left = (List.range 828).map fun k => 72 + k) ∧
      (who = .spi ∨ who = .console → t.answered who 0x0104 0) ∧
      t.counter = (if s.counting then s.counter + 13500000 else s.counter))

/-- A module without a claim of its mate claims the active role after 1 s, and becomes STANDBY where the mate claims; ROLE_ACT,
10 µs after the claim and the fall of CHG_ACK or 4 ms after an unplanned trigger, makes it ACTIVE; a split brain is resolved
by ALIVE and primacy; a standby claims when its mate is lost or releases; MATE.CHANGEOVER sends one more snapshot and its
receipt, or 5 ms without it, ends it with the role given up; the adoption counts and records the takeover; the link trains
with what the mate sends, and drops. Commands shown to complete, each under the conditions its clause puts on the state and
the operands: MATE_CHANGEOVER, MATE_LINK_RESET, MATE_LINK_TRAINED, MATE_LINK_DOWN, ROLE_CLAIM_TIMEOUT, ROLE_ACT_RAISE,
CHG_ACK_RISE, ALIVE_LOST, LINK_AND_ALIVE_LOST, RELEASE, SNAPSHOT_ADOPTION, MATE_ALIVE_RESUMED, CHANGEOVER_RECEIPT. -/
def Obligations.MateRoles : Prop :=
  (∀ s : State, s.timing = true → s.starting = true → s.mate.deciding = true →
    ∃ t, exec .roleClaimTimeout s = .next t ∧ (if s.mate.ack then t.attr Attr.mate_role = 2 ∧ t.mate.claim = false else t.mate.claim = true) ∧
      t.mate.deciding = false ∧ t.counter = max s.counter (s.mate.decideFrom + ticksPerSecond)) ∧
  (∀ s : State, s.timing = true → s.paired_ = true → s.mate.claim = true → s.mate.roleAct = false →
      s.mate.ack = false ∨ s.mate.takeover = some 0 ∨ s.mate.takeover = some 1 →
    ∃ t, exec .roleActRaise s = .next t ∧ t.attr Attr.mate_role = 3 ∧ t.mate.roleAct = true ∧ t.mate.tracking = false ∧
      (∀ k, s.mate.takeover = some k → (t.latch (if k = 2 then 537 else 536)).latched = true) ∧
      t.counter = max s.counter (if s.mate.ack then s.mate.claimAt + 5400000 else max s.mate.claimAt s.mate.ackAt + 13500)) ∧
  (∀ s : State, s.timing = true → s.paired_ = true →
    ∃ t, exec .chgAckRise s = .next t ∧ t.mate.ack = true ∧
      (s.mate.claim = true → (t.latch 545).latched = true ∧
        (s.aliveFrozen = false → s.mate.aliveIn = false ∨ s.flag Attr.mate_role_pri = true → t.mate.claim = true) ∧
        (s.aliveFrozen = false → s.mate.aliveIn = true → s.flag Attr.mate_role_pri = false →
          t.mate.claim = false ∧ t.attr Attr.mate_role = 2) ∧
        (s.aliveFrozen = true → s.mate.aliveIn = true → t.mate.claim = false ∧ t.attr Attr.mate_role = 1)) ∧
      (s.mate.claim = false → s.mate.deciding = true → t.attr Attr.mate_role = 2) ∧ t.counter = s.counter) ∧
  (∀ s : State, s.timing = true → s.standby = true → s.mate.claim = false → s.mate.ack = false ∨ s.aliveFrozen = false →
    (∃ t, exec .aliveLost s = .next t ∧ t.mate.claim = true ∧ t.mate.claimAt = s.counter ∧ t.mate.takeover = some 0 ∧
      t.mate.aliveIn = false ∧ t.counter = s.counter) ∧
    (s.attr Attr.mate_link_state = 0 →
      ∃ t, exec .linkAndAliveLost s = .next t ∧ t.mate.claim = true ∧ t.mate.claimAt = s.counter ∧ t.mate.takeover = some 1 ∧
        t.mate.aliveIn = false ∧ t.counter = s.counter)) ∧
  (∀ s : State, s.timing = true → s.paired_ = true → s.mate.ack = true →
    ∃ t, exec .release s = .next t ∧ t.mate.ack = false ∧ t.mate.ackAt = s.counter ∧
      (s.standby = true → s.mate.claim = false → s.mate.aliveIn = true → t.mate.claim = true ∧ t.mate.takeover = some 2) ∧
      t.counter = s.counter) ∧
  (∀ s : State, s.timing = true → s.active = true →
    (∃ t, exec .aliveLost s = .next t ∧ t.mate.aliveIn = false ∧ (t.latch 539).latched = true ∧ (t.latch 539).cause = true ∧
      t.counter = s.counter) ∧
    ∃ t, exec .mateAliveResumed s = .next t ∧ t.mate.aliveIn = true ∧ (t.latch 539).cause = false ∧ s.sameBut t [.mate, .faults]) ∧
  (∀ (s : State) (who : Issuer), s.serves who → issuerClient who = 0 → s.changeoverRefused = false →
    ∃ t, exec (.mateChangeover who true) s = .next t ∧
      (s.active = true → s.attr Attr.mate_sleep_state = 0 →
        t.mate.changeover = some (some who) ∧ t.mate.changeAt = s.counter ∧ t.mate.snapSent = s.mate.snapSent + 1 ∧
          (∃ p, t.out = .snapshot p :: s.out ∧ p.epoch = s.mate.snapSent + 1) ∧ s.sameBut t [.mate, .out, .faults]) ∧
      (s.active = false → s.attr Attr.mate_track_state = 2 → s.attr Attr.mate_sleep_state = 0 →
        t.answered who 0x0C00 0 ∧ .mate 4 0 ∈ t.out ∧ s.framed t [] [])) ∧
  (∀ (s : State) (who : Option Issuer) (received : Bool), s.mate.changeover = some who → s.control = true → s.active = true →
    ∃ t, exec (.changeoverReceipt received) s = .next t ∧ t.mate.changeover = none ∧ t.mate.claim = false ∧ t.mate.roleAct = false ∧
      t.attr Attr.mate_role = (if s.aliveFrozen then 1 else 2) ∧ (∀ w, who = some w → s.serves w → t.answered w 0x0C00 0) ∧
      t.counter = (if received then s.counter else max s.counter (s.mate.changeAt + 6750000))) ∧
  (∀ (s : State) (k instant : Nat), s.mate.takeover = some k → s.control = true → s.active = true → s.mate.roleAct = true →
    ∃ t, exec (.snapshotAdoption instant) s = .next t ∧ t.mate.takeover = none ∧
      t.attr Attr.mate_takeovers = (s.attr Attr.mate_takeovers + 1) % (256 ^ Attr.mate_takeovers.bytes : Nat) ∧
      t.attr Attr.mate_last_takeover =
        ((s.mate.tookAt.1 % 2 ^ 64 + k * 2 ^ 64 + s.mate.tookAt.2 % 65536 * 2 ^ 72 : Nat) : Int) ∧ t.counter = s.counter) ∧
  (∀ (s : State) (peer : MatePeer), s.timing = true → s.paired_ = true →
      s.attr Attr.mate_link_state = 0 ∨ s.attr Attr.mate_link_state = 1 →
    ∃ t, exec (.mateLinkTrained peer) s = .next t ∧ t.attr Attr.mate_link_state = 2 ∧ t.mate.peer = some peer ∧
      t.attr Attr.mate_versions 0 0 = peer.version ∧ t.attr Attr.mate_versions 0 1 = peer.compat ∧
      t.flag Attr.mate_role_pri = (if s.boot.rolePri = peer.pri then bytesBefore s.serial peer.serial else s.boot.rolePri) ∧
      t.attr Attr.mate_copy_state = (if s.copyAllowed peer then 1 else 2) ∧ t.counter = s.counter) ∧
  (∀ s : State, s.timing = true → s.attr Attr.mate_link_state ≠ 0 →
    ∃ t, exec .mateLinkDown s = .next t ∧ t.attr Attr.mate_link_state = 0 ∧ t.attr Attr.mate_copy_state = 0 ∧
      (s.attr Attr.mate_link_state = 2 → (t.latch 540).latched = true ∧ (t.latch 540).cause = true) ∧ t.counter = s.counter) ∧
  (∀ (s : State) (who : Issuer), s.serves who → issuerClient who = 0 → s.paired_ = true →
    ∃ t, exec (.mateLinkReset who) s = .next t ∧ t.answered who 0x0C03 0 ∧ t.attr Attr.mate_link_state = 1 ∧
      t.attr Attr.mate_copy_state = 0 ∧ t.counter = s.counter)

/-- The active module sends snapshots with rising epochs 10 ms apart, and the standby keeps one that is complete and counts one
that is not; the age limits advance the counter to their instants; a fetched session entry is mirrored; a sleep is proposed,
answered, committed with an entry instant at least 50 ms later, cancelled, entered at that instant and ended by a wake.
Commands shown to complete, each under the conditions its clause puts on the state and the operands: MATE_SLEEP, MATE_WAKE,
SNAPSHOT_SEND, SNAPSHOT_RECEIVED, SNAPSHOT_STALE, SESSION_ENTRY_FETCH, SLEEP_PROPOSE, SLEEP_ANSWER, SLEEP_COMMIT,
SLEEP_CANCEL, SLEEP_ENTRY, WAKE_FETCH_COMPLETE, SNAP_MAX_AGE_EXCEEDED, MATE_REQUEST_RECEIVED. -/
def Obligations.MateStateCopy : Prop :=
  (∀ s : State, s.control = true → s.active = true → s.copying = true → s.mateLinkUp = true →
    ∃ t p, exec .snapshotSend s = .next t ∧ t.out = .snapshot p :: s.out ∧ p.epoch = s.mate.snapSent + 1 ∧ p.counter = t.mateEdge ∧
      t.counter = max s.counter (s.mate.snapAt + 13500000) ∧
      t.mate = { s.mate with snapSent := s.mate.snapSent + 1, snapAt := t.counter } ∧ s.sameBut t [.counter, .mate, .out, .faults]) ∧
  (∀ (s : State) (p : Snapshot), s.control = true → s.standby = true → s.copying = true → s.mateLinkUp = true →
    ∃ t, exec (.snapshotReceived p) s = .next t ∧
      (if s.snapComplete p then t.mate.snap = some p ∧ t.attr Attr.mate_snap_epoch = p.epoch
       else t.mate.snap = s.mate.snap ∧
        t.attr Attr.mate_snap_discards = (s.attr Attr.mate_snap_discards + 1) % (256 ^ Attr.mate_snap_discards.bytes : Nat)) ∧
      t.counter = s.counter) ∧
  (∀ (s : State) (p : Snapshot), s.mate.snap = some p → s.timing = true →
    (s.standby = true →
      ∃ t, exec .snapshotStale s = .next t ∧ (t.latch 543).latched = true ∧ (t.latch 543).cause = true ∧
        t.counter = max s.counter (p.localEdge + 27000001)) ∧
    (s.mate.tracking = true →
      ∃ t, exec .snapMaxAgeExceeded s = .next t ∧ t.mate = s.mate ∧
        t.counter = max s.counter (p.localEdge + s.attrN Attr.mate_snap_max_age * 1350000 + 1))) ∧
  (∀ (s : State) (n : Fin 16384) (c : SessionCopy), s.engines = true → s.paired_ = true → s.mateLinkUp = true →
      s.mate.stale.contains n.val = true →
    (∃ t, exec (.sessionEntryFetch n (some c)) s = .next t ∧ n.val ∉ t.mate.stale ∧ (t.sess n.val).partner = c.partner ∧
      t.attr Attr.session_sess_state n.val = SessState.granted.code ∧ tblFind t.mate.mirror n.val = some c.summary ∧
      t.counter = s.counter) ∧
    ∃ t, exec (.sessionEntryFetch n none) s = .next t ∧ t.mate.stale = s.mate.stale ∧
      t.attr Attr.mate_link_errors = (s.attr Attr.mate_link_errors + 1) % (256 ^ Attr.mate_link_errors.bytes : Nat) ∧
      t.counter = s.counter) ∧
  (∀ (s : State) (who : Issuer), s.serves who → issuerClient who = 0 → s.sleepRefused = false →
    ∃ t, exec (.mateSleep who) s = .next t ∧
      (s.active = true →
        t.mate = { s.mate with agreement := some { who := some who } } ∧ t.attr Attr.mate_sleep_state = 1 ∧
          t.out = .mate 0 0 :: s.out ∧ s.sameBut t [.mate, .attrs, .out]) ∧
      (s.active = false → t.answered who 0x0C01 0 ∧ .mate 6 0 ∈ t.out ∧ s.framed t [] [])) ∧
  (∀ (s : State) (who : Issuer), s.serves who → issuerClient who = 0 → s.attr Attr.mate_sleep_state = 3 →
    ∃ t, exec (.mateWake who) s = .next t ∧ t.answered who 0x0C02 0 ∧ t.attr Attr.mate_sleep_state = 4 ∧
      (if s.active then .mate 7 0 ∈ t.out else t.boot.transition = some 0) ∧ t.counter = s.counter) ∧
  (∀ s : State, s.control = true → s.mateLinkUp = true →
      (s.active = true → s.changeoverRefused = false →
        ∃ t, exec (.mateRequestReceived .changeover) s = .next t ∧ t.mate.changeover = some none ∧ t.counter = s.counter) ∧
      (s.active = true → s.sleepRefused = false →
        ∃ t, exec (.mateRequestReceived .sleep) s = .next t ∧ t.mate = { s.mate with agreement := some {} } ∧
          t.attr Attr.mate_sleep_state = 1 ∧ t.counter = s.counter) ∧
      (s.standby = true → s.attr Attr.mate_sleep_state = 3 →
        ∃ t, exec (.mateRequestReceived .wake) s = .next t ∧ t.attr Attr.mate_sleep_state = 4 ∧ t.boot.transition = some 0 ∧
          s.sameBut t [.boot, .attrs])) ∧
  (∀ s : State, s.control = true → s.standby = true → s.mateLinkUp = true →
    ∃ t, exec .sleepPropose s = .next t ∧
      (if s.attr Attr.mate_track_state = 2 ∧ s.mate.claim = false ∧ s.mate.agreement = none ∧ s.attr Attr.mate_sleep_state = 0 then
        t.mate = { s.mate with agreement := some {} } ∧ t.attr Attr.mate_sleep_state = 1 ∧ t.out = .mate 1 1 :: s.out
       else t.mate = s.mate ∧ t.out = .mate 1 0 :: s.out) ∧ s.sameBut t [.mate, .attrs, .out]) ∧
  (∀ (s : State) (a : Agreement) (accept : Bool) (instant : Nat), s.mate.agreement = some a → s.control = true → s.active = true →
      a.committed = none →
    ∃ t, exec (.sleepAnswer accept instant) s = .next t ∧
      (if accept then t.mate.agreement = some { committed := some (max instant (s.counter + 67500000)) } ∧
          t.attr Attr.mate_sleep_state = 2 ∧ (t.latch 547).latched = true
       else t.mate.agreement = none ∧ t.attr Attr.mate_sleep_state = 0) ∧
      (∀ w, a.who = some w → s.serves w → t.answered w 0x0C01 (if accept then 0 else E_STATE)) ∧ t.counter = s.counter) ∧
  (∀ (s : State) (a : Agreement) (instant : Nat), s.mate.agreement = some a → s.control = true →
      (s.standby = true → a.committed = none →
        ∃ t, exec (.sleepCommit instant) s = .next t ∧ t.mate.agreement = some { committed := some instant } ∧
          t.attr Attr.mate_sleep_state = 2 ∧ (t.latch 547).latched = true ∧ t.counter = s.counter) ∧
      (s.active = true →
        ∃ t, exec .sleepCancel s = .next t ∧ t.mate.agreement = none ∧ t.attr Attr.mate_sleep_state = 0 ∧
          (t.latch 548).latched = true ∧ t.counter = s.counter) ∧
      (∀ entry, a.committed = some entry →
        ∃ t, exec .sleepEntry s = .next t ∧ t.counter = max s.counter entry ∧
          (if s.standby then t.boot.transition = some 2 ∧ t.mate = s.mate
           else t.mate = { s.mate with agreement := none } ∧ t.attr Attr.mate_sleep_state = 3))) ∧
  (∀ s : State, s.control = true → s.attr Attr.mate_sleep_state = 4 → s.mate.stale = [] →
    ∃ t, exec .wakeFetchComplete s = .next t ∧ t.attr Attr.mate_sleep_state = 0 ∧ s.sameBut t [.attrs])

/-- FAULT.ACK of a LATCHED source completes with 0, sets ACKED, leaves its class, and every output held SAFE stays so; of a
source that is not LATCHED it completes with 0 and changes nothing; the next occurrence of an acknowledged source clears
ACKED and is classified without escalation. (The three sources that the book-keeping of the completion itself may raise are
left out of the first clause.) Commands shown to complete, each under the conditions its clause puts on the state and the
operands: FAULT_ACK. -/
def Obligations.AcknowledgeRule : Prop :=
  (∀ (s : State) (who : Issuer) (ev : Nat), s.serves who → issuerClient who = 0 → ev ≤ 639 →
    ((s.latch ev).latched = true → ev ≠ 387 → ev ≠ 600 → ev ≠ 601 →
      ∃ t, exec (.faultAck who ev) s = .next t ∧ t.answered who 0x0A00 0 ∧ t.latch ev = { s.latch ev with acked := true } ∧
        (t.latch ev).cls = (s.latch ev).cls ∧ ∀ n, s.outSafe n = true → t.outSafe n = true) ∧
    ((s.latch ev).latched = false →
      ∃ t, exec (.faultAck who ev) s = .next t ∧ t.answered who 0x0A00 0 ∧ s.framed t [] [])) ∧
  (∀ (s : State) (ev detail : Nat) (cause : Bool) (dyn : List ScopeItem), Ev.defined ev = true → (s.latch ev).latched = true →
      (s.latch ev).acked = true → ev ≠ 387 → ev ≠ 600 → ev ≠ 601 →
    ((s.raise ev cause detail dyn).latch ev).acked = false ∧
      ((s.raise ev cause detail dyn).latch ev).cls =
        max (s.latch ev).cls (if (s.countRule ev (s.latch ev)).2 || s.policySevere ev then 3 else Ev.baseClass ev))

/-- An interval of Δc ticks and Δv vernier LSB is the integer nearest to (Δc × 1024 + Δv) × 1280 / 27, a tie upwards; one tick is
48,545.19 units and one vernier LSB 47.41 units, to two decimals. -/
def Obligations.IntervalConversion : Prop :=
  (∀ dc dv : Int, 54 * ticUnits (dc * 1024 + dv) ≤ 2 * ((dc * 1024 + dv) * 1280) + 27 ∧
      2 * ((dc * 1024 + dv) * 1280) + 27 < 54 * (ticUnits (dc * 1024 + dv) + 1)) ∧
    roundDiv (100 * (1024 * 1280)) 27 = 4854519 ∧ roundDiv (100 * 1280) 27 = 4741

/-- Errors that lie in the check symbols of a frame, found by a write of the module or by Fuller, count as check-only in
ce_counts; only the check symbols are rewritten, at once and in every region, so that no byte changes; the address log takes
no entry. The clause on Fuller is stated where no other frame has such errors. Commands shown to complete, each under the
conditions its clause puts on the state and the operands: FULLER_FRAME_READ. -/
def Obligations.CheckSymbolErrors : Prop :=
  (∀ (s : State) (lpn : Nat), (s.frame (s.frameOf lpn)).checkErrors ≠ 0 →
    (s.findCheck lpn).attr Attr.ce_counts 0 2 = (s.attr Attr.ce_counts 0 2 + 1) % (256 ^ Attr.ce_counts.bytes : Nat) ∧
      ((s.findCheck lpn).frame (s.frameOf lpn)).checkErrors = 0 ∧ (s.findCheck lpn).tm.bytes = s.tm.bytes ∧
      ∀ k, k < 16 → (s.findCheck lpn).attr Attr.ce_log 0 k = s.attr Attr.ce_log 0 k) ∧
  (∀ (s : State) (positions : List Nat), s.memoryUp = true → positions ≠ [] → (∀ x ∈ positions, s.checkFrom ≤ x) →
      s.decodes { positions := positions } = true → (∀ f, (s.frame f).checkErrors = 0) → s.net.ports = [] →
    ∃ t, exec (.fullerFrameRead { positions := positions }) s = .next t ∧
      t.attr Attr.ce_counts 0 2 = (s.attr Attr.ce_counts 0 2 + 1) % (256 ^ Attr.ce_counts.bytes : Nat) ∧
      t.tm.bytes = s.tm.bytes ∧ ∀ k, k < 16 → t.attr Attr.ce_log 0 k = s.attr Attr.ce_log 0 k)
end

