-- ==== Sys2Proof/Laws/Table.lean ====
section
/-! SUPPORT. The laws of sparse tables: a read after a write, every other key, and the canonical form. -/

namespace Sys2Proof.Machine

variable {α : Type}

@[simp] theorem tblFind_nil (i : Nat) : tblFind ([] : Tbl α) i = none := rfl
@[simp] theorem tblGet_nil (d : α) (i : Nat) : tblGet ([] : Tbl α) d i = d := rfl

@[simp] theorem tblFind_put_same (t : Tbl α) (i : Nat) (x : α) : tblFind (tblPut t i x) i = some x := by
  induction t with
  | nil => simp [tblPut, tblFind]
  | cons e t ih =>
    obtain ⟨k, v⟩ := e
    unfold tblPut
    split
    · simp [tblFind]
    · split <;> simp_all [tblFind]

theorem tblFind_put_other (t : Tbl α) {i j : Nat} (x : α) (h : j ≠ i) : tblFind (tblPut t i x) j = tblFind t j := by
  induction t with
  | nil => simp [tblPut, tblFind, h]
  | cons e t ih =>
    obtain ⟨k, v⟩ := e
    unfold tblPut
    split
    · next hk => subst hk; simp [tblFind, h]
    · split
      · simp [tblFind, h]
      · simp [tblFind, ih]

@[simp] theorem tblFind_drop_same (t : Tbl α) (i : Nat) : tblFind (tblDrop t i) i = none := by
  induction t with
  | nil => rfl
  | cons e t ih =>
    obtain ⟨k, v⟩ := e
    unfold tblDrop
    split
    · exact ih
    · simp_all [tblFind]

theorem tblFind_drop_other (t : Tbl α) {i j : Nat} (h : j ≠ i) : tblFind (tblDrop t i) j = tblFind t j := by
  induction t with
  | nil => rfl
  | cons e t ih =>
    obtain ⟨k, v⟩ := e
    unfold tblDrop
    split
    · next hk => subst hk; simp [tblFind, h, ih]
    · simp [tblFind, ih]

variable [DecidableEq α]

@[simp] theorem tblGet_set_same (t : Tbl α) (d : α) (i : Nat) (x : α) : tblGet (tblSet t d i x) d i = x := by
  unfold tblGet tblSet
  split
  · next h => simp [h]
  · simp

theorem tblFind_set_other (t : Tbl α) (d : α) {i j : Nat} (x : α) (h : j ≠ i) : tblFind (tblSet t d i x) j = tblFind t j := by
  unfold tblSet
  split
  · exact tblFind_drop_other t h
  · exact tblFind_put_other t x h

theorem tblGet_set_other (t : Tbl α) (d e : α) {i j : Nat} (x : α) (h : j ≠ i) : tblGet (tblSet t d i x) e j = tblGet t e j := by
  unfold tblGet
  rw [tblFind_set_other t d x h]

theorem tblGet_set (t : Tbl α) (d : α) (i j : Nat) (x : α) : tblGet (tblSet t d i x) d j = if j = i then x else tblGet t d j := by
  split
  · next h => subst h; simp
  · next h => exact tblGet_set_other t d d x h

/-! ### The canonical form -/

/-- Every key of a table satisfies `p`. -/
def keysAll (p : Nat → Prop) (t : Tbl α) : Prop := ∀ e ∈ t, p e.1

omit [DecidableEq α] in
/-- Rising keys, by the head: the rest rises and lies above it. -/
theorem tblSorted_cons (k : Nat) (v : α) (t : Tbl α) : tblSorted ((k, v) :: t) = true ↔ keysAll (k < ·) t ∧ tblSorted t = true := by
  induction t generalizing k v with
  | nil => simp [tblSorted, keysAll]
  | cons e t ih =>
    obtain ⟨k', v'⟩ := e
    have h : tblSorted ((k, v) :: (k', v') :: t) = (decide (k < k') && tblSorted ((k', v') :: t)) := rfl
    rw [h]
    simp only [Bool.and_eq_true, decide_eq_true_eq, keysAll, List.mem_cons, forall_eq_or_imp]
    constructor
    · rintro ⟨h1, h2⟩
      refine ⟨⟨h1, fun e he => ?_⟩, h2⟩
      have := ((ih k' v').1 h2).1 e he
      omega
    · rintro ⟨⟨h1, -⟩, h2⟩
      exact ⟨h1, h2⟩

omit [DecidableEq α] in
theorem keysAll_put (p : Nat → Prop) (t : Tbl α) (i : Nat) (x : α) (hi : p i) (h : keysAll p t) : keysAll p (tblPut t i x) := by
  induction t with
  | nil => intro e he; simp [tblPut] at he; subst he; exact hi
  | cons e t ih =>
    obtain ⟨k, v⟩ := e
    have ht : keysAll p t := fun e he => h e (List.mem_cons_of_mem _ he)
    have hk : p k := h (k, v) (List.mem_cons_self ..)
    unfold tblPut
    split
    · intro e he
      rcases List.mem_cons.1 he with rfl | he
      · exact hi
      · exact ht e he
    · split
      · intro e he
        rcases List.mem_cons.1 he with rfl | he
        · exact hi
        · exact h e he
      · intro e he
        rcases List.mem_cons.1 he with rfl | he
        · exact hk
        · exact ih ht e he

omit [DecidableEq α] in
theorem tblSorted_put (t : Tbl α) (i : Nat) (x : α) (h : tblSorted t = true) : tblSorted (tblPut t i x) = true := by
  induction t with
  | nil => rfl
  | cons e t ih =>
    obtain ⟨k, v⟩ := e
    obtain ⟨h1, h2⟩ := (tblSorted_cons k v t).1 h
    unfold tblPut
    split
    · next hk => subst hk; exact (tblSorted_cons _ _ _).2 ⟨h1, h2⟩
    · split
      · next hlt =>
        refine (tblSorted_cons _ _ _).2 ⟨fun e he => ?_, h⟩
        rcases List.mem_cons.1 he with rfl | he
        · exact hlt
        · have := h1 e he; omega
      · next hne hlt => exact (tblSorted_cons _ _ _).2 ⟨keysAll_put _ t i x (by omega) h1, ih h2⟩

omit [DecidableEq α] in
theorem mem_drop {t : Tbl α} {i : Nat} {e : Nat × α} (h : e ∈ tblDrop t i) : e ∈ t := by
  induction t with
  | nil => simp [tblDrop] at h
  | cons x t ih =>
    obtain ⟨k, v⟩ := x
    unfold tblDrop at h
    split at h
    · exact List.mem_cons_of_mem _ (ih h)
    · rcases List.mem_cons.1 h with rfl | h
      · exact List.mem_cons_self ..
      · exact List.mem_cons_of_mem _ (ih h)

omit [DecidableEq α] in
theorem tblSorted_drop (t : Tbl α) (i : Nat) (h : tblSorted t = true) : tblSorted (tblDrop t i) = true := by
  induction t with
  | nil => rfl
  | cons e t ih =>
    obtain ⟨k, v⟩ := e
    obtain ⟨h1, h2⟩ := (tblSorted_cons k v t).1 h
    unfold tblDrop
    split
    · exact ih h2
    · exact (tblSorted_cons _ _ _).2 ⟨fun e he => h1 e (mem_drop he), ih h2⟩

omit [DecidableEq α] in
theorem mem_put {t : Tbl α} {i : Nat} {x : α} {e : Nat × α} (h : e ∈ tblPut t i x) : e = (i, x) ∨ e ∈ t := by
  induction t with
  | nil => simp [tblPut] at h; exact .inl h
  | cons y t ih =>
    obtain ⟨k, v⟩ := y
    unfold tblPut at h
    split at h
    · rcases List.mem_cons.1 h with h | h
      · exact .inl h
      · exact .inr (List.mem_cons_of_mem _ h)
    · split at h
      · rcases List.mem_cons.1 h with h | h
        · exact .inl h
        · exact .inr h
      · rcases List.mem_cons.1 h with rfl | h
        · exact .inr (List.mem_cons_self ..)
        · rcases ih h with h | h
          · exact .inl h
          · exact .inr (List.mem_cons_of_mem _ h)

/-- Giving a key a value keeps the canonical form. -/
theorem tblCanonical_set (t : Tbl α) (d : α) (i : Nat) (x : α) (h : tblCanonical d t = true) : tblCanonical d (tblSet t d i x) = true := by
  simp only [tblCanonical, Bool.and_eq_true, List.all_eq_true, decide_eq_true_eq] at h ⊢
  unfold tblSet
  split
  · exact ⟨tblSorted_drop t i h.1, fun e he => h.2 e (mem_drop he)⟩
  · next hx =>
    refine ⟨tblSorted_put t i x h.1, fun e he => ?_⟩
    rcases mem_put he with rfl | he
    · exact hx
    · exact h.2 e he

/-- Giving a run of keys values keeps the canonical form. -/
theorem tblCanonical_setRun (d : α) (xs : List α) (t : Tbl α) (i : Nat) (h : tblCanonical d t = true) : tblCanonical d (tblSetRun d t i xs) = true := by
  induction xs generalizing t i with
  | nil => exact h
  | cons x xs ih => exact ih _ _ (tblCanonical_set t d i x h)

/-- What a run of keys reads after a run was written: its keys the new values, every other key as before. -/
theorem tblGet_setRun_other (d : α) (xs : List α) (t : Tbl α) (i j : Nat) (h : j < i ∨ i + xs.length ≤ j) :
    tblGet (tblSetRun d t i xs) d j = tblGet t d j := by
  induction xs generalizing t i with
  | nil => rfl
  | cons x xs ih =>
    simp only [List.length_cons] at h
    rw [tblSetRun, ih _ _ (by omega), tblGet_set_other]
    omega

theorem tblGet_setRun_same (d : α) (xs : List α) (t : Tbl α) (i k : Nat) (h : k < xs.length) :
    tblGet (tblSetRun d t i xs) d (i + k) = xs[k] := by
  induction xs generalizing t i k with
  | nil => simp at h
  | cons x xs ih =>
    cases k with
    | zero => rw [tblSetRun, tblGet_setRun_other d xs _ _ _ (by omega)]; simp
    | succ k =>
      have := ih (tblSet t d i x) (i + 1) k (by simpa using h)
      simpa [tblSetRun, Nat.add_assoc, Nat.add_comm 1 k] using this

/-- Keeping the keys that satisfy `p` keeps the canonical form. -/
theorem tblCanonical_keep (d : α) (p : Nat → Bool) (t : Tbl α) (h : tblCanonical d t = true) : tblCanonical d (tblKeep p t) = true := by
  have sub : ∀ (t : Tbl α) (e : Nat × α), e ∈ tblKeep p t → e ∈ t := by
    intro t
    induction t with
    | nil => intro e he; exact he
    | cons x t ih =>
      obtain ⟨k, v⟩ := x
      intro e he
      unfold tblKeep at he
      split at he
      · rcases List.mem_cons.1 he with rfl | he
        · exact List.mem_cons_self ..
        · exact List.mem_cons_of_mem _ (ih e he)
      · exact List.mem_cons_of_mem _ (ih e he)
  have sorted : ∀ t : Tbl α, tblSorted t = true → tblSorted (tblKeep p t) = true := by
    intro t
    induction t with
    | nil => intro h; exact h
    | cons x t ih =>
      obtain ⟨k, v⟩ := x
      intro h
      obtain ⟨h1, h2⟩ := (tblSorted_cons k v t).1 h
      unfold tblKeep
      split
      · exact (tblSorted_cons _ _ _).2 ⟨fun e he => h1 e (sub t e he), ih h2⟩
      · exact ih h2
  simp only [tblCanonical, Bool.and_eq_true, List.all_eq_true, decide_eq_true_eq] at h ⊢
  exact ⟨sorted t h.1, fun e he => h.2 e (sub t e he)⟩

end Sys2Proof.Machine
end

