-- ==== Sys2Proof/Laws/State.lean ====
section
/-! SUPPORT. One lemma for each update of the state and each part that the update leaves alone, and what a record reads after
it was set. -/

namespace Sys2Proof.Machine

variable (s : State)

/-! ### `setDom` -/

@[simp] theorem State.setDom_counter (d : Nat) (r : DomRec) : (s.setDom d r).counter = s.counter := rfl
@[simp] theorem State.setDom_attrs (d : Nat) (r : DomRec) : (s.setDom d r).attrs = s.attrs := rfl
@[simp] theorem State.setDom_crucible (d : Nat) (r : DomRec) : (s.setDom d r).crucible = s.crucible := rfl
@[simp] theorem State.setDom_inputs (d : Nat) (r : DomRec) : (s.setDom d r).inputs = s.inputs := rfl
@[simp] theorem State.setDom_uarts (d : Nat) (r : DomRec) : (s.setDom d r).uarts = s.uarts := rfl
@[simp] theorem State.setDom_factory (d : Nat) (r : DomRec) : (s.setDom d r).factory = s.factory := rfl
@[simp] theorem State.setDom_sels (d : Nat) (r : DomRec) : (s.setDom d r).sels = s.sels := rfl
@[simp] theorem State.setDom_dplls (d : Nat) (r : DomRec) : (s.setDom d r).dplls = s.dplls := rfl
@[simp] theorem State.setDom_syns (d : Nat) (r : DomRec) : (s.setDom d r).syns = s.syns := rfl
@[simp] theorem State.setDom_outs (d : Nat) (r : DomRec) : (s.setDom d r).outs = s.outs := rfl
@[simp] theorem State.setDom_arms (d : Nat) (r : DomRec) : (s.setDom d r).arms = s.arms := rfl
@[simp] theorem State.setDom_gens (d : Nat) (r : DomRec) : (s.setDom d r).gens = s.gens := rfl
@[simp] theorem State.setDom_faults (d : Nat) (r : DomRec) : (s.setDom d r).faults = s.faults := rfl
@[simp] theorem State.setDom_host (d : Nat) (r : DomRec) : (s.setDom d r).host = s.host := rfl
@[simp] theorem State.setDom_tm (d : Nat) (r : DomRec) : (s.setDom d r).tm = s.tm := rfl
@[simp] theorem State.setDom_store (d : Nat) (r : DomRec) : (s.setDom d r).store = s.store := rfl
@[simp] theorem State.setDom_boot (d : Nat) (r : DomRec) : (s.setDom d r).boot = s.boot := rfl
@[simp] theorem State.setDom_net (d : Nat) (r : DomRec) : (s.setDom d r).net = s.net := rfl
@[simp] theorem State.setDom_tics (d : Nat) (r : DomRec) : (s.setDom d r).tics = s.tics := rfl
@[simp] theorem State.setDom_repair (d : Nat) (r : DomRec) : (s.setDom d r).repair = s.repair := rfl
@[simp] theorem State.setDom_pmcs (d : Nat) (r : DomRec) : (s.setDom d r).pmcs = s.pmcs := rfl
@[simp] theorem State.setDom_mate (d : Nat) (r : DomRec) : (s.setDom d r).mate = s.mate := rfl
@[simp] theorem State.setDom_pending (d : Nat) (r : DomRec) : (s.setDom d r).pending = s.pending := rfl
@[simp] theorem State.setDom_freeCount (d : Nat) (r : DomRec) : (s.setDom d r).freeCount = s.freeCount := rfl
@[simp] theorem State.setDom_out (d : Nat) (r : DomRec) : (s.setDom d r).out = s.out := rfl

/-! ### `setInput` -/

@[simp] theorem State.setInput_counter (n : Nat) (r : InputRec) : (s.setInput n r).counter = s.counter := rfl
@[simp] theorem State.setInput_attrs (n : Nat) (r : InputRec) : (s.setInput n r).attrs = s.attrs := rfl
@[simp] theorem State.setInput_crucible (n : Nat) (r : InputRec) : (s.setInput n r).crucible = s.crucible := rfl
@[simp] theorem State.setInput_doms (n : Nat) (r : InputRec) : (s.setInput n r).doms = s.doms := rfl
@[simp] theorem State.setInput_uarts (n : Nat) (r : InputRec) : (s.setInput n r).uarts = s.uarts := rfl
@[simp] theorem State.setInput_factory (n : Nat) (r : InputRec) : (s.setInput n r).factory = s.factory := rfl
@[simp] theorem State.setInput_sels (n : Nat) (r : InputRec) : (s.setInput n r).sels = s.sels := rfl
@[simp] theorem State.setInput_dplls (n : Nat) (r : InputRec) : (s.setInput n r).dplls = s.dplls := rfl
@[simp] theorem State.setInput_syns (n : Nat) (r : InputRec) : (s.setInput n r).syns = s.syns := rfl
@[simp] theorem State.setInput_outs (n : Nat) (r : InputRec) : (s.setInput n r).outs = s.outs := rfl
@[simp] theorem State.setInput_arms (n : Nat) (r : InputRec) : (s.setInput n r).arms = s.arms := rfl
@[simp] theorem State.setInput_gens (n : Nat) (r : InputRec) : (s.setInput n r).gens = s.gens := rfl
@[simp] theorem State.setInput_faults (n : Nat) (r : InputRec) : (s.setInput n r).faults = s.faults := rfl
@[simp] theorem State.setInput_host (n : Nat) (r : InputRec) : (s.setInput n r).host = s.host := rfl
@[simp] theorem State.setInput_tm (n : Nat) (r : InputRec) : (s.setInput n r).tm = s.tm := rfl
@[simp] theorem State.setInput_store (n : Nat) (r : InputRec) : (s.setInput n r).store = s.store := rfl
@[simp] theorem State.setInput_boot (n : Nat) (r : InputRec) : (s.setInput n r).boot = s.boot := rfl
@[simp] theorem State.setInput_net (n : Nat) (r : InputRec) : (s.setInput n r).net = s.net := rfl
@[simp] theorem State.setInput_tics (n : Nat) (r : InputRec) : (s.setInput n r).tics = s.tics := rfl
@[simp] theorem State.setInput_repair (n : Nat) (r : InputRec) : (s.setInput n r).repair = s.repair := rfl
@[simp] theorem State.setInput_pmcs (n : Nat) (r : InputRec) : (s.setInput n r).pmcs = s.pmcs := rfl
@[simp] theorem State.setInput_mate (n : Nat) (r : InputRec) : (s.setInput n r).mate = s.mate := rfl
@[simp] theorem State.setInput_pending (n : Nat) (r : InputRec) : (s.setInput n r).pending = s.pending := rfl
@[simp] theorem State.setInput_freeCount (n : Nat) (r : InputRec) : (s.setInput n r).freeCount = s.freeCount := rfl
@[simp] theorem State.setInput_out (n : Nat) (r : InputRec) : (s.setInput n r).out = s.out := rfl

/-! ### `setSel` -/

@[simp] theorem State.setSel_counter (n : Nat) (r : SelRec) : (s.setSel n r).counter = s.counter := rfl
@[simp] theorem State.setSel_attrs (n : Nat) (r : SelRec) : (s.setSel n r).attrs = s.attrs := rfl
@[simp] theorem State.setSel_crucible (n : Nat) (r : SelRec) : (s.setSel n r).crucible = s.crucible := rfl
@[simp] theorem State.setSel_doms (n : Nat) (r : SelRec) : (s.setSel n r).doms = s.doms := rfl
@[simp] theorem State.setSel_inputs (n : Nat) (r : SelRec) : (s.setSel n r).inputs = s.inputs := rfl
@[simp] theorem State.setSel_uarts (n : Nat) (r : SelRec) : (s.setSel n r).uarts = s.uarts := rfl
@[simp] theorem State.setSel_factory (n : Nat) (r : SelRec) : (s.setSel n r).factory = s.factory := rfl
@[simp] theorem State.setSel_dplls (n : Nat) (r : SelRec) : (s.setSel n r).dplls = s.dplls := rfl
@[simp] theorem State.setSel_syns (n : Nat) (r : SelRec) : (s.setSel n r).syns = s.syns := rfl
@[simp] theorem State.setSel_outs (n : Nat) (r : SelRec) : (s.setSel n r).outs = s.outs := rfl
@[simp] theorem State.setSel_arms (n : Nat) (r : SelRec) : (s.setSel n r).arms = s.arms := rfl
@[simp] theorem State.setSel_gens (n : Nat) (r : SelRec) : (s.setSel n r).gens = s.gens := rfl
@[simp] theorem State.setSel_faults (n : Nat) (r : SelRec) : (s.setSel n r).faults = s.faults := rfl
@[simp] theorem State.setSel_host (n : Nat) (r : SelRec) : (s.setSel n r).host = s.host := rfl
@[simp] theorem State.setSel_tm (n : Nat) (r : SelRec) : (s.setSel n r).tm = s.tm := rfl
@[simp] theorem State.setSel_store (n : Nat) (r : SelRec) : (s.setSel n r).store = s.store := rfl
@[simp] theorem State.setSel_boot (n : Nat) (r : SelRec) : (s.setSel n r).boot = s.boot := rfl
@[simp] theorem State.setSel_net (n : Nat) (r : SelRec) : (s.setSel n r).net = s.net := rfl
@[simp] theorem State.setSel_tics (n : Nat) (r : SelRec) : (s.setSel n r).tics = s.tics := rfl
@[simp] theorem State.setSel_repair (n : Nat) (r : SelRec) : (s.setSel n r).repair = s.repair := rfl
@[simp] theorem State.setSel_pmcs (n : Nat) (r : SelRec) : (s.setSel n r).pmcs = s.pmcs := rfl
@[simp] theorem State.setSel_mate (n : Nat) (r : SelRec) : (s.setSel n r).mate = s.mate := rfl
@[simp] theorem State.setSel_pending (n : Nat) (r : SelRec) : (s.setSel n r).pending = s.pending := rfl
@[simp] theorem State.setSel_freeCount (n : Nat) (r : SelRec) : (s.setSel n r).freeCount = s.freeCount := rfl
@[simp] theorem State.setSel_out (n : Nat) (r : SelRec) : (s.setSel n r).out = s.out := rfl

/-! ### `setDpll` -/

@[simp] theorem State.setDpll_counter (n : Nat) (r : DpllRec) : (s.setDpll n r).counter = s.counter := rfl
@[simp] theorem State.setDpll_attrs (n : Nat) (r : DpllRec) : (s.setDpll n r).attrs = s.attrs := rfl
@[simp] theorem State.setDpll_crucible (n : Nat) (r : DpllRec) : (s.setDpll n r).crucible = s.crucible := rfl
@[simp] theorem State.setDpll_doms (n : Nat) (r : DpllRec) : (s.setDpll n r).doms = s.doms := rfl
@[simp] theorem State.setDpll_inputs (n : Nat) (r : DpllRec) : (s.setDpll n r).inputs = s.inputs := rfl
@[simp] theorem State.setDpll_uarts (n : Nat) (r : DpllRec) : (s.setDpll n r).uarts = s.uarts := rfl
@[simp] theorem State.setDpll_factory (n : Nat) (r : DpllRec) : (s.setDpll n r).factory = s.factory := rfl
@[simp] theorem State.setDpll_sels (n : Nat) (r : DpllRec) : (s.setDpll n r).sels = s.sels := rfl
@[simp] theorem State.setDpll_syns (n : Nat) (r : DpllRec) : (s.setDpll n r).syns = s.syns := rfl
@[simp] theorem State.setDpll_outs (n : Nat) (r : DpllRec) : (s.setDpll n r).outs = s.outs := rfl
@[simp] theorem State.setDpll_arms (n : Nat) (r : DpllRec) : (s.setDpll n r).arms = s.arms := rfl
@[simp] theorem State.setDpll_gens (n : Nat) (r : DpllRec) : (s.setDpll n r).gens = s.gens := rfl
@[simp] theorem State.setDpll_faults (n : Nat) (r : DpllRec) : (s.setDpll n r).faults = s.faults := rfl
@[simp] theorem State.setDpll_host (n : Nat) (r : DpllRec) : (s.setDpll n r).host = s.host := rfl
@[simp] theorem State.setDpll_tm (n : Nat) (r : DpllRec) : (s.setDpll n r).tm = s.tm := rfl
@[simp] theorem State.setDpll_store (n : Nat) (r : DpllRec) : (s.setDpll n r).store = s.store := rfl
@[simp] theorem State.setDpll_boot (n : Nat) (r : DpllRec) : (s.setDpll n r).boot = s.boot := rfl
@[simp] theorem State.setDpll_net (n : Nat) (r : DpllRec) : (s.setDpll n r).net = s.net := rfl
@[simp] theorem State.setDpll_tics (n : Nat) (r : DpllRec) : (s.setDpll n r).tics = s.tics := rfl
@[simp] theorem State.setDpll_repair (n : Nat) (r : DpllRec) : (s.setDpll n r).repair = s.repair := rfl
@[simp] theorem State.setDpll_pmcs (n : Nat) (r : DpllRec) : (s.setDpll n r).pmcs = s.pmcs := rfl
@[simp] theorem State.setDpll_mate (n : Nat) (r : DpllRec) : (s.setDpll n r).mate = s.mate := rfl
@[simp] theorem State.setDpll_pending (n : Nat) (r : DpllRec) : (s.setDpll n r).pending = s.pending := rfl
@[simp] theorem State.setDpll_freeCount (n : Nat) (r : DpllRec) : (s.setDpll n r).freeCount = s.freeCount := rfl
@[simp] theorem State.setDpll_out (n : Nat) (r : DpllRec) : (s.setDpll n r).out = s.out := rfl

/-! ### `setSyn` -/

@[simp] theorem State.setSyn_counter (n : Nat) (r : SynRec) : (s.setSyn n r).counter = s.counter := rfl
@[simp] theorem State.setSyn_attrs (n : Nat) (r : SynRec) : (s.setSyn n r).attrs = s.attrs := rfl
@[simp] theorem State.setSyn_crucible (n : Nat) (r : SynRec) : (s.setSyn n r).crucible = s.crucible := rfl
@[simp] theorem State.setSyn_doms (n : Nat) (r : SynRec) : (s.setSyn n r).doms = s.doms := rfl
@[simp] theorem State.setSyn_inputs (n : Nat) (r : SynRec) : (s.setSyn n r).inputs = s.inputs := rfl
@[simp] theorem State.setSyn_uarts (n : Nat) (r : SynRec) : (s.setSyn n r).uarts = s.uarts := rfl
@[simp] theorem State.setSyn_factory (n : Nat) (r : SynRec) : (s.setSyn n r).factory = s.factory := rfl
@[simp] theorem State.setSyn_sels (n : Nat) (r : SynRec) : (s.setSyn n r).sels = s.sels := rfl
@[simp] theorem State.setSyn_dplls (n : Nat) (r : SynRec) : (s.setSyn n r).dplls = s.dplls := rfl
@[simp] theorem State.setSyn_outs (n : Nat) (r : SynRec) : (s.setSyn n r).outs = s.outs := rfl
@[simp] theorem State.setSyn_arms (n : Nat) (r : SynRec) : (s.setSyn n r).arms = s.arms := rfl
@[simp] theorem State.setSyn_gens (n : Nat) (r : SynRec) : (s.setSyn n r).gens = s.gens := rfl
@[simp] theorem State.setSyn_faults (n : Nat) (r : SynRec) : (s.setSyn n r).faults = s.faults := rfl
@[simp] theorem State.setSyn_host (n : Nat) (r : SynRec) : (s.setSyn n r).host = s.host := rfl
@[simp] theorem State.setSyn_tm (n : Nat) (r : SynRec) : (s.setSyn n r).tm = s.tm := rfl
@[simp] theorem State.setSyn_store (n : Nat) (r : SynRec) : (s.setSyn n r).store = s.store := rfl
@[simp] theorem State.setSyn_boot (n : Nat) (r : SynRec) : (s.setSyn n r).boot = s.boot := rfl
@[simp] theorem State.setSyn_net (n : Nat) (r : SynRec) : (s.setSyn n r).net = s.net := rfl
@[simp] theorem State.setSyn_tics (n : Nat) (r : SynRec) : (s.setSyn n r).tics = s.tics := rfl
@[simp] theorem State.setSyn_repair (n : Nat) (r : SynRec) : (s.setSyn n r).repair = s.repair := rfl
@[simp] theorem State.setSyn_pmcs (n : Nat) (r : SynRec) : (s.setSyn n r).pmcs = s.pmcs := rfl
@[simp] theorem State.setSyn_mate (n : Nat) (r : SynRec) : (s.setSyn n r).mate = s.mate := rfl
@[simp] theorem State.setSyn_pending (n : Nat) (r : SynRec) : (s.setSyn n r).pending = s.pending := rfl
@[simp] theorem State.setSyn_freeCount (n : Nat) (r : SynRec) : (s.setSyn n r).freeCount = s.freeCount := rfl
@[simp] theorem State.setSyn_out (n : Nat) (r : SynRec) : (s.setSyn n r).out = s.out := rfl

/-! ### `setOutp` -/

@[simp] theorem State.setOutp_counter (n : Nat) (r : OutRec) : (s.setOutp n r).counter = s.counter := rfl
@[simp] theorem State.setOutp_attrs (n : Nat) (r : OutRec) : (s.setOutp n r).attrs = s.attrs := rfl
@[simp] theorem State.setOutp_crucible (n : Nat) (r : OutRec) : (s.setOutp n r).crucible = s.crucible := rfl
@[simp] theorem State.setOutp_doms (n : Nat) (r : OutRec) : (s.setOutp n r).doms = s.doms := rfl
@[simp] theorem State.setOutp_inputs (n : Nat) (r : OutRec) : (s.setOutp n r).inputs = s.inputs := rfl
@[simp] theorem State.setOutp_uarts (n : Nat) (r : OutRec) : (s.setOutp n r).uarts = s.uarts := rfl
@[simp] theorem State.setOutp_factory (n : Nat) (r : OutRec) : (s.setOutp n r).factory = s.factory := rfl
@[simp] theorem State.setOutp_sels (n : Nat) (r : OutRec) : (s.setOutp n r).sels = s.sels := rfl
@[simp] theorem State.setOutp_dplls (n : Nat) (r : OutRec) : (s.setOutp n r).dplls = s.dplls := rfl
@[simp] theorem State.setOutp_syns (n : Nat) (r : OutRec) : (s.setOutp n r).syns = s.syns := rfl
@[simp] theorem State.setOutp_arms (n : Nat) (r : OutRec) : (s.setOutp n r).arms = s.arms := rfl
@[simp] theorem State.setOutp_gens (n : Nat) (r : OutRec) : (s.setOutp n r).gens = s.gens := rfl
@[simp] theorem State.setOutp_faults (n : Nat) (r : OutRec) : (s.setOutp n r).faults = s.faults := rfl
@[simp] theorem State.setOutp_host (n : Nat) (r : OutRec) : (s.setOutp n r).host = s.host := rfl
@[simp] theorem State.setOutp_tm (n : Nat) (r : OutRec) : (s.setOutp n r).tm = s.tm := rfl
@[simp] theorem State.setOutp_store (n : Nat) (r : OutRec) : (s.setOutp n r).store = s.store := rfl
@[simp] theorem State.setOutp_boot (n : Nat) (r : OutRec) : (s.setOutp n r).boot = s.boot := rfl
@[simp] theorem State.setOutp_net (n : Nat) (r : OutRec) : (s.setOutp n r).net = s.net := rfl
@[simp] theorem State.setOutp_tics (n : Nat) (r : OutRec) : (s.setOutp n r).tics = s.tics := rfl
@[simp] theorem State.setOutp_repair (n : Nat) (r : OutRec) : (s.setOutp n r).repair = s.repair := rfl
@[simp] theorem State.setOutp_pmcs (n : Nat) (r : OutRec) : (s.setOutp n r).pmcs = s.pmcs := rfl
@[simp] theorem State.setOutp_mate (n : Nat) (r : OutRec) : (s.setOutp n r).mate = s.mate := rfl
@[simp] theorem State.setOutp_pending (n : Nat) (r : OutRec) : (s.setOutp n r).pending = s.pending := rfl
@[simp] theorem State.setOutp_freeCount (n : Nat) (r : OutRec) : (s.setOutp n r).freeCount = s.freeCount := rfl
@[simp] theorem State.setOutp_out (n : Nat) (r : OutRec) : (s.setOutp n r).out = s.out := rfl

/-! ### `setGen` -/

@[simp] theorem State.setGen_counter (g : Nat) (r : GenRec) : (s.setGen g r).counter = s.counter := rfl
@[simp] theorem State.setGen_attrs (g : Nat) (r : GenRec) : (s.setGen g r).attrs = s.attrs := rfl
@[simp] theorem State.setGen_crucible (g : Nat) (r : GenRec) : (s.setGen g r).crucible = s.crucible := rfl
@[simp] theorem State.setGen_doms (g : Nat) (r : GenRec) : (s.setGen g r).doms = s.doms := rfl
@[simp] theorem State.setGen_inputs (g : Nat) (r : GenRec) : (s.setGen g r).inputs = s.inputs := rfl
@[simp] theorem State.setGen_uarts (g : Nat) (r : GenRec) : (s.setGen g r).uarts = s.uarts := rfl
@[simp] theorem State.setGen_factory (g : Nat) (r : GenRec) : (s.setGen g r).factory = s.factory := rfl
@[simp] theorem State.setGen_sels (g : Nat) (r : GenRec) : (s.setGen g r).sels = s.sels := rfl
@[simp] theorem State.setGen_dplls (g : Nat) (r : GenRec) : (s.setGen g r).dplls = s.dplls := rfl
@[simp] theorem State.setGen_syns (g : Nat) (r : GenRec) : (s.setGen g r).syns = s.syns := rfl
@[simp] theorem State.setGen_outs (g : Nat) (r : GenRec) : (s.setGen g r).outs = s.outs := rfl
@[simp] theorem State.setGen_arms (g : Nat) (r : GenRec) : (s.setGen g r).arms = s.arms := rfl
@[simp] theorem State.setGen_faults (g : Nat) (r : GenRec) : (s.setGen g r).faults = s.faults := rfl
@[simp] theorem State.setGen_host (g : Nat) (r : GenRec) : (s.setGen g r).host = s.host := rfl
@[simp] theorem State.setGen_tm (g : Nat) (r : GenRec) : (s.setGen g r).tm = s.tm := rfl
@[simp] theorem State.setGen_store (g : Nat) (r : GenRec) : (s.setGen g r).store = s.store := rfl
@[simp] theorem State.setGen_boot (g : Nat) (r : GenRec) : (s.setGen g r).boot = s.boot := rfl
@[simp] theorem State.setGen_net (g : Nat) (r : GenRec) : (s.setGen g r).net = s.net := rfl
@[simp] theorem State.setGen_tics (g : Nat) (r : GenRec) : (s.setGen g r).tics = s.tics := rfl
@[simp] theorem State.setGen_repair (g : Nat) (r : GenRec) : (s.setGen g r).repair = s.repair := rfl
@[simp] theorem State.setGen_pmcs (g : Nat) (r : GenRec) : (s.setGen g r).pmcs = s.pmcs := rfl
@[simp] theorem State.setGen_mate (g : Nat) (r : GenRec) : (s.setGen g r).mate = s.mate := rfl
@[simp] theorem State.setGen_pending (g : Nat) (r : GenRec) : (s.setGen g r).pending = s.pending := rfl
@[simp] theorem State.setGen_freeCount (g : Nat) (r : GenRec) : (s.setGen g r).freeCount = s.freeCount := rfl
@[simp] theorem State.setGen_out (g : Nat) (r : GenRec) : (s.setGen g r).out = s.out := rfl

/-! ### `setRing` -/

@[simp] theorem State.setRing_counter (c : Nat) (r : Ring) : (s.setRing c r).counter = s.counter := rfl
@[simp] theorem State.setRing_attrs (c : Nat) (r : Ring) : (s.setRing c r).attrs = s.attrs := rfl
@[simp] theorem State.setRing_crucible (c : Nat) (r : Ring) : (s.setRing c r).crucible = s.crucible := rfl
@[simp] theorem State.setRing_doms (c : Nat) (r : Ring) : (s.setRing c r).doms = s.doms := rfl
@[simp] theorem State.setRing_inputs (c : Nat) (r : Ring) : (s.setRing c r).inputs = s.inputs := rfl
@[simp] theorem State.setRing_uarts (c : Nat) (r : Ring) : (s.setRing c r).uarts = s.uarts := rfl
@[simp] theorem State.setRing_factory (c : Nat) (r : Ring) : (s.setRing c r).factory = s.factory := rfl
@[simp] theorem State.setRing_sels (c : Nat) (r : Ring) : (s.setRing c r).sels = s.sels := rfl
@[simp] theorem State.setRing_dplls (c : Nat) (r : Ring) : (s.setRing c r).dplls = s.dplls := rfl
@[simp] theorem State.setRing_syns (c : Nat) (r : Ring) : (s.setRing c r).syns = s.syns := rfl
@[simp] theorem State.setRing_outs (c : Nat) (r : Ring) : (s.setRing c r).outs = s.outs := rfl
@[simp] theorem State.setRing_arms (c : Nat) (r : Ring) : (s.setRing c r).arms = s.arms := rfl
@[simp] theorem State.setRing_gens (c : Nat) (r : Ring) : (s.setRing c r).gens = s.gens := rfl
@[simp] theorem State.setRing_faults (c : Nat) (r : Ring) : (s.setRing c r).faults = s.faults := rfl
@[simp] theorem State.setRing_tm (c : Nat) (r : Ring) : (s.setRing c r).tm = s.tm := rfl
@[simp] theorem State.setRing_store (c : Nat) (r : Ring) : (s.setRing c r).store = s.store := rfl
@[simp] theorem State.setRing_boot (c : Nat) (r : Ring) : (s.setRing c r).boot = s.boot := rfl
@[simp] theorem State.setRing_net (c : Nat) (r : Ring) : (s.setRing c r).net = s.net := rfl
@[simp] theorem State.setRing_tics (c : Nat) (r : Ring) : (s.setRing c r).tics = s.tics := rfl
@[simp] theorem State.setRing_repair (c : Nat) (r : Ring) : (s.setRing c r).repair = s.repair := rfl
@[simp] theorem State.setRing_pmcs (c : Nat) (r : Ring) : (s.setRing c r).pmcs = s.pmcs := rfl
@[simp] theorem State.setRing_mate (c : Nat) (r : Ring) : (s.setRing c r).mate = s.mate := rfl
@[simp] theorem State.setRing_pending (c : Nat) (r : Ring) : (s.setRing c r).pending = s.pending := rfl
@[simp] theorem State.setRing_freeCount (c : Nat) (r : Ring) : (s.setRing c r).freeCount = s.freeCount := rfl
@[simp] theorem State.setRing_out (c : Nat) (r : Ring) : (s.setRing c r).out = s.out := rfl

/-! ### `setPort` -/

@[simp] theorem State.setPort_counter (p : Nat) (r : PortRec) : (s.setPort p r).counter = s.counter := rfl
@[simp] theorem State.setPort_attrs (p : Nat) (r : PortRec) : (s.setPort p r).attrs = s.attrs := rfl
@[simp] theorem State.setPort_crucible (p : Nat) (r : PortRec) : (s.setPort p r).crucible = s.crucible := rfl
@[simp] theorem State.setPort_doms (p : Nat) (r : PortRec) : (s.setPort p r).doms = s.doms := rfl
@[simp] theorem State.setPort_inputs (p : Nat) (r : PortRec) : (s.setPort p r).inputs = s.inputs := rfl
@[simp] theorem State.setPort_uarts (p : Nat) (r : PortRec) : (s.setPort p r).uarts = s.uarts := rfl
@[simp] theorem State.setPort_factory (p : Nat) (r : PortRec) : (s.setPort p r).factory = s.factory := rfl
@[simp] theorem State.setPort_sels (p : Nat) (r : PortRec) : (s.setPort p r).sels = s.sels := rfl
@[simp] theorem State.setPort_dplls (p : Nat) (r : PortRec) : (s.setPort p r).dplls = s.dplls := rfl
@[simp] theorem State.setPort_syns (p : Nat) (r : PortRec) : (s.setPort p r).syns = s.syns := rfl
@[simp] theorem State.setPort_outs (p : Nat) (r : PortRec) : (s.setPort p r).outs = s.outs := rfl
@[simp] theorem State.setPort_arms (p : Nat) (r : PortRec) : (s.setPort p r).arms = s.arms := rfl
@[simp] theorem State.setPort_gens (p : Nat) (r : PortRec) : (s.setPort p r).gens = s.gens := rfl
@[simp] theorem State.setPort_faults (p : Nat) (r : PortRec) : (s.setPort p r).faults = s.faults := rfl
@[simp] theorem State.setPort_host (p : Nat) (r : PortRec) : (s.setPort p r).host = s.host := rfl
@[simp] theorem State.setPort_tm (p : Nat) (r : PortRec) : (s.setPort p r).tm = s.tm := rfl
@[simp] theorem State.setPort_store (p : Nat) (r : PortRec) : (s.setPort p r).store = s.store := rfl
@[simp] theorem State.setPort_boot (p : Nat) (r : PortRec) : (s.setPort p r).boot = s.boot := rfl
@[simp] theorem State.setPort_tics (p : Nat) (r : PortRec) : (s.setPort p r).tics = s.tics := rfl
@[simp] theorem State.setPort_repair (p : Nat) (r : PortRec) : (s.setPort p r).repair = s.repair := rfl
@[simp] theorem State.setPort_pmcs (p : Nat) (r : PortRec) : (s.setPort p r).pmcs = s.pmcs := rfl
@[simp] theorem State.setPort_mate (p : Nat) (r : PortRec) : (s.setPort p r).mate = s.mate := rfl
@[simp] theorem State.setPort_pending (p : Nat) (r : PortRec) : (s.setPort p r).pending = s.pending := rfl
@[simp] theorem State.setPort_freeCount (p : Nat) (r : PortRec) : (s.setPort p r).freeCount = s.freeCount := rfl
@[simp] theorem State.setPort_out (p : Nat) (r : PortRec) : (s.setPort p r).out = s.out := rfl

/-! ### `setSess` -/

@[simp] theorem State.setSess_counter (n : Nat) (r : SessRec) : (s.setSess n r).counter = s.counter := rfl
@[simp] theorem State.setSess_attrs (n : Nat) (r : SessRec) : (s.setSess n r).attrs = s.attrs := rfl
@[simp] theorem State.setSess_crucible (n : Nat) (r : SessRec) : (s.setSess n r).crucible = s.crucible := rfl
@[simp] theorem State.setSess_doms (n : Nat) (r : SessRec) : (s.setSess n r).doms = s.doms := rfl
@[simp] theorem State.setSess_inputs (n : Nat) (r : SessRec) : (s.setSess n r).inputs = s.inputs := rfl
@[simp] theorem State.setSess_uarts (n : Nat) (r : SessRec) : (s.setSess n r).uarts = s.uarts := rfl
@[simp] theorem State.setSess_factory (n : Nat) (r : SessRec) : (s.setSess n r).factory = s.factory := rfl
@[simp] theorem State.setSess_sels (n : Nat) (r : SessRec) : (s.setSess n r).sels = s.sels := rfl
@[simp] theorem State.setSess_dplls (n : Nat) (r : SessRec) : (s.setSess n r).dplls = s.dplls := rfl
@[simp] theorem State.setSess_syns (n : Nat) (r : SessRec) : (s.setSess n r).syns = s.syns := rfl
@[simp] theorem State.setSess_outs (n : Nat) (r : SessRec) : (s.setSess n r).outs = s.outs := rfl
@[simp] theorem State.setSess_arms (n : Nat) (r : SessRec) : (s.setSess n r).arms = s.arms := rfl
@[simp] theorem State.setSess_gens (n : Nat) (r : SessRec) : (s.setSess n r).gens = s.gens := rfl
@[simp] theorem State.setSess_faults (n : Nat) (r : SessRec) : (s.setSess n r).faults = s.faults := rfl
@[simp] theorem State.setSess_host (n : Nat) (r : SessRec) : (s.setSess n r).host = s.host := rfl
@[simp] theorem State.setSess_tm (n : Nat) (r : SessRec) : (s.setSess n r).tm = s.tm := rfl
@[simp] theorem State.setSess_store (n : Nat) (r : SessRec) : (s.setSess n r).store = s.store := rfl
@[simp] theorem State.setSess_boot (n : Nat) (r : SessRec) : (s.setSess n r).boot = s.boot := rfl
@[simp] theorem State.setSess_tics (n : Nat) (r : SessRec) : (s.setSess n r).tics = s.tics := rfl
@[simp] theorem State.setSess_repair (n : Nat) (r : SessRec) : (s.setSess n r).repair = s.repair := rfl
@[simp] theorem State.setSess_pmcs (n : Nat) (r : SessRec) : (s.setSess n r).pmcs = s.pmcs := rfl
@[simp] theorem State.setSess_mate (n : Nat) (r : SessRec) : (s.setSess n r).mate = s.mate := rfl
@[simp] theorem State.setSess_pending (n : Nat) (r : SessRec) : (s.setSess n r).pending = s.pending := rfl
@[simp] theorem State.setSess_freeCount (n : Nat) (r : SessRec) : (s.setSess n r).freeCount = s.freeCount := rfl
@[simp] theorem State.setSess_out (n : Nat) (r : SessRec) : (s.setSess n r).out = s.out := rfl

/-! ### `setTic` -/

@[simp] theorem State.setTic_counter (n : Nat) (r : TicRec) : (s.setTic n r).counter = s.counter := rfl
@[simp] theorem State.setTic_attrs (n : Nat) (r : TicRec) : (s.setTic n r).attrs = s.attrs := rfl
@[simp] theorem State.setTic_crucible (n : Nat) (r : TicRec) : (s.setTic n r).crucible = s.crucible := rfl
@[simp] theorem State.setTic_doms (n : Nat) (r : TicRec) : (s.setTic n r).doms = s.doms := rfl
@[simp] theorem State.setTic_inputs (n : Nat) (r : TicRec) : (s.setTic n r).inputs = s.inputs := rfl
@[simp] theorem State.setTic_uarts (n : Nat) (r : TicRec) : (s.setTic n r).uarts = s.uarts := rfl
@[simp] theorem State.setTic_factory (n : Nat) (r : TicRec) : (s.setTic n r).factory = s.factory := rfl
@[simp] theorem State.setTic_sels (n : Nat) (r : TicRec) : (s.setTic n r).sels = s.sels := rfl
@[simp] theorem State.setTic_dplls (n : Nat) (r : TicRec) : (s.setTic n r).dplls = s.dplls := rfl
@[simp] theorem State.setTic_syns (n : Nat) (r : TicRec) : (s.setTic n r).syns = s.syns := rfl
@[simp] theorem State.setTic_outs (n : Nat) (r : TicRec) : (s.setTic n r).outs = s.outs := rfl
@[simp] theorem State.setTic_arms (n : Nat) (r : TicRec) : (s.setTic n r).arms = s.arms := rfl
@[simp] theorem State.setTic_gens (n : Nat) (r : TicRec) : (s.setTic n r).gens = s.gens := rfl
@[simp] theorem State.setTic_faults (n : Nat) (r : TicRec) : (s.setTic n r).faults = s.faults := rfl
@[simp] theorem State.setTic_host (n : Nat) (r : TicRec) : (s.setTic n r).host = s.host := rfl
@[simp] theorem State.setTic_tm (n : Nat) (r : TicRec) : (s.setTic n r).tm = s.tm := rfl
@[simp] theorem State.setTic_store (n : Nat) (r : TicRec) : (s.setTic n r).store = s.store := rfl
@[simp] theorem State.setTic_boot (n : Nat) (r : TicRec) : (s.setTic n r).boot = s.boot := rfl
@[simp] theorem State.setTic_net (n : Nat) (r : TicRec) : (s.setTic n r).net = s.net := rfl
@[simp] theorem State.setTic_repair (n : Nat) (r : TicRec) : (s.setTic n r).repair = s.repair := rfl
@[simp] theorem State.setTic_pmcs (n : Nat) (r : TicRec) : (s.setTic n r).pmcs = s.pmcs := rfl
@[simp] theorem State.setTic_mate (n : Nat) (r : TicRec) : (s.setTic n r).mate = s.mate := rfl
@[simp] theorem State.setTic_pending (n : Nat) (r : TicRec) : (s.setTic n r).pending = s.pending := rfl
@[simp] theorem State.setTic_freeCount (n : Nat) (r : TicRec) : (s.setTic n r).freeCount = s.freeCount := rfl
@[simp] theorem State.setTic_out (n : Nat) (r : TicRec) : (s.setTic n r).out = s.out := rfl

/-! ### `setCluster` -/

@[simp] theorem State.setCluster_counter (c : Nat) (r : ClusterRec) : (s.setCluster c r).counter = s.counter := rfl
@[simp] theorem State.setCluster_attrs (c : Nat) (r : ClusterRec) : (s.setCluster c r).attrs = s.attrs := rfl
@[simp] theorem State.setCluster_crucible (c : Nat) (r : ClusterRec) : (s.setCluster c r).crucible = s.crucible := rfl
@[simp] theorem State.setCluster_doms (c : Nat) (r : ClusterRec) : (s.setCluster c r).doms = s.doms := rfl
@[simp] theorem State.setCluster_inputs (c : Nat) (r : ClusterRec) : (s.setCluster c r).inputs = s.inputs := rfl
@[simp] theorem State.setCluster_uarts (c : Nat) (r : ClusterRec) : (s.setCluster c r).uarts = s.uarts := rfl
@[simp] theorem State.setCluster_factory (c : Nat) (r : ClusterRec) : (s.setCluster c r).factory = s.factory := rfl
@[simp] theorem State.setCluster_sels (c : Nat) (r : ClusterRec) : (s.setCluster c r).sels = s.sels := rfl
@[simp] theorem State.setCluster_dplls (c : Nat) (r : ClusterRec) : (s.setCluster c r).dplls = s.dplls := rfl
@[simp] theorem State.setCluster_syns (c : Nat) (r : ClusterRec) : (s.setCluster c r).syns = s.syns := rfl
@[simp] theorem State.setCluster_outs (c : Nat) (r : ClusterRec) : (s.setCluster c r).outs = s.outs := rfl
@[simp] theorem State.setCluster_arms (c : Nat) (r : ClusterRec) : (s.setCluster c r).arms = s.arms := rfl
@[simp] theorem State.setCluster_gens (c : Nat) (r : ClusterRec) : (s.setCluster c r).gens = s.gens := rfl
@[simp] theorem State.setCluster_faults (c : Nat) (r : ClusterRec) : (s.setCluster c r).faults = s.faults := rfl
@[simp] theorem State.setCluster_host (c : Nat) (r : ClusterRec) : (s.setCluster c r).host = s.host := rfl
@[simp] theorem State.setCluster_tm (c : Nat) (r : ClusterRec) : (s.setCluster c r).tm = s.tm := rfl
@[simp] theorem State.setCluster_store (c : Nat) (r : ClusterRec) : (s.setCluster c r).store = s.store := rfl
@[simp] theorem State.setCluster_boot (c : Nat) (r : ClusterRec) : (s.setCluster c r).boot = s.boot := rfl
@[simp] theorem State.setCluster_net (c : Nat) (r : ClusterRec) : (s.setCluster c r).net = s.net := rfl
@[simp] theorem State.setCluster_tics (c : Nat) (r : ClusterRec) : (s.setCluster c r).tics = s.tics := rfl
@[simp] theorem State.setCluster_pmcs (c : Nat) (r : ClusterRec) : (s.setCluster c r).pmcs = s.pmcs := rfl
@[simp] theorem State.setCluster_mate (c : Nat) (r : ClusterRec) : (s.setCluster c r).mate = s.mate := rfl
@[simp] theorem State.setCluster_pending (c : Nat) (r : ClusterRec) : (s.setCluster c r).pending = s.pending := rfl
@[simp] theorem State.setCluster_freeCount (c : Nat) (r : ClusterRec) : (s.setCluster c r).freeCount = s.freeCount := rfl
@[simp] theorem State.setCluster_out (c : Nat) (r : ClusterRec) : (s.setCluster c r).out = s.out := rfl

/-! ### `setChannel` -/

@[simp] theorem State.setChannel_counter (c : Nat) (r : ChannelRec) : (s.setChannel c r).counter = s.counter := rfl
@[simp] theorem State.setChannel_attrs (c : Nat) (r : ChannelRec) : (s.setChannel c r).attrs = s.attrs := rfl
@[simp] theorem State.setChannel_crucible (c : Nat) (r : ChannelRec) : (s.setChannel c r).crucible = s.crucible := rfl
@[simp] theorem State.setChannel_doms (c : Nat) (r : ChannelRec) : (s.setChannel c r).doms = s.doms := rfl
@[simp] theorem State.setChannel_inputs (c : Nat) (r : ChannelRec) : (s.setChannel c r).inputs = s.inputs := rfl
@[simp] theorem State.setChannel_uarts (c : Nat) (r : ChannelRec) : (s.setChannel c r).uarts = s.uarts := rfl
@[simp] theorem State.setChannel_factory (c : Nat) (r : ChannelRec) : (s.setChannel c r).factory = s.factory := rfl
@[simp] theorem State.setChannel_sels (c : Nat) (r : ChannelRec) : (s.setChannel c r).sels = s.sels := rfl
@[simp] theorem State.setChannel_dplls (c : Nat) (r : ChannelRec) : (s.setChannel c r).dplls = s.dplls := rfl
@[simp] theorem State.setChannel_syns (c : Nat) (r : ChannelRec) : (s.setChannel c r).syns = s.syns := rfl
@[simp] theorem State.setChannel_outs (c : Nat) (r : ChannelRec) : (s.setChannel c r).outs = s.outs := rfl
@[simp] theorem State.setChannel_arms (c : Nat) (r : ChannelRec) : (s.setChannel c r).arms = s.arms := rfl
@[simp] theorem State.setChannel_gens (c : Nat) (r : ChannelRec) : (s.setChannel c r).gens = s.gens := rfl
@[simp] theorem State.setChannel_faults (c : Nat) (r : ChannelRec) : (s.setChannel c r).faults = s.faults := rfl
@[simp] theorem State.setChannel_host (c : Nat) (r : ChannelRec) : (s.setChannel c r).host = s.host := rfl
@[simp] theorem State.setChannel_tm (c : Nat) (r : ChannelRec) : (s.setChannel c r).tm = s.tm := rfl
@[simp] theorem State.setChannel_store (c : Nat) (r : ChannelRec) : (s.setChannel c r).store = s.store := rfl
@[simp] theorem State.setChannel_boot (c : Nat) (r : ChannelRec) : (s.setChannel c r).boot = s.boot := rfl
@[simp] theorem State.setChannel_net (c : Nat) (r : ChannelRec) : (s.setChannel c r).net = s.net := rfl
@[simp] theorem State.setChannel_tics (c : Nat) (r : ChannelRec) : (s.setChannel c r).tics = s.tics := rfl
@[simp] theorem State.setChannel_pmcs (c : Nat) (r : ChannelRec) : (s.setChannel c r).pmcs = s.pmcs := rfl
@[simp] theorem State.setChannel_mate (c : Nat) (r : ChannelRec) : (s.setChannel c r).mate = s.mate := rfl
@[simp] theorem State.setChannel_pending (c : Nat) (r : ChannelRec) : (s.setChannel c r).pending = s.pending := rfl
@[simp] theorem State.setChannel_freeCount (c : Nat) (r : ChannelRec) : (s.setChannel c r).freeCount = s.freeCount := rfl
@[simp] theorem State.setChannel_out (c : Nat) (r : ChannelRec) : (s.setChannel c r).out = s.out := rfl

/-! ### `setPmc` -/

@[simp] theorem State.setPmc_counter (c : Nat) (r : PmcRec) : (s.setPmc c r).counter = s.counter := rfl
@[simp] theorem State.setPmc_attrs (c : Nat) (r : PmcRec) : (s.setPmc c r).attrs = s.attrs := rfl
@[simp] theorem State.setPmc_crucible (c : Nat) (r : PmcRec) : (s.setPmc c r).crucible = s.crucible := rfl
@[simp] theorem State.setPmc_doms (c : Nat) (r : PmcRec) : (s.setPmc c r).doms = s.doms := rfl
@[simp] theorem State.setPmc_inputs (c : Nat) (r : PmcRec) : (s.setPmc c r).inputs = s.inputs := rfl
@[simp] theorem State.setPmc_uarts (c : Nat) (r : PmcRec) : (s.setPmc c r).uarts = s.uarts := rfl
@[simp] theorem State.setPmc_factory (c : Nat) (r : PmcRec) : (s.setPmc c r).factory = s.factory := rfl
@[simp] theorem State.setPmc_sels (c : Nat) (r : PmcRec) : (s.setPmc c r).sels = s.sels := rfl
@[simp] theorem State.setPmc_dplls (c : Nat) (r : PmcRec) : (s.setPmc c r).dplls = s.dplls := rfl
@[simp] theorem State.setPmc_syns (c : Nat) (r : PmcRec) : (s.setPmc c r).syns = s.syns := rfl
@[simp] theorem State.setPmc_outs (c : Nat) (r : PmcRec) : (s.setPmc c r).outs = s.outs := rfl
@[simp] theorem State.setPmc_arms (c : Nat) (r : PmcRec) : (s.setPmc c r).arms = s.arms := rfl
@[simp] theorem State.setPmc_gens (c : Nat) (r : PmcRec) : (s.setPmc c r).gens = s.gens := rfl
@[simp] theorem State.setPmc_faults (c : Nat) (r : PmcRec) : (s.setPmc c r).faults = s.faults := rfl
@[simp] theorem State.setPmc_host (c : Nat) (r : PmcRec) : (s.setPmc c r).host = s.host := rfl
@[simp] theorem State.setPmc_tm (c : Nat) (r : PmcRec) : (s.setPmc c r).tm = s.tm := rfl
@[simp] theorem State.setPmc_store (c : Nat) (r : PmcRec) : (s.setPmc c r).store = s.store := rfl
@[simp] theorem State.setPmc_boot (c : Nat) (r : PmcRec) : (s.setPmc c r).boot = s.boot := rfl
@[simp] theorem State.setPmc_net (c : Nat) (r : PmcRec) : (s.setPmc c r).net = s.net := rfl
@[simp] theorem State.setPmc_tics (c : Nat) (r : PmcRec) : (s.setPmc c r).tics = s.tics := rfl
@[simp] theorem State.setPmc_repair (c : Nat) (r : PmcRec) : (s.setPmc c r).repair = s.repair := rfl
@[simp] theorem State.setPmc_mate (c : Nat) (r : PmcRec) : (s.setPmc c r).mate = s.mate := rfl
@[simp] theorem State.setPmc_pending (c : Nat) (r : PmcRec) : (s.setPmc c r).pending = s.pending := rfl
@[simp] theorem State.setPmc_freeCount (c : Nat) (r : PmcRec) : (s.setPmc c r).freeCount = s.freeCount := rfl
@[simp] theorem State.setPmc_out (c : Nat) (r : PmcRec) : (s.setPmc c r).out = s.out := rfl

/-! ### `setLatch` -/

@[simp] theorem State.setLatch_counter (ev : Nat) (l : Latch) : (s.setLatch ev l).counter = s.counter := rfl
@[simp] theorem State.setLatch_attrs (ev : Nat) (l : Latch) : (s.setLatch ev l).attrs = s.attrs := rfl
@[simp] theorem State.setLatch_crucible (ev : Nat) (l : Latch) : (s.setLatch ev l).crucible = s.crucible := rfl
@[simp] theorem State.setLatch_doms (ev : Nat) (l : Latch) : (s.setLatch ev l).doms = s.doms := rfl
@[simp] theorem State.setLatch_inputs (ev : Nat) (l : Latch) : (s.setLatch ev l).inputs = s.inputs := rfl
@[simp] theorem State.setLatch_uarts (ev : Nat) (l : Latch) : (s.setLatch ev l).uarts = s.uarts := rfl
@[simp] theorem State.setLatch_factory (ev : Nat) (l : Latch) : (s.setLatch ev l).factory = s.factory := rfl
@[simp] theorem State.setLatch_sels (ev : Nat) (l : Latch) : (s.setLatch ev l).sels = s.sels := rfl
@[simp] theorem State.setLatch_dplls (ev : Nat) (l : Latch) : (s.setLatch ev l).dplls = s.dplls := rfl
@[simp] theorem State.setLatch_syns (ev : Nat) (l : Latch) : (s.setLatch ev l).syns = s.syns := rfl
@[simp] theorem State.setLatch_outs (ev : Nat) (l : Latch) : (s.setLatch ev l).outs = s.outs := rfl
@[simp] theorem State.setLatch_arms (ev : Nat) (l : Latch) : (s.setLatch ev l).arms = s.arms := rfl
@[simp] theorem State.setLatch_gens (ev : Nat) (l : Latch) : (s.setLatch ev l).gens = s.gens := rfl
@[simp] theorem State.setLatch_host (ev : Nat) (l : Latch) : (s.setLatch ev l).host = s.host := rfl
@[simp] theorem State.setLatch_tm (ev : Nat) (l : Latch) : (s.setLatch ev l).tm = s.tm := rfl
@[simp] theorem State.setLatch_store (ev : Nat) (l : Latch) : (s.setLatch ev l).store = s.store := rfl
@[simp] theorem State.setLatch_boot (ev : Nat) (l : Latch) : (s.setLatch ev l).boot = s.boot := rfl
@[simp] theorem State.setLatch_net (ev : Nat) (l : Latch) : (s.setLatch ev l).net = s.net := rfl
@[simp] theorem State.setLatch_tics (ev : Nat) (l : Latch) : (s.setLatch ev l).tics = s.tics := rfl
@[simp] theorem State.setLatch_repair (ev : Nat) (l : Latch) : (s.setLatch ev l).repair = s.repair := rfl
@[simp] theorem State.setLatch_pmcs (ev : Nat) (l : Latch) : (s.setLatch ev l).pmcs = s.pmcs := rfl
@[simp] theorem State.setLatch_mate (ev : Nat) (l : Latch) : (s.setLatch ev l).mate = s.mate := rfl
@[simp] theorem State.setLatch_pending (ev : Nat) (l : Latch) : (s.setLatch ev l).pending = s.pending := rfl
@[simp] theorem State.setLatch_freeCount (ev : Nat) (l : Latch) : (s.setLatch ev l).freeCount = s.freeCount := rfl
@[simp] theorem State.setLatch_out (ev : Nat) (l : Latch) : (s.setLatch ev l).out = s.out := rfl

/-! ### `setPage` -/

@[simp] theorem State.setPage_counter (p : Nat) (r : PageRec) : (s.setPage p r).counter = s.counter := rfl
@[simp] theorem State.setPage_attrs (p : Nat) (r : PageRec) : (s.setPage p r).attrs = s.attrs := rfl
@[simp] theorem State.setPage_crucible (p : Nat) (r : PageRec) : (s.setPage p r).crucible = s.crucible := rfl
@[simp] theorem State.setPage_doms (p : Nat) (r : PageRec) : (s.setPage p r).doms = s.doms := rfl
@[simp] theorem State.setPage_inputs (p : Nat) (r : PageRec) : (s.setPage p r).inputs = s.inputs := rfl
@[simp] theorem State.setPage_uarts (p : Nat) (r : PageRec) : (s.setPage p r).uarts = s.uarts := rfl
@[simp] theorem State.setPage_factory (p : Nat) (r : PageRec) : (s.setPage p r).factory = s.factory := rfl
@[simp] theorem State.setPage_sels (p : Nat) (r : PageRec) : (s.setPage p r).sels = s.sels := rfl
@[simp] theorem State.setPage_dplls (p : Nat) (r : PageRec) : (s.setPage p r).dplls = s.dplls := rfl
@[simp] theorem State.setPage_syns (p : Nat) (r : PageRec) : (s.setPage p r).syns = s.syns := rfl
@[simp] theorem State.setPage_outs (p : Nat) (r : PageRec) : (s.setPage p r).outs = s.outs := rfl
@[simp] theorem State.setPage_arms (p : Nat) (r : PageRec) : (s.setPage p r).arms = s.arms := rfl
@[simp] theorem State.setPage_gens (p : Nat) (r : PageRec) : (s.setPage p r).gens = s.gens := rfl
@[simp] theorem State.setPage_faults (p : Nat) (r : PageRec) : (s.setPage p r).faults = s.faults := rfl
@[simp] theorem State.setPage_host (p : Nat) (r : PageRec) : (s.setPage p r).host = s.host := rfl
@[simp] theorem State.setPage_tm (p : Nat) (r : PageRec) : (s.setPage p r).tm = s.tm := rfl
@[simp] theorem State.setPage_boot (p : Nat) (r : PageRec) : (s.setPage p r).boot = s.boot := rfl
@[simp] theorem State.setPage_net (p : Nat) (r : PageRec) : (s.setPage p r).net = s.net := rfl
@[simp] theorem State.setPage_tics (p : Nat) (r : PageRec) : (s.setPage p r).tics = s.tics := rfl
@[simp] theorem State.setPage_repair (p : Nat) (r : PageRec) : (s.setPage p r).repair = s.repair := rfl
@[simp] theorem State.setPage_pmcs (p : Nat) (r : PageRec) : (s.setPage p r).pmcs = s.pmcs := rfl
@[simp] theorem State.setPage_mate (p : Nat) (r : PageRec) : (s.setPage p r).mate = s.mate := rfl
@[simp] theorem State.setPage_pending (p : Nat) (r : PageRec) : (s.setPage p r).pending = s.pending := rfl
@[simp] theorem State.setPage_freeCount (p : Nat) (r : PageRec) : (s.setPage p r).freeCount = s.freeCount := rfl
@[simp] theorem State.setPage_out (p : Nat) (r : PageRec) : (s.setPage p r).out = s.out := rfl

/-! ### `setFrame` -/

@[simp] theorem State.setFrame_counter (f : Nat) (r : FrameRec) : (s.setFrame f r).counter = s.counter := rfl
@[simp] theorem State.setFrame_attrs (f : Nat) (r : FrameRec) : (s.setFrame f r).attrs = s.attrs := rfl
@[simp] theorem State.setFrame_crucible (f : Nat) (r : FrameRec) : (s.setFrame f r).crucible = s.crucible := rfl
@[simp] theorem State.setFrame_doms (f : Nat) (r : FrameRec) : (s.setFrame f r).doms = s.doms := rfl
@[simp] theorem State.setFrame_inputs (f : Nat) (r : FrameRec) : (s.setFrame f r).inputs = s.inputs := rfl
@[simp] theorem State.setFrame_uarts (f : Nat) (r : FrameRec) : (s.setFrame f r).uarts = s.uarts := rfl
@[simp] theorem State.setFrame_factory (f : Nat) (r : FrameRec) : (s.setFrame f r).factory = s.factory := rfl
@[simp] theorem State.setFrame_sels (f : Nat) (r : FrameRec) : (s.setFrame f r).sels = s.sels := rfl
@[simp] theorem State.setFrame_dplls (f : Nat) (r : FrameRec) : (s.setFrame f r).dplls = s.dplls := rfl
@[simp] theorem State.setFrame_syns (f : Nat) (r : FrameRec) : (s.setFrame f r).syns = s.syns := rfl
@[simp] theorem State.setFrame_outs (f : Nat) (r : FrameRec) : (s.setFrame f r).outs = s.outs := rfl
@[simp] theorem State.setFrame_arms (f : Nat) (r : FrameRec) : (s.setFrame f r).arms = s.arms := rfl
@[simp] theorem State.setFrame_gens (f : Nat) (r : FrameRec) : (s.setFrame f r).gens = s.gens := rfl
@[simp] theorem State.setFrame_faults (f : Nat) (r : FrameRec) : (s.setFrame f r).faults = s.faults := rfl
@[simp] theorem State.setFrame_host (f : Nat) (r : FrameRec) : (s.setFrame f r).host = s.host := rfl
@[simp] theorem State.setFrame_store (f : Nat) (r : FrameRec) : (s.setFrame f r).store = s.store := rfl
@[simp] theorem State.setFrame_boot (f : Nat) (r : FrameRec) : (s.setFrame f r).boot = s.boot := rfl
@[simp] theorem State.setFrame_net (f : Nat) (r : FrameRec) : (s.setFrame f r).net = s.net := rfl
@[simp] theorem State.setFrame_tics (f : Nat) (r : FrameRec) : (s.setFrame f r).tics = s.tics := rfl
@[simp] theorem State.setFrame_repair (f : Nat) (r : FrameRec) : (s.setFrame f r).repair = s.repair := rfl
@[simp] theorem State.setFrame_pmcs (f : Nat) (r : FrameRec) : (s.setFrame f r).pmcs = s.pmcs := rfl
@[simp] theorem State.setFrame_mate (f : Nat) (r : FrameRec) : (s.setFrame f r).mate = s.mate := rfl
@[simp] theorem State.setFrame_pending (f : Nat) (r : FrameRec) : (s.setFrame f r).pending = s.pending := rfl
@[simp] theorem State.setFrame_freeCount (f : Nat) (r : FrameRec) : (s.setFrame f r).freeCount = s.freeCount := rfl
@[simp] theorem State.setFrame_out (f : Nat) (r : FrameRec) : (s.setFrame f r).out = s.out := rfl

/-! ### `setMate` -/

@[simp] theorem State.setMate_counter (m : MateUnit) : (s.setMate m).counter = s.counter := rfl
@[simp] theorem State.setMate_attrs (m : MateUnit) : (s.setMate m).attrs = s.attrs := rfl
@[simp] theorem State.setMate_crucible (m : MateUnit) : (s.setMate m).crucible = s.crucible := rfl
@[simp] theorem State.setMate_doms (m : MateUnit) : (s.setMate m).doms = s.doms := rfl
@[simp] theorem State.setMate_inputs (m : MateUnit) : (s.setMate m).inputs = s.inputs := rfl
@[simp] theorem State.setMate_uarts (m : MateUnit) : (s.setMate m).uarts = s.uarts := rfl
@[simp] theorem State.setMate_factory (m : MateUnit) : (s.setMate m).factory = s.factory := rfl
@[simp] theorem State.setMate_sels (m : MateUnit) : (s.setMate m).sels = s.sels := rfl
@[simp] theorem State.setMate_dplls (m : MateUnit) : (s.setMate m).dplls = s.dplls := rfl
@[simp] theorem State.setMate_syns (m : MateUnit) : (s.setMate m).syns = s.syns := rfl
@[simp] theorem State.setMate_outs (m : MateUnit) : (s.setMate m).outs = s.outs := rfl
@[simp] theorem State.setMate_arms (m : MateUnit) : (s.setMate m).arms = s.arms := rfl
@[simp] theorem State.setMate_gens (m : MateUnit) : (s.setMate m).gens = s.gens := rfl
@[simp] theorem State.setMate_faults (m : MateUnit) : (s.setMate m).faults = s.faults := rfl
@[simp] theorem State.setMate_host (m : MateUnit) : (s.setMate m).host = s.host := rfl
@[simp] theorem State.setMate_tm (m : MateUnit) : (s.setMate m).tm = s.tm := rfl
@[simp] theorem State.setMate_store (m : MateUnit) : (s.setMate m).store = s.store := rfl
@[simp] theorem State.setMate_boot (m : MateUnit) : (s.setMate m).boot = s.boot := rfl
@[simp] theorem State.setMate_net (m : MateUnit) : (s.setMate m).net = s.net := rfl
@[simp] theorem State.setMate_tics (m : MateUnit) : (s.setMate m).tics = s.tics := rfl
@[simp] theorem State.setMate_repair (m : MateUnit) : (s.setMate m).repair = s.repair := rfl
@[simp] theorem State.setMate_pmcs (m : MateUnit) : (s.setMate m).pmcs = s.pmcs := rfl
@[simp] theorem State.setMate_pending (m : MateUnit) : (s.setMate m).pending = s.pending := rfl
@[simp] theorem State.setMate_freeCount (m : MateUnit) : (s.setMate m).freeCount = s.freeCount := rfl
@[simp] theorem State.setMate_out (m : MateUnit) : (s.setMate m).out = s.out := rfl

/-! ### `setBoot` -/

@[simp] theorem State.setBoot_counter (b : BootUnit) : (s.setBoot b).counter = s.counter := rfl
@[simp] theorem State.setBoot_attrs (b : BootUnit) : (s.setBoot b).attrs = s.attrs := rfl
@[simp] theorem State.setBoot_crucible (b : BootUnit) : (s.setBoot b).crucible = s.crucible := rfl
@[simp] theorem State.setBoot_doms (b : BootUnit) : (s.setBoot b).doms = s.doms := rfl
@[simp] theorem State.setBoot_inputs (b : BootUnit) : (s.setBoot b).inputs = s.inputs := rfl
@[simp] theorem State.setBoot_uarts (b : BootUnit) : (s.setBoot b).uarts = s.uarts := rfl
@[simp] theorem State.setBoot_factory (b : BootUnit) : (s.setBoot b).factory = s.factory := rfl
@[simp] theorem State.setBoot_sels (b : BootUnit) : (s.setBoot b).sels = s.sels := rfl
@[simp] theorem State.setBoot_dplls (b : BootUnit) : (s.setBoot b).dplls = s.dplls := rfl
@[simp] theorem State.setBoot_syns (b : BootUnit) : (s.setBoot b).syns = s.syns := rfl
@[simp] theorem State.setBoot_outs (b : BootUnit) : (s.setBoot b).outs = s.outs := rfl
@[simp] theorem State.setBoot_arms (b : BootUnit) : (s.setBoot b).arms = s.arms := rfl
@[simp] theorem State.setBoot_gens (b : BootUnit) : (s.setBoot b).gens = s.gens := rfl
@[simp] theorem State.setBoot_faults (b : BootUnit) : (s.setBoot b).faults = s.faults := rfl
@[simp] theorem State.setBoot_host (b : BootUnit) : (s.setBoot b).host = s.host := rfl
@[simp] theorem State.setBoot_tm (b : BootUnit) : (s.setBoot b).tm = s.tm := rfl
@[simp] theorem State.setBoot_store (b : BootUnit) : (s.setBoot b).store = s.store := rfl
@[simp] theorem State.setBoot_net (b : BootUnit) : (s.setBoot b).net = s.net := rfl
@[simp] theorem State.setBoot_tics (b : BootUnit) : (s.setBoot b).tics = s.tics := rfl
@[simp] theorem State.setBoot_repair (b : BootUnit) : (s.setBoot b).repair = s.repair := rfl
@[simp] theorem State.setBoot_pmcs (b : BootUnit) : (s.setBoot b).pmcs = s.pmcs := rfl
@[simp] theorem State.setBoot_mate (b : BootUnit) : (s.setBoot b).mate = s.mate := rfl
@[simp] theorem State.setBoot_pending (b : BootUnit) : (s.setBoot b).pending = s.pending := rfl
@[simp] theorem State.setBoot_freeCount (b : BootUnit) : (s.setBoot b).freeCount = s.freeCount := rfl
@[simp] theorem State.setBoot_out (b : BootUnit) : (s.setBoot b).out = s.out := rfl

/-! ### `setRunning` -/

@[simp] theorem State.setRunning_counter (l : List Txn) : (s.setRunning l).counter = s.counter := rfl
@[simp] theorem State.setRunning_attrs (l : List Txn) : (s.setRunning l).attrs = s.attrs := rfl
@[simp] theorem State.setRunning_crucible (l : List Txn) : (s.setRunning l).crucible = s.crucible := rfl
@[simp] theorem State.setRunning_doms (l : List Txn) : (s.setRunning l).doms = s.doms := rfl
@[simp] theorem State.setRunning_inputs (l : List Txn) : (s.setRunning l).inputs = s.inputs := rfl
@[simp] theorem State.setRunning_uarts (l : List Txn) : (s.setRunning l).uarts = s.uarts := rfl
@[simp] theorem State.setRunning_factory (l : List Txn) : (s.setRunning l).factory = s.factory := rfl
@[simp] theorem State.setRunning_sels (l : List Txn) : (s.setRunning l).sels = s.sels := rfl
@[simp] theorem State.setRunning_dplls (l : List Txn) : (s.setRunning l).dplls = s.dplls := rfl
@[simp] theorem State.setRunning_syns (l : List Txn) : (s.setRunning l).syns = s.syns := rfl
@[simp] theorem State.setRunning_outs (l : List Txn) : (s.setRunning l).outs = s.outs := rfl
@[simp] theorem State.setRunning_arms (l : List Txn) : (s.setRunning l).arms = s.arms := rfl
@[simp] theorem State.setRunning_gens (l : List Txn) : (s.setRunning l).gens = s.gens := rfl
@[simp] theorem State.setRunning_faults (l : List Txn) : (s.setRunning l).faults = s.faults := rfl
@[simp] theorem State.setRunning_host (l : List Txn) : (s.setRunning l).host = s.host := rfl
@[simp] theorem State.setRunning_tm (l : List Txn) : (s.setRunning l).tm = s.tm := rfl
@[simp] theorem State.setRunning_boot (l : List Txn) : (s.setRunning l).boot = s.boot := rfl
@[simp] theorem State.setRunning_net (l : List Txn) : (s.setRunning l).net = s.net := rfl
@[simp] theorem State.setRunning_tics (l : List Txn) : (s.setRunning l).tics = s.tics := rfl
@[simp] theorem State.setRunning_repair (l : List Txn) : (s.setRunning l).repair = s.repair := rfl
@[simp] theorem State.setRunning_pmcs (l : List Txn) : (s.setRunning l).pmcs = s.pmcs := rfl
@[simp] theorem State.setRunning_mate (l : List Txn) : (s.setRunning l).mate = s.mate := rfl
@[simp] theorem State.setRunning_pending (l : List Txn) : (s.setRunning l).pending = s.pending := rfl
@[simp] theorem State.setRunning_freeCount (l : List Txn) : (s.setRunning l).freeCount = s.freeCount := rfl
@[simp] theorem State.setRunning_out (l : List Txn) : (s.setRunning l).out = s.out := rfl

/-! ### `emit` -/

@[simp] theorem State.emit_counter (x : Emission) : (s.emit x).counter = s.counter := rfl
@[simp] theorem State.emit_attrs (x : Emission) : (s.emit x).attrs = s.attrs := rfl
@[simp] theorem State.emit_crucible (x : Emission) : (s.emit x).crucible = s.crucible := rfl
@[simp] theorem State.emit_doms (x : Emission) : (s.emit x).doms = s.doms := rfl
@[simp] theorem State.emit_inputs (x : Emission) : (s.emit x).inputs = s.inputs := rfl
@[simp] theorem State.emit_uarts (x : Emission) : (s.emit x).uarts = s.uarts := rfl
@[simp] theorem State.emit_factory (x : Emission) : (s.emit x).factory = s.factory := rfl
@[simp] theorem State.emit_sels (x : Emission) : (s.emit x).sels = s.sels := rfl
@[simp] theorem State.emit_dplls (x : Emission) : (s.emit x).dplls = s.dplls := rfl
@[simp] theorem State.emit_syns (x : Emission) : (s.emit x).syns = s.syns := rfl
@[simp] theorem State.emit_outs (x : Emission) : (s.emit x).outs = s.outs := rfl
@[simp] theorem State.emit_arms (x : Emission) : (s.emit x).arms = s.arms := rfl
@[simp] theorem State.emit_gens (x : Emission) : (s.emit x).gens = s.gens := rfl
@[simp] theorem State.emit_faults (x : Emission) : (s.emit x).faults = s.faults := rfl
@[simp] theorem State.emit_host (x : Emission) : (s.emit x).host = s.host := rfl
@[simp] theorem State.emit_tm (x : Emission) : (s.emit x).tm = s.tm := rfl
@[simp] theorem State.emit_store (x : Emission) : (s.emit x).store = s.store := rfl
@[simp] theorem State.emit_boot (x : Emission) : (s.emit x).boot = s.boot := rfl
@[simp] theorem State.emit_net (x : Emission) : (s.emit x).net = s.net := rfl
@[simp] theorem State.emit_tics (x : Emission) : (s.emit x).tics = s.tics := rfl
@[simp] theorem State.emit_repair (x : Emission) : (s.emit x).repair = s.repair := rfl
@[simp] theorem State.emit_pmcs (x : Emission) : (s.emit x).pmcs = s.pmcs := rfl
@[simp] theorem State.emit_mate (x : Emission) : (s.emit x).mate = s.mate := rfl
@[simp] theorem State.emit_pending (x : Emission) : (s.emit x).pending = s.pending := rfl
@[simp] theorem State.emit_freeCount (x : Emission) : (s.emit x).freeCount = s.freeCount := rfl

/-! ### `advance` -/

@[simp] theorem State.advance_attrs (t : Nat) : (s.advance t).attrs = s.attrs := rfl
@[simp] theorem State.advance_crucible (t : Nat) : (s.advance t).crucible = s.crucible := rfl
@[simp] theorem State.advance_doms (t : Nat) : (s.advance t).doms = s.doms := rfl
@[simp] theorem State.advance_inputs (t : Nat) : (s.advance t).inputs = s.inputs := rfl
@[simp] theorem State.advance_uarts (t : Nat) : (s.advance t).uarts = s.uarts := rfl
@[simp] theorem State.advance_factory (t : Nat) : (s.advance t).factory = s.factory := rfl
@[simp] theorem State.advance_sels (t : Nat) : (s.advance t).sels = s.sels := rfl
@[simp] theorem State.advance_dplls (t : Nat) : (s.advance t).dplls = s.dplls := rfl
@[simp] theorem State.advance_syns (t : Nat) : (s.advance t).syns = s.syns := rfl
@[simp] theorem State.advance_outs (t : Nat) : (s.advance t).outs = s.outs := rfl
@[simp] theorem State.advance_arms (t : Nat) : (s.advance t).arms = s.arms := rfl
@[simp] theorem State.advance_gens (t : Nat) : (s.advance t).gens = s.gens := rfl
@[simp] theorem State.advance_faults (t : Nat) : (s.advance t).faults = s.faults := rfl
@[simp] theorem State.advance_host (t : Nat) : (s.advance t).host = s.host := rfl
@[simp] theorem State.advance_tm (t : Nat) : (s.advance t).tm = s.tm := rfl
@[simp] theorem State.advance_store (t : Nat) : (s.advance t).store = s.store := rfl
@[simp] theorem State.advance_boot (t : Nat) : (s.advance t).boot = s.boot := rfl
@[simp] theorem State.advance_net (t : Nat) : (s.advance t).net = s.net := rfl
@[simp] theorem State.advance_tics (t : Nat) : (s.advance t).tics = s.tics := rfl
@[simp] theorem State.advance_repair (t : Nat) : (s.advance t).repair = s.repair := rfl
@[simp] theorem State.advance_pmcs (t : Nat) : (s.advance t).pmcs = s.pmcs := rfl
@[simp] theorem State.advance_mate (t : Nat) : (s.advance t).mate = s.mate := rfl
@[simp] theorem State.advance_pending (t : Nat) : (s.advance t).pending = s.pending := rfl
@[simp] theorem State.advance_freeCount (t : Nat) : (s.advance t).freeCount = s.freeCount := rfl
@[simp] theorem State.advance_out (t : Nat) : (s.advance t).out = s.out := rfl

/-! ### `setUart` -/

@[simp] theorem State.setUart_counter (n : Nat) (r : Uart) : (s.setUart n r).counter = s.counter := rfl
@[simp] theorem State.setUart_attrs (n : Nat) (r : Uart) : (s.setUart n r).attrs = s.attrs := rfl
@[simp] theorem State.setUart_crucible (n : Nat) (r : Uart) : (s.setUart n r).crucible = s.crucible := rfl
@[simp] theorem State.setUart_doms (n : Nat) (r : Uart) : (s.setUart n r).doms = s.doms := rfl
@[simp] theorem State.setUart_inputs (n : Nat) (r : Uart) : (s.setUart n r).inputs = s.inputs := rfl
@[simp] theorem State.setUart_factory (n : Nat) (r : Uart) : (s.setUart n r).factory = s.factory := rfl
@[simp] theorem State.setUart_sels (n : Nat) (r : Uart) : (s.setUart n r).sels = s.sels := rfl
@[simp] theorem State.setUart_dplls (n : Nat) (r : Uart) : (s.setUart n r).dplls = s.dplls := rfl
@[simp] theorem State.setUart_syns (n : Nat) (r : Uart) : (s.setUart n r).syns = s.syns := rfl
@[simp] theorem State.setUart_outs (n : Nat) (r : Uart) : (s.setUart n r).outs = s.outs := rfl
@[simp] theorem State.setUart_arms (n : Nat) (r : Uart) : (s.setUart n r).arms = s.arms := rfl
@[simp] theorem State.setUart_gens (n : Nat) (r : Uart) : (s.setUart n r).gens = s.gens := rfl
@[simp] theorem State.setUart_faults (n : Nat) (r : Uart) : (s.setUart n r).faults = s.faults := rfl
@[simp] theorem State.setUart_host (n : Nat) (r : Uart) : (s.setUart n r).host = s.host := rfl
@[simp] theorem State.setUart_tm (n : Nat) (r : Uart) : (s.setUart n r).tm = s.tm := rfl
@[simp] theorem State.setUart_store (n : Nat) (r : Uart) : (s.setUart n r).store = s.store := rfl
@[simp] theorem State.setUart_boot (n : Nat) (r : Uart) : (s.setUart n r).boot = s.boot := rfl
@[simp] theorem State.setUart_net (n : Nat) (r : Uart) : (s.setUart n r).net = s.net := rfl
@[simp] theorem State.setUart_tics (n : Nat) (r : Uart) : (s.setUart n r).tics = s.tics := rfl
@[simp] theorem State.setUart_repair (n : Nat) (r : Uart) : (s.setUart n r).repair = s.repair := rfl
@[simp] theorem State.setUart_pmcs (n : Nat) (r : Uart) : (s.setUart n r).pmcs = s.pmcs := rfl
@[simp] theorem State.setUart_mate (n : Nat) (r : Uart) : (s.setUart n r).mate = s.mate := rfl
@[simp] theorem State.setUart_pending (n : Nat) (r : Uart) : (s.setUart n r).pending = s.pending := rfl
@[simp] theorem State.setUart_freeCount (n : Nat) (r : Uart) : (s.setUart n r).freeCount = s.freeCount := rfl
@[simp] theorem State.setUart_out (n : Nat) (r : Uart) : (s.setUart n r).out = s.out := rfl

/-! ### `spend` -/

@[simp] theorem State.spend_counter : (s.spend).counter = s.counter := rfl
@[simp] theorem State.spend_attrs : (s.spend).attrs = s.attrs := rfl
@[simp] theorem State.spend_crucible : (s.spend).crucible = s.crucible := rfl
@[simp] theorem State.spend_doms : (s.spend).doms = s.doms := rfl
@[simp] theorem State.spend_inputs : (s.spend).inputs = s.inputs := rfl
@[simp] theorem State.spend_uarts : (s.spend).uarts = s.uarts := rfl
@[simp] theorem State.spend_factory : (s.spend).factory = s.factory := rfl
@[simp] theorem State.spend_sels : (s.spend).sels = s.sels := rfl
@[simp] theorem State.spend_dplls : (s.spend).dplls = s.dplls := rfl
@[simp] theorem State.spend_syns : (s.spend).syns = s.syns := rfl
@[simp] theorem State.spend_outs : (s.spend).outs = s.outs := rfl
@[simp] theorem State.spend_arms : (s.spend).arms = s.arms := rfl
@[simp] theorem State.spend_gens : (s.spend).gens = s.gens := rfl
@[simp] theorem State.spend_faults : (s.spend).faults = s.faults := rfl
@[simp] theorem State.spend_host : (s.spend).host = s.host := rfl
@[simp] theorem State.spend_tm : (s.spend).tm = s.tm := rfl
@[simp] theorem State.spend_store : (s.spend).store = s.store := rfl
@[simp] theorem State.spend_boot : (s.spend).boot = s.boot := rfl
@[simp] theorem State.spend_net : (s.spend).net = s.net := rfl
@[simp] theorem State.spend_tics : (s.spend).tics = s.tics := rfl
@[simp] theorem State.spend_repair : (s.spend).repair = s.repair := rfl
@[simp] theorem State.spend_pmcs : (s.spend).pmcs = s.pmcs := rfl
@[simp] theorem State.spend_mate : (s.spend).mate = s.mate := rfl
@[simp] theorem State.spend_pending : (s.spend).pending = s.pending := rfl
@[simp] theorem State.spend_out : (s.spend).out = s.out := rfl

/-! ### `put`, `put1`, `add`, `bump`: every part but the attribute file and the shadow store -/

@[simp] theorem State.put_counter (a : AttrDesc) (i e : Nat) (v : Int) : (s.put a i e v).counter = s.counter := by
  unfold State.put; split <;> rfl
@[simp] theorem State.put1_counter (a : AttrDesc) (i : Nat) (v : Int) : (s.put1 a i v).counter = s.counter := by simp [State.put1]
@[simp] theorem State.add_counter (a : AttrDesc) (i e n : Nat) : (s.add a i e n).counter = s.counter := by simp [State.add]
@[simp] theorem State.bump_counter (a : AttrDesc) (i : Nat) : (s.bump a i).counter = s.counter := by simp [State.bump]
@[simp] theorem State.put_crucible (a : AttrDesc) (i e : Nat) (v : Int) : (s.put a i e v).crucible = s.crucible := by
  unfold State.put; split <;> rfl
@[simp] theorem State.put1_crucible (a : AttrDesc) (i : Nat) (v : Int) : (s.put1 a i v).crucible = s.crucible := by simp [State.put1]
@[simp] theorem State.add_crucible (a : AttrDesc) (i e n : Nat) : (s.add a i e n).crucible = s.crucible := by simp [State.add]
@[simp] theorem State.bump_crucible (a : AttrDesc) (i : Nat) : (s.bump a i).crucible = s.crucible := by simp [State.bump]
@[simp] theorem State.put_doms (a : AttrDesc) (i e : Nat) (v : Int) : (s.put a i e v).doms = s.doms := by
  unfold State.put; split <;> rfl
@[simp] theorem State.put1_doms (a : AttrDesc) (i : Nat) (v : Int) : (s.put1 a i v).doms = s.doms := by simp [State.put1]
@[simp] theorem State.add_doms (a : AttrDesc) (i e n : Nat) : (s.add a i e n).doms = s.doms := by simp [State.add]
@[simp] theorem State.bump_doms (a : AttrDesc) (i : Nat) : (s.bump a i).doms = s.doms := by simp [State.bump]
@[simp] theorem State.put_inputs (a : AttrDesc) (i e : Nat) (v : Int) : (s.put a i e v).inputs = s.inputs := by
  unfold State.put; split <;> rfl
@[simp] theorem State.put1_inputs (a : AttrDesc) (i : Nat) (v : Int) : (s.put1 a i v).inputs = s.inputs := by simp [State.put1]
@[simp] theorem State.add_inputs (a : AttrDesc) (i e n : Nat) : (s.add a i e n).inputs = s.inputs := by simp [State.add]
@[simp] theorem State.bump_inputs (a : AttrDesc) (i : Nat) : (s.bump a i).inputs = s.inputs := by simp [State.bump]
@[simp] theorem State.put_uarts (a : AttrDesc) (i e : Nat) (v : Int) : (s.put a i e v).uarts = s.uarts := by
  unfold State.put; split <;> rfl
@[simp] theorem State.put1_uarts (a : AttrDesc) (i : Nat) (v : Int) : (s.put1 a i v).uarts = s.uarts := by simp [State.put1]
@[simp] theorem State.add_uarts (a : AttrDesc) (i e n : Nat) : (s.add a i e n).uarts = s.uarts := by simp [State.add]
@[simp] theorem State.bump_uarts (a : AttrDesc) (i : Nat) : (s.bump a i).uarts = s.uarts := by simp [State.bump]
@[simp] theorem State.put_factory (a : AttrDesc) (i e : Nat) (v : Int) : (s.put a i e v).factory = s.factory := by
  unfold State.put; split <;> rfl
@[simp] theorem State.put1_factory (a : AttrDesc) (i : Nat) (v : Int) : (s.put1 a i v).factory = s.factory := by simp [State.put1]
@[simp] theorem State.add_factory (a : AttrDesc) (i e n : Nat) : (s.add a i e n).factory = s.factory := by simp [State.add]
@[simp] theorem State.bump_factory (a : AttrDesc) (i : Nat) : (s.bump a i).factory = s.factory := by simp [State.bump]
@[simp] theorem State.put_sels (a : AttrDesc) (i e : Nat) (v : Int) : (s.put a i e v).sels = s.sels := by
  unfold State.put; split <;> rfl
@[simp] theorem State.put1_sels (a : AttrDesc) (i : Nat) (v : Int) : (s.put1 a i v).sels = s.sels := by simp [State.put1]
@[simp] theorem State.add_sels (a : AttrDesc) (i e n : Nat) : (s.add a i e n).sels = s.sels := by simp [State.add]
@[simp] theorem State.bump_sels (a : AttrDesc) (i : Nat) : (s.bump a i).sels = s.sels := by simp [State.bump]
@[simp] theorem State.put_dplls (a : AttrDesc) (i e : Nat) (v : Int) : (s.put a i e v).dplls = s.dplls := by
  unfold State.put; split <;> rfl
@[simp] theorem State.put1_dplls (a : AttrDesc) (i : Nat) (v : Int) : (s.put1 a i v).dplls = s.dplls := by simp [State.put1]
@[simp] theorem State.add_dplls (a : AttrDesc) (i e n : Nat) : (s.add a i e n).dplls = s.dplls := by simp [State.add]
@[simp] theorem State.bump_dplls (a : AttrDesc) (i : Nat) : (s.bump a i).dplls = s.dplls := by simp [State.bump]
@[simp] theorem State.put_syns (a : AttrDesc) (i e : Nat) (v : Int) : (s.put a i e v).syns = s.syns := by
  unfold State.put; split <;> rfl
@[simp] theorem State.put1_syns (a : AttrDesc) (i : Nat) (v : Int) : (s.put1 a i v).syns = s.syns := by simp [State.put1]
@[simp] theorem State.add_syns (a : AttrDesc) (i e n : Nat) : (s.add a i e n).syns = s.syns := by simp [State.add]
@[simp] theorem State.bump_syns (a : AttrDesc) (i : Nat) : (s.bump a i).syns = s.syns := by simp [State.bump]
@[simp] theorem State.put_outs (a : AttrDesc) (i e : Nat) (v : Int) : (s.put a i e v).outs = s.outs := by
  unfold State.put; split <;> rfl
@[simp] theorem State.put1_outs (a : AttrDesc) (i : Nat) (v : Int) : (s.put1 a i v).outs = s.outs := by simp [State.put1]
@[simp] theorem State.add_outs (a : AttrDesc) (i e n : Nat) : (s.add a i e n).outs = s.outs := by simp [State.add]
@[simp] theorem State.bump_outs (a : AttrDesc) (i : Nat) : (s.bump a i).outs = s.outs := by simp [State.bump]
@[simp] theorem State.put_arms (a : AttrDesc) (i e : Nat) (v : Int) : (s.put a i e v).arms = s.arms := by
  unfold State.put; split <;> rfl
@[simp] theorem State.put1_arms (a : AttrDesc) (i : Nat) (v : Int) : (s.put1 a i v).arms = s.arms := by simp [State.put1]
@[simp] theorem State.add_arms (a : AttrDesc) (i e n : Nat) : (s.add a i e n).arms = s.arms := by simp [State.add]
@[simp] theorem State.bump_arms (a : AttrDesc) (i : Nat) : (s.bump a i).arms = s.arms := by simp [State.bump]
@[simp] theorem State.put_gens (a : AttrDesc) (i e : Nat) (v : Int) : (s.put a i e v).gens = s.gens := by
  unfold State.put; split <;> rfl
@[simp] theorem State.put1_gens (a : AttrDesc) (i : Nat) (v : Int) : (s.put1 a i v).gens = s.gens := by simp [State.put1]
@[simp] theorem State.add_gens (a : AttrDesc) (i e n : Nat) : (s.add a i e n).gens = s.gens := by simp [State.add]
@[simp] theorem State.bump_gens (a : AttrDesc) (i : Nat) : (s.bump a i).gens = s.gens := by simp [State.bump]
@[simp] theorem State.put_faults (a : AttrDesc) (i e : Nat) (v : Int) : (s.put a i e v).faults = s.faults := by
  unfold State.put; split <;> rfl
@[simp] theorem State.put1_faults (a : AttrDesc) (i : Nat) (v : Int) : (s.put1 a i v).faults = s.faults := by simp [State.put1]
@[simp] theorem State.add_faults (a : AttrDesc) (i e n : Nat) : (s.add a i e n).faults = s.faults := by simp [State.add]
@[simp] theorem State.bump_faults (a : AttrDesc) (i : Nat) : (s.bump a i).faults = s.faults := by simp [State.bump]
@[simp] theorem State.put_host (a : AttrDesc) (i e : Nat) (v : Int) : (s.put a i e v).host = s.host := by
  unfold State.put; split <;> rfl
@[simp] theorem State.put1_host (a : AttrDesc) (i : Nat) (v : Int) : (s.put1 a i v).host = s.host := by simp [State.put1]
@[simp] theorem State.add_host (a : AttrDesc) (i e n : Nat) : (s.add a i e n).host = s.host := by simp [State.add]
@[simp] theorem State.bump_host (a : AttrDesc) (i : Nat) : (s.bump a i).host = s.host := by simp [State.bump]
@[simp] theorem State.put_tm (a : AttrDesc) (i e : Nat) (v : Int) : (s.put a i e v).tm = s.tm := by
  unfold State.put; split <;> rfl
@[simp] theorem State.put1_tm (a : AttrDesc) (i : Nat) (v : Int) : (s.put1 a i v).tm = s.tm := by simp [State.put1]
@[simp] theorem State.add_tm (a : AttrDesc) (i e n : Nat) : (s.add a i e n).tm = s.tm := by simp [State.add]
@[simp] theorem State.bump_tm (a : AttrDesc) (i : Nat) : (s.bump a i).tm = s.tm := by simp [State.bump]
@[simp] theorem State.put_boot (a : AttrDesc) (i e : Nat) (v : Int) : (s.put a i e v).boot = s.boot := by
  unfold State.put; split <;> rfl
@[simp] theorem State.put1_boot (a : AttrDesc) (i : Nat) (v : Int) : (s.put1 a i v).boot = s.boot := by simp [State.put1]
@[simp] theorem State.add_boot (a : AttrDesc) (i e n : Nat) : (s.add a i e n).boot = s.boot := by simp [State.add]
@[simp] theorem State.bump_boot (a : AttrDesc) (i : Nat) : (s.bump a i).boot = s.boot := by simp [State.bump]
@[simp] theorem State.put_net (a : AttrDesc) (i e : Nat) (v : Int) : (s.put a i e v).net = s.net := by
  unfold State.put; split <;> rfl
@[simp] theorem State.put1_net (a : AttrDesc) (i : Nat) (v : Int) : (s.put1 a i v).net = s.net := by simp [State.put1]
@[simp] theorem State.add_net (a : AttrDesc) (i e n : Nat) : (s.add a i e n).net = s.net := by simp [State.add]
@[simp] theorem State.bump_net (a : AttrDesc) (i : Nat) : (s.bump a i).net = s.net := by simp [State.bump]
@[simp] theorem State.put_tics (a : AttrDesc) (i e : Nat) (v : Int) : (s.put a i e v).tics = s.tics := by
  unfold State.put; split <;> rfl
@[simp] theorem State.put1_tics (a : AttrDesc) (i : Nat) (v : Int) : (s.put1 a i v).tics = s.tics := by simp [State.put1]
@[simp] theorem State.add_tics (a : AttrDesc) (i e n : Nat) : (s.add a i e n).tics = s.tics := by simp [State.add]
@[simp] theorem State.bump_tics (a : AttrDesc) (i : Nat) : (s.bump a i).tics = s.tics := by simp [State.bump]
@[simp] theorem State.put_repair (a : AttrDesc) (i e : Nat) (v : Int) : (s.put a i e v).repair = s.repair := by
  unfold State.put; split <;> rfl
@[simp] theorem State.put1_repair (a : AttrDesc) (i : Nat) (v : Int) : (s.put1 a i v).repair = s.repair := by simp [State.put1]
@[simp] theorem State.add_repair (a : AttrDesc) (i e n : Nat) : (s.add a i e n).repair = s.repair := by simp [State.add]
@[simp] theorem State.bump_repair (a : AttrDesc) (i : Nat) : (s.bump a i).repair = s.repair := by simp [State.bump]
@[simp] theorem State.put_pmcs (a : AttrDesc) (i e : Nat) (v : Int) : (s.put a i e v).pmcs = s.pmcs := by
  unfold State.put; split <;> rfl
@[simp] theorem State.put1_pmcs (a : AttrDesc) (i : Nat) (v : Int) : (s.put1 a i v).pmcs = s.pmcs := by simp [State.put1]
@[simp] theorem State.add_pmcs (a : AttrDesc) (i e n : Nat) : (s.add a i e n).pmcs = s.pmcs := by simp [State.add]
@[simp] theorem State.bump_pmcs (a : AttrDesc) (i : Nat) : (s.bump a i).pmcs = s.pmcs := by simp [State.bump]
@[simp] theorem State.put_mate (a : AttrDesc) (i e : Nat) (v : Int) : (s.put a i e v).mate = s.mate := by
  unfold State.put; split <;> rfl
@[simp] theorem State.put1_mate (a : AttrDesc) (i : Nat) (v : Int) : (s.put1 a i v).mate = s.mate := by simp [State.put1]
@[simp] theorem State.add_mate (a : AttrDesc) (i e n : Nat) : (s.add a i e n).mate = s.mate := by simp [State.add]
@[simp] theorem State.bump_mate (a : AttrDesc) (i : Nat) : (s.bump a i).mate = s.mate := by simp [State.bump]
@[simp] theorem State.put_pending (a : AttrDesc) (i e : Nat) (v : Int) : (s.put a i e v).pending = s.pending := by
  unfold State.put; split <;> rfl
@[simp] theorem State.put1_pending (a : AttrDesc) (i : Nat) (v : Int) : (s.put1 a i v).pending = s.pending := by simp [State.put1]
@[simp] theorem State.add_pending (a : AttrDesc) (i e n : Nat) : (s.add a i e n).pending = s.pending := by simp [State.add]
@[simp] theorem State.bump_pending (a : AttrDesc) (i : Nat) : (s.bump a i).pending = s.pending := by simp [State.bump]
@[simp] theorem State.put_freeCount (a : AttrDesc) (i e : Nat) (v : Int) : (s.put a i e v).freeCount = s.freeCount := by
  unfold State.put; split <;> rfl
@[simp] theorem State.put1_freeCount (a : AttrDesc) (i : Nat) (v : Int) : (s.put1 a i v).freeCount = s.freeCount := by simp [State.put1]
@[simp] theorem State.add_freeCount (a : AttrDesc) (i e n : Nat) : (s.add a i e n).freeCount = s.freeCount := by simp [State.add]
@[simp] theorem State.bump_freeCount (a : AttrDesc) (i : Nat) : (s.bump a i).freeCount = s.freeCount := by simp [State.bump]
@[simp] theorem State.put_out (a : AttrDesc) (i e : Nat) (v : Int) : (s.put a i e v).out = s.out := by
  unfold State.put; split <;> rfl
@[simp] theorem State.put1_out (a : AttrDesc) (i : Nat) (v : Int) : (s.put1 a i v).out = s.out := by simp [State.put1]
@[simp] theorem State.add_out (a : AttrDesc) (i e n : Nat) : (s.add a i e n).out = s.out := by simp [State.add]
@[simp] theorem State.bump_out (a : AttrDesc) (i : Nat) : (s.bump a i).out = s.out := by simp [State.bump]

/-! ### What a record reads after it was set -/

@[simp] theorem State.dom_setDom (n : Nat) (r : DomRec) : (s.setDom n r).dom n = r := by simp [State.dom, State.setDom]
theorem State.dom_setDom_other {n m : Nat} (r : DomRec) (h : m ≠ n) : (s.setDom n r).dom m = s.dom m := by
  simp [State.dom, State.setDom, tblGet_set_other _ _ _ _ h]
@[simp] theorem State.input_setInput (n : Nat) (r : InputRec) : (s.setInput n r).input n = r := by simp [State.input, State.setInput]
theorem State.input_setInput_other {n m : Nat} (r : InputRec) (h : m ≠ n) : (s.setInput n r).input m = s.input m := by
  simp [State.input, State.setInput, tblGet_set_other _ _ _ _ h]
@[simp] theorem State.sel_setSel (n : Nat) (r : SelRec) : (s.setSel n r).sel n = r := by simp [State.sel, State.setSel]
theorem State.sel_setSel_other {n m : Nat} (r : SelRec) (h : m ≠ n) : (s.setSel n r).sel m = s.sel m := by
  simp [State.sel, State.setSel, tblGet_set_other _ _ _ _ h]
@[simp] theorem State.dpll_setDpll (n : Nat) (r : DpllRec) : (s.setDpll n r).dpll n = r := by simp [State.dpll, State.setDpll]
theorem State.dpll_setDpll_other {n m : Nat} (r : DpllRec) (h : m ≠ n) : (s.setDpll n r).dpll m = s.dpll m := by
  simp [State.dpll, State.setDpll, tblGet_set_other _ _ _ _ h]
@[simp] theorem State.syn_setSyn (n : Nat) (r : SynRec) : (s.setSyn n r).syn n = r := by simp [State.syn, State.setSyn]
theorem State.syn_setSyn_other {n m : Nat} (r : SynRec) (h : m ≠ n) : (s.setSyn n r).syn m = s.syn m := by
  simp [State.syn, State.setSyn, tblGet_set_other _ _ _ _ h]
@[simp] theorem State.outp_setOutp (n : Nat) (r : OutRec) : (s.setOutp n r).outp n = r := by simp [State.outp, State.setOutp]
theorem State.outp_setOutp_other {n m : Nat} (r : OutRec) (h : m ≠ n) : (s.setOutp n r).outp m = s.outp m := by
  simp [State.outp, State.setOutp, tblGet_set_other _ _ _ _ h]
@[simp] theorem State.gen_setGen (n : Nat) (r : GenRec) : (s.setGen n r).gen n = r := by simp [State.gen, State.setGen]
theorem State.gen_setGen_other {n m : Nat} (r : GenRec) (h : m ≠ n) : (s.setGen n r).gen m = s.gen m := by
  simp [State.gen, State.setGen, tblGet_set_other _ _ _ _ h]
@[simp] theorem State.ring_setRing (n : Nat) (r : Ring) : (s.setRing n r).ring n = r := by simp [State.ring, State.setRing]
theorem State.ring_setRing_other {n m : Nat} (r : Ring) (h : m ≠ n) : (s.setRing n r).ring m = s.ring m := by
  simp [State.ring, State.setRing, tblGet_set_other _ _ _ _ h]
@[simp] theorem State.port_setPort (n : Nat) (r : PortRec) : (s.setPort n r).port n = r := by simp [State.port, State.setPort]
theorem State.port_setPort_other {n m : Nat} (r : PortRec) (h : m ≠ n) : (s.setPort n r).port m = s.port m := by
  simp [State.port, State.setPort, tblGet_set_other _ _ _ _ h]
@[simp] theorem State.sess_setSess (n : Nat) (r : SessRec) : (s.setSess n r).sess n = r := by simp [State.sess, State.setSess]
theorem State.sess_setSess_other {n m : Nat} (r : SessRec) (h : m ≠ n) : (s.setSess n r).sess m = s.sess m := by
  simp [State.sess, State.setSess, tblGet_set_other _ _ _ _ h]
@[simp] theorem State.tic_setTic (n : Nat) (r : TicRec) : (s.setTic n r).tic n = r := by simp [State.tic, State.setTic]
theorem State.tic_setTic_other {n m : Nat} (r : TicRec) (h : m ≠ n) : (s.setTic n r).tic m = s.tic m := by
  simp [State.tic, State.setTic, tblGet_set_other _ _ _ _ h]
@[simp] theorem State.pmc_setPmc (n : Nat) (r : PmcRec) : (s.setPmc n r).pmc n = r := by simp [State.pmc, State.setPmc]
theorem State.pmc_setPmc_other {n m : Nat} (r : PmcRec) (h : m ≠ n) : (s.setPmc n r).pmc m = s.pmc m := by
  simp [State.pmc, State.setPmc, tblGet_set_other _ _ _ _ h]
@[simp] theorem State.latch_setLatch (n : Nat) (r : Latch) : (s.setLatch n r).latch n = r := by simp [State.latch, State.setLatch]
theorem State.latch_setLatch_other {n m : Nat} (r : Latch) (h : m ≠ n) : (s.setLatch n r).latch m = s.latch m := by
  simp [State.latch, State.setLatch, tblGet_set_other _ _ _ _ h]
@[simp] theorem State.page_setPage (n : Nat) (r : PageRec) : (s.setPage n r).page n = r := by simp [State.page, State.setPage]
theorem State.page_setPage_other {n m : Nat} (r : PageRec) (h : m ≠ n) : (s.setPage n r).page m = s.page m := by
  simp [State.page, State.setPage, tblGet_set_other _ _ _ _ h]
@[simp] theorem State.frame_setFrame (n : Nat) (r : FrameRec) : (s.setFrame n r).frame n = r := by simp [State.frame, State.setFrame]
theorem State.frame_setFrame_other {n m : Nat} (r : FrameRec) (h : m ≠ n) : (s.setFrame n r).frame m = s.frame m := by
  simp [State.frame, State.setFrame, tblGet_set_other _ _ _ _ h]
@[simp] theorem State.cluster_setCluster (n : Nat) (r : ClusterRec) : (s.setCluster n r).cluster n = r := by simp [State.cluster, State.setCluster]
theorem State.cluster_setCluster_other {n m : Nat} (r : ClusterRec) (h : m ≠ n) : (s.setCluster n r).cluster m = s.cluster m := by
  simp [State.cluster, State.setCluster, tblGet_set_other _ _ _ _ h]
@[simp] theorem State.channel_setChannel (n : Nat) (r : ChannelRec) : (s.setChannel n r).channel n = r := by simp [State.channel, State.setChannel]
theorem State.channel_setChannel_other {n m : Nat} (r : ChannelRec) (h : m ≠ n) : (s.setChannel n r).channel m = s.channel m := by
  simp [State.channel, State.setChannel, tblGet_set_other _ _ _ _ h]
@[simp] theorem State.uart_setUart (n : Nat) (r : Uart) : (s.setUart n r).uart n = r := by simp [State.uart, State.setUart]
theorem State.uart_setUart_other {n m : Nat} (r : Uart) (h : m ≠ n) : (s.setUart n r).uart m = s.uart m := by
  simp [State.uart, State.setUart, tblGet_set_other _ _ _ _ h]

end Sys2Proof.Machine
end

