-- ==== Sys2Proof/Laws/Ops.lean ====
section
/-! SUPPORT. What the shared operations do: attributes after a write, memory after a write, what an occurrence and a completion
leave alone, and how an action is served. -/

namespace Sys2Proof.Machine

variable (s : State)

/-! ### Attributes -/

@[simp] theorem State.attr_put_same (a : AttrDesc) (i e : Nat) (v : Int) : (s.put a i e v).attr a i e = v := by
  unfold State.put
  split
  · next h => exact h.symm
  · simp [State.attr]

theorem State.attr_put_other {a b : AttrDesc} {i e j f : Nat} (v : Int) (h : b.key j f ≠ a.key i e) :
    (s.put a i e v).attr b j f = s.attr b j f := by
  unfold State.put
  split
  · rfl
  · simp [State.attr, tblGet_set_other _ _ _ _ h]

theorem State.find_put_other {a : AttrDesc} {i e k : Nat} (v : Int) (h : k ≠ a.key i e) :
    tblFind (s.put a i e v).attrs k = tblFind s.attrs k := by
  unfold State.put
  split
  · rfl
  · simp [tblFind_set_other _ _ _ h]

@[simp] theorem State.attr_put1_same (a : AttrDesc) (i : Nat) (v : Int) : (s.put1 a i v).attr a i 0 = v := by simp [State.put1]

/-- The key of an attribute names its ID, where the instance and the element are in range. -/
theorem keyId_key {a : AttrDesc} {i e : Nat} (hi : i < 65536) (he : e < 65536) : keyId (a.key i e) = a.id := by
  unfold keyId AttrDesc.key
  split <;> omega

/-- Two attributes with different IDs have different keys. -/
theorem key_ne_of_id {a b : AttrDesc} {i e j f : Nat} (h : a.id ≠ b.id) (hi : i < 65536) (he : e < 65536) (hj : j < 65536) (hf : f < 65536) :
    a.key i e ≠ b.key j f := by
  intro hk
  have := congrArg keyId hk
  rw [keyId_key hi he, keyId_key hj hf] at this
  exact h this

/-! ### Running an operation over a list -/

theorem State.forEach_induct {P : State → Prop} (f : State → Nat → State) (h : ∀ s n, P s → P (f s n)) (l : List Nat) :
    ∀ s : State, P s → P (s.forEach l f) := by
  induction l with
  | nil => intro s hs; exact hs
  | cons n ns ih => intro s hs; exact ih _ (h s n hs)

/-- What every call leaves alone, the run leaves alone. -/
theorem State.forEach_keeps {β : Type} (p : State → β) (f : State → Nat → State) (h : ∀ s n, p (f s n) = p s) (l : List Nat) :
    ∀ s : State, p (s.forEach l f) = p s := by
  induction l with
  | nil => intro s; rfl
  | cons n ns ih => intro s; exact (ih _).trans (h s n)

theorem State.putList_keeps {β : Type} (p : State → β) (h : ∀ (s : State) a i e v, p (s.put a i e v) = p s) (a : AttrDesc) (i : Nat)
    (vs : List Int) : ∀ (s : State) (e : Nat), p (s.putList a i e vs) = p s := by
  induction vs with
  | nil => intro s e; rfl
  | cons v vs ih => intro s e; exact (ih _ _).trans (h s a i e v)

/-! ### Table memory -/

/-- Writing bytes keeps the canonical form of table memory. -/
theorem Memory.wf_write (m : TableMem) (a : Nat) (bs : List Byte) (h : Memory.wf m = true) : Memory.wf (m.write a bs) = true :=
  tblCanonical_setRun 0 bs m.bytes a h

theorem Memory.wf_reset : Memory.wf State.reset.tm = true := by decide

/-- A byte of table memory outside the run that was written. -/
theorem TableMem.byte_write_other (m : TableMem) (a x : Nat) (bs : List Byte) (h : x < a ∨ a + bs.length ≤ x) :
    (m.write a bs).byte x = m.byte x := tblGet_setRun_other 0 bs m.bytes a x h

/-- A byte of the run that was written. -/
theorem TableMem.byte_write_same (m : TableMem) (a k : Nat) (bs : List Byte) (h : k < bs.length) :
    (m.write a bs).byte (a + k) = bs[k] := tblGet_setRun_same 0 bs m.bytes a k h

/-! ### What `submit` leaves alone -/

@[simp] theorem State.submit_counter (l c : Nat) : (s.submit l c).counter = s.counter := by unfold State.submit; split <;> rfl
@[simp] theorem State.submit_attrs (l c : Nat) : (s.submit l c).attrs = s.attrs := by unfold State.submit; split <;> rfl
@[simp] theorem State.submit_crucible (l c : Nat) : (s.submit l c).crucible = s.crucible := by unfold State.submit; split <;> rfl
@[simp] theorem State.submit_doms (l c : Nat) : (s.submit l c).doms = s.doms := by unfold State.submit; split <;> rfl
@[simp] theorem State.submit_inputs (l c : Nat) : (s.submit l c).inputs = s.inputs := by unfold State.submit; split <;> rfl
@[simp] theorem State.submit_uarts (l c : Nat) : (s.submit l c).uarts = s.uarts := by unfold State.submit; split <;> rfl
@[simp] theorem State.submit_factory (l c : Nat) : (s.submit l c).factory = s.factory := by unfold State.submit; split <;> rfl
@[simp] theorem State.submit_sels (l c : Nat) : (s.submit l c).sels = s.sels := by unfold State.submit; split <;> rfl
@[simp] theorem State.submit_dplls (l c : Nat) : (s.submit l c).dplls = s.dplls := by unfold State.submit; split <;> rfl
@[simp] theorem State.submit_syns (l c : Nat) : (s.submit l c).syns = s.syns := by unfold State.submit; split <;> rfl
@[simp] theorem State.submit_outs (l c : Nat) : (s.submit l c).outs = s.outs := by unfold State.submit; split <;> rfl
@[simp] theorem State.submit_arms (l c : Nat) : (s.submit l c).arms = s.arms := by unfold State.submit; split <;> rfl
@[simp] theorem State.submit_gens (l c : Nat) : (s.submit l c).gens = s.gens := by unfold State.submit; split <;> rfl
@[simp] theorem State.submit_faults (l c : Nat) : (s.submit l c).faults = s.faults := by unfold State.submit; split <;> rfl
@[simp] theorem State.submit_host (l c : Nat) : (s.submit l c).host = s.host := by unfold State.submit; split <;> rfl
@[simp] theorem State.submit_store (l c : Nat) : (s.submit l c).store = s.store := by unfold State.submit; split <;> rfl
@[simp] theorem State.submit_boot (l c : Nat) : (s.submit l c).boot = s.boot := by unfold State.submit; split <;> rfl
@[simp] theorem State.submit_net (l c : Nat) : (s.submit l c).net = s.net := by unfold State.submit; split <;> rfl
@[simp] theorem State.submit_tics (l c : Nat) : (s.submit l c).tics = s.tics := by unfold State.submit; split <;> rfl
@[simp] theorem State.submit_repair (l c : Nat) : (s.submit l c).repair = s.repair := by unfold State.submit; split <;> rfl
@[simp] theorem State.submit_pmcs (l c : Nat) : (s.submit l c).pmcs = s.pmcs := by unfold State.submit; split <;> rfl
@[simp] theorem State.submit_mate (l c : Nat) : (s.submit l c).mate = s.mate := by unfold State.submit; split <;> rfl
@[simp] theorem State.submit_pending (l c : Nat) : (s.submit l c).pending = s.pending := by unfold State.submit; split <;> rfl
@[simp] theorem State.submit_freeCount (l c : Nat) : (s.submit l c).freeCount = s.freeCount := by unfold State.submit; split <;> rfl
@[simp] theorem State.submit_out (l c : Nat) : (s.submit l c).out = s.out := by unfold State.submit; split <;> rfl

/-! ### What `markOnce` leaves alone -/

@[simp] theorem State.markOnce_counter (ev : Nat) : (s.markOnce ev).counter = s.counter := rfl
@[simp] theorem State.markOnce_attrs (ev : Nat) : (s.markOnce ev).attrs = s.attrs := rfl
@[simp] theorem State.markOnce_crucible (ev : Nat) : (s.markOnce ev).crucible = s.crucible := rfl
@[simp] theorem State.markOnce_doms (ev : Nat) : (s.markOnce ev).doms = s.doms := rfl
@[simp] theorem State.markOnce_inputs (ev : Nat) : (s.markOnce ev).inputs = s.inputs := rfl
@[simp] theorem State.markOnce_uarts (ev : Nat) : (s.markOnce ev).uarts = s.uarts := rfl
@[simp] theorem State.markOnce_factory (ev : Nat) : (s.markOnce ev).factory = s.factory := rfl
@[simp] theorem State.markOnce_sels (ev : Nat) : (s.markOnce ev).sels = s.sels := rfl
@[simp] theorem State.markOnce_dplls (ev : Nat) : (s.markOnce ev).dplls = s.dplls := rfl
@[simp] theorem State.markOnce_syns (ev : Nat) : (s.markOnce ev).syns = s.syns := rfl
@[simp] theorem State.markOnce_outs (ev : Nat) : (s.markOnce ev).outs = s.outs := rfl
@[simp] theorem State.markOnce_arms (ev : Nat) : (s.markOnce ev).arms = s.arms := rfl
@[simp] theorem State.markOnce_gens (ev : Nat) : (s.markOnce ev).gens = s.gens := rfl
@[simp] theorem State.markOnce_host (ev : Nat) : (s.markOnce ev).host = s.host := rfl
@[simp] theorem State.markOnce_tm (ev : Nat) : (s.markOnce ev).tm = s.tm := rfl
@[simp] theorem State.markOnce_store (ev : Nat) : (s.markOnce ev).store = s.store := rfl
@[simp] theorem State.markOnce_boot (ev : Nat) : (s.markOnce ev).boot = s.boot := rfl
@[simp] theorem State.markOnce_net (ev : Nat) : (s.markOnce ev).net = s.net := rfl
@[simp] theorem State.markOnce_tics (ev : Nat) : (s.markOnce ev).tics = s.tics := rfl
@[simp] theorem State.markOnce_repair (ev : Nat) : (s.markOnce ev).repair = s.repair := rfl
@[simp] theorem State.markOnce_pmcs (ev : Nat) : (s.markOnce ev).pmcs = s.pmcs := rfl
@[simp] theorem State.markOnce_mate (ev : Nat) : (s.markOnce ev).mate = s.mate := rfl
@[simp] theorem State.markOnce_pending (ev : Nat) : (s.markOnce ev).pending = s.pending := rfl
@[simp] theorem State.markOnce_freeCount (ev : Nat) : (s.markOnce ev).freeCount = s.freeCount := rfl
@[simp] theorem State.markOnce_out (ev : Nat) : (s.markOnce ev).out = s.out := rfl

/-! ### What `occur` leaves alone -/

@[simp] theorem State.occur_counter (ev : Nat) (c : Bool) (d : Nat) (x : List ScopeItem) : (s.occur ev c d x).counter = s.counter := by unfold State.occur; split <;> rfl
@[simp] theorem State.occur_attrs (ev : Nat) (c : Bool) (d : Nat) (x : List ScopeItem) : (s.occur ev c d x).attrs = s.attrs := by unfold State.occur; split <;> rfl
@[simp] theorem State.occur_crucible (ev : Nat) (c : Bool) (d : Nat) (x : List ScopeItem) : (s.occur ev c d x).crucible = s.crucible := by unfold State.occur; split <;> rfl
@[simp] theorem State.occur_doms (ev : Nat) (c : Bool) (d : Nat) (x : List ScopeItem) : (s.occur ev c d x).doms = s.doms := by unfold State.occur; split <;> rfl
@[simp] theorem State.occur_inputs (ev : Nat) (c : Bool) (d : Nat) (x : List ScopeItem) : (s.occur ev c d x).inputs = s.inputs := by unfold State.occur; split <;> rfl
@[simp] theorem State.occur_uarts (ev : Nat) (c : Bool) (d : Nat) (x : List ScopeItem) : (s.occur ev c d x).uarts = s.uarts := by unfold State.occur; split <;> rfl
@[simp] theorem State.occur_factory (ev : Nat) (c : Bool) (d : Nat) (x : List ScopeItem) : (s.occur ev c d x).factory = s.factory := by unfold State.occur; split <;> rfl
@[simp] theorem State.occur_sels (ev : Nat) (c : Bool) (d : Nat) (x : List ScopeItem) : (s.occur ev c d x).sels = s.sels := by unfold State.occur; split <;> rfl
@[simp] theorem State.occur_dplls (ev : Nat) (c : Bool) (d : Nat) (x : List ScopeItem) : (s.occur ev c d x).dplls = s.dplls := by unfold State.occur; split <;> rfl
@[simp] theorem State.occur_syns (ev : Nat) (c : Bool) (d : Nat) (x : List ScopeItem) : (s.occur ev c d x).syns = s.syns := by unfold State.occur; split <;> rfl
@[simp] theorem State.occur_outs (ev : Nat) (c : Bool) (d : Nat) (x : List ScopeItem) : (s.occur ev c d x).outs = s.outs := by unfold State.occur; split <;> rfl
@[simp] theorem State.occur_arms (ev : Nat) (c : Bool) (d : Nat) (x : List ScopeItem) : (s.occur ev c d x).arms = s.arms := by unfold State.occur; split <;> rfl
@[simp] theorem State.occur_gens (ev : Nat) (c : Bool) (d : Nat) (x : List ScopeItem) : (s.occur ev c d x).gens = s.gens := by unfold State.occur; split <;> rfl
@[simp] theorem State.occur_host (ev : Nat) (c : Bool) (d : Nat) (x : List ScopeItem) : (s.occur ev c d x).host = s.host := by unfold State.occur; split <;> rfl
@[simp] theorem State.occur_tm (ev : Nat) (c : Bool) (d : Nat) (x : List ScopeItem) : (s.occur ev c d x).tm = s.tm := by unfold State.occur; split <;> rfl
@[simp] theorem State.occur_store (ev : Nat) (c : Bool) (d : Nat) (x : List ScopeItem) : (s.occur ev c d x).store = s.store := by unfold State.occur; split <;> rfl
@[simp] theorem State.occur_boot (ev : Nat) (c : Bool) (d : Nat) (x : List ScopeItem) : (s.occur ev c d x).boot = s.boot := by unfold State.occur; split <;> rfl
@[simp] theorem State.occur_net (ev : Nat) (c : Bool) (d : Nat) (x : List ScopeItem) : (s.occur ev c d x).net = s.net := by unfold State.occur; split <;> rfl
@[simp] theorem State.occur_tics (ev : Nat) (c : Bool) (d : Nat) (x : List ScopeItem) : (s.occur ev c d x).tics = s.tics := by unfold State.occur; split <;> rfl
@[simp] theorem State.occur_repair (ev : Nat) (c : Bool) (d : Nat) (x : List ScopeItem) : (s.occur ev c d x).repair = s.repair := by unfold State.occur; split <;> rfl
@[simp] theorem State.occur_pmcs (ev : Nat) (c : Bool) (d : Nat) (x : List ScopeItem) : (s.occur ev c d x).pmcs = s.pmcs := by unfold State.occur; split <;> rfl
@[simp] theorem State.occur_mate (ev : Nat) (c : Bool) (d : Nat) (x : List ScopeItem) : (s.occur ev c d x).mate = s.mate := by unfold State.occur; split <;> rfl
@[simp] theorem State.occur_pending (ev : Nat) (c : Bool) (d : Nat) (x : List ScopeItem) : (s.occur ev c d x).pending = s.pending := by unfold State.occur; split <;> rfl
@[simp] theorem State.occur_freeCount (ev : Nat) (c : Bool) (d : Nat) (x : List ScopeItem) : (s.occur ev c d x).freeCount = s.freeCount := by unfold State.occur; split <;> rfl
@[simp] theorem State.occur_out (ev : Nat) (c : Bool) (d : Nat) (x : List ScopeItem) : (s.occur ev c d x).out = s.out := by unfold State.occur; split <;> rfl

/-! ### What `occurOnce` leaves alone -/

@[simp] theorem State.occurOnce_counter (ev d : Nat) : (s.occurOnce ev d).counter = s.counter := by unfold State.occurOnce; split <;> simp
@[simp] theorem State.occurOnce_attrs (ev d : Nat) : (s.occurOnce ev d).attrs = s.attrs := by unfold State.occurOnce; split <;> simp
@[simp] theorem State.occurOnce_crucible (ev d : Nat) : (s.occurOnce ev d).crucible = s.crucible := by unfold State.occurOnce; split <;> simp
@[simp] theorem State.occurOnce_doms (ev d : Nat) : (s.occurOnce ev d).doms = s.doms := by unfold State.occurOnce; split <;> simp
@[simp] theorem State.occurOnce_inputs (ev d : Nat) : (s.occurOnce ev d).inputs = s.inputs := by unfold State.occurOnce; split <;> simp
@[simp] theorem State.occurOnce_uarts (ev d : Nat) : (s.occurOnce ev d).uarts = s.uarts := by unfold State.occurOnce; split <;> simp
@[simp] theorem State.occurOnce_factory (ev d : Nat) : (s.occurOnce ev d).factory = s.factory := by unfold State.occurOnce; split <;> simp
@[simp] theorem State.occurOnce_sels (ev d : Nat) : (s.occurOnce ev d).sels = s.sels := by unfold State.occurOnce; split <;> simp
@[simp] theorem State.occurOnce_dplls (ev d : Nat) : (s.occurOnce ev d).dplls = s.dplls := by unfold State.occurOnce; split <;> simp
@[simp] theorem State.occurOnce_syns (ev d : Nat) : (s.occurOnce ev d).syns = s.syns := by unfold State.occurOnce; split <;> simp
@[simp] theorem State.occurOnce_outs (ev d : Nat) : (s.occurOnce ev d).outs = s.outs := by unfold State.occurOnce; split <;> simp
@[simp] theorem State.occurOnce_arms (ev d : Nat) : (s.occurOnce ev d).arms = s.arms := by unfold State.occurOnce; split <;> simp
@[simp] theorem State.occurOnce_gens (ev d : Nat) : (s.occurOnce ev d).gens = s.gens := by unfold State.occurOnce; split <;> simp
@[simp] theorem State.occurOnce_host (ev d : Nat) : (s.occurOnce ev d).host = s.host := by unfold State.occurOnce; split <;> simp
@[simp] theorem State.occurOnce_tm (ev d : Nat) : (s.occurOnce ev d).tm = s.tm := by unfold State.occurOnce; split <;> simp
@[simp] theorem State.occurOnce_store (ev d : Nat) : (s.occurOnce ev d).store = s.store := by unfold State.occurOnce; split <;> simp
@[simp] theorem State.occurOnce_boot (ev d : Nat) : (s.occurOnce ev d).boot = s.boot := by unfold State.occurOnce; split <;> simp
@[simp] theorem State.occurOnce_net (ev d : Nat) : (s.occurOnce ev d).net = s.net := by unfold State.occurOnce; split <;> simp
@[simp] theorem State.occurOnce_tics (ev d : Nat) : (s.occurOnce ev d).tics = s.tics := by unfold State.occurOnce; split <;> simp
@[simp] theorem State.occurOnce_repair (ev d : Nat) : (s.occurOnce ev d).repair = s.repair := by unfold State.occurOnce; split <;> simp
@[simp] theorem State.occurOnce_pmcs (ev d : Nat) : (s.occurOnce ev d).pmcs = s.pmcs := by unfold State.occurOnce; split <;> simp
@[simp] theorem State.occurOnce_mate (ev d : Nat) : (s.occurOnce ev d).mate = s.mate := by unfold State.occurOnce; split <;> simp
@[simp] theorem State.occurOnce_pending (ev d : Nat) : (s.occurOnce ev d).pending = s.pending := by unfold State.occurOnce; split <;> simp
@[simp] theorem State.occurOnce_freeCount (ev d : Nat) : (s.occurOnce ev d).freeCount = s.freeCount := by unfold State.occurOnce; split <;> simp
@[simp] theorem State.occurOnce_out (ev d : Nat) : (s.occurOnce ev d).out = s.out := by unfold State.occurOnce; split <;> simp

/-! ### What `logRewritten` leaves alone -/

@[simp] theorem State.logRewritten_counter (f : Nat) (b : Bool) : (s.logRewritten f b).counter = s.counter := by unfold State.logRewritten; split <;> simp
@[simp] theorem State.logRewritten_crucible (f : Nat) (b : Bool) : (s.logRewritten f b).crucible = s.crucible := by unfold State.logRewritten; split <;> simp
@[simp] theorem State.logRewritten_doms (f : Nat) (b : Bool) : (s.logRewritten f b).doms = s.doms := by unfold State.logRewritten; split <;> simp
@[simp] theorem State.logRewritten_inputs (f : Nat) (b : Bool) : (s.logRewritten f b).inputs = s.inputs := by unfold State.logRewritten; split <;> simp
@[simp] theorem State.logRewritten_uarts (f : Nat) (b : Bool) : (s.logRewritten f b).uarts = s.uarts := by unfold State.logRewritten; split <;> simp
@[simp] theorem State.logRewritten_factory (f : Nat) (b : Bool) : (s.logRewritten f b).factory = s.factory := by unfold State.logRewritten; split <;> simp
@[simp] theorem State.logRewritten_sels (f : Nat) (b : Bool) : (s.logRewritten f b).sels = s.sels := by unfold State.logRewritten; split <;> simp
@[simp] theorem State.logRewritten_dplls (f : Nat) (b : Bool) : (s.logRewritten f b).dplls = s.dplls := by unfold State.logRewritten; split <;> simp
@[simp] theorem State.logRewritten_syns (f : Nat) (b : Bool) : (s.logRewritten f b).syns = s.syns := by unfold State.logRewritten; split <;> simp
@[simp] theorem State.logRewritten_outs (f : Nat) (b : Bool) : (s.logRewritten f b).outs = s.outs := by unfold State.logRewritten; split <;> simp
@[simp] theorem State.logRewritten_arms (f : Nat) (b : Bool) : (s.logRewritten f b).arms = s.arms := by unfold State.logRewritten; split <;> simp
@[simp] theorem State.logRewritten_gens (f : Nat) (b : Bool) : (s.logRewritten f b).gens = s.gens := by unfold State.logRewritten; split <;> simp
@[simp] theorem State.logRewritten_faults (f : Nat) (b : Bool) : (s.logRewritten f b).faults = s.faults := by unfold State.logRewritten; split <;> simp
@[simp] theorem State.logRewritten_host (f : Nat) (b : Bool) : (s.logRewritten f b).host = s.host := by unfold State.logRewritten; split <;> simp
@[simp] theorem State.logRewritten_tm (f : Nat) (b : Bool) : (s.logRewritten f b).tm = s.tm := by unfold State.logRewritten; split <;> simp
@[simp] theorem State.logRewritten_boot (f : Nat) (b : Bool) : (s.logRewritten f b).boot = s.boot := by unfold State.logRewritten; split <;> simp
@[simp] theorem State.logRewritten_net (f : Nat) (b : Bool) : (s.logRewritten f b).net = s.net := by unfold State.logRewritten; split <;> simp
@[simp] theorem State.logRewritten_tics (f : Nat) (b : Bool) : (s.logRewritten f b).tics = s.tics := by unfold State.logRewritten; split <;> simp
@[simp] theorem State.logRewritten_repair (f : Nat) (b : Bool) : (s.logRewritten f b).repair = s.repair := by unfold State.logRewritten; split <;> simp
@[simp] theorem State.logRewritten_pmcs (f : Nat) (b : Bool) : (s.logRewritten f b).pmcs = s.pmcs := by unfold State.logRewritten; split <;> simp
@[simp] theorem State.logRewritten_mate (f : Nat) (b : Bool) : (s.logRewritten f b).mate = s.mate := by unfold State.logRewritten; split <;> simp
@[simp] theorem State.logRewritten_pending (f : Nat) (b : Bool) : (s.logRewritten f b).pending = s.pending := by unfold State.logRewritten; split <;> simp
@[simp] theorem State.logRewritten_freeCount (f : Nat) (b : Bool) : (s.logRewritten f b).freeCount = s.freeCount := by unfold State.logRewritten; split <;> simp
@[simp] theorem State.logRewritten_out (f : Nat) (b : Bool) : (s.logRewritten f b).out = s.out := by unfold State.logRewritten; split <;> simp

/-! ### What `findCheck` leaves alone -/

@[simp] theorem State.findCheck_counter (l : Nat) : (s.findCheck l).counter = s.counter := by
  unfold State.findCheck; simp only; repeat (first | rfl | split | simp)
@[simp] theorem State.findCheck_crucible (l : Nat) : (s.findCheck l).crucible = s.crucible := by
  unfold State.findCheck; simp only; repeat (first | rfl | split | simp)
@[simp] theorem State.findCheck_doms (l : Nat) : (s.findCheck l).doms = s.doms := by
  unfold State.findCheck; simp only; repeat (first | rfl | split | simp)
@[simp] theorem State.findCheck_inputs (l : Nat) : (s.findCheck l).inputs = s.inputs := by
  unfold State.findCheck; simp only; repeat (first | rfl | split | simp)
@[simp] theorem State.findCheck_uarts (l : Nat) : (s.findCheck l).uarts = s.uarts := by
  unfold State.findCheck; simp only; repeat (first | rfl | split | simp)
@[simp] theorem State.findCheck_factory (l : Nat) : (s.findCheck l).factory = s.factory := by
  unfold State.findCheck; simp only; repeat (first | rfl | split | simp)
@[simp] theorem State.findCheck_sels (l : Nat) : (s.findCheck l).sels = s.sels := by
  unfold State.findCheck; simp only; repeat (first | rfl | split | simp)
@[simp] theorem State.findCheck_dplls (l : Nat) : (s.findCheck l).dplls = s.dplls := by
  unfold State.findCheck; simp only; repeat (first | rfl | split | simp)
@[simp] theorem State.findCheck_syns (l : Nat) : (s.findCheck l).syns = s.syns := by
  unfold State.findCheck; simp only; repeat (first | rfl | split | simp)
@[simp] theorem State.findCheck_outs (l : Nat) : (s.findCheck l).outs = s.outs := by
  unfold State.findCheck; simp only; repeat (first | rfl | split | simp)
@[simp] theorem State.findCheck_arms (l : Nat) : (s.findCheck l).arms = s.arms := by
  unfold State.findCheck; simp only; repeat (first | rfl | split | simp)
@[simp] theorem State.findCheck_gens (l : Nat) : (s.findCheck l).gens = s.gens := by
  unfold State.findCheck; simp only; repeat (first | rfl | split | simp)
@[simp] theorem State.findCheck_host (l : Nat) : (s.findCheck l).host = s.host := by
  unfold State.findCheck; simp only; repeat (first | rfl | split | simp)
@[simp] theorem State.findCheck_boot (l : Nat) : (s.findCheck l).boot = s.boot := by
  unfold State.findCheck; simp only; repeat (first | rfl | split | simp)
@[simp] theorem State.findCheck_net (l : Nat) : (s.findCheck l).net = s.net := by
  unfold State.findCheck; simp only; repeat (first | rfl | split | simp)
@[simp] theorem State.findCheck_tics (l : Nat) : (s.findCheck l).tics = s.tics := by
  unfold State.findCheck; simp only; repeat (first | rfl | split | simp)
@[simp] theorem State.findCheck_repair (l : Nat) : (s.findCheck l).repair = s.repair := by
  unfold State.findCheck; simp only; repeat (first | rfl | split | simp)
@[simp] theorem State.findCheck_pmcs (l : Nat) : (s.findCheck l).pmcs = s.pmcs := by
  unfold State.findCheck; simp only; repeat (first | rfl | split | simp)
@[simp] theorem State.findCheck_mate (l : Nat) : (s.findCheck l).mate = s.mate := by
  unfold State.findCheck; simp only; repeat (first | rfl | split | simp)
@[simp] theorem State.findCheck_pending (l : Nat) : (s.findCheck l).pending = s.pending := by
  unfold State.findCheck; simp only; repeat (first | rfl | split | simp)
@[simp] theorem State.findCheck_freeCount (l : Nat) : (s.findCheck l).freeCount = s.freeCount := by
  unfold State.findCheck; simp only; repeat (first | rfl | split | simp)
@[simp] theorem State.findCheck_out (l : Nat) : (s.findCheck l).out = s.out := by
  unfold State.findCheck; simp only; repeat (first | rfl | split | simp)

/-! ### What `tmWrite` leaves alone -/

@[simp] theorem State.tmWrite_counter (a : Nat) (bs : List Byte) : (s.tmWrite a bs).counter = s.counter := by
  unfold State.tmWrite; simp only; repeat (first | rfl | split | simp)
@[simp] theorem State.tmWrite_crucible (a : Nat) (bs : List Byte) : (s.tmWrite a bs).crucible = s.crucible := by
  unfold State.tmWrite; simp only; repeat (first | rfl | split | simp)
@[simp] theorem State.tmWrite_doms (a : Nat) (bs : List Byte) : (s.tmWrite a bs).doms = s.doms := by
  unfold State.tmWrite; simp only; repeat (first | rfl | split | simp)
@[simp] theorem State.tmWrite_inputs (a : Nat) (bs : List Byte) : (s.tmWrite a bs).inputs = s.inputs := by
  unfold State.tmWrite; simp only; repeat (first | rfl | split | simp)
@[simp] theorem State.tmWrite_uarts (a : Nat) (bs : List Byte) : (s.tmWrite a bs).uarts = s.uarts := by
  unfold State.tmWrite; simp only; repeat (first | rfl | split | simp)
@[simp] theorem State.tmWrite_factory (a : Nat) (bs : List Byte) : (s.tmWrite a bs).factory = s.factory := by
  unfold State.tmWrite; simp only; repeat (first | rfl | split | simp)
@[simp] theorem State.tmWrite_sels (a : Nat) (bs : List Byte) : (s.tmWrite a bs).sels = s.sels := by
  unfold State.tmWrite; simp only; repeat (first | rfl | split | simp)
@[simp] theorem State.tmWrite_dplls (a : Nat) (bs : List Byte) : (s.tmWrite a bs).dplls = s.dplls := by
  unfold State.tmWrite; simp only; repeat (first | rfl | split | simp)
@[simp] theorem State.tmWrite_syns (a : Nat) (bs : List Byte) : (s.tmWrite a bs).syns = s.syns := by
  unfold State.tmWrite; simp only; repeat (first | rfl | split | simp)
@[simp] theorem State.tmWrite_outs (a : Nat) (bs : List Byte) : (s.tmWrite a bs).outs = s.outs := by
  unfold State.tmWrite; simp only; repeat (first | rfl | split | simp)
@[simp] theorem State.tmWrite_arms (a : Nat) (bs : List Byte) : (s.tmWrite a bs).arms = s.arms := by
  unfold State.tmWrite; simp only; repeat (first | rfl | split | simp)
@[simp] theorem State.tmWrite_gens (a : Nat) (bs : List Byte) : (s.tmWrite a bs).gens = s.gens := by
  unfold State.tmWrite; simp only; repeat (first | rfl | split | simp)
@[simp] theorem State.tmWrite_host (a : Nat) (bs : List Byte) : (s.tmWrite a bs).host = s.host := by
  unfold State.tmWrite; simp only; repeat (first | rfl | split | simp)
@[simp] theorem State.tmWrite_boot (a : Nat) (bs : List Byte) : (s.tmWrite a bs).boot = s.boot := by
  unfold State.tmWrite; simp only; repeat (first | rfl | split | simp)
@[simp] theorem State.tmWrite_net (a : Nat) (bs : List Byte) : (s.tmWrite a bs).net = s.net := by
  unfold State.tmWrite; simp only; repeat (first | rfl | split | simp)
@[simp] theorem State.tmWrite_tics (a : Nat) (bs : List Byte) : (s.tmWrite a bs).tics = s.tics := by
  unfold State.tmWrite; simp only; repeat (first | rfl | split | simp)
@[simp] theorem State.tmWrite_repair (a : Nat) (bs : List Byte) : (s.tmWrite a bs).repair = s.repair := by
  unfold State.tmWrite; simp only; repeat (first | rfl | split | simp)
@[simp] theorem State.tmWrite_pmcs (a : Nat) (bs : List Byte) : (s.tmWrite a bs).pmcs = s.pmcs := by
  unfold State.tmWrite; simp only; repeat (first | rfl | split | simp)
@[simp] theorem State.tmWrite_mate (a : Nat) (bs : List Byte) : (s.tmWrite a bs).mate = s.mate := by
  unfold State.tmWrite; simp only; repeat (first | rfl | split | simp)
@[simp] theorem State.tmWrite_pending (a : Nat) (bs : List Byte) : (s.tmWrite a bs).pending = s.pending := by
  unfold State.tmWrite; simp only; repeat (first | rfl | split | simp)
@[simp] theorem State.tmWrite_freeCount (a : Nat) (bs : List Byte) : (s.tmWrite a bs).freeCount = s.freeCount := by
  unfold State.tmWrite; simp only; repeat (first | rfl | split | simp)
@[simp] theorem State.tmWrite_out (a : Nat) (bs : List Byte) : (s.tmWrite a bs).out = s.out := by
  unfold State.tmWrite; simp only; repeat (first | rfl | split | simp)

/-! ### What `noteWear` leaves alone -/

@[simp] theorem State.noteWear_counter (p n : Nat) : (s.noteWear p n).counter = s.counter := by
  unfold State.noteWear; simp only; repeat (first | rfl | split | simp)
@[simp] theorem State.noteWear_crucible (p n : Nat) : (s.noteWear p n).crucible = s.crucible := by
  unfold State.noteWear; simp only; repeat (first | rfl | split | simp)
@[simp] theorem State.noteWear_doms (p n : Nat) : (s.noteWear p n).doms = s.doms := by
  unfold State.noteWear; simp only; repeat (first | rfl | split | simp)
@[simp] theorem State.noteWear_inputs (p n : Nat) : (s.noteWear p n).inputs = s.inputs := by
  unfold State.noteWear; simp only; repeat (first | rfl | split | simp)
@[simp] theorem State.noteWear_uarts (p n : Nat) : (s.noteWear p n).uarts = s.uarts := by
  unfold State.noteWear; simp only; repeat (first | rfl | split | simp)
@[simp] theorem State.noteWear_factory (p n : Nat) : (s.noteWear p n).factory = s.factory := by
  unfold State.noteWear; simp only; repeat (first | rfl | split | simp)
@[simp] theorem State.noteWear_sels (p n : Nat) : (s.noteWear p n).sels = s.sels := by
  unfold State.noteWear; simp only; repeat (first | rfl | split | simp)
@[simp] theorem State.noteWear_dplls (p n : Nat) : (s.noteWear p n).dplls = s.dplls := by
  unfold State.noteWear; simp only; repeat (first | rfl | split | simp)
@[simp] theorem State.noteWear_syns (p n : Nat) : (s.noteWear p n).syns = s.syns := by
  unfold State.noteWear; simp only; repeat (first | rfl | split | simp)
@[simp] theorem State.noteWear_outs (p n : Nat) : (s.noteWear p n).outs = s.outs := by
  unfold State.noteWear; simp only; repeat (first | rfl | split | simp)
@[simp] theorem State.noteWear_arms (p n : Nat) : (s.noteWear p n).arms = s.arms := by
  unfold State.noteWear; simp only; repeat (first | rfl | split | simp)
@[simp] theorem State.noteWear_gens (p n : Nat) : (s.noteWear p n).gens = s.gens := by
  unfold State.noteWear; simp only; repeat (first | rfl | split | simp)
@[simp] theorem State.noteWear_host (p n : Nat) : (s.noteWear p n).host = s.host := by
  unfold State.noteWear; simp only; repeat (first | rfl | split | simp)
@[simp] theorem State.noteWear_tm (p n : Nat) : (s.noteWear p n).tm = s.tm := by
  unfold State.noteWear; simp only; repeat (first | rfl | split | simp)
@[simp] theorem State.noteWear_boot (p n : Nat) : (s.noteWear p n).boot = s.boot := by
  unfold State.noteWear; simp only; repeat (first | rfl | split | simp)
@[simp] theorem State.noteWear_net (p n : Nat) : (s.noteWear p n).net = s.net := by
  unfold State.noteWear; simp only; repeat (first | rfl | split | simp)
@[simp] theorem State.noteWear_tics (p n : Nat) : (s.noteWear p n).tics = s.tics := by
  unfold State.noteWear; simp only; repeat (first | rfl | split | simp)
@[simp] theorem State.noteWear_repair (p n : Nat) : (s.noteWear p n).repair = s.repair := by
  unfold State.noteWear; simp only; repeat (first | rfl | split | simp)
@[simp] theorem State.noteWear_pmcs (p n : Nat) : (s.noteWear p n).pmcs = s.pmcs := by
  unfold State.noteWear; simp only; repeat (first | rfl | split | simp)
@[simp] theorem State.noteWear_mate (p n : Nat) : (s.noteWear p n).mate = s.mate := by
  unfold State.noteWear; simp only; repeat (first | rfl | split | simp)
@[simp] theorem State.noteWear_pending (p n : Nat) : (s.noteWear p n).pending = s.pending := by
  unfold State.noteWear; simp only; repeat (first | rfl | split | simp)
@[simp] theorem State.noteWear_freeCount (p n : Nat) : (s.noteWear p n).freeCount = s.freeCount := by
  unfold State.noteWear; simp only; repeat (first | rfl | split | simp)
@[simp] theorem State.noteWear_out (p n : Nat) : (s.noteWear p n).out = s.out := by
  unfold State.noteWear; simp only; repeat (first | rfl | split | simp)

/-! ### Lists and the attributes of the book-keeping -/

/-- Running an operation over a list keeps what each call for a member of the list keeps. -/
theorem State.forEach_keeps_mem {β : Type} (p : State → β) (f : State → Nat → State) (l : List Nat)
    (h : ∀ s, ∀ n ∈ l, p (f s n) = p s) : ∀ s : State, p (s.forEach l f) = p s := by
  induction l with
  | nil => intro s; rfl
  | cons n ns ih =>
    intro s
    exact (ih (fun s m hm => h s m (List.mem_cons_of_mem _ hm)) _).trans (h s n (List.mem_cons_self ..))

/-! ### What `injected` leaves alone -/

@[simp] theorem State.injected_counter (c g : Nat) : (s.injected c g).counter = s.counter := by
  unfold State.injected State.takeInjection; split
  · next h => split at h; · split at h <;> simp_all; subst h; rfl
              · simp at h
  · rfl
@[simp] theorem State.injected_attrs (c g : Nat) : (s.injected c g).attrs = s.attrs := by
  unfold State.injected State.takeInjection; split
  · next h => split at h; · split at h <;> simp_all; subst h; rfl
              · simp at h
  · rfl
@[simp] theorem State.injected_crucible (c g : Nat) : (s.injected c g).crucible = s.crucible := by
  unfold State.injected State.takeInjection; split
  · next h => split at h; · split at h <;> simp_all; subst h; rfl
              · simp at h
  · rfl
@[simp] theorem State.injected_doms (c g : Nat) : (s.injected c g).doms = s.doms := by
  unfold State.injected State.takeInjection; split
  · next h => split at h; · split at h <;> simp_all; subst h; rfl
              · simp at h
  · rfl
@[simp] theorem State.injected_inputs (c g : Nat) : (s.injected c g).inputs = s.inputs := by
  unfold State.injected State.takeInjection; split
  · next h => split at h; · split at h <;> simp_all; subst h; rfl
              · simp at h
  · rfl
@[simp] theorem State.injected_uarts (c g : Nat) : (s.injected c g).uarts = s.uarts := by
  unfold State.injected State.takeInjection; split
  · next h => split at h; · split at h <;> simp_all; subst h; rfl
              · simp at h
  · rfl
@[simp] theorem State.injected_factory (c g : Nat) : (s.injected c g).factory = s.factory := by
  unfold State.injected State.takeInjection; split
  · next h => split at h; · split at h <;> simp_all; subst h; rfl
              · simp at h
  · rfl
@[simp] theorem State.injected_sels (c g : Nat) : (s.injected c g).sels = s.sels := by
  unfold State.injected State.takeInjection; split
  · next h => split at h; · split at h <;> simp_all; subst h; rfl
              · simp at h
  · rfl
@[simp] theorem State.injected_dplls (c g : Nat) : (s.injected c g).dplls = s.dplls := by
  unfold State.injected State.takeInjection; split
  · next h => split at h; · split at h <;> simp_all; subst h; rfl
              · simp at h
  · rfl
@[simp] theorem State.injected_syns (c g : Nat) : (s.injected c g).syns = s.syns := by
  unfold State.injected State.takeInjection; split
  · next h => split at h; · split at h <;> simp_all; subst h; rfl
              · simp at h
  · rfl
@[simp] theorem State.injected_outs (c g : Nat) : (s.injected c g).outs = s.outs := by
  unfold State.injected State.takeInjection; split
  · next h => split at h; · split at h <;> simp_all; subst h; rfl
              · simp at h
  · rfl
@[simp] theorem State.injected_arms (c g : Nat) : (s.injected c g).arms = s.arms := by
  unfold State.injected State.takeInjection; split
  · next h => split at h; · split at h <;> simp_all; subst h; rfl
              · simp at h
  · rfl
@[simp] theorem State.injected_gens (c g : Nat) : (s.injected c g).gens = s.gens := by
  unfold State.injected State.takeInjection; split
  · next h => split at h; · split at h <;> simp_all; subst h; rfl
              · simp at h
  · rfl
@[simp] theorem State.injected_host (c g : Nat) : (s.injected c g).host = s.host := by
  unfold State.injected State.takeInjection; split
  · next h => split at h; · split at h <;> simp_all; subst h; rfl
              · simp at h
  · rfl
@[simp] theorem State.injected_tm (c g : Nat) : (s.injected c g).tm = s.tm := by
  unfold State.injected State.takeInjection; split
  · next h => split at h; · split at h <;> simp_all; subst h; rfl
              · simp at h
  · rfl
@[simp] theorem State.injected_store (c g : Nat) : (s.injected c g).store = s.store := by
  unfold State.injected State.takeInjection; split
  · next h => split at h; · split at h <;> simp_all; subst h; rfl
              · simp at h
  · rfl
@[simp] theorem State.injected_boot (c g : Nat) : (s.injected c g).boot = s.boot := by
  unfold State.injected State.takeInjection; split
  · next h => split at h; · split at h <;> simp_all; subst h; rfl
              · simp at h
  · rfl
@[simp] theorem State.injected_net (c g : Nat) : (s.injected c g).net = s.net := by
  unfold State.injected State.takeInjection; split
  · next h => split at h; · split at h <;> simp_all; subst h; rfl
              · simp at h
  · rfl
@[simp] theorem State.injected_tics (c g : Nat) : (s.injected c g).tics = s.tics := by
  unfold State.injected State.takeInjection; split
  · next h => split at h; · split at h <;> simp_all; subst h; rfl
              · simp at h
  · rfl
@[simp] theorem State.injected_repair (c g : Nat) : (s.injected c g).repair = s.repair := by
  unfold State.injected State.takeInjection; split
  · next h => split at h; · split at h <;> simp_all; subst h; rfl
              · simp at h
  · rfl
@[simp] theorem State.injected_pmcs (c g : Nat) : (s.injected c g).pmcs = s.pmcs := by
  unfold State.injected State.takeInjection; split
  · next h => split at h; · split at h <;> simp_all; subst h; rfl
              · simp at h
  · rfl
@[simp] theorem State.injected_mate (c g : Nat) : (s.injected c g).mate = s.mate := by
  unfold State.injected State.takeInjection; split
  · next h => split at h; · split at h <;> simp_all; subst h; rfl
              · simp at h
  · rfl
@[simp] theorem State.injected_pending (c g : Nat) : (s.injected c g).pending = s.pending := by
  unfold State.injected State.takeInjection; split
  · next h => split at h; · split at h <;> simp_all; subst h; rfl
              · simp at h
  · rfl
@[simp] theorem State.injected_freeCount (c g : Nat) : (s.injected c g).freeCount = s.freeCount := by
  unfold State.injected State.takeInjection; split
  · next h => split at h; · split at h <;> simp_all; subst h; rfl
              · simp at h
  · rfl
@[simp] theorem State.injected_out (c g : Nat) : (s.injected c g).out = s.out := by
  unfold State.injected State.takeInjection; split
  · next h => split at h; · split at h <;> simp_all; subst h; rfl
              · simp at h
  · rfl

/-! ### What `programPage` leaves alone -/

@[simp] theorem State.programPage_counter (p x n : Nat) (b e : Bool) : (s.programPage p x n b e).counter = s.counter := by simp [State.programPage]
@[simp] theorem State.programPage_crucible (p x n : Nat) (b e : Bool) : (s.programPage p x n b e).crucible = s.crucible := by simp [State.programPage]
@[simp] theorem State.programPage_doms (p x n : Nat) (b e : Bool) : (s.programPage p x n b e).doms = s.doms := by simp [State.programPage]
@[simp] theorem State.programPage_inputs (p x n : Nat) (b e : Bool) : (s.programPage p x n b e).inputs = s.inputs := by simp [State.programPage]
@[simp] theorem State.programPage_uarts (p x n : Nat) (b e : Bool) : (s.programPage p x n b e).uarts = s.uarts := by simp [State.programPage]
@[simp] theorem State.programPage_factory (p x n : Nat) (b e : Bool) : (s.programPage p x n b e).factory = s.factory := by simp [State.programPage]
@[simp] theorem State.programPage_sels (p x n : Nat) (b e : Bool) : (s.programPage p x n b e).sels = s.sels := by simp [State.programPage]
@[simp] theorem State.programPage_dplls (p x n : Nat) (b e : Bool) : (s.programPage p x n b e).dplls = s.dplls := by simp [State.programPage]
@[simp] theorem State.programPage_syns (p x n : Nat) (b e : Bool) : (s.programPage p x n b e).syns = s.syns := by simp [State.programPage]
@[simp] theorem State.programPage_outs (p x n : Nat) (b e : Bool) : (s.programPage p x n b e).outs = s.outs := by simp [State.programPage]
@[simp] theorem State.programPage_arms (p x n : Nat) (b e : Bool) : (s.programPage p x n b e).arms = s.arms := by simp [State.programPage]
@[simp] theorem State.programPage_gens (p x n : Nat) (b e : Bool) : (s.programPage p x n b e).gens = s.gens := by simp [State.programPage]
@[simp] theorem State.programPage_host (p x n : Nat) (b e : Bool) : (s.programPage p x n b e).host = s.host := by simp [State.programPage]
@[simp] theorem State.programPage_tm (p x n : Nat) (b e : Bool) : (s.programPage p x n b e).tm = s.tm := by simp [State.programPage]
@[simp] theorem State.programPage_boot (p x n : Nat) (b e : Bool) : (s.programPage p x n b e).boot = s.boot := by simp [State.programPage]
@[simp] theorem State.programPage_net (p x n : Nat) (b e : Bool) : (s.programPage p x n b e).net = s.net := by simp [State.programPage]
@[simp] theorem State.programPage_tics (p x n : Nat) (b e : Bool) : (s.programPage p x n b e).tics = s.tics := by simp [State.programPage]
@[simp] theorem State.programPage_repair (p x n : Nat) (b e : Bool) : (s.programPage p x n b e).repair = s.repair := by simp [State.programPage]
@[simp] theorem State.programPage_pmcs (p x n : Nat) (b e : Bool) : (s.programPage p x n b e).pmcs = s.pmcs := by simp [State.programPage]
@[simp] theorem State.programPage_mate (p x n : Nat) (b e : Bool) : (s.programPage p x n b e).mate = s.mate := by simp [State.programPage]
@[simp] theorem State.programPage_pending (p x n : Nat) (b e : Bool) : (s.programPage p x n b e).pending = s.pending := by simp [State.programPage]
@[simp] theorem State.programPage_freeCount (p x n : Nat) (b e : Bool) : (s.programPage p x n b e).freeCount = s.freeCount := by simp [State.programPage]
@[simp] theorem State.programPage_out (p x n : Nat) (b e : Bool) : (s.programPage p x n b e).out = s.out := by simp [State.programPage]

/-! ### What `storePage` leaves alone -/

@[simp] theorem State.storePage_counter (p : Nat) (b : Bool) : (s.storePage p b).counter = s.counter := by simp [State.storePage]
@[simp] theorem State.storePage_crucible (p : Nat) (b : Bool) : (s.storePage p b).crucible = s.crucible := by simp [State.storePage]
@[simp] theorem State.storePage_doms (p : Nat) (b : Bool) : (s.storePage p b).doms = s.doms := by simp [State.storePage]
@[simp] theorem State.storePage_inputs (p : Nat) (b : Bool) : (s.storePage p b).inputs = s.inputs := by simp [State.storePage]
@[simp] theorem State.storePage_uarts (p : Nat) (b : Bool) : (s.storePage p b).uarts = s.uarts := by simp [State.storePage]
@[simp] theorem State.storePage_factory (p : Nat) (b : Bool) : (s.storePage p b).factory = s.factory := by simp [State.storePage]
@[simp] theorem State.storePage_sels (p : Nat) (b : Bool) : (s.storePage p b).sels = s.sels := by simp [State.storePage]
@[simp] theorem State.storePage_dplls (p : Nat) (b : Bool) : (s.storePage p b).dplls = s.dplls := by simp [State.storePage]
@[simp] theorem State.storePage_syns (p : Nat) (b : Bool) : (s.storePage p b).syns = s.syns := by simp [State.storePage]
@[simp] theorem State.storePage_outs (p : Nat) (b : Bool) : (s.storePage p b).outs = s.outs := by simp [State.storePage]
@[simp] theorem State.storePage_arms (p : Nat) (b : Bool) : (s.storePage p b).arms = s.arms := by simp [State.storePage]
@[simp] theorem State.storePage_gens (p : Nat) (b : Bool) : (s.storePage p b).gens = s.gens := by simp [State.storePage]
@[simp] theorem State.storePage_host (p : Nat) (b : Bool) : (s.storePage p b).host = s.host := by simp [State.storePage]
@[simp] theorem State.storePage_tm (p : Nat) (b : Bool) : (s.storePage p b).tm = s.tm := by simp [State.storePage]
@[simp] theorem State.storePage_boot (p : Nat) (b : Bool) : (s.storePage p b).boot = s.boot := by simp [State.storePage]
@[simp] theorem State.storePage_net (p : Nat) (b : Bool) : (s.storePage p b).net = s.net := by simp [State.storePage]
@[simp] theorem State.storePage_tics (p : Nat) (b : Bool) : (s.storePage p b).tics = s.tics := by simp [State.storePage]
@[simp] theorem State.storePage_repair (p : Nat) (b : Bool) : (s.storePage p b).repair = s.repair := by simp [State.storePage]
@[simp] theorem State.storePage_pmcs (p : Nat) (b : Bool) : (s.storePage p b).pmcs = s.pmcs := by simp [State.storePage]
@[simp] theorem State.storePage_mate (p : Nat) (b : Bool) : (s.storePage p b).mate = s.mate := by simp [State.storePage]
@[simp] theorem State.storePage_pending (p : Nat) (b : Bool) : (s.storePage p b).pending = s.pending := by simp [State.storePage]
@[simp] theorem State.storePage_freeCount (p : Nat) (b : Bool) : (s.storePage p b).freeCount = s.freeCount := by simp [State.storePage]
@[simp] theorem State.storePage_out (p : Nat) (b : Bool) : (s.storePage p b).out = s.out := by simp [State.storePage]

theorem State.storeDown_counter (k : Nat) : ∀ s : State, (State.storeDown k s).counter = s.counter := by
  induction k with
  | zero => intro s; rfl
  | succ k ih => intro s; unfold State.storeDown; split; · rfl
                 split
                 · rw [ih]; simp
                 · rfl
theorem State.storeDown_crucible (k : Nat) : ∀ s : State, (State.storeDown k s).crucible = s.crucible := by
  induction k with
  | zero => intro s; rfl
  | succ k ih => intro s; unfold State.storeDown; split; · rfl
                 split
                 · rw [ih]; simp
                 · rfl
theorem State.storeDown_doms (k : Nat) : ∀ s : State, (State.storeDown k s).doms = s.doms := by
  induction k with
  | zero => intro s; rfl
  | succ k ih => intro s; unfold State.storeDown; split; · rfl
                 split
                 · rw [ih]; simp
                 · rfl
theorem State.storeDown_inputs (k : Nat) : ∀ s : State, (State.storeDown k s).inputs = s.inputs := by
  induction k with
  | zero => intro s; rfl
  | succ k ih => intro s; unfold State.storeDown; split; · rfl
                 split
                 · rw [ih]; simp
                 · rfl
theorem State.storeDown_uarts (k : Nat) : ∀ s : State, (State.storeDown k s).uarts = s.uarts := by
  induction k with
  | zero => intro s; rfl
  | succ k ih => intro s; unfold State.storeDown; split; · rfl
                 split
                 · rw [ih]; simp
                 · rfl
theorem State.storeDown_factory (k : Nat) : ∀ s : State, (State.storeDown k s).factory = s.factory := by
  induction k with
  | zero => intro s; rfl
  | succ k ih => intro s; unfold State.storeDown; split; · rfl
                 split
                 · rw [ih]; simp
                 · rfl
theorem State.storeDown_sels (k : Nat) : ∀ s : State, (State.storeDown k s).sels = s.sels := by
  induction k with
  | zero => intro s; rfl
  | succ k ih => intro s; unfold State.storeDown; split; · rfl
                 split
                 · rw [ih]; simp
                 · rfl
theorem State.storeDown_dplls (k : Nat) : ∀ s : State, (State.storeDown k s).dplls = s.dplls := by
  induction k with
  | zero => intro s; rfl
  | succ k ih => intro s; unfold State.storeDown; split; · rfl
                 split
                 · rw [ih]; simp
                 · rfl
theorem State.storeDown_syns (k : Nat) : ∀ s : State, (State.storeDown k s).syns = s.syns := by
  induction k with
  | zero => intro s; rfl
  | succ k ih => intro s; unfold State.storeDown; split; · rfl
                 split
                 · rw [ih]; simp
                 · rfl
theorem State.storeDown_outs (k : Nat) : ∀ s : State, (State.storeDown k s).outs = s.outs := by
  induction k with
  | zero => intro s; rfl
  | succ k ih => intro s; unfold State.storeDown; split; · rfl
                 split
                 · rw [ih]; simp
                 · rfl
theorem State.storeDown_arms (k : Nat) : ∀ s : State, (State.storeDown k s).arms = s.arms := by
  induction k with
  | zero => intro s; rfl
  | succ k ih => intro s; unfold State.storeDown; split; · rfl
                 split
                 · rw [ih]; simp
                 · rfl
theorem State.storeDown_gens (k : Nat) : ∀ s : State, (State.storeDown k s).gens = s.gens := by
  induction k with
  | zero => intro s; rfl
  | succ k ih => intro s; unfold State.storeDown; split; · rfl
                 split
                 · rw [ih]; simp
                 · rfl
theorem State.storeDown_host (k : Nat) : ∀ s : State, (State.storeDown k s).host = s.host := by
  induction k with
  | zero => intro s; rfl
  | succ k ih => intro s; unfold State.storeDown; split; · rfl
                 split
                 · rw [ih]; simp
                 · rfl
theorem State.storeDown_tm (k : Nat) : ∀ s : State, (State.storeDown k s).tm = s.tm := by
  induction k with
  | zero => intro s; rfl
  | succ k ih => intro s; unfold State.storeDown; split; · rfl
                 split
                 · rw [ih]; simp
                 · rfl
theorem State.storeDown_boot (k : Nat) : ∀ s : State, (State.storeDown k s).boot = s.boot := by
  induction k with
  | zero => intro s; rfl
  | succ k ih => intro s; unfold State.storeDown; split; · rfl
                 split
                 · rw [ih]; simp
                 · rfl
theorem State.storeDown_net (k : Nat) : ∀ s : State, (State.storeDown k s).net = s.net := by
  induction k with
  | zero => intro s; rfl
  | succ k ih => intro s; unfold State.storeDown; split; · rfl
                 split
                 · rw [ih]; simp
                 · rfl
theorem State.storeDown_tics (k : Nat) : ∀ s : State, (State.storeDown k s).tics = s.tics := by
  induction k with
  | zero => intro s; rfl
  | succ k ih => intro s; unfold State.storeDown; split; · rfl
                 split
                 · rw [ih]; simp
                 · rfl
theorem State.storeDown_repair (k : Nat) : ∀ s : State, (State.storeDown k s).repair = s.repair := by
  induction k with
  | zero => intro s; rfl
  | succ k ih => intro s; unfold State.storeDown; split; · rfl
                 split
                 · rw [ih]; simp
                 · rfl
theorem State.storeDown_pmcs (k : Nat) : ∀ s : State, (State.storeDown k s).pmcs = s.pmcs := by
  induction k with
  | zero => intro s; rfl
  | succ k ih => intro s; unfold State.storeDown; split; · rfl
                 split
                 · rw [ih]; simp
                 · rfl
theorem State.storeDown_mate (k : Nat) : ∀ s : State, (State.storeDown k s).mate = s.mate := by
  induction k with
  | zero => intro s; rfl
  | succ k ih => intro s; unfold State.storeDown; split; · rfl
                 split
                 · rw [ih]; simp
                 · rfl
theorem State.storeDown_pending (k : Nat) : ∀ s : State, (State.storeDown k s).pending = s.pending := by
  induction k with
  | zero => intro s; rfl
  | succ k ih => intro s; unfold State.storeDown; split; · rfl
                 split
                 · rw [ih]; simp
                 · rfl
theorem State.storeDown_freeCount (k : Nat) : ∀ s : State, (State.storeDown k s).freeCount = s.freeCount := by
  induction k with
  | zero => intro s; rfl
  | succ k ih => intro s; unfold State.storeDown; split; · rfl
                 split
                 · rw [ih]; simp
                 · rfl
theorem State.storeDown_out (k : Nat) : ∀ s : State, (State.storeDown k s).out = s.out := by
  induction k with
  | zero => intro s; rfl
  | succ k ih => intro s; unfold State.storeDown; split; · rfl
                 split
                 · rw [ih]; simp
                 · rfl

/-! ### What `enforceLimit` leaves alone -/

@[simp] theorem State.enforceLimit_counter : (s.enforceLimit).counter = s.counter := by
  unfold State.enforceLimit; simp only; repeat (first | rfl | simp [State.storeDown_counter] | split)
@[simp] theorem State.enforceLimit_crucible : (s.enforceLimit).crucible = s.crucible := by
  unfold State.enforceLimit; simp only; repeat (first | rfl | simp [State.storeDown_crucible] | split)
@[simp] theorem State.enforceLimit_doms : (s.enforceLimit).doms = s.doms := by
  unfold State.enforceLimit; simp only; repeat (first | rfl | simp [State.storeDown_doms] | split)
@[simp] theorem State.enforceLimit_inputs : (s.enforceLimit).inputs = s.inputs := by
  unfold State.enforceLimit; simp only; repeat (first | rfl | simp [State.storeDown_inputs] | split)
@[simp] theorem State.enforceLimit_uarts : (s.enforceLimit).uarts = s.uarts := by
  unfold State.enforceLimit; simp only; repeat (first | rfl | simp [State.storeDown_uarts] | split)
@[simp] theorem State.enforceLimit_factory : (s.enforceLimit).factory = s.factory := by
  unfold State.enforceLimit; simp only; repeat (first | rfl | simp [State.storeDown_factory] | split)
@[simp] theorem State.enforceLimit_sels : (s.enforceLimit).sels = s.sels := by
  unfold State.enforceLimit; simp only; repeat (first | rfl | simp [State.storeDown_sels] | split)
@[simp] theorem State.enforceLimit_dplls : (s.enforceLimit).dplls = s.dplls := by
  unfold State.enforceLimit; simp only; repeat (first | rfl | simp [State.storeDown_dplls] | split)
@[simp] theorem State.enforceLimit_syns : (s.enforceLimit).syns = s.syns := by
  unfold State.enforceLimit; simp only; repeat (first | rfl | simp [State.storeDown_syns] | split)
@[simp] theorem State.enforceLimit_outs : (s.enforceLimit).outs = s.outs := by
  unfold State.enforceLimit; simp only; repeat (first | rfl | simp [State.storeDown_outs] | split)
@[simp] theorem State.enforceLimit_arms : (s.enforceLimit).arms = s.arms := by
  unfold State.enforceLimit; simp only; repeat (first | rfl | simp [State.storeDown_arms] | split)
@[simp] theorem State.enforceLimit_gens : (s.enforceLimit).gens = s.gens := by
  unfold State.enforceLimit; simp only; repeat (first | rfl | simp [State.storeDown_gens] | split)
@[simp] theorem State.enforceLimit_host : (s.enforceLimit).host = s.host := by
  unfold State.enforceLimit; simp only; repeat (first | rfl | simp [State.storeDown_host] | split)
@[simp] theorem State.enforceLimit_tm : (s.enforceLimit).tm = s.tm := by
  unfold State.enforceLimit; simp only; repeat (first | rfl | simp [State.storeDown_tm] | split)
@[simp] theorem State.enforceLimit_boot : (s.enforceLimit).boot = s.boot := by
  unfold State.enforceLimit; simp only; repeat (first | rfl | simp [State.storeDown_boot] | split)
@[simp] theorem State.enforceLimit_net : (s.enforceLimit).net = s.net := by
  unfold State.enforceLimit; simp only; repeat (first | rfl | simp [State.storeDown_net] | split)
@[simp] theorem State.enforceLimit_tics : (s.enforceLimit).tics = s.tics := by
  unfold State.enforceLimit; simp only; repeat (first | rfl | simp [State.storeDown_tics] | split)
@[simp] theorem State.enforceLimit_repair : (s.enforceLimit).repair = s.repair := by
  unfold State.enforceLimit; simp only; repeat (first | rfl | simp [State.storeDown_repair] | split)
@[simp] theorem State.enforceLimit_pmcs : (s.enforceLimit).pmcs = s.pmcs := by
  unfold State.enforceLimit; simp only; repeat (first | rfl | simp [State.storeDown_pmcs] | split)
@[simp] theorem State.enforceLimit_mate : (s.enforceLimit).mate = s.mate := by
  unfold State.enforceLimit; simp only; repeat (first | rfl | simp [State.storeDown_mate] | split)
@[simp] theorem State.enforceLimit_pending : (s.enforceLimit).pending = s.pending := by
  unfold State.enforceLimit; simp only; repeat (first | rfl | simp [State.storeDown_pending] | split)
@[simp] theorem State.enforceLimit_freeCount : (s.enforceLimit).freeCount = s.freeCount := by
  unfold State.enforceLimit; simp only; repeat (first | rfl | simp [State.storeDown_freeCount] | split)
@[simp] theorem State.enforceLimit_out : (s.enforceLimit).out = s.out := by
  unfold State.enforceLimit; simp only; repeat (first | rfl | simp [State.storeDown_out] | split)

/-! ### What `audit` leaves alone -/

@[simp] theorem State.audit_counter (w : Issuer) (op st i a : Nat) : (s.audit w op st i a).counter = s.counter := by simp [State.audit]
@[simp] theorem State.audit_crucible (w : Issuer) (op st i a : Nat) : (s.audit w op st i a).crucible = s.crucible := by simp [State.audit]
@[simp] theorem State.audit_doms (w : Issuer) (op st i a : Nat) : (s.audit w op st i a).doms = s.doms := by simp [State.audit]
@[simp] theorem State.audit_inputs (w : Issuer) (op st i a : Nat) : (s.audit w op st i a).inputs = s.inputs := by simp [State.audit]
@[simp] theorem State.audit_uarts (w : Issuer) (op st i a : Nat) : (s.audit w op st i a).uarts = s.uarts := by simp [State.audit]
@[simp] theorem State.audit_factory (w : Issuer) (op st i a : Nat) : (s.audit w op st i a).factory = s.factory := by simp [State.audit]
@[simp] theorem State.audit_sels (w : Issuer) (op st i a : Nat) : (s.audit w op st i a).sels = s.sels := by simp [State.audit]
@[simp] theorem State.audit_dplls (w : Issuer) (op st i a : Nat) : (s.audit w op st i a).dplls = s.dplls := by simp [State.audit]
@[simp] theorem State.audit_syns (w : Issuer) (op st i a : Nat) : (s.audit w op st i a).syns = s.syns := by simp [State.audit]
@[simp] theorem State.audit_outs (w : Issuer) (op st i a : Nat) : (s.audit w op st i a).outs = s.outs := by simp [State.audit]
@[simp] theorem State.audit_arms (w : Issuer) (op st i a : Nat) : (s.audit w op st i a).arms = s.arms := by simp [State.audit]
@[simp] theorem State.audit_gens (w : Issuer) (op st i a : Nat) : (s.audit w op st i a).gens = s.gens := by simp [State.audit]
@[simp] theorem State.audit_host (w : Issuer) (op st i a : Nat) : (s.audit w op st i a).host = s.host := by simp [State.audit]
@[simp] theorem State.audit_boot (w : Issuer) (op st i a : Nat) : (s.audit w op st i a).boot = s.boot := by simp [State.audit]
@[simp] theorem State.audit_net (w : Issuer) (op st i a : Nat) : (s.audit w op st i a).net = s.net := by simp [State.audit]
@[simp] theorem State.audit_tics (w : Issuer) (op st i a : Nat) : (s.audit w op st i a).tics = s.tics := by simp [State.audit]
@[simp] theorem State.audit_repair (w : Issuer) (op st i a : Nat) : (s.audit w op st i a).repair = s.repair := by simp [State.audit]
@[simp] theorem State.audit_pmcs (w : Issuer) (op st i a : Nat) : (s.audit w op st i a).pmcs = s.pmcs := by simp [State.audit]
@[simp] theorem State.audit_mate (w : Issuer) (op st i a : Nat) : (s.audit w op st i a).mate = s.mate := by simp [State.audit]
@[simp] theorem State.audit_pending (w : Issuer) (op st i a : Nat) : (s.audit w op st i a).pending = s.pending := by simp [State.audit]
@[simp] theorem State.audit_freeCount (w : Issuer) (op st i a : Nat) : (s.audit w op st i a).freeCount = s.freeCount := by simp [State.audit]
@[simp] theorem State.audit_out (w : Issuer) (op st i a : Nat) : (s.audit w op st i a).out = s.out := by simp [State.audit]

/-! ### What `complete` leaves alone -/

@[simp] theorem State.complete_counter (w : Issuer) (op st : Nat) (r : List Byte) (l : Option Nat) (g : Nat) : (s.complete w op st r l g).counter = s.counter := by
  unfold State.complete; cases w <;> simp only; all_goals repeat (first | rfl | split)
@[simp] theorem State.complete_attrs (w : Issuer) (op st : Nat) (r : List Byte) (l : Option Nat) (g : Nat) : (s.complete w op st r l g).attrs = s.attrs := by
  unfold State.complete; cases w <;> simp only; all_goals repeat (first | rfl | split)
@[simp] theorem State.complete_crucible (w : Issuer) (op st : Nat) (r : List Byte) (l : Option Nat) (g : Nat) : (s.complete w op st r l g).crucible = s.crucible := by
  unfold State.complete; cases w <;> simp only; all_goals repeat (first | rfl | split)
@[simp] theorem State.complete_doms (w : Issuer) (op st : Nat) (r : List Byte) (l : Option Nat) (g : Nat) : (s.complete w op st r l g).doms = s.doms := by
  unfold State.complete; cases w <;> simp only; all_goals repeat (first | rfl | split)
@[simp] theorem State.complete_inputs (w : Issuer) (op st : Nat) (r : List Byte) (l : Option Nat) (g : Nat) : (s.complete w op st r l g).inputs = s.inputs := by
  unfold State.complete; cases w <;> simp only; all_goals repeat (first | rfl | split)
@[simp] theorem State.complete_uarts (w : Issuer) (op st : Nat) (r : List Byte) (l : Option Nat) (g : Nat) : (s.complete w op st r l g).uarts = s.uarts := by
  unfold State.complete; cases w <;> simp only; all_goals repeat (first | rfl | split)
@[simp] theorem State.complete_factory (w : Issuer) (op st : Nat) (r : List Byte) (l : Option Nat) (g : Nat) : (s.complete w op st r l g).factory = s.factory := by
  unfold State.complete; cases w <;> simp only; all_goals repeat (first | rfl | split)
@[simp] theorem State.complete_sels (w : Issuer) (op st : Nat) (r : List Byte) (l : Option Nat) (g : Nat) : (s.complete w op st r l g).sels = s.sels := by
  unfold State.complete; cases w <;> simp only; all_goals repeat (first | rfl | split)
@[simp] theorem State.complete_dplls (w : Issuer) (op st : Nat) (r : List Byte) (l : Option Nat) (g : Nat) : (s.complete w op st r l g).dplls = s.dplls := by
  unfold State.complete; cases w <;> simp only; all_goals repeat (first | rfl | split)
@[simp] theorem State.complete_syns (w : Issuer) (op st : Nat) (r : List Byte) (l : Option Nat) (g : Nat) : (s.complete w op st r l g).syns = s.syns := by
  unfold State.complete; cases w <;> simp only; all_goals repeat (first | rfl | split)
@[simp] theorem State.complete_outs (w : Issuer) (op st : Nat) (r : List Byte) (l : Option Nat) (g : Nat) : (s.complete w op st r l g).outs = s.outs := by
  unfold State.complete; cases w <;> simp only; all_goals repeat (first | rfl | split)
@[simp] theorem State.complete_arms (w : Issuer) (op st : Nat) (r : List Byte) (l : Option Nat) (g : Nat) : (s.complete w op st r l g).arms = s.arms := by
  unfold State.complete; cases w <;> simp only; all_goals repeat (first | rfl | split)
@[simp] theorem State.complete_gens (w : Issuer) (op st : Nat) (r : List Byte) (l : Option Nat) (g : Nat) : (s.complete w op st r l g).gens = s.gens := by
  unfold State.complete; cases w <;> simp only; all_goals repeat (first | rfl | split)
@[simp] theorem State.complete_faults (w : Issuer) (op st : Nat) (r : List Byte) (l : Option Nat) (g : Nat) : (s.complete w op st r l g).faults = s.faults := by
  unfold State.complete; cases w <;> simp only; all_goals repeat (first | rfl | split)
@[simp] theorem State.complete_tm (w : Issuer) (op st : Nat) (r : List Byte) (l : Option Nat) (g : Nat) : (s.complete w op st r l g).tm = s.tm := by
  unfold State.complete; cases w <;> simp only; all_goals repeat (first | rfl | split)
@[simp] theorem State.complete_store (w : Issuer) (op st : Nat) (r : List Byte) (l : Option Nat) (g : Nat) : (s.complete w op st r l g).store = s.store := by
  unfold State.complete; cases w <;> simp only; all_goals repeat (first | rfl | split)
@[simp] theorem State.complete_boot (w : Issuer) (op st : Nat) (r : List Byte) (l : Option Nat) (g : Nat) : (s.complete w op st r l g).boot = s.boot := by
  unfold State.complete; cases w <;> simp only; all_goals repeat (first | rfl | split)
@[simp] theorem State.complete_net (w : Issuer) (op st : Nat) (r : List Byte) (l : Option Nat) (g : Nat) : (s.complete w op st r l g).net = s.net := by
  unfold State.complete; cases w <;> simp only; all_goals repeat (first | rfl | split)
@[simp] theorem State.complete_tics (w : Issuer) (op st : Nat) (r : List Byte) (l : Option Nat) (g : Nat) : (s.complete w op st r l g).tics = s.tics := by
  unfold State.complete; cases w <;> simp only; all_goals repeat (first | rfl | split)
@[simp] theorem State.complete_repair (w : Issuer) (op st : Nat) (r : List Byte) (l : Option Nat) (g : Nat) : (s.complete w op st r l g).repair = s.repair := by
  unfold State.complete; cases w <;> simp only; all_goals repeat (first | rfl | split)
@[simp] theorem State.complete_pmcs (w : Issuer) (op st : Nat) (r : List Byte) (l : Option Nat) (g : Nat) : (s.complete w op st r l g).pmcs = s.pmcs := by
  unfold State.complete; cases w <;> simp only; all_goals repeat (first | rfl | split)
@[simp] theorem State.complete_mate (w : Issuer) (op st : Nat) (r : List Byte) (l : Option Nat) (g : Nat) : (s.complete w op st r l g).mate = s.mate := by
  unfold State.complete; cases w <;> simp only; all_goals repeat (first | rfl | split)
@[simp] theorem State.complete_pending (w : Issuer) (op st : Nat) (r : List Byte) (l : Option Nat) (g : Nat) : (s.complete w op st r l g).pending = s.pending := by
  unfold State.complete; cases w <;> simp only; all_goals repeat (first | rfl | split)
@[simp] theorem State.complete_freeCount (w : Issuer) (op st : Nat) (r : List Byte) (l : Option Nat) (g : Nat) : (s.complete w op st r l g).freeCount = s.freeCount := by
  unfold State.complete; cases w <;> simp only; all_goals repeat (first | rfl | split)

/-! ### What `finish` leaves alone -/

@[simp] theorem State.finish_counter (w : Issuer) (op st i : Nat) (r : List Byte) (l : Option Nat) (a : Nat) : (s.finish w op st i r l a).counter = s.counter := by
  unfold State.finish; simp only [State.complete_counter]; split <;> simp
@[simp] theorem State.finish_crucible (w : Issuer) (op st i : Nat) (r : List Byte) (l : Option Nat) (a : Nat) : (s.finish w op st i r l a).crucible = s.crucible := by
  unfold State.finish; simp only [State.complete_crucible]; split <;> simp
@[simp] theorem State.finish_doms (w : Issuer) (op st i : Nat) (r : List Byte) (l : Option Nat) (a : Nat) : (s.finish w op st i r l a).doms = s.doms := by
  unfold State.finish; simp only [State.complete_doms]; split <;> simp
@[simp] theorem State.finish_inputs (w : Issuer) (op st i : Nat) (r : List Byte) (l : Option Nat) (a : Nat) : (s.finish w op st i r l a).inputs = s.inputs := by
  unfold State.finish; simp only [State.complete_inputs]; split <;> simp
@[simp] theorem State.finish_uarts (w : Issuer) (op st i : Nat) (r : List Byte) (l : Option Nat) (a : Nat) : (s.finish w op st i r l a).uarts = s.uarts := by
  unfold State.finish; simp only [State.complete_uarts]; split <;> simp
@[simp] theorem State.finish_factory (w : Issuer) (op st i : Nat) (r : List Byte) (l : Option Nat) (a : Nat) : (s.finish w op st i r l a).factory = s.factory := by
  unfold State.finish; simp only [State.complete_factory]; split <;> simp
@[simp] theorem State.finish_sels (w : Issuer) (op st i : Nat) (r : List Byte) (l : Option Nat) (a : Nat) : (s.finish w op st i r l a).sels = s.sels := by
  unfold State.finish; simp only [State.complete_sels]; split <;> simp
@[simp] theorem State.finish_dplls (w : Issuer) (op st i : Nat) (r : List Byte) (l : Option Nat) (a : Nat) : (s.finish w op st i r l a).dplls = s.dplls := by
  unfold State.finish; simp only [State.complete_dplls]; split <;> simp
@[simp] theorem State.finish_syns (w : Issuer) (op st i : Nat) (r : List Byte) (l : Option Nat) (a : Nat) : (s.finish w op st i r l a).syns = s.syns := by
  unfold State.finish; simp only [State.complete_syns]; split <;> simp
@[simp] theorem State.finish_outs (w : Issuer) (op st i : Nat) (r : List Byte) (l : Option Nat) (a : Nat) : (s.finish w op st i r l a).outs = s.outs := by
  unfold State.finish; simp only [State.complete_outs]; split <;> simp
@[simp] theorem State.finish_arms (w : Issuer) (op st i : Nat) (r : List Byte) (l : Option Nat) (a : Nat) : (s.finish w op st i r l a).arms = s.arms := by
  unfold State.finish; simp only [State.complete_arms]; split <;> simp
@[simp] theorem State.finish_gens (w : Issuer) (op st i : Nat) (r : List Byte) (l : Option Nat) (a : Nat) : (s.finish w op st i r l a).gens = s.gens := by
  unfold State.finish; simp only [State.complete_gens]; split <;> simp
@[simp] theorem State.finish_boot (w : Issuer) (op st i : Nat) (r : List Byte) (l : Option Nat) (a : Nat) : (s.finish w op st i r l a).boot = s.boot := by
  unfold State.finish; simp only [State.complete_boot]; split <;> simp
@[simp] theorem State.finish_net (w : Issuer) (op st i : Nat) (r : List Byte) (l : Option Nat) (a : Nat) : (s.finish w op st i r l a).net = s.net := by
  unfold State.finish; simp only [State.complete_net]; split <;> simp
@[simp] theorem State.finish_tics (w : Issuer) (op st i : Nat) (r : List Byte) (l : Option Nat) (a : Nat) : (s.finish w op st i r l a).tics = s.tics := by
  unfold State.finish; simp only [State.complete_tics]; split <;> simp
@[simp] theorem State.finish_repair (w : Issuer) (op st i : Nat) (r : List Byte) (l : Option Nat) (a : Nat) : (s.finish w op st i r l a).repair = s.repair := by
  unfold State.finish; simp only [State.complete_repair]; split <;> simp
@[simp] theorem State.finish_pmcs (w : Issuer) (op st i : Nat) (r : List Byte) (l : Option Nat) (a : Nat) : (s.finish w op st i r l a).pmcs = s.pmcs := by
  unfold State.finish; simp only [State.complete_pmcs]; split <;> simp
@[simp] theorem State.finish_mate (w : Issuer) (op st i : Nat) (r : List Byte) (l : Option Nat) (a : Nat) : (s.finish w op st i r l a).mate = s.mate := by
  unfold State.finish; simp only [State.complete_mate]; split <;> simp
@[simp] theorem State.finish_pending (w : Issuer) (op st i : Nat) (r : List Byte) (l : Option Nat) (a : Nat) : (s.finish w op st i r l a).pending = s.pending := by
  unfold State.finish; simp only [State.complete_pending]; split <;> simp
@[simp] theorem State.finish_freeCount (w : Issuer) (op st i : Nat) (r : List Byte) (l : Option Nat) (a : Nat) : (s.finish w op st i r l a).freeCount = s.freeCount := by
  unfold State.finish; simp only [State.complete_freeCount]; split <;> simp

/-! ### What `writeResult` leaves alone -/

@[simp] theorem State.writeResult_counter (w : Issuer) (b : HostBuf) (bs : List Byte) : (s.writeResult w b bs).counter = s.counter := by cases w <;> rfl
@[simp] theorem State.writeResult_attrs (w : Issuer) (b : HostBuf) (bs : List Byte) : (s.writeResult w b bs).attrs = s.attrs := by cases w <;> rfl
@[simp] theorem State.writeResult_crucible (w : Issuer) (b : HostBuf) (bs : List Byte) : (s.writeResult w b bs).crucible = s.crucible := by cases w <;> rfl
@[simp] theorem State.writeResult_doms (w : Issuer) (b : HostBuf) (bs : List Byte) : (s.writeResult w b bs).doms = s.doms := by cases w <;> rfl
@[simp] theorem State.writeResult_inputs (w : Issuer) (b : HostBuf) (bs : List Byte) : (s.writeResult w b bs).inputs = s.inputs := by cases w <;> rfl
@[simp] theorem State.writeResult_uarts (w : Issuer) (b : HostBuf) (bs : List Byte) : (s.writeResult w b bs).uarts = s.uarts := by cases w <;> rfl
@[simp] theorem State.writeResult_factory (w : Issuer) (b : HostBuf) (bs : List Byte) : (s.writeResult w b bs).factory = s.factory := by cases w <;> rfl
@[simp] theorem State.writeResult_sels (w : Issuer) (b : HostBuf) (bs : List Byte) : (s.writeResult w b bs).sels = s.sels := by cases w <;> rfl
@[simp] theorem State.writeResult_dplls (w : Issuer) (b : HostBuf) (bs : List Byte) : (s.writeResult w b bs).dplls = s.dplls := by cases w <;> rfl
@[simp] theorem State.writeResult_syns (w : Issuer) (b : HostBuf) (bs : List Byte) : (s.writeResult w b bs).syns = s.syns := by cases w <;> rfl
@[simp] theorem State.writeResult_outs (w : Issuer) (b : HostBuf) (bs : List Byte) : (s.writeResult w b bs).outs = s.outs := by cases w <;> rfl
@[simp] theorem State.writeResult_arms (w : Issuer) (b : HostBuf) (bs : List Byte) : (s.writeResult w b bs).arms = s.arms := by cases w <;> rfl
@[simp] theorem State.writeResult_gens (w : Issuer) (b : HostBuf) (bs : List Byte) : (s.writeResult w b bs).gens = s.gens := by cases w <;> rfl
@[simp] theorem State.writeResult_faults (w : Issuer) (b : HostBuf) (bs : List Byte) : (s.writeResult w b bs).faults = s.faults := by cases w <;> rfl
@[simp] theorem State.writeResult_tm (w : Issuer) (b : HostBuf) (bs : List Byte) : (s.writeResult w b bs).tm = s.tm := by cases w <;> rfl
@[simp] theorem State.writeResult_store (w : Issuer) (b : HostBuf) (bs : List Byte) : (s.writeResult w b bs).store = s.store := by cases w <;> rfl
@[simp] theorem State.writeResult_boot (w : Issuer) (b : HostBuf) (bs : List Byte) : (s.writeResult w b bs).boot = s.boot := by cases w <;> rfl
@[simp] theorem State.writeResult_net (w : Issuer) (b : HostBuf) (bs : List Byte) : (s.writeResult w b bs).net = s.net := by cases w <;> rfl
@[simp] theorem State.writeResult_tics (w : Issuer) (b : HostBuf) (bs : List Byte) : (s.writeResult w b bs).tics = s.tics := by cases w <;> rfl
@[simp] theorem State.writeResult_repair (w : Issuer) (b : HostBuf) (bs : List Byte) : (s.writeResult w b bs).repair = s.repair := by cases w <;> rfl
@[simp] theorem State.writeResult_pmcs (w : Issuer) (b : HostBuf) (bs : List Byte) : (s.writeResult w b bs).pmcs = s.pmcs := by cases w <;> rfl
@[simp] theorem State.writeResult_mate (w : Issuer) (b : HostBuf) (bs : List Byte) : (s.writeResult w b bs).mate = s.mate := by cases w <;> rfl
@[simp] theorem State.writeResult_pending (w : Issuer) (b : HostBuf) (bs : List Byte) : (s.writeResult w b bs).pending = s.pending := by cases w <;> rfl
@[simp] theorem State.writeResult_freeCount (w : Issuer) (b : HostBuf) (bs : List Byte) : (s.writeResult w b bs).freeCount = s.freeCount := by cases w <;> rfl

@[simp] theorem State.dropSends_counter (l : List Issuer) : (s.dropSends l).counter = s.counter := by
  induction l generalizing s with
  | nil => rfl
  | cons w ws ih => unfold State.dropSends; rw [ih]; simp
@[simp] theorem State.failSends_counter (l : List Issuer) : (s.failSends l).counter = s.counter := by
  induction l generalizing s with
  | nil => rfl
  | cons w ws ih => unfold State.failSends; rw [ih]; simp
@[simp] theorem State.dropSends_crucible (l : List Issuer) : (s.dropSends l).crucible = s.crucible := by
  induction l generalizing s with
  | nil => rfl
  | cons w ws ih => unfold State.dropSends; rw [ih]; simp
@[simp] theorem State.failSends_crucible (l : List Issuer) : (s.failSends l).crucible = s.crucible := by
  induction l generalizing s with
  | nil => rfl
  | cons w ws ih => unfold State.failSends; rw [ih]; simp
@[simp] theorem State.dropSends_doms (l : List Issuer) : (s.dropSends l).doms = s.doms := by
  induction l generalizing s with
  | nil => rfl
  | cons w ws ih => unfold State.dropSends; rw [ih]; simp
@[simp] theorem State.failSends_doms (l : List Issuer) : (s.failSends l).doms = s.doms := by
  induction l generalizing s with
  | nil => rfl
  | cons w ws ih => unfold State.failSends; rw [ih]; simp
@[simp] theorem State.dropSends_inputs (l : List Issuer) : (s.dropSends l).inputs = s.inputs := by
  induction l generalizing s with
  | nil => rfl
  | cons w ws ih => unfold State.dropSends; rw [ih]; simp
@[simp] theorem State.dropSends_uarts (l : List Issuer) : (s.dropSends l).uarts = s.uarts := by
  induction l generalizing s with
  | nil => rfl
  | cons w ws ih => unfold State.dropSends; rw [ih]; simp
@[simp] theorem State.dropSends_factory (l : List Issuer) : (s.dropSends l).factory = s.factory := by
  induction l generalizing s with
  | nil => rfl
  | cons w ws ih => unfold State.dropSends; rw [ih]; simp
@[simp] theorem State.failSends_inputs (l : List Issuer) : (s.failSends l).inputs = s.inputs := by
  induction l generalizing s with
  | nil => rfl
  | cons w ws ih => unfold State.failSends; rw [ih]; simp
@[simp] theorem State.failSends_uarts (l : List Issuer) : (s.failSends l).uarts = s.uarts := by
  induction l generalizing s with
  | nil => rfl
  | cons w ws ih => unfold State.failSends; rw [ih]; simp
@[simp] theorem State.failSends_factory (l : List Issuer) : (s.failSends l).factory = s.factory := by
  induction l generalizing s with
  | nil => rfl
  | cons w ws ih => unfold State.failSends; rw [ih]; simp
@[simp] theorem State.dropSends_sels (l : List Issuer) : (s.dropSends l).sels = s.sels := by
  induction l generalizing s with
  | nil => rfl
  | cons w ws ih => unfold State.dropSends; rw [ih]; simp
@[simp] theorem State.failSends_sels (l : List Issuer) : (s.failSends l).sels = s.sels := by
  induction l generalizing s with
  | nil => rfl
  | cons w ws ih => unfold State.failSends; rw [ih]; simp
@[simp] theorem State.dropSends_dplls (l : List Issuer) : (s.dropSends l).dplls = s.dplls := by
  induction l generalizing s with
  | nil => rfl
  | cons w ws ih => unfold State.dropSends; rw [ih]; simp
@[simp] theorem State.failSends_dplls (l : List Issuer) : (s.failSends l).dplls = s.dplls := by
  induction l generalizing s with
  | nil => rfl
  | cons w ws ih => unfold State.failSends; rw [ih]; simp
@[simp] theorem State.dropSends_syns (l : List Issuer) : (s.dropSends l).syns = s.syns := by
  induction l generalizing s with
  | nil => rfl
  | cons w ws ih => unfold State.dropSends; rw [ih]; simp
@[simp] theorem State.failSends_syns (l : List Issuer) : (s.failSends l).syns = s.syns := by
  induction l generalizing s with
  | nil => rfl
  | cons w ws ih => unfold State.failSends; rw [ih]; simp
@[simp] theorem State.dropSends_outs (l : List Issuer) : (s.dropSends l).outs = s.outs := by
  induction l generalizing s with
  | nil => rfl
  | cons w ws ih => unfold State.dropSends; rw [ih]; simp
@[simp] theorem State.failSends_outs (l : List Issuer) : (s.failSends l).outs = s.outs := by
  induction l generalizing s with
  | nil => rfl
  | cons w ws ih => unfold State.failSends; rw [ih]; simp
@[simp] theorem State.dropSends_arms (l : List Issuer) : (s.dropSends l).arms = s.arms := by
  induction l generalizing s with
  | nil => rfl
  | cons w ws ih => unfold State.dropSends; rw [ih]; simp
@[simp] theorem State.failSends_arms (l : List Issuer) : (s.failSends l).arms = s.arms := by
  induction l generalizing s with
  | nil => rfl
  | cons w ws ih => unfold State.failSends; rw [ih]; simp
@[simp] theorem State.dropSends_gens (l : List Issuer) : (s.dropSends l).gens = s.gens := by
  induction l generalizing s with
  | nil => rfl
  | cons w ws ih => unfold State.dropSends; rw [ih]; simp
@[simp] theorem State.failSends_gens (l : List Issuer) : (s.failSends l).gens = s.gens := by
  induction l generalizing s with
  | nil => rfl
  | cons w ws ih => unfold State.failSends; rw [ih]; simp
@[simp] theorem State.dropSends_boot (l : List Issuer) : (s.dropSends l).boot = s.boot := by
  induction l generalizing s with
  | nil => rfl
  | cons w ws ih => unfold State.dropSends; rw [ih]; simp
@[simp] theorem State.failSends_boot (l : List Issuer) : (s.failSends l).boot = s.boot := by
  induction l generalizing s with
  | nil => rfl
  | cons w ws ih => unfold State.failSends; rw [ih]; simp
@[simp] theorem State.dropSends_net (l : List Issuer) : (s.dropSends l).net = s.net := by
  induction l generalizing s with
  | nil => rfl
  | cons w ws ih => unfold State.dropSends; rw [ih]; simp
@[simp] theorem State.failSends_net (l : List Issuer) : (s.failSends l).net = s.net := by
  induction l generalizing s with
  | nil => rfl
  | cons w ws ih => unfold State.failSends; rw [ih]; simp
@[simp] theorem State.dropSends_tics (l : List Issuer) : (s.dropSends l).tics = s.tics := by
  induction l generalizing s with
  | nil => rfl
  | cons w ws ih => unfold State.dropSends; rw [ih]; simp
@[simp] theorem State.failSends_tics (l : List Issuer) : (s.failSends l).tics = s.tics := by
  induction l generalizing s with
  | nil => rfl
  | cons w ws ih => unfold State.failSends; rw [ih]; simp
@[simp] theorem State.dropSends_repair (l : List Issuer) : (s.dropSends l).repair = s.repair := by
  induction l generalizing s with
  | nil => rfl
  | cons w ws ih => unfold State.dropSends; rw [ih]; simp
@[simp] theorem State.failSends_repair (l : List Issuer) : (s.failSends l).repair = s.repair := by
  induction l generalizing s with
  | nil => rfl
  | cons w ws ih => unfold State.failSends; rw [ih]; simp
@[simp] theorem State.dropSends_pmcs (l : List Issuer) : (s.dropSends l).pmcs = s.pmcs := by
  induction l generalizing s with
  | nil => rfl
  | cons w ws ih => unfold State.dropSends; rw [ih]; simp
@[simp] theorem State.failSends_pmcs (l : List Issuer) : (s.failSends l).pmcs = s.pmcs := by
  induction l generalizing s with
  | nil => rfl
  | cons w ws ih => unfold State.failSends; rw [ih]; simp
@[simp] theorem State.dropSends_mate (l : List Issuer) : (s.dropSends l).mate = s.mate := by
  induction l generalizing s with
  | nil => rfl
  | cons w ws ih => unfold State.dropSends; rw [ih]; simp
@[simp] theorem State.failSends_mate (l : List Issuer) : (s.failSends l).mate = s.mate := by
  induction l generalizing s with
  | nil => rfl
  | cons w ws ih => unfold State.failSends; rw [ih]; simp
@[simp] theorem State.dropSends_pending (l : List Issuer) : (s.dropSends l).pending = s.pending := by
  induction l generalizing s with
  | nil => rfl
  | cons w ws ih => unfold State.dropSends; rw [ih]; simp
@[simp] theorem State.failSends_pending (l : List Issuer) : (s.failSends l).pending = s.pending := by
  induction l generalizing s with
  | nil => rfl
  | cons w ws ih => unfold State.failSends; rw [ih]; simp
@[simp] theorem State.dropSends_freeCount (l : List Issuer) : (s.dropSends l).freeCount = s.freeCount := by
  induction l generalizing s with
  | nil => rfl
  | cons w ws ih => unfold State.dropSends; rw [ih]; simp
@[simp] theorem State.failSends_freeCount (l : List Issuer) : (s.failSends l).freeCount = s.freeCount := by
  induction l generalizing s with
  | nil => rfl
  | cons w ws ih => unfold State.failSends; rw [ih]; simp

/-! ### What `tellDesc` leaves alone, once and over a list -/

@[simp] theorem State.tellDesc_counter (f : TxFrame) (st : DescState) : (s.tellDesc f st).counter = s.counter := by
  unfold State.tellDesc; split <;> simp
@[simp] theorem State.tellDesc_crucible (f : TxFrame) (st : DescState) : (s.tellDesc f st).crucible = s.crucible := by
  unfold State.tellDesc; split <;> simp
@[simp] theorem State.tellDesc_doms (f : TxFrame) (st : DescState) : (s.tellDesc f st).doms = s.doms := by
  unfold State.tellDesc; split <;> simp
@[simp] theorem State.tellDesc_inputs (f : TxFrame) (st : DescState) : (s.tellDesc f st).inputs = s.inputs := by
  unfold State.tellDesc; split <;> simp
@[simp] theorem State.tellDesc_uarts (f : TxFrame) (st : DescState) : (s.tellDesc f st).uarts = s.uarts := by
  unfold State.tellDesc; split <;> simp
@[simp] theorem State.tellDesc_factory (f : TxFrame) (st : DescState) : (s.tellDesc f st).factory = s.factory := by
  unfold State.tellDesc; split <;> simp
@[simp] theorem State.tellDesc_sels (f : TxFrame) (st : DescState) : (s.tellDesc f st).sels = s.sels := by
  unfold State.tellDesc; split <;> simp
@[simp] theorem State.tellDesc_dplls (f : TxFrame) (st : DescState) : (s.tellDesc f st).dplls = s.dplls := by
  unfold State.tellDesc; split <;> simp
@[simp] theorem State.tellDesc_syns (f : TxFrame) (st : DescState) : (s.tellDesc f st).syns = s.syns := by
  unfold State.tellDesc; split <;> simp
@[simp] theorem State.tellDesc_outs (f : TxFrame) (st : DescState) : (s.tellDesc f st).outs = s.outs := by
  unfold State.tellDesc; split <;> simp
@[simp] theorem State.tellDesc_arms (f : TxFrame) (st : DescState) : (s.tellDesc f st).arms = s.arms := by
  unfold State.tellDesc; split <;> simp
@[simp] theorem State.tellDesc_gens (f : TxFrame) (st : DescState) : (s.tellDesc f st).gens = s.gens := by
  unfold State.tellDesc; split <;> simp
@[simp] theorem State.tellDesc_host (f : TxFrame) (st : DescState) : (s.tellDesc f st).host = s.host := by
  unfold State.tellDesc; split <;> simp
@[simp] theorem State.tellDesc_boot (f : TxFrame) (st : DescState) : (s.tellDesc f st).boot = s.boot := by
  unfold State.tellDesc; split <;> simp
@[simp] theorem State.tellDesc_net (f : TxFrame) (st : DescState) : (s.tellDesc f st).net = s.net := by
  unfold State.tellDesc; split <;> simp
@[simp] theorem State.tellDesc_tics (f : TxFrame) (st : DescState) : (s.tellDesc f st).tics = s.tics := by
  unfold State.tellDesc; split <;> simp
@[simp] theorem State.tellDesc_repair (f : TxFrame) (st : DescState) : (s.tellDesc f st).repair = s.repair := by
  unfold State.tellDesc; split <;> simp
@[simp] theorem State.tellDesc_pmcs (f : TxFrame) (st : DescState) : (s.tellDesc f st).pmcs = s.pmcs := by
  unfold State.tellDesc; split <;> simp
@[simp] theorem State.tellDesc_mate (f : TxFrame) (st : DescState) : (s.tellDesc f st).mate = s.mate := by
  unfold State.tellDesc; split <;> simp
@[simp] theorem State.tellDesc_pending (f : TxFrame) (st : DescState) : (s.tellDesc f st).pending = s.pending := by
  unfold State.tellDesc; split <;> simp
@[simp] theorem State.tellDesc_freeCount (f : TxFrame) (st : DescState) : (s.tellDesc f st).freeCount = s.freeCount := by
  unfold State.tellDesc; split <;> simp
@[simp] theorem State.tellDesc_out (f : TxFrame) (st : DescState) : (s.tellDesc f st).out = s.out := by
  unfold State.tellDesc; split <;> simp
@[simp] theorem State.tellAll_counter (l : List TxFrame) (st : DescState) : (l.foldl (fun (x : State) f => x.tellDesc f st) s).counter = s.counter := by
  induction l generalizing s with
  | nil => rfl
  | cons f fs ih => rw [List.foldl_cons, ih, State.tellDesc_counter]
@[simp] theorem State.tellAll_crucible (l : List TxFrame) (st : DescState) : (l.foldl (fun (x : State) f => x.tellDesc f st) s).crucible = s.crucible := by
  induction l generalizing s with
  | nil => rfl
  | cons f fs ih => rw [List.foldl_cons, ih, State.tellDesc_crucible]
@[simp] theorem State.tellAll_doms (l : List TxFrame) (st : DescState) : (l.foldl (fun (x : State) f => x.tellDesc f st) s).doms = s.doms := by
  induction l generalizing s with
  | nil => rfl
  | cons f fs ih => rw [List.foldl_cons, ih, State.tellDesc_doms]
@[simp] theorem State.tellAll_inputs (l : List TxFrame) (st : DescState) : (l.foldl (fun (x : State) f => x.tellDesc f st) s).inputs = s.inputs := by
  induction l generalizing s with
  | nil => rfl
  | cons f fs ih => rw [List.foldl_cons, ih, State.tellDesc_inputs]
@[simp] theorem State.tellAll_uarts (l : List TxFrame) (st : DescState) : (l.foldl (fun (x : State) f => x.tellDesc f st) s).uarts = s.uarts := by
  induction l generalizing s with
  | nil => rfl
  | cons f fs ih => rw [List.foldl_cons, ih, State.tellDesc_uarts]
@[simp] theorem State.tellAll_factory (l : List TxFrame) (st : DescState) : (l.foldl (fun (x : State) f => x.tellDesc f st) s).factory = s.factory := by
  induction l generalizing s with
  | nil => rfl
  | cons f fs ih => rw [List.foldl_cons, ih, State.tellDesc_factory]
@[simp] theorem State.tellAll_sels (l : List TxFrame) (st : DescState) : (l.foldl (fun (x : State) f => x.tellDesc f st) s).sels = s.sels := by
  induction l generalizing s with
  | nil => rfl
  | cons f fs ih => rw [List.foldl_cons, ih, State.tellDesc_sels]
@[simp] theorem State.tellAll_dplls (l : List TxFrame) (st : DescState) : (l.foldl (fun (x : State) f => x.tellDesc f st) s).dplls = s.dplls := by
  induction l generalizing s with
  | nil => rfl
  | cons f fs ih => rw [List.foldl_cons, ih, State.tellDesc_dplls]
@[simp] theorem State.tellAll_syns (l : List TxFrame) (st : DescState) : (l.foldl (fun (x : State) f => x.tellDesc f st) s).syns = s.syns := by
  induction l generalizing s with
  | nil => rfl
  | cons f fs ih => rw [List.foldl_cons, ih, State.tellDesc_syns]
@[simp] theorem State.tellAll_outs (l : List TxFrame) (st : DescState) : (l.foldl (fun (x : State) f => x.tellDesc f st) s).outs = s.outs := by
  induction l generalizing s with
  | nil => rfl
  | cons f fs ih => rw [List.foldl_cons, ih, State.tellDesc_outs]
@[simp] theorem State.tellAll_arms (l : List TxFrame) (st : DescState) : (l.foldl (fun (x : State) f => x.tellDesc f st) s).arms = s.arms := by
  induction l generalizing s with
  | nil => rfl
  | cons f fs ih => rw [List.foldl_cons, ih, State.tellDesc_arms]
@[simp] theorem State.tellAll_gens (l : List TxFrame) (st : DescState) : (l.foldl (fun (x : State) f => x.tellDesc f st) s).gens = s.gens := by
  induction l generalizing s with
  | nil => rfl
  | cons f fs ih => rw [List.foldl_cons, ih, State.tellDesc_gens]
@[simp] theorem State.tellAll_host (l : List TxFrame) (st : DescState) : (l.foldl (fun (x : State) f => x.tellDesc f st) s).host = s.host := by
  induction l generalizing s with
  | nil => rfl
  | cons f fs ih => rw [List.foldl_cons, ih, State.tellDesc_host]
@[simp] theorem State.tellAll_boot (l : List TxFrame) (st : DescState) : (l.foldl (fun (x : State) f => x.tellDesc f st) s).boot = s.boot := by
  induction l generalizing s with
  | nil => rfl
  | cons f fs ih => rw [List.foldl_cons, ih, State.tellDesc_boot]
@[simp] theorem State.tellAll_net (l : List TxFrame) (st : DescState) : (l.foldl (fun (x : State) f => x.tellDesc f st) s).net = s.net := by
  induction l generalizing s with
  | nil => rfl
  | cons f fs ih => rw [List.foldl_cons, ih, State.tellDesc_net]
@[simp] theorem State.tellAll_tics (l : List TxFrame) (st : DescState) : (l.foldl (fun (x : State) f => x.tellDesc f st) s).tics = s.tics := by
  induction l generalizing s with
  | nil => rfl
  | cons f fs ih => rw [List.foldl_cons, ih, State.tellDesc_tics]
@[simp] theorem State.tellAll_repair (l : List TxFrame) (st : DescState) : (l.foldl (fun (x : State) f => x.tellDesc f st) s).repair = s.repair := by
  induction l generalizing s with
  | nil => rfl
  | cons f fs ih => rw [List.foldl_cons, ih, State.tellDesc_repair]
@[simp] theorem State.tellAll_pmcs (l : List TxFrame) (st : DescState) : (l.foldl (fun (x : State) f => x.tellDesc f st) s).pmcs = s.pmcs := by
  induction l generalizing s with
  | nil => rfl
  | cons f fs ih => rw [List.foldl_cons, ih, State.tellDesc_pmcs]
@[simp] theorem State.tellAll_mate (l : List TxFrame) (st : DescState) : (l.foldl (fun (x : State) f => x.tellDesc f st) s).mate = s.mate := by
  induction l generalizing s with
  | nil => rfl
  | cons f fs ih => rw [List.foldl_cons, ih, State.tellDesc_mate]
@[simp] theorem State.tellAll_pending (l : List TxFrame) (st : DescState) : (l.foldl (fun (x : State) f => x.tellDesc f st) s).pending = s.pending := by
  induction l generalizing s with
  | nil => rfl
  | cons f fs ih => rw [List.foldl_cons, ih, State.tellDesc_pending]
@[simp] theorem State.tellAll_freeCount (l : List TxFrame) (st : DescState) : (l.foldl (fun (x : State) f => x.tellDesc f st) s).freeCount = s.freeCount := by
  induction l generalizing s with
  | nil => rfl
  | cons f fs ih => rw [List.foldl_cons, ih, State.tellDesc_freeCount]
@[simp] theorem State.tellAll_out (l : List TxFrame) (st : DescState) : (l.foldl (fun (x : State) f => x.tellDesc f st) s).out = s.out := by
  induction l generalizing s with
  | nil => rfl
  | cons f fs ih => rw [List.foldl_cons, ih, State.tellDesc_out]

/-! ### What `dropFrames` leaves alone -/

@[simp] theorem State.dropFrames_counter (p : Nat) : (s.dropFrames p).counter = s.counter := by simp [State.dropFrames]
@[simp] theorem State.dropFrames_crucible (p : Nat) : (s.dropFrames p).crucible = s.crucible := by simp [State.dropFrames]
@[simp] theorem State.dropFrames_doms (p : Nat) : (s.dropFrames p).doms = s.doms := by simp [State.dropFrames]
@[simp] theorem State.dropFrames_inputs (p : Nat) : (s.dropFrames p).inputs = s.inputs := by simp [State.dropFrames]
@[simp] theorem State.dropFrames_uarts (p : Nat) : (s.dropFrames p).uarts = s.uarts := by simp [State.dropFrames]
@[simp] theorem State.dropFrames_factory (p : Nat) : (s.dropFrames p).factory = s.factory := by simp [State.dropFrames]
@[simp] theorem State.dropFrames_sels (p : Nat) : (s.dropFrames p).sels = s.sels := by simp [State.dropFrames]
@[simp] theorem State.dropFrames_dplls (p : Nat) : (s.dropFrames p).dplls = s.dplls := by simp [State.dropFrames]
@[simp] theorem State.dropFrames_syns (p : Nat) : (s.dropFrames p).syns = s.syns := by simp [State.dropFrames]
@[simp] theorem State.dropFrames_outs (p : Nat) : (s.dropFrames p).outs = s.outs := by simp [State.dropFrames]
@[simp] theorem State.dropFrames_arms (p : Nat) : (s.dropFrames p).arms = s.arms := by simp [State.dropFrames]
@[simp] theorem State.dropFrames_gens (p : Nat) : (s.dropFrames p).gens = s.gens := by simp [State.dropFrames]
@[simp] theorem State.dropFrames_boot (p : Nat) : (s.dropFrames p).boot = s.boot := by simp [State.dropFrames]
@[simp] theorem State.dropFrames_tics (p : Nat) : (s.dropFrames p).tics = s.tics := by simp [State.dropFrames]
@[simp] theorem State.dropFrames_repair (p : Nat) : (s.dropFrames p).repair = s.repair := by simp [State.dropFrames]
@[simp] theorem State.dropFrames_pmcs (p : Nat) : (s.dropFrames p).pmcs = s.pmcs := by simp [State.dropFrames]
@[simp] theorem State.dropFrames_mate (p : Nat) : (s.dropFrames p).mate = s.mate := by simp [State.dropFrames]
@[simp] theorem State.dropFrames_pending (p : Nat) : (s.dropFrames p).pending = s.pending := by simp [State.dropFrames]
@[simp] theorem State.dropFrames_freeCount (p : Nat) : (s.dropFrames p).freeCount = s.freeCount := by simp [State.dropFrames]

/-! ### What `countSafe` leaves alone -/

@[simp] theorem State.countSafe_counter (t : State) : (State.countSafe t s).counter = s.counter := by
  unfold State.countSafe; refine State.forEach_keeps (·.counter) _ (fun u n => ?_) _ _; split <;> simp
@[simp] theorem State.countSafe_crucible (t : State) : (State.countSafe t s).crucible = s.crucible := by
  unfold State.countSafe; refine State.forEach_keeps (·.crucible) _ (fun u n => ?_) _ _; split <;> simp
@[simp] theorem State.countSafe_doms (t : State) : (State.countSafe t s).doms = s.doms := by
  unfold State.countSafe; refine State.forEach_keeps (·.doms) _ (fun u n => ?_) _ _; split <;> simp
@[simp] theorem State.countSafe_inputs (t : State) : (State.countSafe t s).inputs = s.inputs := by
  unfold State.countSafe; refine State.forEach_keeps (·.inputs) _ (fun u n => ?_) _ _; split <;> simp
@[simp] theorem State.countSafe_uarts (t : State) : (State.countSafe t s).uarts = s.uarts := by
  unfold State.countSafe; refine State.forEach_keeps (·.uarts) _ (fun u n => ?_) _ _; split <;> simp
@[simp] theorem State.countSafe_factory (t : State) : (State.countSafe t s).factory = s.factory := by
  unfold State.countSafe; refine State.forEach_keeps (·.factory) _ (fun u n => ?_) _ _; split <;> simp
@[simp] theorem State.countSafe_sels (t : State) : (State.countSafe t s).sels = s.sels := by
  unfold State.countSafe; refine State.forEach_keeps (·.sels) _ (fun u n => ?_) _ _; split <;> simp
@[simp] theorem State.countSafe_dplls (t : State) : (State.countSafe t s).dplls = s.dplls := by
  unfold State.countSafe; refine State.forEach_keeps (·.dplls) _ (fun u n => ?_) _ _; split <;> simp
@[simp] theorem State.countSafe_syns (t : State) : (State.countSafe t s).syns = s.syns := by
  unfold State.countSafe; refine State.forEach_keeps (·.syns) _ (fun u n => ?_) _ _; split <;> simp
@[simp] theorem State.countSafe_outs (t : State) : (State.countSafe t s).outs = s.outs := by
  unfold State.countSafe; refine State.forEach_keeps (·.outs) _ (fun u n => ?_) _ _; split <;> simp
@[simp] theorem State.countSafe_arms (t : State) : (State.countSafe t s).arms = s.arms := by
  unfold State.countSafe; refine State.forEach_keeps (·.arms) _ (fun u n => ?_) _ _; split <;> simp
@[simp] theorem State.countSafe_gens (t : State) : (State.countSafe t s).gens = s.gens := by
  unfold State.countSafe; refine State.forEach_keeps (·.gens) _ (fun u n => ?_) _ _; split <;> simp
@[simp] theorem State.countSafe_faults (t : State) : (State.countSafe t s).faults = s.faults := by
  unfold State.countSafe; refine State.forEach_keeps (·.faults) _ (fun u n => ?_) _ _; split <;> simp
@[simp] theorem State.countSafe_host (t : State) : (State.countSafe t s).host = s.host := by
  unfold State.countSafe; refine State.forEach_keeps (·.host) _ (fun u n => ?_) _ _; split <;> simp
@[simp] theorem State.countSafe_tm (t : State) : (State.countSafe t s).tm = s.tm := by
  unfold State.countSafe; refine State.forEach_keeps (·.tm) _ (fun u n => ?_) _ _; split <;> simp
@[simp] theorem State.countSafe_boot (t : State) : (State.countSafe t s).boot = s.boot := by
  unfold State.countSafe; refine State.forEach_keeps (·.boot) _ (fun u n => ?_) _ _; split <;> simp
@[simp] theorem State.countSafe_net (t : State) : (State.countSafe t s).net = s.net := by
  unfold State.countSafe; refine State.forEach_keeps (·.net) _ (fun u n => ?_) _ _; split <;> simp
@[simp] theorem State.countSafe_tics (t : State) : (State.countSafe t s).tics = s.tics := by
  unfold State.countSafe; refine State.forEach_keeps (·.tics) _ (fun u n => ?_) _ _; split <;> simp
@[simp] theorem State.countSafe_repair (t : State) : (State.countSafe t s).repair = s.repair := by
  unfold State.countSafe; refine State.forEach_keeps (·.repair) _ (fun u n => ?_) _ _; split <;> simp
@[simp] theorem State.countSafe_pmcs (t : State) : (State.countSafe t s).pmcs = s.pmcs := by
  unfold State.countSafe; refine State.forEach_keeps (·.pmcs) _ (fun u n => ?_) _ _; split <;> simp
@[simp] theorem State.countSafe_mate (t : State) : (State.countSafe t s).mate = s.mate := by
  unfold State.countSafe; refine State.forEach_keeps (·.mate) _ (fun u n => ?_) _ _; split <;> simp
@[simp] theorem State.countSafe_pending (t : State) : (State.countSafe t s).pending = s.pending := by
  unfold State.countSafe; refine State.forEach_keeps (·.pending) _ (fun u n => ?_) _ _; split <;> simp
@[simp] theorem State.countSafe_freeCount (t : State) : (State.countSafe t s).freeCount = s.freeCount := by
  unfold State.countSafe; refine State.forEach_keeps (·.freeCount) _ (fun u n => ?_) _ _; split <;> simp
@[simp] theorem State.countSafe_out (t : State) : (State.countSafe t s).out = s.out := by
  unfold State.countSafe; refine State.forEach_keeps (·.out) _ (fun u n => ?_) _ _; split <;> simp

/-! ### What `idlePorts` leaves alone -/

@[simp] theorem State.idlePorts_counter (t : State) : (State.idlePorts t s).counter = s.counter := by
  unfold State.idlePorts; refine State.forEach_keeps (·.counter) _ (fun u n => ?_) _ _; split <;> simp
@[simp] theorem State.idlePorts_crucible (t : State) : (State.idlePorts t s).crucible = s.crucible := by
  unfold State.idlePorts; refine State.forEach_keeps (·.crucible) _ (fun u n => ?_) _ _; split <;> simp
@[simp] theorem State.idlePorts_doms (t : State) : (State.idlePorts t s).doms = s.doms := by
  unfold State.idlePorts; refine State.forEach_keeps (·.doms) _ (fun u n => ?_) _ _; split <;> simp
@[simp] theorem State.idlePorts_inputs (t : State) : (State.idlePorts t s).inputs = s.inputs := by
  unfold State.idlePorts; refine State.forEach_keeps (·.inputs) _ (fun u n => ?_) _ _; split <;> simp
@[simp] theorem State.idlePorts_uarts (t : State) : (State.idlePorts t s).uarts = s.uarts := by
  unfold State.idlePorts; refine State.forEach_keeps (·.uarts) _ (fun u n => ?_) _ _; split <;> simp
@[simp] theorem State.idlePorts_factory (t : State) : (State.idlePorts t s).factory = s.factory := by
  unfold State.idlePorts; refine State.forEach_keeps (·.factory) _ (fun u n => ?_) _ _; split <;> simp
@[simp] theorem State.idlePorts_sels (t : State) : (State.idlePorts t s).sels = s.sels := by
  unfold State.idlePorts; refine State.forEach_keeps (·.sels) _ (fun u n => ?_) _ _; split <;> simp
@[simp] theorem State.idlePorts_dplls (t : State) : (State.idlePorts t s).dplls = s.dplls := by
  unfold State.idlePorts; refine State.forEach_keeps (·.dplls) _ (fun u n => ?_) _ _; split <;> simp
@[simp] theorem State.idlePorts_syns (t : State) : (State.idlePorts t s).syns = s.syns := by
  unfold State.idlePorts; refine State.forEach_keeps (·.syns) _ (fun u n => ?_) _ _; split <;> simp
@[simp] theorem State.idlePorts_outs (t : State) : (State.idlePorts t s).outs = s.outs := by
  unfold State.idlePorts; refine State.forEach_keeps (·.outs) _ (fun u n => ?_) _ _; split <;> simp
@[simp] theorem State.idlePorts_arms (t : State) : (State.idlePorts t s).arms = s.arms := by
  unfold State.idlePorts; refine State.forEach_keeps (·.arms) _ (fun u n => ?_) _ _; split <;> simp
@[simp] theorem State.idlePorts_gens (t : State) : (State.idlePorts t s).gens = s.gens := by
  unfold State.idlePorts; refine State.forEach_keeps (·.gens) _ (fun u n => ?_) _ _; split <;> simp
@[simp] theorem State.idlePorts_boot (t : State) : (State.idlePorts t s).boot = s.boot := by
  unfold State.idlePorts; refine State.forEach_keeps (·.boot) _ (fun u n => ?_) _ _; split <;> simp
@[simp] theorem State.idlePorts_tics (t : State) : (State.idlePorts t s).tics = s.tics := by
  unfold State.idlePorts; refine State.forEach_keeps (·.tics) _ (fun u n => ?_) _ _; split <;> simp
@[simp] theorem State.idlePorts_repair (t : State) : (State.idlePorts t s).repair = s.repair := by
  unfold State.idlePorts; refine State.forEach_keeps (·.repair) _ (fun u n => ?_) _ _; split <;> simp
@[simp] theorem State.idlePorts_pmcs (t : State) : (State.idlePorts t s).pmcs = s.pmcs := by
  unfold State.idlePorts; refine State.forEach_keeps (·.pmcs) _ (fun u n => ?_) _ _; split <;> simp
@[simp] theorem State.idlePorts_mate (t : State) : (State.idlePorts t s).mate = s.mate := by
  unfold State.idlePorts; refine State.forEach_keeps (·.mate) _ (fun u n => ?_) _ _; split <;> simp
@[simp] theorem State.idlePorts_pending (t : State) : (State.idlePorts t s).pending = s.pending := by
  unfold State.idlePorts; refine State.forEach_keeps (·.pending) _ (fun u n => ?_) _ _; split <;> simp
@[simp] theorem State.idlePorts_freeCount (t : State) : (State.idlePorts t s).freeCount = s.freeCount := by
  unfold State.idlePorts; refine State.forEach_keeps (·.freeCount) _ (fun u n => ?_) _ _; split <;> simp

/-! ### What `raise` leaves alone -/

@[simp] theorem State.raise_counter (ev : Nat) (c : Bool) (d : Nat) (x : List ScopeItem) : (s.raise ev c d x).counter = s.counter := by unfold State.raise; simp only; split <;> simp
@[simp] theorem State.raise_crucible (ev : Nat) (c : Bool) (d : Nat) (x : List ScopeItem) : (s.raise ev c d x).crucible = s.crucible := by unfold State.raise; simp only; split <;> simp
@[simp] theorem State.raise_doms (ev : Nat) (c : Bool) (d : Nat) (x : List ScopeItem) : (s.raise ev c d x).doms = s.doms := by unfold State.raise; simp only; split <;> simp
@[simp] theorem State.raise_inputs (ev : Nat) (c : Bool) (d : Nat) (x : List ScopeItem) : (s.raise ev c d x).inputs = s.inputs := by unfold State.raise; simp only; split <;> simp
@[simp] theorem State.raise_uarts (ev : Nat) (c : Bool) (d : Nat) (x : List ScopeItem) : (s.raise ev c d x).uarts = s.uarts := by unfold State.raise; simp only; split <;> simp
@[simp] theorem State.raise_factory (ev : Nat) (c : Bool) (d : Nat) (x : List ScopeItem) : (s.raise ev c d x).factory = s.factory := by unfold State.raise; simp only; split <;> simp
@[simp] theorem State.raise_sels (ev : Nat) (c : Bool) (d : Nat) (x : List ScopeItem) : (s.raise ev c d x).sels = s.sels := by unfold State.raise; simp only; split <;> simp
@[simp] theorem State.raise_dplls (ev : Nat) (c : Bool) (d : Nat) (x : List ScopeItem) : (s.raise ev c d x).dplls = s.dplls := by unfold State.raise; simp only; split <;> simp
@[simp] theorem State.raise_syns (ev : Nat) (c : Bool) (d : Nat) (x : List ScopeItem) : (s.raise ev c d x).syns = s.syns := by unfold State.raise; simp only; split <;> simp
@[simp] theorem State.raise_outs (ev : Nat) (c : Bool) (d : Nat) (x : List ScopeItem) : (s.raise ev c d x).outs = s.outs := by unfold State.raise; simp only; split <;> simp
@[simp] theorem State.raise_arms (ev : Nat) (c : Bool) (d : Nat) (x : List ScopeItem) : (s.raise ev c d x).arms = s.arms := by unfold State.raise; simp only; split <;> simp
@[simp] theorem State.raise_gens (ev : Nat) (c : Bool) (d : Nat) (x : List ScopeItem) : (s.raise ev c d x).gens = s.gens := by unfold State.raise; simp only; split <;> simp
@[simp] theorem State.raise_boot (ev : Nat) (c : Bool) (d : Nat) (x : List ScopeItem) : (s.raise ev c d x).boot = s.boot := by unfold State.raise; simp only; split <;> simp
@[simp] theorem State.raise_tics (ev : Nat) (c : Bool) (d : Nat) (x : List ScopeItem) : (s.raise ev c d x).tics = s.tics := by unfold State.raise; simp only; split <;> simp
@[simp] theorem State.raise_repair (ev : Nat) (c : Bool) (d : Nat) (x : List ScopeItem) : (s.raise ev c d x).repair = s.repair := by unfold State.raise; simp only; split <;> simp
@[simp] theorem State.raise_pmcs (ev : Nat) (c : Bool) (d : Nat) (x : List ScopeItem) : (s.raise ev c d x).pmcs = s.pmcs := by unfold State.raise; simp only; split <;> simp
@[simp] theorem State.raise_mate (ev : Nat) (c : Bool) (d : Nat) (x : List ScopeItem) : (s.raise ev c d x).mate = s.mate := by unfold State.raise; simp only; split <;> simp
@[simp] theorem State.raise_pending (ev : Nat) (c : Bool) (d : Nat) (x : List ScopeItem) : (s.raise ev c d x).pending = s.pending := by unfold State.raise; simp only; split <;> simp
@[simp] theorem State.raise_freeCount (ev : Nat) (c : Bool) (d : Nat) (x : List ScopeItem) : (s.raise ev c d x).freeCount = s.freeCount := by unfold State.raise; simp only; split <;> simp

/-! ### What `raiseOnce` leaves alone -/

@[simp] theorem State.raiseOnce_counter (ev d : Nat) (c : Bool) : (s.raiseOnce ev d c).counter = s.counter := by unfold State.raiseOnce; split <;> simp
@[simp] theorem State.raiseOnce_crucible (ev d : Nat) (c : Bool) : (s.raiseOnce ev d c).crucible = s.crucible := by unfold State.raiseOnce; split <;> simp
@[simp] theorem State.raiseOnce_doms (ev d : Nat) (c : Bool) : (s.raiseOnce ev d c).doms = s.doms := by unfold State.raiseOnce; split <;> simp
@[simp] theorem State.raiseOnce_inputs (ev d : Nat) (c : Bool) : (s.raiseOnce ev d c).inputs = s.inputs := by unfold State.raiseOnce; split <;> simp
@[simp] theorem State.raiseOnce_uarts (ev d : Nat) (c : Bool) : (s.raiseOnce ev d c).uarts = s.uarts := by unfold State.raiseOnce; split <;> simp
@[simp] theorem State.raiseOnce_factory (ev d : Nat) (c : Bool) : (s.raiseOnce ev d c).factory = s.factory := by unfold State.raiseOnce; split <;> simp
@[simp] theorem State.raiseOnce_sels (ev d : Nat) (c : Bool) : (s.raiseOnce ev d c).sels = s.sels := by unfold State.raiseOnce; split <;> simp
@[simp] theorem State.raiseOnce_dplls (ev d : Nat) (c : Bool) : (s.raiseOnce ev d c).dplls = s.dplls := by unfold State.raiseOnce; split <;> simp
@[simp] theorem State.raiseOnce_syns (ev d : Nat) (c : Bool) : (s.raiseOnce ev d c).syns = s.syns := by unfold State.raiseOnce; split <;> simp
@[simp] theorem State.raiseOnce_outs (ev d : Nat) (c : Bool) : (s.raiseOnce ev d c).outs = s.outs := by unfold State.raiseOnce; split <;> simp
@[simp] theorem State.raiseOnce_arms (ev d : Nat) (c : Bool) : (s.raiseOnce ev d c).arms = s.arms := by unfold State.raiseOnce; split <;> simp
@[simp] theorem State.raiseOnce_gens (ev d : Nat) (c : Bool) : (s.raiseOnce ev d c).gens = s.gens := by unfold State.raiseOnce; split <;> simp
@[simp] theorem State.raiseOnce_boot (ev d : Nat) (c : Bool) : (s.raiseOnce ev d c).boot = s.boot := by unfold State.raiseOnce; split <;> simp
@[simp] theorem State.raiseOnce_tics (ev d : Nat) (c : Bool) : (s.raiseOnce ev d c).tics = s.tics := by unfold State.raiseOnce; split <;> simp
@[simp] theorem State.raiseOnce_repair (ev d : Nat) (c : Bool) : (s.raiseOnce ev d c).repair = s.repair := by unfold State.raiseOnce; split <;> simp
@[simp] theorem State.raiseOnce_pmcs (ev d : Nat) (c : Bool) : (s.raiseOnce ev d c).pmcs = s.pmcs := by unfold State.raiseOnce; split <;> simp
@[simp] theorem State.raiseOnce_mate (ev d : Nat) (c : Bool) : (s.raiseOnce ev d c).mate = s.mate := by unfold State.raiseOnce; split <;> simp
@[simp] theorem State.raiseOnce_pending (ev d : Nat) (c : Bool) : (s.raiseOnce ev d c).pending = s.pending := by unfold State.raiseOnce; split <;> simp
@[simp] theorem State.raiseOnce_freeCount (ev d : Nat) (c : Bool) : (s.raiseOnce ev d c).freeCount = s.freeCount := by unfold State.raiseOnce; split <;> simp

/-! ### What `uncause` leaves alone -/

@[simp] theorem State.uncause_counter (ev : Nat) : (s.uncause ev).counter = s.counter := by unfold State.uncause; split <;> rfl
@[simp] theorem State.uncause_attrs (ev : Nat) : (s.uncause ev).attrs = s.attrs := by unfold State.uncause; split <;> rfl
@[simp] theorem State.uncause_crucible (ev : Nat) : (s.uncause ev).crucible = s.crucible := by unfold State.uncause; split <;> rfl
@[simp] theorem State.uncause_doms (ev : Nat) : (s.uncause ev).doms = s.doms := by unfold State.uncause; split <;> rfl
@[simp] theorem State.uncause_inputs (ev : Nat) : (s.uncause ev).inputs = s.inputs := by unfold State.uncause; split <;> rfl
@[simp] theorem State.uncause_uarts (ev : Nat) : (s.uncause ev).uarts = s.uarts := by unfold State.uncause; split <;> rfl
@[simp] theorem State.uncause_factory (ev : Nat) : (s.uncause ev).factory = s.factory := by unfold State.uncause; split <;> rfl
@[simp] theorem State.uncause_sels (ev : Nat) : (s.uncause ev).sels = s.sels := by unfold State.uncause; split <;> rfl
@[simp] theorem State.uncause_dplls (ev : Nat) : (s.uncause ev).dplls = s.dplls := by unfold State.uncause; split <;> rfl
@[simp] theorem State.uncause_syns (ev : Nat) : (s.uncause ev).syns = s.syns := by unfold State.uncause; split <;> rfl
@[simp] theorem State.uncause_outs (ev : Nat) : (s.uncause ev).outs = s.outs := by unfold State.uncause; split <;> rfl
@[simp] theorem State.uncause_arms (ev : Nat) : (s.uncause ev).arms = s.arms := by unfold State.uncause; split <;> rfl
@[simp] theorem State.uncause_gens (ev : Nat) : (s.uncause ev).gens = s.gens := by unfold State.uncause; split <;> rfl
@[simp] theorem State.uncause_host (ev : Nat) : (s.uncause ev).host = s.host := by unfold State.uncause; split <;> rfl
@[simp] theorem State.uncause_tm (ev : Nat) : (s.uncause ev).tm = s.tm := by unfold State.uncause; split <;> rfl
@[simp] theorem State.uncause_store (ev : Nat) : (s.uncause ev).store = s.store := by unfold State.uncause; split <;> rfl
@[simp] theorem State.uncause_boot (ev : Nat) : (s.uncause ev).boot = s.boot := by unfold State.uncause; split <;> rfl
@[simp] theorem State.uncause_net (ev : Nat) : (s.uncause ev).net = s.net := by unfold State.uncause; split <;> rfl
@[simp] theorem State.uncause_tics (ev : Nat) : (s.uncause ev).tics = s.tics := by unfold State.uncause; split <;> rfl
@[simp] theorem State.uncause_repair (ev : Nat) : (s.uncause ev).repair = s.repair := by unfold State.uncause; split <;> rfl
@[simp] theorem State.uncause_pmcs (ev : Nat) : (s.uncause ev).pmcs = s.pmcs := by unfold State.uncause; split <;> rfl
@[simp] theorem State.uncause_mate (ev : Nat) : (s.uncause ev).mate = s.mate := by unfold State.uncause; split <;> rfl
@[simp] theorem State.uncause_pending (ev : Nat) : (s.uncause ev).pending = s.pending := by unfold State.uncause; split <;> rfl
@[simp] theorem State.uncause_freeCount (ev : Nat) : (s.uncause ev).freeCount = s.freeCount := by unfold State.uncause; split <;> rfl
@[simp] theorem State.uncause_out (ev : Nat) : (s.uncause ev).out = s.out := by unfold State.uncause; split <;> rfl

end Sys2Proof.Machine
end

