-- ==== Sys2Proof/Laws/Serve.lean ====
section
/-! SUPPORT. What the book-keeping of a completion or an occurrence does to the attributes, and how an action is served. -/

namespace Sys2Proof.Machine

variable (s : State)

/-! ### The attributes that book-keeping leaves alone -/

/-- A key of an attribute that book-keeping does not write. -/
def kept (k : Nat) : Prop := keyId k ∉ bookAttrs

theorem State.find_put_id {a : AttrDesc} {i e k : Nat} (v : Int) (h : keyId k ≠ a.id) (hi : i < 65536) (he : e < 65536) :
    tblFind (s.put a i e v).attrs k = tblFind s.attrs k := by
  refine State.find_put_other s v fun hk => h ?_
  rw [hk, keyId_key hi he]

theorem State.find_add_id {a : AttrDesc} {i e n k : Nat} (h : keyId k ≠ a.id) (hi : i < 65536) (he : e < 65536) :
    tblFind (s.add a i e n).attrs k = tblFind s.attrs k := State.find_put_id s _ h hi he

theorem kept.ne {k : Nat} (h : kept k) {a : AttrDesc} (ha : a.id ∈ bookAttrs) : keyId k ≠ a.id := fun hk => h (hk ▸ ha)

theorem State.logRewritten_find {k : Nat} (h : kept k) (f : Nat) (b : Bool) :
    tblFind (s.logRewritten f b).attrs k = tblFind s.attrs k := by
  unfold State.logRewritten
  split
  · next j hj =>
    have := List.mem_range.1 (List.mem_of_find?_eq_some hj)
    exact State.find_put_id s _ (h.ne (by decide)) (by omega) (by omega)
  · rfl

theorem State.findCheck_find {k : Nat} (h : kept k) (l : Nat) : tblFind (s.findCheck l).attrs k = tblFind s.attrs k := by
  have hb : keyId k ≠ Attr.ce_counts.id := h.ne (by decide)
  unfold State.findCheck
  simp only
  split
  · rfl
  · split
    · rw [State.submit_attrs, State.occurOnce_attrs, State.find_add_id _ hb (by omega) (by omega)]; rfl
    · rw [State.occurOnce_attrs, State.find_add_id _ hb (by omega) (by omega)]; rfl

theorem State.tmWrite_find {k : Nat} (h : kept k) (a : Nat) (bs : List Byte) :
    tblFind (s.tmWrite a bs).attrs k = tblFind s.attrs k := by
  unfold State.tmWrite
  simp only
  split
  · rfl
  · split
    · exact (State.logRewritten_find _ h _ _).trans (State.findCheck_find s h _)
    · exact State.findCheck_find s h _

theorem State.noteWear_find {k : Nat} (h : kept k) (p n : Nat) : tblFind (s.noteWear p n).attrs k = tblFind s.attrs k := by
  have hb : keyId k ≠ Attr.store_wear.id := h.ne (by decide)
  unfold State.noteWear State.put1
  simp only
  split
  · split
    · rw [State.occur_attrs]; exact State.find_put_id s _ hb (by omega) (by omega)
    · exact State.find_put_id s _ hb (by omega) (by omega)
  · rfl

theorem State.storePage_find {k : Nat} (h : kept k) (p : Nat) (b : Bool) :
    tblFind (s.storePage p b).attrs k = tblFind s.attrs k := by
  unfold State.storePage State.put1
  simp only
  rw [State.find_put_id _ _ (h.ne (by decide)) (by omega) (by omega)]
  unfold State.programPage
  simp only
  rw [State.noteWear_find _ h]
  simp

theorem State.storeDown_find {k : Nat} (h : kept k) (n : Nat) :
    ∀ s : State, tblFind (State.storeDown n s).attrs k = tblFind s.attrs k := by
  induction n with
  | zero => intro s; rfl
  | succ n ih =>
    intro s
    unfold State.storeDown
    split
    · rfl
    · split
      · rw [ih, State.storePage_find _ h]
      · rfl

theorem State.enforceLimit_find {k : Nat} (h : kept k) : tblFind s.enforceLimit.attrs k = tblFind s.attrs k := by
  unfold State.enforceLimit
  simp only
  split
  · rfl
  · split
    · rfl
    · rw [State.occurOnce_attrs, State.storeDown_find h]
      exact State.find_add_id s (h.ne (by decide)) (by omega) (by omega)

theorem State.audit_find {k : Nat} (h : kept k) (w : Issuer) (op st i a : Nat) :
    tblFind (s.audit w op st i a).attrs k = tblFind s.attrs k := by
  simp only [State.audit]
  rw [State.tmWrite_find s h]

/-- A completion leaves every attribute but those of the book-keeping alone. -/
theorem State.finish_find {k : Nat} (h : kept k) (w : Issuer) (op st i : Nat) (r : List Byte) (l : Option Nat) (a : Nat) :
    tblFind (s.finish w op st i r l a).attrs k = tblFind s.attrs k := by
  unfold State.finish
  simp only [State.complete_attrs]
  split
  · exact State.enforceLimit_find s h
  · rw [State.audit_find _ h, State.enforceLimit_find s h]

theorem State.dropSends_find {k : Nat} (h : kept k) (l : List Issuer) :
    ∀ s : State, tblFind (s.dropSends l).attrs k = tblFind s.attrs k := by
  induction l with
  | nil => intro s; rfl
  | cons w ws ih => intro s; unfold State.dropSends; rw [ih, State.complete_attrs, State.audit_find _ h]

theorem State.failSends_find {k : Nat} (h : kept k) (l : List Issuer) :
    ∀ s : State, tblFind (s.failSends l).attrs k = tblFind s.attrs k := by
  induction l with
  | nil => intro s; rfl
  | cons w ws ih => intro s; unfold State.failSends; rw [ih, State.finish_find _ h]

theorem State.tellDesc_find {k : Nat} (h : kept k) (f : TxFrame) (st : DescState) :
    tblFind (s.tellDesc f st).attrs k = tblFind s.attrs k := by
  unfold State.tellDesc
  split
  · exact State.tmWrite_find s h _ _
  · rfl

theorem State.tellAll_find {k : Nat} (h : kept k) (l : List TxFrame) (st : DescState) :
    ∀ s : State, tblFind (l.foldl (fun (x : State) f => x.tellDesc f st) s).attrs k = tblFind s.attrs k := by
  induction l with
  | nil => intro s; rfl
  | cons f fs ih => intro s; rw [List.foldl_cons, ih, State.tellDesc_find s h]

theorem State.dropFrames_find {k : Nat} (h : kept k) {p : Nat} (hp : p < 65536) :
    tblFind (s.dropFrames p).attrs k = tblFind s.attrs k := by
  unfold State.dropFrames
  simp only
  rw [State.failSends_find h, State.dropSends_find h, State.find_add_id _ (h.ne (by decide)) hp (by omega), State.tellAll_find h]
  simp

theorem State.countSafe_find {k : Nat} (h : kept k) (t : State) : tblFind (State.countSafe t s).attrs k = tblFind s.attrs k := by
  unfold State.countSafe
  refine State.forEach_keeps_mem (fun u => tblFind u.attrs k) _ _ (fun u n hn => ?_) _
  have := List.mem_range.1 hn
  split
  · exact State.find_add_id u (h.ne (by decide)) (by omega) (by omega)
  · rfl

theorem State.idlePorts_find {k : Nat} (h : kept k) (t : State) : tblFind (State.idlePorts t s).attrs k = tblFind s.attrs k := by
  unfold State.idlePorts
  refine State.forEach_keeps_mem (fun u => tblFind u.attrs k) _ _ (fun u n hn => ?_) _
  have := List.mem_range.1 hn
  split
  · exact State.dropFrames_find u h (by omega)
  · rfl

/-- An occurrence leaves every attribute but those of the book-keeping alone. -/
theorem State.raise_find {k : Nat} (h : kept k) (ev : Nat) (c : Bool) (d : Nat) (x : List ScopeItem) :
    tblFind (s.raise ev c d x).attrs k = tblFind s.attrs k := by
  unfold State.raise
  simp only
  split
  · rw [State.idlePorts_find _ h, State.countSafe_find _ h, State.occur_attrs]
  · rw [State.occur_attrs]

theorem State.raiseOnce_find {k : Nat} (h : kept k) (ev d : Nat) (c : Bool) :
    tblFind (s.raiseOnce ev d c).attrs k = tblFind s.attrs k := by
  unfold State.raiseOnce
  split
  · rw [State.raise_find _ h, State.markOnce_attrs]
  · rfl

/-! ### Attributes as read -/

theorem kept_key {a : AttrDesc} {i e : Nat} (h : a.id ∉ bookAttrs) (hi : i < 65536) (he : e < 65536) : kept (a.key i e) := by
  unfold kept
  rw [keyId_key hi he]
  exact h

theorem State.attr_of_find {s t : State} {a : AttrDesc} {i e : Nat} (h : tblFind t.attrs (a.key i e) = tblFind s.attrs (a.key i e)) :
    t.attr a i e = s.attr a i e := by
  unfold State.attr tblGet
  rw [h]

theorem State.finish_attr {a : AttrDesc} {i e : Nat} (h : a.id ∉ bookAttrs) (hi : i < 65536) (he : e < 65536)
    (w : Issuer) (op st n : Nat) (r : List Byte) (l : Option Nat) (b : Nat) :
    (s.finish w op st n r l b).attr a i e = s.attr a i e :=
  State.attr_of_find (State.finish_find s (kept_key h hi he) w op st n r l b)

theorem State.raise_attr {a : AttrDesc} {i e : Nat} (h : a.id ∉ bookAttrs) (hi : i < 65536) (he : e < 65536)
    (ev : Nat) (c : Bool) (d : Nat) (x : List ScopeItem) : (s.raise ev c d x).attr a i e = s.attr a i e :=
  State.attr_of_find (State.raise_find s (kept_key h hi he) ev c d x)

theorem State.raiseOnce_attr {a : AttrDesc} {i e : Nat} (h : a.id ∉ bookAttrs) (hi : i < 65536) (he : e < 65536)
    (ev d : Nat) (c : Bool) : (s.raiseOnce ev d c).attr a i e = s.attr a i e :=
  State.attr_of_find (State.raiseOnce_find s (kept_key h hi he) ev d c)

/-! ### Table memory -/

theorem State.findCheck_bytes (l : Nat) : (s.findCheck l).tm.bytes = s.tm.bytes := by
  have hsub : ∀ (u : State) (a b : Nat), (u.submit a b).tm.bytes = u.tm.bytes := by
    intro u a b; unfold State.submit; split <;> rfl
  unfold State.findCheck
  simp only
  split
  · rfl
  · split
    · rw [hsub]; simp [State.add, State.setFrame]
    · simp [State.add, State.setFrame]

@[simp] theorem State.markWritten_bytes (l : Nat) : (s.markWritten l).tm.bytes = s.tm.bytes := rfl
@[simp] theorem State.logRewritten_bytes (f : Nat) (b : Bool) : (s.logRewritten f b).tm.bytes = s.tm.bytes := by simp

/-- A write of the module into table memory keeps the canonical form. -/
theorem Memory.wf_tmWrite (a : Nat) (bs : List Byte) (h : Memory.wf s.tm = true) : Memory.wf (s.tmWrite a bs).tm = true := by
  have hw : ∀ m : TableMem, m.bytes = s.tm.bytes → Memory.wf (m.write a bs) = true := by
    intro m hm
    exact Memory.wf_write m a bs (by unfold Memory.wf; rw [hm]; exact h)
  unfold State.tmWrite
  simp only
  split
  · exact h
  · refine hw _ ?_
    rw [State.markWritten_bytes]
    split
    · rw [State.logRewritten_bytes, State.findCheck_bytes]
    · exact State.findCheck_bytes s _

/-- A write of the module changes no byte outside the run. -/
theorem State.tmWrite_byte_other (a x : Nat) (bs : List Byte) (h : x < a ∨ a + bs.length ≤ x) :
    (s.tmWrite a bs).tm.byte x = s.tm.byte x := by
  unfold State.tmWrite
  simp only
  split
  · rfl
  · rw [TableMem.byte_write_other _ _ _ _ h]
    unfold TableMem.byte
    rw [State.markWritten_bytes]
    split
    · rw [State.logRewritten_bytes, State.findCheck_bytes]
    · rw [State.findCheck_bytes]

/-! ### The latches, the rings and the audit record -/

theorem State.occur_latch_other {ev e : Nat} (h : e ≠ ev) (c : Bool) (d : Nat) (x : List ScopeItem) :
    (s.occur ev c d x).latch e = s.latch e := by
  unfold State.occur
  split
  · rfl
  · simp [State.latch, State.setLatch, tblGet_set_other _ _ _ _ h]

theorem State.occurOnce_latch_other {ev e : Nat} (h : e ≠ ev) (d : Nat) : (s.occurOnce ev d).latch e = s.latch e := by
  unfold State.occurOnce
  split
  · rw [State.occur_latch_other _ h]; rfl
  · rfl

@[simp] theorem State.occur_subs (ev : Nat) (c : Bool) (d : Nat) (x : List ScopeItem) : (s.occur ev c d x).faults.subs = s.faults.subs := by
  unfold State.occur; split <;> rfl

@[simp] theorem State.occurOnce_subs (ev d : Nat) : (s.occurOnce ev d).faults.subs = s.faults.subs := by
  unfold State.occurOnce; split
  · rw [State.occur_subs]; rfl
  · rfl

theorem State.latch_of_faults {s t : State} (h : t.faults = s.faults) (e : Nat) : t.latch e = s.latch e := by
  unfold State.latch; rw [h]

theorem State.findCheck_latch {e : Nat} (h : e ≠ 387) (l : Nat) : (s.findCheck l).latch e = s.latch e := by
  unfold State.findCheck
  simp only
  split
  · rfl
  · split
    · rw [State.latch_of_faults (State.submit_faults _ _ _), State.occurOnce_latch_other _ h]
      exact State.latch_of_faults (by simp [State.add]) e
    · rw [State.occurOnce_latch_other _ h]
      exact State.latch_of_faults (by simp [State.add]) e

@[simp] theorem State.findCheck_subs (l : Nat) : (s.findCheck l).faults.subs = s.faults.subs := by
  unfold State.findCheck
  simp only
  split
  · rfl
  · split <;> simp [State.add]

theorem State.tmWrite_latch {e : Nat} (h : e ≠ 387) (a : Nat) (bs : List Byte) : (s.tmWrite a bs).latch e = s.latch e := by
  unfold State.tmWrite
  simp only
  split
  · rfl
  · split
    · exact (State.latch_of_faults (State.logRewritten_faults _ _ _) e).trans (State.findCheck_latch s h _)
    · exact State.findCheck_latch s h _

@[simp] theorem State.tmWrite_subs (a : Nat) (bs : List Byte) : (s.tmWrite a bs).faults.subs = s.faults.subs := by
  unfold State.tmWrite
  simp only
  split
  · rfl
  · split <;> simp

theorem State.noteWear_latch {e : Nat} (h : e ≠ 601) (p n : Nat) : (s.noteWear p n).latch e = s.latch e := by
  unfold State.noteWear
  simp only
  split
  · split
    · rw [State.occur_latch_other _ h]; exact State.latch_of_faults (by simp) e
    · exact State.latch_of_faults (by simp) e
  · rfl

@[simp] theorem State.noteWear_subs (p n : Nat) : (s.noteWear p n).faults.subs = s.faults.subs := by
  unfold State.noteWear
  simp only
  split
  · split <;> simp
  · rfl

@[simp] theorem State.injected_latches (c g : Nat) : (s.injected c g).faults.latches = s.faults.latches := by
  unfold State.injected State.takeInjection
  split
  · next h =>
    split at h
    · split at h <;> simp_all
      subst h
      rfl
    · simp at h
  · rfl

@[simp] theorem State.injected_subs (c g : Nat) : (s.injected c g).faults.subs = s.faults.subs := by
  unfold State.injected State.takeInjection
  split
  · next h =>
    split at h
    · split at h <;> simp_all
      subst h
      rfl
    · simp at h
  · rfl

theorem State.storePage_latch {e : Nat} (h : e ≠ 601) (p : Nat) (b : Bool) : (s.storePage p b).latch e = s.latch e := by
  unfold State.storePage
  simp only
  rw [State.latch_of_faults (State.put1_faults ..)]
  change (s.programPage p s.store.nextTxn 1 b false).latch e = _
  unfold State.programPage
  simp only
  rw [State.noteWear_latch _ h]
  simp [State.latch]

@[simp] theorem State.storePage_subs (p : Nat) (b : Bool) : (s.storePage p b).faults.subs = s.faults.subs := by
  simp [State.storePage, State.programPage]

theorem State.storeDown_latch {e : Nat} (h : e ≠ 601) (n : Nat) : ∀ s : State, (State.storeDown n s).latch e = s.latch e := by
  induction n with
  | zero => intro s; rfl
  | succ n ih =>
    intro s
    unfold State.storeDown
    split
    · rfl
    · split
      · rw [ih, State.storePage_latch _ h]
      · rfl

theorem State.storeDown_subs (n : Nat) : ∀ s : State, (State.storeDown n s).faults.subs = s.faults.subs := by
  induction n with
  | zero => intro s; rfl
  | succ n ih =>
    intro s
    unfold State.storeDown
    split
    · rfl
    · split
      · rw [ih, State.storePage_subs]
      · rfl

theorem State.enforceLimit_latch {e : Nat} (h0 : e ≠ 600) (h1 : e ≠ 601) : s.enforceLimit.latch e = s.latch e := by
  unfold State.enforceLimit
  simp only
  split
  · rfl
  · split
    · rfl
    · rw [State.occurOnce_latch_other _ h0, State.storeDown_latch h1]
      exact State.latch_of_faults (by simp) e

@[simp] theorem State.enforceLimit_subs : s.enforceLimit.faults.subs = s.faults.subs := by
  unfold State.enforceLimit
  simp only
  split
  · rfl
  · split
    · rfl
    · rw [State.occurOnce_subs, State.storeDown_subs]
      simp

@[simp] theorem State.audit_subs (w : Issuer) (op st i a : Nat) : (s.audit w op st i a).faults.subs = s.faults.subs := by
  simp [State.audit]

theorem State.audit_latch {e : Nat} (h : e ≠ 387) (w : Issuer) (op st i a : Nat) : (s.audit w op st i a).latch e = s.latch e := by
  have hf : (s.audit w op st i a).faults = (s.tmWrite s.auditSlot (s.auditRecord w op st i a)).faults := by
    simp only [State.audit]
  rw [State.latch_of_faults hf, State.tmWrite_latch _ h]

@[simp] theorem State.complete_faults' (w : Issuer) (op st : Nat) (r : List Byte) (l : Option Nat) (g : Nat) (e : Nat) :
    (s.complete w op st r l g).latch e = s.latch e := State.latch_of_faults (State.complete_faults ..) e

@[simp] theorem State.complete_rings (w : Issuer) (op st : Nat) (r : List Byte) (l : Option Nat) (g : Nat) :
    (s.complete w op st r l g).host.rings = s.host.rings := by
  unfold State.complete; cases w <;> simp only; all_goals repeat (first | rfl | split)

@[simp] theorem State.complete_inflight (w : Issuer) (op st : Nat) (r : List Byte) (l : Option Nat) (g : Nat) :
    (s.complete w op st r l g).host.inflight = s.host.inflight := by
  unfold State.complete; cases w <;> simp only; all_goals repeat (first | rfl | split)

@[simp] theorem State.finish_rings (w : Issuer) (op st i : Nat) (r : List Byte) (l : Option Nat) (a : Nat) :
    (s.finish w op st i r l a).host.rings = s.host.rings := by
  unfold State.finish; simp only [State.complete_rings]; split <;> simp

@[simp] theorem State.finish_inflight (w : Issuer) (op st i : Nat) (r : List Byte) (l : Option Nat) (a : Nat) :
    (s.finish w op st i r l a).host.inflight = s.host.inflight := by
  unfold State.finish; simp only [State.complete_inflight]; split <;> simp

@[simp] theorem State.finish_subs (w : Issuer) (op st i : Nat) (r : List Byte) (l : Option Nat) (a : Nat) :
    (s.finish w op st i r l a).faults.subs = s.faults.subs := by
  unfold State.finish; simp only [State.complete_faults]; split <;> simp

/-- A completion latches nothing but the sources of its book-keeping. -/
theorem State.finish_latch {e : Nat} (h : e ≠ 387) (h0 : e ≠ 600) (h1 : e ≠ 601) (w : Issuer) (op st i : Nat) (r : List Byte)
    (l : Option Nat) (a : Nat) : (s.finish w op st i r l a).latch e = s.latch e := by
  unfold State.finish
  simp only [State.complete_faults']
  split
  · exact State.enforceLimit_latch s h0 h1
  · rw [State.audit_latch _ h, State.enforceLimit_latch s h0 h1]

theorem bytesLE_length (n : Nat) : ∀ v : Nat, (bytesLE n v).length = n := by
  induction n with
  | zero => intro v; rfl
  | succ n ih => intro v; simp [bytesLE, ih]

/-- The audit record takes 32 bytes at its slot, and every other byte stays (R355). -/
theorem State.audit_memBut (w : Issuer) (op st i a : Nat) : s.memBut (s.audit w op st i a) s.auditSlot 32 := by
  intro x hx
  have hl : (s.auditRecord w op st i a).length = 32 := by
    simp only [State.auditRecord, List.length_append, bytesLE_length, intBytesLE, Nat.reduceAdd]
  have hb : (s.audit w op st i a).tm.byte x = (s.tmWrite s.auditSlot (s.auditRecord w op st i a)).tm.byte x := by
    simp only [State.audit, TableMem.byte]
  rw [hb]
  exact State.tmWrite_byte_other s s.auditSlot x _ (by rw [hl]; exact hx)

/-- A completion writes one record of the audit log and no other byte of table memory. -/
theorem State.finish_memBut (w : Issuer) (op st i : Nat) (r : List Byte) (l : Option Nat) (a : Nat) :
    s.memBut (s.finish w op st i r l a) s.auditSlot 32 := by
  intro x hx
  unfold State.finish
  simp only [State.complete_tm]
  split
  · simp
  · have h := State.audit_memBut s.enforceLimit w op st i a x
    simp only [State.auditSlot, State.enforceLimit_tm] at h
    exact h hx

/-! ### What an occurrence does to the latches -/

/-- The sources that a completion's own book-keeping may latch. -/
def bookSources : List Nat := [387, 600, 601]

theorem bookSources_ne {e : Nat} (h : e ∉ bookSources) : e ≠ 387 ∧ e ≠ 600 ∧ e ≠ 601 := by
  simpa [bookSources] using h

theorem State.dropSends_latch {e : Nat} (h : e ∉ bookSources) (l : List Issuer) :
    ∀ s : State, (s.dropSends l).latch e = s.latch e := by
  obtain ⟨h0, -, -⟩ := bookSources_ne h
  induction l with
  | nil => intro s; rfl
  | cons w ws ih => intro s; unfold State.dropSends; rw [ih, State.complete_faults', State.audit_latch _ h0]

theorem State.failSends_latch {e : Nat} (h : e ∉ bookSources) (l : List Issuer) :
    ∀ s : State, (s.failSends l).latch e = s.latch e := by
  obtain ⟨h0, h1, h2⟩ := bookSources_ne h
  induction l with
  | nil => intro s; rfl
  | cons w ws ih => intro s; unfold State.failSends; rw [ih, State.finish_latch _ h0 h1 h2]

theorem State.tellAll_latch {e : Nat} (h : e ∉ bookSources) (l : List TxFrame) (st : DescState) :
    ∀ s : State, (l.foldl (fun (x : State) f => x.tellDesc f st) s).latch e = s.latch e := by
  obtain ⟨h0, -, -⟩ := bookSources_ne h
  induction l with
  | nil => intro s; rfl
  | cons f fs ih =>
    intro s
    rw [List.foldl_cons, ih]
    unfold State.tellDesc
    split
    · exact State.tmWrite_latch s h0 _ _
    · rfl

theorem State.dropFrames_latch {e : Nat} (h : e ∉ bookSources) (p : Nat) : (s.dropFrames p).latch e = s.latch e := by
  unfold State.dropFrames
  simp only
  rw [State.failSends_latch h, State.dropSends_latch h, State.latch_of_faults (State.add_faults ..), State.tellAll_latch h]
  exact State.latch_of_faults (by simp) e

theorem State.countSafe_latch (t : State) (e : Nat) : (State.countSafe t s).latch e = s.latch e := by
  unfold State.countSafe
  refine State.forEach_keeps (fun u : State => u.latch e) _ (fun u n => ?_) _ _
  split
  · exact State.latch_of_faults (by simp) e
  · rfl

theorem State.idlePorts_latch {e : Nat} (h : e ∉ bookSources) (t : State) : (State.idlePorts t s).latch e = s.latch e := by
  unfold State.idlePorts
  refine State.forEach_keeps (fun u : State => u.latch e) _ (fun u n => ?_) _ _
  split
  · exact State.dropFrames_latch u h n
  · rfl

/-- An occurrence latches no other source. -/
theorem State.raise_latch_other {ev e : Nat} (hne : e ≠ ev) (h : e ∉ bookSources) (c : Bool) (d : Nat) (x : List ScopeItem) :
    (s.raise ev c d x).latch e = s.latch e := by
  unfold State.raise
  simp only
  split
  · rw [State.idlePorts_latch _ h, State.countSafe_latch, State.occur_latch_other _ hne]
  · rw [State.occur_latch_other _ hne]

theorem State.occur_latch_same {ev : Nat} (hd : Ev.defined ev = true) (hn : s.notFitted ev = false) (c : Bool) (d : Nat) (x : List ScopeItem) :
    (s.occur ev c d x).latch ev = s.latchAfter ev c x := by
  unfold State.occur
  simp [hd, hn, State.latch, State.setLatch]

/-- An occurrence leaves its source's latch as R424 to R428 say. -/
theorem State.raise_latch_same {ev : Nat} (hd : Ev.defined ev = true) (hn : s.notFitted ev = false) (h : ev ∉ bookSources) (c : Bool) (d : Nat) (x : List ScopeItem) :
    (s.raise ev c d x).latch ev = s.latchAfter ev c x := by
  unfold State.raise
  simp only
  split
  · rw [State.idlePorts_latch _ h, State.countSafe_latch, State.occur_latch_same _ hd hn]
  · rw [State.occur_latch_same _ hd hn]

@[simp] theorem State.latchAfter_latched (ev : Nat) (c : Bool) (x : List ScopeItem) : (s.latchAfter ev c x).latched = true := rfl
@[simp] theorem State.latchAfter_acked (ev : Nat) (c : Bool) (x : List ScopeItem) : (s.latchAfter ev c x).acked = false := rfl
@[simp] theorem State.latchAfter_cause (ev : Nat) (c : Bool) (x : List ScopeItem) : (s.latchAfter ev c x).cause = c := rfl

/-- A drop of CAUSE leaves every other latch alone. -/
theorem State.uncause_latch_other {ev e : Nat} (h : e ≠ ev) : (s.uncause ev).latch e = s.latch e := by
  unfold State.uncause
  split
  · exact State.latch_setLatch_other s _ h
  · rfl

@[simp] theorem State.uncause_cause (ev : Nat) : ((s.uncause ev).latch ev).cause = false := by
  unfold State.uncause
  split
  · simp
  · next h => simpa using h

@[simp] theorem State.uncause_latched (ev e : Nat) : ((s.uncause ev).latch e).latched = (s.latch e).latched := by
  by_cases h : e = ev
  · subst h
    unfold State.uncause
    split <;> simp
  · rw [State.uncause_latch_other s h]

/-! ### The rings -/

@[simp] theorem State.dropSends_rings (l : List Issuer) : (s.dropSends l).host.rings = s.host.rings := by
  induction l generalizing s with
  | nil => rfl
  | cons w ws ih => unfold State.dropSends; rw [ih]; simp

@[simp] theorem State.failSends_rings (l : List Issuer) : (s.failSends l).host.rings = s.host.rings := by
  induction l generalizing s with
  | nil => rfl
  | cons w ws ih => unfold State.failSends; rw [ih]; simp

@[simp] theorem State.raise_rings (ev : Nat) (c : Bool) (d : Nat) (x : List ScopeItem) :
    (s.raise ev c d x).host.rings = s.host.rings := by
  have hidle : ∀ u t : State, (State.idlePorts t u).host.rings = u.host.rings := by
    intro u t
    unfold State.idlePorts
    refine State.forEach_keeps (fun u : State => u.host.rings) _ (fun u n => ?_) _ _
    split
    · simp [State.dropFrames]
    · rfl
  have hcount : ∀ u t : State, (State.countSafe t u).host = u.host := fun u t => by simp
  unfold State.raise
  simp only
  split
  · rw [hidle, hcount, State.occur_host]
  · rw [State.occur_host]

/-! ### Frames of a completion -/

/-- Where an effect changed no more than `parts`, the attributes with `keys` and the store, its completion keeps that frame. -/
theorem State.framed_finish {s u : State} {parts : List Part} {keys : List Nat}
    (hp : s.sameBut u (parts ++ [.attrs, .faults, .tm, .store, .host, .out])) (ha : ∀ k, k ∉ keys → tblFind u.attrs k = tblFind s.attrs k)
    (ht : u.tm = s.tm) (hf : u.faults = s.faults) (hr : u.host.rings = s.host.rings) (hi : u.host.inflight = s.host.inflight)
    (w : Issuer) (op st i : Nat) (r : List Byte) (l : Option Nat) (a : Nat) : s.framed (u.finish w op st i r l a) parts keys := by
  refine ⟨fun p hpp => ?_, fun k hk hb => ?_, ?_, ?_, ?_, ?_, fun e h0 h1 h2 => ?_⟩
  · have := hp p hpp
    cases p <;> simp_all [State.same]
  · rw [State.finish_find _ hb, ha k hk]
  · have := State.finish_memBut u w op st i r l a
    unfold State.memBut State.auditSlot at this
    rw [ht] at this
    exact this
  · simp [hr]
  · simp [hi]
  · simp [hf]
  · rw [State.finish_latch _ h0 h1 h2, State.latch_of_faults hf]

/-! ### How an action is served (R326, R363) -/

/-- An action that is served, whose buffers can be accessed, that its issuer may send and that no condition refuses, has
its effect. -/
theorem State.act_ok {s : State} {who : Issuer} {a : Action} (f : State → State) (hs : s.service who = .full)
    (hb : a.reachable = true) (hr : s.permits who a.right = true) (hn : firstRefusal a.refusals = none) :
    s.act who a f = f s := by
  simp [State.act, hs, hb, hr, hn]

theorem State.doAct_ok {s : State} {who : Issuer} {a : Action} (f : State → State) (hs : s.service who = .full)
    (hb : a.reachable = true) (hr : s.permits who a.right = true) (hn : firstRefusal a.refusals = none) :
    s.doAct who a f = (f s).finish who a.opcode 0 a.inst [] none a.attr := by
  simp [State.doAct, State.act_ok, hs, hb, hr, hn]

/-- An action that a condition of R360 refuses completes with that condition's status and changes nothing else. -/
theorem State.act_refused {s : State} {who : Issuer} {a : Action} (f : State → State) {code : Nat} (hs : s.service who = .full)
    (hb : a.reachable = true) (hr : s.permits who a.right = true) (hn : firstRefusal a.refusals = some code) :
    s.act who a f = s.finish who a.opcode code a.inst [] none a.attr := by
  simp [State.act, hs, hb, hr, hn]

@[simp] theorem firstRefusal_nil : firstRefusal [] = none := rfl
@[simp] theorem firstRefusal_false (c : Nat) (l : List (Bool × Nat)) : firstRefusal ((false, c) :: l) = firstRefusal l := rfl
@[simp] theorem firstRefusal_true (c : Nat) (l : List (Bool × Nat)) : firstRefusal ((true, c) :: l) = some c := rfl

/-- No condition refuses where none holds. -/
theorem firstRefusal_none {l : List (Bool × Nat)} : firstRefusal l = none ↔ ∀ x ∈ l, x.1 = false := by
  induction l with
  | nil => simp
  | cons x l ih =>
    obtain ⟨b, c⟩ := x
    cases b <;> simp_all

/-- Client 0 holds the rights of client 0. -/
theorem State.permits_owner0 {who : Issuer} (h : issuerClient who = 0) : s.permits who .owner0 = true := by
  simp [State.permits, h]

theorem State.permits_domainOwner {who : Issuer} (d : Nat) (h : issuerClient who = 0) : s.permits who (.domainOwner d) = true := by
  simp [State.permits, h]

@[simp] theorem State.permits_anyone (who : Issuer) : s.permits who .anyone = true := rfl

theorem State.complete_answered (who : Issuer) (op st : Nat) (r : List Byte) (l : Option Nat) (g : Nat)
    (h : ∀ c t, who = .ring c t → s.host.orphans.contains (c.val, t.val) = false) : (s.complete who op st r l g).answered who op st := by
  cases who with
  | ring c t =>
    have h1 : (c.val, t.val) ∉ s.host.orphans := by simpa using h c t rfl
    simp [State.complete, State.answered, h1]
  | spi => simp [State.complete, State.answered]
  | console => exact ⟨_, _, _, rfl⟩

/-- A completion whose command waits is the newest answer to its issuer (R324). -/
theorem State.finish_answered (who : Issuer) (op st i : Nat) (r : List Byte) (l : Option Nat) (a : Nat)
    (h : ∀ c t, who = .ring c t → s.host.orphans.contains (c.val, t.val) = false) : (s.finish who op st i r l a).answered who op st := by
  unfold State.finish
  refine State.complete_answered _ who op st r l 0 fun c t hw => ?_
  have h1 : (c.val, t.val) ∉ s.host.orphans := by simpa using h c t hw
  split <;> simp [h1]

theorem State.serves_full {s : State} {who : Issuer} (h : s.serves who) : s.service who = .full := h.1

theorem State.serves_clear {s : State} {who : Issuer} (h : s.serves who) :
    ∀ c t, who = .ring c t → s.host.orphans.contains (c.val, t.val) = false := by
  intro c t hw
  have := h.2
  subst hw
  exact this

end Sys2Proof.Machine
end

