-- ==== Sys2Proof/Machine/Hardware.lean ====
section
/-! DEFINITION. The module's hardware (R40, R249, R413, R515 to R542): what its contacts carry, the type and pull of its pins, its thresholds,
its test access port, and the figures of its electrical and mechanical tables. It holds no state of its own. -/

namespace Sys2Proof.Machine

/-! ### The thermal interface and the supply (R517, R518, R524 to R529) -/

/-- The highest baseplate temperature in operation, in 0.001 °C (R517). -/
def State.baseplateMax (s : State) : Int := if s.isX then 85000 else 80000

/-- The baseplate temperature in 0.001 °C at an ambient and a dissipation in mW, over a path of `theta` in 0.01 K/W (R517, R518). -/
def baseplateAt (ambient milliwatts theta : Int) : Int := ambient + milliwatts * theta / 100

/-- VMAIN in mV: the start threshold, the power-failure threshold, and the level that counts as restored (R524). -/
def vmainStart : Nat := 10700
def vmainFail : Nat := 10200
def vmainRestored : Nat := 10800

/-- The hold-up after VMAIN falls below its threshold, in ms, with the heaters off (R526). -/
def holdupLeast : Nat := 60

/-- The input current limits in mA: until step 1 completes, for the hold-up bank, and the carrier's supply per module; its power in mW
(R525). -/
def inrushLimit : Nat := 3000
def chargeLimit : Nat := 800
def supplyLimit : Nat := 6500
def supplyPower : Nat := 70000

/-- A row of R529. -/
inductive PowerCondition
  | runTypical
  | runCold
  | runHot
  | warmUp
  | quiet
  | standbyWarm
  | dormant
deriving DecidableEq, Repr

/-- The input power in mW on a Q3 or a Q1 (R529). -/
def inputPower (q3 : Bool) : PowerCondition → Nat
  | .runTypical => if q3 then 43000 else 39000
  | .runCold => if q3 then 54000 else 48000
  | .runHot => if q3 then 47000 else 45000
  | .warmUp => if q3 then 64000 else 50000
  | .quiet => if q3 then 39000 else 35000
  | .standbyWarm => if q3 then 28000 else 24500
  | .dormant => 4000

/-- The row of R529 that a module's power state has at 25 °C. -/
def State.powerCondition (s : State) : PowerCondition :=
  match s.power with
  | .run => if s.attr Attr.warmup_state = 0 then .warmUp else .runTypical
  | .quiet => .quiet
  | .standbyWarm => .standbyWarm
  | .dormant => .dormant

/-- What a port takes off the input power, in mW (R529): 1.1 W at 10G, 1.8 W disabled. -/
def State.portSaving (s : State) (p : Nat) : Nat :=
  if s.attr Attr.port_enable p = 0 then 1800 else if s.attr Attr.port_speed p = 0 then 1100 else 0

/-- The typical input power in mW of a module in RUN (R529). -/
def State.runPower (s : State) : Nat :=
  inputPower s.isQ3 .runTypical - ((List.range 4).map s.portSaving).foldl (· + ·) 0

/-! ### The lanes of the ports (R249, R251) -/

/-- The number of lanes of a mode. -/
def lanesOf (speed : Nat) : Nat := [1, 1, 2, 4].getD speed 4

/-- Whether a lane of P1 is powered (R249): one that its port's mode uses. -/
def State.lanePowered (s : State) (lane : Nat) : Bool := decide (lane % 4 < lanesOf (s.attrN Attr.port_speed (lane / 4)))

/-- The baud rate of a port's lanes in kBd (R249). -/
def State.baudRate (s : State) (p : Nat) : Nat := if s.attr Attr.port_speed p = 0 then 10312500 else 25781250

/-- The SerDes reference of a port as a share of the tap's frequency (R251): the tap divided by 80, 156.25 MHz from 12.5 GHz; a transmitted symbol
follows it as 66 or 165 of its periods. -/
def serdesDivider : Nat := 80
def State.baudFactor (s : State) (p : Nat) : Nat := if s.attr Attr.port_speed p = 0 then 66 else 165

/-! ### Contacts (R519 to R521) -/

/-- What a contact of P1, P2 or an X receptacle carries; `p` tells the positive conductor of a pair, and a conductor without a pair has it
true. -/
inductive Contact
  | ethTx (lane : Nat) (p : Bool)
  | ethRx (lane : Nat) (p : Bool)
  | mateTx (lane : Nat) (p : Bool)
  | mateRx (lane : Nat) (p : Bool)
  | mateClkO (p : Bool)
  | mateClkI (p : Bool)
  | pcieTx (lane : Nat) (p : Bool)
  | pcieRx (lane : Nat) (p : Bool)
  | pcieRefclk (p : Bool)
  | clockIn (i : Nat) (p : Bool)
  | clockOut (o : Nat) (p : Bool)
  | vsyncIn (i : Nat)
  | ltcIn (i : Nat)
  | generator (g : Nat)
  | digital (k : Nat)
  | vmain
  | ground
  | reserved
deriving DecidableEq, Repr

/-- The digital pins of R531 in its order. -/
inductive DigitalPin
  | resetN
  | pwrGood
  | pfN
  | alive
  | intN
  | tempAlertN
  | locka0
  | locka1
  | factoryN
  | rolePri
  | roleAct
  | chgReq
  | chgAck
  | mateAliveIn
  | conTxd
  | conRxd
  | spiSclk
  | spiCsN
  | spiMosi
  | spiMiso
  | todRx0
  | todRx1
  | todTx0
  | todTx1
  | jtagTck
  | jtagTms
  | jtagTdi
  | jtagTdo
  | jtagTrstN
  | perstN
deriving DecidableEq, Repr

/-- The digital pins in the order of P2's positions (R520): A15 to H15, A17 to H17, A19 to H19, A21 to E21; then PERST_N of P1. -/
def digitalPins : List DigitalPin :=
  [.resetN, .pwrGood, .pfN, .alive, .intN, .tempAlertN, .locka0, .locka1,
   .factoryN, .rolePri, .roleAct, .chgReq, .chgAck, .mateAliveIn, .conTxd, .conRxd,
   .spiSclk, .spiCsN, .spiMosi, .spiMiso, .todRx0, .todRx1, .todTx0, .todTx1,
   .jtagTck, .jtagTms, .jtagTdi, .jtagTdo, .jtagTrstN, .perstN]

/-- P1 (R519), by row (A = 0 to H = 7) and column 1 to 50. -/
def p1 (row col : Nat) : Contact :=
  if row = 2 ∨ row = 5 ∨ col % 2 = 0 then .ground
  else if row < 2 then
    let p := row == 0
    if col ≤ 31 then .ethTx ((col - 1) / 2) p
    else if col = 33 ∨ col = 35 then .mateTx ((col - 33) / 2) p
    else if col = 37 then .mateClkO p
    else .reserved
  else if row < 5 then
    let p := row == 3
    if col ≤ 7 then .pcieTx ((col - 1) / 2) p
    else if 11 ≤ col ∧ col ≤ 17 then .pcieRx ((col - 11) / 2) p
    else if col = 21 then .pcieRefclk p
    else if col = 25 ∧ p then .digital 29
    else .reserved
  else
    let p := row == 6
    if col ≤ 31 then .ethRx ((col - 1) / 2) p
    else if col = 33 ∨ col = 35 then .mateRx ((col - 33) / 2) p
    else if col = 37 then .mateClkI p
    else .reserved

/-- P2 (R520), by row (A = 0 to H = 7) and column 1 to 30. -/
def p2 (row col : Nat) : Contact :=
  if col ≤ 3 then .vmain
  else if col ≤ 6 then .ground
  else if col ≤ 14 then
    let k := col - 7
    match row with
    | 0 => .clockIn (8 + k) true
    | 1 => .clockIn (8 + k) false
    | 3 => if k < 4 then .vsyncIn k else if k < 6 then .ltcIn (k - 4) else .generator (14 + (k - 6))
    | 5 => if k < 4 then .generator (8 + k) else if k < 6 then .generator (12 + (k - 4)) else .reserved
    | 7 => .reserved
    | _ => .ground
  else if col = 15 then .digital row
  else if col = 17 then .digital (8 + row)
  else if col = 19 then .digital (16 + row)
  else if col = 21 then (if row < 5 then .digital (24 + row) else .reserved)
  else .ground

/-- A contact of receptacle X1 to X48 (R521); X41 to X48 have one. -/
def xContact (x : Nat) (p : Bool) : Contact :=
  if x ≤ 32 then .clockOut (x - 1) p else if x ≤ 40 then .clockIn (x - 33) p else .generator (x - 41)

/-- The centre of a receptacle in 0.1 mm (R516), and of the fixing holes H1 to H6 (R515). -/
def xCentre (x : Nat) : Nat × Nat := (160 + 80 * ((x - 1) % 12), 60 + 40 * ((x - 1) / 12))
def hole (h : Nat) : Nat × Nat := (40 + 585 * ((h - 1) % 3), if h ≤ 3 then 40 else 910)

/-- The module's size in 0.1 mm and the standoff height (R515, R516). -/
def moduleSize : Nat × Nat × Nat := (1250, 950, 300)
def standoff : Nat := 80

/-! ### Digital pins (R402, R531, R541) -/

inductive PinType
  | input
  | output
  | openDrain
deriving DecidableEq, Repr

inductive Pull
  | none
  | up
  | down
deriving DecidableEq, Repr

def DigitalPin.type : DigitalPin → PinType
  | .pwrGood | .alive | .locka0 | .locka1 | .roleAct | .chgReq | .conTxd | .spiMiso | .todTx0 | .todTx1 | .jtagTdo => .output
  | .intN | .tempAlertN => .openDrain
  | _ => .input

/-- The pull, which acts whether or not the module is powered. -/
def DigitalPin.pull : DigitalPin → Pull
  | .resetN | .pfN | .factoryN | .conRxd | .todRx0 | .todRx1 | .spiCsN | .jtagTms | .jtagTdi => .up
  | .pwrGood | .rolePri | .roleAct | .chgAck | .mateAliveIn | .spiSclk | .spiMosi | .jtagTck | .jtagTrstN | .perstN => .down
  | _ => .none

/-- The level that an open input has (R531, R542): that of its pull. -/
def DigitalPin.open_ (d : DigitalPin) : Pin :=
  match d.pull with
  | .up => .high
  | .down => .low
  | .none => .released

/-- What the module drives on an output; between two characters a serial output stands at mark. SPI_MISO is driven while SPI_CS_N is low, with
the bit `bit` of the transfer (R337); JTAG_TDO in the shift states only. Before the start threshold every output is high impedance, and
ROLE_ACT and PWR_GOOD are held low by their pulls (R524). -/
def State.digitalOut (s : State) (d : DigitalPin) (csLow bit : Bool) : Pin :=
  if s.boot.phase = .off then .released
  else match d with
    | .pwrGood => .of s.pwrGoodLevel
    | .alive => .of s.aliveLevel
    | .locka0 => .of (s.lockaLevel 0)
    | .locka1 => .of (s.lockaLevel 1)
    | .roleAct => .of s.roleActLevel
    | .chgReq => .of s.chgReqLevel
    | .conTxd | .todTx0 | .todTx1 => if decide (s.power = .dormant) && decide (d ≠ .conTxd) then .released else .high
    | .spiMiso => if csLow then .of bit else .released
    | .intN => if s.intNLow then .low else .released
    | .tempAlertN => if s.tempAlertNLow then .low else .released
    | _ => .released

/-- The level that the carrier sees on a pin: what drives it, or its pull. -/
def State.digitalSeen (s : State) (d : DigitalPin) (csLow bit : Bool) : Pin :=
  match s.digitalOut d csLow bit with
  | .released => d.open_
  | x => x

/-- MATE_CLKO (R461): high in the first half of each period of 135 ticks of the free-running counter. -/
def State.mateClkO (s : State) : Bool := decide (s.counter % 135 < 68)

/-! ### The test access port (R531) -/

inductive JtagInstruction
  | idcode
  | bypass
  | sample
  | preload
  | extest
  | factory (code : Nat)
deriving DecidableEq, Repr

/-- What an instruction acts as: an instruction beyond boundary scan acts as BYPASS outside factory test mode. -/
def State.jtagActs (s : State) : JtagInstruction → JtagInstruction
  | .factory c => if s.flag Attr.factory_mode then .factory c else .bypass
  | i => i

/-- Whether boundary scan acts: while RESET_N is low. JTAG_TRST_N low holds the port in reset. -/
def State.boundaryScan (s : State) (trstN : Bool) : Bool := trstN && decide (s.boot.phase = .held)

/-! ### Electrical figures (R530, R532 to R538) -/

/-- The mean level of LOCKA0 or LOCKA1 in µV behind the filter of R177 (R176, R532): its duty of 3.300 V. -/
def State.lockaMicrovolts (s : State) (pin : Nat) : Nat := s.lockaDuty pin * 3300000 / 256

/-- A row of R533: the swing in mV, whether it is per conductor, the common mode in mV where it has one, and the slowest edge in ps. -/
structure DriverRow where
  swing : Nat × Nat
  single : Bool
  common : Option (Nat × Nat)
  edge : Nat
deriving DecidableEq, Repr

/-- R533 by the code of `driver`. -/
def driverRow (driver : Nat) : DriverRow :=
  match driver with
  | 0 => { swing := (250, 450), single := false, common := some (1125, 1375), edge := 150 }
  | 1 => { swing := (600, 850), single := true, common := some (300, 430), edge := 200 }
  | 2 => { swing := (400, 800), single := false, common := none, edge := 60 }
  | 3 => { swing := (600, 900), single := true, common := some (1900, 2100), edge := 100 }
  | _ => { swing := (0, 3300), single := true, common := none, edge := 400 }

/-- What a released output reads at its termination (R533): 0 V differential, 0 V on both conductors of HCSL; an LVCMOS_PAIR floats. -/
def releasedLevel (driver : Nat) : Option Int := if driver = 4 then none else some 0

/-- The single-shot precision of an input at an edge rate in mV/ns (R534): the figure of R95 from 1 V/ns, in inverse proportion down to
0.05 V/ns; slower edges are not supported. -/
def precisionAt (figure rate : Nat) : Option Nat :=
  if 1000 ≤ rate then some figure else if 50 ≤ rate then some (figure * 1000 / rate) else none

/-- The levels in mV of the generators' pins (R535, R537, R538): video into 75 Ω and open, LTC, word clock into 75 Ω and open, AES. -/
def videoLevel (tenths : Int) (openCircuit : Bool) : Int := if openCircuit then 2 * tenths else tenths
def ltcSwing : Nat := 2000
def wordClockHigh (openCircuit : Bool) : Nat := if openCircuit then 3300 else 1650
def aesSwing : Nat := 1000

/-- The least and greatest levels in mV that a pin bears without damage (R522). -/
inductive Stressed
  | vmain
  | lvcmos
  | clockIn
  | clockInDifferential
  | vsyncIn
  | ltcIn
  | output
deriving DecidableEq, Repr

def Stressed.limits : Stressed → Int × Int
  | .vmain => (-500, 16000)
  | .lvcmos => (-500, 3800)
  | .clockIn => (-300, 3600)
  | .clockInDifferential => (-2000, 2000)
  | .vsyncIn => (-3000, 3000)
  | .ltcIn => (-12000, 12000)
  | .output => (-500, 3800)

/-- LVCMOS inputs (R530): the level read, in mV; between the thresholds the last level holds. -/
def lvcmosRead (last : Bool) (millivolts : Int) : Bool := if 2000 ≤ millivolts then true else if millivolts ≤ 800 then false else last

/-- The input levels that R523 recommends, in mV. -/
def vmainRecommended : Nat × Nat := (10800, 13200)

/-- The longest channel in 0.1 dB from P1 to the cage or the peer (R539): ports at 25.78125 Gbaud and at 10.3125, and the mate lanes. -/
def State.channelLoss (s : State) (p : Nat) : Nat := if s.attr Attr.port_speed p = 0 then 40 else 65
def mateChannelLoss : Nat := 100

/-- The times of SPI lite in ns (R540): set-up and hold of SPI_MOSI, SPI_MISO after its edge, each phase of SPI_SCLK, and SPI_CS_N before
and after. -/
def spiTimes : Nat × Nat × Nat × Nat := (3, 8, 8, 5)

/-- Whether a pin may be left open (R542): every unused one but the supply, whose pins are all connected. -/
def Contact.mayStayOpen : Contact → Bool
  | .vmain => false
  | .ground => false
  | _ => true

end Sys2Proof.Machine
end

