-- ==== Sys2Proof/Machine/Registers.lean ====
section
/-! DEFINITION. The configuration space (R310, R311), and what a read of the PCIe windows returns: the registers of BAR0 (R65, R313 to R315), the counter page, the
engine counter blocks and the MSI-X table of BAR4 (R67, R317, R501, R508), and the window into table memory (R376, R388,
R389). None of these reads changes the module but that of EVT_LOST, whose row clears it. -/

namespace Sys2Proof.Machine

/-- The low and the high 32-bit word of a 64-bit value. -/
def lowWord (v : Nat) : Nat := v % 2 ^ 32
def highWord (v : Nat) : Nat := v / 2 ^ 32 % 2 ^ 32

/-- RING_STATUS (R314): LIMIT_HELD and POOL_HELD stand while the fetch still waits. -/
def State.ringStatus (s : State) (c : Nat) : Nat :=
  let r := s.ring c
  boolNat r.active + 2 * boolNat r.denied + 4 * boolNat r.cfgError + 8 * boolNat r.dmaFault + 16 * boolNat r.indexError +
    32 * boolNat (r.limitHeld && decide (s.attrN Attr.client_tag_limit 0 c ≤ s.tagsOut c)) + 64 * boolNat (r.poolHeld && !s.poolFree c) + 128 * boolNat (decide (s.boot.phase = .safeTalk))

/-- TAGS_OUT (R314): the commands in flight and the limit in force. -/
def State.tagsWord (s : State) (c : Nat) : Nat := s.tagsOut c % 512 + s.attrN Attr.client_tag_limit 0 c % 512 * 65536

/-- Whether a client may map the counter page (R314, R318, R513). -/
def State.bar4Allowed (s : State) (c : Nat) : Bool := bitOf (s.attrN Attr.client_counter_map 0 (c / 8)) (c % 8)

/-- SYS_STATE (R315). -/
def State.sysState (s : State) : Nat := boolNat s.firmware + 2 * boolNat (decide (s.boot.phase = .safeTalk))

/-- The register of a client's page at an aligned offset (R65, R314); a write-only register and an unlisted offset read 0. -/
def State.pageRegister (s : State) (c o : Nat) : Nat :=
  let r := s.ring c
  if o = 0x000 then r.cmdPi
  else if o = 0x004 then r.cplCi
  else if o = 0x008 then r.evtCi
  else if o = 0x00C then r.cmdCi
  else if o = 0x010 then lowWord r.cmdBase
  else if o = 0x014 then highWord r.cmdBase
  else if o = 0x018 then lowWord r.cplBase
  else if o = 0x01C then highWord r.cplBase
  else if o = 0x020 then lowWord r.evtBase
  else if o = 0x024 then highWord r.evtBase
  else if o = 0x028 then r.cfg
  else if o = 0x02C then s.ringStatus c
  else if o = 0x034 then boolNat r.armCpl + 2 * boolNat r.armEvt
  else if o = 0x038 then s.tagsWord c
  else if o = 0x03C then r.evtLost
  else if o = 0x040 then boolNat (s.bar4Allowed c)
  else if 0x100 ≤ o ∧ o < 0x120 then natLE (((tblGet s.host.latchBlocks {} c).bytes.drop (o - 0x100)).take 4)
  else 0

/-- An owner register of page 0 (R315, R388). -/
def State.ownerRegister (s : State) (o : Nat) : Nat :=
  if o = 0x800 then s.intStatus
  else if o = 0x804 then s.host.intMask
  else if o = 0x808 then s.host.aliveCfg
  else if o = 0x810 then lowWord s.host.twBase
  else if o = 0x814 then highWord s.host.twBase
  else if o = 0x818 then s.sysState
  else 0

/-- A read of BAR0 (R313): one that is not an aligned 4-byte access returns 0. -/
def State.bar0Read (s : State) (offset length : Nat) : Nat :=
  let o := offset % 0x1000
  if length ≠ 4 ∨ offset % 4 ≠ 0 ∨ 0x200000 ≤ offset then 0
  else if 0x800 ≤ o then (if offset < 0x1000 then s.ownerRegister o else 0)
  else s.pageRegister (offset / 0x1000) o

/-! ### Configuration space (R310, R311) -/

/-- Device ID, class code and Revision ID of the function (R310): the stepping letter's index in [7:4] and its digit in [3:0]. -/
def pcieDeviceId : Nat := 0x5120
def pcieClassCode : Nat := 0x118000
def State.pcieRevisionId (s : State) : Nat := s.attrN Attr.soc_stepping

/-- The capabilities of R310: link speeds in 0.5 GT/s, link widths, maximum payload sizes, the maximum read request size, and the
MSI-X vectors. -/
def pcieLinkSpeeds : List Nat := [5, 10, 16, 32]
def pcieLinkWidths : List Nat := [1, 2, 4]
def pciePayloadSizes : List Nat := [128, 256, 512]
def pcieReadRequestMax : Nat := 4096
def pcieVectors : Nat := 64

/-- The memory BARs (R311): number, size and whether it is prefetchable; each is 64 bits wide. -/
def pcieBars : List (Nat × Nat × Bool) := [(0, 0x200000, false), (2, 0x4000000, true), (4, 0x10000, false)]

/-! ### BAR4 -/

/-- A register of a cluster's counter block (R501): the counters in order, each as its _LO and _HI word, then OVF, CFG_GEN and
ENGINES. -/
def State.counterRegister (s : State) (c o : Nat) : Nat :=
  let r := s.pmc c
  if o < 0x60 then (if o / 4 % 2 = 0 then lowWord else highWord) (s.blockCount c (o / 8))
  else if o = 0x60 then r.ovf
  else if o = 0x64 then r.cfgGen
  else if o = 0x68 then s.clusterEngines c
  else 0

/-- The 32-bit word of BAR4 at an aligned offset (R67, R317, R501). -/
def State.bar4Word (s : State) (offset : Nat) : Nat :=
  if offset = 0 then lowWord s.counter
  else if offset = 4 then highWord s.counter
  else if 0x100 ≤ offset ∧ offset < 0x800 then s.counterRegister ((offset - 0x100) / 0x70) ((offset - 0x100) % 0x70)
  else if 0xE000 ≤ offset ∧ offset < 0xE400 then s.msixWord (offset / 16 % 64) (offset / 4 % 4)
  else if offset = 0xF000 then lowWord s.host.msixPend
  else if offset = 0xF004 then highWord s.host.msixPend
  else 0

/-- A read of BAR4 (R67, R317, R508): an aligned 4-byte read returns one word, and an aligned 8-byte read both words of one
tick. -/
def State.bar4Read (s : State) (offset length : Nat) : Nat :=
  if 0x10000 ≤ offset then 0
  else if length = 4 ∧ offset % 4 = 0 then s.bar4Word offset
  else if length = 8 ∧ offset % 8 = 0 then s.bar4Word offset + s.bar4Word (offset + 4) * 2 ^ 32
  else 0

/-! ### BAR2 (R388, R389) -/

/-- The regions that the window shows (R389); the others read 0. -/
def windowShown (region : Nat) : Bool := [1, 2, 4, 6, 7, 8, 9].contains region

/-- The attributes that the HEADER, GRANTS and SERVO words of a session entry hold, each after the one before (R383; log entry 93). -/
def headerAttrs : List AttrDesc :=
  [Attr.session_sess_state, Attr.session_sess_role, Attr.session_sess_binding, Attr.session_partner_addr, Attr.session_partner_port_id,
   Attr.session_sess_engine]
def grantAttrs : List AttrDesc := [Attr.session_grant_log, Attr.session_grant_remaining, Attr.session_sess_cost]
def servoAttrs : List AttrDesc := [Attr.session_offset_from_master, Attr.session_mean_path_delay]

/-- The counters of a session entry, each in one word (R383). -/
def counterAttrs : List AttrDesc :=
  [Attr.session_tx_msgs, Attr.session_rx_msgs, Attr.session_rx_lost, Attr.session_retries, Attr.session_late_completions,
   Attr.session_grants_exhausted, Attr.session_refusals_rx]

/-- The bytes of a list of attributes of a session, one after the other. -/
def State.sessionBytes (s : State) (n : Nat) (l : List AttrDesc) : List Byte := l.flatMap fun a => s.readRun a n 0 a.count

/-- A device-owned byte of SESSION n's entry (R383): the values that its attributes report, and what the engines keep there beside
them; an entry that is FREE holds 0 there (R384; log entry 93). -/
def State.deviceByte (s : State) (n o : Nat) : Byte :=
  let named :=
    if o < 64 then (s.sessionBytes n headerAttrs)[o]?
    else if o < 256 then (s.sessionBytes n grantAttrs)[o - 128]?
    else if o < 384 then ((counterAttrs.flatMap fun a => bytesLE 8 (s.readElem a n 0).toNat) ++ List.replicate 72 0)[o - 256]?
    else (s.sessionBytes n servoAttrs)[o - 384]?
  match named with
  | some b => b
  | none => if s.attr Attr.session_sess_state n = 0 then 0 else Config.entryByte (entryAddr n + o) s.freeCount

/-- A byte that a window read returns (R376, R389): all ones from a poisoned page, 0 beyond the logical space, and in STANDBY-WARM (R415). -/
def State.windowByte (s : State) (a : Nat) : Byte :=
  if tmSize ≤ a ∨ s.power = .standbyWarm then 0
  else if !windowShown (regionOf (a / 4096)) then 0
  else if s.poisoned (a / 4096) then 0xFF
  else if regionOf (a / 4096) = 1 ∧ hostOwned a = false then s.deviceByte ((a - 0x200000) / 0x800) (a % 0x800)
  else s.tm.byte a

/-- A read through BAR2: its bytes, and whether the completion carries the poisoned bit (R376). -/
def State.bar2Read (s : State) (offset length : Nat) : List Byte × Bool :=
  let addresses := (List.range length).map fun k => s.host.twBase + offset + k
  (addresses.map s.windowByte, decide (s.power ≠ .standbyWarm) && addresses.any fun a => decide (a < tmSize) && windowShown (regionOf (a / 4096)) && s.poisoned (a / 4096))

end Sys2Proof.Machine
end

