-- ==== Sys2Proof/Tests/Slice0.lean ====
section
/-! SUPPORT. Small tests: a command out of each field that the well-formedness check is about, the worked examples of the
spec on the operations that they are about, single commands on small states, and for each statement a state and operands
that meet the hypotheses of each of its clauses. -/

namespace Sys2Proof.Tests
set_option Elab.async false
open Sys2Proof Sys2Proof.Machine

/-! ### States that tests and witnesses start from -/


/-- The state after reset, from which the witnesses start. -/
abbrev s0 : State := State.reset
/-- DOMAIN511 is CREATED, and its servo is off. -/
def sDom : State := (s0.put1 Attr.domain_state 511 1).put1 Attr.domain_servo_mode 511 1
/-- DOMAIN511 is bound to DPLL15. -/
def sBound : State := (sDom.put1 Attr.domain_bound_dpll 511 15)
/-- PORT3 is enabled, with its link up and PTP usable. -/
def sPort : State := ((sDom.put1 Attr.port_enable 3 1).put1 Attr.port_link_state 3 1).setPort 3 { ready := true }
/-- PORT3 with a multicast binding in slot 31 to DOMAIN511. -/
def sBind : State := sPort.put Attr.port_bindings 3 31 0xa000000010000000a000100ff01ff00808080808080101000
/-- PORT3 with a unicast binding in slot 31 to DOMAIN511. -/
def sUni : State := sPort.put Attr.port_bindings 3 31 0xa000000010000000a000100ff01ff00808080808080121000
/-- A partner. -/
def partner : Partner := ⟨5, 7⟩
/-- A received message without an AUTHENTICATION TLV. -/
def head : PtpHead := ⟨partner, none, 9⟩
/-- SESSION16383 on that binding, of a role and a partner. -/
def sSess (role : Int) : State :=
  (((sUni.put1 Attr.session_sess_state 16383 1).put1 Attr.session_sess_role 16383 role).put1 Attr.session_sess_binding 16383 (31 * 256 + 3)).setSess
    16383 { partner := partner }
/-- The same with a state of the Sync grant. -/
def sGrant (role : Int) (g : GrantRec) : State := (sSess role).setSess 16383 { partner := partner, grants := [(1, g)] }
/-- A frame of the host's in the transmit buffer. -/
def txFrame : TxFrame := { cls := .host, queue := 63 }
/-- A paired module in a role (2 STANDBY, 3 ACTIVE) with the mate link UP and state copy running. -/
def sMate (role : Int) : State :=
  ((((s0.put1 Attr.mate_mode 0 1).put1 Attr.mate_role 0 role).put1 Attr.mate_link_state 0 2).put1 Attr.mate_copy_state 0 1)
/-- An input that is enabled. -/
def sIn (n : Nat) : State := s0.put1 Attr.input_enable n 1
/-- INPUT15, a PPS input with a ToD companion on receiver 1. -/
def sTod (protocol : Int) : State :=
  ((((sIn 15).put1 Attr.input_tod_rx 15 2).put1 Attr.input_type 15 1).put1 Attr.input_tod_protocol 15 protocol).put1 Attr.input_time_domain 15 511
/-- A generator that runs. -/
def sGen (g : Nat) : State := sBound.setGen g { running := true }
/-- A latch with a class and its bits. -/
def latched (ev cls : Nat) (acked cause : Bool) : State := s0.setLatch ev { cls := cls, latched := true, acked := acked, cause := cause, count := 1 }
/-- What a start-up finds where nothing fails. -/
def env0 : BootEnv := ⟨none, 0, ⟨true⟩, ⟨true⟩, 60, [1, 1, 1, 1, 1, 1, 1, 1, 1], [], []⟩
/-- A running background store of page 128. -/
def sTxn (way : StoreWay) : State := { s0 with store := { s0.store with running := [{ way := way, txn := 2, pages := 1, left := [128] }] } }
/-- A snapshot with no entries. -/
def snap0 : Snapshot := ⟨1, 64, 64, true, 1, 0, 0, 0, [], [], [], [], [], [], []⟩
/-- An announced time without leap flags. -/
def noUtc : UtcFields := ⟨none, false, false⟩
/-- The fields of an Announce. -/
def fields0 : AnnounceFields := ⟨7, 1, 128, 128, 6, 0x21, 0, 0, 0x20, noUtc⟩
/-- PORT3 as a binding in slot 31 has heard a partner's Announce twice. -/
def sHears : State := sBind.setBindRec 3 31 { foreign := [⟨partner, fields0, 0, some 0⟩] }

/-! ### Well-formed commands -/

/-- What the rows contribute to a console line where nothing is unusual. -/
def consoleEnv0 : ConsoleEnv := ⟨0, 0, true, true, 0, env0, [], true, {}, {}⟩

/-- Well-formed commands, one for each constructor that has a check. -/
theorem test_wellFormed_accepts_1 :
    List.all (α := Instr) [.vmainApplied env0, .resetNReleased env0, .warmResetComplete [] ⟨true⟩, .get .spi 0 0 0 0 ⟨0, 0, true⟩,
      .set .spi 0 0 0 0 [], .bulkGet .spi ⟨0, 0, true⟩ [], .subscribe .spi 0 0 0, .oscReadmit .spi 0 false,
      .oscExclude .spi 0, .reboot .spi 0 env0, .restoreFactory .spi 0 env0, .fwBegin .spi 0 0,
      .fwWrite .spi 0 0 [] false false, .fwFinish .spi 0 0 false false {} {}, .fwActivate .spi 0,
      .logRead .spi 0 0 0 ⟨0, 0, true⟩, .timeRead .spi [] ⟨0, 0, true⟩, .setPower .spi 0,
      .powerTransitionComplete env0, .factoryEnter .spi (List.replicate 16 0), .setCandidates .spi 0 [],
      .select .spi 0 0 0, .lockout .spi 0 0 0, .clearWtr .spi 0 0, .align .spi 0, .dpllOpen .spi 0,
      .dpllClose .spi 0 0, .setFreq .spi 0 0, .nudgePhase .spi 0 0, .resetHistory .spi 0,
      .synCommit .spi 0 0 0 0 0 0 0, .synCancel .spi 0, .synRetune .spi 0, .domainCreate .spi 0 0 0,
      .domainDelete .spi 0]
      Instr.wellFormed = true := by
  decide +kernel

/-- Well-formed commands, one for each constructor that has a check. -/
theorem test_wellFormed_accepts_2 :
    List.all (α := Instr) [.domainAssign .spi 0 0, .domainBind .spi 0 0, .domainUnbind .spi 0 0, .setTime .spi 0 0 0,
      .setCalendar .spi 0 ⟨2026, 1, 1, 0, 0, 0⟩ 0 0, .adjFreq .spi 0 0 0, .adjPhase .spi 0 0 0 0,
      .scheduleLeap .spi 0 0 0 0 0, .setTz .spi 0 [], .domainReset .spi 0 0, .vidgenDoStep .spi 0,
      .audgenDoStep .spi 0, .tcgenDoStep .spi 0, .outputDoStep .spi 0, .tcgenJam .spi 0, .portBind .spi 0 0 0,
      .portUnbind .spi 0 0, .loadKey .spi 0 0 0 0 0, .eraseKey .spi 0, .hostq .spi 0 0 0 0,
      .portSend .spi 0 0 0 0 0 0 [] false, .ticRestart .spi 0, .ticRead .spi 0 0 0 ⟨0, 0, true⟩, .faultAck .spi 0,
      .faultClear .spi 0, .faultInject .spi 0 0 0, .faultList .spi 0 0 ⟨0, 0, true⟩, .storeCommit .spi 0 0,
      .sessionOpen .spi 0 0 0 0 0, .sessionClose .spi 0, .cmdPiWrite 0 0,
      .commandFetch 0 (List.replicate 64 0) none false, .cplCiWrite 0 0, .evtCiWrite 0 0, .ringEnable 0 0]
      Instr.wellFormed = true := by
  decide +kernel

/-- Well-formed commands, one for each constructor that has a check. -/
theorem test_wellFormed_accepts_3 :
    List.all (α := Instr) [.ringDisable 0 0, .irqArmWrite 0 0, .intStatusWrite 0 0, .twBaseWrite 0 false 0, .tlCtrlWrite 0 0,
      .registerWrite false 0 0 false, .bar2Write 0 [] {}, .spiWrite 0 [], .spiRead 0 0, .consoleLine consoleEnv0,
      .weightRecompute (List.replicate 4 0) false, .inputEdge 0 0 0 false,
      .nmeaZda 0 ⟨true, [], 0, 0⟩ ⟨2026, 1, 1, 0, 0, 0⟩, .nmeaRmc 0 ⟨true, [], 0, 0⟩ ⟨2026, 1, 1, 0, 0, 0⟩ false,
      .ltcFrameDecoded 0 0 ⟨2026, 1, 1, 0, 0, 0⟩ 0 0 0 0, .syncReceived 0 0 head false 0 0 0 0,
      .delayReqReceived 0 0 head false 0 0 0, .pdelayReqReceived 0 0 head 0 0 0, .pdelayRespReceived 0 0 head 0 0 0 0,
      .transitFrameReceived 0 .other 0 false none 0 0 0 0 0, .frameDeparture 0 0 0, .fullerFrameRead {},
      .cacheFill 0 {}, .pmcSample 0 0 0 false none 0, .consoleCharacter 0]
      Instr.wellFormed = true := by
  decide +kernel

/-- Those commands with the one operand that a check is about out of its field, for each check. -/
theorem test_wellFormed_refuses_1 :
    List.all (α := Instr) [.vmainApplied ({ env0 with failCode := 65536 }), .vmainApplied ({ env0 with stepTimes := [] }),
      .vmainApplied ({ env0 with failedEngines := [144] }), .vmainApplied ({ env0 with failedChannels := [52] }),
      .resetNReleased ({ env0 with failCode := 65536 }), .resetNReleased ({ env0 with stepTimes := [] }),
      .resetNReleased ({ env0 with failedEngines := [144] }), .resetNReleased ({ env0 with failedChannels := [52] }),
      .warmResetComplete [144] ⟨true⟩, .get .spi (2 ^ 16) 0 0 0 ⟨0, 0, true⟩, .get .spi 0 (2 ^ 16) 0 0 ⟨0, 0, true⟩,
      .get .spi 0 0 (2 ^ 16) 0 ⟨0, 0, true⟩, .get .spi 0 0 0 (2 ^ 16) ⟨0, 0, true⟩,
      .get .spi 0 0 0 0 ⟨2 ^ 64, 0, true⟩, .get .spi 0 0 0 0 ⟨0, 2 ^ 32, true⟩, .set .spi (2 ^ 16) 0 0 0 [],
      .set .spi 0 (2 ^ 16) 0 0 [], .set .spi 0 0 (2 ^ 16) 0 [], .set .spi 0 0 0 (2 ^ 16) [],
      .set .spi 0 0 0 0 (List.replicate 4089 0), .bulkGet .spi ⟨2 ^ 64, 0, true⟩ [],
      .bulkGet .spi ⟨0, 2 ^ 32, true⟩ [], .bulkGet .spi ⟨0, 0, true⟩ (List.replicate 257 (0, 0)),
      .bulkGet .spi ⟨0, 0, true⟩ [(65536, 0)], .bulkGet .spi ⟨0, 0, true⟩ [(0, 65536)], .subscribe .spi (2 ^ 16) 0 0,
      .subscribe .spi 0 (2 ^ 16) 0, .subscribe .spi 0 0 (2 ^ 8), .oscReadmit .spi (2 ^ 8) false,
      .oscExclude .spi (2 ^ 8), .reboot .spi (2 ^ 8) env0, .reboot .spi 0 ({ env0 with failCode := 65536 }),
      .reboot .spi 0 ({ env0 with stepTimes := [] }), .reboot .spi 0 ({ env0 with failedEngines := [144] }),
      .reboot .spi 0 ({ env0 with failedChannels := [52] })]
      (fun c => !c.wellFormed) = true := by
  decide +kernel

/-- Those commands with the one operand that a check is about out of its field, for each check. -/
theorem test_wellFormed_refuses_2 :
    List.all (α := Instr) [.restoreFactory .spi (2 ^ 32) env0, .restoreFactory .spi 0 ({ env0 with failCode := 65536 }),
      .restoreFactory .spi 0 ({ env0 with stepTimes := [] }),
      .restoreFactory .spi 0 ({ env0 with failedEngines := [144] }),
      .restoreFactory .spi 0 ({ env0 with failedChannels := [52] }), .fwBegin .spi (2 ^ 8) 0, .fwBegin .spi 0 (2 ^ 32),
      .fwWrite .spi (2 ^ 32) 0 [] false false, .fwWrite .spi 0 (2 ^ 16) [] false false,
      .fwWrite .spi 0 0 [0] false false, .fwFinish .spi (2 ^ 8) 0 false false {} {},
      .fwFinish .spi 0 (2 ^ 32) false false {} {}, .fwFinish .spi 0 0 false false ({ version := 2 ^ 24 }) {},
      .fwFinish .spi 0 0 false false ({ id := 2 ^ 32 }) {},
      .fwFinish .spi 0 0 false false ({ table := List.replicate 33 0 }) {},
      .fwFinish .spi 0 0 false false ({ steppings := List.replicate 9 0 }) {},
      .fwFinish .spi 0 0 false false ({ mateTable := List.replicate 33 0 }) {},
      .fwFinish .spi 0 0 false false ({ table := [2 ^ 32] }) {},
      .fwFinish .spi 0 0 false false ({ steppings := [256] }) {},
      .fwFinish .spi 0 0 false false ({ mateTable := [2 ^ 32] }) {},
      .fwFinish .spi 0 0 false false {} ({ version := 2 ^ 24 }), .fwFinish .spi 0 0 false false {} ({ id := 2 ^ 32 }),
      .fwActivate .spi (2 ^ 8), .logRead .spi (2 ^ 8) 0 0 ⟨0, 0, true⟩, .logRead .spi 0 (2 ^ 16) 0 ⟨0, 0, true⟩,
      .logRead .spi 0 0 (2 ^ 64) ⟨0, 0, true⟩, .logRead .spi 0 0 0 ⟨2 ^ 64, 0, true⟩,
      .logRead .spi 0 0 0 ⟨0, 2 ^ 32, true⟩, .timeRead .spi [] ⟨2 ^ 64, 0, true⟩, .timeRead .spi [] ⟨0, 2 ^ 32, true⟩,
      .timeRead .spi (List.replicate 9 0) ⟨0, 0, true⟩, .timeRead .spi [2 ^ 16] ⟨0, 0, true⟩, .setPower .spi (2 ^ 8),
      .powerTransitionComplete ({ env0 with failCode := 65536 }),
      .powerTransitionComplete ({ env0 with stepTimes := [] })]
      (fun c => !c.wellFormed) = true := by
  decide +kernel

/-- Those commands with the one operand that a check is about out of its field, for each check. -/
theorem test_wellFormed_refuses_3 :
    List.all (α := Instr) [.powerTransitionComplete ({ env0 with failedEngines := [144] }),
      .powerTransitionComplete ({ env0 with failedChannels := [52] }), .factoryEnter .spi [],
      .setCandidates .spi (2 ^ 8) [], .setCandidates .spi 0 (List.replicate 25 0), .setCandidates .spi 0 [2 ^ 32],
      .select .spi (2 ^ 8) 0 0, .select .spi 0 (2 ^ 8) 0, .select .spi 0 0 (2 ^ 8), .lockout .spi (2 ^ 8) 0 0,
      .lockout .spi 0 (2 ^ 8) 0, .lockout .spi 0 0 (2 ^ 8), .clearWtr .spi (2 ^ 8) 0, .clearWtr .spi 0 (2 ^ 8),
      .align .spi (2 ^ 8), .dpllOpen .spi (2 ^ 8), .dpllClose .spi (2 ^ 8) 0, .setFreq .spi (2 ^ 8) 0,
      .setFreq .spi 0 (2 ^ 63), .nudgePhase .spi (2 ^ 8) 0, .nudgePhase .spi 0 (2 ^ 63), .resetHistory .spi (2 ^ 8),
      .synCommit .spi (2 ^ 8) 0 0 0 0 0 0, .synCommit .spi 0 (2 ^ 8) 0 0 0 0 0, .synCommit .spi 0 0 (2 ^ 8) 0 0 0 0,
      .synCommit .spi 0 0 0 (2 ^ 8) 0 0 0, .synCommit .spi 0 0 0 0 (2 ^ 32) 0 0, .synCommit .spi 0 0 0 0 0 (2 ^ 16) 0,
      .synCommit .spi 0 0 0 0 0 0 (2 ^ 128), .synCancel .spi (2 ^ 8), .synRetune .spi (2 ^ 8),
      .domainCreate .spi (2 ^ 16) 0 0, .domainCreate .spi 0 (2 ^ 8) 0, .domainCreate .spi 0 0 (2 ^ 16),
      .domainDelete .spi (2 ^ 16)]
      (fun c => !c.wellFormed) = true := by
  decide +kernel

/-- Those commands with the one operand that a check is about out of its field, for each check. -/
theorem test_wellFormed_refuses_4 :
    List.all (α := Instr) [.domainAssign .spi (2 ^ 16) 0, .domainAssign .spi 0 (2 ^ 16), .domainBind .spi (2 ^ 16) 0,
      .domainBind .spi 0 (2 ^ 8), .domainUnbind .spi (2 ^ 16) 0, .domainUnbind .spi 0 (2 ^ 8),
      .setTime .spi (2 ^ 16) 0 0, .setTime .spi 0 (2 ^ 128) 0, .setCalendar .spi (2 ^ 16) ⟨2026, 1, 1, 0, 0, 0⟩ 0 0,
      .setCalendar .spi 0 ⟨2026, 1, 1, 0, 0, 0⟩ (2 ^ 32) 0, .setCalendar .spi 0 ⟨65536, 1, 1, 0, 0, 0⟩ 0 0,
      .setCalendar .spi 0 ⟨2026, 256, 1, 0, 0, 0⟩ 0 0, .setCalendar .spi 0 ⟨2026, 1, 256, 0, 0, 0⟩ 0 0,
      .setCalendar .spi 0 ⟨2026, 1, 1, 256, 0, 0⟩ 0 0, .setCalendar .spi 0 ⟨2026, 1, 1, 0, 256, 0⟩ 0 0,
      .setCalendar .spi 0 ⟨2026, 1, 1, 0, 0, 256⟩ 0 0, .adjFreq .spi (2 ^ 16) 0 0, .adjFreq .spi 0 (2 ^ 31) 0,
      .adjPhase .spi (2 ^ 16) 0 0 0, .adjPhase .spi 0 (2 ^ 8) 0 0, .adjPhase .spi 0 0 (2 ^ 63) 0,
      .scheduleLeap .spi (2 ^ 16) 0 0 0 0, .scheduleLeap .spi 0 (2 ^ 16) 0 0 0, .scheduleLeap .spi 0 0 (2 ^ 8) 0 0,
      .scheduleLeap .spi 0 0 0 (2 ^ 8) 0, .scheduleLeap .spi 0 0 0 0 (2 ^ 8), .setTz .spi (2 ^ 16) [],
      .setTz .spi 0 (List.replicate 33 0), .setTz .spi 0 [2 ^ 128], .domainReset .spi (2 ^ 16) 0,
      .vidgenDoStep .spi (2 ^ 8), .audgenDoStep .spi (2 ^ 8), .tcgenDoStep .spi (2 ^ 8), .outputDoStep .spi (2 ^ 8),
      .tcgenJam .spi (2 ^ 8)]
      (fun c => !c.wellFormed) = true := by
  decide +kernel

/-- Those commands with the one operand that a check is about out of its field, for each check. -/
theorem test_wellFormed_refuses_5 :
    List.all (α := Instr) [.portBind .spi (2 ^ 8) 0 0, .portBind .spi 0 (2 ^ 8) 0, .portBind .spi 0 0 (2 ^ 256), .portUnbind .spi (2 ^ 8) 0,
      .portUnbind .spi 0 (2 ^ 8), .loadKey .spi (2 ^ 8) 0 0 0 0, .loadKey .spi 0 (2 ^ 8) 0 0 0,
      .loadKey .spi 0 0 (2 ^ 8) 0 0, .loadKey .spi 0 0 0 (2 ^ 32) 0, .loadKey .spi 0 0 0 0 (2 ^ 256),
      .eraseKey .spi (2 ^ 8), .hostq .spi (2 ^ 8) 0 0 0, .hostq .spi 0 (2 ^ 8) 0 0, .hostq .spi 0 0 (2 ^ 16) 0,
      .hostq .spi 0 0 0 (2 ^ 8), .portSend .spi (2 ^ 8) 0 0 0 0 0 [] false, .portSend .spi 0 (2 ^ 8) 0 0 0 0 [] false,
      .portSend .spi 0 0 (2 ^ 16) 0 0 0 [] false, .portSend .spi 0 0 0 (2 ^ 16) 0 0 [] false,
      .portSend .spi 0 0 0 0 (2 ^ 16) 0 [] false, .ticRestart .spi (2 ^ 8), .ticRead .spi (2 ^ 8) 0 0 ⟨0, 0, true⟩,
      .ticRead .spi 0 (2 ^ 16) 0 ⟨0, 0, true⟩, .ticRead .spi 0 0 (2 ^ 64) ⟨0, 0, true⟩,
      .ticRead .spi 0 0 0 ⟨2 ^ 64, 0, true⟩, .ticRead .spi 0 0 0 ⟨0, 2 ^ 32, true⟩, .faultAck .spi (2 ^ 16),
      .faultClear .spi (2 ^ 16), .faultInject .spi (2 ^ 8) 0 0, .faultInject .spi 0 (2 ^ 8) 0,
      .faultInject .spi 0 0 (2 ^ 32), .faultList .spi (2 ^ 16) 0 ⟨0, 0, true⟩, .faultList .spi 0 (2 ^ 16) ⟨0, 0, true⟩,
      .faultList .spi 0 0 ⟨2 ^ 64, 0, true⟩, .faultList .spi 0 0 ⟨0, 2 ^ 32, true⟩]
      (fun c => !c.wellFormed) = true := by
  decide +kernel

/-- Those commands with the one operand that a check is about out of its field, for each check. -/
theorem test_wellFormed_refuses_6 :
    List.all (α := Instr) [.storeCommit .spi (2 ^ 16) 0, .storeCommit .spi 0 (2 ^ 16), .sessionOpen .spi (2 ^ 8) 0 0 0 0,
      .sessionOpen .spi 0 (2 ^ 8) 0 0 0, .sessionOpen .spi 0 0 (2 ^ 8) 0 0, .sessionOpen .spi 0 0 0 (2 ^ 128) 0,
      .sessionClose .spi (2 ^ 16), .cmdPiWrite 0 (2 ^ 32), .commandFetch 0 [] none false, .cplCiWrite 0 (2 ^ 32),
      .evtCiWrite 0 (2 ^ 32), .ringEnable 0 (2 ^ 32), .ringDisable 0 (2 ^ 31), .irqArmWrite 0 (2 ^ 32),
      .intStatusWrite 0 (2 ^ 32), .twBaseWrite 0 false (2 ^ 32), .tlCtrlWrite 0 (2 ^ 32),
      .registerWrite false 0 (2 ^ 32) false, .registerWrite false (2 ^ 21) 0 false,
      .bar2Write 0 (List.replicate 4097 0) {}, .bar2Write 0 [] ({ tries := 4 }),
      .bar2Write 0 [] ({ positions := [34816] }), .bar2Write 0 [] ({ positions := [5, 5] }),
      .bar2Write (2 ^ 26 + 1) [] {}, .spiWrite 8192 [], .spiRead 8192 0,
      .consoleLine ({ consoleEnv0 with boot := { env0 with stepTimes := [] } }),
      .consoleLine ({ consoleEnv0 with data := List.replicate 4097 0 }), .weightRecompute [] false,
      .inputEdge 0 0 (2 ^ 10) false, .nmeaZda 0 ⟨true, [], 0, 0⟩ ⟨65536, 1, 1, 0, 0, 0⟩,
      .nmeaRmc 0 ⟨true, [], 0, 0⟩ ⟨65536, 1, 1, 0, 0, 0⟩ false,
      .ltcFrameDecoded 0 0 ⟨2026, 1, 1, 0, 0, 0⟩ 0 0 0 (2 ^ 10), .ltcFrameDecoded 0 0 ⟨65536, 1, 1, 0, 0, 0⟩ 0 0 0 0,
      .syncReceived 0 0 head false 0 (2 ^ 10) 0 0]
      (fun c => !c.wellFormed) = true := by
  decide +kernel

/-- Those commands with the one operand that a check is about out of its field, for each check. -/
theorem test_wellFormed_refuses_7 :
    List.all (α := Instr) [.delayReqReceived 0 0 head false 0 (2 ^ 10) 0, .pdelayReqReceived 0 0 head 0 (2 ^ 10) 0,
      .pdelayRespReceived 0 0 head 0 (2 ^ 10) 0 0, .transitFrameReceived 0 .other 0 false none 0 0 0 (2 ^ 16) 0,
      .frameDeparture 0 0 (2 ^ 10), .fullerFrameRead ({ tries := 4 }), .fullerFrameRead ({ positions := [34816] }),
      .fullerFrameRead ({ positions := [5, 5] }), .cacheFill 0 ({ tries := 4 }),
      .cacheFill 0 ({ positions := [34816] }), .cacheFill 0 ({ positions := [5, 5] }),
      .pmcSample 0 0 0 false none (2 ^ 32), .consoleCharacter (2 ^ 8)]
      (fun c => !c.wellFormed) = true := by
  decide +kernel


/-- No row of the table has bits, so no word spells a command. -/
theorem test_no_word_decodes : decodeTableWord 16 0x0607 = none := rfl

/-! ### Worked examples of the spec -/

/-- The stamp of R70's example (chapter 02): c = 12,700,000,000 and v = 512 read as 1,900,000,002 s, 123,456,789 ns and
fraction 24,273. -/
theorem test_stamp_example :
    DomWords.time ⟨(1900000000 * 1000000000 + 123456789) * 65536, 10000000000, 208499982748634⟩ 12700000000 512 =
      (1900000002 * 1000000000 + 123456789) * 65536 + 24273 := by decide +kernel

/-- The period word of -1,234 ppt (chapter 02). -/
theorem test_period_example : periodPpt (-1234) = 208499982491345 := by decide +kernel

/-- Day 2030-07-01 is day 22,096 (chapter 02). -/
theorem test_day_example : daysFromCivil 2030 7 1 = 22096 := by decide +kernel

/-- 2100-03-01 is day 47,541, and the day before it is 2100-02-28 (chapter 02). -/
theorem test_2100_example :
    civilSeconds ⟨2100, 3, 1, 0, 0, 0⟩ = 4107542400 ∧ civilFromDays 47541 = (2100, 3, 1) ∧ civilFromDays 47540 = (2100, 2, 28) ∧
      dateExists 2100 2 29 = false := by decide +kernel

/-- 19,750 ps are 19 ns and 49,152 of the fraction (chapter 08). -/
theorem test_mdi_example : psUnits 19750 = 19 * 65536 + 49152 := by decide +kernel

/-- The entry of SESSION 9,000 lies at 0x0139_4000 on page 5,012, and its ASYM_CORR is the host's word (chapter 12). -/
theorem test_session_entry_example :
    entryAddr 9000 = 0x01394000 ∧ sessionPage 9000 = 5012 ∧ hostOwned (entryAddr 9000 + 72) = true := by decide +kernel

/-- The entry of the command exchange of chapter 10 names opcode 0x0607, tag 0x15 and length 8, and passes its checks. -/
theorem test_entry_example :
    let bs : List Byte := [0x07, 0x06, 0x15, 0, 8, 0, 0, 0, 5, 0, 0, 0, 0x2E, 0xFB, 0xFF, 0xFF] ++ List.replicate 48 0
    (Entry.ofBytes bs).opcode = 0x0607 ∧ (Entry.ofBytes bs).tag = 0x15 ∧ (Entry.ofBytes bs).length = 8 ∧
      (Entry.ofBytes bs).check bs none 0 false = none ∧ intLE 4 (bs.drop 12) = -1234 := by decide +kernel

/-- DPLL6 at bandwidth code 9 uses code 5 on a PPS input and code 9 on a TEN_MHZ input (chapter 05). -/
theorem test_bandwidth_example :
    let s := ((s0.put1 Attr.dpll_bandwidth 6 9).put1 Attr.input_type 1 1)
    s.bandwidthFor 6 1 = 5 ∧ (s.put1 Attr.input_type 1 2).bandwidthFor 6 1 = 9 := by decide +kernel

/-- The holdover-limit source of DPLL2 is EV 161 (chapter 11). -/
theorem test_event_number_example : evLoop 2 5 = 161 := by decide +kernel

/-- DOMAIN 0 of the plant after R248 (chapter 07) at `off` 2^-16 ns after T = 1,900,000,000 s, bound to DPLL1 and an hour east. -/
def sPlant (off : Int) : State :=
  let s := ((s0.put1 Attr.domain_bound_dpll 0 1).put1 Attr.domain_tz_base_offset 0 3600).put1 Attr.vidgen_format_active 0 1
  (s.put1 Attr.tcgen_tc_rate 0 2).setDom 0
    { s0.dom 0 with words := { offset := 1900000000 * secondUnits + off, anchor := 0, period := 208499982748634 } }

/-- 944/30000 s after T a frame starts, the fifth of the 525 sequence, numbered 4; its timecode is 18:46:03;04 with the date 300317
(chapter 07). -/
theorem test_plant_example :
    let s := sPlant (944 * secondUnits / 30000 + 1)
    (s.videoPlace 0).frame = 4 ∧ (s.videoPlace 0).line = 1 ∧ s.tcAddress 0 = 0x18460304 ∧ s.tcDateNow 0 = 0x300317 := by
  decide +kernel

/-- 2.5 µs modulo the periods of OUT0, OUT4 and OUT5: later by 2.4 ns, earlier by 1.684 ns, later by the half (chapter 06). -/
theorem test_stepper_example :
    clockTarget (80 * 2048) (fineSteps 625 27 (2500 * 65536)) = 30 * 2048 ∧
      clockTarget (80 * 2048) (fineSteps 22 1 (2500 * 65536)) = -20 * 2048 ∧
      clockTarget (440 * 2048) (fineSteps 22 1 (2500 * 65536)) = 220 * 2048 := by decide +kernel

/-- 25 ms taken into half a period either way at 59.94 and 23.98 frames/s and for an AES block at 48 kHz (chapter 07), in ps. -/
theorem test_lehr_example :
    [(1001, 30000), (1001, 24000), (192, 48000)].map (fun p => wrapInto p (25000000 * 65536) * 1000 / 65536) =
      [-8366666667, -16708333334, 1000000000] := by decide +kernel

/-! ### Single commands -/

/-- The outcome of a step as a state. -/
def after (o : Host.Outcome State Fault Refusal) : State :=
  match o with
  | .next t => t
  | _ => s0

/-- The tick of an idle block counts (R58). -/
theorem test_idle_counts : (after (step s0)).counter = 1 := by decide +kernel

/-- ADJ_FREQ of -1,234 ppt returns the period word 0x0000_BDA1_2F64_5ED1 (chapter 10). -/
theorem test_adjFreq_result :
    (after (exec (.adjFreq .spi 511 (-1234) 0) sDom)).resultOf .spi = bytesLE 8 0x0000BDA12F645ED1 := by decide +kernel

/-- The same command of a client that does not own the domain is refused (R71, R363). -/
theorem test_adjFreq_denied :
    ((after (exec (.adjFreq (.ring 3 0) 511 (-1234) 0) sDom)).host.completed.map fun d => d.status) = [E_DENIED] := by decide +kernel

/-- A second domain cannot be bound to a DPLL that has one (R73). -/
theorem test_bind_in_use :
    ((after (exec (.domainBind .spi 0 15) sBound)).host.completed.map fun d => d.status) = [E_IN_USE] := by decide +kernel

/-- A candidate list with a source named twice is out of range (R126). -/
theorem test_candidates_twice :
    ((after (exec (.setCandidates .spi 0 [0x1405, 0x2405]) s0)).host.completed.map fun d => d.status) = [E_RANGE] := by decide +kernel

/-- A latch whose cause is still present is not cleared (R438). -/
theorem test_clear_cause_present :
    ((after (exec (.faultClear .spi 639) (latched 639 1 true true))).host.completed.map fun d => d.status) = [E_CAUSE_PRESENT] := by
  decide +kernel

/-- A step that fails leaves the module in safe-talk (R402). -/
theorem test_safe_talk :
    (after (exec (.vmainApplied { env0 with failAt := some 3 }) { s0 with boot := { s0.boot with phase := .off } })).boot.phase = .safeTalk := by
  decide +kernel

/-! ### Witnesses -/

/-- What holds of every value of nothing. -/
theorem none_absurd {α : Type} {P : α → Prop} {o : Option α} (h : o = none) : ∀ x, o = some x → P x := by
  intro x hx
  simp [h] at hx

/-- Nothing stops the start-up of a module whose page 66 holds no repair records. -/
theorem startsUp_of (s : State) (slot : Nat) (h : env0.failAt = none ∧ env0.failedEngines = [] ∧ env0.failedChannels = [])
    (hf : s.factoryLost = false) (hs : slot ≤ 1) (hb : s.slotBoots env0 slot = true) (ha : (s.page 66).a = .good 0 0 1 false 0 [] [])
    (hbb : (s.page 66).b = .erased) (_ : env0 = env0) : s.startsUp env0 slot := by
  refine ⟨h.1, h.2.1, h.2.2, hf, hs, hb, ?_⟩
  intro b k _ _
  cases b
  · simp [ha, FlashSlot.data, tblGet, tblFind, bitOf]
  · simp [hbb, FlashSlot.data, tblGet, tblFind, bitOf]

/-- Two armed slots with disjoint members, and a waiting commit group clear. -/
def sArms : State := { s0 with arms := [(0, ⟨0, 0, 1, 0, 0, 0, 0, false⟩), (5, ⟨0, 0, 128, 2 ^ 31, 0, 0, 0, false⟩)], pending := [.vmainBelowThreshold] }

theorem witness_ArmsExclusiveKept : ∃ s t : State, s.armsExclusive ∧ s.arms ≠ [] ∧ step s = .next t :=
  ⟨sArms, after (step sArms), ⟨by decide +kernel, by decide +kernel, by decide +kernel⟩, by decide +kernel, rfl⟩

theorem witness_CounterNeverBack :
    (∃ (c : Instr) (s t : State), clearsCounter c = false ∧ exec c s = .next t ∧ s.counter ≠ 0) ∧
    ∃ s t : State, s.pending = [] ∧ step s = .next t ∧ s.counter = 7 :=
  ⟨⟨.vmainBelowThreshold, { s0 with counter := 7 }, after (exec .vmainBelowThreshold { s0 with counter := 7 }), rfl, rfl, by decide +kernel⟩,
   ⟨{ s0 with counter := 7 }, after (step { s0 with counter := 7 }), rfl, rfl, rfl⟩⟩

theorem witness_TableMemoryCanonicalKept : ∃ s t : State, Memory.wf s.tm = true ∧ s.tm.byte 67108863 ≠ 0 ∧ step s = .next t :=
  ⟨s0.tmWrite 67108863 [1], after (step (s0.tmWrite 67108863 [1])), by decide +kernel, by decide +kernel, rfl⟩

/-- A binding that has heard a better grandmaster twice is UNCALIBRATED after one pass and SLAVE after the next (R274). -/
theorem test_bmca_follows :
    (sHears.bmcaState 511 3 31 (sHears.recommend 511 3 31), ((sHears.follow 3 31 ⟨partner, fields0, 0, some 0⟩).put
      Attr.port_binding_state 3 31 8).bmcaState 511 3 31 (sHears.recommend 511 3 31)) = (8, 9) := by decide +kernel

/-- The alternate BMCA ranks clockClass before priority1, the default one priority1 first (R267). -/
theorem test_bmca_orders :
    let a : DataSet := ⟨2, 10, 7, 0, 0, 0, 1, 0, 1, 1, 128⟩
    let b : DataSet := ⟨2, 20, 6, 0, 0, 0, 2, 0, 2, 1, 128⟩
    compareDataSets a b = .worse ∧ compareDataSets { a with profile := 0 } { b with profile := 0 } = .better := by decide +kernel

theorem witness_StepTakesFront :
    (∃ (c : Instr) (cs : List Instr) (s : State), s.pending = c :: cs) :=
  ⟨.rootUnlock, [.rootUnlock], { s0 with pending := [.rootUnlock, .rootUnlock] }, by decide +kernel⟩

theorem witness_IdleCounts :
    (∃ (s : State), s.pending = []) :=
  ⟨s0, by decide +kernel⟩

theorem witness_ResetState :
    (∃ (m : Nat), m < 3) :=
  ⟨2, by decide +kernel⟩

theorem witness_TableMemoryWrite :
    (∃ (s : State) (a : Nat) (bs : List Byte) (k : Nat), k < bs.length ∧ a + bs.length ≤ tmSize ∧ s.poisoned (a / 4096) = false) ∧
    (∃ (s : State) (a : Nat) (bs : List Byte), a + bs.length ≤ tmSize ∧ s.poisoned (a / 4096) = false) ∧
    (∃ (s : State) (a : Nat) (bs : List Byte), (tmSize < a + bs.length ∨ s.poisoned (a / 4096) = true)) :=
  ⟨⟨s0, tmSize - 1, [7], 0, by decide +kernel⟩,
   ⟨s0, tmSize - 1, [7], by decide +kernel⟩,
   ⟨s0, tmSize - 1, [7, 8], by decide +kernel⟩⟩

theorem witness_RefusedChangesNothing :
    (∃ (s : State) (who : Issuer) (a : Action), s.serves who ∧ a.reachable = true ∧ s.permits who a.right = false) ∧
    (∃ (s : State) (who : Issuer) (a : Action) (code : Nat), s.serves who ∧ a.reachable = true ∧ s.permits who a.right = true ∧
      firstRefusal a.refusals = some code) ∧
    (∃ (s : State) (who : Issuer), s.service who = .unserved) :=
  ⟨⟨s0, .ring 511 0, { opcode := 0x0A00 }, ⟨by decide +kernel, by decide +kernel⟩, by decide +kernel⟩,
   ⟨s0, .spi, { opcode := 0x0A00, refusals := [(true, E_RANGE)] }, E_RANGE, ⟨by decide +kernel, trivial⟩, by decide +kernel⟩,
   ⟨{ s0 with boot := { s0.boot with phase := .off } }, .spi, by decide +kernel⟩⟩

theorem witness_ReadingVerbs :
    (∃ (s : State) (who : Issuer) (inst : Nat) (first : Nat) (count : Nat) (n : Nat) (a : AttrDesc) (buf : HostBuf), s.serves who ∧
      Attr.find a.id = some a ∧ s.permits who (s.readRight (some a) inst) = true ∧ a.runOf first count = some n ∧ inst <
      a.obj.instances ∧ s.readState a inst = false ∧ buf.addr = 0 ∧ n * a.bytes ≤ 16) ∧
    (∃ (s : State) (who : Issuer) (inst : Nat) (first : Nat) (count : Nat) (n : Nat) (a : AttrDesc) (buf : HostBuf), s.serves who ∧
      Attr.find a.id = some a ∧ s.permits who (s.readRight (some a) inst) = true ∧ a.runOf first count = some n ∧ inst <
      a.obj.instances ∧ s.readState a inst = false ∧ buf.addr ≠ 0 ∧ bufOk who buf (n * a.bytes) = true ∧ n * a.bytes ≤ buf.len) ∧
    (∃ (s : State) (who : Issuer) (buf : HostBuf) (items : List (Nat × Nat)), s.serves who ∧ items ≠ [] ∧ items.length ≤ 256 ∧
      bufOk who buf (items.flatMap fun e => bulkBytes (s.bulkItem who e.1 e.2)).length = true ∧ (items.flatMap fun e => bulkBytes
      (s.bulkItem who e.1 e.2)).length ≤ buf.len) ∧
    (∃ (s : State) (who : Issuer) (first : Nat) (count : Nat) (on : Nat), s.serves who ∧ issuerClient who ≠ 0 ∧ 0 < count ∧ first +
      count ≤ 640 ∧ on ≤ 1) :=
  ⟨⟨s0, .spi, 0, 0, 4, 4, Attr.osc_state, ⟨0, 0, true⟩, ⟨by decide +kernel, trivial⟩, rfl, by decide +kernel⟩,
   ⟨s0, .spi, 0, 0, 4, 4, Attr.osc_state, ⟨8, 4088, true⟩, ⟨by decide +kernel, trivial⟩, rfl, by decide +kernel⟩,
   ⟨s0, .spi, ⟨8, 4088, true⟩, [(0x0140, 0)], ⟨by decide +kernel, trivial⟩, by decide +kernel⟩,
   ⟨s0, .ring 511 2047, 639, 1, 1, ⟨by decide +kernel, by decide +kernel⟩, by decide +kernel⟩⟩

theorem witness_SetWrites :
    (∃ (s : State) (who : Issuer) (inst : Nat) (a : AttrDesc) (value : List Byte) (v : Int), s.serves who ∧ Attr.find a.id = some a
      ∧ issuerClient who = 0 ∧ (a.obj = .store ∨ a.obj = .dpll ∧ a.id ∉ [0x0401, 0x0403, 0x0404, 0x0405]) ∧ a.mode = .rw ∧ inst <
      a.obj.instances ∧ value.length = a.bytes ∧ elemsOf a 1 value = [v] ∧ a.accepts v = true ∧ s.busyPages = []) ∧
    (∃ (s : State) (who : Issuer) (count : Nat) (a : AttrDesc) (value : List Byte), s.serves who ∧ Attr.find a.id = some a ∧
      issuerClient who = 0 ∧ a.mode = .ro ∧ value.length = count * a.bytes) :=
  ⟨⟨s0, .spi, 15, Attr.dpll_lock_time, [1, 0], 1, ⟨by decide +kernel, trivial⟩, rfl, by decide +kernel⟩,
   ⟨s0, .spi, 1, Attr.osc_state, [0], ⟨by decide +kernel, trivial⟩, rfl, by decide +kernel⟩⟩

theorem witness_FirmwareUpdate :
    (∃ (s : State) (who : Issuer) (slot : Nat) (total : Nat), s.serves who ∧ issuerClient who = 0 ∧ slot ≤ 1 ∧ 0 < total ∧ total ≤
      31457280 ∧ (¬ (6 ≤ s.boot.lastStep ∧ s.attr Attr.active_slot = slot)) ∧ s.boot.fw = none) ∧
    (∃ (s : State) (who : Issuer) (offset : Nat) (length : Nat) (u : FwOpen), s.serves who ∧ issuerClient who = 0 ∧ s.boot.fw =
      some u ∧ u.face = faceOf who ∧ offset = u.bytes ∧ 0 < length ∧ length ≤ 4096 ∧ offset + length ≤ u.total) ∧
    (∃ (s : State) (who : Issuer) (slot : Nat) (u : FwOpen) (holax : ImageHead) (batt : ImageHead), s.serves who ∧ issuerClient who
      = 0 ∧ slot ≤ 1 ∧ s.boot.fw = some u ∧ u.face = faceOf who ∧ u.slot = slot ∧ u.bytes = u.total ∧ s.pairOk holax batt = true) ∧
    (∃ (s : State) (who : Issuer) (slot : Nat), s.serves who ∧ issuerClient who = 0 ∧ slot ≤ 1 ∧ bitOf (s.attrN Attr.slot_valid)
      slot = true) :=
  ⟨⟨s0, .spi, 1, 31457280, ⟨by decide +kernel, trivial⟩, by decide +kernel⟩,
   ⟨{ s0 with boot := { s0.boot with fw := some ⟨1, 1, 8192, 4096, 0⟩ } }, .spi, 4096, 4096, ⟨1, 1, 8192, 4096, 0⟩,
     ⟨by decide +kernel, trivial⟩, by decide +kernel⟩,
   ⟨{ s0 with boot := { s0.boot with fw := some ⟨1, 1, 8192, 8192, 0⟩ } }, .spi, 1, ⟨1, 1, 8192, 8192, 0⟩, ⟨1, 1, [1], [17], []⟩,
     ⟨1, 1, [1], [17], []⟩, ⟨by decide +kernel, trivial⟩, by decide +kernel⟩,
   ⟨s0, .spi, 0, ⟨by decide +kernel, trivial⟩, by decide +kernel⟩⟩

theorem witness_SystemReports :
    (∃ (s : State) (who : Issuer), s.serves who ∧ issuerClient who = 0) ∧
    (∃ (s : State) (who : Issuer) (domains : List Nat) (buf : HostBuf), s.serves who ∧ domains ≠ [] ∧ domains.length ≤ 8 ∧ (∀ d ∈
      domains, d ≤ 511) ∧ bufOk who buf (8 + 16 * domains.length) = true) ∧
    (∃ (s : State) (who : Issuer) (log : Nat) (count : Nat) (first : Nat) (buf : HostBuf), s.serves who ∧ (∀ lpn, s.poisoned lpn =
      false) ∧ (∀ lpn, (s.frame (s.frameOf lpn)).checkErrors = 0) ∧ issuerClient who = 0 ∧ log ≤ 2 ∧ 0 < count ∧ count ≤ 256 ∧
      s.power ≠ .standbyWarm ∧ bufOk who buf (logSize log * count) = true ∧ s.logCount log ≤ logCapacity log ∧ first ≤ s.logCount
      log ∧ count ≤ s.logCount log - first) :=
  ⟨⟨s0, .spi, ⟨by decide +kernel, trivial⟩, by decide +kernel⟩,
   ⟨sDom, .spi, [511], ⟨8, 4088, true⟩, ⟨by decide +kernel, trivial⟩, by decide +kernel⟩,
   ⟨{ s0 with tm := { s0.tm with bootCount := 256 } }, .ring 0 0, 2, 256, 0, ⟨8, 4088, true⟩, ⟨by decide +kernel,
     by decide +kernel⟩, (fun _ => rfl), (fun _ => rfl), by decide +kernel⟩⟩

theorem witness_SystemControl :
    (∃ (s : State) (who : Issuer) (state : Nat), s.serves who ∧ issuerClient who = 0 ∧ state ≤ 3 ∧ s.attr Attr.power_state ≠ state
      ∧ (s.power = .dormant → state = 0) ∧ (2 ≤ state → s.mateLinkUp = false) ∧ s.boot.fw = none) ∧
    (∃ (s : State) (k : Nat), s.boot.phase = .running ∧ s.boot.transition = some k ∧ k ≤ 2 ∧ s.power ≠ .dormant ∧ s.mate.agreement
      = none) ∧
    (∃ (s : State) (who : Issuer), s.serves who ∧ issuerClient who = 0 ∧ s.boot.factoryNLow = true) :=
  ⟨⟨s0, .spi, 3, ⟨by decide +kernel, trivial⟩, by decide +kernel⟩,
   ⟨{ s0 with boot := { s0.boot with transition := some 2 } }, 2, by decide +kernel⟩,
   ⟨{ s0 with boot := { s0.boot with factoryNLow := true } }, .spi, ⟨by decide +kernel, trivial⟩, by decide +kernel⟩⟩

theorem witness_CrucibleMeasurement :
    (∃ (s : State), s.crucibleUp = true ∧ s.isQ3 = true) ∧
    (∃ (s : State) (d01 : Int) (d12 : Int) (d20 : Int) (ext : Option Int) (m : Nat), s.crucibleUp = true ∧ s.isQ3 = true ∧ (d01 +
      d12 + d20).natAbs ≤ 10000 ∧ 3 ≤ s.ensemble.length ∧ ((s.closureCheck (d01 + d12 + d20) false).keepPhases [d01, d12, d20]
      ext).firstOver (((s.closureCheck (d01 + d12 + d20) false).keepPhases [d01, d12, d20] ext).apart (s.phaseMoved [d01, d12, d20]
      ext)) (s.attrN Attr.outvote_step_limit * 1000 * 65536) = some m) ∧
    (∃ (s : State), s.crucibleUp = true ∧ s.flag Attr.root_locked = true) ∧
    (∃ (s : State), s.crucibleUp = true) :=
  ⟨⟨s0, by decide +kernel⟩,
   ⟨{ (s0.put Attr.osc_state 0 0 3 |>.put Attr.osc_state 0 1 3 |>.put Attr.osc_state 0 2 3 |>.put Attr.osc_weight 0 0 21846 |>.put Attr.osc_weight 0 1 21845 |>.put Attr.osc_weight 0 2 21845) with crucible := { s0.crucible with diffs := [0, 0, 0] } },
     0, 20000000000000, -20000000000000, none, 2, by decide +kernel⟩,
   ⟨s0, by decide +kernel⟩,
   ⟨s0, by decide +kernel⟩⟩

theorem witness_CrucibleMembers :
    (∃ (s : State) (m : Fin 3), s.crucibleUp = true ∧ s.osc m.val = .warmup) ∧
    (∃ (s : State) (m : Fin 3), s.crucibleUp = true ∧ (m.val = 0 ∨ s.isQ3 = true) ∧ s.ensemble.contains m.val = true ∧ s.ensemble ≠
      [m.val]) ∧
    (∃ (s : State) (who : Issuer) (m : Nat), s.serves who ∧ issuerClient who = 0 ∧ m ≤ 3 ∧ (m = 0 ∨ m = 3 ∨ s.isQ3 = true) ∧
      s.ensemble.contains m = true ∧ s.ensemble.length ≠ 1) ∧
    (∃ (s : State) (who : Issuer) (m : Nat), s.serves who ∧ issuerClient who = 0 ∧ m ≤ 3 ∧ s.osc m = .outvoted) ∧
    (∃ (s : State) (m : Fin 4), s.crucibleUp = true ∧ s.attr Attr.readmit_mode = 0 ∧ s.osc m.val = .outvoted) ∧
    (∃ (s : State) (m : Fin 4) (t0 : Nat), s.crucibleUp = true ∧ s.osc m.val = .ramping ∧ (s.ramp m.val).since = some t0) :=
  ⟨⟨s0, 2, by decide +kernel⟩,
   ⟨(s0.put Attr.osc_state 0 0 4).put Attr.osc_state 0 2 4, 2, by decide +kernel⟩,
   ⟨(s0.put Attr.osc_state 0 0 4).put Attr.osc_state 0 2 4, .spi, 2, ⟨by decide +kernel, trivial⟩, by decide +kernel⟩,
   ⟨s0.put Attr.osc_state 0 3 5, .spi, 3, ⟨by decide +kernel, trivial⟩, by decide +kernel⟩,
   ⟨s0.put Attr.osc_state 0 3 5, 3, by decide +kernel⟩,
   ⟨{ s0.put Attr.osc_state 0 3 4 with crucible := { s0.crucible with ramps := [(3, { since := some 0 })] } }, 3, 0,
     by decide +kernel⟩⟩

theorem witness_CrucibleEvaluation :
    (∃ (s : State), s.crucibleUp = true) ∧
    (∃ (s : State) (obs : List OscSample), s.crucibleUp = true ∧ (((s.advance s.nextWhole).observe obs).noteLearn.firstOver
      (((s.advance s.nextWhole).observe obs).noteLearn.worst obs) (s.oneLimit)) = none) ∧
    (∃ (s : State) (obs : List OscSample) (m : Nat), s.crucibleUp = true ∧ 3 ≤ s.ensemble.length ∧ s.isQ3 = true ∧ (((s.advance
      s.nextWhole).observe obs).noteLearn.firstOver (((s.advance s.nextWhole).observe obs).noteLearn.worst obs) (s.oneLimit)) =
      some m) ∧
    (∃ (s : State), s.crucibleUp = true ∧ s.crucible.frozen = false) ∧
    (∃ (s : State), s.crucibleUp = true ∧ s.attr Attr.warmup_state = WarmupState.warmUp.code) ∧
    (∃ (s : State) (f : ModelFit), s.engines = true ∧ s.learning = true ∧ s.fitRejected f = false) :=
  ⟨⟨s0, by decide +kernel⟩,
   ⟨s0, [⟨[0], 0, 0⟩, ⟨[0], 0, 0⟩, ⟨[0], 0, 0⟩, ⟨[0], 0, 0⟩], by decide +kernel⟩,
   ⟨(s0.put Attr.osc_state 0 0 3 |>.put Attr.osc_state 0 1 3 |>.put Attr.osc_state 0 2 3 |>.put Attr.osc_weight 0 0 21846 |>.put
     Attr.osc_weight 0 1 21845 |>.put Attr.osc_weight 0 2 21845), [⟨[10000000000000], 0, 0⟩, ⟨[0], 0, 0⟩, ⟨[0], 0, 0⟩], 2,
     by decide +kernel⟩,
   ⟨s0, by decide +kernel⟩,
   ⟨s0, by decide +kernel⟩,
   ⟨(((s0.put1 Attr.learn_dpll 0 0).put1 Attr.dpll_state 0 DpllState.locked.code).put1 Attr.dpll_settling 0 0).put1
     Attr.input_grade 5 1 |>.setSel 0 { source := some 5 }, ⟨0, 0, 0, 0, 0, 0⟩, by decide +kernel⟩⟩

theorem witness_DomainLifecycle :
    (∃ (s : State) (who : Issuer) (d : Nat) (timescale : Nat) (source : Nat), s.serves who ∧ issuerClient who = 0 ∧ d ≤ 511 ∧
      timescale ≤ 1 ∧ (source ≤ 511 ∧ s.created source = true ∨ source = 0xFFFF) ∧ s.created d = false) ∧
    (∃ (s : State) (who : Issuer) (d : Nat) (client : Nat), s.serves who ∧ issuerClient who = 0 ∧ d ≤ 511 ∧ client ≤ 511 ∧
      s.created d = true) ∧
    (∃ (s : State) (who : Issuer) (d : Nat) (n : Nat), s.serves who ∧ issuerClient who = 0 ∧ d ≤ 511 ∧ n ≤ 15 ∧ s.created d = true
      ∧ (s.listing (64 + d)).contains n = false ∧ s.boundDom n = none ∧ s.boundDpll d = none) ∧
    (∃ (s : State) (who : Issuer) (d : Nat) (n : Nat), s.serves who ∧ issuerClient who = 0 ∧ d ≤ 511 ∧ n ≤ 15 ∧ s.boundDpll d =
      some n) ∧
    (∃ (s : State) (who : Issuer) (d : Nat), s.serves who ∧ issuerClient who = 0 ∧ d ≤ 511 ∧ s.created d = true ∧ s.inUse d =
      false) :=
  ⟨⟨s0, .spi, 511, 1, 0xFFFF, ⟨by decide +kernel, trivial⟩, by decide +kernel⟩,
   ⟨sDom, .spi, 511, 511, ⟨by decide +kernel, trivial⟩, by decide +kernel⟩,
   ⟨sDom, .spi, 511, 15, ⟨by decide +kernel, trivial⟩, by decide +kernel⟩,
   ⟨sBound, .spi, 511, 15, ⟨by decide +kernel, trivial⟩, by decide +kernel⟩,
   ⟨sDom, .spi, 511, ⟨by decide +kernel, trivial⟩, by decide +kernel⟩⟩

theorem witness_DomainSteering :
    (∃ (s : State) (who : Issuer) (d : Nat) (time : Nat) (instant : Nat) (x : Int), s.serves who ∧ issuerClient who = 0 ∧ d ≤ 511 ∧
      commandTime time = some x ∧ s.created d = true ∧ s.boundDpll d = none ∧ s.attr Attr.domain_servo_mode d ≠ 0 ∧ s.canUpdate d
      instant = true) ∧
    (∃ (s : State) (who : Issuer) (d : Nat) (ns : Nat) (instant : Nat) (civil : CivilTime), s.serves who ∧ issuerClient who = 0 ∧ d
      ≤ 511 ∧ dateFieldsOk civil.year civil.month civil.day = true ∧ timeFieldsOk civil.hour civil.minute civil.second = true ∧ ns
      ≤ 999999999 ∧ 0 ≤ civilSeconds civil + s.attr Attr.domain_utc_offset d ∧ dateExists civil.year civil.month civil.day = true ∧
      s.created d = true ∧ s.boundDpll d = none ∧ s.attr Attr.domain_servo_mode d ≠ 0 ∧ s.canUpdate d instant = true) ∧
    (∃ (s : State) (who : Issuer) (d : Nat) (ppt : Int) (instant : Nat), s.serves who ∧ issuerClient who = 0 ∧ d ≤ 511 ∧ ppt.natAbs
      ≤ 2147483647 ∧ (s.dom d).slew = none ∧ s.created d = true ∧ s.boundDpll d = none ∧ s.attr Attr.domain_servo_mode d ≠ 0 ∧
      s.canUpdate d instant = true) ∧
    (∃ (s : State) (who : Issuer) (d : Nat) (x : Int) (instant : Nat), s.serves who ∧ issuerClient who = 0 ∧ d ≤ 511 ∧ 0 ≤ s.domNow
      d + x ∧ s.created d = true ∧ s.boundDpll d = none ∧ s.attr Attr.domain_servo_mode d ≠ 0 ∧ s.canUpdate d instant = true) ∧
    (∃ (s : State) (who : Issuer) (d : Nat) (x : Int) (instant : Nat), s.serves who ∧ issuerClient who = 0 ∧ d ≤ 511 ∧ x ≠ 0 ∧
      s.created d = true ∧ s.boundDpll d = none ∧ s.attr Attr.domain_servo_mode d ≠ 0 ∧ s.canUpdate d instant = true ∧ (s.attr
      Attr.domain_freq_adj d + slewPpt (s.attrN Attr.domain_slew_rate d) x).natAbs ≤ 2147483647) :=
  ⟨⟨sDom, .spi, 511, 0, 0, 0, ⟨by decide +kernel, trivial⟩, by decide +kernel⟩,
   ⟨sDom, .spi, 511, 999999999, 0, ⟨2026, 12, 31, 23, 59, 59⟩, ⟨by decide +kernel, trivial⟩, by decide +kernel⟩,
   ⟨sDom, .spi, 511, -2147483647, 0, ⟨by decide +kernel, trivial⟩, by decide +kernel⟩,
   ⟨sDom, .spi, 511, 1, 0, ⟨by decide +kernel, trivial⟩, by decide +kernel⟩,
   ⟨sDom, .spi, 511, -65536, 0, ⟨by decide +kernel, trivial⟩, by decide +kernel⟩⟩

theorem witness_DomainCalendar :
    (∃ (s : State) (who : Issuer) (d : Nat) (year : Nat) (month : Nat) (kind : Nat), s.serves who ∧ issuerClient who = 0 ∧ d ≤ 511
      ∧ kind ≤ 2 ∧ dateFieldsOk year month (daysInMonth year month) = true ∧ dateExists year month (daysInMonth year month) = true
      ∧ 2 * secondUnits ≤ s.leapInstant d kind (daysFromCivil year month (daysInMonth year month)) * secondUnits - s.domNow d ∧
      (kind = 0 → s.leapOf d ≠ .none ∧ s.attr Attr.domain_leap_day d = dateCode year month (daysInMonth year month)) ∧ s.created d
      = true ∧ s.closing d (s.domNow d) = false) ∧
    (∃ (s : State) (who : Issuer) (d : Nat) (year : Nat) (month : Nat) (kind : Nat), s.serves who ∧ issuerClient who = 0 ∧ d ≤ 511
      ∧ kind ≤ 2 ∧ dateFieldsOk year month (daysInMonth year month) = true ∧ dateExists year month (daysInMonth year month) = true
      ∧ 2 * secondUnits ≤ s.leapInstant d kind (daysFromCivil year month (daysInMonth year month)) * secondUnits - s.domNow d ∧
      (kind = 0 → s.leapOf d ≠ .none ∧ s.attr Attr.domain_leap_day d = dateCode year month (daysInMonth year month)) ∧ s.created d
      = true ∧ s.closing d (s.domNow d) = true) ∧
    (∃ (s : State) (who : Issuer) (d : Nat) (entries : List Nat), s.serves who ∧ issuerClient who = 0 ∧ d ≤ 511 ∧ entries.length ≤
      32 ∧ entries.all tzFieldsOk = true ∧ tzRising entries = true ∧ entries.all tzDateOk = true ∧ s.created d = true) ∧
    (∃ (s : State) (who : Issuer) (d : Nat) (instant : Nat), s.serves who ∧ issuerClient who = 0 ∧ d ≤ 511 ∧ s.created d = true ∧
      s.boundDpll d = none ∧ s.canUpdate d instant = true) ∧
    (∃ (s : State) (d : Fin 512), s.timing = true ∧ s.created d.val = true ∧ s.leapOf d.val ≠ .none) ∧
    (∃ (s : State) (d : Fin 512) (o : Int) (c : Bool), s.firmware = true ∧ s.created d.val = true ∧ (s.dom d.val).deferred =
      { offset := some (o, c) }) ∧
    (∃ (s : State) (d : Fin 512) (k : LeapKind) (day : Nat) (c : Bool), s.firmware = true ∧ s.created d.val = true ∧ (s.dom
      d.val).deferred = { leap := some (k, day, c) }) ∧
    (∃ (s : State) (d : Fin 512) (es : List Nat), s.firmware = true ∧ s.created d.val = true ∧ (s.dom d.val).tzNext = some es ∧
      es.length ≤ 32) ∧
    (∃ (s : State) (d : Fin 512), s.timing = true ∧ s.firmware = true ∧ s.created d.val = true ∧ (s.dom d.val).tzIndex < s.attrN
      Attr.domain_tz_count d.val) :=
  ⟨⟨sDom, .spi, 511, 2026, 12, 2, ⟨by decide +kernel, trivial⟩, by decide +kernel⟩,
   ⟨sDom.setDom 511 { words := ⟨(1798675199 + sDom.attr Attr.domain_utc_offset 511) * secondUnits, 0, 208499982748634⟩ }, .spi,
     511, 2026, 12, 2, ⟨by decide +kernel, trivial⟩, by decide +kernel⟩,
   ⟨sDom, .spi, 511, [], ⟨by decide +kernel, trivial⟩, by decide +kernel⟩,
   ⟨sDom, .spi, 511, 0, ⟨by decide +kernel, trivial⟩, by decide +kernel⟩,
   ⟨(sDom.put1 Attr.domain_leap_state 511 1).put1 Attr.domain_leap_day 511 1, 511, by decide +kernel⟩,
   ⟨sDom.setDom 511 { deferred := { offset := some (37, true) } }, 511, 37, true, by decide +kernel⟩,
   ⟨sDom.setDom 511 { deferred := { leap := some (.insert, 5, true) } }, 511, .insert, 5, true, by decide +kernel⟩,
   ⟨sDom.setDom 511 { tzNext := some [1] }, 511, [1], by decide +kernel⟩,
   ⟨sDom.put1 Attr.domain_tz_count 511 1, 511, by decide +kernel⟩⟩

theorem witness_DomainUpdates :
    (∃ (s : State) (d : Fin 512) (u : DomUpdate), s.timing = true ∧ (s.dom d.val).pend = some u ∧ s.boundDpll d.val = none) ∧
    (∃ (s : State) (d : Fin 512) (w : Slew), s.engines = true ∧ (s.dom d.val).slew = some w ∧ (s.dom d.val).pend = none ∧
      s.boundDpll d.val = none ∧ s.canUpdate d.val (max s.counter w.finish) = true) ∧
    (∃ (s : State) (d : Fin 512), s.timing = true ∧ s.created d.val = true) ∧
    (∃ (s : State) (d : Fin 512), s.engines = true ∧ s.created d.val = true) :=
  ⟨⟨sDom.setDom 511 { pend := some ⟨0, 0, none, 0, 0, 0, false⟩ }, 511, ⟨0, 0, none, 0, 0, 0, false⟩, by decide +kernel⟩,
   ⟨sDom.setDom 511 { slew := some ⟨1, 0, 1, 1, 1⟩ }, 511, ⟨1, 0, 1, 1, 1⟩, by decide +kernel⟩,
   ⟨sDom, 511, by decide +kernel⟩,
   ⟨sDom, 511, by decide +kernel⟩⟩

theorem witness_SelectorActions :
    (∃ (s : State) (who : Issuer) (n : Nat) (entries : List Nat), s.serves who ∧ (∀ x, s.targetSource n = some x → ∃ e ∈ entries,
      candNumber e = some x) ∧ (∀ d, s.boundDom n = some d → ∀ e ∈ entries, candNumber e ≠ some (64 + d)) ∧ issuerClient who = 0 ∧
      n ≤ 15 ∧ entries.length ≤ 24 ∧ entries.any candBad = false ∧ candTwice entries = false ∧ (∀ e ∈ entries, candKind e = 2 →
      s.created (candSource e) = true)) ∧
    (∃ (s : State) (who : Issuer) (n : Nat) (mode : Nat) (index : Nat), s.serves who ∧ issuerClient who = 0 ∧ n ≤ 15 ∧ mode ≤ 2 ∧
      (mode ≠ 0 → index ≤ 23 ∧ candEmpty (s.cand n index) = false ∧ candLocked (s.cand n index) = false)) ∧
    (∃ (s : State) (who : Issuer) (n : Nat) (index : Nat) (on : Nat), s.serves who ∧ issuerClient who = 0 ∧ n ≤ 15 ∧ index ≤ 23 ∧
      candEmpty (s.cand n index) = false ∧ on ≤ 1 ∧ (¬ (on = 1 ∧ s.attr Attr.selector_select_mode n ≠ 0 ∧ s.attrN
      Attr.selector_select_target n = index))) ∧
    (∃ (s : State) (who : Issuer) (n : Nat) (index : Nat), s.serves who ∧ issuerClient who = 0 ∧ n ≤ 15 ∧ (index ≤ 23 ∨ index =
      255)) ∧
    (∃ (s : State) (who : Issuer) (n : Nat), s.serves who ∧ issuerClient who = 0 ∧ n ≤ 15 ∧ s.attr Attr.selector_sel_state n =
      SelState.selected.code) :=
  ⟨⟨s0, .spi, 15, [0x1405], ⟨by decide +kernel, trivial⟩, (none_absurd (by decide +kernel)), (none_absurd (by decide +kernel)),
     by decide +kernel⟩,
   ⟨s0.put Attr.selector_candidates 15 23 0x405, .spi, 15, 2, 23, ⟨by decide +kernel, trivial⟩, by decide +kernel⟩,
   ⟨s0.put Attr.selector_candidates 15 23 0x405, .spi, 15, 23, 1, ⟨by decide +kernel, trivial⟩, by decide +kernel⟩,
   ⟨s0, .spi, 15, 255, ⟨by decide +kernel, trivial⟩, by decide +kernel⟩,
   ⟨s0.put1 Attr.selector_sel_state 15 SelState.selected.code, .spi, 15, ⟨by decide +kernel, trivial⟩, by decide +kernel⟩⟩

theorem witness_SelectorEvents :
    (∃ (s : State) (n : Fin 16), s.timing = true ∧ s.flag Attr.selector_enable n.val = true ∧ s.attr Attr.selector_sel_state n.val
      = SelState.noReference.code ∧ (s.sel n.val).newList = none ∧ (s.sel n.val).source = none ∧ s.mateTracked n.val = false ∧
      s.choice n.val = none ∧ (s.sel n.val).degraded = s.degradedNow n.val) ∧
    (∃ (s : State) (n : Fin 16) (k : Nat) (x : Nat), s.timing = true ∧ s.flag Attr.selector_enable n.val = true ∧ s.attr
      Attr.selector_sel_state n.val = SelState.noReference.code ∧ (s.sel n.val).newList = none ∧ (s.sel n.val).source = none ∧
      s.mateTracked n.val = false ∧ s.choice n.val = some k ∧ candNumber (s.cand n.val k) = some x) ∧
    (∃ (s : State) (n : Fin 16) (index : Fin 24) (x : Nat) (ends : Nat), s.timing = true ∧ candNumber (s.cand n.val index.val) =
      some x ∧ tblFind (s.sel n.val).wtr x = some ends) ∧
    (∃ (s : State) (n : Fin 16), s.timing = true ∧ s.attr Attr.selector_sel_state n.val = SelState.holdOff.code ∧ (s.sel
      n.val).newList = none ∧ (s.advance (s.sel n.val).holdEnds).mateTracked n.val = false ∧ (s.advance (s.sel
      n.val).holdEnds).choice n.val = none) :=
  ⟨⟨(s0.put1 Attr.selector_enable 15 1).put1 Attr.selector_sel_state 15 SelState.noReference.code, 15, by decide +kernel⟩,
   ⟨((((s0.put1 Attr.selector_enable 15 1).put1 Attr.selector_sel_state 15 SelState.noReference.code).put Attr.selector_candidates
     15 23 0x405).put1 Attr.selector_cand_count 15 24).put1 Attr.input_qual_state 5 QualState.qualified.code |>.put1
     Attr.input_enable 5 1 |>.put1 Attr.input_grade 5 1, 15, 23, 5, by decide +kernel⟩,
   ⟨(s0.put Attr.selector_candidates 15 23 0x405).setSel 15 { wtr := [(5, 100)] }, 15, 23, 5, 100, by decide +kernel⟩,
   ⟨s0.put1 Attr.selector_sel_state 15 SelState.holdOff.code, 15, by decide +kernel⟩⟩

theorem witness_DpllActions :
    (∃ (s : State) (who : Issuer) (n : Nat), s.serves who ∧ issuerClient who = 0 ∧ n ≤ 15 ∧ s.dpllState n ≠ .opened) ∧
    (∃ (s : State) (who : Issuer) (n : Nat) (word : Int), s.serves who ∧ issuerClient who = 0 ∧ n ≤ 15 ∧ s.dpllState n = .opened ∧
      word.natAbs ≤ 250000000000000) ∧
    (∃ (s : State) (who : Issuer) (n : Nat) (x : Int), s.serves who ∧ issuerClient who = 0 ∧ n ≤ 15 ∧ s.dpllState n = .opened ∧
      x.natAbs ≤ secondUnits) ∧
    (∃ (s : State) (who : Issuer) (n : Nat), s.serves who ∧ issuerClient who = 0 ∧ n ≤ 15 ∧ s.dpllState n = .opened ∧ ((s.sel
      n).source = none ∨ s.attr Attr.selector_sel_state n ≠ SelState.selected.code)) ∧
    (∃ (s : State) (who : Issuer) (n : Nat) (x : Nat), s.serves who ∧ issuerClient who = 0 ∧ n ≤ 15 ∧ s.dpllState n = .opened ∧
      (s.sel n).source = some x ∧ s.attr Attr.selector_sel_state n = SelState.selected.code) ∧
    (∃ (s : State) (who : Issuer) (n : Nat), s.serves who ∧ issuerClient who = 0 ∧ n ≤ 15 ∧ s.dpllState n ≠ .holdover ∧ s.dpllState
      n ≠ .holdoverLimit) :=
  ⟨⟨s0, .spi, 15, ⟨by decide +kernel, trivial⟩, by decide +kernel⟩,
   ⟨s0.put1 Attr.dpll_state 15 DpllState.opened.code, .spi, 15, -250000000000000, ⟨by decide +kernel, trivial⟩, by decide +kernel⟩,
   ⟨s0.put1 Attr.dpll_state 15 DpllState.opened.code, .spi, 15, -secondUnits, ⟨by decide +kernel, trivial⟩, by decide +kernel⟩,
   ⟨s0.put1 Attr.dpll_state 15 DpllState.opened.code, .spi, 15, ⟨by decide +kernel, trivial⟩, by decide +kernel⟩,
   ⟨(s0.put1 Attr.dpll_state 15 DpllState.opened.code |>.setSel 15 { source := some 5 } |>.put1 Attr.selector_sel_state 15
     SelState.selected.code), .spi, 15, 5, ⟨by decide +kernel, trivial⟩, by decide +kernel⟩,
   ⟨s0, .spi, 15, ⟨by decide +kernel, trivial⟩, by decide +kernel⟩⟩

theorem witness_DpllLoop :
    (∃ (s : State) (n : Fin 16), s.timing = true ∧ s.inLoop n.val = true ∧ (s.dpll n.val).heldOff = false ∧ s.streamPaused n.val =
      false) ∧
    (∃ (s : State) (n : Fin 16), s.timing = true ∧ s.dpllState n.val = .acquire ∧ s.flag Attr.dpll_settling n.val = false ∧ (s.dpll
      n.val).heldOff = false ∧ (s.attr Attr.dpll_phase_error n.val).natAbs * 1000 ≤ s.attrN Attr.dpll_lock_limit_used n.val *
      65536) ∧
    (∃ (s : State) (n : Fin 16), s.timing = true ∧ s.flag Attr.dpll_settling n.val = true) ∧
    (∃ (s : State) (n : Fin 16) (m : Movement) (tick : Nat), s.timing = true ∧ s.nextEnd n.val = some (m, tick) ∧ (s.dpll
      n.val).moves.any (·.word) = false) ∧
    (∃ (s : State) (n : Fin 16) (m : Movement) (tick : Nat), s.timing = true ∧ s.nextEnd n.val = some (m, tick) ∧ (s.dpll
      n.val).moves.any (·.word) = true) :=
  ⟨⟨s0.put1 Attr.dpll_state 15 DpllState.acquire.code, 15, by decide +kernel⟩,
   ⟨(s0.put1 Attr.dpll_state 15 DpllState.acquire.code).put1 Attr.dpll_settling 15 0, 15, by decide +kernel⟩,
   ⟨s0.put1 Attr.dpll_settling 15 1, 15, by decide +kernel⟩,
   ⟨s0.setDpll 15 { moves := [⟨.buildOut, 5, some 0, false, 5⟩] }, 15, ⟨.buildOut, 5, some 0, false, 5⟩, slopeTicks (s0.slopeOf 15
     .buildOut) 5, by decide +kernel⟩,
   ⟨s0.setDpll 15 { moves := [⟨.buildOut, 5, some 0, true, 5⟩] }, 15, ⟨.buildOut, 5, some 0, true, 5⟩, slopeTicks (s0.slopeOf 15
     .buildOut) 5, by decide +kernel⟩⟩

theorem witness_DpllHoldover :
    (∃ (s : State) (n : Fin 16) (u : State), s.timing = true ∧ (s.dpllState n.val = .holdover ∨ s.dpllState n.val = .holdoverLimit)
      ∧ u = s.advance ((s.dpll n.val).entered + (s.sinceEntry n.val + 1) * 1350000)) ∧
    (∃ (s : State) (n : Fin 16), s.engines = true ∧ s.dpllState n.val ≠ .holdover ∧ s.dpllState n.val ≠ .holdoverLimit) ∧
    (∃ (s : State) (n : Fin 16) (ends : Nat), s.timing = true ∧ ends = max s.second ((s.dpll n.val).secondCount + 1)) ∧
    (∃ (s : State), s.engines = true) ∧
    (∃ (s : State), s.engines = true) :=
  ⟨⟨s0.put1 Attr.dpll_state 15 DpllState.holdover.code, 15, (s0.put1 Attr.dpll_state 15 DpllState.holdover.code).advance 1350000,
     by decide +kernel⟩,
   ⟨s0, 15, by decide +kernel⟩,
   ⟨s0, 15, 1, by decide +kernel⟩,
   ⟨s0.setDpll 15 { fifo := [⟨1, 2, 3, 4, 5, 6, 7⟩] }, by decide +kernel⟩,
   ⟨s0, by decide +kernel⟩⟩

theorem witness_DpllPost :
    (∃ (s : State) (n : Fin 16) (instant : Nat) (d : Nat), s.timing = true ∧ s.boundDom n.val = some d ∧ s.canUpdate d instant =
      true ∧ (s.dpll n.val).pendWord = none) ∧
    (∃ (s : State) (n : Fin 16) (d : Nat), s.timing = true ∧ s.boundDom n.val = some d ∧ s.dpllState n.val ≠ .opened ∧ (s.dpll
      n.val).ctrlLost = false) ∧
    (∃ (s : State) (who : Issuer) (d : Nat) (n : Nat) (ppt : Int), s.serves who ∧ issuerClient who = 0 ∧ d ≤ 511 ∧ s.boundDpll d =
      some n ∧ s.dpllState n = .opened ∧ ppt.natAbs ≤ 250000000) ∧
    (∃ (s : State) (who : Issuer) (d : Nat) (n : Nat) (x : Int), s.serves who ∧ issuerClient who = 0 ∧ d ≤ 511 ∧ s.boundDpll d =
      some n ∧ s.inLoop n = false ∧ x.natAbs ≤ secondUnits ∧ 0 ≤ s.domNow d + x) :=
  ⟨⟨sBound, 15, 0, 511, by decide +kernel⟩,
   ⟨sBound, 15, 511, by decide +kernel⟩,
   ⟨sBound.put1 Attr.dpll_state 15 DpllState.opened.code, .spi, 511, 15, 250000000, ⟨by decide +kernel, trivial⟩,
     by decide +kernel⟩,
   ⟨sBound, .spi, 511, 15, secondUnits, ⟨by decide +kernel, trivial⟩, by decide +kernel⟩⟩

theorem witness_SynActions :
    (∃ (s : State) (who : Issuer) (slot : Nat) (trigger : Nat) (edge : Nat) (synMask : Nat) (outMask : Nat) (d : Nat) (time : Nat),
      s.serves who ∧ issuerClient who = 0 ∧ s.commitRange slot trigger edge synMask outMask d time = false ∧ s.triggerPassed
      trigger d time = false ∧ s.commitState trigger edge synMask outMask d = false ∧ s.commitInUse slot synMask outMask = false) ∧
    (∃ (s : State) (who : Issuer) (slot : Nat) (trigger : Nat) (edge : Nat) (synMask : Nat) (outMask : Nat) (d : Nat) (time : Nat),
      s.serves who ∧ issuerClient who = 0 ∧ s.commitRange slot trigger edge synMask outMask d time = false ∧ s.triggerPassed
      trigger d time = true) ∧
    (∃ (s : State) (who : Issuer) (slot : Nat) (a : CommitArm), s.serves who ∧ issuerClient who = 0 ∧ slot ≤ 7 ∧ tblFind s.arms
      slot = some a) ∧
    (∃ (s : State) (who : Issuer) (n : Nat), s.serves who ∧ issuerClient who = 0 ∧ n ≤ 7 ∧ ratioOk (s.pendingRatio n) = true ∧
      s.synState n ≠ .off ∧ s.synState n ≠ .calibrating ∧ s.tapUsers n = 0) :=
  ⟨⟨s0.put1 Attr.syn_state 7 SynState.locked.code, .spi, 7, 0, 0, 128, 0, 0, 0, ⟨by decide +kernel, trivial⟩, by decide +kernel⟩,
   ⟨sDom.setDom 511 { words := ⟨secondUnits, 0, 208499982748634⟩ }, .spi, 7, 2, 0, 0, 0, 511, 0, ⟨by decide +kernel, trivial⟩,
     by decide +kernel⟩,
   ⟨{ s0 with arms := [(7, ⟨0, 0, 0, 0, 0, 0, 0, false⟩)] }, .spi, 7, ⟨0, 0, 0, 0, 0, 0, 0, false⟩, ⟨by decide +kernel, trivial⟩,
     by decide +kernel⟩,
   ⟨s0.put1 Attr.syn_state 7 SynState.locked.code, .spi, 7, ⟨by decide +kernel, trivial⟩, by decide +kernel⟩⟩

theorem witness_SynStates :
    (∃ (s : State) (n : Fin 8), s.timing = true ∧ s.synState n.val = .calibrating) ∧
    (∃ (s : State) (n : Fin 8), s.timing = true ∧ s.synState n.val = .retuning) ∧
    (∃ (s : State) (n : Fin 8), s.timing = true ∧ (s.synState n.val = .calibrating ∨ s.synState n.val = .retuning)) ∧
    (∃ (s : State) (n : Fin 8), s.timing = true ∧ s.synState n.val = .locked) ∧
    (∃ (s : State) (n : Fin 8) (margin : Nat), s.timing = true ∧ s.synState n.val = .locked ∧ margin ≤ 100) :=
  ⟨⟨s0.put1 Attr.syn_state 7 SynState.calibrating.code, 7, by decide +kernel⟩,
   ⟨s0.put1 Attr.syn_state 7 SynState.retuning.code, 7, by decide +kernel⟩,
   ⟨s0.put1 Attr.syn_state 7 SynState.retuning.code, 7, by decide +kernel⟩,
   ⟨s0.put1 Attr.syn_state 7 SynState.locked.code, 7, by decide +kernel⟩,
   ⟨s0.put1 Attr.syn_state 7 SynState.locked.code, 7, 9, by decide +kernel⟩⟩

theorem witness_OutputEvents :
    (∃ (s : State) (n : Fin 32), s.timing = true ∧ (s.outp n.val).starting = true ∧ s.flag Attr.output_enable n.val = true ∧
      s.synState (n.val / 4) = .locked) ∧
    (∃ (s : State) (n : Fin 32), s.timing = true ∧ (s.outp n.val).started = true ∧ (s.flag Attr.output_enable n.val = false ∨
      s.synState (n.val / 4) = .off)) ∧
    (∃ (s : State) (n : Fin 32), s.timing = true ∧ (s.outp n.val).started = true ∧ s.flag Attr.output_enable n.val = true ∧
      s.synState (n.val / 4) ≠ .off ∧ s.outGateWanted n.val = true) ∧
    (∃ (s : State) (n : Fin 32), s.timing = true ∧ (s.outp n.val).started = true ∧ s.outGateWanted n.val = false) ∧
    (∃ (s : State) (n : Fin 32), s.timing = true ∧ (s.outp n.val).started = true ∧ (s.outp n.val).toRun ≠ 0) ∧
    (∃ (s : State), s.timing = true) ∧
    (∃ (s : State) (who : Issuer) (n : Nat), s.serves who ∧ issuerClient who = 0 ∧ n ≤ 31 ∧ (s.outp n).pulse = true) :=
  ⟨⟨((s0.put1 Attr.output_enable 31 1).put1 Attr.syn_state 7 SynState.locked.code).setOutp 31 { starting := true }, 31,
     by decide +kernel⟩,
   ⟨s0.setOutp 31 { started := true }, 31, by decide +kernel⟩,
   ⟨((s0.put1 Attr.output_enable 31 1).put1 Attr.syn_state 7 SynState.unlocked.code).setOutp 31 { started := true }, 31,
     by decide +kernel⟩,
   ⟨(((s0.put1 Attr.output_enable 31 1).put1 Attr.output_run_cond 31 0).put1 Attr.syn_state 7 SynState.locked.code).setOutp 31
     { started := true, gated := true }, 31, by decide +kernel⟩,
   ⟨s0.setOutp 31 { started := true, stepper := -1 }, 31, by decide +kernel⟩,
   ⟨s0, by decide +kernel⟩,
   ⟨s0.setOutp 31 { pulse := true }, .spi, 31, ⟨by decide +kernel, trivial⟩, by decide +kernel⟩⟩

theorem witness_CommitApplies :
    (∃ (s : State) (u : State) (slot : Fin 8) (a : CommitArm), s.timing = true ∧ tblFind s.arms slot.val = some a ∧
      s.triggerReached a = some u) :=
  ⟨{ s0 with arms := [(7, ⟨0, 0, 255, 0xFFFFFFFF, 0, 0, 0, false⟩)] },
    ({ s0 with arms := [(7, ⟨0, 0, 255, 0xFFFFFFFF, 0, 0, 0, false⟩)] }).advance 1, 7, ⟨0, 0, 255, 0xFFFFFFFF, 0, 0, 0, false⟩,
    by decide +kernel⟩

theorem witness_GeneratorActions :
    (∃ (s : State) (who : Issuer) (n : Nat), s.serves who ∧ issuerClient who = 0 ∧ n ≤ 7) ∧
    (∃ (s : State) (who : Issuer) (n : Nat), s.serves who ∧ issuerClient who = 0 ∧ n ≤ 5) ∧
    (∃ (s : State) (who : Issuer) (n : Nat), s.serves who ∧ issuerClient who = 0 ∧ n ≤ 1) ∧
    (∃ (s : State) (who : Issuer) (n : Nat), s.serves who ∧ issuerClient who = 0 ∧ n ≤ 1 ∧ s.tc2997 n = true ∧ (s.genState (14 + n)
      = .running ∨ s.genState (14 + n) = .gated ∨ s.genState (14 + n) = .safe) ∧ (s.gen (14 + n)).running = true) :=
  ⟨⟨s0, .spi, 7, ⟨by decide +kernel, trivial⟩, by decide +kernel⟩,
   ⟨s0, .spi, 5, ⟨by decide +kernel, trivial⟩, by decide +kernel⟩,
   ⟨s0, .spi, 1, ⟨by decide +kernel, trivial⟩, by decide +kernel⟩,
   ⟨((sGen 15).put1 Attr.tcgen_tc_rate 1 2).put1 Attr.tcgen_enable 1 1, .spi, 1, ⟨by decide +kernel, trivial⟩, by decide +kernel⟩⟩

theorem witness_GeneratorEvents :
    (∃ (s : State) (g : Gen), s.timing = true ∧ s.genReleased (genNumber g) = true) ∧
    (∃ (s : State) (g : Gen), s.timing = true ∧ (s.gen (genNumber g)).running = true) ∧
    (∃ (s : State) (x : Gen), s.timing = true ∧ (s.gen (genNumber x)).lehr.stepping = true) ∧
    (∃ (s : State) (n : Fin 32), s.timing = true ∧ (s.outp n.val).lehr.stepping = true) ∧
    (∃ (s : State) (x : Gen), s.timing = true ∧ (s.gen (genNumber x)).lehr.e ≠ 0 ∧ (s.gen (genNumber x)).lehr.stepping = false) ∧
    (∃ (s : State) (n : Fin 32), s.timing = true ∧ (s.outp n.val).lehr.e ≠ 0 ∧ (s.outp n.val).lehr.stepping = false) ∧
    (∃ (s : State), s.timing = true) :=
  ⟨⟨(((sBound.put1 Attr.vidgen_enable 7 1).put1 Attr.vidgen_domain 7 511).put1 Attr.domain_time_status 511 1), .vid 7,
     by decide +kernel⟩,
   ⟨sGen 7, .vid 7, by decide +kernel⟩,
   ⟨s0.setGen 7 { lehr := ⟨5, 0, true, 0⟩ }, .vid 7, by decide +kernel⟩,
   ⟨s0.setOutp 31 { lehr := ⟨5, 0, true, 0⟩ }, 31, by decide +kernel⟩,
   ⟨s0.setGen 17 { lehr := ⟨5, 0, false, 0⟩ }, .tod 1, by decide +kernel⟩,
   ⟨s0.setOutp 31 { lehr := ⟨5, 0, false, 0⟩ }, 31, by decide +kernel⟩,
   ⟨s0, by decide +kernel⟩⟩

theorem witness_GeneratorFormats :
    (∃ (s : State) (n : Fin 8), s.timing = true ∧ (s.gen n.val).running = true ∧ (s.gen n.val).formatDue = true) ∧
    (∃ (s : State) (n : Fin 2), s.timing = true ∧ (s.gen (12 + n.val)).running = true ∧ s.aesGradeNow (12 + n.val) ≠ s.attr
      Attr.audgen_aes_grade (4 + n.val)) ∧
    (∃ (s : State) (n : Fin 2), s.control = true ∧ (s.gen (14 + n.val)).running = true) ∧
    (∃ (s : State) (n : Fin 2), s.timing = true ∧ (s.gen (14 + n.val)).running = true ∧ s.tc2997 n.val = true ∧ ((s.gen (14 +
      n.val)).dailyArmed = true ∨ s.firmware = true)) ∧
    (∃ (s : State) (n : Fin 2) (j : Int), s.timing = true ∧ (s.gen (14 + n.val)).running = true ∧ s.tc2997 n.val = true ∧ (s.gen
      (14 + n.val)).jamDue = some j) ∧
    (∃ (s : State) (n : Fin 2), s.timing = true ∧ s.genState (16 + n.val) = .running ∧ s.todQuiet n.val = false) :=
  ⟨⟨s0.setGen 7 { running := true, formatDue := true }, 7, by decide +kernel⟩,
   ⟨(s0.setGen 13 { running := true }).put1 Attr.audgen_aes_grade 5 0, 1, by decide +kernel⟩,
   ⟨s0.setGen 15 { running := true }, 1, by decide +kernel⟩,
   ⟨(s0.setGen 15 { running := true, dailyArmed := true }).put1 Attr.tcgen_tc_rate 1 3, 1, by decide +kernel⟩,
   ⟨(s0.setGen 15 { running := true, jamDue := some 0 }).put1 Attr.tcgen_tc_rate 1 3, 1, 0, by decide +kernel⟩,
   ⟨((((sGen 17).put1 Attr.todgen_enable 1 1).put1 Attr.todgen_domain 1 511).put1 Attr.todgen_tod_companion 1 31).put1
     Attr.output_enable 31 1 |>.put1 Attr.syn_state 7 SynState.locked.code |>.setOutp 31 { started := true, pulse := true }, 1,
     by decide +kernel⟩⟩

theorem witness_InputMonitors :
    (∃ (s : State) (n : Fin 36), s.timing = true ∧ s.inputOn n.val = true ∧ s.channelDown n.val = false ∧ s.inputType n.val ≠ .ltc) ∧
    (∃ (s : State) (n : Fin 36) (count : Nat) (vernier : Nat) (f : LineFit) (q : Int), s.timing = true ∧ s.inputOn n.val = true ∧
      s.channelDown n.val = false ∧ s.inputType n.val ≠ .ltc ∧ bitOf (s.failing n.val) 0 = false ∧ s.suppressed n.val = false ∧
      (s.input n.val).fit = some f ∧ q = s.monitorPlace n.val count (s.stampPlace n.val count vernier) ∧ s.departs n.val f
      (s.stampNumber n.val q, q) = true) ∧
    (∃ (s : State) (n : Fin 36), s.timing = true ∧ s.inputOn n.val = true ∧ s.channelDown n.val = false ∧ s.inputType n.val = .ltc) ∧
    (∃ (s : State) (n : Fin 36), s.timing = true ∧ s.inputOn n.val = true ∧ s.suppressed n.val = false ∧ (s.channel n.val).failed =
      false ∧ bitOf (s.failing n.val) 0 = false) ∧
    (∃ (s : State) (u : State) (n : Fin 36), s.timing = true ∧ s.inputOn n.val = true ∧ u = s.advance (s.gateAt n.val) ∧
      u.suppressed n.val = false) ∧
    (∃ (s : State) (n : Fin 36), s.timing = true ∧ s.inputOn n.val = true ∧ (s.advance (s.gateAt n.val)).suppressed n.val = true) ∧
    (∃ (s : State) (n : Fin 36), s.timing = true ∧ s.attr Attr.input_qual_state n.val = QualState.soaking.code) :=
  ⟨⟨sIn 26, 26, by decide +kernel⟩,
   ⟨(sIn 26).setInput 26 { fit := some ⟨0, 0, 1⟩ }, 26, 1000000, 0, ⟨0, 0, 1⟩, ((sIn 26).setInput 26
     { fit := some ⟨0, 0, 1⟩ }).monitorPlace 26 1000000 (((sIn 26).setInput 26 { fit := some ⟨0, 0, 1⟩ }).stampPlace 26 1000000 0),
     by decide +kernel⟩,
   ⟨sIn 20, 20, by decide +kernel⟩,
   ⟨sIn 26, 26, by decide +kernel⟩,
   ⟨sIn 26, (sIn 26).advance ((sIn 26).gateAt 26), 26, by decide +kernel⟩,
   ⟨((sIn 35).put1 Attr.syn_state 7 SynState.calibrating.code), 35, by decide +kernel⟩,
   ⟨(sIn 26).put1 Attr.input_qual_state 26 QualState.soaking.code, 26, by decide +kernel⟩⟩

theorem witness_InputFirmware :
    (∃ (s : State) (u : State) (n : Fin 36) (f : LineFit), s.control = true ∧ s.monitored n.val = true ∧ u = s.noteSecond n.val ∧
      u.driftFit n.val = some f) ∧
    (∃ (s : State) (n : Fin 36), s.control = true ∧ s.monitored n.val = true) ∧
    (∃ (s : State) (n : Fin 36) (g : Nat) (tick : Nat), s.control = true ∧ s.monitored n.val = true ∧ tblFind (s.input n.val).msgs
      (s.attrN Attr.input_grade_source n.val) = some (g, tick) ∧ s.attrN Attr.input_grade_source n.val ≠ 0) ∧
    (∃ (s : State) (p : Fin 4), s.control = true ∧ s.inputOn (22 + p.val) = true) ∧
    (∃ (s : State) (n : Fin 4), s.control = true ∧ s.inputOn (16 + n.val) = true) ∧
    (∃ (s : State) (n : Fin 2) (rate : Fin 6) (civil : CivilTime) (frame : Nat) (sec : Int), s.timing = true ∧ s.control = true ∧
      s.inputOn (20 + n.val) = true ∧ s.channelDown (20 + n.val) = false ∧ frame < ltcFrames rate.val ∧ dropped rate.val
      civil.minute civil.second frame = false ∧ s.ltcTime (20 + n.val) civil = some sec) ∧
    (∃ (s : State) (n : Fin 2), s.control = true ∧ s.inputOn (20 + n.val) = true) :=
  ⟨⟨(sIn 26).setInput 26
     { second := some (0, 0), secs := 3600, lastStamp := some (1, 1), avgs := [(7199, 5), (7197, 5), (7195, 5)] }, ((sIn
     26).setInput 26
     { second := some (0, 0), secs := 3600, lastStamp := some (1, 1), avgs := [(7199, 5), (7197, 5), (7195, 5)] }).noteSecond 26,
     26, ((((sIn 26).setInput 26
     { second := some (0, 0), secs := 3600, lastStamp := some (1, 1), avgs := [(7199, 5), (7197, 5), (7195, 5)] }).noteSecond
     26).driftFit 26).getD ⟨0, 0, 1⟩, by decide +kernel⟩,
   ⟨sIn 26, 26, by decide +kernel⟩,
   ⟨((sIn 25).setInput 25 { msgs := [(1, 3, 0)] } |>.put1 Attr.input_grade_source 25 1), 25, 3, 0, by decide +kernel⟩,
   ⟨sIn 25, 3, by decide +kernel⟩,
   ⟨sIn 19, 3, by decide +kernel⟩,
   ⟨((sIn 21).put1 Attr.input_time_domain 21 511).put1 Attr.domain_state 511 1 |>.setDom 511
     { words := ⟨100 * secondUnits, 0, 208499982748634⟩ }, 1, 5, ⟨1970, 1, 1, 0, 0, 0⟩, 0, 37, by decide +kernel⟩,
   ⟨sIn 21, 1, by decide +kernel⟩⟩

theorem witness_TimeOfDayMessages :
    (∃ (s : State) (rx : Fin 2) (n : Nat) (seconds : Nat) (edge : Nat) (place : Int) (timing : LabelTiming), s.companion rx.val =
      some n ∧ s.control = true ∧ s.attr Attr.input_tod_protocol n = 0 ∧ timing.checksumOk = true ∧ s.attr Attr.input_tod_label n =
      0 ∧ (s.lastStamps n).find? (fun e => decide (e.2 ≤ (timing.start : Int) * 1024)) = some (edge, place) ∧ inLabelWindow
      timing.start place = true ∧ keepsSequence (s.input n).sequence seconds edge = true) ∧
    (∃ (s : State) (rx : Fin 2) (n : Nat) (timing : LabelTiming), s.companion rx.val = some n ∧ s.control = true ∧ s.attr
      Attr.input_tod_protocol n = 0 ∧ timing.checksumOk = true ∧ s.attr Attr.input_tod_label n ≠ 0) ∧
    (∃ (s : State) (rx : Fin 2) (n : Nat), s.companion rx.val = some n ∧ s.control = true ∧ s.attr Attr.input_tod_protocol n = 0) ∧
    (∃ (s : State) (rx : Fin 2) (n : Nat) (edge : Nat) (place : Int) (timing : LabelTiming) (civil : CivilTime) (sec : Int),
      s.companion rx.val = some n ∧ s.control = true ∧ s.attr Attr.input_tod_protocol n = 1 ∧ timing.checksumOk = true ∧ s.attr
      Attr.input_tod_label n = 0 ∧ (s.lastStamps n).find? (fun e => decide (e.2 ≤ (timing.start : Int) * 1024)) = some (edge,
      place) ∧ inLabelWindow timing.start place = true ∧ s.utcToDomain (s.attrN Attr.input_time_domain n) (s.domTimeAt (s.attrN
      Attr.input_time_domain n) place) civil = some sec ∧ keepsSequence (s.input n).sequence sec edge = true) ∧
    (∃ (s : State) (rx : Fin 2) (n : Nat) (edge : Nat) (place : Int) (timing : LabelTiming) (civil : CivilTime) (sec : Int),
      s.companion rx.val = some n ∧ s.control = true ∧ s.attr Attr.input_tod_protocol n = 1 ∧ timing.checksumOk = true ∧ s.attr
      Attr.input_tod_label n = 0 ∧ (s.lastStamps n).find? (fun e => decide (e.2 ≤ (timing.start : Int) * 1024)) = some (edge,
      place) ∧ inLabelWindow timing.start place = true ∧ s.utcToDomain (s.attrN Attr.input_time_domain n) (s.domTimeAt (s.attrN
      Attr.input_time_domain n) place) (s.resolveYear (s.attrN Attr.input_time_domain n) civil) = some sec ∧ keepsSequence (s.input
      n).sequence sec edge = true) :=
  ⟨⟨(sTod 0).setInput 15 { lastStamp := some (100, 102400) }, 1, 15, 0, 0, 102400,
     { checksumOk := true, samples := [], start := 2000000, stop := 2000001 }, by decide +kernel⟩,
   ⟨(sTod 0).put1 Attr.input_tod_label 15 1, 1, 15, { checksumOk := true, samples := [], start := 2000000, stop := 2000001 },
     by decide +kernel⟩,
   ⟨sTod 0, 1, 15, by decide +kernel⟩,
   ⟨(sTod 1).setDom 511 { words := ⟨1767225600 * secondUnits, 0, 208499982748634⟩ } |>.setInput 15
     { lastStamp := some (100, 102400) }, 1, 15, 0, 102400,
     { checksumOk := true, samples := [], start := 2000000, stop := 2000001 }, ⟨2026, 1, 1, 0, 0, 0⟩, 1767225637,
     by decide +kernel⟩,
   ⟨(sTod 1).setDom 511 { words := ⟨1767225600 * secondUnits, 0, 208499982748634⟩ } |>.setInput 15
     { lastStamp := some (100, 102400) }, 1, 15, 0, 102400,
     { checksumOk := true, samples := [], start := 2000000, stop := 2000001 }, ⟨2026, 1, 1, 0, 0, 0⟩, 1767225637,
     by decide +kernel⟩⟩

theorem witness_PortActions :
    (∃ (s : State) (who : Issuer) (port : Nat) (slot : Nat) (e : Nat), s.serves who ∧ issuerClient who = 0 ∧ port ≤ 3 ∧ slot ≤ 31 ∧
      entryOk e = true ∧ s.transportOk port (bindTransport e) = true ∧ s.power ≠ .standbyWarm ∧ s.created (bindDomain e) = true ∧
      (bindRole e = 2 → s.boundDpll (bindDomain e) = none) ∧ (bindRole e = 3 → (s.paired port).isSome = true) ∧ s.bindUsed port
      slot = false ∧ (∀ k, k < 32 → s.bindUsed port k = true → ¬ (bindNumber (s.binding port k) = bindNumber e ∧ bindTransport
      (s.binding port k) = bindTransport e))) ∧
    (∃ (s : State) (who : Issuer) (port : Nat) (slot : Nat), s.serves who ∧ issuerClient who = 0 ∧ port ≤ 3 ∧ slot ≤ 31 ∧ s.power ≠
      .standbyWarm ∧ s.bindUsed port slot = true) ∧
    (∃ (s : State) (p : Fin 4) (slot : Fin 32), s.firmware = true ∧ (s.bindRec p.val slot.val).unbinding = true) ∧
    (∃ (s : State) (who : Issuer) (slot : Nat) (spp : Nat) (icvLen : Nat), s.serves who ∧ issuerClient who = 0 ∧ slot ≤ 255 ∧ spp ≤
      255 ∧ (icvLen = 16 ∨ icvLen = 32)) ∧
    (∃ (s : State) (who : Issuer) (slot : Nat), s.serves who ∧ issuerClient who = 0 ∧ slot ≤ 255) ∧
    (∃ (s : State) (who : Issuer) (queue : Nat) (port : Nat) (client : Nat) (policy : Nat), s.serves who ∧ issuerClient who = 0 ∧
      queue ≤ 63 ∧ port ≤ 3 ∧ client ≤ 511 ∧ policy ≤ 1 ∧ (∀ p, p < 4 → s.queued p queue = 0 ∧ ∀ f ∈ (s.port p).sends, f.queue ≠
      queue)) :=
  ⟨⟨sPort.put1 Attr.port_ipv4_addr 3 1, .spi, 3, 31, 0xa000000010000000a000100ff01ff00808080808080101000, ⟨by decide +kernel,
     trivial⟩, by decide +kernel⟩,
   ⟨sBind, .spi, 3, 31, ⟨by decide +kernel, trivial⟩, by decide +kernel⟩,
   ⟨sBind.setBindRec 3 31 { unbinding := true }, 3, 31, by decide +kernel⟩,
   ⟨s0, .spi, 255, 255, 32, ⟨by decide +kernel, trivial⟩, by decide +kernel⟩,
   ⟨s0, .spi, 255, ⟨by decide +kernel, trivial⟩, by decide +kernel⟩,
   ⟨s0, .spi, 63, 3, 511, 1, ⟨by decide +kernel, trivial⟩, by decide +kernel⟩⟩

theorem witness_PortLinks :
    (∃ (s : State) (p : Fin 4), s.timing = true ∧ s.boot.phase = .running ∧ s.flag Attr.port_enable p.val = true ∧ s.flag
      Attr.port_link_state p.val = false) ∧
    (∃ (s : State) (p : Fin 4), s.timing = true ∧ s.flag Attr.port_link_state p.val = true) ∧
    (∃ (s : State) (p : Fin 4), s.portUp p.val = true) ∧
    (∃ (s : State) (p : Fin 4), s.portUp p.val = true ∧ s.paired p.val = none) ∧
    (∃ (s : State) (p : Fin 4) (kind : ReplyKind) (vlan : Nat), s.portUp p.val = true ∧ (vlan : Int) = s.attr Attr.port_vlan_id
      p.val ∧ s.answers p.val kind = true ∧ (tblGet (s.port p.val).replies (0, 0) (replyLimit kind)).2 < 100) ∧
    (∃ (s : State) (p : Fin 4) (kind : ReplyKind) (vlan : Nat), s.portUp p.val = true ∧ ((vlan : Int) ≠ s.attr Attr.port_vlan_id
      p.val ∨ s.answers p.val kind = false)) ∧
    (∃ (s : State) (p : Fin 4) (q : Nat) (kind : TransitKind) (length : Nat) (domainNumber : Nat) (transport : Nat) (residence :
      Nat) (correction : Int) (new : Int), s.paired p.val = some q ∧ s.portUp p.val = true ∧ s.portUp q = true ∧ s.portForced p.val
      = false ∧ s.portForced q = false ∧ s.fifoRoom p.val length = true ∧ transitEvent kind = true ∧ new = correction +
      s.residenceTime p.val q domainNumber transport residence + s.transitAsymmetry p.val q kind) ∧
    (∃ (s : State) (p : Fin 4) (q : Nat) (kind : TransitKind) (length : Nat), s.paired p.val = some q ∧ s.portUp p.val = true ∧
      s.portUp q = true ∧ s.portForced p.val = false ∧ s.portForced q = false ∧ s.fifoRoom p.val length = true ∧ transitEvent kind
      = false) :=
  ⟨⟨s0.put1 Attr.port_enable 3 1, 3, by decide +kernel⟩,
   ⟨sPort, 3, by decide +kernel⟩,
   ⟨sPort, 3, by decide +kernel⟩,
   ⟨sPort, 3, by decide +kernel⟩,
   ⟨(sPort.put1 Attr.port_ipv4_addr 3 1), 3, .arp, 0, by decide +kernel⟩,
   ⟨sPort, 3, .ndp, 0, by decide +kernel⟩,
   ⟨((((sPort.put1 Attr.port_enable 2 1).put1 Attr.port_link_state 2 1).put1 Attr.port_tc_pair 3 2).put1 Attr.port_tc_pair 2 3), 3,
     2, .sync, 64, 0, 0, 0, 0, 0, by decide +kernel⟩,
   ⟨((((sPort.put1 Attr.port_enable 2 1).put1 Attr.port_link_state 2 1).put1 Attr.port_tc_pair 3 2).put1 Attr.port_tc_pair 2 3), 3,
     2, .other, 64, by decide +kernel⟩⟩

theorem witness_TransmitPath :
    (∃ (s : State) (who : Issuer) (queue : Nat) (flags : Nat) (tsOffset : Nat) (domain : Nat) (length : Nat) (launch : Nat) (frame
      : List Byte), s.serves who ∧ s.permits who (.hostQueue queue) = true ∧ queue ≤ 63 ∧ 64 ≤ length ∧ length ≤ 9216 ∧ (bitOf
      flags 0 = true ∨ bitOf flags 1 = true ∨ bitOf flags 2 = true → domain ≤ 511 ∧ s.created domain = true) ∧ frame.length =
      length ∧ (bitOf flags 1 = true → (eventShape frame).isSome = true ∧ 26 ≤ tsOffset ∧ tsOffset + 10 ≤ length) ∧ (bitOf flags 0
      = true → ∃ x, commandTime launch = some x ∧ x ≤ s.domNow domain + secondUnits) ∧ s.power ≠ .standbyWarm ∧ s.portUp
      (s.queuePort queue) = true) ∧
    (∃ (s : State) (p : Fin 4) (cls : FrameClass) (f : TxFrame) (rest : List TxFrame), s.nextFrame p.val cls = some (f, rest) ∧
      s.portUp p.val = true ∧ s.portForced p.val = false ∧ (f.kind = none ∨ (s.port p.val).ready = true) ∧ s.frameForced f = false
      ∧ (cls = .hardware ∨ s.control = true) ∧ f.launch = none) ∧
    (∃ (s : State) (p : Fin 4) (cls : FrameClass) (f : TxFrame) (rest : List TxFrame), s.nextFrame p.val cls = some (f, rest) ∧
      s.portUp p.val = true ∧ s.creditFor p.val f = false) ∧
    (∃ (s : State) (p : Fin 4) (f : TxFrame) (g : TxFrame) (rest : List TxFrame) (l : Nat × Int), s.firstTimed p.val = some f ∧
      f.launch = some l ∧ s.portUp p.val = true ∧ s.gateTime p.val l ≤ s.domNow l.1 ∧ (s.port p.val).leaving = [] ∧ takeFirst (fun
      x => decide (x = f)) (s.port p.val).buffer = some (g, rest)) ∧
    (∃ (s : State) (p : Fin 4) (count : Nat) (vernier : Nat) (f : TxFrame) (g : TxFrame) (rest : List TxFrame) (x : Int), s.portUp
      p.val = true ∧ x = s.domTime f.domain count vernier + s.txDelay p.val ∧ g =
      { f with departure := some x, data := s.departing p.val f x } ∧ s.portForced p.val = false ∧ s.mayStart p.val f = true ∧
      (takeFirst (fun x => x.released) (s.port p.val).buffer = some (f, rest) ∨ takeFirst (fun x => x.released) (s.port
      p.val).buffer = none ∧ takeFirst (fun x => x.launch.isNone) (s.port p.val).buffer = some (f, rest))) ∧
    (∃ (s : State) (p : Fin 4) (f : TxFrame) (rest : List TxFrame), (s.port p.val).leaving = f :: rest ∧ s.portUp p.val = true) :=
  ⟨⟨sPort.put Attr.port_hostq 0 63 (3 + 511 * 256 + 2 ^ 19), .ring 511 0, 63, 0, 0, 0, 9216, 0, List.replicate 9216 0,
     ⟨by decide +kernel, by decide +kernel⟩, by decide +kernel⟩,
   ⟨sPort.setPort 3 { ready := true, waiting := [{ txFrame with cls := .hardware, queue := 65535 }] }, 3, .hardware,
     { txFrame with cls := .hardware, queue := 65535 }, [], by decide +kernel⟩,
   ⟨sPort.setPort 3
     { ready := true, waiting := [{ txFrame with length := 9216 }], buffer := List.replicate 90 { txFrame with length := 9216 } },
     3, .host, { txFrame with length := 9216 }, [], by decide +kernel⟩,
   ⟨sPort.setPort 3 { ready := true, buffer := [{ txFrame with launch := some (511, 0) }] }, 3,
     { txFrame with launch := some (511, 0) }, { txFrame with launch := some (511, 0) }, [], (511, 0), by decide +kernel⟩,
   ⟨sPort.setPort 3 { ready := true, buffer := [txFrame] }, 3, 1, 0, txFrame,
     { txFrame with departure := some ((sPort.setPort 3 { ready := true, buffer := [txFrame] }).domTime 0 1 0 + (sPort.setPort 3 { ready := true, buffer := [txFrame] }).txDelay 3), data := (sPort.setPort 3 { ready := true, buffer := [txFrame] }).departing 3 txFrame ((sPort.setPort 3 { ready := true, buffer := [txFrame] }).domTime 0 1 0 + (sPort.setPort 3 { ready := true, buffer := [txFrame] }).txDelay 3) },
     [], (sPort.setPort 3 { ready := true, buffer := [txFrame] }).domTime 0 1 0 + (sPort.setPort 3
     { ready := true, buffer := [txFrame] }).txDelay 3, by decide +kernel⟩,
   ⟨sPort.setPort 3 { leaving := [txFrame] }, 3, txFrame, [], by decide +kernel⟩⟩

theorem witness_ReceivedPtp :
    (∃ (s : State) (p : Fin 4) (slot : Fin 32) (head : PtpHead), s.engines = true ∧ s.portReady p.val = true ∧ s.bindUsed p.val
      slot.val = true ∧ s.authPasses p.val slot.val head = true ∧ (s.bindRec p.val slot.val).parent = some head.sender) ∧
    (∃ (s : State) (p : Fin 4) (slot : Fin 32) (head : PtpHead), s.engines = true ∧ s.portReady p.val = true ∧ s.bindUsed p.val
      slot.val = true ∧ s.authPasses p.val slot.val head = false) ∧
    (∃ (s : State) (p : Fin 4) (slot : Fin 32) (head : PtpHead), s.engines = true ∧ s.portReady p.val = true ∧ s.bindUsed p.val
      slot.val = true ∧ s.authPasses p.val slot.val head = true ∧ s.fromParent p.val slot.val head = true) ∧
    (∃ (s : State) (p : Fin 4) (slot : Fin 32) (head : PtpHead) (at_ : Int) (c : Int), s.engines = true ∧ s.portReady p.val = true
      ∧ s.bindUsed p.val slot.val = true ∧ s.authPasses p.val slot.val head = true ∧ s.fromParent p.val slot.val head = true ∧
      (s.bindRec p.val slot.val).awaiting = some (head.seq, at_, c)) ∧
    (∃ (s : State) (p : Fin 4) (slot : Fin 32) (head : PtpHead) (sent : Int), s.engines = true ∧ s.portReady p.val = true ∧
      s.bindUsed p.val slot.val = true ∧ s.authPasses p.val slot.val head = true ∧ s.fromParent p.val slot.val head = true ∧
      (s.bindRec p.val slot.val).delayReqSent = some (head.seq, sent)) ∧
    (∃ (s : State) (p : Fin 4) (slot : Fin 32) (head : PtpHead) (count : Nat) (vernier : Nat) (request : Int) (response : Int)
      (sent : Int) (arrival : Int) (ratio : Int) (delay : Int), s.engines = true ∧ s.portReady p.val = true ∧ s.bindUsed p.val
      slot.val = true ∧ s.authPasses p.val slot.val head = true ∧ bindProfile (s.binding p.val slot.val) = 4 ∧ (s.bindRec p.val
      slot.val).pdelaySent = some (head.seq, sent) ∧ arrival = s.rxTime p.val (bindDomain (s.binding p.val slot.val)) count vernier
      ∧ ratio = rateRatio (s.bindRec p.val slot.val).pdelayLast response arrival ∧ delay = linkDelay ratio sent request response
      arrival - psUnits (s.attr Attr.port_delay_asymmetry p.val)) ∧
    (∃ (s : State) (p : Fin 4) (slot : Fin 32) (head : PtpHead), s.timing = true ∧ s.portReady p.val = true ∧ s.bindUsed p.val
      slot.val = true ∧ s.authPasses p.val slot.val head = true ∧ ticksPerSecond ≤ s.tokens p.val ∧ s.portState p.val slot.val = 6) ∧
    (∃ (s : State) (p : Fin 4) (slot : Fin 32) (head : PtpHead), s.timing = true ∧ s.portReady p.val = true ∧ s.bindUsed p.val
      slot.val = true ∧ s.authPasses p.val slot.val head = true ∧ ticksPerSecond ≤ s.tokens p.val ∧ bindProfile (s.binding p.val
      slot.val) = 4) ∧
    (∃ (s : State) (p : Fin 4) (slot : Fin 32) (head : PtpHead), s.engines = true ∧ s.portReady p.val = true ∧ s.bindUsed p.val
      slot.val = true ∧ s.authPasses p.val slot.val head = true) :=
  ⟨⟨sBind.setBindRec 3 31 { parent := some partner }, 3, 31, head, by decide +kernel⟩,
   ⟨(sPort.put Attr.port_bindings 3 31 (0xa000000010000000a0001000101ff00808080808080101000)), 3, 31, ⟨partner, some ⟨1, 1, false,
     [], []⟩, 9⟩, by decide +kernel⟩,
   ⟨(sBind.put Attr.port_binding_state 3 31 9).setBindRec 3 31
     { parent := some partner, awaiting := some (9, 1, 2), delayReqSent := some (9, 3) }, 3, 31, head, by decide +kernel⟩,
   ⟨(sBind.put Attr.port_binding_state 3 31 9).setBindRec 3 31
     { parent := some partner, awaiting := some (9, 1, 2), delayReqSent := some (9, 3) }, 3, 31, head, 1, 2, by decide +kernel⟩,
   ⟨(sBind.put Attr.port_binding_state 3 31 9).setBindRec 3 31
     { parent := some partner, awaiting := some (9, 1, 2), delayReqSent := some (9, 3) }, 3, 31, head, 3, by decide +kernel⟩,
   ⟨((sPort.put Attr.port_bindings 3 31 0xa000000010000000a000100ff01ff00808080808080100400).put Attr.port_binding_state 3 31 9
     |>.setBindRec 3 31 { parent := some partner, pdelaySent := some (9, 3) }), 3, 31, head, 0, 0, 0, 0, 3, ((sPort.put
     Attr.port_bindings 3 31 0xa000000010000000a000100ff01ff00808080808080100400).put Attr.port_binding_state 3 31 9 |>.setBindRec
     3 31 { parent := some partner, pdelaySent := some (9, 3) }).rxTime 3 511 0 0, rateRatio none 0 (((sPort.put Attr.port_bindings
     3 31 0xa000000010000000a000100ff01ff00808080808080100400).put Attr.port_binding_state 3 31 9 |>.setBindRec 3 31
     { parent := some partner, pdelaySent := some (9, 3) }).rxTime 3 511 0 0), linkDelay (rateRatio none 0 (((sPort.put
     Attr.port_bindings 3 31 0xa000000010000000a000100ff01ff00808080808080100400).put Attr.port_binding_state 3 31 9 |>.setBindRec
     3 31 { parent := some partner, pdelaySent := some (9, 3) }).rxTime 3 511 0 0)) 3 0 0 (((sPort.put Attr.port_bindings 3 31
     0xa000000010000000a000100ff01ff00808080808080100400).put Attr.port_binding_state 3 31 9 |>.setBindRec 3 31
     { parent := some partner, pdelaySent := some (9, 3) }).rxTime 3 511 0 0) - 0, by decide +kernel⟩,
   ⟨{ (sBind.put Attr.port_binding_state 3 31 6).setPort 3 { ready := true, tokens := some (2 * ticksPerSecond, 0) } with counter := 0 },
     3, 31, head, by decide +kernel⟩,
   ⟨{ (sPort.put Attr.port_bindings 3 31 0xa000000010000000a000100ff01ff00808080808080100400).setPort 3 { ready := true, tokens := some (2 * ticksPerSecond, 0) } with counter := 0 },
     3, 31, head, by decide +kernel⟩,
   ⟨sBind, 3, 31, head, by decide +kernel⟩⟩

theorem witness_SentPtp :
    (∃ (s : State) (p : Fin 4) (slot : Fin 32) (session : Option (Fin 16384)) (kind : PtpKind), (∀ n, session = some n →
      s.sessionSends n.val kind = true ∧ s.attrN Attr.session_sess_binding n.val = slot.val * 256 + p.val) ∧ s.engines = true ∧
      s.portReady p.val = true ∧ s.bindUsed p.val slot.val = true ∧ (session = none → bindMode (s.binding p.val slot.val) ≠ 1 ∧
      s.sendsNow p.val slot.val kind = true)) ∧
    (∃ (s : State) (p : Fin 4), s.engines = true ∧ s.portUp p.val = true ∧ s.flag Attr.port_esmc_enable p.val = true) ∧
    (∃ (s : State) (p : Fin 4), s.engines = true ∧ s.portUp p.val = true ∧ s.flag Attr.port_esmc_enable p.val = true ∧
      (s.esmcQuality p.val : Int) ≠ s.attr Attr.port_esmc_tx_ql p.val) ∧
    (∃ (s : State) (d : Fin 512), s.engines = true ∧ s.created d.val = true) ∧
    (∃ (s : State) (p : Fin 4) (slot : Fin 32), s.engines = true ∧ s.bindUsed p.val slot.val = true ∧ (s.bindRec p.val
      slot.val).parent.isSome = true ∧ (s.bindRec p.val slot.val).announceAlive = true) ∧
    (∃ (s : State) (d : Fin 512), s.engines = true ∧ s.created d.val = true ∧ s.virtual d.val = true ∧ (s.dom d.val).ref.qualified
      = true) :=
  ⟨⟨sBind.put Attr.port_binding_state 3 31 6, 3, 31, none, .announce, (by intro n h; cases h), by decide +kernel⟩,
   ⟨sPort.put1 Attr.port_esmc_enable 3 1, 3, by decide +kernel⟩,
   ⟨(sPort.put1 Attr.port_esmc_enable 3 1).put1 Attr.port_esmc_tx_ql 3 1, 3, by decide +kernel⟩,
   ⟨sHears.put Attr.port_binding_state 3 31 4, 511, by decide +kernel⟩,
   ⟨sBind.setBindRec 3 31 { parent := some partner, announceAlive := true }, 3, 31, by decide +kernel⟩,
   ⟨(sDom.put1 Attr.domain_servo_mode 511 0).setDom 511 { ref := { qualified := true, grade := 1 } }, 511, by decide +kernel⟩⟩

theorem witness_SessionsAndGrants :
    (∃ (s : State) (who : Issuer) (port : Nat) (slot : Nat) (addrType : Nat) (n : Nat), s.serves who ∧ port ≤ 3 ∧ slot ≤ 31 ∧
      (addrType = 4 ∨ addrType = 6) ∧ s.permits who (.domainOwner (bindDomain (s.binding port slot))) = true ∧ s.power ≠
      .standbyWarm ∧ s.bindUsed port slot = true ∧ bindMode (s.binding port slot) = 1 ∧ ((s.sessionsOf port slot).filter
      s.grantee).length < 16 ∧ s.sessionRoom = true ∧ s.freeNumber = some n ∧ s.poisoned (sessionPage n) = false) ∧
    (∃ (s : State) (who : Issuer) (n : Nat), s.serves who ∧ n ≤ 16383 ∧ s.attr Attr.session_sess_state n ≠ 0 ∧ s.permits who
      (.domainOwner (s.sessDomain n)) = true ∧ s.power ≠ .standbyWarm ∧ s.poisoned (sessionPage n) = false) ∧
    (∃ (s : State) (p : Fin 4) (slot : Fin 32) (head : PtpHead) (n : Nat), s.engines = true ∧ s.portReady p.val = true ∧ s.bindUsed
      p.val slot.val = true ∧ s.authPasses p.val slot.val head = true ∧ s.partnerSession p.val slot.val head.sender = some n ∧ n <
      16384) ∧
    (∃ (s : State) (n : Fin 16384), s.engines = true ∧ s.attr Attr.session_sess_state n.val ≠ 0 ∧ s.grantee n.val = true ∧
      s.portReady (s.sessPort n.val) = true) ∧
    (∃ (s : State) (n : Fin 16384) (type : GrantType), s.engines = true ∧ s.granted n.val (grantIndex type) = true ∧ s.portReady
      (s.sessPort n.val) = true) ∧
    (∃ (s : State) (n : Fin 16384) (type : GrantType), s.engines = true ∧ s.granted n.val (grantIndex type) = true) ∧
    (∃ (s : State) (n : Fin 16384) (type : GrantType), s.engines = true ∧ (s.grant n.val (grantIndex type)).asking = true) ∧
    (∃ (s : State) (n : Fin 16384) (type : GrantType), s.engines = true ∧ (s.grant n.val (grantIndex type)).backoff = true) ∧
    (∃ (s : State) (n : Fin 16384) (type : GrantType), s.engines = true ∧ s.grantee n.val = true ∧ s.granted n.val (grantIndex
      type) = true ∧ (s.grant n.val (grantIndex type)).asking = false ∧ s.drain n.val = false) :=
  ⟨⟨sUni, .spi, 3, 31, 6, 0, ⟨by decide +kernel, trivial⟩, by decide +kernel⟩,
   ⟨sSess 0, .spi, 16383, ⟨by decide +kernel, trivial⟩, by decide +kernel⟩,
   ⟨sSess 0, 3, 31, head, 16383, by decide +kernel⟩,
   ⟨sSess 1, 16383, by decide +kernel⟩,
   ⟨sGrant 0 { expires := some 5 }, 16383, .sync, by decide +kernel⟩,
   ⟨sGrant 0 { expires := some 5 }, 16383, .sync, by decide +kernel⟩,
   ⟨sGrant 1 { asking := true }, 16383, .sync, by decide +kernel⟩,
   ⟨sGrant 1 { backoff := true }, 16383, .sync, by decide +kernel⟩,
   ⟨sGrant 1 { expires := some 5 }, 16383, .sync, by decide +kernel⟩⟩

theorem witness_IntervalCounters :
    (∃ (s : State) (who : Issuer) (n : Nat), s.serves who ∧ issuerClient who = 0 ∧ n ≤ 11 ∧ s.ticState n ≠ .disabled) ∧
    (∃ (s : State) (who : Issuer) (n : Nat) (count : Nat) (first : Nat) (buf : HostBuf), s.serves who ∧ (∀ lpn, s.poisoned lpn =
      false) ∧ (∀ lpn, (s.frame (s.frameOf lpn)).checkErrors = 0) ∧ issuerClient who = 0 ∧ n ≤ 11 ∧ 0 < count ∧ count ≤ 4096 ∧
      s.power ≠ .standbyWarm ∧ bufOk who buf (16 * count) = true ∧ s.attrN Attr.tic_samples n ≤ 4096 ∧ 0 < first ∧ first + count ≤
      s.attrN Attr.tic_samples n + 1) ∧
    (∃ (s : State) (n : Fin 12) (x : TicStamp), s.timing = true ∧ s.ticState n.val = .running ∧ s.ticMode n.val = .interval ∧
      x.missed = false ∧ x.sourceB = false ∧ (s.tic n.val).starts.length < 16) ∧
    (∃ (s : State) (n : Fin 12) (x : TicStamp) (y : TicStart) (rest : List TicStart), s.timing = true ∧ s.ticState n.val = .running
      ∧ s.ticMode n.val = .interval ∧ x.missed = false ∧ x.sourceB = true ∧ takeFirst (fun y => y.matches_ (s.ticPoint n.val x))
      (s.tic n.val).starts = some (y, rest)) ∧
    (∃ (s : State) (n : Fin 12) (x : TicStamp) (q : TicPoint), s.timing = true ∧ s.ticState n.val = .running ∧ (s.ticMode n.val =
      .period ∨ s.ticMode n.val = .frequency) ∧ x.missed = false ∧ x.sourceB = false ∧ (s.tic n.val).lastA = some q) ∧
    (∃ (s : State) (n : Fin 12) (x : TicStart) (rest : List TicStart), s.timing = true ∧ (s.tic n.val).starts = x :: rest) :=
  ⟨⟨(s0.put1 Attr.tic_enable 11 1).put1 Attr.tic_mode 11 0 |>.put1 Attr.tic_src_a 11 0x2000 |>.put1 Attr.tic_src_b 11 0x2000
     |>.put1 Attr.input_enable 0 1, .spi, 11, ⟨by decide +kernel, trivial⟩, by decide +kernel⟩,
   ⟨(s0.put1 Attr.tic_samples 11 4096), .ring 0 0, 11, 4096, 1, ⟨8, 4088, true⟩, ⟨by decide +kernel, by decide +kernel⟩, (fun _ =>
     rfl), (fun _ => rfl), by decide +kernel⟩,
   ⟨(s0.put1 Attr.tic_enable 11 1).put1 Attr.tic_mode 11 0 |>.put1 Attr.tic_src_a 11 0x2000 |>.put1 Attr.tic_src_b 11 0x2000
     |>.put1 Attr.input_enable 0 1, 11, ⟨false, 1, 0, false⟩, by decide +kernel⟩,
   ⟨((s0.put1 Attr.tic_enable 11 1).put1 Attr.tic_mode 11 0 |>.put1 Attr.tic_src_a 11 0x2000 |>.put1 Attr.tic_src_b 11 0x2000
     |>.put1 Attr.input_enable 0 1 |>.setTic 11 { starts := [⟨⟨1, 1024, 0⟩, 0, 1000000000⟩] }), 11, ⟨true, 2, 0, false⟩, ⟨⟨1, 1024,
     0⟩, 0, 1000000000⟩, [], by decide +kernel⟩,
   ⟨((s0.put1 Attr.tic_enable 11 1).put1 Attr.tic_mode 11 1 |>.put1 Attr.tic_src_a 11 0x2000 |>.put1 Attr.tic_src_b 11 0x2000
     |>.put1 Attr.input_enable 0 1 |>.setTic 11 { lastA := some ⟨1, 1024, 0⟩ }), 11, ⟨false, 3, 0, false⟩, ⟨1, 1024, 0⟩,
     by decide +kernel⟩,
   ⟨s0.setTic 11 { starts := [⟨⟨1, 1024, 0⟩, 0, 1000000⟩] } |>.put1 Attr.tic_enable 11 1, 11, ⟨⟨1, 1024, 0⟩, 0, 1000000⟩, [],
     by decide +kernel⟩⟩

theorem witness_FaultActions :
    (∃ (s : State) (who : Issuer) (source : Nat), s.serves who ∧ issuerClient who = 0 ∧ (source ≤ 639 ∨ source = 0xFFFF)) ∧
    (∃ (s : State) (who : Issuer) (source : Nat), s.serves who ∧ issuerClient who = 0 ∧ source ≤ 639 ∧ source ≠ 387 ∧ source ≠ 600
      ∧ source ≠ 601 ∧ (s.latch source).latched = true ∧ (s.latch source).acked = false) ∧
    (∃ (s : State) (who : Issuer) (source : Nat), s.serves who ∧ issuerClient who = 0 ∧ source ≤ 639 ∧ source ≠ 387 ∧ source ≠ 600
      ∧ source ≠ 601 ∧ (s.latch source).latched = true ∧ (s.latch source).acked = true ∧ (s.latch source).cause = true) ∧
    (∃ (s : State) (who : Issuer) (source : Nat), s.serves who ∧ issuerClient who = 0 ∧ source ≤ 639 ∧ source ≠ 387 ∧ source ≠ 600
      ∧ source ≠ 601 ∧ (s.latch source).latched = true ∧ (s.latch source).acked = true ∧ (s.latch source).cause = false) ∧
    (∃ (s : State) (who : Issuer) (checker : Nat) (bits : Nat) (target : Nat), s.serves who ∧ issuerClient who = 0 ∧ 1 ≤ checker ∧
      checker ≤ 4 ∧ s.injectRange checker bits target = false ∧ tblFind s.faults.inject checker = none ∧ (checker = 3 → 64 ≤ target
      ∧ target < 900) ∧ s.store.dirty.length + s.store.dirtyPages.length ≤ ordinaryLimit s.store.holdup) ∧
    (∃ (s : State) (who : Issuer) (bits : Nat) (target : Nat), s.serves who ∧ issuerClient who = 0 ∧ s.injectRange 0 bits target =
      false ∧ tblFind s.faults.inject 0 = none ∧ s.frameOf target ≠ s.frameOf (s.auditSlot / 4096)) ∧
    (∃ (s : State) (who : Issuer) (bits : Nat) (target : Nat), s.serves who ∧ issuerClient who = 0 ∧ s.injectRange 5 bits target =
      false ∧ s.flag Attr.factory_mode = true ∧ tblFind s.faults.inject 5 = none ∧ s.faults.causeHeld = none ∧ Ev.defined target =
      true ∧ target ≠ 387 ∧ target ≠ 600 ∧ target ≠ 601) ∧
    (∃ (s : State) (who : Issuer) (first : Nat) (count : Nat) (buf : HostBuf), s.serves who ∧ issuerClient who = 0 ∧ 0 < count ∧
      first + count ≤ 640 ∧ bufOk who buf (8 * count) = true) :=
  ⟨⟨s0, .spi, 0xFFFF, ⟨by decide +kernel, trivial⟩, by decide +kernel⟩,
   ⟨latched 639 1 false false, .spi, 639, ⟨by decide +kernel, trivial⟩, by decide +kernel⟩,
   ⟨latched 639 1 true true, .spi, 639, ⟨by decide +kernel, trivial⟩, by decide +kernel⟩,
   ⟨latched 639 1 true false, .spi, 639, ⟨by decide +kernel, trivial⟩, by decide +kernel⟩,
   ⟨s0, .spi, 4, 32, 0, ⟨by decide +kernel, trivial⟩, by decide +kernel⟩,
   ⟨s0, .spi, 1, 3932159, ⟨by decide +kernel, trivial⟩, by decide +kernel⟩,
   ⟨s0.put1 Attr.factory_mode 0 1, .spi, 64, 602, ⟨by decide +kernel, trivial⟩, by decide +kernel⟩,
   ⟨s0, .spi, 639, 1, ⟨8, 4088, true⟩, ⟨by decide +kernel, trivial⟩, by decide +kernel⟩⟩

theorem witness_FaultEvents :
    (∃ (s : State) (u : State) (array : Fin 20) (bits : Fin 3) (b : Nat), s.boot.phase = .running ∧ (s.takeInjection 1
      array.val).getD (bits.val, s) = (b, u)) ∧
    (∃ (s : State) (source : Fin 640) (opened : Nat) (k : Nat), (s.latch source.val).window = some (opened, k)) ∧
    (∃ (s : State), s.boot.phase = .running ∧ s.faults.feedMissed = false) ∧
    (∃ (s : State), s.boot.phase = .running ∧ bitOf s.host.aliveCfg 0 = true ∧ s.faults.hostMissed = false) ∧
    (∃ (s : State), s.aliveState = .toggling) ∧
    (∃ (s : State) (ev : Nat), ev ≠ 483 ∧ (s.latch ev).latched = true ∧ (s.latch ev).cls = 3) ∧
    (∃ (s : State) (reading : Int), s.boot.phase ≠ .off ∧ s.boot.tempAlert ≠ s.alertAfter reading) ∧
    (∃ (s : State) (ev : Nat) (ends : Nat), s.faults.causeHeld = some (ev, ends)) :=
  ⟨⟨s0, s0, 19, 2, 2, by decide +kernel⟩,
   ⟨s0.setLatch 639 { latched := true, window := some (5, 2) }, 639, 5, 2, by decide +kernel⟩,
   ⟨s0, by decide +kernel⟩,
   ⟨{ s0 with host := { s0.host with aliveCfg := 1 } }, by decide +kernel⟩,
   ⟨s0, by decide +kernel⟩,
   ⟨latched 481 3 false false, 481, by decide +kernel⟩,
   ⟨s0, 200000, by decide +kernel⟩,
   ⟨{ latched 602 1 false true with faults := { (latched 602 1 false true).faults with causeHeld := some (602, 9) } }, 602, 9,
     by decide +kernel⟩⟩

theorem witness_RingRegisters :
    (∃ (s : State) (c : Fin 512) (v : Nat), s.hostUp = true ∧ v < (s.ring c.val).cmdSize) ∧
    (∃ (s : State) (c : Fin 512) (v : Nat), s.hostUp = true ∧ (s.ring c.val).cmdSize ≤ v) ∧
    (∃ (s : State) (c : Fin 512) (v : Nat), s.hostUp = true ∧ v < (s.ring c.val).cplSize) ∧
    (∃ (s : State) (c : Fin 512) (v : Nat), s.hostUp = true ∧ (s.ring c.val).cplSize ≤ v) ∧
    (∃ (s : State) (v : Nat), s.hostUp = true ∧ v < evtSize) ∧
    (∃ (s : State) (v : Nat), s.hostUp = true ∧ evtSize ≤ v) ∧
    (∃ (s : State) (c : Fin 512) (cfg : Nat), s.hostUp = true ∧ (s.ring c.val).active = false ∧ s.boot.phase = .running ∧ s.allowed
      c.val = true ∧ (s.ring c.val).cfgOk cfg = true) ∧
    (∃ (s : State) (c : Fin 512), s.hostUp = true ∧ (s.ring c.val).active = false ∧ s.boot.phase = .running ∧ s.allowed c.val =
      false) ∧
    (∃ (s : State), s.hostUp = true) ∧
    (∃ (s : State) (c : Fin 512), (s.ring c.val).active = true ∧ (s.ring c.val).enabled = false ∧ s.tagsOut c.val = 0) ∧
    (∃ (s : State), s.hostUp = true) :=
  ⟨⟨s0.setRing 511 { active := true, cfg := 0x80000054 }, 511, 15, by decide +kernel⟩,
   ⟨s0.setRing 511 { active := true, cfg := 0x80000054 }, 511, 16, by decide +kernel⟩,
   ⟨s0.setRing 511 { active := true, cfg := 0x80000054 }, 511, 31, by decide +kernel⟩,
   ⟨s0.setRing 511 { active := true, cfg := 0x80000054 }, 511, 32, by decide +kernel⟩,
   ⟨s0, 1023, by decide +kernel⟩,
   ⟨s0, 1024, by decide +kernel⟩,
   ⟨s0, 0, 0x80000054, by decide +kernel⟩,
   ⟨s0, 511, by decide +kernel⟩,
   ⟨s0.setRing 511 { active := true, cfg := 0x80000054 }, by decide +kernel⟩,
   ⟨s0.setRing 511 { active := true, cfg := 0x54 }, 511, by decide +kernel⟩,
   ⟨s0, by decide +kernel⟩⟩

theorem witness_OwnerRegisters :
    (∃ (s : State) (c : Fin 512), s.hostUp = true ∧ c.val = 0) ∧
    (∃ (s : State) (v : Nat), s.hostUp = true ∧ bitOf v 9 = false) ∧
    (∃ (s : State), s.hostUp = true) ∧
    (∃ (s : State) (c : Nat) (o : Nat), s.hostUp = true ∧ c < 512 ∧ o < 0x800 ∧ o % 4 = 0) ∧
    (∃ (s : State) (k : Nat) (m : Nat), s.hostUp = true ∧ k < 64 ∧ m < 4) :=
  ⟨⟨s0, 0, by decide +kernel⟩,
   ⟨s0, 511, by decide +kernel⟩,
   ⟨s0, by decide +kernel⟩,
   ⟨s0, 511, 0x7FC, by decide +kernel⟩,
   ⟨s0, 63, 3, by decide +kernel⟩⟩

theorem witness_RingTraffic :
    (∃ (s : State) (c : Fin 512) (entry : List Byte) (payload : Option (List Byte)), s.fetches c.val = true ∧ (s.ring c.val).active
      = true ∧ (s.ring c.val).enabled = true ∧ (s.ring c.val).halted = false ∧ (s.ring c.val).cmdPi ≠ (s.ring c.val).cmdCi ∧
      s.tagsOut c.val < s.attrN Attr.client_tag_limit 0 c.val ∧ s.poolFree c.val = true ∧ s.nextClient = some c.val ∧
      (Entry.ofBytes entry).crc = false ∧ (Entry.ofBytes entry).check entry payload 0 (s.host.inflight.any fun f => f.client ==
      c.val && f.tag == (Entry.ofBytes entry).tag) = none) ∧
    (∃ (s : State) (c : Fin 512) (d : Done) (rest : List Done), takeFirst (fun d => d.ofClient c.val && !s.heldBack d)
      s.host.completed = some (d, rest) ∧ s.hostUp = true ∧ (s.ring c.val).active = true ∧ (s.ring c.val).dead = false ∧ ((s.ring
      c.val).cplPi + 1) % (s.ring c.val).cplSize ≠ (s.ring c.val).cplCi) ∧
    (∃ (s : State) (source : Fin 640) (x : EventRec), s.firmware = true ∧ s.faults.waiting.filter (fun y => y.source == source.val)
      = [x] ∧ x.client ≠ 0 ∧ (s.ring x.client).active = true ∧ (s.ring x.client).lostPending = 0 ∧ (s.ring x.client).evtRoom =
      true) ∧
    (∃ (s : State) (source : Fin 640) (x : EventRec), s.firmware = true ∧ s.faults.waiting.filter (fun y => y.source == source.val)
      = [x] ∧ x.client = 0 ∧ (s.ring 0).active = false ∧ s.host.spi.lost = 0 ∧ s.host.spi.fifo.length < 64) ∧
    (∃ (s : State) (c : Fin 512), s.firmware = true ∧ (s.ring c.val).active = true ∧ (s.ring c.val).lostPending ≠ 0 ∧ (s.ring
      c.val).evtRoom = true) :=
  ⟨⟨s0.setRing 0 { active := true, cfg := 0x80000054, cmdPi := 1 }, 0, (bytesLE 2 0x0A01 ++ bytesLE 2 5 ++ bytesLE 2 4 ++
     List.replicate 58 0), some [], by decide +kernel⟩,
   ⟨{ s0.setRing 511 { active := true, cfg := 0x80000054 } with host := { (s0.setRing 511 { active := true, cfg := 0x80000054 }).host with completed := [⟨.ring 511 5, 0x0A01, 0, 0, [], 0, 0⟩] } },
     511, ⟨.ring 511 5, 0x0A01, 0, 0, [], 0, 0⟩, [], by decide +kernel⟩,
   ⟨{ s0.setRing 511 { active := true, cfg := 0x80000054 } with faults := { s0.faults with waiting := [⟨511, 639, 1, 0, 1, 0, 0⟩] } },
     639, ⟨511, 639, 1, 0, 1, 0, 0⟩, by decide +kernel⟩,
   ⟨{ s0 with faults := { s0.faults with waiting := [⟨0, 639, 1, 0, 1, 0, 0⟩] } }, 639, ⟨0, 639, 1, 0, 1, 0, 0⟩, by decide +kernel⟩,
   ⟨s0.setRing 511 { active := true, cfg := 0x80000054, lostPending := 1 }, 511, by decide +kernel⟩⟩

theorem witness_SpiAndConsole :
    (∃ (s : State) (a : Nat) (bytes : List Byte), s.spiUp = true ∧ s.host.spi.busy = false ∧ a + bytes.length ≤ 0x40) ∧
    (∃ (s : State) (a : Nat) (bytes : List Byte), s.spiUp = true ∧ s.host.spi.busy = false ∧ 0x1000 ≤ a ∧ a + bytes.length ≤
      0x2000) ∧
    (∃ (s : State) (a : Nat) (bytes : List Byte), s.spiUp = true ∧ s.host.spi.busy = true ∧ bytes ≠ [] ∧ a + bytes.length ≤ 0x40) ∧
    (∃ (s : State), s.spiUp = true) ∧
    (∃ (s : State), s.spiUp = true ∧ s.boot.fetchStopped = false ∧ s.boot.restore = none ∧ s.host.spi.busy = false ∧ (Entry.ofBytes
      (tblGetRun s.host.spi.entry 0 0 64)).check (tblGetRun s.host.spi.entry 0 0 64) (if (Entry.ofBytes (tblGetRun s.host.spi.entry
      0 0 64)).ptr then s.spiPayload (tblGetRun s.host.spi.entry 0 0 64) (Entry.ofBytes (tblGetRun s.host.spi.entry 0 0 64)).length
      else some []) 0 false = none) ∧
    (∃ (s : State) (d : Done) (rest : List Done), s.spiUp = true ∧ takeFirst (fun d => decide (d.who = .spi)) s.host.completed =
      some (d, rest)) ∧
    (∃ (s : State), s.service .console ≠ .unserved ∧ s.host.console.held = [] ∧ s.host.console.busy = false ∧ s.host.console.ended
      = false) ∧
    (∃ (s : State), s.service .console ≠ .unserved ∧ s.host.console.held = [] ∧ s.host.console.busy = false ∧ s.host.console.ended
      = true) :=
  ⟨⟨s0, 0x3C, [1, 2, 3, 4], by decide +kernel⟩,
   ⟨s0, 0x1FFC, [1, 2, 3, 4], by decide +kernel⟩,
   ⟨{ s0 with host := { s0.host with spi := { s0.host.spi with busy := true } } }, 0x3C, [1, 2, 3, 4], by decide +kernel⟩,
   ⟨s0, by decide +kernel⟩,
   ⟨{ s0 with host := { s0.host with spi := { s0.host.spi with entry := tblSetRun (0 : Byte) [] 0 (bytesLE 2 0x0A01 ++ bytesLE 2 5 ++ bytesLE 2 4 ++ List.replicate 58 0) } } },
     by decide +kernel⟩,
   ⟨{ s0 with host := { s0.host with completed := [⟨.spi, 0x0A01, 0, 0, [], 0, 0⟩], spi := { s0.host.spi with busy := true } } },
     ⟨.spi, 0x0A01, 0, 0, [], 0, 0⟩, [], by decide +kernel⟩,
   ⟨s0, by decide +kernel⟩,
   ⟨{ s0 with host := { s0.host with console := { line := [], ended := true } } }, by decide +kernel⟩⟩

theorem witness_TableMemoryEvents :
    (∃ (s : State), s.memoryUp = true) ∧
    (∃ (s : State) (lpn : Nat) (cause : Nat) (e : Nat) (k : Nat) (x : Nat × Nat) (rest : List (Nat × Nat)), lpn < lpnCount ∧
      s.memoryUp = true ∧ takeFirst (fun y => y == (lpn, cause)) s.tm.retire = some (x, rest) ∧ s.culletOf lpn = none ∧
      s.culletSlot lpn = some e ∧ s.freeSpare = some k) ∧
    (∃ (s : State) (lpn : Nat), s.control = true ∧ s.memoryUp = true ∧ s.poisoned lpn = true ∧ (s.frame (s.frameOf lpn)).recovered
      = false) ∧
    (∃ (s : State) (lpn : Nat) (c : CacheSlot) (rest : List CacheSlot), s.memoryUp = true ∧ takeFirst (fun x => x.lpn == lpn &&
      decide (x.state = .filling)) s.tm.cache = some (c, rest)) ∧
    (∃ (s : State) (lpn : Nat) (c : CacheSlot) (rest : List CacheSlot), s.memoryUp = true ∧ takeFirst (fun x => x.lpn == lpn &&
      decide (x.state = .evicting)) s.tm.cache = some (c, rest)) ∧
    (∃ (s : State) (offset : Nat) (read : FrameRead), s.boot.phase = .running ∧ s.power ≠ .dormant ∧ s.host.twBase + offset <
      tmSize ∧ s.memoryUp = true ∧ hostOwned (s.host.twBase + offset) = true ∧ s.poisoned ((s.host.twBase + offset) / 4096) = false
      ∧ s.tm.cache = [] ∧ s.decodes read = true) ∧
    (∃ (s : State) (offset : Nat), s.boot.phase = .running ∧ s.power ≠ .dormant ∧ s.host.twBase + offset < tmSize ∧ hostOwned
      (s.host.twBase + offset) = false) :=
  ⟨⟨s0, by decide +kernel⟩,
   ⟨{ s0 with tm := { s0.tm with retire := [(3932159, 1)] } }, 3932159, 1, 0, 0, (3932159, 1), [], by decide +kernel⟩,
   ⟨s0.setFrame 3932159 { poison := true }, 3932159, by decide +kernel⟩,
   ⟨{ s0 with tm := { s0.tm with cache := [⟨2, .filling, false, []⟩] } }, 2, ⟨2, .filling, false, []⟩, [], by decide +kernel⟩,
   ⟨{ s0 with tm := { s0.tm with cache := [⟨2, .evicting, false, []⟩] } }, 2, ⟨2, .evicting, false, []⟩, [], by decide +kernel⟩,
   ⟨{ s0 with host := { s0.host with twBase := 0x200040 } }, 63, {}, by decide +kernel⟩,
   ⟨s0, 5, by decide +kernel⟩⟩

theorem witness_SelfRepair :
    (∃ (s : State) (c : Fin 16) (e : Fin 8), s.memoryUp = true ∧ (s.cluster c.val).lost = false ∧ (s.cluster c.val).map.getD e.val
      9 ≠ 9 ∧ (s.cluster c.val).repair = none) ∧
    (∃ (s : State) (c : Fin 16) (e : Nat) (cause : Nat) (k : Nat) (domains : List Nat), s.memoryUp = true ∧ (s.cluster c.val).lost
      = false ∧ (s.cluster c.val).repair = some (e, cause, domains) ∧ (s.cluster c.val).spare = some k) ∧
    (∃ (s : State) (c : Fin 16), s.memoryUp = true ∧ (s.cluster c.val).lost = false) ∧
    (∃ (s : State) (c : Fin 16) (n : Fin 16384) (d : Fin 16) (e : Fin 8), s.engines = true ∧ ((s.cluster c.val).lost = true ∨
      (s.cluster c.val).map.contains 9 = true) ∧ s.attr Attr.session_sess_state n.val ≠ 0 ∧ s.engineServes (d.val * 256 + e.val) =
      true ∧ (s.attrN Attr.session_sess_engine n.val = d.val * 256 + e.val ∨ s.engineLoad d.val e.val < 128)) ∧
    (∃ (s : State) (ch : Fin 48), s.timing = true ∧ s.channelDown ch.val = false) ∧
    (∃ (s : State) (ch : Fin 48), s.timing = true ∧ (s.channel ch.val).failed = true) ∧
    (∃ (s : State) (c : Fin 16) (k : Fin 8) (e : Fin 8), s.engines = true ∧ s.pmcEvent c.val k.val ≠ 0 ∧ s.attr
      Attr.pmc_sample_period 0 (8 * c.val + k.val) ≠ 0 ∧ s.engineList.contains (c.val, e.val) = true) ∧
    (∃ (s : State) (c : Fin 16) (which : Fin 12), s.engines = true ∧ s.clusterEngines c.val ≠ 0 ∧ (which.val < 4 ∨ s.pmcEvent c.val
      (which.val - 4) ≠ 0)) :=
  ⟨⟨s0, 15, 7, by decide +kernel⟩,
   ⟨s0.setCluster 9 { map := [9, 1, 2, 3, 4, 5, 6, 7], repair := some (0, 1, []) }, 9, 0, 1, 8, [], by decide +kernel⟩,
   ⟨s0, 15, by decide +kernel⟩,
   ⟨(sSess 0).setCluster 15 { lost := true }, 15, 16383, 0, 0, by decide +kernel⟩,
   ⟨s0, 47, by decide +kernel⟩,
   ⟨s0.setChannel 47 { failed := true }, 47, by decide +kernel⟩,
   ⟨((s0.put Attr.pmc_select 0 127 1).put Attr.pmc_sample_period 0 127 64), 15, 7, 7, by decide +kernel⟩,
   ⟨s0.put Attr.pmc_select 0 127 1, 15, 11, by decide +kernel⟩⟩

theorem witness_ShadowStore :
    (∃ (s : State) (who : Issuer) (first : Nat) (count : Nat), s.serves who ∧ issuerClient who = 0 ∧ 0 < count ∧ first + count ≤
      1024 ∧ (∀ x ∈ s.store.running, x.way = .background ∨ x.way = .timeRecord)) ∧
    (∃ (s : State) (p : Fin 1024) (x : Txn), s.boot.phase = .running ∧ s.boot.restore = none ∧ s.store.running = [x] ∧ x.way =
      .background ∧ x.left = [p.val] ∧ p.val < 896 ∧ s.takeInjection 3 p.val = none) ∧
    (∃ (s : State) (p : Fin 1024) (x : Txn), s.boot.phase = .running ∧ s.boot.restore = none ∧ s.store.running = [x] ∧ x.way =
      .background ∧ x.left = [p.val] ∧ p.val < 896 ∧ (s.page p.val).tries = 0) ∧
    (∃ (s : State) (p : Fin 1024) (x : Txn) (who : Issuer), s.boot.phase = .running ∧ s.boot.restore = none ∧ s.store.running = [x]
      ∧ x.way = .commit who ∧ x.left = [p.val] ∧ x.failed = false ∧ s.store.dirty.length + s.store.dirtyPages.length ≤
      ordinaryLimit s.store.holdup) ∧
    (∃ (s : State) (p : Fin 1024), s.boot.phase = .running ∧ 64 ≤ p.val ∧ p.val < 900 ∧ s.busyPages.contains p.val = false) ∧
    (∃ (s : State) (p : Fin 1024), s.firmware = true ∧ p.val < 896 ∧ s.pageDirty p.val = true ∧ s.inTxn p.val = false ∧
      s.store.running = []) ∧
    (∃ (s : State), s.firmware = true ∧ s.store.running = []) ∧
    (∃ (s : State), s.firmware = true ∧ s.supplyFailed = false) ∧
    (∃ (s : State), s.boot.phase ≠ .off ∧ s.boot.heaters = true ∧ s.power ≠ .dormant) :=
  ⟨⟨s0, .spi, 1023, 1, ⟨by decide +kernel, trivial⟩, by decide +kernel⟩,
   ⟨sTxn .background, 128, { way := .background, txn := 2, pages := 1, left := [128] }, by decide +kernel⟩,
   ⟨sTxn .background, 128, { way := .background, txn := 2, pages := 1, left := [128] }, by decide +kernel⟩,
   ⟨sTxn (.commit .spi), 128, { way := .commit .spi, txn := 2, pages := 1, left := [128] }, .spi, by decide +kernel⟩,
   ⟨s0, 899, by decide +kernel⟩,
   ⟨{ s0 with store := { s0.store with dirtyPages := [(895, 0)] } }, 895, by decide +kernel⟩,
   ⟨s0, by decide +kernel⟩,
   ⟨s0, by decide +kernel⟩,
   ⟨s0, by decide +kernel⟩⟩

theorem witness_SupplyFails :
    (∃ (s : State), s.boot.phase ≠ .off) ∧
    (∃ (s : State), s.powerFailing = true) ∧
    (∃ (s : State), s.boot.phase ≠ .off ∧ s.supplyFailed = true) ∧
    (∃ (s : State), s.boot.onHoldup = true ∧ s.boot.phase ≠ .off) :=
  ⟨⟨s0, by decide +kernel⟩,
   ⟨sTxn .powerFail, by decide +kernel⟩,
   ⟨{ s0 with boot := { s0.boot with pfLow := true } }, by decide +kernel⟩,
   ⟨{ s0 with boot := { s0.boot with onHoldup := true } }, by decide +kernel⟩⟩

theorem witness_ResetsAndStartUp :
    (∃ (s : State), s.boot.phase ≠ .off) ∧
    (∃ (s : State) (env : BootEnv), s.startsUp env (s.attrN Attr.boot_slot % 2) ∧ s.boot.phase = .held) ∧
    (∃ (s : State) (env : BootEnv), s.boot.phase = .held ∧ env.failAt = some 0) ∧
    (∃ (s : State) (env : BootEnv), s.startsUp env (s.attrN Attr.boot_slot % 2) ∧ s.boot.phase = .off) ∧
    (∃ (s : State) (env : BootEnv), s.boot.phase = .off ∧ env.failAt = some 0) ∧
    (∃ (s : State), s.hostUp = true) :=
  ⟨⟨s0, by decide +kernel⟩,
   ⟨{ s0 with boot := { s0.boot with phase := .held } }, env0, (startsUp_of _ _ (by decide +kernel) (by decide +kernel)
     (by decide +kernel) (by decide +kernel) (by decide +kernel) (by decide +kernel) rfl), by decide +kernel⟩,
   ⟨{ s0 with boot := { s0.boot with phase := .held } }, { env0 with failAt := some 0 }, by decide +kernel⟩,
   ⟨{ s0 with boot := { s0.boot with phase := .off } }, env0, (startsUp_of _ _ (by decide +kernel) (by decide +kernel)
     (by decide +kernel) (by decide +kernel) (by decide +kernel) (by decide +kernel) rfl), by decide +kernel⟩,
   ⟨{ s0 with boot := { s0.boot with phase := .off } }, { env0 with failAt := some 0 }, by decide +kernel⟩,
   ⟨s0, by decide +kernel⟩⟩

theorem witness_Restarts :
    (∃ (s : State) (who : Issuer), s.serves who ∧ issuerClient who = 0) ∧
    (∃ (s : State), s.boot.phase = .running ∧ s.boot.warmRunning = true) ∧
    (∃ (s : State), s.boot.phase = .running) ∧
    (∃ (s : State), s.boot.phase = .running ∧ s.boot.gafferUp = false ∧ s.boot.warmRunning = false) ∧
    (∃ (s : State) (who : Issuer) (slot : Nat) (env : BootEnv), s.serves who ∧ s.startsUp env slot ∧ issuerClient who = 0 ∧ slot ≤
      1 ∧ s.power ≠ .dormant ∧ bitOf (s.attrN Attr.slot_valid) slot = true ∧ s.store.running = [] ∧ s.store.dirty.length +
      s.store.dirtyPages.length ≤ ordinaryLimit s.store.holdup) ∧
    (∃ (s : State) (who : Issuer), s.serves who ∧ issuerClient who = 0 ∧ s.power ≠ .dormant) :=
  ⟨⟨s0, .spi, ⟨by decide +kernel, trivial⟩, by decide +kernel⟩,
   ⟨{ s0 with boot := { s0.boot with warmRunning := true, gafferUp := false } }, by decide +kernel⟩,
   ⟨s0, by decide +kernel⟩,
   ⟨{ s0 with boot := { s0.boot with gafferUp := false } }, by decide +kernel⟩,
   ⟨s0, .spi, 0, env0, ⟨by decide +kernel, trivial⟩, (startsUp_of _ _ (by decide +kernel) (by decide +kernel) (by decide +kernel)
     (by decide +kernel) (by decide +kernel) (by decide +kernel) rfl), by decide +kernel⟩,
   ⟨s0, .spi, ⟨by decide +kernel, trivial⟩, by decide +kernel⟩⟩

theorem witness_MateRoles :
    (∃ (s : State), s.timing = true ∧ s.starting = true ∧ s.mate.deciding = true) ∧
    (∃ (s : State), s.timing = true ∧ s.paired_ = true ∧ s.mate.claim = true ∧ s.mate.roleAct = false ∧ (s.mate.ack = false ∨
      s.mate.takeover = some 0 ∨ s.mate.takeover = some 1)) ∧
    (∃ (s : State), s.timing = true ∧ s.paired_ = true) ∧
    (∃ (s : State), s.timing = true ∧ s.standby = true ∧ s.mate.claim = false ∧ (s.mate.ack = false ∨ s.aliveFrozen = false)) ∧
    (∃ (s : State), s.timing = true ∧ s.standby = true ∧ s.mate.claim = false ∧ (s.mate.ack = false ∨ s.aliveFrozen = false) ∧
      s.attr Attr.mate_link_state = 0) ∧
    (∃ (s : State), s.timing = true ∧ s.paired_ = true ∧ s.mate.ack = true) ∧
    (∃ (s : State), s.timing = true ∧ s.active = true) ∧
    (∃ (s : State) (who : Issuer), s.serves who ∧ issuerClient who = 0 ∧ s.changeoverRefused = false) ∧
    (∃ (s : State) (who : Option Issuer), s.mate.changeover = some who ∧ s.control = true ∧ s.active = true) ∧
    (∃ (s : State) (k : Nat), s.mate.takeover = some k ∧ s.control = true ∧ s.active = true ∧ s.mate.roleAct = true) ∧
    (∃ (s : State), s.timing = true ∧ s.paired_ = true ∧ (s.attr Attr.mate_link_state = 0 ∨ s.attr Attr.mate_link_state = 1)) ∧
    (∃ (s : State), s.timing = true ∧ s.attr Attr.mate_link_state ≠ 0) ∧
    (∃ (s : State) (who : Issuer), s.serves who ∧ issuerClient who = 0 ∧ s.paired_ = true) :=
  ⟨⟨{ sMate 1 with mate := { (sMate 1).mate with deciding := true } }, by decide +kernel⟩,
   ⟨{ sMate 2 with mate := { (sMate 2).mate with claim := true, roleAct := false, takeover := some 1 } }, by decide +kernel⟩,
   ⟨{ sMate 3 with mate := { (sMate 3).mate with claim := true } }, by decide +kernel⟩,
   ⟨sMate 2, by decide +kernel⟩,
   ⟨(sMate 2).put1 Attr.mate_link_state 0 0, by decide +kernel⟩,
   ⟨{ sMate 2 with mate := { (sMate 2).mate with ack := true, aliveIn := true } }, by decide +kernel⟩,
   ⟨sMate 3, by decide +kernel⟩,
   ⟨sMate 3, .spi, ⟨by decide +kernel, trivial⟩, by decide +kernel⟩,
   ⟨{ sMate 3 with mate := { (sMate 3).mate with changeover := some (some .spi) } }, some .spi, by decide +kernel⟩,
   ⟨{ sMate 3 with mate := { (sMate 3).mate with takeover := some 1, roleAct := true } }, 1, by decide +kernel⟩,
   ⟨(sMate 2).put1 Attr.mate_link_state 0 1, by decide +kernel⟩,
   ⟨sMate 2, by decide +kernel⟩,
   ⟨sMate 2, .spi, ⟨by decide +kernel, trivial⟩, by decide +kernel⟩⟩

theorem witness_MateStateCopy :
    (∃ (s : State), s.control = true ∧ s.active = true ∧ s.copying = true ∧ s.mateLinkUp = true) ∧
    (∃ (s : State), s.control = true ∧ s.standby = true ∧ s.copying = true ∧ s.mateLinkUp = true) ∧
    (∃ (s : State) (p : Snapshot), s.mate.snap = some p ∧ s.timing = true ∧ s.standby = true) ∧
    (∃ (s : State) (p : Snapshot), s.mate.snap = some p ∧ s.timing = true ∧ s.mate.tracking = true) ∧
    (∃ (s : State) (n : Fin 16384), s.engines = true ∧ s.paired_ = true ∧ s.mateLinkUp = true ∧ s.mate.stale.contains n.val = true) ∧
    (∃ (s : State) (who : Issuer), s.serves who ∧ issuerClient who = 0 ∧ s.sleepRefused = false) ∧
    (∃ (s : State) (who : Issuer), s.serves who ∧ issuerClient who = 0 ∧ s.attr Attr.mate_sleep_state = 3) ∧
    (∃ (s : State), s.control = true ∧ s.mateLinkUp = true ∧ s.active = true ∧ s.changeoverRefused = false) ∧
    (∃ (s : State), s.control = true ∧ s.mateLinkUp = true ∧ s.active = true ∧ s.sleepRefused = false) ∧
    (∃ (s : State), s.control = true ∧ s.mateLinkUp = true ∧ s.standby = true ∧ s.attr Attr.mate_sleep_state = 3) ∧
    (∃ (s : State), s.control = true ∧ s.standby = true ∧ s.mateLinkUp = true) ∧
    (∃ (s : State) (a : Agreement), s.mate.agreement = some a ∧ s.control = true ∧ s.active = true ∧ a.committed = none) ∧
    (∃ (s : State) (a : Agreement), s.mate.agreement = some a ∧ s.control = true ∧ s.standby = true ∧ a.committed = none) ∧
    (∃ (s : State) (a : Agreement), s.mate.agreement = some a ∧ s.control = true ∧ s.active = true) ∧
    (∃ (s : State) (a : Agreement) (entry : Nat), s.mate.agreement = some a ∧ s.control = true ∧ a.committed = some entry) ∧
    (∃ (s : State), s.control = true ∧ s.attr Attr.mate_sleep_state = 4 ∧ s.mate.stale = []) :=
  ⟨⟨sMate 3, by decide +kernel⟩,
   ⟨sMate 2, by decide +kernel⟩,
   ⟨{ sMate 2 with mate := { (sMate 2).mate with snap := some snap0 } }, snap0, by decide +kernel⟩,
   ⟨{ sMate 2 with mate := { (sMate 2).mate with snap := some snap0, tracking := true } }, snap0, by decide +kernel⟩,
   ⟨{ sMate 2 with mate := { (sMate 2).mate with stale := [16383] } }, 16383, by decide +kernel⟩,
   ⟨sMate 3, .spi, ⟨by decide +kernel, trivial⟩, by decide +kernel⟩,
   ⟨(sMate 2).put1 Attr.mate_sleep_state 0 3, .spi, ⟨by decide +kernel, trivial⟩, by decide +kernel⟩,
   ⟨sMate 3, by decide +kernel⟩,
   ⟨sMate 3, by decide +kernel⟩,
   ⟨(sMate 2).put1 Attr.mate_sleep_state 0 3, by decide +kernel⟩,
   ⟨sMate 2, by decide +kernel⟩,
   ⟨{ sMate 3 with mate := { (sMate 3).mate with agreement := some { who := none, committed := none } } },
     { who := none, committed := none }, by decide +kernel⟩,
   ⟨{ sMate 2 with mate := { (sMate 2).mate with agreement := some { who := none, committed := none } } },
     { who := none, committed := none }, by decide +kernel⟩,
   ⟨{ sMate 3 with mate := { (sMate 3).mate with agreement := some { who := none, committed := some 9 } } },
     { who := none, committed := some 9 }, by decide +kernel⟩,
   ⟨{ sMate 2 with mate := { (sMate 2).mate with agreement := some { who := none, committed := some 9 } } },
     { who := none, committed := some 9 }, 9, by decide +kernel⟩,
   ⟨(sMate 2).put1 Attr.mate_sleep_state 0 4, by decide +kernel⟩⟩

theorem witness_AcknowledgeRule :
    (∃ (s : State) (who : Issuer) (ev : Nat), s.serves who ∧ issuerClient who = 0 ∧ ev ≤ 639 ∧ (s.latch ev).latched = true ∧ ev ≠
      387 ∧ ev ≠ 600 ∧ ev ≠ 601) ∧
    (∃ (s : State) (who : Issuer) (ev : Nat), s.serves who ∧ issuerClient who = 0 ∧ ev ≤ 639 ∧ (s.latch ev).latched = false) ∧
    (∃ (s : State) (ev : Nat), Ev.defined ev = true ∧ (s.latch ev).latched = true ∧ (s.latch ev).acked = true ∧ ev ≠ 387 ∧ ev ≠ 600
      ∧ ev ≠ 601) :=
  ⟨⟨latched 639 1 false false, .spi, 639, ⟨by decide +kernel, trivial⟩, by decide +kernel⟩,
   ⟨s0, .spi, 639, ⟨by decide +kernel, trivial⟩, by decide +kernel⟩,
   ⟨latched 602 1 true false, 602, by decide +kernel⟩⟩

theorem witness_CheckSymbolErrors :
    (∃ (s : State) (lpn : Nat), (s.frame (s.frameOf lpn)).checkErrors ≠ 0) ∧
    (∃ (s : State) (positions : List Nat), (∀ f, (s.frame f).checkErrors = 0) ∧ s.memoryUp = true ∧ positions ≠ [] ∧ (∀ x ∈
      positions, s.checkFrom ≤ x) ∧ s.decodes { positions := positions } = true ∧ s.net.ports = []) :=
  ⟨⟨s0.setFrame 7 { checkErrors := 2 }, 7, by decide +kernel⟩,
   ⟨s0, [34815], (fun _ => rfl), by decide +kernel⟩⟩


end Sys2Proof.Tests
end

section
/-! Rounding to the nearest integer, and the interval counters' conversion that uses it (R299). -/

namespace Sys2Proof.Machine

/-- The rounded quotient is the one integer `r` with `r - 1/2 ≤ x / y < r + 1/2`; the closed lower bound sends a tie upwards
(R299, R305). -/
theorem roundDiv_eq_iff {x y r : Int} (hy : 0 < y) :
    roundDiv x y = r ↔ 2 * y * r ≤ 2 * x + y ∧ 2 * x + y < 2 * y * (r + 1) := by
  have h2y : 0 < 2 * y := by omega
  rw [roundDiv, le_antisymm_iff, ← Int.lt_add_one_iff, Int.ediv_lt_iff_lt_mul h2y, Int.le_ediv_iff_mul_le h2y,
    mul_comm r, mul_comm (r + 1), and_comm]

/-- An interval of `x` vernier LSB is `x * 1280 / 27` units, to the nearest unit and a tie upwards (R299). -/
theorem ticUnits_nearest (x : Int) :
    54 * ticUnits x ≤ 2 * (x * 1280) + 27 ∧ 2 * (x * 1280) + 27 < 54 * (ticUnits x + 1) :=
  (roundDiv_eq_iff (by decide)).mp rfl

/-- Settles O59: the nearest integer by `ticUnits_nearest`; the two decimal values lie within the bounds of
`roundDiv_eq_iff`. -/
theorem intervalConversion : Obligations.IntervalConversion := by
  unfold Obligations.IntervalConversion
  refine ⟨fun dc dv => ticUnits_nearest (dc * 1024 + dv), ?_, ?_⟩
  · rw [roundDiv_eq_iff (by decide)]; decide
  · rw [roundDiv_eq_iff (by decide)]; decide

end Sys2Proof.Machine
end

section
/-! The armed commit slots: what cancelling, applying, stepping over and arming a slot keep (R196, R198). -/

set_option Elab.async false

namespace Sys2Proof.Machine

theorem State.armsExclusive_nil {s : State} (h : s.arms = []) : s.armsExclusive := by
  simp [State.armsExclusive, h, tblSorted]

/-- Dropping a slot leaves the others exclusive. -/
theorem State.armsExclusive_drop {s : State} (slot : Nat) (h : s.armsExclusive) :
    State.armsExclusive { s with arms := tblDrop s.arms slot } := by
  obtain ⟨hsorted, hkeys, hpairs⟩ := h
  exact ⟨tblSorted_drop _ _ hsorted, fun x hx => hkeys x (mem_drop hx),
    fun x hx y hy => hpairs x (mem_drop hx) y (mem_drop hy)⟩

theorem tblSorted_map {α : Type} (f : Nat × α → Nat × α) (hf : ∀ e, (f e).1 = e.1) (l : Tbl α) :
    tblSorted (l.map f) = tblSorted l := by
  induction l with
  | nil => rfl
  | cons e l ih =>
    have hkeys : keysAll ((f e).1 < ·) (l.map f) ↔ keysAll (e.1 < ·) l := by
      simp only [keysAll, List.forall_mem_map, hf]
    rw [List.map_cons, Bool.eq_iff_iff]
    exact (tblSorted_cons _ _ _).trans ((and_congr hkeys (by rw [ih])).trans (tblSorted_cons _ _ _).symm)

/-- An update that steps over the time of an armed slot changes no slot's number and no member. -/
theorem State.armsExclusive_stepArms {s : State} (d : Nat) (before after : Int) (h : s.armsExclusive) :
    (s.stepArms d before after).armsExclusive := by
  obtain ⟨hsorted, hkeys, hpairs⟩ := h
  have hmem : ∀ x ∈ (s.stepArms d before after).arms, ∃ y ∈ s.arms, x.1 = y.1 ∧ x.2.synMask = y.2.synMask ∧ x.2.outMask = y.2.outMask := by
    intro x hx
    obtain ⟨y, hy, rfl⟩ := List.mem_map.1 hx
    exact ⟨y, hy, by split <;> simp⟩
  refine ⟨(tblSorted_map _ (fun e => by split <;> rfl) s.arms).trans hsorted, fun x hx => ?_, fun x hx y hy hne => ?_⟩
  · obtain ⟨x', hx', hk, -⟩ := hmem x hx
    exact hk ▸ hkeys x' hx'
  · obtain ⟨x', hx', hkx, hsx, hox⟩ := hmem x hx
    obtain ⟨y', hy', hky, hsy, hoy⟩ := hmem y hy
    rw [hsx, hsy, hox, hoy]
    exact hpairs x' hx' y' hy' (by rwa [← hkx, ← hky])

theorem bitOf_eq_testBit (m n : Nat) : bitOf m n = m.testBit n := by
  rw [bitOf, Nat.testBit_eq_decide_div_mod_eq, beq_eq_decide]

theorem bitOf_mod (m : Nat) {n k : Nat} (h : n < k) : bitOf (m % 2 ^ k) n = bitOf m n := by
  simp [bitOf_eq_testBit, Nat.testBit_mod_two_pow, h]

/-- Arming a slot whose members belong to no armed slot. -/
theorem State.armsExclusive_put {s : State} {slot : Nat} {a : CommitArm} (hslot : slot < 8)
    (hsyn : ∀ n, n < 8 → bitOf a.synMask n = true → s.synArmed n = false)
    (hout : ∀ o, o < 32 → bitOf a.outMask o = true → s.outArmed o = false) (h : s.armsExclusive) :
    State.armsExclusive { s with arms := tblPut s.arms slot a } := by
  obtain ⟨hsorted, hkeys, hpairs⟩ := h
  have hfree : ∀ x ∈ s.arms, (∀ n, n < 8 → ¬ (bitOf a.synMask n = true ∧ bitOf x.2.synMask n = true)) ∧
      ∀ o, o < 32 → ¬ (bitOf a.outMask o = true ∧ bitOf x.2.outMask o = true) := by
    intro x hx
    refine ⟨fun n hn ⟨ha, hb⟩ => ?_, fun o ho ⟨ha, hb⟩ => ?_⟩
    · have := List.any_eq_false.1 (hsyn n hn ha) x hx
      exact this hb
    · have := List.any_eq_false.1 (hout o ho ha) x hx
      exact this hb
  refine ⟨tblSorted_put _ _ _ hsorted, fun x hx => ?_, fun x hx y hy hne => ?_⟩
  · rcases mem_put hx with rfl | hx
    · exact hslot
    · exact hkeys x hx
  · rcases mem_put hx with rfl | hx <;> rcases mem_put hy with rfl | hy
    · exact absurd rfl hne
    · exact hfree y hy
    · obtain ⟨h1, h2⟩ := hfree x hx
      exact ⟨fun n hn hb => h1 n hn hb.symm, fun o ho hb => h2 o ho hb.symm⟩
    · exact hpairs x hx y hy hne

/-- What a `SYN.COMMIT` that passes its checks knows of its slot and of its members (R198). -/
theorem State.commitRange_slot {s : State} {slot trigger edgeOutput synMask outMask domain time : Nat}
    (h : s.commitRange slot trigger edgeOutput synMask outMask domain time = false) : slot < 8 := by
  simp only [State.commitRange, Bool.or_eq_false_iff, decide_eq_false_iff_not] at h
  omega

theorem State.commitInUse_syn {s : State} {slot synMask outMask n : Nat} (h : s.commitInUse slot synMask outMask = false) (hn : n < 8)
    (hb : bitOf synMask n = true) : s.synArmed n = false := by
  simp only [State.commitInUse, Bool.or_eq_false_iff] at h
  have := List.any_eq_false.1 h.1.2 n (List.mem_filter.2 ⟨List.mem_range.2 hn, hb⟩)
  simp_all

theorem State.commitInUse_out {s : State} {slot synMask outMask o : Nat} (h : s.commitInUse slot synMask outMask = false) (ho : o < 32)
    (hb : bitOf outMask o = true) : s.outArmed o = false := by
  simp only [State.commitInUse, Bool.or_eq_false_iff] at h
  have := List.any_eq_false.1 h.2 o (List.mem_range.2 ho)
  simp_all

end Sys2Proof.Machine
end

section
/-! What every operation of the machine keeps. `Evolves P s t` says that `t` comes from `s` by operations that change no part
outside `P`, never take the free-running counter back, keep armed commit slots exclusive and keep table memory canonical. -/

set_option Elab.async false

namespace Sys2Proof.Machine

/-- Some parts are among others. -/
abbrev Within (Q P : List Part) : Prop := Q ⊆ P

/-- `t` comes from `s` by operations of the machine that change only the parts `P`. -/
structure Evolves (P : List Part) (s t : State) : Prop where
  same : s.sameBut t P
  forward : s.counter ≤ t.counter
  arms : s.armsExclusive → t.armsExclusive
  memory : Memory.wf s.tm = true → Memory.wf t.tm = true

/-- The parts that the completion of a command may change. -/
abbrev bookParts : List Part := [.attrs, .faults, .tm, .store, .host, .out]

/-- The parts that an occurrence of a source may change. -/
abbrev raiseParts : List Part := .net :: bookParts

/-- Every part of the state. -/
abbrev allParts : List Part :=
  [.counter, .attrs, .crucible, .doms, .inputs, .uarts, .factory, .sels, .dplls, .syns, .outs, .arms, .gens, .faults, .host, .tm,
   .store, .boot, .net, .tics, .repair, .pmcs, .mate, .pending, .freeCount, .out]

theorem State.same_refl (s : State) (p : Part) : s.same s p := by cases p <;> rfl

theorem State.same_trans {s t u : State} {p : Part} (h : s.same t p) (h' : t.same u p) : s.same u p := by
  cases p <;> exact h'.trans h

theorem State.sameBut_trans {s t u : State} {P : List Part} (h : s.sameBut t P) (h' : t.sameBut u P) : s.sameBut u P :=
  fun p hp => State.same_trans (h p hp) (h' p hp)

theorem State.sameBut_mono {s t : State} {P Q : List Part} (h : s.sameBut t P) (hPQ : P ⊆ Q) : s.sameBut t Q :=
  fun p hp => h p fun hq => hp (hPQ hq)

/-- Zeroing the bytes at some addresses keeps the canonical form of table memory. -/
theorem Memory.wf_keep {m : TableMem} (p : Nat → Bool) (h : Memory.wf m = true) :
    Memory.wf { m with bytes := tblKeep p m.bytes } = true := tblCanonical_keep 0 p m.bytes h

/-- What clears the counter and table memory: RESET_N asserted, and the end of the hold-up (R58, R397, R526). -/
def clearsModule : Instr → Bool
  | .resetNAsserted => true
  | .holdupExhausted => true
  | _ => false

namespace Evolves

variable {P Q : List Part} {s t u v : State}

theorem refl : Evolves P s s := ⟨fun p _ => s.same_refl p, le_rfl, id, id⟩

/-- One thing after another, where the second changes no part beyond those of the first. -/
theorem trans (h : Evolves P s t) (hQ : Within Q P) (h' : Evolves Q t u) : Evolves P s u :=
  ⟨State.sameBut_trans h.same (State.sameBut_mono h'.same hQ), h.forward.trans h'.forward, h'.arms ∘ h.arms, h'.memory ∘ h.memory⟩

theorem widen (h : Evolves P s t) (hQ : Within P Q := by decide +kernel) : Evolves Q s t := refl.trans hQ h

theorem within_allParts : Within P allParts := fun p _ => by cases p <;> decide +kernel

/-- A command that goes on and changes some parts changes no part beyond all. -/
theorem next_any {o : Host.Outcome State Fault Refusal} (h : ∃ t, o = .next t ∧ Evolves P s t) : ∃ t, o = .next t ∧ Evolves allParts s t :=
  h.imp fun _ ht => ⟨ht.1, ht.2.widen within_allParts⟩

theorem congr (h : Evolves P s t) (hu : u = t) : Evolves P s u := hu ▸ h

theorem ite {c : Prop} [Decidable c] (ht : Evolves P s t) (hu : Evolves P s u) : Evolves P s (if c then t else u) := by
  split <;> assumption

/-- As `part`, for a change of several parts. -/
theorem parts (h : Evolves P s t) (Q : List Part) (hs : t.sameBut u Q) (hp : Within Q P := by decide +kernel)
    (hc : u.counter = t.counter := by rfl) (ha : u.arms = t.arms := by rfl) (hm : u.tm = t.tm := by rfl) : Evolves P s u :=
  h.trans hp ⟨hs, hc.ge, by unfold State.armsExclusive; rw [ha]; exact id, by rw [hm]; exact id⟩

/-- A change of one part that is neither the counter, nor the armed slots, nor table memory. -/
theorem part (h : Evolves P s t) (p : Part) (hp : p ∈ P := by decide +kernel) (hs : t.sameBut u [p] := by intro q; cases q <;> simp [State.same])
    (hc : u.counter = t.counter := by rfl) (ha : u.arms = t.arms := by rfl) (hm : u.tm = t.tm := by rfl) : Evolves P s u :=
  h.parts [p] hs (by simpa using hp) hc ha hm

/-! ### The parts that no invariant speaks of -/

theorem withAttrs (h : Evolves P s t) {x : Tbl Int} (hp : .attrs ∈ P := by decide +kernel) : Evolves P s { t with attrs := x } := h.part .attrs hp
theorem withCrucible (h : Evolves P s t) {x : Crucible} (hp : .crucible ∈ P := by decide +kernel) : Evolves P s { t with crucible := x } := h.part .crucible hp
theorem withDoms (h : Evolves P s t) {x : Tbl DomRec} (hp : .doms ∈ P := by decide +kernel) : Evolves P s { t with doms := x } := h.part .doms hp
theorem withInputs (h : Evolves P s t) {x : Tbl InputRec} (hp : .inputs ∈ P := by decide +kernel) : Evolves P s { t with inputs := x } := h.part .inputs hp
theorem withUarts (h : Evolves P s t) {x : Tbl Uart} (hp : .uarts ∈ P := by decide +kernel) : Evolves P s { t with uarts := x } := h.part .uarts hp
theorem withFactory (h : Evolves P s t) {x : FactoryUnit} (hp : .factory ∈ P := by decide +kernel) : Evolves P s { t with factory := x } := h.part .factory hp
theorem withSels (h : Evolves P s t) {x : Tbl SelRec} (hp : .sels ∈ P := by decide +kernel) : Evolves P s { t with sels := x } := h.part .sels hp
theorem withDplls (h : Evolves P s t) {x : Tbl DpllRec} (hp : .dplls ∈ P := by decide +kernel) : Evolves P s { t with dplls := x } := h.part .dplls hp
theorem withSyns (h : Evolves P s t) {x : Tbl SynRec} (hp : .syns ∈ P := by decide +kernel) : Evolves P s { t with syns := x } := h.part .syns hp
theorem withOuts (h : Evolves P s t) {x : Tbl OutRec} (hp : .outs ∈ P := by decide +kernel) : Evolves P s { t with outs := x } := h.part .outs hp
theorem withGens (h : Evolves P s t) {x : Tbl GenRec} (hp : .gens ∈ P := by decide +kernel) : Evolves P s { t with gens := x } := h.part .gens hp
theorem withFaults (h : Evolves P s t) {x : FaultUnit} (hp : .faults ∈ P := by decide +kernel) : Evolves P s { t with faults := x } := h.part .faults hp
theorem withHost (h : Evolves P s t) {x : HostUnit} (hp : .host ∈ P := by decide +kernel) : Evolves P s { t with host := x } := h.part .host hp
theorem withStore (h : Evolves P s t) {x : StoreUnit} (hp : .store ∈ P := by decide +kernel) : Evolves P s { t with store := x } := h.part .store hp
theorem withBoot (h : Evolves P s t) {x : BootUnit} (hp : .boot ∈ P := by decide +kernel) : Evolves P s { t with boot := x } := h.part .boot hp
theorem withNet (h : Evolves P s t) {x : NetUnit} (hp : .net ∈ P := by decide +kernel) : Evolves P s { t with net := x } := h.part .net hp
theorem withTics (h : Evolves P s t) {x : Tbl TicRec} (hp : .tics ∈ P := by decide +kernel) : Evolves P s { t with tics := x } := h.part .tics hp
theorem withRepair (h : Evolves P s t) {x : RepairUnit} (hp : .repair ∈ P := by decide +kernel) : Evolves P s { t with repair := x } := h.part .repair hp
theorem withPmcs (h : Evolves P s t) {x : Tbl PmcRec} (hp : .pmcs ∈ P := by decide +kernel) : Evolves P s { t with pmcs := x } := h.part .pmcs hp
theorem withMate (h : Evolves P s t) {x : MateUnit} (hp : .mate ∈ P := by decide +kernel) : Evolves P s { t with mate := x } := h.part .mate hp
theorem withPending (h : Evolves P s t) {x : List Instr} (hp : .pending ∈ P := by decide +kernel) : Evolves P s { t with pending := x } := h.part .pending hp
theorem withFreeCount (h : Evolves P s t) {x : Nat} (hp : .freeCount ∈ P := by decide +kernel) : Evolves P s { t with freeCount := x } := h.part .freeCount hp
theorem withOut (h : Evolves P s t) {x : List Emission} (hp : .out ∈ P := by decide +kernel) : Evolves P s { t with out := x } := h.part .out hp
theorem withAttrsStore (h : Evolves P s t) {x : Tbl Int} {y : StoreUnit} (hp : Within [.attrs, .store] P := by decide +kernel) :
    Evolves P s { t with attrs := x, store := y } := h.parts [.attrs, .store] (by intro q; cases q <;> simp [State.same]) hp
theorem withFaultsHost (h : Evolves P s t) {x : FaultUnit} {y : HostUnit} (hp : Within [.faults, .host] P := by decide +kernel) :
    Evolves P s { t with faults := x, host := y } := h.parts [.faults, .host] (by intro q; cases q <;> simp [State.same]) hp
theorem withHostOut (h : Evolves P s t) {x : HostUnit} {y : List Emission} (hp : Within [.host, .out] P := by decide +kernel) :
    Evolves P s { t with host := x, out := y } := h.parts [.host, .out] (by intro q; cases q <;> simp [State.same]) hp
theorem withStoreBoot (h : Evolves P s t) {x : StoreUnit} {y : BootUnit} (hp : Within [.store, .boot] P := by decide) :
    Evolves P s { t with store := x, boot := y } := h.parts [.store, .boot] (by intro q; cases q <;> simp [State.same]) hp

/-! ### The counter, the armed slots and table memory -/

theorem withCounter (h : Evolves P s t) {x : Nat} (hx : t.counter ≤ x) (hp : .counter ∈ P := by decide +kernel) :
    Evolves P s { t with counter := x } :=
  h.trans (Q := [.counter]) (by simpa using hp)
    ⟨by intro p; cases p <;> simp [State.same], hx, id, id⟩

theorem withArms (h : Evolves P s t) {x : Tbl CommitArm} (hx : t.armsExclusive → State.armsExclusive { t with arms := x })
    (hp : .arms ∈ P := by decide +kernel) : Evolves P s { t with arms := x } :=
  h.trans (Q := [.arms]) (by simpa using hp)
    ⟨by intro p; cases p <;> simp [State.same], le_rfl, hx, id⟩

theorem withTm (h : Evolves P s t) {x : TableMem} (hx : Memory.wf t.tm = true → Memory.wf x = true)
    (hp : .tm ∈ P := by decide +kernel) : Evolves P s { t with tm := x } :=
  h.trans (Q := [.tm]) (by simpa using hp)
    ⟨by intro p; cases p <;> simp [State.same], le_rfl, id, hx⟩

/-- A change of what the controllers hold of table memory that changes no byte. -/
theorem withTmBytes (h : Evolves P s t) {x : TableMem} (hx : x.bytes = t.tm.bytes := by rfl) (hp : .tm ∈ P := by decide +kernel) :
    Evolves P s { t with tm := x } :=
  h.withTm (by unfold Memory.wf; rw [hx]; exact id) hp

theorem withPass (h : Evolves P s t) {x y : Nat} (hp : .tm ∈ P := by decide) :
    Evolves P s { t with tm := { t.tm with passFrom := x, passSum := y } } := h.withTm id hp

/-! ### Running an operation over a list, and operations under a condition -/

theorem forEach {f : State → Nat → State} {l : List Nat} (h : Evolves P s t) (hf : ∀ u n, Evolves P u (f u n)) :
    Evolves P s (t.forEach l f) :=
  State.forEach_induct (P := Evolves P s) f (fun _ _ hu => hu.trans (List.Subset.refl P) (hf _ _)) l t h

theorem foldl {α : Type} {f : State → α → State} {l : List α} (h : Evolves P s t) (hf : ∀ u x, Evolves P u (f u x)) :
    Evolves P s (l.foldl f t) :=
  List.foldlRecOn l f h fun _ hu _ _ => hu.trans (List.Subset.refl P) (hf _ _)

theorem foldlFst {α β : Type} {f : State × β → α → State × β} {b : β} {l : List α} (h : Evolves P s t)
    (hf : ∀ x a, Evolves P x.1 (f x a).1) : Evolves P s (l.foldl f (t, b)).1 :=
  List.foldlRecOn (motive := fun x => Evolves P s x.1) l f h fun _ hu _ _ => hu.trans (List.Subset.refl P) (hf _ _)

theorem foldlSnd {α β : Type} {f : β × State → α → β × State} {b : β} {l : List α} (h : Evolves P s t)
    (hf : ∀ x a, Evolves P x.2 (f x a).2) : Evolves P s (l.foldl f (b, t)).2 :=
  List.foldlRecOn (motive := fun x => Evolves P s x.2) l f h fun _ hu _ _ => hu.trans (List.Subset.refl P) (hf _ _)

theorem when_ {c : Bool} {f : State → State} (h : Evolves P s t) (hf : Evolves P t (f t)) : Evolves P s (t.when_ c f) :=
  h.trans (List.Subset.refl P) (.ite hf .refl)

end Evolves
end Sys2Proof.Machine
end

section
/-! What every operation of the model, in the order of its files, changes and keeps: the operations that its commands are made of, and the
commands. -/

set_option Elab.async false
namespace Sys2Proof.Machine
namespace Evolves

variable {P Q : List Part} {s t u v : State}

/-! ### Ops -/

theorem put (h : Evolves P s t) {a : AttrDesc} {i e : Nat} {v' : Int} (hc : Within [.attrs, .store] P := by decide +kernel) :
    Evolves P s (t.put a i e v') :=
  h.trans hc (by unfold State.put; exact .ite .refl refl.withAttrsStore)

theorem put1 (h : Evolves P s t) {a : AttrDesc} {i : Nat} {v' : Int} (hc : Within [.attrs, .store] P := by decide +kernel) :
    Evolves P s (t.put1 a i v') :=
  h.trans hc (by unfold State.put1; exact refl.put)

theorem add (h : Evolves P s t) {a : AttrDesc} {i e n : Nat} (hc : Within [.attrs, .store] P := by decide +kernel) :
    Evolves P s (t.add a i e n) :=
  h.trans hc (by unfold State.add; exact refl.put)

theorem bump (h : Evolves P s t) {a : AttrDesc} {i : Nat} (hc : Within [.attrs, .store] P := by decide +kernel) :
    Evolves P s (t.bump a i) :=
  h.trans hc (by unfold State.bump; exact refl.add)

theorem putList (h : Evolves P s t) {a : AttrDesc} {i e : Nat} {vs : List Int} (hc : Within [.attrs, .store] P := by decide +kernel) :
    Evolves P s (t.putList a i e vs) := by
  induction vs generalizing t e with
  | nil => exact h
  | cons v vs ih => exact ih (h.put hc)

theorem resetKeys (h : Evolves P s t) {p : Nat → Bool} (hc : Within [.attrs, .store] P := by decide +kernel) :
    Evolves P s (t.resetKeys p) :=
  h.trans hc (by unfold State.resetKeys; exact refl.withAttrsStore)

theorem setDom (h : Evolves P s t) {d : Nat} {r : DomRec} (hc : Within [.doms] P := by decide +kernel) : Evolves P s (t.setDom d r) :=
  h.trans hc (by unfold State.setDom; exact refl.withDoms)

theorem setInput (h : Evolves P s t) {n : Nat} {r : InputRec} (hc : Within [.inputs] P := by decide +kernel) :
    Evolves P s (t.setInput n r) :=
  h.trans hc (by unfold State.setInput; exact refl.withInputs)

theorem setSel (h : Evolves P s t) {n : Nat} {r : SelRec} (hc : Within [.sels] P := by decide +kernel) : Evolves P s (t.setSel n r) :=
  h.trans hc (by unfold State.setSel; exact refl.withSels)

theorem setDpll (h : Evolves P s t) {n : Nat} {r : DpllRec} (hc : Within [.dplls] P := by decide +kernel) : Evolves P s (t.setDpll n r) :=
  h.trans hc (by unfold State.setDpll; exact refl.withDplls)

theorem setSyn (h : Evolves P s t) {n : Nat} {r : SynRec} (hc : Within [.syns] P := by decide +kernel) : Evolves P s (t.setSyn n r) :=
  h.trans hc (by unfold State.setSyn; exact refl.withSyns)

theorem setOutp (h : Evolves P s t) {n : Nat} {r : OutRec} (hc : Within [.outs] P := by decide +kernel) : Evolves P s (t.setOutp n r) :=
  h.trans hc (by unfold State.setOutp; exact refl.withOuts)

theorem setGen (h : Evolves P s t) {g : Nat} {r : GenRec} (hc : Within [.gens] P := by decide +kernel) : Evolves P s (t.setGen g r) :=
  h.trans hc (by unfold State.setGen; exact refl.withGens)

theorem setRing (h : Evolves P s t) {c : Nat} {r : Ring} (hc : Within [.host] P := by decide +kernel) : Evolves P s (t.setRing c r) :=
  h.trans hc (by unfold State.setRing; exact refl.withHost)

theorem setPort (h : Evolves P s t) {p : Nat} {r : PortRec} (hc : Within [.net] P := by decide +kernel) : Evolves P s (t.setPort p r) :=
  h.trans hc (by unfold State.setPort; exact refl.withNet)

theorem setSess (h : Evolves P s t) {n : Nat} {r : SessRec} (hc : Within [.net] P := by decide +kernel) : Evolves P s (t.setSess n r) :=
  h.trans hc (by unfold State.setSess; exact refl.withNet)

theorem setTic (h : Evolves P s t) {n : Nat} {r : TicRec} (hc : Within [.tics] P := by decide +kernel) : Evolves P s (t.setTic n r) :=
  h.trans hc (by unfold State.setTic; exact refl.withTics)

theorem setCluster (h : Evolves P s t) {c : Nat} {r : ClusterRec} (hc : Within [.repair] P := by decide +kernel) :
    Evolves P s (t.setCluster c r) :=
  h.trans hc (by unfold State.setCluster; exact refl.withRepair)

theorem setChannel (h : Evolves P s t) {ch : Nat} {r : ChannelRec} (hc : Within [.repair] P := by decide +kernel) :
    Evolves P s (t.setChannel ch r) :=
  h.trans hc (by unfold State.setChannel; exact refl.withRepair)

theorem setUart (h : Evolves P s t) {k : Nat} {u' : Uart} (hc : Within [.uarts] P := by decide +kernel) : Evolves P s (t.setUart k u') :=
  h.trans hc (by unfold State.setUart; exact refl.withUarts)

theorem setPmc (h : Evolves P s t) {c : Nat} {r : PmcRec} (hc : Within [.pmcs] P := by decide +kernel) : Evolves P s (t.setPmc c r) :=
  h.trans hc (by unfold State.setPmc; exact refl.withPmcs)

theorem setLatch (h : Evolves P s t) {ev : Nat} {l : Latch} (hc : Within [.faults] P := by decide +kernel) :
    Evolves P s (t.setLatch ev l) :=
  h.trans hc (by unfold State.setLatch; exact refl.withFaults)

theorem setPage (h : Evolves P s t) {p : Nat} {r : PageRec} (hc : Within [.store] P := by decide +kernel) : Evolves P s (t.setPage p r) :=
  h.trans hc (by unfold State.setPage; exact refl.withStore)

theorem emit (h : Evolves P s t) {x : Emission} (hc : Within [.out] P := by decide +kernel) : Evolves P s (t.emit x) :=
  h.trans hc (by unfold State.emit; exact refl.withOut)

theorem advance (h : Evolves P s t) {n : Nat} (hc : .counter ∈ P := by decide +kernel) : Evolves P s (t.advance n) :=
  h.withCounter (le_max_left _ _) hc

theorem spend (h : Evolves P s t) (hc : Within [.freeCount] P := by decide +kernel) : Evolves P s (t.spend) :=
  h.trans hc (by unfold State.spend; exact refl.withFreeCount)

theorem reach (h : Evolves P s t) {d : Nat} {t' : Int} (hc : Within [.counter] P := by decide +kernel) : Evolves P s (t.reach d t') :=
  h.trans hc (by unfold State.reach; exact refl.advance)

theorem occur (h : Evolves P s t) {ev : Nat} {cause : Bool} {detail : Nat} {dyn : List ScopeItem}
    (hc : Within [.faults] P := by decide +kernel) : Evolves P s (t.occur ev cause detail dyn) :=
  h.trans hc (by unfold State.occur; exact .ite .refl refl.setLatch.withFaults)

theorem markOnce (h : Evolves P s t) {ev : Nat} (hc : Within [.faults] P := by decide +kernel) : Evolves P s (t.markOnce ev) :=
  h.trans hc (by unfold State.markOnce; exact refl.withFaults)

theorem occurOnce (h : Evolves P s t) {ev detail : Nat} (hc : Within [.faults] P := by decide +kernel) :
    Evolves P s (t.occurOnce ev detail) :=
  h.trans hc (by unfold State.occurOnce; exact .ite refl.markOnce.occur .refl)

theorem setFrame (h : Evolves P s t) {f : Nat} {r : FrameRec} (hc : Within [.tm] P := by decide +kernel) : Evolves P s (t.setFrame f r) :=
  h.trans hc (by unfold State.setFrame; exact refl.withTmBytes)

theorem submit (h : Evolves P s t) {lpn cause : Nat} (hc : Within [.tm] P := by decide +kernel) : Evolves P s (t.submit lpn cause) :=
  h.trans hc (by unfold State.submit; exact .ite .refl refl.withTmBytes)

theorem logRewritten (h : Evolves P s t) {f : Nat} {byFuller : Bool} (hc : Within [.attrs, .store] P := by decide +kernel) :
    Evolves P s (t.logRewritten f byFuller) := by
  refine h.trans hc ?_
  unfold State.logRewritten
  dsimp only
  split
  · exact refl.put
  · exact refl

theorem findCheck (h : Evolves P s t) {lpn : Nat} (hc : Within [.attrs, .faults, .tm, .store] P := by decide +kernel) :
    Evolves P s (t.findCheck lpn) :=
  h.trans hc (by unfold State.findCheck; exact .ite .refl (.ite refl.setFrame.add.occurOnce.submit refl.setFrame.add.occurOnce))

theorem markWritten (h : Evolves P s t) {lpn : Nat} (hc : Within [.tm] P := by decide +kernel) : Evolves P s (t.markWritten lpn) :=
  h.trans hc (by unfold State.markWritten; exact refl.setFrame)

theorem tmWrite (h : Evolves P s t) {a : Nat} {bs : List Byte} (hc : Within [.attrs, .faults, .tm, .store] P := by decide +kernel) :
    Evolves P s (t.tmWrite a bs) :=
  h.trans hc ⟨fun p hp => by cases p <;> simp_all [State.same], by simp, by unfold State.armsExclusive; simp, Memory.wf_tmWrite t a bs⟩

theorem countSafe (h : Evolves P s t) {before : State} (hc : Within [.attrs, .store] P := by decide +kernel) :
    Evolves P s (before.countSafe t) :=
  h.trans hc (by unfold State.countSafe; exact refl.forEach (fun _ _ => .ite refl.bump .refl))

theorem injected (h : Evolves P s t) {checker target : Nat} (hc : Within [.faults] P := by decide +kernel) :
    Evolves P s (t.injected checker target) :=
  h.trans hc ⟨fun p hp => by cases p <;> simp_all [State.same], by simp, by unfold State.armsExclusive; simp, by simp⟩

theorem noteWear (h : Evolves P s t) {p n : Nat} (hc : Within [.attrs, .faults, .store] P := by decide +kernel) :
    Evolves P s (t.noteWear p n) :=
  h.trans hc (by unfold State.noteWear; exact .ite (.ite refl.put1.occur refl.put1) .refl)

theorem programPage (h : Evolves P s t) {p txn pages : Nat} {powerFail erase : Bool}
    (hc : Within [.attrs, .faults, .store] P := by decide +kernel) : Evolves P s (t.programPage p txn pages powerFail erase) :=
  h.trans hc (by unfold State.programPage; exact refl.injected.setPage.withStore.noteWear)

theorem storePage (h : Evolves P s t) {p : Nat} {powerFail : Bool} (hc : Within [.attrs, .faults, .store] P := by decide +kernel) :
    Evolves P s (t.storePage p powerFail) :=
  h.trans hc (by unfold State.storePage; exact refl.programPage.withStore.put1)

theorem storeDown (h : Evolves P s t) {n : Nat}
    (hc : Within [.attrs, .faults, .store] P := by decide +kernel) :
    Evolves P s (State.storeDown n t) := by
  induction n generalizing t with
  | zero => exact h
  | succ n ih =>
    unfold State.storeDown
    split
    · exact h
    · split
      · exact ih (h.storePage hc)
      · exact h

theorem enforceLimit (h : Evolves P s t) (hc : Within [.attrs, .faults, .store] P := by decide +kernel) : Evolves P s (t.enforceLimit) :=
  h.trans hc (by unfold State.enforceLimit; exact .ite .refl (.ite .refl refl.bump.storeDown.occurOnce))

theorem audit (h : Evolves P s t) {who : Issuer} {opcode status inst attr : Nat}
    (hc : Within [.attrs, .faults, .tm, .store] P := by decide +kernel) : Evolves P s (t.audit who opcode status inst attr) :=
  h.trans hc (by unfold State.audit; exact refl.tmWrite.withTmBytes)

theorem complete (h : Evolves P s t) {who : Issuer} {opcode status : Nat} {result : List Byte} {len : Option Nat} {flag : Nat}
    (hc : Within [.host, .out] P := by decide +kernel) : Evolves P s (t.complete who opcode status result len flag) := by
  refine h.trans hc ?_
  unfold State.complete
  dsimp only
  split
  · exact .ite refl.withHost refl.withHost
  · exact refl.withHost
  · exact refl.withHostOut

theorem writeResult (h : Evolves P s t) {who : Issuer} {buf : HostBuf} {bytes : List Byte}
    (hc : Within [.host, .out] P := by decide +kernel) : Evolves P s (t.writeResult who buf bytes) := by
  refine h.trans hc ?_
  unfold State.writeResult
  dsimp only
  split
  · exact refl.emit
  · exact refl.withHost
  · exact refl.emit

theorem finish (h : Evolves P s t) {who : Issuer} {opcode status inst : Nat} {result : List Byte} {len : Option Nat} {attr : Nat}
    (hc : Within bookParts P := by decide +kernel) : Evolves P s (t.finish who opcode status inst result len attr) :=
  h.trans hc (by unfold State.finish; exact (ite refl.enforceLimit refl.enforceLimit.audit).complete)

theorem tellDesc (h : Evolves P s t) {f : TxFrame} {st : DescState} (hc : Within [.attrs, .faults, .tm, .store] P := by decide +kernel) :
    Evolves P s (t.tellDesc f st) := by
  refine h.trans hc ?_
  unfold State.tellDesc
  split
  · exact refl.tmWrite
  · exact refl

theorem dropSends (h : Evolves P s t) {ws : List Issuer}
    (hc : Within bookParts P := by decide +kernel) : Evolves P s (t.dropSends ws) := by
  induction ws generalizing t with
  | nil => exact h
  | cons w ws ih => exact ih (h.trans hc (refl.audit.complete))

theorem failSends (h : Evolves P s t) {ws : List Issuer}
    (hc : Within bookParts P := by decide +kernel) : Evolves P s (t.failSends ws) := by
  induction ws generalizing t with
  | nil => exact h
  | cons w ws ih => exact ih (h.finish hc)

theorem dropFrames (h : Evolves P s t) {p : Nat} (hc : Within raiseParts P := by decide +kernel) : Evolves P s (t.dropFrames p) :=
  h.trans hc (by unfold State.dropFrames; exact (refl.setPort.foldl fun _ _ => refl.tellDesc).add.dropSends.failSends)

theorem idlePorts (h : Evolves P s t) {before : State} (hc : Within raiseParts P := by decide +kernel) :
    Evolves P s (before.idlePorts t) :=
  h.trans hc (by unfold State.idlePorts; exact refl.forEach (fun _ _ => .ite refl.dropFrames .refl))

theorem raise (h : Evolves P s t) {ev : Nat} {cause : Bool} {detail : Nat} {dyn : List ScopeItem}
    (hc : Within raiseParts P := by decide +kernel) : Evolves P s (t.raise ev cause detail dyn) :=
  h.trans hc (by unfold State.raise; exact .ite refl.occur.countSafe.idlePorts refl.occur)

theorem raiseOnce (h : Evolves P s t) {ev detail : Nat} {cause : Bool} (hc : Within raiseParts P := by decide +kernel) :
    Evolves P s (t.raiseOnce ev detail cause) :=
  h.trans hc (by unfold State.raiseOnce; exact .ite refl.markOnce.raise .refl)

theorem uncause (h : Evolves P s t) {ev : Nat} (hc : Within [.faults] P := by decide +kernel) : Evolves P s (t.uncause ev) :=
  h.trans hc (by unfold State.uncause; exact .ite refl.setLatch .refl)

theorem settleSlots (h : Evolves P s t) (hc : Within [.pmcs] P := by decide +kernel) : Evolves P s (t.settleSlots) :=
  h.trans hc (by unfold State.settleSlots; exact refl.forEach (fun _ _ => refl.setPmc))

theorem placeTasks (h : Evolves P s t) {d : Nat} (hc : Within [.doms] P := by decide +kernel) : Evolves P s (t.placeTasks d) :=
  h.trans hc (by unfold State.placeTasks; exact refl.setDom)

theorem pointerFault (h : Evolves P s t) {who : Issuer} {opcode : Nat} (hc : Within raiseParts P := by decide +kernel) :
    Evolves P s (t.pointerFault who opcode) := by
  refine h.trans hc ?_
  unfold State.pointerFault
  split
  · exact refl.raise
  · exact refl

theorem act (h : Evolves P s t) {who : Issuer} {a : Action} {f : State → State} (hf : Evolves P t (f t))
    (hc : Within raiseParts P := by decide +kernel) :
    Evolves P s (t.act who a f) := by
  unfold State.act
  split
  · exact h
  · split
    · exact h.trans hc refl.pointerFault.finish
    · split
      · exact h.trans hc refl.finish
      · split
        · exact h.trans hc refl.finish
        · split
          · exact h.trans hc refl.finish
          · exact h.trans (List.Subset.refl P) hf

theorem doAct (h : Evolves P s t) {who : Issuer} {a : Action} {f : State → State} (hf : Evolves P t (f t))
    (hc : Within raiseParts P := by decide +kernel) : Evolves P s (t.doAct who a f) :=
  h.act (hf.finish (List.Subset.trans (by decide +kernel) hc)) hc

/-! ### Memory -/

theorem resetEntry (h : Evolves P s t) {n : Nat} (hc : Within [.attrs, .faults, .tm, .store] P := by decide +kernel) :
    Evolves P s (t.resetEntry n) :=
  h.trans hc (by unfold State.resetEntry; exact refl.tmWrite)

theorem setCache (h : Evolves P s t) {l : List CacheSlot} (hc : Within [.tm] P := by decide +kernel) : Evolves P s (t.setCache l) :=
  h.trans hc (by unfold State.setCache; exact refl.withTmBytes)

theorem cacheCount (h : Evolves P s t) {k : Nat} (hc : Within [.attrs, .store] P := by decide +kernel) : Evolves P s (t.cacheCount k) :=
  h.trans hc (by unfold State.cacheCount; exact refl.add)

theorem startFill (h : Evolves P s t) {lpn : Nat} (hc : Within [.tm] P := by decide +kernel) : Evolves P s (t.startFill lpn) := by
  refine h.trans hc ?_
  unfold State.startFill
  dsimp only
  refine ite ?_ ?_
  · exact refl.setCache
  · exact .ite .refl (by split; exacts [refl.withTmBytes.setCache, refl.withTmBytes])

theorem requestPage (h : Evolves P s t) {lpn : Nat} (hc : Within [.attrs, .tm, .store] P := by decide +kernel) :
    Evolves P s (t.requestPage lpn) := by
  refine h.trans hc ?_
  unfold State.requestPage
  dsimp only
  split
  · split
    · exact refl.setCache
    · exact refl
    · exact .ite .refl refl.withTmBytes
    · exact .ite refl.setCache.cacheCount refl.setCache
  · exact refl.startFill

theorem useEntry (h : Evolves P s t) {n : Nat} (hc : Within [.attrs, .tm, .store] P := by decide +kernel) : Evolves P s (t.useEntry n) :=
  h.trans hc (by unfold State.useEntry; exact refl.requestPage)

theorem applyWrites (h : Evolves P s t) {ws : List (Nat × Byte)} (hc : Within [.attrs, .faults, .tm, .store] P := by decide +kernel) :
    Evolves P s (t.applyWrites ws) := by
  induction ws generalizing t with
  | nil => exact h
  | cons w ws ih => exact ih (h.tmWrite hc)

theorem hostByte (h : Evolves P s t) {a : Nat} {b : Byte} (hc : Within [.attrs, .faults, .tm, .store] P := by decide +kernel) :
    Evolves P s (t.hostByte a b) := by
  refine h.trans hc ?_
  unfold State.hostByte
  dsimp only
  split
  · exact refl.tmWrite
  · split
    · exact refl.tmWrite
    · exact refl.setCache.tmWrite
    · exact refl.setCache
    · exact refl.setCache

theorem execCacheWritebackRetire_evolves {lpn : Nat} :
    ∃ t, execCacheWritebackRetire lpn s = .next t ∧ Evolves [.attrs, .faults, .tm, .store] s t := by
  refine ⟨_, rfl, ?_⟩
  split
  · refine refl.when_ ?_
    extract_lets freed u _ v
    have hu : Evolves [.attrs, .faults, .tm, .store] s u := refl.findCheck.setCache.cacheCount.applyWrites
    have hv : Evolves [.attrs, .faults, .tm, .store] s v := ite hu.withTmBytes.requestPage hu
    split
    · exact hv
    · exact hv.withTmBytes.requestPage
  · exact refl

/-! ### Calendar -/

theorem judgeLeap (h : Evolves P s t) {d : Nat} (hc : Within (.doms :: raiseParts) P := by decide +kernel) :
    Evolves P s (t.judgeLeap d) := by
  refine h.trans hc ?_
  unfold State.judgeLeap
  refine ite ?_ ?_
  · refine ite ?_ ?_
    · exact (ite refl.setDom.put1.raise refl.setDom.put1).raise
    · exact .ite refl.setDom.put1.raise refl.setDom.put1
  · exact (ite ((ite refl.setDom.put1.raise refl.setDom.put1).raise) (.ite refl.setDom.put1.raise refl.setDom.put1)).uncause

theorem setLeap (h : Evolves P s t) {d : Nat} {k : LeapKind} {day : Int} {commanded : Bool}
    (hc : Within [.attrs, .store] P := by decide +kernel) : Evolves P s (t.setLeap d k day commanded) :=
  h.trans hc (by unfold State.setLeap; exact .ite refl.put1 refl.put1.put1.put1)

theorem tzExhausted (h : Evolves P s t) {d was : Nat} (hc : Within raiseParts P := by decide +kernel) :
    Evolves P s (t.tzExhausted d was) :=
  h.trans hc (by unfold State.tzExhausted; exact .ite refl.raise .refl)

theorem clearDate (h : Evolves P s t) {g : Nat} (hc : Within [.gens, .faults] P := by decide +kernel) : Evolves P s (t.clearDate g) :=
  h.trans hc (by unfold State.clearDate; exact .ite (.ite refl.setGen refl.setGen.uncause) .refl)

theorem leaveQuiet (h : Evolves P s t) {n : Nat} {state : TodTxState} (hc : Within [.attrs, .faults, .store] P := by decide +kernel) :
    Evolves P s (t.leaveQuiet n state) :=
  h.trans hc (by unfold State.leaveQuiet; exact .ite refl.put1 refl.put1.uncause)

theorem genLeaves (h : Evolves P s t) {g : Nat} (hc : Within [.attrs, .gens, .faults, .store] P := by decide +kernel) :
    Evolves P s (t.genLeaves g) :=
  h.trans hc (by unfold State.genLeaves; exact .ite refl.clearDate refl.clearDate.leaveQuiet)

theorem judgeDate (h : Evolves P s t) {g : Nat} (hc : Within (.gens :: raiseParts) P := by decide +kernel) :
    Evolves P s (t.judgeDate g) :=
  h.trans hc (by unfold State.judgeDate; exact .ite refl.clearDate (.ite .refl refl.setGen.raise))

theorem judgeDates (h : Evolves P s t) {d : Nat} (hc : Within (.gens :: raiseParts) P := by decide +kernel) :
    Evolves P s (t.judgeDates d) :=
  h.trans hc (by unfold State.judgeDates; exact refl.forEach (fun _ _ => refl.judgeDate))

theorem followZone (h : Evolves P s t) {d : Nat} (hc : Within (.doms :: .gens :: raiseParts) P := by decide +kernel) :
    Evolves P s (t.followZone d) := by
  refine h.trans hc ?_
  unfold State.followZone
  refine ite ?_ ?_
  · refine ite ?_ ?_
    · exact refl.forEach (fun _ _ => refl.setGen)
    · exact (refl.forEach (fun _ _ => refl.setGen)).setDom.tzExhausted
  · exact refl

theorem retz (h : Evolves P s t) {d : Nat} (hc : Within (.doms :: .gens :: raiseParts) P := by decide +kernel) : Evolves P s (t.retz d) :=
  h.trans hc (by unfold State.retz; exact refl.followZone.judgeDates)

theorem setUtcOffset (h : Evolves P s t) {d : Nat} {o : Int} {commanded : Bool}
    (hc : Within (.doms :: .gens :: raiseParts) P := by decide +kernel) : Evolves P s (t.setUtcOffset d o commanded) :=
  h.trans hc (by unfold State.setUtcOffset; exact .ite refl.put1.retz.put1 refl.put1.retz)

theorem learnOffset (h : Evolves P s t) {d : Nat} {o : Int} (hc : Within (.doms :: .gens :: raiseParts) P := by decide +kernel) :
    Evolves P s (t.learnOffset d o) :=
  h.trans hc (by unfold State.learnOffset; exact .ite refl.setDom (.ite refl.setDom.setDom refl.setDom.setUtcOffset))

theorem learnLeap (h : Evolves P s t) {d : Nat} {k : LeapKind} (hc : Within [.attrs, .doms, .store] P := by decide +kernel) :
    Evolves P s (t.learnLeap d k) := by
  refine h.trans hc ?_
  unfold State.learnLeap
  refine ite ?_ ?_
  · exact refl.setDom
  · exact .ite refl.setDom (.ite refl.setDom (.ite refl.setDom.setDom refl.setDom.setLeap))

theorem learnUtc (h : Evolves P s t) {d : Nat} {f : UtcFields} (hc : Within (.doms :: .gens :: raiseParts) P := by decide +kernel) :
    Evolves P s (t.learnUtc d f) := by
  refine h.trans hc ?_
  unfold State.learnUtc
  extract_lets v w
  have hv : Evolves (.doms :: .gens :: raiseParts) t v := by
    dsimp only [v]
    split
    · exact refl.learnOffset
    · exact refl
  have hw : Evolves (.doms :: .gens :: raiseParts) t w := ite hv hv.learnLeap
  exact hw.judgeLeap.enforceLimit

/-! ### Stepper -/

theorem replaceOut (h : Evolves P s t) {o : Nat} {r : OutRec} (hc : Within (.outs :: raiseParts) P := by decide +kernel) :
    Evolves P s (t.replaceOut o r) :=
  h.trans hc (by unfold State.replaceOut; exact .ite refl.setOutp.raise refl.setOutp)

theorem setMove (h : Evolves P s t) {o : Nat} {stepper delay : Int} (hc : Within (.outs :: raiseParts) P := by decide +kernel) :
    Evolves P s (t.setMove o stepper delay) :=
  h.trans hc (by unfold State.setMove; exact refl.replaceOut)

theorem jumpOutput (h : Evolves P s t) {o : Nat} {x : Int} (hc : Within (.outs :: raiseParts) P := by decide +kernel) :
    Evolves P s (t.jumpOutput o x) :=
  h.trans hc (by unfold State.jumpOutput; exact refl.setMove)

theorem moveDelay (h : Evolves P s t) {o : Nat} {x : Int} (hc : Within (.outs :: raiseParts) P := by decide +kernel) :
    Evolves P s (t.moveDelay o x) :=
  h.trans hc (by unfold State.moveDelay; exact .ite .refl (.ite refl.setMove refl.setMove))

/-! ### Lehr -/

theorem lehrEvents (h : Evolves P s t) {stored before after : Int} {moves : AttrDesc} {inst detail : Nat}
    (hc : Within raiseParts P := by decide +kernel) : Evolves P s (t.lehrEvents stored before after moves inst detail) := by
  refine h.trans hc ?_
  unfold State.lehrEvents
  refine ite ?_ ?_
  · exact (ite refl.raise .refl).bump.raise
  · exact .ite ((ite refl.raise .refl).raise) (.ite refl.raise .refl)

theorem replaceGen (h : Evolves P s t) {g : Nat} {before : Int} {r : GenRec} (hc : Within (.gens :: raiseParts) P := by decide +kernel) :
    Evolves P s (t.replaceGen g before r) :=
  h.trans hc (by unfold State.replaceGen; exact refl.setGen.lehrEvents)

theorem putGenLehr (h : Evolves P s t) {g : Nat} {before after : Int} (hc : Within (.gens :: raiseParts) P := by decide +kernel) :
    Evolves P s (t.putGenLehr g before after) :=
  h.trans hc (by unfold State.putGenLehr; exact refl.replaceGen)

theorem replacePulse (h : Evolves P s t) {o : Nat} {before : Int} {r : OutRec} (hc : Within (.outs :: raiseParts) P := by decide +kernel) :
    Evolves P s (t.replacePulse o before r) :=
  h.trans hc (by unfold State.replacePulse; exact refl.replaceOut.lehrEvents)

theorem putOutLehr (h : Evolves P s t) {o : Nat} {before after : Int} (hc : Within (.outs :: raiseParts) P := by decide +kernel) :
    Evolves P s (t.putOutLehr o before after) :=
  h.trans hc (by unfold State.putOutLehr; exact refl.replacePulse)

theorem genShift (h : Evolves P s t) {g : Nat} {before d : Int} (hc : Within (.gens :: raiseParts) P := by decide +kernel) :
    Evolves P s (t.genShift g before d) :=
  h.trans hc (by unfold State.genShift; exact refl.putGenLehr)

theorem genMove (h : Evolves P s t) {g : Nat} {d : Int} (hc : Within (.gens :: raiseParts) P := by decide +kernel) :
    Evolves P s (t.genMove g d) :=
  h.trans hc (by unfold State.genMove; exact refl.genShift)

theorem outShift (h : Evolves P s t) {o : Nat} {before d : Int} (hc : Within (.outs :: raiseParts) P := by decide +kernel) :
    Evolves P s (t.outShift o before d) :=
  h.trans hc (by unfold State.outShift; exact refl.putOutLehr)

theorem outMove (h : Evolves P s t) {o : Nat} {d : Int} (hc : Within (.outs :: raiseParts) P := by decide +kernel) :
    Evolves P s (t.outMove o d) :=
  h.trans hc (by unfold State.outMove; exact refl.outShift)

theorem rebaseOut (h : Evolves P s t) {o : Nat} (hc : Within (.outs :: raiseParts) P := by decide +kernel) :
    Evolves P s (t.rebaseOut o) :=
  h.trans hc (by unfold State.rebaseOut; exact refl.putOutLehr)

theorem rebaseGen (h : Evolves P s t) {g : Nat} (hc : Within (.gens :: raiseParts) P := by decide +kernel) :
    Evolves P s (t.rebaseGen g) :=
  h.trans hc (by unfold State.rebaseGen; exact refl.putGenLehr)

theorem carryLehr (h : Evolves P s t) {dom : Nat} {d : Int} (hc : Within [.outs, .gens] P := by decide +kernel) :
    Evolves P s (t.carryLehr dom d) :=
  h.trans hc (by unfold State.carryLehr; exact .ite .refl (((refl.forEach (fun _ _ => refl.setGen)).forEach (fun _ _ => refl.setOutp))))

theorem judgeTod (h : Evolves P s t) {n : Nat} (hc : Within raiseParts P := by decide +kernel) : Evolves P s (t.judgeTod n) :=
  h.trans hc (by unfold State.judgeTod; exact .ite refl.put1.raise .refl)

theorem judgeTods (h : Evolves P s t) (hc : Within raiseParts P := by decide +kernel) : Evolves P s (t.judgeTods) :=
  h.trans hc (by unfold State.judgeTods; exact refl.forEach (fun _ _ => refl.judgeTod))

theorem genEnd (h : Evolves P s t) {old : State} {g : Nat} (hc : Within (.gens :: raiseParts) P := by decide +kernel) :
    Evolves P s (t.genEnd old g) :=
  h.trans hc (by unfold State.genEnd; exact refl.replaceGen)

theorem genRestart (h : Evolves P s t) {g : Nat} (hc : Within (.gens :: raiseParts) P := by decide +kernel) :
    Evolves P s (t.genRestart g) :=
  h.trans hc (by unfold State.genRestart; exact refl.rebaseGen.setGen.bump.raise)

theorem outRestart (h : Evolves P s t) {n : Nat} (hc : Within (.outs :: raiseParts) P := by decide +kernel) :
    Evolves P s (t.outRestart n) :=
  h.trans hc (by unfold State.outRestart; exact refl.rebaseOut.setOutp.bump.raise)

theorem pulseStep (h : Evolves P s t) {o : Nat} {x : Int} (hc : Within (.outs :: raiseParts) P := by decide +kernel) :
    Evolves P s (t.pulseStep o x) :=
  h.trans hc (by unfold State.pulseStep; exact refl.jumpOutput.outMove)

theorem jamDue (h : Evolves P s t) {n : Nat} {j : Int} (hc : Within [.gens] P := by decide +kernel) : Evolves P s (t.jamDue n j) :=
  h.trans hc (by unfold State.jamDue; exact .ite refl.setGen .refl)

theorem jamNext (h : Evolves P s t) {n : Nat} (hc : Within [.gens] P := by decide +kernel) : Evolves P s (t.jamNext n) :=
  h.trans hc (by unfold State.jamNext; exact refl.jamDue)

theorem domainStep (h : Evolves P s t) {d : Nat} {e : Int} (hc : Within (.outs :: .gens :: raiseParts) P := by decide +kernel) :
    Evolves P s (t.domainStep d e) := by
  refine h.trans hc ?_
  unfold State.domainStep
  refine ite ?_ ?_
  · exact refl
  · exact ((refl.forEach (fun _ _ => .ite refl.genRestart refl.genMove)).forEach (fun _ _ => .ite refl.jumpOutput.outRestart
        refl.pulseStep)).forEach (fun _ _ => .ite refl.jamNext .refl)

/-! ### Steer -/

theorem setPend (h : Evolves P s t) {d : Nat} {u' : DomUpdate} (hc : Within [.doms] P := by decide +kernel) :
    Evolves P s (t.setPend d u') :=
  h.trans hc (by unfold State.setPend; exact refl.setDom)

theorem refuseUpdate (h : Evolves P s t) {d : Nat} (hc : Within [.attrs, .store] P := by decide +kernel) :
    Evolves P s (t.refuseUpdate d) :=
  h.trans hc (by unfold State.refuseUpdate; exact refl.bump)

theorem issue (h : Evolves P s t) {d : Nat} {u' : DomUpdate} (hc : Within [.attrs, .doms, .store] P := by decide +kernel) :
    Evolves P s (t.issue d u') :=
  h.trans hc (by unfold State.issue; exact .ite refl.setPend refl.refuseUpdate)

theorem steer (h : Evolves P s t) {who : Issuer} {a : Action} {d instant : Nat} {f : State → State} {result : State → List Byte}
    (hf : Evolves P t (f t)) (hc : Within raiseParts P := by decide +kernel) : Evolves P s (t.steer who a d instant f result) :=
  h.act (.ite (hf.finish (List.Subset.trans (by decide +kernel) hc)) (refl.trans hc refl.refuseUpdate)) hc

theorem judgeTransmit (h : Evolves P s t) {n : Nat} {before : Int} (hc : Within raiseParts P := by decide +kernel) :
    Evolves P s (t.judgeTransmit n before) :=
  h.trans hc (by unfold State.judgeTransmit; exact .ite .refl ((refl.forEach (fun _ _ => .ite refl.raise refl.uncause))))

theorem useWord (h : Evolves P s t) {n : Nat} {y : Int} (hc : Within (.dplls :: raiseParts) P := by decide +kernel) :
    Evolves P s (t.useWord n y) :=
  h.trans hc (by unfold State.useWord; exact refl.setDpll.put1.judgeTransmit)

theorem rebase (h : Evolves P s t) {n : Nat} (hc : Within [.dplls] P := by decide +kernel) : Evolves P s (t.rebase n) :=
  h.trans hc (by unfold State.rebase; exact refl.setDpll)

theorem addMove (h : Evolves P s t) {n : Nat} {k : MoveKind} {x : Int} (hc : Within [.dplls] P := by decide +kernel) :
    Evolves P s (t.addMove n k x) :=
  h.trans hc (by unfold State.addMove; exact .ite .refl (.ite refl.setDpll refl.setDpll))

theorem dropMoves (h : Evolves P s t) {n : Nat} {kinds : List MoveKind} (hc : Within [.dplls] P := by decide +kernel) :
    Evolves P s ((t.dropMoves n kinds).2) :=
  h.trans hc (by unfold State.dropMoves; dsimp only; exact refl.setDpll)

theorem reword (h : Evolves P s t) {n : Nat} (hc : Within (.dplls :: raiseParts) P := by decide +kernel) : Evolves P s (t.reword n) :=
  h.trans hc (by unfold State.reword; exact refl.useWord)

theorem setWord (h : Evolves P s t) {n : Nat} {y : Int} (hc : Within (.dplls :: raiseParts) P := by decide +kernel) :
    Evolves P s (t.setWord n y) :=
  h.trans hc (by unfold State.setWord; exact refl.setDpll.reword)

theorem endWordSlew (h : Evolves P s t) {n : Nat} (hc : Within (.dplls :: raiseParts) P := by decide +kernel) :
    Evolves P s (t.endWordSlew n) :=
  h.trans hc (by unfold State.endWordSlew; exact .ite refl.setDpll.reword .refl)

theorem startWordMove (h : Evolves P s t) {n : Nat} {k : MoveKind} {x : Int} (hc : Within (.dplls :: raiseParts) P := by decide +kernel) :
    Evolves P s (t.startWordMove n k x) :=
  h.trans hc (by unfold State.startWordMove; exact .ite .refl (.ite refl.setDpll refl.setDpll.reword))

theorem phaseJump (h : Evolves P s t) {n : Nat} {x : Int} (hc : Within (.outs :: raiseParts) P := by decide +kernel) :
    Evolves P s (t.phaseJump n x) :=
  h.trans hc (by unfold State.phaseJump; exact .ite .refl ((refl.forEach (fun _ _ => refl.jumpOutput))))

theorem followStatus (h : Evolves P s t) {n : Nat} (hc : Within [.attrs, .store] P := by decide +kernel) :
    Evolves P s (t.followStatus n) := by
  refine h.trans hc ?_
  unfold State.followStatus
  split
  · exact .ite .refl refl.put1
  · exact refl

theorem leaveUnset (h : Evolves P s t) {d : Nat} (hc : Within [.attrs, .doms, .store] P := by decide +kernel) :
    Evolves P s (t.leaveUnset d) := by
  refine h.trans hc ?_
  unfold State.leaveUnset
  dsimp only
  exact .ite .refl (by split; exacts [refl.setDom.put1, refl.setDom.put1])

theorem judgeTrack (h : Evolves P s t) (hc : Within [.attrs, .store] P := by decide +kernel) : Evolves P s (t.judgeTrack) :=
  h.trans hc (by unfold State.judgeTrack; exact .ite .refl (.ite refl.put1 (.ite refl.put1 .refl)))

theorem trackChange (h : Evolves P s t) {n : Nat} {old new : DpllState} (hc : Within raiseParts P := by decide +kernel) :
    Evolves P s (t.trackChange n old new) :=
  h.trans hc (by unfold State.trackChange; exact .ite (.ite refl.put1.raise (.ite refl.judgeTrack .refl)) .refl)

theorem toDpllState (h : Evolves P s t) {n : Nat} {new : DpllState} (hc : Within (.dplls :: raiseParts) P := by decide +kernel) :
    Evolves P s (t.toDpllState n new) := by
  refine h.trans hc ?_
  unfold State.toDpllState
  refine ite ?_ ?_
  · exact refl
  · exact (ite ((ite refl.setDpll.put1.put1.raise.raise (.ite refl.setDpll.put1.put1.raise.uncause refl.setDpll.put1.put1.raise)).raise)
        (.ite ((ite refl.setDpll.put1.put1.raise.raise (.ite refl.setDpll.put1.put1.raise.uncause refl.setDpll.put1.put1.raise)).uncause)
        (.ite refl.setDpll.put1.put1.raise.raise (.ite refl.setDpll.put1.put1.raise.uncause
        refl.setDpll.put1.put1.raise)))).followStatus.trackChange

theorem settle (h : Evolves P s t) {n : Nat} (hc : Within [.attrs, .dplls, .store] P := by decide +kernel) : Evolves P s (t.settle n) :=
  h.trans hc (by unfold State.settle; exact refl.setDpll.put1)

theorem markSwitch (h : Evolves P s t) {n : Nat} (hc : Within [.dplls] P := by decide +kernel) : Evolves P s (t.markSwitch n) :=
  h.trans hc (by unfold State.markSwitch; exact refl.setDpll)

/-! ### Candidates -/

theorem sourceLeft (h : Evolves P s t) {x : Nat} (hc : Within [.sels] P := by decide +kernel) : Evolves P s (t.sourceLeft x) :=
  h.trans hc (by unfold State.sourceLeft; exact refl.forEach (fun _ _ => refl.setSel))

theorem startWtr (h : Evolves P s t) {n x : Nat} (hc : Within [.sels] P := by decide +kernel) : Evolves P s (t.startWtr n x) :=
  h.trans hc (by unfold State.startWtr; exact .ite .refl refl.setSel)

theorem sourceReturned (h : Evolves P s t) {x : Nat} (hc : Within [.sels] P := by decide +kernel) : Evolves P s (t.sourceReturned x) :=
  h.trans hc (by unfold State.sourceReturned; exact refl.forEach (fun _ _ => refl.setSel.startWtr))

theorem driftCleared (h : Evolves P s t) {x : Nat} (hc : Within [.sels] P := by decide +kernel) : Evolves P s (t.driftCleared x) :=
  h.trans hc (by unfold State.driftCleared; exact refl.forEach (fun _ _ => refl.startWtr))

theorem setQualified (h : Evolves P s t) {d : Nat} {q : Bool} (hc : Within [.doms, .sels] P := by decide +kernel) :
    Evolves P s (t.setQualified d q) :=
  h.trans hc (by unfold State.setQualified; exact .ite refl.setDom.sourceLeft (.ite refl.setDom.sourceReturned refl.setDom))

/-! ### Late -/

theorem sendDone (h : Evolves P s t) {f : TxFrame} {flag : Nat} (hc : Within bookParts P := by decide +kernel) :
    Evolves P s (t.sendDone f flag) := by
  refine h.trans hc ?_
  unfold State.sendDone
  dsimp only
  split
  · exact refl.audit.complete
  · exact refl

theorem lateFrame (h : Evolves P s t) {p : Nat} {f : TxFrame} (hc : Within raiseParts P := by decide +kernel) :
    Evolves P s ((t.lateFrame p f).2) := by
  refine h.trans hc ?_
  unfold State.lateFrame
  dsimp only
  split
  · split
    · exact refl.raiseOnce.bump.sendDone
    · exact refl.raiseOnce
  · exact refl.raiseOnce.bump

theorem eachFrame {p : TxFrame → Bool} {f : State → TxFrame → Option TxFrame × State} {fs : List TxFrame} (h : Evolves P s t)
    (hf : ∀ u g, Evolves P u (f u g).2) : Evolves P s (t.eachFrame p f fs).2 := by
  induction fs generalizing t with
  | nil => exact h
  | cons g gs ih =>
    refine ih (h.trans (List.Subset.refl P) ?_)
    split
    · exact hf _ _
    · exact refl

theorem passLaunches (h : Evolves P s t) {d : Nat} {before : Int} (hc : Within raiseParts P := by decide +kernel) :
    Evolves P s (t.passLaunches d before) := by
  refine h.trans hc ?_
  unfold State.passLaunches
  refine refl.forEach ?_
  exact fun _ _ => .ite ((refl.eachFrame (fun _ _ => refl.lateFrame)).setPort) .refl

/-! ### Domain -/

theorem create (h : Evolves P s t) {d timescale source : Nat} (hc : Within [.attrs, .doms, .store] P := by decide +kernel) :
    Evolves P s (t.create d timescale source) :=
  h.trans hc (by unfold State.create; exact .ite refl.resetKeys.setDom.put1.put1.put1.put1.put1 refl.resetKeys.setDom.put1.put1.put1.put1)

theorem execDomainCreate_evolves {who : Issuer} {domain timescale source : Nat} :
    ∃ t, execDomainCreate who domain timescale source s = .next t ∧ Evolves (.doms :: raiseParts) s t :=
  ⟨_, rfl, refl.doAct refl.create.placeTasks⟩

theorem execDomainDelete_evolves {who : Issuer} {domain : Nat} :
    ∃ t, execDomainDelete who domain s = .next t ∧ Evolves (.doms :: raiseParts) s t :=
  ⟨_, rfl, refl.doAct refl.resetKeys.setDom.put1⟩

theorem execDomainAssign_evolves {who : Issuer} {domain client : Nat} :
    ∃ t, execDomainAssign who domain client s = .next t ∧ Evolves raiseParts s t :=
  ⟨_, rfl, refl.doAct refl.put1⟩

theorem bindTo (h : Evolves P s t) {d n : Nat} (hc : Within [.attrs, .doms, .dplls, .outs, .store] P := by decide +kernel) :
    Evolves P s (t.bindTo d n) :=
  h.trans hc (by unfold State.bindTo; exact (refl.setDom.put1.setDpll.forEach (fun _ _ => refl.setOutp)).followStatus.countSafe)

theorem execDomainBind_evolves {who : Issuer} {domain dpll : Nat} :
    ∃ t, execDomainBind who domain dpll s = .next t ∧ Evolves (.doms :: .dplls :: .outs :: raiseParts) s t :=
  ⟨_, rfl, refl.doAct refl.bindTo⟩

theorem stopGens (h : Evolves P s t) {d : Nat} (hc : Within (.gens :: raiseParts) P := by decide +kernel) : Evolves P s (t.stopGens d) :=
  h.trans hc (by unfold State.stopGens; exact refl.forEach (fun _ _ => refl.genLeaves.replaceGen.raise))

theorem unbindDomain (h : Evolves P s t) {d n : Nat} (hc : Within (.dplls :: .outs :: .gens :: raiseParts) P := by decide +kernel) :
    Evolves P s (t.unbindDomain d n) := by
  refine h.trans hc ?_
  unfold State.unbindDomain
  refine ite ?_ ?_
  · exact (refl.stopGens.forEach (fun _ _ => refl.replacePulse)).put1.put1.setDpll.uncause
  · exact (refl.stopGens.forEach (fun _ _ => refl.replacePulse)).put1.put1.setDpll.uncause.put1

theorem execDomainUnbind_evolves {who : Issuer} {domain dpll : Nat} :
    ∃ t, execDomainUnbind who domain dpll s = .next t ∧ Evolves (.dplls :: .outs :: .gens :: raiseParts) s t :=
  ⟨_, rfl, refl.doAct refl.unbindDomain⟩

theorem stepBound (h : Evolves P s t) {n : Nat} {x held : Int} {sets : Bool} (hc : Within (.dplls :: raiseParts) P := by decide +kernel) :
    Evolves P s (t.stepBound n x held sets) :=
  h.trans hc (by unfold State.stepBound; exact refl.endWordSlew.markSwitch.setDpll)

theorem replaceOffset (h : Evolves P s t) {n : Nat}
    (hc : Within [.attrs, .dplls, .store] P := by decide +kernel) : Evolves P s (t.replaceOffset n) :=
  h.trans hc (by unfold State.replaceOffset; exact refl.dropMoves.put1)

theorem setVirtual (h : Evolves P s t) {d instant : Nat} {time : Int} (hc : Within [.doms] P := by decide +kernel) :
    Evolves P s (t.setVirtual d instant time) :=
  h.trans hc (by unfold State.setVirtual; exact refl.setPend.setDom)

theorem setDomTime (h : Evolves P s t) {d instant : Nat} {time : Int} (hc : Within (.doms :: .dplls :: raiseParts) P := by decide +kernel) :
    Evolves P s (t.setDomTime d instant time) := by
  refine h.trans hc ?_
  unfold State.setDomTime
  dsimp only
  split
  · exact refl.setVirtual
  · exact (ite refl.replaceOffset .refl).stepBound

theorem steerDomain (h : Evolves P s t) {who : Issuer} {a : Action} {d instant : Nat} {f : State → State} {result : State → List Byte}
    (hf : Evolves P t (f t)) (hc : Within raiseParts P := by decide +kernel) :
    Evolves P s (t.steerDomain who a d instant f result) := by
  unfold State.steerDomain
  exact .ite (h.steer hf hc) (h.act (hf.finish (List.Subset.trans (by decide +kernel) hc)) hc)

theorem execSetTime_evolves {who : Issuer} {domain time instant : Nat} :
    ∃ t, execSetTime who domain time instant s = .next t ∧ Evolves (.doms :: .dplls :: raiseParts) s t :=
  ⟨_, rfl, refl.steerDomain refl.setDomTime⟩

theorem execSetCalendar_evolves {who : Issuer} {domain : Nat} {civil : CivilTime} {nanoseconds instant : Nat} :
    ∃ t, execSetCalendar who domain civil nanoseconds instant s = .next t ∧ Evolves (.doms :: .dplls :: raiseParts) s t :=
  ⟨_, rfl, refl.steerDomain refl.setDomTime⟩

theorem freqVirtual (h : Evolves P s t) {d instant : Nat} {f : Int} (hc : Within [.attrs, .doms, .store] P := by decide +kernel) :
    Evolves P s (t.freqVirtual d instant f) := by
  refine h.trans hc ?_
  unfold State.freqVirtual
  dsimp only
  split
  · exact refl.put1.setPend
  · exact refl.put1.setDom.setPend

theorem execAdjFreq_evolves {who : Issuer} {domain : Nat} {ppt : Int} {instant : Nat} :
    ∃ t, execAdjFreq who domain ppt instant s = .next t ∧ Evolves (.doms :: .dplls :: raiseParts) s t := by
  unfold execAdjFreq
  dsimp only
  refine ⟨_, rfl, ?_⟩
  exact refl.steerDomain (by split; exacts [refl.freqVirtual, refl.setDpll])

theorem phaseVirtual (h : Evolves P s t) {d mode instant : Nat} {x : Int} (hc : Within [.doms] P := by decide +kernel) :
    Evolves P s (t.phaseVirtual d mode instant x) :=
  h.trans hc (by unfold State.phaseVirtual; exact .ite refl.setDom.setPend (.ite refl.setDom.setPend refl.setDom.setPend))

theorem phaseBound (h : Evolves P s t) {n mode : Nat} {x : Int} (hc : Within (.dplls :: raiseParts) P := by decide +kernel) :
    Evolves P s (t.phaseBound n mode x) := by
  refine h.trans hc ?_
  unfold State.phaseBound
  refine ite ?_ ?_
  · exact .ite refl.replaceOffset.stepBound refl.replaceOffset.put1.addMove
  · exact .ite refl.stepBound refl.endWordSlew.startWordMove

theorem execAdjPhase_evolves {who : Issuer} {domain mode : Nat} {interval : Int} {instant : Nat} :
    ∃ t, execAdjPhase who domain mode interval instant s = .next t ∧ Evolves (.doms :: .dplls :: raiseParts) s t := by
  unfold execAdjPhase
  refine ⟨_, rfl, ?_⟩
  exact refl.steerDomain (by split; exacts [refl.phaseVirtual, refl.phaseBound])

theorem commandLeap (h : Evolves P s t) {d kind : Nat} {day : Int} (hc : Within (.doms :: raiseParts) P := by decide +kernel) :
    Evolves P s (t.commandLeap d kind day) :=
  h.trans hc (by unfold State.commandLeap; exact (ite refl.setDom.setDom refl.setDom.setLeap).judgeLeap)

theorem execScheduleLeap_evolves {who : Issuer} {domain year month day kind : Nat} :
    ∃ t, execScheduleLeap who domain year month day kind s = .next t ∧ Evolves (.doms :: raiseParts) s t :=
  ⟨_, rfl, refl.doAct refl.commandLeap⟩

theorem execSetTz_evolves {who : Issuer} {domain : Nat} {entries : List Nat} :
    ∃ t, execSetTz who domain entries s = .next t ∧ Evolves (.doms :: raiseParts) s t :=
  ⟨_, rfl, refl.doAct refl.setDom⟩

theorem resetDomain (h : Evolves P s t) {d : Nat} (hc : Within (.doms :: .sels :: raiseParts) P := by decide +kernel) :
    Evolves P s (t.resetDomain d) := by
  refine h.trans hc ?_
  unfold State.resetDomain
  exact (refl.put1.put1.put1.setDom.put1.setQualified.setDom.forEach (fun _ _ => refl.setPort.put)).judgeLeap

theorem execDomainReset_evolves {who : Issuer} {domain instant : Nat} :
    ∃ t, execDomainReset who domain instant s = .next t ∧ Evolves (.doms :: .sels :: .dplls :: raiseParts) s t := by
  unfold execDomainReset
  refine ⟨_, rfl, ?_⟩
  refine refl.steerDomain ?_
  split
  · exact refl.resetDomain.setPend
  · exact (ite refl.replaceOffset refl.endWordSlew).resetDomain

theorem stepArms (h : Evolves P s t) {d : Nat} {before after : Int} (hc : Within [.arms] P := by decide +kernel) :
    Evolves P s (t.stepArms d before after) :=
  h.trans hc (refl.withArms fun ha => State.armsExclusive_stepArms d before after ha)

theorem applyUpdate (h : Evolves P s t) {d : Nat} {u' : DomUpdate}
    (hc : Within (.counter :: .doms :: .outs :: .arms :: .gens :: raiseParts) P := by decide +kernel) : Evolves P s (t.applyUpdate d u') := by
  refine h.trans hc ?_
  unfold State.applyUpdate
  extract_lets r now t' c v w x
  have hv : Evolves (.counter :: .doms :: .outs :: .arms :: .gens :: raiseParts) t v :=
    (refl.withCounter (le_max_left _ _)).setDom.stepArms.carryLehr.add
  have hw : Evolves (.counter :: .doms :: .outs :: .arms :: .gens :: raiseParts) t w := by
    dsimp only [w]
    split
    · exact hv.domainStep.phaseJump
    · exact hv
  have hx : Evolves (.counter :: .doms :: .outs :: .arms :: .gens :: raiseParts) t x := (ite hw.leaveUnset hw).passLaunches
  exact (ite hx.retz hx).judgeTods

theorem execDomainUpdateApply_evolves {d : Fin 512} :
    ∃ t, execDomainUpdateApply d s = .next t ∧ Evolves (.counter :: .doms :: .outs :: .arms :: .gens :: raiseParts) s t := by
  unfold execDomainUpdateApply
  refine ⟨_, rfl, ?_⟩
  split
  · exact refl.when_ refl.applyUpdate
  · exact refl

theorem execSlewEnd_evolves {d : Fin 512} :
    ∃ t, execSlewEnd d s = .next t ∧ Evolves (.counter :: .doms :: .outs :: .arms :: .gens :: raiseParts) s t := by
  unfold execSlewEnd
  dsimp only
  refine ⟨_, rfl, ?_⟩
  split
  · exact refl.when_ (.ite refl.setDom.applyUpdate refl.advance.refuseUpdate)
  · exact refl

theorem leapNow (h : Evolves P s t) {d : Nat} {k : LeapKind} (hc : Within (.doms :: .gens :: raiseParts) P := by decide +kernel) :
    Evolves P s (t.leapNow d k) := by
  refine h.trans hc ?_
  unfold State.leapNow
  exact (refl.setDom.put1.put1.forEach (fun _ _ => refl.raise.jamDue)).judgeLeap.judgeDates.enforceLimit

theorem execLeapSecond_evolves {d : Fin 512} : ∃ t, execLeapSecond d s = .next t ∧ Evolves (.counter :: .doms :: .gens :: raiseParts) s t :=
  ⟨_, rfl, refl.when_ refl.reach.leapNow⟩

theorem execNextUtcDay_evolves {d : Fin 512} :
    ∃ t, execNextUtcDay d s = .next t ∧ Evolves (.counter :: .doms :: .gens :: raiseParts) s t := by
  refine ⟨_, rfl, refl.when_ ?_⟩
  extract_lets t f _ u v w
  have hu : Evolves (.counter :: .doms :: .gens :: raiseParts) s u := (ite refl.reach refl).setDom
  have hv : Evolves (.counter :: .doms :: .gens :: raiseParts) s v := by
    dsimp only [v]
    split
    · exact hu.setUtcOffset
    · exact hu
  have hw : Evolves (.counter :: .doms :: .gens :: raiseParts) s w := by
    dsimp only [w]
    split
    · exact hv.setLeap
    · exact hv
  exact hw.judgeLeap.judgeDates.enforceLimit

theorem execTzTableApply_evolves {d : Fin 512} : ∃ t, execTzTableApply d s = .next t ∧ Evolves (.doms :: raiseParts) s t := by
  unfold execTzTableApply
  dsimp only
  refine ⟨_, rfl, ?_⟩
  split
  · exact refl.when_ refl.putList.put1.setDom.tzExhausted
  · exact refl

theorem tcTransition (h : Evolves P s t) {n was : Nat} {j : Int} (hc : Within [.gens] P := by decide +kernel) :
    Evolves P s (t.tcTransition n was j) :=
  h.trans hc (by unfold State.tcTransition; exact .ite refl.setGen.jamDue refl.setGen)

theorem execTzTransition_evolves {d : Fin 512} :
    ∃ t, execTzTransition d s = .next t ∧ Evolves (.counter :: .doms :: .gens :: raiseParts) s t :=
  ⟨_, rfl, refl.when_ ((refl.reach.setDom.tzExhausted.forEach (fun _ _ => refl.tcTransition)).judgeDates)⟩

theorem setBindRec (h : Evolves P s t) {p k : Nat} {r : BindRec} (hc : Within [.net] P := by decide +kernel) :
    Evolves P s (t.setBindRec p k r) :=
  h.trans hc (by unfold State.setBindRec; exact refl.setPort)

theorem writeRef (h : Evolves P s t) {d : Nat} {offset : Int} (hc : Within [.attrs, .doms, .sels, .store] P := by decide +kernel) :
    Evolves P s (t.writeRef d offset) := by
  refine h.trans hc ?_
  unfold State.writeRef
  refine ite ?_ ?_
  · exact .ite refl.setDom.setQualified refl.setDom
  · exact .ite refl.setDom.setQualified.leaveUnset refl.setDom

theorem execServoUpdate_evolves {d : Fin 512} {offset ppt delta : Int} {instant : Nat} :
    ∃ t, execServoUpdate d offset ppt delta instant s = .next t ∧ Evolves [.attrs, .doms, .sels, .store] s t :=
  ⟨_, rfl, refl.when_ (.ite (.ite refl.writeRef.put1.setPend refl.writeRef.refuseUpdate) refl.writeRef)⟩

theorem execDomainRefStale_evolves {d : Fin 512} : ∃ t, execDomainRefStale d s = .next t ∧ Evolves [.doms, .sels] s t :=
  ⟨_, rfl, refl.when_ refl.setQualified.setDom⟩

theorem execPktHoldLimitExpiry_evolves {d : Fin 512} : ∃ t, execPktHoldLimitExpiry d s = .next t ∧ Evolves [.doms, .sels] s t :=
  ⟨_, rfl, refl.when_ refl.setQualified⟩

/-! ### Loop -/

theorem secondStep (h : Evolves P s t) {n : Nat} {k : Int} (hc : Within [.dplls] P := by decide +kernel) :
    Evolves P s (t.secondStep n k) :=
  h.trans hc (by unfold State.secondStep; exact .ite .refl refl.markSwitch.setDpll)

theorem compareLabel (h : Evolves P s t) {n d : Nat} {seconds place : Int} (hc : Within [.dplls] P := by decide +kernel) :
    Evolves P s (t.compareLabel n d seconds place) :=
  h.trans hc (by unfold State.compareLabel; exact refl.setDpll.secondStep)

theorem labelAtAcquire (h : Evolves P s t) {n x : Nat} (hc : Within [.dplls] P := by decide +kernel) :
    Evolves P s (t.labelAtAcquire n x) := by
  refine h.trans hc ?_
  unfold State.labelAtAcquire
  dsimp only
  split
  · exact .ite (by split; exacts [refl.compareLabel, refl.setDpll]) .refl
  · exact refl

theorem labelArrived (h : Evolves P s t) {x : Nat} {sec place : Int} (hc : Within [.dplls] P := by decide +kernel) :
    Evolves P s (t.labelArrived x sec place) := by
  refine h.trans hc ?_
  unfold State.labelArrived
  exact refl.forEach (fun _ _ => (by split; exacts [refl.compareLabel, .refl]))

theorem useSource (h : Evolves P s t) {n x : Nat} (hc : Within [.attrs, .store] P := by decide +kernel) : Evolves P s (t.useSource n x) :=
  h.trans hc (by unfold State.useSource; exact refl.put1.put1.put1)

theorem loadBuildOut (h : Evolves P s t) {n x : Nat} {b : Int} (hc : Within [.attrs, .dplls, .store] P := by decide +kernel) :
    Evolves P s (t.loadBuildOut n x b) :=
  h.trans hc (by unfold State.loadBuildOut; exact .ite refl.addMove refl.put1)

theorem takeOffset (h : Evolves P s t) {n x : Nat} {b : Int} (hc : Within [.attrs, .dplls, .store] P := by decide +kernel) :
    Evolves P s (t.takeOffset n x b) :=
  h.trans hc (by unfold State.takeOffset; exact .ite refl.loadBuildOut refl.addMove)

theorem firstStep (h : Evolves P s t) {n d : Nat} {b : Int} (hc : Within [.doms, .dplls] P := by decide +kernel) :
    Evolves P s (t.firstStep n d b) :=
  h.trans hc (by unfold State.firstStep; exact .ite refl.setDom refl.setDom.setDpll)

theorem loopMoves (h : Evolves P s t) {n : Nat} (hc : Within [.attrs, .dplls, .store] P := by decide +kernel) :
    Evolves P s (t.loopMoves n) :=
  h.trans hc (by unfold State.loopMoves; exact refl.rebase.put1.setDpll)

theorem enterAcquire (h : Evolves P s t) {n x : Nat} {phase : Int} (hc : Within (.doms :: .dplls :: raiseParts) P := by decide +kernel) :
    Evolves P s (t.enterAcquire n x phase) := by
  refine h.trans hc ?_
  unfold State.enterAcquire
  dsimp only
  exact (useSource (by split; exacts [refl.loopMoves.setDpll.setWord.firstStep,
      refl.loopMoves.setDpll.setWord.takeOffset])).toDpllState.settle.setDpll.put1.put1.labelAtAcquire

theorem dpllConnect (h : Evolves P s t) {n x : Nat} {phase : Int} (hc : Within (.doms :: .dplls :: raiseParts) P := by decide +kernel) :
    Evolves P s (t.dpllConnect n x phase) := by
  refine h.trans hc ?_
  unfold State.dpllConnect
  dsimp only
  split
  · exact refl.setDpll.markSwitch
  · exact refl.setDpll.markSwitch.takeOffset.useSource.settle
  · exact refl.setDpll.markSwitch.takeOffset.useSource.settle.followStatus
  · exact refl.setDpll.markSwitch.enterAcquire

theorem holdMoves (h : Evolves P s t) {n : Nat} (hc : Within [.attrs, .dplls, .store] P := by decide +kernel) :
    Evolves P s (t.holdMoves n) :=
  h.trans hc (by unfold State.holdMoves; exact refl.put1.dropMoves.rebase.setDpll)

theorem resumeMoves (h : Evolves P s t) {n : Nat} (hc : Within [.dplls] P := by decide +kernel) : Evolves P s (t.resumeMoves n) :=
  h.trans hc (by unfold State.resumeMoves; exact refl.setDpll)

theorem enterHoldover (h : Evolves P s t) {n : Nat} (hc : Within (.dplls :: raiseParts) P := by decide +kernel) :
    Evolves P s (t.enterHoldover n) :=
  h.trans hc (by unfold State.enterHoldover; exact (ite refl.setDpll.setWord refl.setDpll.setWord.putList).put1.put1.toDpllState)

theorem enterFreeRun (h : Evolves P s t) {n : Nat} (hc : Within (.dplls :: raiseParts) P := by decide +kernel) :
    Evolves P s (t.enterFreeRun n) :=
  h.trans hc (by unfold State.enterFreeRun; exact refl.setWord.toDpllState)

theorem dpllDisconnect (h : Evolves P s t) {n : Nat} (hc : Within (.dplls :: raiseParts) P := by decide +kernel) :
    Evolves P s (t.dpllDisconnect n) := by
  refine h.trans hc ?_
  unfold State.dpllDisconnect
  refine ite ?_ ?_
  · exact .ite refl.setDpll.holdMoves.enterHoldover refl.setDpll.holdMoves.enterFreeRun
  · exact refl.setDpll

/-! ### Ledger -/

theorem ledgerMark (h : Evolves P s t) {n second bit : Nat} (hc : Within [.attrs, .faults, .tm, .store] P := by decide +kernel) :
    Evolves P s (t.ledgerMark n second bit) := by
  refine h.trans hc ?_
  unfold State.ledgerMark
  split
  · exact refl.tmWrite
  · exact refl

theorem guardDrift (h : Evolves P s t) {x : Nat} (hc : Within [.attrs, .dplls, .faults, .tm, .store] P := by decide +kernel) :
    Evolves P s (t.guardDrift x) :=
  h.trans hc (by unfold State.guardDrift; exact refl.forEach (fun _ _ => (refl.setDpll.forEach (fun _ _ => refl.ledgerMark))))

/-! ### Crucible -/

theorem settleWeights (h : Evolves P s t) (hc : Within [.attrs, .store] P := by decide +kernel) : Evolves P s (t.settleWeights) :=
  h.trans hc (by unfold State.settleWeights; exact refl.putList.put1)

theorem reweigh (h : Evolves P s t) (hc : Within [.attrs, .crucible, .store] P := by decide +kernel) : Evolves P s (t.reweigh) :=
  h.trans hc (by unfold State.reweigh; exact .ite refl.settleWeights refl.withCrucible.settleWeights)

theorem recompute (h : Evolves P s t) (hc : Within [.attrs, .crucible, .store] P := by decide +kernel) : Evolves P s (t.recompute) :=
  h.trans hc (by unfold State.recompute; exact refl.withCrucible.reweigh)

theorem scaleFrozen (h : Evolves P s t) (hc : Within [.attrs, .store] P := by decide +kernel) : Evolves P s (t.scaleFrozen) :=
  h.trans hc (by unfold State.scaleFrozen; exact refl.putList)

theorem afterLeaving (h : Evolves P s t) (hc : Within [.attrs, .crucible, .store] P := by decide +kernel) :
    Evolves P s (t.afterLeaving) :=
  h.trans hc (by unfold State.afterLeaving; exact .ite refl.scaleFrozen.settleWeights refl.reweigh)

theorem setOsc (h : Evolves P s t) {m : Nat} {x : OscState} (hc : Within [.attrs, .store] P := by decide +kernel) :
    Evolves P s (t.setOsc m x) :=
  h.trans hc (by unfold State.setOsc; exact refl.put)

theorem judgeSingle (h : Evolves P s t) (hc : Within raiseParts P := by decide +kernel) : Evolves P s (t.judgeSingle) :=
  h.trans hc (by unfold State.judgeSingle; exact .ite refl.raise .refl)

theorem outvote (h : Evolves P s t) {m : Nat} {oven : Bool} (hc : Within (.crucible :: raiseParts) P := by decide +kernel) :
    Evolves P s (t.outvote m oven) :=
  h.trans hc (by unfold State.outvote; exact refl.setOsc.withCrucible.afterLeaving.add.enforceLimit.raise.judgeSingle)

theorem freeze (h : Evolves P s t) (hc : Within [.attrs, .crucible, .store] P := by decide +kernel) : Evolves P s (t.freeze) :=
  h.trans hc (by unfold State.freeze; exact refl.settleWeights.withCrucible)

theorem thaw (h : Evolves P s t) (hc : Within [.crucible] P := by decide +kernel) : Evolves P s (t.thaw) :=
  h.trans hc (by unfold State.thaw; exact refl.withCrucible)

theorem execRootPhaseSteer_evolves {diff : Int} : ∃ t, execRootPhaseSteer diff s = .next t ∧ Evolves [.crucible] s t :=
  ⟨_, rfl, refl.when_ refl.withCrucible⟩

theorem execRootUnlock_evolves : ∃ t, execRootUnlock s = .next t ∧ Evolves raiseParts s t :=
  ⟨_, rfl, refl.when_ refl.put1.raise⟩

theorem noteLearn (h : Evolves P s t) (hc : Within [.crucible] P := by decide +kernel) : Evolves P s (t.noteLearn) :=
  h.trans hc (by unfold State.noteLearn; exact refl.withCrucible)

theorem arbitrate (h : Evolves P s t) {a b : Nat} (hc : Within (.crucible :: raiseParts) P := by decide +kernel) :
    Evolves P s (t.arbitrate a b) :=
  h.trans hc (by unfold State.arbitrate; exact refl.raise.outvote)

theorem evaluate (h : Evolves P s t) {fuel : Nat} {worst : State → Nat → Nat} {one : Nat}
    (hc : Within (.crucible :: raiseParts) P := by decide +kernel) : Evolves P s (t.evaluate fuel worst one) := by
  induction fuel generalizing t with
  | zero => exact h
  | succ k ih =>
    unfold State.evaluate
    split
    · exact h
    · exact h
    · exact .ite (h.trans hc refl.arbitrate) h
    · split
      · exact ih (h.trans hc refl.outvote)
      · exact h

theorem observe (h : Evolves P s t) {obs : List OscSample} (hc : Within [.attrs, .store] P := by decide +kernel) :
    Evolves P s (t.observe obs) :=
  h.trans hc (by unfold State.observe; exact refl.putList.putList)

theorem execOutvoteEvaluation_evolves {obs : List OscSample} :
    ∃ t, execOutvoteEvaluation obs s = .next t ∧ Evolves (.counter :: .crucible :: raiseParts) s t :=
  ⟨_, rfl, refl.when_ refl.advance.observe.noteLearn.evaluate⟩

theorem execWeightRecompute_evolves {variances : List Nat} {separable : Bool} :
    ∃ t, execWeightRecompute variances separable s = .next t ∧ Evolves [.attrs, .crucible, .store] s t :=
  ⟨_, rfl, refl.when_ refl.withCrucible.recompute⟩

theorem stepVote (h : Evolves P s t) {diffs : List Int} {ext : Option Int} (hc : Within (.crucible :: raiseParts) P := by decide +kernel) :
    Evolves P s (t.stepVote diffs ext) :=
  h.trans hc (by unfold State.stepVote; exact refl.withCrucible.evaluate)

theorem closureCheck (h : Evolves P s t) {sum : Int} {bad : Bool} (hc : Within (.crucible :: raiseParts) P := by decide +kernel) :
    Evolves P s (t.closureCheck sum bad) := by
  refine h.trans hc ?_
  unfold State.closureCheck
  refine ite ?_ ?_
  · exact refl.put1.withCrucible.freeze.raise
  · exact .ite refl.put1.withCrucible.thaw.uncause refl.put1.withCrucible

theorem keepPhases (h : Evolves P s t) {diffs : List Int} {ext : Option Int} (hc : Within [.crucible] P := by decide +kernel) :
    Evolves P s (t.keepPhases diffs ext) :=
  h.trans hc (by unfold State.keepPhases; exact refl.withCrucible)

theorem execComparatorMeasurement_evolves {d01 d12 d20 : Int} {ext : Option Int} :
    ∃ t, execComparatorMeasurement d01 d12 d20 ext s = .next t ∧ Evolves (.crucible :: raiseParts) s t :=
  ⟨_, rfl, refl.when_ (.ite (.ite refl.closureCheck.keepPhases refl.closureCheck.keepPhases.stepVote) refl.keepPhases.stepVote)⟩

theorem endWarmup (h : Evolves P s t) {w : WarmupState} (hc : Within [.attrs, .store] P := by decide +kernel) :
    Evolves P s (t.endWarmup w) :=
  h.trans hc (by unfold State.endWarmup; exact refl.put1.put1)

theorem joinWarmup (h : Evolves P s t) (hc : Within raiseParts P := by decide +kernel) : Evolves P s (t.joinWarmup) := by
  refine h.trans hc ?_
  unfold State.joinWarmup
  split
  · exact .ite refl.endWarmup.raise .refl
  · exact refl.put1.raise
  · exact refl

theorem execOvenJoin_evolves {m : Fin 3} : ∃ t, execOvenJoin m s = .next t ∧ Evolves (.crucible :: raiseParts) s t :=
  ⟨_, rfl, refl.when_ ((ite ((ite refl.setOsc.putList refl.setOsc.put).settleWeights) refl.setOsc.reweigh).joinWarmup)⟩

theorem execOvenFault_evolves {m : Fin 3} : ∃ t, execOvenFault m s = .next t ∧ Evolves (.crucible :: raiseParts) s t :=
  ⟨_, rfl, refl.when_ (.ite (.ite refl.raise.judgeSingle refl.raise.outvote) refl.raise.withCrucible)⟩

theorem execWarmupTimeout_evolves : ∃ t, execWarmupTimeout s = .next t ∧ Evolves (.counter :: raiseParts) s t :=
  ⟨_, rfl, refl.when_ ((refl.advance.forEach (fun _ _ => refl.raise)).endWarmup)⟩

theorem startRamp (h : Evolves P s t) {m : Nat} (hc : Within [.attrs, .crucible, .faults, .store] P := by decide +kernel) :
    Evolves P s (t.startRamp m) :=
  h.trans hc (by unfold State.startRamp; exact (ite refl.setOsc.withCrucible.put.settleWeights refl.setOsc.withCrucible.reweigh).uncause)

theorem execReadmitConditionMet_evolves {m : Fin 4} :
    ∃ t, execReadmitConditionMet m s = .next t ∧ Evolves [.attrs, .crucible, .faults, .store] s t :=
  ⟨_, rfl, refl.when_ refl.startRamp⟩

theorem execReadmitRampComplete_evolves {m : Fin 4} :
    ∃ t, execReadmitRampComplete m s = .next t ∧ Evolves (.counter :: .crucible :: raiseParts) s t := by
  unfold execReadmitRampComplete
  dsimp only
  refine ⟨_, rfl, ?_⟩
  split
  · exact refl.when_ refl.advance.setOsc.withCrucible.settleWeights.raise
  · exact refl

theorem execOscReadmit_evolves {who : Issuer} {member : Nat} {conditionHolds : Bool} :
    ∃ t, execOscReadmit who member conditionHolds s = .next t ∧ Evolves (.crucible :: raiseParts) s t :=
  ⟨_, rfl, refl.doAct refl.startRamp⟩

theorem execOscExclude_evolves {who : Issuer} {member : Nat} :
    ∃ t, execOscExclude who member s = .next t ∧ Evolves (.crucible :: raiseParts) s t :=
  ⟨_, rfl, refl.doAct refl.outvote⟩

theorem extJoin (h : Evolves P s t) (hc : Within [.attrs, .crucible, .store] P := by decide +kernel) : Evolves P s (t.extJoin) :=
  h.trans hc (by unfold State.extJoin; exact .ite (.ite refl.setOsc.put.settleWeights refl.setOsc.reweigh) .refl)

theorem extLeave (h : Evolves P s t) {event : Bool} (hc : Within (.crucible :: raiseParts) P := by decide +kernel) :
    Evolves P s (t.extLeave event) := by
  refine h.trans hc ?_
  unfold State.extLeave
  refine ite ?_ ?_
  · exact refl
  · refine ite ?_ ?_
    · exact (ite ((ite refl.setOsc.withCrucible.afterLeaving refl.setOsc.withCrucible).uncause.raise) ((ite
          refl.setOsc.withCrucible.afterLeaving refl.setOsc.withCrucible).uncause)).judgeSingle
    · refine ite ?_ ?_
      · exact (ite refl.setOsc.withCrucible.afterLeaving refl.setOsc.withCrucible).uncause.raise
      · exact (ite refl.setOsc.withCrucible.afterLeaving refl.setOsc.withCrucible).uncause

theorem takeFit (h : Evolves P s t) {f : ModelFit} (hc : Within (.crucible :: raiseParts) P := by decide +kernel) :
    Evolves P s (t.takeFit f) :=
  h.trans hc (by unfold State.takeFit; exact .ite refl.put1.raise refl.withCrucible.put.put.put.put.put.put.put1)

theorem execModelFitUpdate_evolves {fits : List ModelFit} :
    ∃ t, execModelFitUpdate fits s = .next t ∧ Evolves (.crucible :: raiseParts) s t :=
  ⟨_, rfl, refl.when_ (.ite ((refl.foldl fun _ _ => refl.takeFit).enforceLimit) (.ite refl.put1 .refl))⟩

theorem execAmbientGradient_evolves : ∃ t, execAmbientGradient s = .next t ∧ Evolves raiseParts s t :=
  ⟨_, rfl, refl.when_ refl.raise⟩

/-! ### Input -/

theorem leaveQualified (h : Evolves P s t) {n : Nat} (hc : Within (.crucible :: .sels :: raiseParts) P := by decide +kernel) :
    Evolves P s (t.leaveQualified n) :=
  h.trans hc (by unfold State.leaveQualified; exact .ite refl.put1.raise.sourceLeft.extLeave refl.put1.raise.sourceLeft)

theorem judgeInput (h : Evolves P s t) {n : Nat} (hc : Within (.crucible :: .inputs :: .sels :: raiseParts) P := by decide +kernel) :
    Evolves P s (t.judgeInput n) := by
  refine h.trans hc ?_
  unfold State.judgeInput
  dsimp only
  refine ite ?_ ?_
  · exact refl
  · split
    · exact refl
    · exact .ite .refl refl.setInput.put1
    · exact .ite refl.put1 .refl
    · exact .ite refl.leaveQualified .refl

theorem verdict (h : Evolves P s t) {n k : Nat} {fails : Bool}
    (hc : Within (.crucible :: .inputs :: .sels :: raiseParts) P := by decide +kernel) : Evolves P s (t.verdict n k fails) :=
  h.trans hc (by unfold State.verdict; exact refl.put1.judgeInput)

theorem requalify (h : Evolves P s t) {n : Nat} (hc : Within (.crucible :: .inputs :: .sels :: raiseParts) P := by decide +kernel) :
    Evolves P s (t.requalify n) :=
  h.trans hc (by unfold State.requalify; exact (ite refl.leaveQualified refl.put1).judgeInput)

theorem restartSoak (h : Evolves P s t) {n : Nat} (hc : Within [.inputs] P := by decide +kernel) : Evolves P s (t.restartSoak n) :=
  h.trans hc (by unfold State.restartSoak; exact .ite refl.setInput .refl)

theorem restartGate (h : Evolves P s t) {n : Nat} (hc : Within (.crucible :: .inputs :: .sels :: raiseParts) P := by decide +kernel) :
    Evolves P s (t.restartGate n) :=
  h.trans hc (by unfold State.restartGate; exact refl.setInput.verdict)

theorem quality (h : Evolves P s t) {n cause : Nat} (hc : Within raiseParts P := by decide +kernel) : Evolves P s (t.quality n cause) :=
  h.trans hc (by unfold State.quality; exact refl.raise)

theorem regrade (h : Evolves P s t) {n cause : Nat} {always : Bool}
    (hc : Within (.crucible :: .inputs :: .sels :: raiseParts) P := by decide +kernel) : Evolves P s (t.regrade n cause always) :=
  h.trans hc (by unfold State.regrade; exact .ite .refl ((ite refl.put1.quality refl.put1).verdict))

theorem startMonitors (h : Evolves P s t) {n : Nat} (hc : Within (.crucible :: .inputs :: .sels :: raiseParts) P := by decide +kernel) :
    Evolves P s (t.startMonitors n) :=
  h.trans hc (by unfold State.startMonitors; exact (ite refl.setInput.put1.put1.put1.put1 refl.setInput.put1.put1).uncause.regrade)

theorem startInput (h : Evolves P s t) {n : Nat} (hc : Within (.crucible :: .inputs :: .sels :: raiseParts) P := by decide +kernel) :
    Evolves P s (t.startInput n) :=
  h.trans hc (by unfold State.startInput; exact refl.startMonitors.put1)

theorem stopInput (h : Evolves P s t) {n : Nat} (hc : Within (.crucible :: .inputs :: .sels :: raiseParts) P := by decide +kernel) :
    Evolves P s (t.stopInput n) :=
  h.trans hc (by unfold State.stopInput; exact (ite refl.leaveQualified .refl).setInput.put1.put1.put1.uncause.uncause)

theorem graded (h : Evolves P s t) {n kind g : Nat} (hc : Within (.crucible :: .inputs :: .sels :: raiseParts) P := by decide +kernel) :
    Evolves P s (t.graded n kind g) :=
  h.trans hc (by unfold State.graded; exact refl.setInput.regrade)

theorem loseSignal (h : Evolves P s t) {n : Nat} (hc : Within (.crucible :: .inputs :: .sels :: raiseParts) P := by decide +kernel) :
    Evolves P s (t.loseSignal n) :=
  h.trans hc (by unfold State.loseSignal; exact .ite .refl refl.raise.verdict)

theorem signalEdge (h : Evolves P s t) {n count : Nat} (hc : Within (.crucible :: .inputs :: .sels :: raiseParts) P := by decide +kernel) :
    Evolves P s (t.signalEdge n count) :=
  h.trans hc (by unfold State.signalEdge; exact .ite refl.setInput.setInput.uncause.verdict.verdict refl.setInput)

theorem renominal (h : Evolves P s t) {n : Nat} (hc : Within (.crucible :: .inputs :: .sels :: raiseParts) P := by decide +kernel) :
    Evolves P s (t.renominal n) :=
  h.trans hc (by unfold State.renominal; exact .ite refl.setInput.signalEdge .refl)

theorem jumpFails (h : Evolves P s t) {n : Nat} (hc : Within (.crucible :: .inputs :: .sels :: raiseParts) P := by decide +kernel) :
    Evolves P s (t.jumpFails n) :=
  h.trans hc (by unfold State.jumpFails; exact refl.setInput.verdict)

theorem takeStamp (h : Evolves P s t) {n count : Nat} {place : Int}
    (hc : Within (.crucible :: .inputs :: .sels :: raiseParts) P := by decide +kernel) : Evolves P s (t.takeStamp n count place) := by
  refine h.trans hc ?_
  unfold State.takeStamp
  dsimp only
  split
  · exact .ite refl.add.setInput.jumpFails refl.add.setInput
  · exact refl.add.setInput

theorem nextGate (h : Evolves P s t) {n : Nat} (hc : Within [.inputs] P := by decide +kernel) : Evolves P s (t.nextGate n) :=
  h.trans hc (by unfold State.nextGate; exact refl.setInput)

theorem execLosTimeout_evolves {n : Fin 36} :
    ∃ t, execLosTimeout n s = .next t ∧ Evolves (.counter :: .crucible :: .inputs :: .sels :: raiseParts) s t :=
  ⟨_, rfl, refl.when_ refl.advance.loseSignal⟩

theorem execFreqGateComplete_evolves {n : Fin 36} :
    ∃ t, execFreqGateComplete n s = .next t ∧ Evolves (.counter :: .crucible :: .inputs :: .sels :: raiseParts) s t := by
  refine ⟨_, rfl, refl.when_ ?_⟩
  extract_lets t _ pass fits u _ v w
  have hw : Evolves (.counter :: .crucible :: .inputs :: .sels :: raiseParts) s w := by
    dsimp only [w]
    split
    · exact refl.advance.nextGate.setInput.put1
    · exact refl.advance.nextGate.setInput
  exact ite refl.advance.setInput (ite hw.verdict hw).verdict

theorem execSoakExpiry_evolves {n : Fin 36} :
    ∃ t, execSoakExpiry n s = .next t ∧ Evolves [.counter, .attrs, .crucible, .sels, .faults, .store] s t :=
  ⟨_, rfl, refl.when_ (.ite refl.advance.put1.uncause.sourceReturned.extJoin refl.advance.put1.uncause.sourceReturned)⟩

theorem noteSecond (h : Evolves P s t) {n : Nat} (hc : Within [.inputs] P := by decide +kernel) : Evolves P s (t.noteSecond n) :=
  h.trans hc (by unfold State.noteSecond; exact refl.setInput)

theorem execDriftEvaluation_evolves {n : Fin 36} :
    ∃ t, execDriftEvaluation n s = .next t ∧ Evolves (.crucible :: .inputs :: .sels :: .dplls :: raiseParts) s t := by
  unfold execDriftEvaluation
  dsimp only
  refine ⟨_, rfl, ?_⟩
  exact refl.when_ ((by split; exacts [refl.noteSecond, .ite (.ite refl.noteSecond.put1.setInput
      refl.noteSecond.put1.setInput.verdict.raise.guardDrift) (.ite refl.noteSecond.put1.setInput.verdict.uncause.driftCleared
      refl.noteSecond.put1.setInput)]))

theorem execWanderEvaluation_evolves {n : Fin 36} :
    ∃ t, execWanderEvaluation n s = .next t ∧ Evolves (.crucible :: .inputs :: .sels :: raiseParts) s t :=
  ⟨_, rfl, refl.when_ refl.verdict⟩

theorem execMsgTimeout_evolves {n : Fin 36} :
    ∃ t, execMsgTimeout n s = .next t ∧ Evolves (.counter :: .crucible :: .inputs :: .sels :: raiseParts) s t := by
  unfold execMsgTimeout
  dsimp only
  refine ⟨_, rfl, ?_⟩
  split
  · exact refl.when_ refl.advance.setInput.regrade
  · exact refl

theorem execEsmcPduReceived_evolves {port : Fin 4} {ssm : Fin 16} {extended : Option (Nat × Nat × Nat)} :
    ∃ t, execEsmcPduReceived port ssm extended s = .next t ∧ Evolves (.crucible :: .inputs :: .sels :: raiseParts) s t := by
  unfold execEsmcPduReceived
  dsimp only
  refine ⟨_, rfl, ?_⟩
  exact refl.when_ ((graded (by split; exacts [refl.put1.put1.put1, refl.put1.put1])))

theorem rxError (h : Evolves P s t) {n k : Nat} (hc : Within raiseParts P := by decide +kernel) : Evolves P s (t.rxError n k) :=
  h.trans hc (by unfold State.rxError; exact refl.add.raiseOnce)

theorem receive (h : Evolves P s t) {rx : Nat} {samples : List Bool} (hc : Within (.uarts :: raiseParts) P := by decide +kernel) :
    Evolves P s (t.receive rx samples) := by
  refine h.trans hc ?_
  unfold State.receive
  dsimp only
  split
  · exact .ite refl.setUart refl.setUart.add.raiseOnce
  · exact refl.setUart

theorem acceptLabel (h : Evolves P s t) {n : Nat} {sec : Int} {edge : Nat} {place : Int}
    (hc : Within [.inputs, .dplls] P := by decide +kernel) : Evolves P s (t.acceptLabel n sec edge place) :=
  h.trans hc (by unfold State.acceptLabel; exact refl.setInput.labelArrived)

theorem takeLabel (h : Evolves P s t) {n : Nat} {sec : Int} {edge : Nat} {place : Int}
    (hc : Within (.inputs :: .dplls :: raiseParts) P := by decide +kernel) : Evolves P s (t.takeLabel n sec edge place).2 := by
  refine h.trans hc ?_
  unfold State.takeLabel
  dsimp only
  split
  · show Evolves _ t (t.acceptLabel n sec edge place)
    exact refl.acceptLabel
  · split
    · exact refl.acceptLabel.quality
    · exact refl.setInput.rxError

theorem labelEdge (h : Evolves P s t) {n : Nat} {m : LabelMsg} {edge : Nat} {place : Int}
    (hc : Within (.crucible :: .inputs :: .sels :: .dplls :: raiseParts) P := by decide +kernel) : Evolves P s (t.labelEdge n m edge place) := by
  refine h.trans hc ?_
  unfold State.labelEdge
  split
  · exact refl.rxError
  · dsimp only
    split
    · exact refl.takeLabel.graded
    · exact refl.takeLabel

theorem labelMessage (h : Evolves P s t) {n : Nat} {timing : LabelTiming} {m : LabelMsg}
    (hc : Within (.crucible :: .inputs :: .sels :: .dplls :: raiseParts) P := by decide +kernel) : Evolves P s (t.labelMessage n timing m) := by
  refine h.trans hc ?_
  unfold State.labelMessage
  dsimp only
  refine ite ?_ ?_
  · exact refl.rxError
  · refine ite ?_ ?_
    · split
      · exact .ite refl.labelEdge refl.rxError
      · exact refl.rxError
    · exact refl.setInput

theorem labelNext (h : Evolves P s t) {n : Nat} {place : Int}
    (hc : Within (.crucible :: .inputs :: .sels :: .dplls :: raiseParts) P := by decide +kernel) : Evolves P s (t.labelNext n place) :=
  h.trans hc (by unfold State.labelNext; exact .ite refl.setInput (refl.setInput.foldl fun _ _ => .ite refl.labelEdge refl.rxError))

theorem execInputEdge_evolves {n : Fin 36} {count vernier : Nat} {frameStart : Bool} :
    ∃ t, execInputEdge n count vernier frameStart s = .next t ∧ Evolves (.crucible :: .inputs :: .sels :: .dplls :: raiseParts) s t :=
  ⟨_, rfl, refl.when_ (.ite refl.signalEdge ((ite refl.signalEdge.takeStamp.setInput refl.signalEdge.takeStamp).labelNext))⟩

theorem execTimeEventMessage_evolves {rx : Fin 2} {timing : LabelTiming} {seconds : Nat} :
    ∃ t, execTimeEventMessage rx timing seconds s = .next t ∧
      Evolves (.crucible :: .inputs :: .uarts :: .sels :: .dplls :: raiseParts) s t := by
  unfold execTimeEventMessage
  dsimp only
  refine ⟨_, rfl, ?_⟩
  exact refl.when_ ((by split; exacts [(refl.receive.when_ refl.labelMessage), refl.receive]))

theorem execTimeAnnounceMessage_evolves {rx : Fin 2} {checksumOk : Bool} {samples : List Bool} {status : TodStatus} {clockClass accuracy
    : Option Nat} {utc : UtcFields} :
    ∃ t, execTimeAnnounceMessage rx checksumOk samples status clockClass accuracy utc s = .next t ∧
      Evolves (.crucible :: .doms :: .inputs :: .uarts :: .sels :: .gens :: raiseParts) s t := by
  unfold execTimeAnnounceMessage
  dsimp only
  refine ⟨_, rfl, ?_⟩
  exact refl.when_ ((by split; exacts [(refl.receive.when_ (.ite refl.rxError ((refl.graded.forEach (fun _ _ => refl.learnUtc))))),
      refl.receive]))

theorem nmea (h : Evolves P s t) {rx : Nat} {timing : LabelTiming} {civil : CivilTime} {short good : Bool}
    (hc : Within (.crucible :: .inputs :: .uarts :: .sels :: .dplls :: raiseParts) P := by decide +kernel) :
    Evolves P s (t.nmea rx timing civil short good) := by
  refine h.trans hc ?_
  unfold State.nmea
  dsimp only
  exact refl.when_ ((by split; exacts [(refl.receive.when_ refl.labelMessage), refl.receive]))

theorem execNmeaZda_evolves {rx : Fin 2} {timing : LabelTiming} {civil : CivilTime} :
    ∃ t, execNmeaZda rx timing civil s = .next t ∧ Evolves (.crucible :: .inputs :: .uarts :: .sels :: .dplls :: raiseParts) s t :=
  ⟨_, rfl, refl.nmea⟩

theorem execNmeaRmc_evolves {rx : Fin 2} {timing : LabelTiming} {civil : CivilTime} {statusA : Bool} :
    ∃ t, execNmeaRmc rx timing civil statusA s = .next t ∧ Evolves (.crucible :: .inputs :: .uarts :: .sels :: .dplls :: raiseParts) s t :=
  ⟨_, rfl, refl.nmea⟩

theorem judgeFormat (h : Evolves P s t) {x : Nat} (hc : Within (.crucible :: .inputs :: .sels :: raiseParts) P := by decide +kernel) :
    Evolves P s (t.judgeFormat x) :=
  h.trans hc (by unfold State.judgeFormat; exact refl.verdict)

theorem execVideoFormatDetected_evolves {n : Fin 4} {format : Fin 17} :
    ∃ t, execVideoFormatDetected n format s = .next t ∧ Evolves (.crucible :: .inputs :: .sels :: raiseParts) s t :=
  ⟨_, rfl, refl.when_ (.ite refl.setInput.put1.judgeFormat.requalify.quality refl.setInput.put1.judgeFormat)⟩

theorem ltcDiscard (h : Evolves P s t) {x : Nat} (hc : Within (.crucible :: .inputs :: .sels :: raiseParts) P := by decide +kernel) :
    Evolves P s (t.ltcDiscard x) :=
  h.trans hc (by unfold State.ltcDiscard; exact .ite refl.setInput.rxError.verdict refl.setInput.rxError)

theorem ltcDecoded (h : Evolves P s t) {x rate : Nat} {civil : CivilTime} {frame zone : Nat} {place : Int}
    (hc : Within (.crucible :: .inputs :: .sels :: raiseParts) P := by decide +kernel) :
    Evolves P s (t.ltcDecoded x rate civil frame zone place) := by
  refine h.trans hc ?_
  unfold State.ltcDecoded
  dsimp only
  refine ite ?_ ?_
  · exact (ite .refl refl.put1.quality).ltcDiscard
  · split
    · exact (ite .refl refl.put1.quality).ltcDiscard
    · exact (ite .refl refl.put1.quality).setInput

theorem execLtcFrameDecoded_evolves {n : Fin 2} {rate : Fin 6} {civil : CivilTime} {frame : Nat} {zone : Fin 64} {count vernier : Nat} :
    ∃ t, execLtcFrameDecoded n rate civil frame zone count vernier s = .next t ∧ Evolves (.crucible :: .inputs :: .sels :: raiseParts) s t :=
  ⟨_, rfl, refl.when_ (.ite refl.takeStamp.ltcDecoded refl.takeStamp)⟩

theorem execLtcDiscardWindowClear_evolves {n : Fin 2} :
    ∃ t, execLtcDiscardWindowClear n s = .next t ∧ Evolves (.counter :: .crucible :: .inputs :: .sels :: raiseParts) s t := by
  unfold execLtcDiscardWindowClear
  dsimp only
  refine ⟨_, rfl, ?_⟩
  exact refl.when_ ((setInput (by split; exacts [refl.advance, .refl])).verdict)

/-! ### Syn -/

theorem reachGrid (h : Evolves P s t) {o : Nat} {t' : Int} (hc : Within [.counter] P := by decide +kernel) :
    Evolves P s (t.reachGrid o t') := by
  refine h.trans hc ?_
  unfold State.reachGrid
  dsimp only
  split
  · exact refl.reach
  · exact refl.advance

theorem startOutput (h : Evolves P s t) {o : Nat} (hc : Within (.outs :: raiseParts) P := by decide +kernel) :
    Evolves P s (t.startOutput o) :=
  h.trans hc (by unfold State.startOutput; exact refl.replacePulse)

theorem startOutputs (h : Evolves P s t) {n : Nat} (hc : Within (.outs :: raiseParts) P := by decide +kernel) :
    Evolves P s (t.startOutputs n) :=
  h.trans hc (by unfold State.startOutputs; exact refl.forEach (fun _ _ => refl.startOutput))

theorem execOutputStart_evolves {n : Fin 32} : ∃ t, execOutputStart n s = .next t ∧ Evolves [.counter, .outs] s t :=
  ⟨_, rfl, refl.when_ refl.reachGrid.setOutp⟩

theorem execOutputStop_evolves {n : Fin 32} : ∃ t, execOutputStop n s = .next t ∧ Evolves (.outs :: raiseParts) s t :=
  ⟨_, rfl, refl.when_ ((ite refl.replacePulse (.ite refl.setOutp .refl)).judgeTods)⟩

theorem execOutputUngate_evolves {n : Fin 32} : ∃ t, execOutputUngate n s = .next t ∧ Evolves [.outs] s t :=
  ⟨_, rfl, refl.when_ refl.setOutp⟩

theorem execStepperStep_evolves {n : Fin 32} : ∃ t, execStepperStep n s = .next t ∧ Evolves (.outs :: raiseParts) s t :=
  ⟨_, rfl, refl.when_ refl.setMove⟩

theorem execDriverFault_evolves {n : Fin 32} {present : Bool} : ∃ t, execDriverFault n present s = .next t ∧ Evolves raiseParts s t :=
  ⟨_, rfl, refl.when_ (.ite (.ite .refl refl.put1.raise) refl.put1.uncause)⟩

theorem setRatio (h : Evolves P s t) {n : Nat} {v' : Nat × Nat} (hc : Within [.attrs, .syns, .store] P := by decide +kernel) :
    Evolves P s (t.setRatio n v') :=
  h.trans hc (by unfold State.setRatio; exact refl.setSyn.put1)

theorem synOn (h : Evolves P s t) {n : Nat} (hc : Within (.crucible :: .inputs :: .sels :: raiseParts) P := by decide +kernel) :
    Evolves P s (t.synOn n) :=
  h.trans hc (by unfold State.synOn; exact refl.put1.startInput)

theorem synOff (h : Evolves P s t) {n : Nat} (hc : Within (.crucible :: .inputs :: .sels :: raiseParts) P := by decide +kernel) :
    Evolves P s (t.synOff n) :=
  h.trans hc (by unfold State.synOff; exact refl.put1.stopInput.uncause.uncause.uncause)

theorem refreshFeedback (h : Evolves P s t) {n : Nat} (hc : Within [.inputs] P := by decide +kernel) :
    Evolves P s (t.refreshFeedback n) :=
  h.trans hc (by unfold State.refreshFeedback; exact refl.setInput)

theorem setMargin (h : Evolves P s t) {n : Nat} {margin : Int} (hc : Within raiseParts P := by decide +kernel) :
    Evolves P s (t.setMargin n margin) :=
  h.trans hc (by unfold State.setMargin; exact .ite (.ite refl.put1 refl.put1.raise) refl.put1.uncause)

theorem synLocked (h : Evolves P s t) {n : Nat} {margin : Int}
    (hc : Within (.inputs :: .syns :: .outs :: raiseParts) P := by decide +kernel) : Evolves P s (t.synLocked n margin) :=
  h.trans hc (by unfold State.synLocked; exact refl.setSyn.put1.refreshFeedback.uncause.uncause.uncause.setMargin.startOutputs)

theorem execCalibrationComplete_evolves {n : Fin 8} :
    ∃ t, execCalibrationComplete n s = .next t ∧ Evolves (.inputs :: .syns :: .outs :: .freeCount :: raiseParts) s t :=
  ⟨_, rfl, refl.when_ refl.spend.synLocked⟩

theorem execCalibrationFailure_evolves {n : Fin 8} : ∃ t, execCalibrationFailure n s = .next t ∧ Evolves raiseParts s t :=
  ⟨_, rfl, refl.when_ refl.put1.raise⟩

theorem execRetuneComplete_evolves {n : Fin 8} :
    ∃ t, execRetuneComplete n s = .next t ∧ Evolves (.inputs :: .syns :: .outs :: raiseParts) s t :=
  ⟨_, rfl, refl.when_ refl.synLocked.raise⟩

theorem execSynthesiserUnlock_evolves {n : Fin 8} : ∃ t, execSynthesiserUnlock n s = .next t ∧ Evolves raiseParts s t :=
  ⟨_, rfl, refl.when_ refl.put1.raise⟩

theorem execTuningMarginLow_evolves {n : Fin 8} {margin : Nat} : ∃ t, execTuningMarginLow n margin s = .next t ∧ Evolves raiseParts s t :=
  ⟨_, rfl, refl.when_ refl.setMargin⟩

theorem execSynRetune_evolves {who : Issuer} {syn : Nat} : ∃ t, execSynRetune who syn s = .next t ∧ Evolves (.syns :: raiseParts) s t :=
  ⟨_, rfl, refl.doAct refl.setRatio.put1.bump⟩

/-- What the effect of an action keeps where every condition on it is met, the action keeps. -/
theorem actOf {who : Issuer} {a : Action} {f : State → State} (hf : firstRefusal a.refusals = none → Evolves P s (f s))
    (hc : Within raiseParts P := by decide +kernel) : Evolves P s (s.act who a f) := by
  unfold State.act
  split
  · exact refl
  · refine ite (refl.trans hc refl.pointerFault.finish) (ite (refl.trans hc refl.finish) (ite (refl.trans hc refl.finish) ?_))
    split
    · exact refl.trans hc refl.finish
    · next hnone => exact hf hnone

theorem execSynCommit_evolves {who : Issuer} {slot trigger edgeOutput synMask outMask domain time : Nat} :
    ∃ t, execSynCommit who slot trigger edgeOutput synMask outMask domain time s = .next t ∧ Evolves (.arms :: raiseParts) s t := by
  have bumped {u : State} (h : Evolves (.arms :: raiseParts) s u) (c : Bool) :
      Evolves (.arms :: raiseParts) s (if c then u.bump Attr.syn_commit_late 0 else u) := ite h.bump h
  refine ⟨_, rfl, bumped (actOf fun hnone => (refl.withArms fun harms => ?_).put.finish) _⟩
  simp only [firstRefusal_none, List.forall_mem_cons, Bool.or_eq_false_iff] at hnone
  obtain ⟨⟨hrange, -⟩, -, hfree, -⟩ := hnone
  exact State.armsExclusive_put (State.commitRange_slot hrange)
    (fun n hn hb => State.commitInUse_syn hfree hn (by rwa [← bitOf_mod synMask hn])) (fun o ho hb => State.commitInUse_out hfree ho hb) harms

theorem execSynCancel_evolves {who : Issuer} {slot : Nat} : ∃ t, execSynCancel who slot s = .next t ∧ Evolves (.arms :: raiseParts) s t :=
  ⟨_, rfl, refl.doAct (refl.withArms (State.armsExclusive_drop slot)).put.raise⟩

theorem commitOutput (h : Evolves P s t) {o : Nat} (hc : Within (.outs :: raiseParts) P := by decide +kernel) :
    Evolves P s (t.commitOutput o) :=
  h.trans hc (by unfold State.commitOutput; exact refl.replacePulse.put1)

theorem beginPeriod (h : Evolves P s t) {old : State} {o : Nat} (hc : Within [.outs] P := by decide +kernel) :
    Evolves P s (t.beginPeriod old o) :=
  h.trans hc (by unfold State.beginPeriod; exact .ite .refl refl.setOutp)

theorem regrid (h : Evolves P s t) {old : State} {o : Nat} {ratioChanged : Bool}
    (hc : Within (.outs :: raiseParts) P := by decide +kernel) : Evolves P s (t.regrid old o ratioChanged) := by
  refine h.trans hc ?_
  unfold State.regrid
  dsimp only
  refine ite ?_ ?_
  · exact refl.setMove
  · split
    · exact .ite refl.setMove refl.setMove.outShift
    · exact refl.setMove.startOutput
    · exact refl.setMove

theorem commitSyn (h : Evolves P s t) {outMask n : Nat} (hc : Within (.inputs :: .syns :: .outs :: raiseParts) P := by decide +kernel) :
    Evolves P s (t.commitSyn outMask n) := by
  refine h.trans hc ?_
  unfold State.commitSyn
  exact (ite (((ite refl.setRatio.put1.setSyn.refreshFeedback refl.setRatio.put1.setSyn).forEach (fun _ _ => refl.regrid))) (.ite
      refl.setRatio.put1.setSyn.refreshFeedback refl.setRatio.put1.setSyn)).countSafe

/-- Where a trigger instant has come, the counter stands at it at least. -/
theorem triggerReached {a : CommitArm} (hu : t.triggerReached a = some u) (h : Evolves P s t)
    (hc : Within [.counter] P := by decide +kernel) :
    Evolves P s u := by
  refine h.trans hc ?_
  unfold State.triggerReached at hu
  split at hu
  · obtain rfl := Option.some.inj hu
    exact refl.advance
  · split at hu
    · obtain rfl := Option.some.inj hu
      exact refl.reachGrid
    · cases hu
  · split at hu
    · cases hu
    · obtain rfl := Option.some.inj hu
      exact .ite refl refl.reach

theorem applyCommit (h : Evolves P s t) {slot : Nat} {a : CommitArm}
    (hc : Within (.inputs :: .syns :: .outs :: .arms :: raiseParts) P := by decide +kernel) : Evolves P s (t.applyCommit slot a) := by
  refine h.trans hc ?_
  have hw := (((refl (P := .inputs :: .syns :: .outs :: .arms :: raiseParts) (s := t)
    |>.forEach (l := synMembers a.synMask) (f := fun y n => y.commitSyn a.outMask n) fun _ _ => refl.commitSyn)
    |>.forEach (l := (List.range 32).filter (bitOf a.outMask)) (f := State.commitOutput) fun _ _ => refl.commitOutput)
    |>.forEach (l := (List.range 32).filter (bitOf a.outMask)) (f := fun y o => y.beginPeriod t o) fun _ _ => refl.beginPeriod)
    |>.forEach (l := synMembers a.synMask) (f := fun y n => y.raise (Ev.syn n 3) false slot) fun _ _ => refl.raise
  exact (hw.withArms (State.armsExclusive_drop slot)).put.raise

theorem execCommitTrigger_evolves {slot : Fin 8} : ∃ t, execCommitTrigger slot s = .next t ∧
    Evolves (.counter :: .inputs :: .syns :: .outs :: .arms :: raiseParts) s t := by
  refine ⟨_, rfl, ?_⟩
  split
  · refine refl.when_ ?_
    split
    · next hu => exact (triggerReached hu refl).applyCommit
    · exact refl
  · exact refl

theorem execOutputDoStep_evolves {who : Issuer} {n : Nat} : ∃ t, execOutputDoStep who n s = .next t ∧ Evolves (.outs :: raiseParts) s t :=
  ⟨_, rfl, refl.doAct (.ite .refl refl.outRestart)⟩

/-! ### Generator -/

theorem genArm (h : Evolves P s t) {g : Nat} (hc : Within (.gens :: raiseParts) P := by decide +kernel) : Evolves P s (t.genArm g) :=
  h.trans hc (by unfold State.genArm; exact .ite refl.genLeaves.setGen.raise refl.genLeaves.setGen)

theorem jam (h : Evolves P s t) {n : Nat} {j : Int} (hc : Within (.gens :: raiseParts) P := by decide +kernel) :
    Evolves P s (t.jam n j) :=
  h.trans hc (by unfold State.jam; exact .ite refl.setGen refl.setGen.bump.put1.raise)

theorem execTcgenJam_evolves {who : Issuer} {n : Nat} : ∃ t, execTcgenJam who n s = .next t ∧ Evolves (.gens :: raiseParts) s t :=
  ⟨_, rfl, refl.doAct refl.jamDue⟩

theorem jamAt (h : Evolves P s t) {n : Nat} {j : Int} (hc : Within (.counter :: .gens :: raiseParts) P := by decide +kernel) :
    Evolves P s (t.jamAt n j) :=
  h.trans hc (by unfold State.jamAt; exact refl.reach.jam.judgeDate)

theorem execTcJamApply_evolves {n : Fin 2} : ∃ t, execTcJamApply n s = .next t ∧ Evolves (.counter :: .gens :: raiseParts) s t := by
  unfold execTcJamApply
  dsimp only
  refine ⟨_, rfl, ?_⟩
  exact refl.when_ (by split; exacts [refl.setGen.jamAt, .ite refl.jamAt .refl])

theorem execJamArm_evolves {n : Fin 2} {transition : Bool} : ∃ t, execJamArm n transition s = .next t ∧ Evolves [.gens] s t :=
  ⟨_, rfl, refl.when_ refl.setGen⟩

theorem execDailyJam_evolves {n : Fin 2} : ∃ t, execDailyJam n s = .next t ∧ Evolves (.counter :: .gens :: raiseParts) s t :=
  ⟨_, rfl, refl.when_ refl.setGen.jamAt⟩

theorem execGeneratorStart_evolves {g : Gen} : ∃ t, execGeneratorStart g s = .next t ∧ Evolves (.counter :: .gens :: raiseParts) s t := by
  unfold execGeneratorStart
  dsimp only
  refine ⟨_, rfl, ?_⟩
  exact refl.when_ ((by split; exacts [refl.reach.setGen.put1, refl.reach.setGen, (ite refl.reach.setGen.setGen
      refl.reach.setGen).judgeDate, refl.reach.setGen]))

theorem execGeneratorGate_evolves {g : Gen} : ∃ t, execGeneratorGate g s = .next t ∧ Evolves [.gens] s t :=
  ⟨_, rfl, refl.when_ refl.setGen⟩

theorem execGeneratorOutputFault_evolves {g : Gen} {present : Bool} :
    ∃ t, execGeneratorOutputFault g present s = .next t ∧ Evolves raiseParts s t :=
  ⟨_, rfl, refl.when_ (.ite (.ite .refl refl.put1.raise) refl.put1.uncause)⟩

theorem execVideoFormatChange_evolves {n : Fin 8} :
    ∃ t, execVideoFormatChange n s = .next t ∧ Evolves (.counter :: .gens :: raiseParts) s t :=
  ⟨_, rfl, refl.when_ refl.reach.put1.setGen.putGenLehr⟩

theorem execAesGradeChange_evolves {n : Fin 2} : ∃ t, execAesGradeChange n s = .next t ∧ Evolves raiseParts s t :=
  ⟨_, rfl, refl.when_ refl.put1.raise⟩

theorem todSend (h : Evolves P s t) {n : Nat} (hc : Within (.gens :: raiseParts) P := by decide +kernel) : Evolves P s (t.todSend n) :=
  h.trans hc (by unfold State.todSend; exact .ite refl.emit.leaveQuiet.add refl.emit.leaveQuiet.add.judgeDate)

theorem execTodgenMessage_evolves {n : Fin 2} : ∃ t, execTodgenMessage n s = .next t ∧ Evolves (.counter :: .gens :: raiseParts) s t :=
  ⟨_, rfl, refl.when_ (.ite refl.judgeTod refl.reachGrid.todSend)⟩

theorem stepGen (h : Evolves P s t) {g : Nat} (hc : Within (.gens :: raiseParts) P := by decide +kernel) : Evolves P s (t.stepGen g) :=
  h.trans hc (by unfold State.stepGen; exact .ite .refl refl.genRestart)

theorem execVidgenDoStep_evolves {who : Issuer} {n : Nat} : ∃ t, execVidgenDoStep who n s = .next t ∧ Evolves (.gens :: raiseParts) s t :=
  ⟨_, rfl, refl.doAct refl.stepGen⟩

theorem execAudgenDoStep_evolves {who : Issuer} {n : Nat} : ∃ t, execAudgenDoStep who n s = .next t ∧ Evolves (.gens :: raiseParts) s t :=
  ⟨_, rfl, refl.doAct refl.stepGen⟩

theorem execTcgenDoStep_evolves {who : Issuer} {n : Nat} : ∃ t, execTcgenDoStep who n s = .next t ∧ Evolves (.gens :: raiseParts) s t :=
  ⟨_, rfl, refl.doAct refl.stepGen⟩

theorem genAligned (h : Evolves P s t) {g : Nat} (hc : Within (.gens :: raiseParts) P := by decide +kernel) :
    Evolves P s (t.genAligned g) :=
  h.trans hc (by unfold State.genAligned; exact refl.replaceGen)

theorem outAlignedNow (h : Evolves P s t) {n : Nat} (hc : Within (.outs :: raiseParts) P := by decide +kernel) :
    Evolves P s (t.outAlignedNow n) :=
  h.trans hc (by unfold State.outAlignedNow; exact refl.replacePulse)

theorem execStepRestart_evolves {g : LehrSignal} :
    ∃ t, execStepRestart g s = .next t ∧ Evolves (.counter :: .outs :: .gens :: raiseParts) s t := by
  unfold execStepRestart
  refine ⟨_, rfl, ?_⟩
  split
  · exact refl.when_ refl.reach.genAligned
  · exact refl.when_ refl.reachGrid.outAlignedNow

theorem execLehrMovementEnd_evolves {g : LehrSignal} :
    ∃ t, execLehrMovementEnd g s = .next t ∧ Evolves (.counter :: .outs :: .gens :: raiseParts) s t := by
  unfold execLehrMovementEnd
  dsimp only
  refine ⟨_, rfl, ?_⟩
  split
  · exact refl.when_ refl.reach.genAligned
  · exact refl.when_ refl.reachGrid.outAlignedNow

/-! ### Net -/

theorem execPortLinkUp_evolves {p : Fin 4} : ∃ t, execPortLinkUp p s = .next t ∧ Evolves [.attrs, .faults, .store, .net] s t :=
  ⟨_, rfl, refl.when_ refl.setPort.put1.uncause⟩

theorem linkDown (h : Evolves P s t) {p : Nat} {event : Bool} (hc : Within raiseParts P := by decide +kernel) :
    Evolves P s (t.linkDown p event) :=
  h.trans hc (by unfold State.linkDown; exact .ite refl.put1.dropFrames.setPort.raise refl.put1.dropFrames.setPort)

theorem execPortLinkDown_evolves {p : Fin 4} :
    ∃ t, execPortLinkDown p s = .next t ∧ Evolves (.crucible :: .inputs :: .sels :: raiseParts) s t :=
  ⟨_, rfl, refl.when_ (.ite refl.linkDown.loseSignal refl.linkDown)⟩

theorem execPtpReadyAfterLink_evolves {p : Fin 4} : ∃ t, execPtpReadyAfterLink p s = .next t ∧ Evolves [.net] s t :=
  ⟨_, rfl, refl.when_ refl.setPort⟩

theorem nextSeq (h : Evolves P s t) {p k : Nat} (hc : Within [.net] P := by decide +kernel) : Evolves P s ((t.nextSeq p k).2) :=
  h.trans hc (by unfold State.nextSeq; dsimp only; exact refl.setBindRec)

theorem queueFrame (h : Evolves P s t) {p : Nat} {f : TxFrame} (hc : Within [.attrs, .faults, .tm, .store, .net] P := by decide +kernel) :
    Evolves P s (t.queueFrame p f) :=
  h.trans hc (by unfold State.queueFrame; exact refl.setPort.tellDesc)

theorem passDesc (h : Evolves P s t) {p n : Nat} (hc : Within [.attrs, .faults, .tm, .store, .net] P := by decide +kernel) :
    Evolves P s (t.passDesc p n) := by
  refine h.trans hc ?_
  unfold State.passDesc
  dsimp only
  split
  · exact refl.setPort.tellDesc
  · exact refl

theorem admitSend (h : Evolves P s t) {p q : Nat} (hc : Within [.attrs, .faults, .tm, .store, .net] P := by decide +kernel) :
    Evolves P s (t.admitSend p q) := by
  refine h.trans hc ?_
  unfold State.admitSend
  dsimp only
  exact .ite .refl (by split; exacts [refl.setPort.queueFrame, .refl])

theorem execPortSend_evolves {who : Issuer} {queue flags tsOffset domain length launch : Nat} {frame : List Byte} {reachable : Bool} :
    ∃ t, execPortSend who queue flags tsOffset domain length launch frame reachable s = .next t ∧ Evolves raiseParts s t :=
  ⟨_, rfl, refl.act (.ite refl.queueFrame refl.setPort)⟩

theorem execHostq_evolves {who : Issuer} {queue port client policy : Nat} :
    ∃ t, execHostq who queue port client policy s = .next t ∧ Evolves raiseParts s t :=
  ⟨_, rfl, refl.doAct refl.put⟩

theorem enterBuffer (h : Evolves P s t) {p : Nat} {f : TxFrame} (hc : Within raiseParts P := by decide +kernel) :
    Evolves P s (t.enterBuffer p f) := by
  have hlate : ∀ c : Bool, Evolves raiseParts t (if c then t.lateFrame p f else (some f, t)).2 := by
    intro c
    split
    · exact refl.lateFrame
    · exact refl
  refine h.trans hc ?_
  unfold State.enterBuffer
  dsimp only
  split
  · exact (hlate _).setPort.tellDesc
  · exact hlate _

theorem execFrameEnqueue_evolves {p : Fin 4} {cls : FrameClass} : ∃ t, execFrameEnqueue p cls s = .next t ∧ Evolves raiseParts s t := by
  unfold execFrameEnqueue
  dsimp only
  refine ⟨_, rfl, ?_⟩
  split
  · exact refl.when_ (.ite refl.setPort.bump.tellDesc.passDesc (.ite (.ite refl.setPort.enterBuffer.uncause.admitSend
        refl.setPort.enterBuffer.uncause) .refl))
  · exact refl

theorem execCreditsExhausted_evolves {p : Fin 4} {cls : FrameClass} : ∃ t, execCreditsExhausted p cls s = .next t ∧ Evolves raiseParts s t := by
  unfold execCreditsExhausted
  refine ⟨_, rfl, ?_⟩
  split
  · exact refl.when_ refl.raise
  · exact refl

theorem execLaunchGateOpen_evolves {p : Fin 4} : ∃ t, execLaunchGateOpen p s = .next t ∧ Evolves raiseParts s t := by
  refine ⟨_, rfl, ?_⟩
  split
  · refine refl.when_ ?_
    split
    · extract_lets _ u r
      have hr : Evolves raiseParts s r.2 := by
        dsimp only [r]
        split
        · exact refl.setPort
        · exact refl.setPort.lateFrame
      split
      · exact hr.setPort
      · exact hr
    · exact refl
  · exact refl

theorem followUp (h : Evolves P s t) {p : Nat} {f : TxFrame} {departure : Int}
    (hc : Within [.attrs, .faults, .tm, .store, .net] P := by decide +kernel) : Evolves P s (t.followUp p f departure) := by
  refine h.trans hc ?_
  unfold State.followUp
  dsimp only
  split
  · exact .ite refl.queueFrame .refl
  · exact refl.queueFrame
  · exact refl.setBindRec
  · exact refl.setBindRec
  · exact refl

theorem execFrameDeparture_evolves {p : Fin 4} {count vernier : Nat} :
    ∃ t, execFrameDeparture p count vernier s = .next t ∧ Evolves [.attrs, .faults, .tm, .store, .net, .out] s t := by
  unfold execFrameDeparture
  dsimp only
  refine ⟨_, rfl, ?_⟩
  split
  · exact refl.when_ ((ite refl.setPort.emit.bump refl.setPort.emit).tellDesc.passDesc.followUp)
  · exact refl

theorem execFrameTransmitDone_evolves {p : Fin 4} : ∃ t, execFrameTransmitDone p s = .next t ∧ Evolves raiseParts s t := by
  unfold execFrameTransmitDone
  dsimp only
  refine ⟨_, rfl, ?_⟩
  split
  · exact refl.when_ refl.setPort.sendDone
  · exact refl

theorem forwardEvent (h : Evolves P s t) {q : Nat} {kind : TransitKind} {length transport checksum : Nat} {auth : Option AuthTlv} {old
    new : Int}
    (hc : Within [.out] P := by decide +kernel) : Evolves P s (t.forwardEvent q kind length transport checksum auth old new) := by
  refine h.trans hc ?_
  unfold State.forwardEvent
  dsimp only
  split
  · exact refl.emit
  · exact refl.emit

theorem execTransitFrameReceived_evolves {p : Fin 4} {kind : TransitKind} {length : Nat} {fcsOk : Bool} {auth : Option AuthTlv}
    {domainNumber transport residence checksum : Nat} {correction : Int} :
    ∃ t, execTransitFrameReceived p kind length fcsOk auth domainNumber transport residence checksum correction s = .next t ∧
      Evolves raiseParts s t := by
  unfold execTransitFrameReceived
  dsimp only
  refine ⟨_, rfl, ?_⟩
  split
  · exact refl.when_ (.ite refl.bump.raiseOnce (.ite refl.setPort.emit (.ite refl.setPort.bump.raiseOnce.emit refl.setPort.forwardEvent)))
  · exact refl

theorem execArpNdpEchoReceived_evolves {p : Fin 4} {kind : ReplyKind} {vlan : Nat} :
    ∃ t, execArpNdpEchoReceived p kind vlan s = .next t ∧ Evolves [.attrs, .faults, .tm, .store, .net] s t :=
  ⟨_, rfl, refl.when_ (.ite refl.bump (.ite .refl refl.setPort.queueFrame))⟩

theorem execFrameIgnored_evolves {p : Fin 4} : ∃ t, execFrameIgnored p s = .next t ∧ Evolves [.attrs, .store] s t :=
  ⟨_, rfl, refl.when_ refl.bump⟩

theorem execLoadKey_evolves {who : Issuer} {slot spp icvLen keyId key : Nat} :
    ∃ t, execLoadKey who slot spp icvLen keyId key s = .next t ∧ Evolves raiseParts s t :=
  ⟨_, rfl, refl.doAct refl.put.put⟩

theorem eraseSlot (h : Evolves P s t) {k : Nat} (hc : Within [.attrs, .store] P := by decide +kernel) : Evolves P s (t.eraseSlot k) :=
  h.trans hc (by unfold State.eraseSlot; exact refl.put.put)

theorem execEraseKey_evolves {who : Issuer} {slot : Nat} : ∃ t, execEraseKey who slot s = .next t ∧ Evolves raiseParts s t :=
  ⟨_, rfl, refl.doAct (.ite ((refl.forEach (fun _ _ => refl.eraseSlot))) refl.eraseSlot)⟩

theorem sendEsmc (h : Evolves P s t) {p : Nat} {event : Bool} (hc : Within raiseParts P := by decide +kernel) :
    Evolves P s (t.sendEsmc p event) :=
  h.trans hc (by unfold State.sendEsmc; exact (ite .refl refl.put1.raise).queueFrame)

theorem execEsmcInformationPdu_evolves {p : Fin 4} : ∃ t, execEsmcInformationPdu p s = .next t ∧ Evolves raiseParts s t :=
  ⟨_, rfl, refl.when_ refl.sendEsmc⟩

theorem execEsmcEventPdu_evolves {p : Fin 4} : ∃ t, execEsmcEventPdu p s = .next t ∧ Evolves raiseParts s t :=
  ⟨_, rfl, refl.when_ refl.sendEsmc⟩

/-! ### Session -/

theorem sessionFrame (h : Evolves P s t) {n : Nat} {kind : PtpKind} {g : Nat} {log : Int} {duration : Option Nat}
    (hc : Within [.attrs, .faults, .tm, .store, .net] P := by decide +kernel) : Evolves P s (t.sessionFrame n kind g log duration) :=
  h.trans hc (by unfold State.sessionFrame; exact refl.useEntry.nextSeq.queueFrame)

theorem createSession (h : Evolves P s t) {n p k : Nat} {role : SessRole} {st : SessState} {w : Partner} {addrType pick : Nat}
    (hc : Within [.attrs, .faults, .tm, .store, .net] P := by decide +kernel) :
    Evolves P s (t.createSession n p k role st w addrType pick) :=
  h.trans hc (by unfold State.createSession; exact refl.withNet.useEntry.resetEntry.setSess.put1.put1.put1.put1)

theorem freeSession (h : Evolves P s t) {n : Nat} (hc : Within [.attrs, .store, .net] P := by decide +kernel) :
    Evolves P s (t.freeSession n) :=
  h.trans hc (by unfold State.freeSession; exact refl.resetKeys.setSess)

theorem setGrant (h : Evolves P s t) {n g : Nat} {r : GrantRec} (hc : Within [.attrs, .store, .net] P := by decide +kernel) :
    Evolves P s (t.setGrant n g r) :=
  h.trans hc (by unfold State.setGrant; exact refl.setSess.put1)

theorem closeSession (h : Evolves P s t) {n : Nat} (hc : Within [.attrs, .faults, .tm, .store, .net] P := by decide +kernel) :
    Evolves P s (t.closeSession n) :=
  h.trans hc (by unfold State.closeSession; exact (refl.forEach (fun _ _ => refl.sessionFrame)).freeSession)

theorem askGrant (h : Evolves P s t) {n g : Nat} (hc : Within [.attrs, .faults, .tm, .store, .net] P := by decide +kernel) :
    Evolves P s (t.askGrant n g) :=
  h.trans hc (by unfold State.askGrant; exact refl.setGrant.sessionFrame)

theorem execSessionOpen_evolves {who : Issuer} {port slot addrType address pick : Nat} :
    ∃ t, execSessionOpen who port slot addrType address pick s = .next t ∧ Evolves raiseParts s t :=
  ⟨_, rfl, refl.act (.ite refl.finish ((refl.createSession.forEach (fun _ _ => refl.askGrant)).finish))⟩

theorem execSessionClose_evolves {who : Issuer} {session : Nat} : ∃ t, execSessionClose who session s = .next t ∧ Evolves raiseParts s t :=
  ⟨_, rfl, refl.act (.ite refl.finish refl.closeSession.finish)⟩

theorem received (h : Evolves P s t) {p k : Nat} {head : PtpHead} {f : State → State} (hf : Evolves P t (f t))
    (hc : Within raiseParts P := by decide +kernel) : Evolves P s (t.received p k head f) := by
  unfold State.received
  exact .ite h (.ite (h.trans (List.Subset.refl P) hf) (h.trans hc refl.bump.raiseOnce))

theorem countReceived (h : Evolves P s t) {n kind seq : Nat} (hc : Within [.attrs, .tm, .store, .net] P := by decide +kernel) :
    Evolves P s (t.countReceived n kind seq) :=
  h.trans hc (by unfold State.countReceived; exact refl.useEntry.setSess.bump.add)

theorem countFrom (h : Evolves P s t) {p k kind : Nat} {h' : PtpHead} (hc : Within [.attrs, .tm, .store, .net] P := by decide +kernel) :
    Evolves P s (t.countFrom p k kind h') := by
  refine h.trans hc ?_
  unfold State.countFrom
  split
  · exact refl.countReceived
  · exact refl

theorem giveGrant (h : Evolves P s t) {n g : Nat} {log : Int} {duration : Nat}
    (hc : Within [.attrs, .faults, .tm, .store, .net] P := by decide +kernel) : Evolves P s (t.giveGrant n g log duration) :=
  h.trans hc (by unfold State.giveGrant; exact refl.setGrant.put.sessionFrame)

theorem refuseGrant (h : Evolves P s t) {p k : Nat} {to_ : Partner} {g : Nat} {log : Int} (hc : Within raiseParts P := by decide +kernel) :
    Evolves P s (t.refuseGrant p k to_ g log) :=
  h.trans hc (by unfold State.refuseGrant; exact refl.bump.raiseOnce.nextSeq.queueFrame)

theorem execGrantRequestReceived_evolves {p : Fin 4} {slot : Fin 32} {head : PtpHead} {type : GrantType} {log : Int}
    {duration pick : Nat} : ∃ t, execGrantRequestReceived p slot head type log duration pick s = .next t ∧ Evolves raiseParts s t := by
  refine ⟨_, rfl, refl.when_ (refl.received ?_)⟩
  dsimp only
  split
  · exact refl.countReceived.giveGrant
  · split
    · exact refl.createSession.countReceived.giveGrant
    · exact refl.refuseGrant
  · exact refl.refuseGrant

theorem endGrant (h : Evolves P s t) {n g : Nat} (hc : Within [.attrs, .faults, .tm, .store, .net] P := by decide +kernel) :
    Evolves P s (t.endGrant n g) := by
  refine h.trans hc ?_
  unfold State.endGrant
  refine ite ?_ ?_
  · exact .ite refl.setGrant refl.setGrant.put1.askGrant
  · exact .ite refl.setGrant refl.setGrant.freeSession

theorem execCancelReceived_evolves {session : Fin 16384} {type : GrantType} :
    ∃ t, execCancelReceived session type s = .next t ∧ Evolves [.attrs, .faults, .tm, .store, .net] s t :=
  ⟨_, rfl, refl.when_ refl.bump.sessionFrame.endGrant⟩

theorem execGrantExpiry_evolves {session : Fin 16384} {type : GrantType} :
    ∃ t, execGrantExpiry session type s = .next t ∧ Evolves [.counter, .attrs, .faults, .tm, .store, .net] s t := by
  unfold execGrantExpiry
  refine ⟨_, rfl, ?_⟩
  split
  · exact refl.when_ refl.advance.endGrant
  · exact refl

theorem judgeGrantee (h : Evolves P s t) {n : Nat} (hc : Within [.attrs, .store] P := by decide +kernel) :
    Evolves P s (t.judgeGrantee n) :=
  h.trans hc (by unfold State.judgeGrantee; exact .ite refl.put1 .refl)

theorem execGrantReceived_evolves {session : Fin 16384} {type : GrantType} {log : Int} {duration : Nat} :
    ∃ t, execGrantReceived session type log duration s = .next t ∧ Evolves [.attrs, .store, .net] s t :=
  ⟨_, rfl, refl.when_ (.ite refl.bump.bump ((ite refl.bump.bump refl.bump).setGrant.put.judgeGrantee))⟩

theorem execGrantRetryTimeout_evolves {session : Fin 16384} {type : GrantType} :
    ∃ t, execGrantRetryTimeout session type s = .next t ∧ Evolves [.counter, .attrs, .faults, .tm, .store, .net] s t :=
  ⟨_, rfl, refl.when_ (.ite refl.advance.setGrant.bump.sessionFrame refl.advance.setGrant.bump.put1)⟩

theorem execBackoffEnd_evolves {session : Fin 16384} {type : GrantType} :
    ∃ t, execBackoffEnd session type s = .next t ∧ Evolves [.counter, .attrs, .faults, .tm, .store, .net] s t :=
  ⟨_, rfl, refl.when_ refl.advance.put1.askGrant⟩

theorem execGrantRenew_evolves {session : Fin 16384} {type : GrantType} :
    ∃ t, execGrantRenew session type s = .next t ∧ Evolves [.counter, .attrs, .faults, .tm, .store, .net] s t :=
  ⟨_, rfl, refl.when_ refl.advance.put1.askGrant⟩

theorem execPortBind_evolves {who : Issuer} {port slot entry : Nat} :
    ∃ t, execPortBind who port slot entry s = .next t ∧ Evolves raiseParts s t :=
  ⟨_, rfl, refl.doAct refl.put.setBindRec.put⟩

theorem execPortUnbind_evolves {who : Issuer} {port slot : Nat} : ∃ t, execPortUnbind who port slot s = .next t ∧ Evolves raiseParts s t :=
  ⟨_, rfl, refl.doAct refl.setBindRec⟩

theorem execPortUnbindApply_evolves {p : Fin 4} {slot : Fin 32} :
    ∃ t, execPortUnbindApply p slot s = .next t ∧ Evolves [.attrs, .faults, .tm, .store, .net] s t :=
  ⟨_, rfl, refl.when_ ((refl.forEach (fun _ _ => refl.closeSession)).put.setBindRec.put.enforceLimit)⟩

/-! ### Ptp -/

theorem learnPartner (h : Evolves P s t) {p k : Nat} {w : Partner} (hc : Within [.net] P := by decide +kernel) :
    Evolves P s (t.learnPartner p k w) := by
  refine h.trans hc ?_
  unfold State.learnPartner
  dsimp only
  split
  · exact .ite refl.setSess .refl
  · exact refl

theorem execAnnounceReceived_evolves {p : Fin 4} {slot : Fin 32} {head : PtpHead} {fields : AnnounceFields} :
    ∃ t, execAnnounceReceived p slot head fields s = .next t ∧ Evolves (.doms :: .sels :: .gens :: raiseParts) s t := by
  unfold execAnnounceReceived
  refine ⟨_, rfl, ?_⟩
  exact refl.when_ ((refl.received (.ite (.ite (((ite refl.learnPartner.countFrom.setBindRec.setBindRec.setQualified
      refl.learnPartner.countFrom.setBindRec.setBindRec).forEach (fun _ _ => refl.learnUtc))) (.ite
      refl.learnPartner.countFrom.setBindRec.setBindRec.setQualified refl.learnPartner.countFrom.setBindRec.setBindRec))
      refl.learnPartner.countFrom.setBindRec)))

theorem measured (h : Evolves P s t) {p k : Nat} {r : BindRec} (hc : Within [.attrs, .store, .net] P := by decide +kernel) :
    Evolves P s (t.measured p k r) := by
  refine h.trans hc ?_
  unfold State.measured
  dsimp only
  split
  · split
    · exact refl.setBindRec.put1.put1
    · exact refl.setBindRec
  · exact refl.setBindRec

theorem execSyncReceived_evolves {p : Fin 4} {slot : Fin 32} {head : PtpHead} {twoStep : Bool} {count vernier : Nat} {origin correction :
    Int} :
    ∃ t, execSyncReceived p slot head twoStep count vernier origin correction s = .next t ∧ Evolves raiseParts s t :=
  ⟨_, rfl, refl.when_ ((refl.received (.ite (.ite refl.countFrom.setBindRec refl.countFrom.measured) refl.countFrom)))⟩

theorem execFollowUpReceived_evolves {p : Fin 4} {slot : Fin 32} {head : PtpHead} {origin correction : Int} :
    ∃ t, execFollowUpReceived p slot head origin correction s = .next t ∧ Evolves raiseParts s t := by
  unfold execFollowUpReceived
  dsimp only
  refine ⟨_, rfl, ?_⟩
  exact refl.when_ ((refl.received (by split; exacts [.ite refl.measured .refl, .refl])))

theorem execDelayRespReceived_evolves {p : Fin 4} {slot : Fin 32} {head : PtpHead} {receive correction : Int} :
    ∃ t, execDelayRespReceived p slot head receive correction s = .next t ∧ Evolves raiseParts s t := by
  unfold execDelayRespReceived
  dsimp only
  refine ⟨_, rfl, ?_⟩
  exact refl.when_ ((refl.received (by split; exacts [.ite refl.countFrom.measured refl.countFrom, refl.countFrom])))

theorem execPdelayRespReceived_evolves {p : Fin 4} {slot : Fin 32} {head : PtpHead} {count vernier : Nat} {request response : Int} :
    ∃ t, execPdelayRespReceived p slot head count vernier request response s = .next t ∧ Evolves raiseParts s t := by
  unfold execPdelayRespReceived
  dsimp only
  refine ⟨_, rfl, ?_⟩
  exact refl.when_ ((refl.received (by split; exacts [.ite refl.measured .refl, .refl])))

theorem respond (h : Evolves P s t) {p : Nat} {f : TxFrame} (hc : Within raiseParts P := by decide +kernel) :
    Evolves P s (t.respond p f) :=
  h.trans hc (by unfold State.respond; exact .ite refl.bump.raiseOnce refl.setPort.queueFrame)

theorem execDelayReqReceived_evolves {p : Fin 4} {slot : Fin 32} {head : PtpHead} {unicast : Bool} {count vernier : Nat} {correction :
    Int} :
    ∃ t, execDelayReqReceived p slot head unicast count vernier correction s = .next t ∧ Evolves raiseParts s t := by
  unfold execDelayReqReceived
  dsimp only
  refine ⟨_, rfl, ?_⟩
  exact refl.when_ ((refl.received (.ite .refl (.ite refl.respond (by split; exacts [.ite refl.countReceived.queueFrame .refl, .refl])))))

theorem execPdelayReqReceived_evolves {p : Fin 4} {slot : Fin 32} {head : PtpHead} {count vernier : Nat} {correction : Int} :
    ∃ t, execPdelayReqReceived p slot head count vernier correction s = .next t ∧ Evolves raiseParts s t :=
  ⟨_, rfl, refl.when_ ((refl.received (.ite refl.respond .refl)))⟩

theorem execManagementReceived_evolves {p : Fin 4} {slot : Fin 32} {head : PtpHead} {action : MgmtAction} {id : MgmtId} :
    ∃ t, execManagementReceived p slot head action id s = .next t ∧ Evolves raiseParts s t :=
  ⟨_, rfl, refl.when_ ((refl.received (.ite refl.bump refl.queueFrame)))⟩

theorem execPtpMessageSend_evolves {p : Fin 4} {slot : Fin 32} {session : Option (Fin 16384)} {kind : PtpKind} {launch : Option (Fin 512
    × Int)} :
    ∃ t, execPtpMessageSend p slot session kind launch s = .next t ∧ Evolves [.attrs, .faults, .tm, .store, .net] s t :=
  ⟨_, rfl, refl.when_ refl.nextSeq.queueFrame⟩

theorem setPortState (h : Evolves P s t) {p k x : Nat} (hc : Within raiseParts P := by decide +kernel) :
    Evolves P s (t.setPortState p k x) :=
  h.trans hc (by unfold State.setPortState; exact .ite .refl refl.setBindRec.put.raise)

theorem execAnnounceReceiptTimeout_evolves {p : Fin 4} {slot : Fin 32} :
    ∃ t, execAnnounceReceiptTimeout p slot s = .next t ∧ Evolves (.counter :: .doms :: .sels :: raiseParts) s t :=
  ⟨_, rfl, refl.when_ refl.advance.setBindRec.raise.setQualified.setDom⟩

/-! ### Bmca -/

theorem follow (h : Evolves P s t) {p k : Nat} {f : Foreign} (hc : Within [.net] P := by decide +kernel) : Evolves P s (t.follow p k f) :=
  h.trans hc (by unfold State.follow; exact .ite .refl refl.setBindRec)

theorem unfollow (h : Evolves P s t) {p k : Nat} (hc : Within [.net] P := by decide +kernel) : Evolves P s (t.unfollow p k) :=
  h.trans hc (by unfold State.unfollow; exact refl.setBindRec)

theorem applyBmca (h : Evolves P s t) {d p k : Nat} {r : Recommended} (hc : Within raiseParts P := by decide +kernel) :
    Evolves P s (t.applyBmca d p k r) := by
  refine h.trans hc ?_
  unfold State.applyBmca
  dsimp only
  exact setPortState (by split; exacts [.refl, .ite refl.unfollow refl.follow, refl.unfollow])

theorem execBmcaPass_evolves {d : Fin 512} : ∃ t, execBmcaPass d s = .next t ∧ Evolves (.doms :: .sels :: raiseParts) s t :=
  ⟨_, rfl, refl.when_ (.ite ((refl.foldl fun _ _ => refl.applyBmca).setQualified) (refl.foldl fun _ _ => refl.applyBmca))⟩

/-! ### Tic -/

theorem assignRoutes (h : Evolves P s t) (hc : Within [.repair] P := by decide +kernel) : Evolves P s (t.assignRoutes) :=
  h.trans hc (by unfold State.assignRoutes; exact refl.withRepair)

theorem statistic (h : Evolves P s t) {n : Nat} {value : Int} {flags newest : Nat}
    (hc : Within [.attrs, .store, .tics] P := by decide +kernel) : Evolves P s (t.statistic n value flags newest) :=
  h.trans hc (by unfold State.statistic; exact .ite refl.setTic (.ite refl.setTic refl.setTic.put1))

theorem sample (h : Evolves P s t) {n : Nat} {raw : TicRaw}
    (hc : Within [.attrs, .faults, .tm, .store, .tics, .freeCount] P := by decide +kernel) : Evolves P s (t.sample n raw) :=
  h.trans hc (by unfold State.sample; exact (ite refl.spend .refl).setTic.put1.put1.tmWrite.statistic)

theorem raw (h : Evolves P s t) {n : Nat} {value : Int} {first newest : Nat}
    (hc : Within [.attrs, .faults, .tm, .store, .tics, .freeCount] P := by decide +kernel) : Evolves P s (t.raw n value first newest) :=
  h.trans hc (by unfold State.raw; exact refl.setTic.sample)

theorem openStart (h : Evolves P s t) {n : Nat} {a : TicPoint} (hc : Within [.attrs, .store, .tics] P := by decide +kernel) :
    Evolves P s (t.openStart n a) :=
  h.trans hc (by unfold State.openStart; exact .ite refl.setTic refl.setTic.bump)

theorem stop (h : Evolves P s t) {n : Nat} {b : TicPoint}
    (hc : Within [.attrs, .faults, .tm, .store, .tics, .freeCount] P := by decide +kernel) : Evolves P s (t.stop n b) := by
  refine h.trans hc ?_
  unfold State.stop
  dsimp only
  split
  · exact refl.setTic.raw
  · exact refl.bump

theorem ticStamp (h : Evolves P s t) {n : Nat} {x : TicStamp}
    (hc : Within [.attrs, .faults, .tm, .store, .tics, .freeCount] P := by decide +kernel) : Evolves P s (t.ticStamp n x) := by
  refine h.trans hc ?_
  unfold State.ticStamp
  dsimp only
  split
  · exact .ite ((ite refl.setTic.bump .refl).stop) ((ite refl.setTic.bump .refl).openStart)
  · refine ite ?_ ?_
    · exact .ite (.ite refl.setTic.bump .refl) ((ite refl.setTic.bump .refl).raw)
    · exact .ite ((ite refl.setTic.bump .refl).stop) ((ite refl.setTic.bump .refl).openStart)
  · refine ite ?_ ?_
    · exact .ite refl.setTic.bump .refl
    · split
      · exact (ite refl.setTic.bump .refl).setTic.raw
      · exact (ite refl.setTic.bump .refl).setTic

theorem execTicRawMeasurement_evolves {n : Fin 12} {stamps : List TicStamp} :
    ∃ t, execTicRawMeasurement n stamps s = .next t ∧ Evolves [.attrs, .faults, .tm, .store, .tics, .freeCount] s t :=
  ⟨_, rfl, refl.when_ (refl.foldl fun _ _ => refl.ticStamp)⟩

theorem execTicWindowClose_evolves {n : Fin 12} : ∃ t, execTicWindowClose n s = .next t ∧ Evolves [.counter, .attrs, .store, .tics] s t := by
  unfold execTicWindowClose
  dsimp only
  refine ⟨_, rfl, ?_⟩
  exact refl.when_ ((setTic (by split; exacts [refl.advance, .refl])).bump)

theorem clearTic (h : Evolves P s t) {n : Nat} (hc : Within [.attrs, .tm, .store] P := by decide +kernel) : Evolves P s (t.clearTic n) :=
  h.trans hc (by unfold State.clearTic; exact (refl.withTm (Memory.wf_keep _)).put1.put1.put1.put1)

theorem startTic (h : Evolves P s t) {n : Nat} (hc : Within [.attrs, .tm, .store, .tics] P := by decide +kernel) :
    Evolves P s (t.startTic n) :=
  h.trans hc (by unfold State.startTic; exact refl.clearTic.put1.put1.setTic)

theorem execTicRestart_evolves {who : Issuer} {tic : Nat} : ∃ t, execTicRestart who tic s = .next t ∧ Evolves (.tics :: raiseParts) s t :=
  ⟨_, rfl, refl.doAct refl.clearTic.setTic⟩

theorem finishRead (h : Evolves P s t) {who : Issuer} {opcode inst : Nat} {buf : HostBuf} {size : Nat} {slot : Nat → Nat} {oldest past
    first count : Nat}
    (hc : Within bookParts P := by decide +kernel) : Evolves P s (t.finishRead who opcode inst buf size slot oldest past first count) := by
  refine h.trans hc ?_
  unfold State.finishRead
  refine ite ?_ ?_
  · exact (refl.forEach (fun _ _ => refl.findCheck)).finish
  · exact (refl.forEach (fun _ _ => refl.findCheck)).writeResult.finish

theorem execTicRead_evolves {who : Issuer} {tic count first : Nat} {buf : HostBuf} :
    ∃ t, execTicRead who tic count first buf s = .next t ∧ Evolves raiseParts s t :=
  ⟨_, rfl, refl.act refl.finishRead⟩

/-! ### Repair -/

theorem recordRepair (h : Evolves P s t) {kind cluster phys channel replacement cause : Nat}
    (hc : Within raiseParts P := by decide +kernel) : Evolves P s (t.recordRepair kind cluster phys channel replacement cause) := by
  refine h.trans hc ?_
  unfold State.recordRepair
  split
  · exact refl.put.enforceLimit
  · exact refl.raise

theorem loseMessages (h : Evolves P s t) {serves : Nat → Bool} {lost : List Nat} (hc : Within [.attrs, .store] P := by decide +kernel) :
    Evolves P s (t.loseMessages serves lost) :=
  h.trans hc (by unfold State.loseMessages; exact refl.forEach (fun _ _ => refl.bump))

theorem shedSessions (h : Evolves P s t) {k : Nat} (hc : Within [.attrs, .faults, .tm, .store, .net] P := by decide +kernel) :
    Evolves P s (State.shedSessions k t) := by
  induction k generalizing t with
  | zero => exact h
  | succ k ih =>
    unfold State.shedSessions
    refine .ite h ?_
    split
    · exact ih (h.trans hc refl.closeSession)
    · exact h

theorem afterFall (h : Evolves P s t) {before : Nat} (hc : Within raiseParts P := by decide +kernel) : Evolves P s (t.afterFall before) := by
  refine h.trans hc ?_
  unfold State.afterFall
  refine ite ?_ ?_
  · exact (refl.shedSessions.forEach (fun _ _ => .ite .refl refl.raise)).raise
  · exact refl.shedSessions.forEach (fun _ _ => .ite .refl refl.raise)

theorem loseEngine (h : Evolves P s t) {c e cause : Nat} {domains : List Nat}
    (hc : Within (.repair :: .pmcs :: raiseParts) P := by decide +kernel) : Evolves P s (t.loseEngine c e cause domains) :=
  h.trans hc (by unfold State.loseEngine; exact refl.settleSlots.setCluster.recordRepair.raise.afterFall)

theorem execEngineFailure_evolves {c : Fin 16} {e : Fin 8} {detector : EngineDetector} {lost : List (Fin 16384)} :
    ∃ t, execEngineFailure c e detector lost s = .next t ∧ Evolves (.repair :: .pmcs :: raiseParts) s t :=
  ⟨_, rfl, refl.when_ (.ite refl.loseMessages.settleSlots.setCluster refl.loseMessages.loseEngine)⟩

theorem execSpareRepairComplete_evolves {c : Fin 16} {testPassed : Bool} :
    ∃ t, execSpareRepairComplete c testPassed s = .next t ∧ Evolves (.repair :: .pmcs :: raiseParts) s t := by
  unfold execSpareRepairComplete
  dsimp only
  refine ⟨_, rfl, ?_⟩
  split
  · exact refl.when_ (.ite refl.settleSlots.setCluster.recordRepair.raise refl.settleSlots.setCluster.raise.loseEngine)
  · exact refl

theorem execClusterLost_evolves {c : Fin 16} {lost : List (Fin 16384)} :
    ∃ t, execClusterLost c lost s = .next t ∧ Evolves (.repair :: .pmcs :: raiseParts) s t :=
  ⟨_, rfl, refl.when_ refl.loseMessages.settleSlots.setCluster.recordRepair.raise.afterFall⟩

theorem moveSession (h : Evolves P s t) {m : Fin 16384 × Fin 16 × Fin 8} (hc : Within [.attrs, .store] P := by decide +kernel) :
    Evolves P s (t.moveSession m) :=
  h.trans hc (by unfold State.moveSession; exact .ite refl.put1 .refl)

theorem execRebalanceComplete_evolves {c : Fin 16} {moves : List (Fin 16384 × Fin 16 × Fin 8)} :
    ∃ t, execRebalanceComplete c moves s = .next t ∧ Evolves (.doms :: raiseParts) s t :=
  ⟨_, rfl, refl.when_ (((refl.foldl fun _ _ => refl.moveSession).forEach (fun _ _ => refl.placeTasks)).bump.raise)⟩

theorem execVernierBackgroundLoop_evolves {deviations : List (Fin 48 × Nat)} :
    ∃ t, execVernierBackgroundLoop deviations s = .next t ∧ Evolves [.repair] s t :=
  ⟨_, rfl, refl.when_ ((refl.forEach (fun _ _ => .ite .refl refl.setChannel)))⟩

theorem execChannelReplaced_evolves {ch : Fin 48} : ∃ t, execChannelReplaced ch s = .next t ∧ Evolves (.tics :: .repair :: raiseParts) s t := by
  unfold execChannelReplaced
  dsimp only
  refine ⟨_, rfl, ?_⟩
  exact refl.when_ ((by split; exacts [(refl.withRepair.setChannel.recordRepair.raise.forEach (fun _ _ => refl.setTic)),
      refl.setChannel.recordRepair.raise]))

/-! ### Faults -/

theorem ackSource (h : Evolves P s t) {ev : Nat} (hc : Within [.faults] P := by decide +kernel) : Evolves P s (t.ackSource ev) :=
  h.trans hc (by unfold State.ackSource; exact .ite refl.setLatch .refl)

theorem execFaultAck_evolves {who : Issuer} {source : Nat} : ∃ t, execFaultAck who source s = .next t ∧ Evolves raiseParts s t :=
  ⟨_, rfl, refl.doAct ((refl.forEach (fun _ _ => refl.ackSource)))⟩

theorem clearSource (h : Evolves P s t) {ev : Nat} (hc : Within (.outs :: .gens :: raiseParts) P := by decide +kernel) :
    Evolves P s (t.clearSource ev) := by
  refine h.trans hc ?_
  unfold State.clearSource
  refine ite ?_ ?_
  · exact ((refl.setLatch.forEach (fun _ _ => .ite refl.linkDown .refl)).forEach (fun _ _ => refl.setOutp)).forEach (fun _ _ =>
        refl.setGen)
  · exact refl

theorem clearSources (h : Evolves P s t) {evs : List Nat} (hc : Within (.outs :: .gens :: raiseParts) P := by decide +kernel) :
    Evolves P s (t.clearSources evs).1 := by
  induction evs generalizing t with
  | nil => exact h
  | cons ev evs ih =>
    unfold State.clearSources
    split
    · exact h
    · exact ih (h.trans hc refl.clearSource)

theorem execFaultClear_evolves {who : Issuer} {source : Nat} :
    ∃ t, execFaultClear who source s = .next t ∧ Evolves (.outs :: .gens :: raiseParts) s t :=
  ⟨_, rfl, refl.act refl.clearSources.finish⟩

theorem inject (h : Evolves P s t) {checker bits target : Nat} (hc : Within raiseParts P := by decide +kernel) :
    Evolves P s (t.inject checker bits target) := by
  refine h.trans hc ?_
  unfold State.inject
  dsimp only
  split
  · exact refl.setFrame
  · exact refl.withFaults.raise
  · exact refl.withFaults

theorem execFaultInject_evolves {who : Issuer} {checker bits target : Nat} :
    ∃ t, execFaultInject who checker bits target s = .next t ∧ Evolves raiseParts s t :=
  ⟨_, rfl, refl.doAct refl.inject⟩

theorem execInjectCauseEnd_evolves : ∃ t, execInjectCauseEnd s = .next t ∧ Evolves [.counter, .faults] s t := by
  unfold execInjectCauseEnd
  dsimp only
  refine ⟨_, rfl, ?_⟩
  split
  · exact refl.advance.withFaults.uncause
  · exact refl

theorem execFaultList_evolves {who : Issuer} {first count : Nat} {buf : HostBuf} :
    ∃ t, execFaultList who first count buf s = .next t ∧ Evolves raiseParts s t :=
  ⟨_, rfl, refl.act refl.writeResult.finish⟩

theorem execSramScrub_evolves {array : Fin 20} {bits : Fin 3} : ∃ t, execSramScrub array bits s = .next t ∧ Evolves raiseParts s t := by
  refine ⟨_, rfl, refl.when_ ?_⟩
  have hinj : Evolves raiseParts s ((s.takeInjection 1 array.val).getD (bits.val, s)).2 :=
    (refl.injected (checker := 1) (target := array.val)).congr (by unfold State.injected; cases s.takeInjection 1 array.val <;> rfl)
  dsimp only
  split
  · exact hinj
  · exact hinj.raiseOnce
  · exact hinj.raise

theorem execCountWindowClose_evolves {source : Fin 640} : ∃ t, execCountWindowClose source s = .next t ∧ Evolves [.counter, .faults] s t := by
  unfold execCountWindowClose
  dsimp only
  refine ⟨_, rfl, ?_⟩
  split
  · exact refl.advance.setLatch
  · exact refl

theorem execAliveFeedMissed_evolves : ∃ t, execAliveFeedMissed s = .next t ∧ Evolves (.counter :: raiseParts) s t :=
  ⟨_, rfl, refl.when_ refl.advance.withFaults.raise⟩

theorem feedAlive (h : Evolves P s t) (hc : Within [.faults] P := by decide +kernel) : Evolves P s (t.feedAlive) :=
  h.trans hc (by unfold State.feedAlive; exact refl.withFaults.uncause)

theorem nextMs (h : Evolves P s t) (hc : Within [.counter] P := by decide +kernel) : Evolves P s (t.nextMs) :=
  h.trans hc (by unfold State.nextMs; exact refl.advance)

theorem execAliveToggle_evolves : ∃ t, execAliveToggle s = .next t ∧ Evolves [.counter, .faults] s t :=
  ⟨_, rfl, .ite ((ite refl.feedAlive .refl).nextMs.withFaults) (.ite refl.feedAlive .refl)⟩

theorem execTempAlert_evolves {reading : Int} : ∃ t, execTempAlert reading s = .next t ∧ Evolves (.boot :: raiseParts) s t :=
  ⟨_, rfl, refl.when_ (.ite refl.withBoot.raise refl.withBoot.uncause)⟩

/-! ### Pmc -/

theorem pmcChanged (h : Evolves P s t) {c k : Nat} (hc : Within [.pmcs] P := by decide +kernel) : Evolves P s (t.pmcChanged c k) :=
  h.trans hc (by unfold State.pmcChanged; exact refl.setPmc)

theorem execPmcSample_evolves {c : Fin 16} {k e : Fin 8} {kernel : Bool} {domain : Option (Fin 512)} {iaddr : Nat} :
    ∃ t, execPmcSample c k e kernel domain iaddr s = .next t ∧ Evolves [.attrs, .store, .pmcs] s t :=
  ⟨_, rfl, refl.when_ refl.put.add.setPmc⟩

theorem execPmcWrap_evolves {c : Fin 16} {which : Fin 12} : ∃ t, execPmcWrap c which s = .next t ∧ Evolves [.pmcs] s t :=
  ⟨_, rfl, refl.when_ refl.setPmc⟩

/-! ### Limits -/

theorem written (h : Evolves P s t) {w : Write} (hc : Within [.attrs, .store] P := by decide +kernel) : Evolves P s (t.written w) :=
  h.trans hc (by unfold State.written; exact refl.putList)

theorem portOn (h : Evolves P s t) {p : Nat} (hc : Within raiseParts P := by decide +kernel) : Evolves P s (t.portOn p) :=
  h.trans hc (by unfold State.portOn; exact .ite refl.raise .refl)

/-! ### Selector -/

theorem applyList (h : Evolves P s t) {n : Nat} (hc : Within [.attrs, .sels, .store] P := by decide +kernel) :
    Evolves P s (t.applyList n) := by
  refine h.trans hc ?_
  unfold State.applyList
  dsimp only
  split
  · exact refl
  · split
    · exact (ite refl.putList.put1.setSel (by split; exacts [refl.putList.put1.setSel.put1, refl.putList.put1.setSel])).put1
    · refine ite ?_ ?_
      · exact refl.putList.put1.setSel
      · split
        · exact refl.putList.put1.setSel.put1
        · exact refl.putList.put1.setSel

theorem noReference (h : Evolves P s t) {n : Nat} (hc : Within (.sels :: .dplls :: raiseParts) P := by decide +kernel) :
    Evolves P s (t.noReference n) :=
  h.trans hc (by unfold State.noReference; exact (ite refl.setSel.put1.put1 refl.setSel.put1.put1.raise).dpllDisconnect)

theorem connect (h : Evolves P s t) {n k cause : Nat} {phase : Int}
    (hc : Within (.doms :: .sels :: .dplls :: raiseParts) P := by decide +kernel) : Evolves P s (t.connect n k cause phase) := by
  refine h.trans hc ?_
  unfold State.connect
  dsimp only
  split
  · exact refl
  · exact refl.setSel.put1.put1.bump.put1.uncause.raise.dpllConnect

theorem stay (h : Evolves P s t) {n k : Nat} {phase : Int} (hc : Within (.doms :: .sels :: .dplls :: raiseParts) P := by decide +kernel) :
    Evolves P s (t.stay n k phase) := by
  refine h.trans hc ?_
  unfold State.stay
  dsimp only
  split
  · exact .ite refl.setSel.put1.put1.setDpll refl.setSel.put1.put1.dpllConnect
  · exact refl.setSel.put1.put1

theorem takeMate (h : Evolves P s t) {n : Nat} {phase : Int} (hc : Within (.doms :: .sels :: .dplls :: raiseParts) P := by decide +kernel) :
    Evolves P s (t.takeMate n phase) := by
  refine h.trans hc ?_
  unfold State.takeMate
  refine ite ?_ ?_
  · exact refl.noReference
  · exact .ite refl.put1.setDpll refl.setSel.put1.put1.bump.put1.uncause.raise.dpllConnect

theorem takeChoice (h : Evolves P s t) {n : Nat} {byCommand lostByCommand fromHold : Bool} {phase : Int}
    (hc : Within (.doms :: .sels :: .dplls :: raiseParts) P := by decide +kernel) :
    Evolves P s (t.takeChoice n byCommand lostByCommand fromHold phase) := by
  refine h.trans hc ?_
  unfold State.takeChoice
  refine ite ?_ ?_
  · exact refl.takeMate
  · split
    · exact refl.noReference
    · split
      · exact .ite refl.stay refl.connect
      · exact refl.connect

theorem judgeDegraded (h : Evolves P s t) {n : Nat} (hc : Within (.sels :: raiseParts) P := by decide +kernel) :
    Evolves P s (t.judgeDegraded n) :=
  h.trans hc (by unfold State.judgeDegraded; exact .ite .refl (.ite refl.setSel.uncause refl.setSel.raise))

theorem applyChanges (h : Evolves P s t) {n : Nat} (hc : Within [.attrs, .sels, .store] P := by decide +kernel) :
    Evolves P s (t.applyChanges n) :=
  h.trans hc (by unfold State.applyChanges; exact refl.applyList.setSel)

theorem enterHoldOff (h : Evolves P s t) {n : Nat} (hc : Within [.attrs, .sels, .dplls, .store] P := by decide +kernel) :
    Evolves P s (t.enterHoldOff n) :=
  h.trans hc (by unfold State.enterHoldOff; exact refl.setSel.put1.setDpll)

theorem decide_ (h : Evolves P s t) {n : Nat} {phase : Int} (hc : Within (.doms :: .sels :: .dplls :: raiseParts) P := by decide +kernel) :
    Evolves P s (t.decide_ n phase) := by
  refine h.trans hc ?_
  unfold State.decide_
  dsimp only
  refine ite ?_ ?_
  · split
    · exact .ite refl.applyChanges.takeChoice refl.applyChanges
    · exact .ite refl.applyChanges.enterHoldOff refl.applyChanges.takeChoice
    · exact refl.applyChanges.takeChoice
  · refine judgeDegraded ?_
    split
    · exact .ite refl.applyChanges.takeChoice refl.applyChanges
    · exact .ite refl.applyChanges.enterHoldOff refl.applyChanges.takeChoice
    · exact refl.applyChanges.takeChoice

theorem selDisable (h : Evolves P s t) {n : Nat} (hc : Within (.sels :: .dplls :: raiseParts) P := by decide +kernel) :
    Evolves P s (t.selDisable n) :=
  h.trans hc (by unfold State.selDisable; exact refl.setSel.put1.put1.uncause.uncause.dpllDisconnect)

theorem selCommand (h : Evolves P s t) {before : State} {n c : Nat} (hc : Within [.sels] P := by decide +kernel) :
    Evolves P s (t.selCommand before n c) :=
  h.trans hc (by unfold State.selCommand; exact refl.setSel)

theorem execSelectorDecision_evolves {n : Fin 16} {phase : Int} :
    ∃ t, execSelectorDecision n phase s = .next t ∧ Evolves (.doms :: .sels :: .dplls :: raiseParts) s t :=
  ⟨_, rfl, refl.when_ (.ite refl.decide_ refl.applyChanges)⟩

theorem execWtrExpiry_evolves {n : Fin 16} {index : Fin 24} : ∃ t, execWtrExpiry n index s = .next t ∧ Evolves [.counter, .sels] s t := by
  unfold execWtrExpiry
  dsimp only
  refine ⟨_, rfl, ?_⟩
  split
  · split
    · exact refl.when_ refl.setSel.advance
    · exact refl
  · exact refl

theorem execHoldOffExpiry_evolves {n : Fin 16} {phase : Int} :
    ∃ t, execHoldOffExpiry n phase s = .next t ∧ Evolves (.counter :: .doms :: .sels :: .dplls :: raiseParts) s t :=
  ⟨_, rfl, refl.when_ refl.advance.applyChanges.takeChoice.judgeDegraded⟩

theorem execSetCandidates_evolves {who : Issuer} {selector : Nat} {entries : List Nat} :
    ∃ t, execSetCandidates who selector entries s = .next t ∧ Evolves (.sels :: raiseParts) s t :=
  ⟨_, rfl, refl.doAct refl.setSel.selCommand⟩

theorem execSelect_evolves {who : Issuer} {selector mode index : Nat} :
    ∃ t, execSelect who selector mode index s = .next t ∧ Evolves (.sels :: raiseParts) s t :=
  ⟨_, rfl, refl.doAct refl.put1.put1.selCommand⟩

theorem execLockout_evolves {who : Issuer} {selector index on : Nat} :
    ∃ t, execLockout who selector index on s = .next t ∧ Evolves (.sels :: raiseParts) s t :=
  ⟨_, rfl, refl.doAct refl.put.selCommand⟩

theorem execClearWtr_evolves {who : Issuer} {selector index : Nat} :
    ∃ t, execClearWtr who selector index s = .next t ∧ Evolves (.sels :: raiseParts) s t := by
  unfold execClearWtr
  dsimp only
  refine ⟨_, rfl, ?_⟩
  exact refl.doAct (.ite refl.setSel (by split; exacts [refl.setSel, .refl]))

theorem execAlign_evolves {who : Issuer} {selector : Nat} : ∃ t, execAlign who selector s = .next t ∧ Evolves (.dplls :: raiseParts) s t :=
  ⟨_, rfl, refl.doAct refl.put1.addMove⟩

/-! ### Mailbox -/

theorem sendMsix (h : Evolves P s t) {v' : Nat} (hc : Within [.host, .out] P := by decide +kernel) : Evolves P s (t.sendMsix v') :=
  h.trans hc (by unfold State.sendMsix; exact .ite refl.withHost refl.emit)

theorem notify (h : Evolves P s t) {c : Nat} {evt : Bool} (hc : Within [.host, .out] P := by decide +kernel) :
    Evolves P s (t.notify c evt) :=
  h.trans hc (by unfold State.notify; exact .ite ((ite refl.setRing.withHost refl.setRing).sendMsix) .refl)

theorem deactivate (h : Evolves P s t) {c : Nat} (hc : Within [.faults, .host] P := by decide +kernel) : Evolves P s (t.deactivate c) :=
  h.trans hc (by unfold State.deactivate; exact refl.setRing.withFaults)

theorem execCmdPiWrite_evolves {client : Fin 512} {value : Nat} : ∃ t, execCmdPiWrite client value s = .next t ∧ Evolves raiseParts s t :=
  ⟨_, rfl, refl.when_ (.ite refl.setRing.raise refl.setRing)⟩

theorem execCplCiWrite_evolves {client : Fin 512} {value : Nat} : ∃ t, execCplCiWrite client value s = .next t ∧ Evolves raiseParts s t :=
  ⟨_, rfl, refl.when_ (.ite refl.setRing.raise refl.setRing)⟩

theorem execEvtCiWrite_evolves {client : Fin 512} {value : Nat} : ∃ t, execEvtCiWrite client value s = .next t ∧ Evolves raiseParts s t :=
  ⟨_, rfl, refl.when_ (.ite refl.setRing.raise refl.setRing)⟩

theorem execRingEnable_evolves {client : Fin 512} {cfg : Nat} : ∃ t, execRingEnable client cfg s = .next t ∧ Evolves raiseParts s t :=
  ⟨_, rfl, refl.when_ (.ite refl.setRing (.ite refl.setRing.raise (.ite refl.setRing.raise refl.setRing)))⟩

theorem disableRing (h : Evolves P s t) {c : Nat} (hc : Within [.host] P := by decide +kernel) : Evolves P s (t.disableRing c) :=
  h.trans hc (by unfold State.disableRing; exact refl.setRing)

theorem execRingDisable_evolves {client : Fin 512} {cfg : Nat} : ∃ t, execRingDisable client cfg s = .next t ∧ Evolves [.host] s t :=
  ⟨_, rfl, refl.when_ (.ite refl.disableRing refl.setRing)⟩

theorem execRingDrained_evolves {client : Fin 512} : ∃ t, execRingDrained client s = .next t ∧ Evolves [.faults, .host] s t :=
  ⟨_, rfl, refl.when_ refl.deactivate⟩

theorem execIrqArmWrite_evolves {client : Fin 512} {value : Nat} : ∃ t, execIrqArmWrite client value s = .next t ∧ Evolves [.host] s t :=
  ⟨_, rfl, refl.when_ refl.setRing⟩

theorem execEvtLostRead_evolves {client : Fin 512} : ∃ t, execEvtLostRead client s = .next t ∧ Evolves [.host, .out] s t :=
  ⟨_, rfl, refl.when_ refl.setRing.emit⟩

theorem execIntStatusWrite_evolves {client : Fin 512} {value : Nat} :
    ∃ t, execIntStatusWrite client value s = .next t ∧ Evolves [.host] s t :=
  ⟨_, rfl, refl.when_ refl.withHost⟩

theorem execAliveFeedWrite_evolves {client : Fin 512} : ∃ t, execAliveFeedWrite client s = .next t ∧ Evolves [.faults, .host] s t :=
  ⟨_, rfl, refl.when_ refl.withFaultsHost.uncause⟩

theorem execHostFeedTimeout_evolves : ∃ t, execHostFeedTimeout s = .next t ∧ Evolves (.counter :: raiseParts) s t :=
  ⟨_, rfl, refl.when_ refl.advance.withFaults.raise⟩

theorem execTwBaseWrite_evolves {client : Fin 512} {high : Bool} {value : Nat} :
    ∃ t, execTwBaseWrite client high value s = .next t ∧ Evolves [.host] s t :=
  ⟨_, rfl, refl.when_ (.ite refl.withHost .refl)⟩

theorem execMsixUnmask_evolves {vector : Fin 64} : ∃ t, execMsixUnmask vector s = .next t ∧ Evolves [.host, .out] s t :=
  ⟨_, rfl, refl.when_ (.ite refl.withHost.emit refl.withHost)⟩

theorem writeMsix (h : Evolves P s t) {v' k value : Nat} (hc : Within [.host] P := by decide +kernel) :
    Evolves P s (t.writeMsix v' k value) :=
  h.trans hc (by unfold State.writeMsix; exact .ite (.ite refl.withHost .refl) refl.withHost)

theorem writeAliveCfg (h : Evolves P s t) {value : Nat} (hc : Within [.faults, .host] P := by decide +kernel) :
    Evolves P s (t.writeAliveCfg value) :=
  h.trans hc (by unfold State.writeAliveCfg; exact .ite refl.withHost refl.withHost.withFaults.uncause)

theorem execRegisterWrite_evolves {bar4 : Bool} {offset value : Nat} {aligned : Bool} :
    ∃ t, execRegisterWrite bar4 offset value aligned s = .next t ∧ Evolves [.faults, .host] s t :=
  ⟨_, rfl, refl.when_ (.ite (.ite refl.writeMsix .refl) (.ite refl.withHost (.ite refl.writeAliveCfg refl.setRing)))⟩

theorem capture (h : Evolves P s t) {block client value : Nat} (hc : Within [.host] P := by decide +kernel) :
    Evolves P s (t.capture block client value) :=
  h.trans hc (by unfold State.capture; exact refl.withHost)

theorem execTlCtrlWrite_evolves {client : Fin 512} {value : Nat} : ∃ t, execTlCtrlWrite client value s = .next t ∧ Evolves [.host] s t :=
  ⟨_, rfl, refl.when_ refl.capture⟩

theorem rejectEntry (h : Evolves P s t) {who : Issuer} {opcode slot code : Nat} (hc : Within raiseParts P := by decide +kernel) :
    Evolves P s (t.rejectEntry who opcode slot code) := by
  refine h.trans hc ?_
  unfold State.rejectEntry
  refine ite ?_ ?_
  · exact (ite refl.audit .refl).withHost.bump.raiseOnce
  · refine ite ?_ ?_
    · exact (ite refl.audit .refl).withHost.pointerFault
    · exact (ite refl.audit .refl).withHost

theorem hadTurn (h : Evolves P s t) {c : Nat} (hc : Within [.host] P := by decide +kernel) : Evolves P s (t.hadTurn c) :=
  h.trans hc (by unfold State.hadTurn; exact refl.withHost)

theorem fetch (h : Evolves P s t) {c : Fin 512} {entry : List Byte} {payload : Option (List Byte)} {entryReachable : Bool}
    (hc : Within raiseParts P := by decide +kernel) : Evolves P s (t.fetch c entry payload entryReachable) := by
  refine h.trans hc ?_
  have hinj : Evolves raiseParts t (match (if (Entry.ofBytes entry).crc then t.takeInjection 2 c.val else none) with
      | some x => x.2
      | none => t) := by
    have htake : ∀ x, t.takeInjection 2 c.val = some x → Evolves raiseParts t x.2 := fun x hx =>
      (refl.injected (checker := 2) (target := c.val)).congr (by simp [State.injected, hx])
    split
    · next x hx =>
      split at hx
      · exact htake x hx
      · cases hx
    · exact refl
  unfold State.fetch
  refine .ite refl.setRing.raise ?_
  dsimp only
  split
  · exact hinj.setRing.withHost.rejectEntry
  · exact hinj.setRing.withHost

theorem execCommandFetch_evolves {client : Fin 512} {entry : List Byte} {payload : Option (List Byte)} {entryReachable : Bool} :
    ∃ t, execCommandFetch client entry payload entryReachable s = .next t ∧ Evolves raiseParts s t := by
  unfold execCommandFetch
  refine ⟨_, rfl, ?_⟩
  exact refl.when_ (.ite refl.setRing.raiseOnce (.ite (.ite .refl refl.setRing.bump.raiseOnce) (.ite refl.fetch.hadTurn .refl)))

theorem served (h : Evolves P s t) {ns : Nat} (hc : Within [.host] P := by decide +kernel) : Evolves P s (t.served ns) :=
  h.trans hc (by unfold State.served; exact refl.withHost)

theorem returnTag (h : Evolves P s t) {c tag : Nat} (hc : Within [.host] P := by decide +kernel) : Evolves P s (t.returnTag c tag) := by
  refine h.trans hc ?_
  unfold State.returnTag
  dsimp only
  split
  · exact refl.withHost
  · exact refl

theorem writeCompletion (h : Evolves P s t) {c : Nat} {d : Done} (hc : Within [.host, .out] P := by decide +kernel) :
    Evolves P s (t.writeCompletion c d) :=
  h.trans hc (by unfold State.writeCompletion; exact refl.setRing.returnTag.emit.notify.served)

theorem completionWaits (h : Evolves P s t) {c : Nat} (hc : Within raiseParts P := by decide +kernel) :
    Evolves P s (t.completionWaits c) := by
  refine h.trans hc ?_
  unfold State.completionWaits
  dsimp only
  split
  · exact refl.setRing
  · exact .ite refl.setRing.raise .refl

theorem execCompletionWrite_evolves {client : Fin 512} {reachable : Bool} :
    ∃ t, execCompletionWrite client reachable s = .next t ∧ Evolves raiseParts s t := by
  unfold execCompletionWrite
  dsimp only
  refine ⟨_, rfl, ?_⟩
  split
  · exact refl.when_ (.ite refl.withHost.returnTag (.ite refl.completionWaits (.ite refl.withHost.setRing.returnTag.raise
        refl.withHost.writeCompletion)))
  · exact refl

theorem putEvent (h : Evolves P s t) {c : Nat} {x : Nat → Bool → Emission} (hc : Within [.host, .out] P := by decide +kernel) :
    Evolves P s (t.putEvent c x) :=
  h.trans hc (by unfold State.putEvent; exact refl.setRing.emit.notify)

theorem eventFault (h : Evolves P s t) {c : Nat} (hc : Within raiseParts P := by decide +kernel) : Evolves P s (t.eventFault c) :=
  h.trans hc (by unfold State.eventFault; exact refl.setRing.raise)

theorem flushLost (h : Evolves P s t) {c : Nat} {reachable : Bool} (hc : Within raiseParts P := by decide +kernel) :
    Evolves P s (t.flushLost c reachable) := by
  refine h.trans hc ?_
  unfold State.flushLost
  refine ite ?_ ?_
  · exact .ite (.ite refl.eventFault refl.putEvent.setRing.raise) .refl
  · exact .ite refl.withHost.raise .refl

theorem deliver (h : Evolves P s t) {x : EventRec} {reachable : Bool} (hc : Within raiseParts P := by decide +kernel) :
    Evolves P s (t.deliver x reachable) := by
  refine h.trans hc ?_
  unfold State.deliver
  refine ite ?_ ?_
  · exact .ite (.ite refl.flushLost.putEvent refl.flushLost.eventFault) refl.flushLost.setRing
  · exact .ite (.ite refl.flushLost.withHost refl.flushLost.withHost) refl.flushLost

theorem logEvent (h : Evolves P s t) {x : EventRec} (hc : Within [.attrs, .faults, .tm, .store] P := by decide +kernel) :
    Evolves P s (t.logEvent x) :=
  h.trans hc (by unfold State.logEvent; exact refl.tmWrite.withTmBytes)

theorem printEvent (h : Evolves P s t) {x : EventRec} (hc : Within [.out] P := by decide +kernel) : Evolves P s (t.printEvent x) :=
  h.trans hc (by unfold State.printEvent; exact refl.emit)

theorem printEvents (h : Evolves P s t) (hc : Within [.host, .out] P := by decide +kernel) : Evolves P s (t.printEvents) :=
  h.trans hc (by unfold State.printEvents; exact .ite .refl (refl.withHost.foldl fun _ _ => refl.printEvent))

theorem tellConsole (h : Evolves P s t) {x : EventRec} (hc : Within [.host, .out] P := by decide +kernel) :
    Evolves P s (t.tellConsole x) :=
  h.trans hc (by unfold State.tellConsole; exact refl.withHost.printEvents)

theorem execEventRecordDelivery_evolves {source : Fin 640} {unreachable : List (Fin 512)} :
    ∃ t, execEventRecordDelivery source unreachable s = .next t ∧ Evolves raiseParts s t := by
  unfold execEventRecordDelivery
  refine ⟨_, rfl, ?_⟩
  exact refl.when_ ((refl.withFaults.foldl fun _ _ => .ite (.ite refl.deliver.logEvent.tellConsole refl.deliver.logEvent) refl.deliver))

theorem execEventOverflowRecord_evolves {client : Fin 512} {reachable : Bool} :
    ∃ t, execEventOverflowRecord client reachable s = .next t ∧ Evolves raiseParts s t :=
  ⟨_, rfl, refl.when_ refl.flushLost⟩

theorem setSpi (h : Evolves P s t) {p : SpiUnit} (hc : Within [.host] P := by decide +kernel) : Evolves P s (t.setSpi p) :=
  h.trans hc (by unfold State.setSpi; exact refl.withHost)

theorem spiError (h : Evolves P s t) (hc : Within raiseParts P := by decide +kernel) : Evolves P s (t.spiError) :=
  h.trans hc (by unfold State.spiError; exact refl.bump.raiseOnce)

theorem spiPut (h : Evolves P s t) {a : Nat} {b : Byte} (hc : Within [.host] P := by decide +kernel) : Evolves P s (t.spiPut a b) :=
  h.trans hc (by unfold State.spiPut; exact .ite refl.setSpi (.ite refl.setSpi .refl))

theorem spiPuts (h : Evolves P s t) {a : Nat} {bs : List Byte}
    (hc : Within [.host] P := by decide +kernel) : Evolves P s (t.spiPuts a bs) := by
  induction bs generalizing t a with
  | nil => exact h
  | cons b bs ih => exact ih (h.spiPut hc)

theorem spiSubmit (h : Evolves P s t) (hc : Within raiseParts P := by decide +kernel) : Evolves P s (t.spiSubmit) := by
  refine h.trans hc ?_
  unfold State.spiSubmit
  dsimp only
  exact refl.when_ (.ite refl.spiError (by split; exacts [refl.setSpi.rejectEntry, refl.setSpi]))

theorem execSpiGo_evolves : ∃ t, execSpiGo s = .next t ∧ Evolves raiseParts s t :=
  ⟨_, rfl, refl.when_ refl.spiSubmit⟩

theorem spiPop (h : Evolves P s t) (hc : Within [.host] P := by decide +kernel) : Evolves P s (t.spiPop) :=
  h.trans hc (by unfold State.spiPop; exact refl.setSpi)

theorem execSpiEvtPop_evolves : ∃ t, execSpiEvtPop s = .next t ∧ Evolves [.host] s t :=
  ⟨_, rfl, refl.when_ refl.spiPop⟩

theorem spiCtrl (h : Evolves P s t) {b : Byte} (hc : Within raiseParts P := by decide +kernel) : Evolves P s (t.spiCtrl b) :=
  h.trans hc (by unfold State.spiCtrl; exact .ite ((ite refl.spiSubmit .refl).spiPop) (.ite refl.spiSubmit .refl))

theorem execSpiWrite_evolves {address : Nat} {bytes : List Byte} : ∃ t, execSpiWrite address bytes s = .next t ∧ Evolves raiseParts s t := by
  unfold execSpiWrite
  refine ⟨_, rfl, ?_⟩
  exact refl.when_ (.ite ((ite ((ite (.ite refl.spiError .refl) refl.spiPuts).spiCtrl) (.ite (.ite refl.spiError .refl)
      refl.spiPuts)).capture) (.ite ((ite (.ite refl.spiError .refl) refl.spiPuts).spiCtrl) (.ite (.ite refl.spiError .refl)
      refl.spiPuts)))

theorem execSpiRead_evolves {address count : Nat} : ∃ t, execSpiRead address count s = .next t ∧ Evolves [.out] s t :=
  ⟨_, rfl, refl.when_ refl.emit⟩

theorem execSpiCommandDone_evolves : ∃ t, execSpiCommandDone s = .next t ∧ Evolves [.host] s t := by
  unfold execSpiCommandDone
  dsimp only
  refine ⟨_, rfl, ?_⟩
  split
  · exact refl.when_ refl.setSpi.withHost.served
  · exact refl

theorem hostReset (h : Evolves P s t) (hc : Within raiseParts P := by decide +kernel) : Evolves P s (t.hostReset) :=
  h.trans hc (by unfold State.hostReset; exact refl.withFaultsHost.uncause.raise)

theorem execPerstNAsserted_evolves : ∃ t, execPerstNAsserted s = .next t ∧ Evolves raiseParts s t :=
  ⟨_, rfl, refl.when_ refl.hostReset⟩

theorem execPcieHotReset_evolves : ∃ t, execPcieHotReset s = .next t ∧ Evolves raiseParts s t :=
  ⟨_, rfl, refl.when_ refl.hostReset⟩

theorem execPcieFlr_evolves : ∃ t, execPcieFlr s = .next t ∧ Evolves raiseParts s t :=
  ⟨_, rfl, refl.when_ refl.hostReset⟩

theorem execPcieLinkDown_evolves : ∃ t, execPcieLinkDown s = .next t ∧ Evolves raiseParts s t :=
  ⟨_, rfl, refl.when_ refl.raise⟩

theorem execPcieCorrectableErrors_evolves : ∃ t, execPcieCorrectableErrors s = .next t ∧ Evolves raiseParts s t :=
  ⟨_, rfl, refl.when_ refl.raiseOnce⟩

theorem execPcieUncorrectableError_evolves : ∃ t, execPcieUncorrectableError s = .next t ∧ Evolves raiseParts s t :=
  ⟨_, rfl, refl.when_ refl.raise⟩

/-! ### Store -/

theorem setRunning (h : Evolves P s t) {l : List Txn} (hc : Within [.store] P := by decide +kernel) : Evolves P s (t.setRunning l) :=
  h.trans hc (by unfold State.setRunning; exact refl.withStore)

theorem queueTxn (h : Evolves P s t) {way : StoreWay} {pages : List Nat} (hc : Within [.store] P := by decide +kernel) :
    Evolves P s (t.queueTxn way pages) := by
  refine h.trans hc ?_
  unfold State.queueTxn
  dsimp only
  split
  · exact refl.withStore.setRunning
  · exact refl.withStore.setRunning

theorem endTxn (h : Evolves P s t) {t' : Txn} (hc : Within raiseParts P := by decide +kernel) : Evolves P s (t.endTxn t') := by
  refine h.trans hc ?_
  unfold State.endTxn
  dsimp only
  split
  · exact .ite ((ite .refl refl.put1).finish) ((ite .refl refl.put1).finish.raise)
  · exact .ite (.ite .refl refl.put1) ((ite .refl refl.put1).withStore)
  · exact .ite .refl refl.put1

theorem pageDone (h : Evolves P s t) {p : Nat} {failed : Bool} (hc : Within raiseParts P := by decide +kernel) :
    Evolves P s (t.pageDone p failed) := by
  refine h.trans hc ?_
  unfold State.pageDone
  dsimp only
  split
  · exact .ite refl.setRunning.endTxn refl.setRunning
  · exact refl

theorem pageStored (h : Evolves P s t) {p : Nat} (hc : Within raiseParts P := by decide +kernel) : Evolves P s (t.pageStored p) := by
  refine h.trans hc ?_
  unfold State.pageStored
  dsimp only
  split
  · exact (ite refl.storePage refl.programPage).pageDone
  · exact refl

theorem pageFailed (h : Evolves P s t) {p : Nat} (hc : Within raiseParts P := by decide +kernel) : Evolves P s (t.pageFailed p) := by
  refine h.trans hc ?_
  unfold State.pageFailed
  refine ite ?_ ?_
  · exact refl.setPage.noteWear.setPage
  · refine ite ?_ ?_
    · refine ite ?_ ?_
      · exact refl.setPage.noteWear.setPage.withStore.raise
      · exact refl.setPage.noteWear.setPage.withStore
    · exact refl.setPage.noteWear.setPage.raise.pageDone

theorem programResult (h : Evolves P s t) {p : Nat} {verified : Bool} (hc : Within raiseParts P := by decide +kernel) :
    Evolves P s (t.programResult p verified) :=
  h.trans hc (by unfold State.programResult; exact .ite refl.pageStored refl.pageFailed)

theorem execSlotEraseComplete_evolves {page : Fin 1024} : ∃ t, execSlotEraseComplete page s = .next t ∧ Evolves [.store] s t :=
  ⟨_, rfl, refl.when_ refl.setPage⟩

theorem execBackgroundStore_evolves {page : Fin 1024} : ∃ t, execBackgroundStore page s = .next t ∧ Evolves [.counter, .store] s t :=
  ⟨_, rfl, refl.when_ ((ite .refl refl.advance).queueTxn)⟩

theorem captureTime (h : Evolves P s t) (hc : Within [.store] P := by decide +kernel) : Evolves P s (t.captureTime) :=
  h.trans hc (by unfold State.captureTime; exact refl.withStore)

theorem execTimeRecordStore_evolves : ∃ t, execTimeRecordStore s = .next t ∧ Evolves [.counter, .store] s t :=
  ⟨_, rfl, refl.when_ refl.advance.captureTime.queueTxn⟩

theorem execStoreCommit_evolves {who : Issuer} {first count : Nat} :
    ∃ t, execStoreCommit who first count s = .next t ∧ Evolves raiseParts s t :=
  ⟨_, rfl, refl.act (.ite refl.finish.raise refl.queueTxn)⟩

theorem startPowerFail (h : Evolves P s t) (hc : Within (.boot :: raiseParts) P := by decide +kernel) : Evolves P s (t.startPowerFail) :=
  h.trans hc (by unfold State.startPowerFail; exact refl.withBoot.setRunning.captureTime.queueTxn.withStore.raise)

theorem execPfNAsserted_evolves : ∃ t, execPfNAsserted s = .next t ∧ Evolves (.boot :: raiseParts) s t :=
  ⟨_, rfl, refl.when_ (.ite refl.withBoot refl.withBoot.startPowerFail)⟩

theorem execVmainBelowThreshold_evolves : ∃ t, execVmainBelowThreshold s = .next t ∧ Evolves (.boot :: raiseParts) s t :=
  ⟨_, rfl, refl.when_ (.ite refl.withBoot refl.withBoot.startPowerFail)⟩

theorem resumeSupply (h : Evolves P s t) (hc : Within [.faults, .boot] P := by decide +kernel) : Evolves P s (t.resumeSupply) :=
  h.trans hc (by unfold State.resumeSupply; exact refl.withBoot.uncause)

theorem drainStore (h : Evolves P s t) {n : Nat}
    (hc : Within (.boot :: raiseParts) P := by decide +kernel) : Evolves P s (State.drainStore n t) := by
  induction n generalizing t with
  | zero => exact h
  | succ n ih =>
    unfold State.drainStore
    split
    · exact h
    · split
      · exact ih (h.pageStored (List.Subset.trans (by decide +kernel) hc))
      · exact h

theorem execPowerFailStoreComplete_evolves {durationUs : Nat} :
    ∃ t, execPowerFailStoreComplete durationUs s = .next t ∧ Evolves (.counter :: .boot :: raiseParts) s t :=
  ⟨_, rfl, refl.when_ (.ite refl.advance.drainStore.withStore.resumeSupply refl.advance.drainStore.withStore)⟩

theorem execSupplyRestored_evolves : ∃ t, execSupplyRestored s = .next t ∧ Evolves [.faults, .boot] s t :=
  ⟨_, rfl, refl.when_ (.ite refl.withBoot.withBoot refl.withBoot.resumeSupply)⟩

theorem measureHoldup (h : Evolves P s t) {ms : Nat} (hc : Within raiseParts P := by decide +kernel) : Evolves P s (t.measureHoldup ms) :=
  h.trans hc (by unfold State.measureHoldup; exact .ite refl.withStore.put1.put1.raise refl.withStore.put1.put1)

theorem execHoldupMeasure_evolves {ms : Nat} : ∃ t, execHoldupMeasure ms s = .next t ∧ Evolves (.counter :: raiseParts) s t :=
  ⟨_, rfl, refl.when_ refl.advance.measureHoldup⟩

theorem execOvenHours_evolves : ∃ t, execOvenHours s = .next t ∧ Evolves [.attrs, .faults, .store] s t :=
  ⟨_, rfl, refl.when_ ((refl.forEach (fun _ _ => refl.add)).enforceLimit)⟩

/-! ### Mate -/

theorem setMate (h : Evolves P s t) {m : MateUnit} (hc : Within [.mate] P := by decide +kernel) : Evolves P s (t.setMate m) :=
  h.trans hc (by unfold State.setMate; exact refl.withMate)

theorem mateEvent (h : Evolves P s t) {ev : Nat} {cause : Bool} (hc : Within raiseParts P := by decide +kernel) :
    Evolves P s (t.mateEvent ev cause) :=
  h.trans hc (by unfold State.mateEvent; exact refl.raise)

theorem redecide (h : Evolves P s t) (hc : Within [.sels] P := by decide +kernel) : Evolves P s (t.redecide) :=
  h.trans hc (by unfold State.redecide; exact refl.forEach (fun _ _ => refl.selCommand))

theorem startTracking (h : Evolves P s t) (hc : Within [.attrs, .sels, .store, .mate] P := by decide +kernel) :
    Evolves P s (t.startTracking) :=
  h.trans hc (by unfold State.startTracking; exact refl.setMate.put1.redecide)

theorem endTracking (h : Evolves P s t) (hc : Within [.attrs, .sels, .store, .mate] P := by decide +kernel) :
    Evolves P s (t.endTracking) :=
  h.trans hc (by unfold State.endTracking; exact .ite refl.setMate.put1.redecide .refl)

theorem becomeStandby (h : Evolves P s t) (hc : Within (.sels :: .mate :: raiseParts) P := by decide +kernel) :
    Evolves P s (t.becomeStandby) :=
  h.trans hc (by unfold State.becomeStandby; exact .ite refl.setMate.put1.mateEvent.startTracking refl.setMate.put1.mateEvent)

theorem claimRole (h : Evolves P s t) (hc : Within [.mate] P := by decide +kernel) : Evolves P s (t.claimRole) :=
  h.trans hc (by unfold State.claimRole; exact refl.setMate)

theorem decideRole (h : Evolves P s t) (hc : Within (.sels :: .mate :: raiseParts) P := by decide +kernel) : Evolves P s (t.decideRole) := by
  refine h.trans hc ?_
  unfold State.decideRole
  refine ite ?_ ?_
  · exact refl.setMate.put1
  · refine ite ?_ ?_
    · exact refl.setMate.put1.becomeStandby
    · exact .ite refl.setMate.put1.claimRole refl.setMate.put1.setMate

theorem execRoleClaimTimeout_evolves : ∃ t, execRoleClaimTimeout s = .next t ∧ Evolves (.counter :: .sels :: .mate :: raiseParts) s t :=
  ⟨_, rfl, refl.when_ (.ite refl.advance.becomeStandby refl.advance.claimRole)⟩

theorem execRoleActRaise_evolves : ∃ t, execRoleActRaise s = .next t ∧ Evolves (.counter :: .sels :: .mate :: raiseParts) s t := by
  unfold execRoleActRaise
  dsimp only
  refine ⟨_, rfl, ?_⟩
  exact refl.when_ ((endTracking (by split; exacts [refl.advance.setMate.put1.setMate.mateEvent, refl.advance.setMate.put1])))

theorem withdraw (h : Evolves P s t) (hc : Within (.sels :: .mate :: raiseParts) P := by decide +kernel) : Evolves P s (t.withdraw) :=
  h.trans hc (by unfold State.withdraw; exact .ite refl.setMate.put1 refl.becomeStandby)

theorem bothClaim (h : Evolves P s t) (hc : Within (.sels :: .mate :: raiseParts) P := by decide +kernel) : Evolves P s (t.bothClaim) :=
  h.trans hc (by unfold State.bothClaim; exact (ite refl.withdraw .refl).mateEvent)

theorem execChgAckRise_evolves : ∃ t, execChgAckRise s = .next t ∧ Evolves (.sels :: .mate :: raiseParts) s t :=
  ⟨_, rfl, refl.setMate.when_ (.ite refl.bothClaim (.ite refl.becomeStandby .refl))⟩

theorem leaveSleep (h : Evolves P s t) (hc : Within [.attrs, .store, .boot] P := by decide +kernel) : Evolves P s (t.leaveSleep) :=
  h.trans hc (by unfold State.leaveSleep; exact refl.withBoot.put1)

theorem answer (h : Evolves P s t) {who : Option Issuer} {opcode status : Nat} (hc : Within bookParts P := by decide +kernel) :
    Evolves P s (t.answer who opcode status) := by
  refine h.trans hc ?_
  unfold State.answer
  split
  · exact refl.finish
  · exact refl

theorem cancelSleep (h : Evolves P s t) (hc : Within (.mate :: raiseParts) P := by decide +kernel) : Evolves P s (t.cancelSleep) :=
  h.trans hc (by unfold State.cancelSleep; exact refl.setMate.put1.mateEvent.answer)

theorem wakeRequest (h : Evolves P s t) (hc : Within (.boot :: .mate :: raiseParts) P := by decide +kernel) :
    Evolves P s (t.wakeRequest) := by
  refine h.trans hc ?_
  unfold State.wakeRequest
  dsimp only
  refine ite ?_ ?_
  · exact refl.leaveSleep
  · split
    · exact .ite refl.setMate refl.cancelSleep.emit
    · exact refl

theorem trigger (h : Evolves P s t) {k : Nat} (hc : Within (.sels :: .boot :: .mate :: raiseParts) P := by decide +kernel) :
    Evolves P s (t.trigger k) :=
  h.trans hc (by unfold State.trigger; exact (ite refl.setMate.claimRole.bothClaim refl.setMate.claimRole).wakeRequest)

theorem execAliveLost_evolves : ∃ t, execAliveLost s = .next t ∧ Evolves (.sels :: .boot :: .mate :: raiseParts) s t :=
  ⟨_, rfl, refl.setMate.when_ (.ite (.ite .refl refl.trigger) (.ite refl.mateEvent (.ite refl.claimRole .refl)))⟩

theorem execLinkAndAliveLost_evolves : ∃ t, execLinkAndAliveLost s = .next t ∧ Evolves (.sels :: .boot :: .mate :: raiseParts) s t :=
  ⟨_, rfl, refl.when_ refl.setMate.trigger⟩

theorem execRelease_evolves : ∃ t, execRelease s = .next t ∧ Evolves (.sels :: .boot :: .mate :: raiseParts) s t :=
  ⟨_, rfl, refl.setMate.when_ (.ite refl.trigger .refl)⟩

theorem execMateAliveResumed_evolves : ∃ t, execMateAliveResumed s = .next t ∧ Evolves (.sels :: .mate :: raiseParts) s t :=
  ⟨_, rfl, refl.setMate.when_ (.ite refl.uncause.becomeStandby refl.uncause)⟩

theorem adoptDomain (h : Evolves P s t) {localEdge instant : Nat} {e : SnapDomain}
    (hc : Within [.attrs, .doms, .store] P := by decide +kernel) : Evolves P s (t.adoptDomain localEdge instant e) :=
  h.trans hc (by unfold State.adoptDomain; exact .ite refl.setDom.issue .refl)

theorem adoptMeans (h : Evolves P s t) {e : Fin 16 × Int × Int × Int × Nat} (hc : Within [.attrs, .dplls, .store] P := by decide +kernel) :
    Evolves P s (t.adoptMeans e) :=
  h.trans hc (by unfold State.adoptMeans; exact refl.setDpll.put1)

theorem execSnapshotAdoption_evolves {instant : Nat} :
    ∃ t, execSnapshotAdoption instant s = .next t ∧ Evolves (.doms :: .dplls :: .gens :: .mate :: raiseParts) s t := by
  refine ⟨_, rfl, ?_⟩
  split
  · refine refl.when_ ?_
    extract_lets u
    have hu : Evolves (.doms :: .dplls :: .gens :: .mate :: raiseParts) s u := by
      dsimp only [u]
      split
      · exact ((((refl.foldl fun _ _ => refl.adoptDomain).foldl fun _ _ => refl.put.put).foldl fun _ _ => refl.adoptMeans).foldl fun _ _ =>
          refl.setGen).foldl fun _ _ => refl.putGenLehr
      · exact refl
    exact hu.setMate.bump.enforceLimit.put1
  · exact refl

theorem sendSnapshot (h : Evolves P s t) (hc : Within [.faults, .mate, .out] P := by decide +kernel) : Evolves P s t.sendSnapshot := by
  refine h.trans hc ?_
  have hinj : Evolves [.faults, .mate, .out] t (t.injected 4 0) := refl.injected
  unfold State.sendSnapshot
  exact (hinj.congr (by unfold State.injected; split <;> simp_all)).emit.setMate

theorem execSnapshotSend_evolves : ∃ t, execSnapshotSend s = .next t ∧ Evolves [.counter, .faults, .mate, .out] s t :=
  ⟨_, rfl, refl.when_ refl.advance.setMate.sendSnapshot⟩

theorem dropLink (h : Evolves P s t) {state : Int} (hc : Within (.mate :: raiseParts) P := by decide +kernel) :
    Evolves P s (t.dropLink state) := by
  refine h.trans hc ?_
  unfold State.dropLink
  dsimp only
  split
  · refine ite ?_ ?_
    · exact (ite refl.put1.put1.mateEvent refl.put1.put1).cancelSleep
    · exact .ite refl.put1.put1.mateEvent refl.put1.put1
  · exact .ite refl.put1.put1.mateEvent refl.put1.put1

theorem linkError (h : Evolves P s t) (hc : Within (.mate :: raiseParts) P := by decide +kernel) : Evolves P s (t.linkError) :=
  h.trans hc (by unfold State.linkError; exact .ite refl.setMate.bump.put1.mateEvent refl.setMate.bump)

theorem matchSessions (h : Evolves P s t) {p : Snapshot} (hc : Within [.attrs, .store, .net, .mate] P := by decide +kernel) :
    Evolves P s (t.matchSessions p) :=
  h.trans hc (by unfold State.matchSessions; exact refl.setMate.forEach (fun _ _ => refl.freeSession))

theorem labelMates (h : Evolves P s t) (hc : Within [.dplls] P := by decide +kernel) : Evolves P s (t.labelMates) :=
  h.trans hc (by unfold State.labelMates; exact refl.forEach (fun _ _ => refl.labelAtAcquire))

theorem takeSnapshot (h : Evolves P s t) {p : Snapshot} (hc : Within (.dplls :: .mate :: raiseParts) P := by decide +kernel) :
    Evolves P s (t.takeSnapshot p) := by
  refine h.trans hc ?_
  unfold State.takeSnapshot
  exact (ite refl.setMate.put1.uncause.matchSessions.uncause refl.setMate.put1.uncause.matchSessions.mateEvent).labelMates.judgeTrack

theorem execSnapshotReceived_evolves {snap : Snapshot} :
    ∃ t, execSnapshotReceived snap s = .next t ∧ Evolves (.dplls :: .mate :: raiseParts) s t :=
  ⟨_, rfl, refl.when_ (.ite refl.takeSnapshot (.ite refl.bump.raiseOnce refl.bump.raiseOnce.linkError))⟩

theorem execSnapshotStale_evolves : ∃ t, execSnapshotStale s = .next t ∧ Evolves (.counter :: raiseParts) s t := by
  unfold execSnapshotStale
  refine ⟨_, rfl, ?_⟩
  split
  · exact refl.when_ refl.advance.mateEvent.judgeTrack
  · exact refl

theorem execSnapMaxAgeExceeded_evolves : ∃ t, execSnapMaxAgeExceeded s = .next t ∧ Evolves [.counter, .sels] s t := by
  unfold execSnapMaxAgeExceeded
  refine ⟨_, rfl, ?_⟩
  split
  · exact refl.when_ refl.advance.redecide
  · exact refl

theorem mirrorSession (h : Evolves P s t) {n : Nat} {c : SessionCopy}
    (hc : Within [.attrs, .faults, .tm, .store, .net, .mate] P := by decide +kernel) : Evolves P s (t.mirrorSession n c) :=
  h.trans hc (by unfold State.mirrorSession; exact (refl.createSession.forEach (fun _ _ => refl.setGrant)).setMate)

theorem execSessionEntryFetch_evolves {session : Fin 16384} {entry : Option SessionCopy} :
    ∃ t, execSessionEntryFetch session entry s = .next t ∧ Evolves (.mate :: raiseParts) s t := by
  unfold execSessionEntryFetch
  refine ⟨_, rfl, ?_⟩
  exact refl.when_ (by split; exacts [refl.mirrorSession, refl.linkError])

theorem execMateLinkTrained_evolves {peer : MatePeer} :
    ∃ t, execMateLinkTrained peer s = .next t ∧ Evolves (.sels :: .mate :: raiseParts) s t := by
  unfold execMateLinkTrained
  refine ⟨_, rfl, ?_⟩
  exact refl.when_ (.ite (.ite ((ite refl.setMate.put1.put1.put.put.uncause.uncause.mateEvent
      refl.setMate.put1.put1.put.put.uncause.uncause).setMate.put1.startTracking) ((ite
      refl.setMate.put1.put1.put.put.uncause.uncause.mateEvent refl.setMate.put1.put1.put.put.uncause.uncause).setMate.put1)) ((ite
      refl.setMate.put1.put1.put.put.uncause.uncause.mateEvent
      refl.setMate.put1.put1.put.put.uncause.uncause).put1.endTracking.mateEvent))

theorem execMateLinkDown_evolves : ∃ t, execMateLinkDown s = .next t ∧ Evolves (.mate :: raiseParts) s t :=
  ⟨_, rfl, refl.when_ refl.dropLink.uncause⟩

theorem execMateLinkReset_evolves {who : Issuer} : ∃ t, execMateLinkReset who s = .next t ∧ Evolves (.mate :: raiseParts) s t :=
  ⟨_, rfl, refl.doAct refl.dropLink.uncause⟩

theorem startChangeover (h : Evolves P s t) {who : Option Issuer} (hc : Within [.faults, .mate, .out] P := by decide +kernel) :
    Evolves P s (t.startChangeover who) :=
  h.trans hc (by unfold State.startChangeover; exact refl.sendSnapshot.setMate)

theorem execMateChangeover_evolves {who : Issuer} {standbyReady : Bool} :
    ∃ t, execMateChangeover who standbyReady s = .next t ∧ Evolves (.mate :: raiseParts) s t :=
  ⟨_, rfl, refl.act (.ite refl.startChangeover refl.emit.finish)⟩

theorem execChangeoverReceipt_evolves {received : Bool} :
    ∃ t, execChangeoverReceipt received s = .next t ∧ Evolves (.counter :: .sels :: .mate :: raiseParts) s t := by
  unfold execChangeoverReceipt
  dsimp only
  refine ⟨_, rfl, ?_⟩
  split
  · exact refl.when_ ((ite .refl refl.advance).setMate.withdraw.emit.answer)
  · exact refl

theorem proposeSleep (h : Evolves P s t) {who : Option Issuer} (hc : Within [.attrs, .store, .mate, .out] P := by decide +kernel) :
    Evolves P s (t.proposeSleep who) :=
  h.trans hc (by unfold State.proposeSleep; exact refl.setMate.put1.emit)

theorem execMateSleep_evolves {who : Issuer} : ∃ t, execMateSleep who s = .next t ∧ Evolves (.mate :: raiseParts) s t :=
  ⟨_, rfl, refl.act (.ite refl.proposeSleep refl.emit.finish)⟩

theorem execMateWake_evolves {who : Issuer} : ∃ t, execMateWake who s = .next t ∧ Evolves (.boot :: .mate :: raiseParts) s t :=
  ⟨_, rfl, refl.doAct (.ite ((ite refl.put1 .refl).emit) refl.wakeRequest)⟩

theorem execMateRequestReceived_evolves {request : MateRequest} :
    ∃ t, execMateRequestReceived request s = .next t ∧ Evolves (.boot :: .mate :: raiseParts) s t := by
  unfold execMateRequestReceived
  refine ⟨_, rfl, ?_⟩
  exact refl.when_ (by split; exacts [.ite refl.startChangeover .refl, .ite refl.proposeSleep .refl, .ite refl.wakeRequest .refl])

theorem execSleepPropose_evolves : ∃ t, execSleepPropose s = .next t ∧ Evolves [.attrs, .store, .mate, .out] s t :=
  ⟨_, rfl, refl.when_ (.ite refl.setMate.put1.emit refl.emit)⟩

theorem execSleepAnswer_evolves {accept : Bool} {instant : Nat} :
    ∃ t, execSleepAnswer accept instant s = .next t ∧ Evolves (.mate :: raiseParts) s t := by
  unfold execSleepAnswer
  dsimp only
  refine ⟨_, rfl, ?_⟩
  split
  · exact refl.when_ (.ite refl.setMate.put1.emit.mateEvent.answer refl.setMate.put1.answer)
  · exact refl

theorem execSleepCommit_evolves {instant : Nat} : ∃ t, execSleepCommit instant s = .next t ∧ Evolves (.mate :: raiseParts) s t := by
  unfold execSleepCommit
  dsimp only
  refine ⟨_, rfl, ?_⟩
  split
  · exact refl.when_ refl.setMate.put1.mateEvent
  · exact refl

theorem execSleepCancel_evolves : ∃ t, execSleepCancel s = .next t ∧ Evolves (.mate :: raiseParts) s t :=
  ⟨_, rfl, refl.when_ refl.cancelSleep⟩

theorem execSleepEntry_evolves : ∃ t, execSleepEntry s = .next t ∧ Evolves [.counter, .attrs, .store, .boot, .mate] s t := by
  unfold execSleepEntry
  dsimp only
  refine ⟨_, rfl, ?_⟩
  split
  · exact refl.when_ (.ite refl.advance.withBoot refl.advance.setMate.put1)
  · exact refl

theorem execWakeFetchComplete_evolves : ∃ t, execWakeFetchComplete s = .next t ∧ Evolves [.attrs, .store] s t :=
  ⟨_, rfl, refl.when_ refl.put1⟩

theorem sleepTransition (h : Evolves P s t) {power : Nat} (hc : Within (.boot :: .mate :: raiseParts) P := by decide +kernel) :
    Evolves P s (t.sleepTransition power) := by
  refine h.trans hc ?_
  unfold State.sleepTransition
  refine ite ?_ ?_
  · exact .ite refl.setMate.put1.leaveSleep refl.setMate.put1
  · exact .ite (.ite refl.mateEvent.put1 refl.mateEvent) .refl

/-! ### Restore -/

theorem cutProgram (h : Evolves P s t) {t' : Txn} {p : Nat} (hc : Within [.attrs, .faults, .store, .freeCount] P := by decide +kernel) :
    Evolves P s (t.cutProgram t' p) :=
  h.trans hc (by unfold State.cutProgram; exact .ite refl.spend.programPage.withStore refl.spend.programPage.withStore.setPage)

theorem cutStore (h : Evolves P s t) (hc : Within [.attrs, .faults, .store, .freeCount] P := by decide +kernel) :
    Evolves P s (t.cutStore) := by
  refine h.trans hc ?_
  unfold State.cutStore
  dsimp only
  split
  · exact (refl.forEach (fun _ _ => refl.cutProgram)).withStore
  · exact refl

theorem settleTxn (h : Evolves P s t) {t' : Txn} (hc : Within raiseParts P := by decide +kernel) : Evolves P s (t.settleTxn t') := by
  refine h.trans hc ?_
  unfold State.settleTxn
  refine ite ?_ ?_
  · exact refl.forEach (fun _ _ => .ite refl.raise .refl)
  · refine ite ?_ ?_
    · exact refl.forEach (fun _ _ => refl.raise)
    · exact .ite .refl ((refl.forEach (fun _ _ => refl.setPage)).bump.raise)

theorem loadPage (h : Evolves P s t) {p : Nat} {values : Tbl Int} (hc : Within [.attrs, .store] P := by decide +kernel) :
    Evolves P s (t.loadPage p values) :=
  h.trans hc (by unfold State.loadPage; exact refl.withAttrsStore)

theorem restorePage (h : Evolves P s t) {p : Nat} {sram : Bool} (hc : Within raiseParts P := by decide +kernel) :
    Evolves P s (t.restorePage p sram) := by
  refine h.trans hc ?_
  unfold State.restorePage
  dsimp only
  refine ite ?_ ?_
  · split
    · exact refl.setPage
    · exact refl
  · split
    · exact .ite refl.setPage.loadPage.raise refl.setPage.loadPage
    · exact refl.loadPage.withStore.raise

theorem timePage (h : Evolves P s t) {p : Nat} {dirty : Bool} (hc : Within [.store] P := by decide +kernel) :
    Evolves P s (t.timePage p dirty) :=
  h.trans hc (by unfold State.timePage; exact refl.withStore)

theorem restoreTime (h : Evolves P s t) {p : Nat} {sram : Bool} (hc : Within raiseParts P := by decide +kernel) :
    Evolves P s ((t.restoreTime p sram).2) := by
  refine h.trans hc ?_
  unfold State.restoreTime
  dsimp only
  split
  · exact refl
  · split
    · exact .ite refl.setPage.timePage.raise refl.setPage.timePage
    · exact refl.timePage.raise

theorem restoreTimes (h : Evolves P s t) (hc : Within raiseParts P := by decide +kernel) : Evolves P s t.restoreTimes.2 := by
  have hpages : Evolves raiseParts t (timePages.foldl (fun (acc : List (Nat × DomWords) × State) p =>
      (acc.1 ++ (acc.2.restoreTime p (acc.2.fromSram p)).1, (acc.2.restoreTime p (acc.2.fromSram p)).2)) ([], t)).2 :=
    foldlSnd refl fun _ _ => refl.restoreTime
  exact h.trans hc hpages.withStore

theorem judgeFactory (h : Evolves P s t) (hc : Within raiseParts P := by decide +kernel) : Evolves P s (t.judgeFactory) :=
  h.trans hc (by unfold State.judgeFactory; exact refl.forEach (fun _ _ => .ite refl.raise .refl))

theorem restoreStore (h : Evolves P s t) (hc : Within (.boot :: raiseParts) P := by decide +kernel) : Evolves P s ((t.restoreStore).2) := by
  refine h.trans hc ?_
  unfold State.restoreStore
  dsimp only
  exact ((ite ((refl.forEach (fun _ _ => refl.settleTxn))) ((refl.forEach (fun _ _ => refl.settleTxn)).raise)).judgeFactory.forEach (fun
      _ _ => refl.restorePage)).restoreTimes.withStoreBoot

theorem afterPowerOn (h : Evolves P s t) {holdupMs : Nat} (hc : Within raiseParts P := by decide +kernel) :
    Evolves P s (t.afterPowerOn holdupMs) := by
  refine h.trans hc ?_
  unfold State.afterPowerOn
  dsimp only
  exact (storePage (by split; exacts [refl.bump.withStore.put1, refl.bump])).withStore.measureHoldup

theorem startDomains (h : Evolves P s t) {times : List (Nat × Int)} (hc : Within [.doms] P := by decide +kernel) :
    Evolves P s (t.startDomains times) :=
  h.trans hc (by unfold State.startDomains; exact refl.withDoms.forEach (fun _ _ => refl.setDom.setDom))

/-! ### Boot -/

theorem setBoot (h : Evolves P s t) {b : BootUnit} (hc : Within [.boot] P := by decide +kernel) : Evolves P s (t.setBoot b) :=
  h.trans hc (by unfold State.setBoot; exact refl.withBoot)

theorem crucibleAttrs (h : Evolves P s t) (hc : Within [.attrs, .store] P := by decide +kernel) : Evolves P s (t.crucibleAttrs) :=
  h.trans hc (by unfold State.crucibleAttrs; exact refl.putList.put)

/-- A change of any part to a state with no slot armed and no byte listed. -/
theorem withReset (h : Evolves P s t) (hf : t.counter ≤ u.counter := by rfl) (ha : u.arms = [] := by rfl) (hm : u.tm.bytes = [] := by rfl)
    (hc : Within allParts P := by decide +kernel) : Evolves P s u :=
  h.trans hc
    ⟨fun p hp => absurd (by cases p <;> decide +kernel) hp, hf, fun _ => State.armsExclusive_nil ha,
      fun _ => by simp [Memory.wf, hm, tblCanonical, tblSorted]⟩

/-- A reset that leaves the counter does not take it back; the armed slots and the bytes of table memory are gone. -/
theorem cleared (h : Evolves P s t) {powerOn : Bool} {phase : Phase} (hc : Within allParts P := by decide +kernel) :
    Evolves P s (t.cleared powerOn false phase) := by
  refine h.trans hc ?_
  unfold State.cleared
  exact (withReset (t := t.cutStore) refl.cutStore).crucibleAttrs

theorem bootFails (h : Evolves P s t) {k code : Nat} (hc : Within (.boot :: raiseParts) P := by decide +kernel) :
    Evolves P s (t.bootFails k code) :=
  h.trans hc (by unfold State.bootFails; exact .ite refl.setBoot.put1.raise refl.setBoot.put1)

theorem bootLog (h : Evolves P s t) (hc : Within [.attrs, .faults, .tm, .store, .freeCount] P := by decide +kernel) :
    Evolves P s (t.bootLog) :=
  h.trans hc (by unfold State.bootLog; exact refl.spend.tmWrite.withTmBytes)

theorem bootRoot (h : Evolves P s t) (hc : Within [.attrs, .store, .boot] P := by decide +kernel) : Evolves P s ((bootRoot t).1) :=
  h.trans hc (by unfold Machine.bootRoot; dsimp only; exact refl.put1.put1.setBoot)

theorem bootFuse (h : Evolves P s t) (hc : Within [.repair] P := by decide +kernel) : Evolves P s ((bootFuse t).1) :=
  h.trans hc (by unfold Machine.bootFuse; dsimp only; exact refl.withRepair)

theorem bootBist (h : Evolves P s t) (hc : Within [] P := by decide +kernel) : Evolves P s ((bootBist t).1) :=
  h.trans hc (by unfold Machine.bootBist; dsimp only; exact refl)

theorem bootTable (h : Evolves P s t) {us : Nat} (hc : Within [.attrs, .tm, .store] P := by decide +kernel) :
    Evolves P s (bootTable us t).1 :=
  h.trans hc (by unfold Machine.bootTable; exact (refl.withTm fun _ => rfl).put1)

theorem selfTestRecord (h : Evolves P s t) {kind cluster phys channel replacement : Nat}
    (hc : Within [.attrs, .faults, .tm, .store, .repair, .freeCount] P := by decide +kernel) :
    Evolves P s (t.selfTestRecord kind cluster phys channel replacement) :=
  h.trans hc (by unfold State.selfTestRecord; exact refl.spend.withRepair.bootLog)

theorem selfTestEngine (h : Evolves P s t) {failed : List Nat} {x : Nat}
    (hc : Within [.attrs, .faults, .tm, .store, .repair, .freeCount] P := by decide +kernel) : Evolves P s (t.selfTestEngine failed x) := by
  refine h.trans hc ?_
  unfold State.selfTestEngine
  dsimp only
  refine ite ?_ ?_
  · exact refl
  · refine ite ?_ ?_
    · exact refl.setCluster.bootLog
    · refine ite ?_ ?_
      · split
        · exact .ite refl.setCluster.selfTestRecord refl.setCluster.selfTestRecord
        · exact refl.setCluster.selfTestRecord
      · exact refl

theorem bootEngines (h : Evolves P s t) {failed : List Nat}
    (hc : Within [.attrs, .faults, .tm, .store, .repair, .freeCount] P := by decide +kernel) : Evolves P s ((bootEngines failed t).1) :=
  h.trans hc (by unfold Machine.bootEngines; dsimp only; exact refl.forEach (fun _ _ => refl.selfTestEngine))

theorem bootSlot (h : Evolves P s t) {slot : Nat} (hc : Within [.attrs, .store] P := by decide +kernel) : Evolves P s (t.bootSlot slot) :=
  h.trans hc (by unfold State.bootSlot; exact refl.put1.put1.put1.put.put)

theorem bootGaffer (h : Evolves P s t) {env : BootEnv} {named : Nat} (hc : Within (.freeCount :: raiseParts) P := by decide +kernel) :
    Evolves P s ((bootGaffer env named t).1) := by
  refine h.trans hc ?_
  unfold Machine.bootGaffer
  dsimp only
  split
  · exact refl.bootSlot
  · split
    · exact refl.bootSlot.put1.raise.bootLog
    · exact refl

theorem selfTestChannel (h : Evolves P s t) {failed : List Nat} {p : Nat}
    (hc : Within [.attrs, .faults, .tm, .store, .repair, .freeCount] P := by decide +kernel) :
    Evolves P s ((t.selfTestChannel failed p).1) := by
  refine h.trans hc ?_
  unfold State.selfTestChannel
  dsimp only
  split
  · exact .ite refl.withRepair .refl
  · split
    · exact refl.withRepair.setChannel.selfTestRecord
    · exact refl

theorem bootVernier (h : Evolves P s t) {failed : List Nat} (hc : Within (.repair :: .freeCount :: raiseParts) P := by decide +kernel) :
    Evolves P s (bootVernier failed t).1 := by
  refine h.trans hc ?_
  unfold Machine.bootVernier
  exact refl.foldlFst fun _ _ => refl.selfTestChannel

theorem flushRecords (h : Evolves P s t) (hc : Within (.repair :: raiseParts) P := by decide +kernel) : Evolves P s (t.flushRecords) := by
  refine h.trans hc ?_
  unfold State.flushRecords
  dsimp only
  exact (refl.foldl fun _ _ => (by split; exacts [refl.put, refl.raise])).withRepair

theorem afterLoad (h : Evolves P s t) (hc : Within (.repair :: raiseParts) P := by decide +kernel) : Evolves P s (t.afterLoad) :=
  h.trans hc (by unfold State.afterLoad; exact refl.flushRecords.put1)

theorem bootRestore (h : Evolves P s t) {powerOn : Bool} {holdupMs : Nat}
    (hc : Within (.boot :: .repair :: raiseParts) P := by decide +kernel) : Evolves P s ((bootRestore powerOn holdupMs t).1) := by
  refine h.trans hc ?_
  unfold Machine.bootRestore
  dsimp only
  split
  · exact refl
  · exact .ite refl.restoreStore.afterLoad.afterPowerOn refl.restoreStore.afterLoad

theorem bootReload (h : Evolves P s t) (hc : Within (.boot :: .repair :: raiseParts) P := by decide +kernel) :
    Evolves P s ((bootReload t).1) :=
  h.trans hc (by unfold Machine.bootReload; dsimp only; exact refl.restoreTimes.afterLoad.setBoot)

theorem rejectSetting (h : Evolves P s t) {p : Nat → Bool} (hc : Within (.freeCount :: raiseParts) P := by decide +kernel) :
    Evolves P s (t.rejectSetting p) :=
  h.trans hc (by unfold State.rejectSetting; exact refl.resetKeys.bump.raise.bootLog)

theorem checkObject (h : Evolves P s t) {o : Obj} (hc : Within (.freeCount :: raiseParts) P := by decide +kernel) :
    Evolves P s (t.checkObject o) :=
  h.trans hc (by unfold State.checkObject; exact refl.foldl fun _ _ => .ite refl.rejectSetting .refl)

theorem checkExtInput (h : Evolves P s t) (hc : Within (.freeCount :: raiseParts) P := by decide +kernel) :
    Evolves P s (t.checkExtInput) :=
  h.trans hc (by unfold State.checkExtInput; exact .ite refl.rejectSetting .refl)

theorem applySyn (h : Evolves P s t) {n : Nat} (hc : Within (.syns :: .freeCount :: raiseParts) P := by decide +kernel) :
    Evolves P s (t.applySyn n) :=
  h.trans hc (by unfold State.applySyn; exact (ite .refl refl.rejectSetting).setRatio.put1)

theorem applyOutput (h : Evolves P s t) {o : Nat} (hc : Within (.outs :: .freeCount :: raiseParts) P := by decide +kernel) :
    Evolves P s (t.applyOutput o) :=
  h.trans hc (by unfold State.applyOutput; exact (ite .refl refl.rejectSetting).commitOutput)

theorem applyTic (h : Evolves P s t) {n : Nat} (hc : Within (.repair :: .freeCount :: raiseParts) P := by decide +kernel) :
    Evolves P s (t.applyTic n) :=
  h.trans hc (by unfold State.applyTic; exact (ite refl.rejectSetting .refl).assignRoutes)

theorem applyEnables (h : Evolves P s t)
    (hc : Within (.crucible :: .inputs :: .sels :: .gens :: .tics :: raiseParts) P := by decide +kernel) : Evolves P s (t.applyEnables) := by
  refine h.trans hc ?_
  unfold State.applyEnables
  exact (((((refl.forEach (fun _ _ => refl.startInput)).forEach (fun _ _ => refl.selCommand)).forEach (fun _ _ => refl.synOn)).forEach
      (fun _ _ => refl.genArm)).forEach (fun _ _ => refl.portOn)).forEach (fun _ _ => refl.startTic)

theorem applyConfig (h : Evolves P s t)
    (hc : Within (.crucible :: .doms :: .inputs :: .sels :: .syns :: .outs :: .gens :: .tics :: .repair :: .freeCount :: raiseParts) P :=
      by decide +kernel) : Evolves P s (t.applyConfig) := by
  refine h.trans hc ?_
  unfold State.applyConfig
  exact ((((((((refl.foldl fun _ _ => refl.checkObject).checkExtInput.foldl fun _ _ => refl.checkObject).startDomains.forEach (fun _ _ =>
      refl.placeTasks)).forEach (fun _ _ => refl.applySyn)).forEach (fun _ _ => refl.applyOutput)).forEach (fun _ _ => refl.put1)).foldl
      fun _ _ => refl.setBindRec.put).forEach (fun _ _ => refl.applyTic)).applyEnables

theorem freshSlots (h : Evolves P s t) (hc : Within [.pmcs] P := by decide +kernel) : Evolves P s (t.freshSlots) :=
  h.trans hc (by unfold State.freshSlots; exact refl.withPmcs.forEach (fun _ _ => refl.setPmc))

theorem bootEnds (h : Evolves P s t) {cause : Nat} {stepTimes : List Nat}
    (hc : Within (.sels :: .boot :: .pmcs :: .mate :: raiseParts) P := by decide +kernel) : Evolves P s (t.bootEnds cause stepTimes) := by
  refine h.trans hc ?_
  unfold State.bootEnds
  refine ite ?_ ?_
  · exact refl.freshSlots.putList.put1.put1.setBoot.decideRole.startPowerFail
  · exact refl.freshSlots.putList.put1.put1.setBoot.decideRole

theorem stepTook (h : Evolves P s t) {env : BootEnv} {k : Nat} (hc : Within [.counter] P := by decide +kernel) :
    Evolves P s (t.stepTook env k) :=
  h.trans hc (by unfold State.stepTook; exact .ite refl.advance .refl)

/-- Where every step of a list changes only some parts, running the list does so beside the module's start-up record. -/
theorem runSteps (h : Evolves P s t) {env : BootEnv} {l : List (Nat × (State → State × Option Nat))}
    (hf : ∀ x ∈ l, ∀ u, Evolves P u (x.2 u).1) (hc : Within (.counter :: .boot :: raiseParts) P := by decide +kernel) :
    Evolves P s (t.runSteps env l) := by
  induction l generalizing t with
  | nil => exact h
  | cons x l ih =>
    obtain ⟨k, f⟩ := x
    have hnow : Evolves P s (t.stepTook env k) := h.trans hc refl.stepTook
    have hstep : Evolves P s (f (t.stepTook env k)).1 :=
      hnow.trans (List.Subset.refl P) (hf (k, f) (List.mem_cons_self ..) _)
    have hfail : ∀ u c, Evolves P s u → Evolves P s (u.bootFails k c) := fun u c hu => hu.trans hc refl.bootFails
    unfold State.runSteps
    refine .ite (hfail _ _ hnow) ?_
    split
    · next hr => rw [hr] at hstep; exact hfail _ _ hstep
    · next hr => rw [hr] at hstep; exact ih hstep fun x hx => hf x (List.mem_cons_of_mem _ hx)

theorem bootConfig (h : Evolves P s t) {cause : Nat} {stepTimes : List Nat}
    (hc : Within (.crucible :: .doms :: .inputs :: .sels :: .syns :: .outs :: .gens :: .boot :: .tics :: .repair :: .pmcs :: .mate ::
      .freeCount :: raiseParts) P := by decide +kernel) : Evolves P s ((bootConfig cause stepTimes t).1) :=
  h.trans hc (by unfold Machine.bootConfig; dsimp only; exact refl.applyConfig.bootEnds)

theorem powerUp (h : Evolves P s t) {env : BootEnv} {powerOn : Bool} {slot cause : Nat} (hc : Within allParts P := by decide +kernel) :
    Evolves P s (t.powerUp env powerOn slot cause) := by
  refine h.trans hc (runSteps (P := allParts) refl ?_)
  simp only [bootSteps, List.forall_mem_cons, List.not_mem_nil, false_imp_iff, implies_true, and_true]
  exact ⟨fun _ => refl.bootRoot, fun _ => refl.bootFuse, fun _ => refl.bootBist, fun _ => refl.bootTable, fun _ => refl.bootEngines,
    fun _ => refl.bootGaffer, fun _ => refl.bootVernier, fun _ => refl.bootRestore, fun _ => refl.bootConfig⟩

theorem restart (h : Evolves P s t) {env : BootEnv} {slot cause : Nat} (hc : Within allParts P := by decide +kernel) :
    Evolves P s (t.restart env slot cause) :=
  (h.cleared hc).powerUp hc

theorem execVmainApplied_evolves {env : BootEnv} : ∃ t, execVmainApplied env s = .next t ∧ Evolves allParts s t :=
  ⟨_, rfl, refl.when_ refl.setBoot.powerUp⟩

theorem execResetNReleased_evolves {env : BootEnv} : ∃ t, execResetNReleased env s = .next t ∧ Evolves allParts s t :=
  ⟨_, rfl, refl.when_ refl.powerUp⟩

/-! ### Dpll -/

theorem openDpll (h : Evolves P s t) {n : Nat} (hc : Within (.dplls :: raiseParts) P := by decide +kernel) : Evolves P s (t.openDpll n) :=
  h.trans hc (by unfold State.openDpll; exact refl.rebase.setDpll.put1.put1.toDpllState)

theorem execDpllOpen_evolves {who : Issuer} {dpll : Nat} : ∃ t, execDpllOpen who dpll s = .next t ∧ Evolves (.dplls :: raiseParts) s t :=
  ⟨_, rfl, refl.doAct refl.openDpll⟩

theorem closeDpll (h : Evolves P s t) {n : Nat} {phase : Int} (hc : Within (.doms :: .dplls :: raiseParts) P := by decide +kernel) :
    Evolves P s (t.closeDpll n phase) := by
  refine h.trans hc ?_
  unfold State.closeDpll
  dsimp only
  split
  · exact refl.setDpll.dropMoves.enterAcquire
  · refine ite ?_ ?_
    · exact refl.setDpll.holdMoves.resumeMoves.settle.enterHoldover
    · exact refl.setDpll.holdMoves.resumeMoves.settle.enterFreeRun

theorem execDpllClose_evolves {who : Issuer} {dpll : Nat} {phase : Int} :
    ∃ t, execDpllClose who dpll phase s = .next t ∧ Evolves (.doms :: .dplls :: raiseParts) s t :=
  ⟨_, rfl, refl.doAct refl.closeDpll⟩

theorem execSetFreq_evolves {who : Issuer} {dpll : Nat} {word : Int} :
    ∃ t, execSetFreq who dpll word s = .next t ∧ Evolves (.dplls :: raiseParts) s t :=
  ⟨_, rfl, refl.doAct refl.setDpll⟩

theorem execNudgePhase_evolves {who : Issuer} {dpll : Nat} {interval : Int} :
    ∃ t, execNudgePhase who dpll interval s = .next t ∧ Evolves (.dplls :: raiseParts) s t :=
  ⟨_, rfl, refl.doAct refl.markSwitch.setDpll⟩

theorem resetHistory (h : Evolves P s t) {n : Nat} (hc : Within (.dplls :: raiseParts) P := by decide +kernel) :
    Evolves P s (t.resetHistory n) := by
  refine h.trans hc ?_
  unfold State.resetHistory
  refine ite ?_ ?_
  · exact (refl.setDpll.forEach (fun _ _ => refl.ledgerMark)).put1.put1.put1.put1.startWordMove
  · exact (refl.setDpll.forEach (fun _ _ => refl.ledgerMark)).put1.put1.put1.put1.addMove

theorem execResetHistory_evolves {who : Issuer} {dpll : Nat} :
    ∃ t, execResetHistory who dpll s = .next t ∧ Evolves (.dplls :: raiseParts) s t :=
  ⟨_, rfl, refl.doAct refl.resetHistory⟩

theorem applyWaiting (h : Evolves P s t) {n : Nat} (hc : Within (.dplls :: .outs :: raiseParts) P := by decide +kernel) :
    Evolves P s (t.applyWaiting n) := by
  refine h.trans hc ?_
  unfold State.applyWaiting
  dsimp only
  exact (put1 (by split; exacts [refl.setWord, .refl])).setDpll.phaseJump

theorem loopSample (h : Evolves P s t) {n : Nat} {phaseError : Int} (hc : Within (.dplls :: raiseParts) P := by decide +kernel) :
    Evolves P s (t.loopSample n phaseError) :=
  h.trans hc (by unfold State.loopSample; exact refl.setDpll.setWord.put1)

theorem execPdSample_evolves {n : Fin 16} {measured freqError : Int} :
    ∃ t, execPdSample n measured freqError s = .next t ∧ Evolves (.dplls :: .outs :: raiseParts) s t := by
  unfold execPdSample
  dsimp only
  refine ⟨_, rfl, ?_⟩
  exact refl.when_ (.ite (.ite ((by split; exacts [(ite refl.applyWaiting .refl).loopSample.toDpllState.settle.labelAtAcquire, (ite
      refl.applyWaiting .refl).loopSample.toDpllState.settle])) ((ite refl.applyWaiting .refl).loopSample)) (.ite refl.applyWaiting
      .refl))

theorem execLockAcquired_evolves {n : Fin 16} : ∃ t, execLockAcquired n s = .next t ∧ Evolves (.doms :: .dplls :: raiseParts) s t := by
  unfold execLockAcquired
  dsimp only
  refine ⟨_, rfl, ?_⟩
  exact refl.when_ (by split; exacts [refl.toDpllState.put1.leaveUnset, refl.toDpllState.put1])

theorem execSettlingEnd_evolves {n : Fin 16} : ∃ t, execSettlingEnd n s = .next t ∧ Evolves [.counter, .attrs, .store] s t :=
  ⟨_, rfl, refl.when_ refl.advance.put1⟩

theorem execSlopeMovementComplete_evolves {n : Fin 16} :
    ∃ t, execSlopeMovementComplete n s = .next t ∧ Evolves (.counter :: .dplls :: raiseParts) s t := by
  unfold execSlopeMovementComplete
  dsimp only
  refine ⟨_, rfl, ?_⟩
  split
  · exact refl.when_ (.ite refl.advance.setDpll.reword refl.advance.setDpll)
  · exact refl

theorem execTeEstimateEval_evolves {n : Fin 16} : ∃ t, execTeEstimateEval n s = .next t ∧ Evolves (.counter :: .dplls :: raiseParts) s t :=
  ⟨_, rfl, refl.when_ (.ite refl.advance.put1.put1.toDpllState (.ite refl.advance.put1.put1.toDpllState refl.advance.put1.put1))⟩

theorem computeHoldover (h : Evolves P s t) {n : Nat} {temp : Int} (hc : Within [.attrs, .dplls, .store] P := by decide +kernel) :
    Evolves P s (t.computeHoldover n temp) := by
  refine h.trans hc ?_
  unfold State.computeHoldover
  dsimp only
  split
  · exact refl.put1.put1.setDpll.put1
  · exact refl.put1.put1

theorem writeCoeffs (h : Evolves P s t) {n : Nat} (hc : Within [.attrs, .store] P := by decide +kernel) : Evolves P s (t.writeCoeffs n) :=
  h.trans hc (by unfold State.writeCoeffs; exact refl.putList)

theorem execHoldoverWordRefresh_evolves {n : Fin 16} : ∃ t, execHoldoverWordRefresh n s = .next t ∧ Evolves (.dplls :: raiseParts) s t := by
  unfold execHoldoverWordRefresh
  refine ⟨_, rfl, ?_⟩
  exact refl.when_ ((ite (.ite refl.computeHoldover.setDpll.setDpll.setWord (.ite refl.computeHoldover.setDpll.setWord
      refl.computeHoldover.setDpll)) ((ite refl.computeHoldover.setDpll.setDpll.setWord (.ite refl.computeHoldover.setDpll.setWord
      refl.computeHoldover.setDpll)).writeCoeffs)).uncause)

theorem execHoldoverSummaryStore_evolves : ∃ t, execHoldoverSummaryStore s = .next t ∧ Evolves [.attrs, .faults, .store] s t := by
  unfold execHoldoverSummaryStore
  refine ⟨_, rfl, ?_⟩
  exact refl.when_ ((refl.forEach (fun _ _ => (by split; exacts [refl.putList]))).enforceLimit)

theorem execCtrlLossTimeout_evolves {n : Fin 16} : ∃ t, execCtrlLossTimeout n s = .next t ∧ Evolves (.counter :: .dplls :: raiseParts) s t := by
  unfold execCtrlLossTimeout
  dsimp only
  refine ⟨_, rfl, ?_⟩
  split
  · exact refl.when_ refl.advance.setDpll.raise
  · exact refl

theorem execDpllPost_evolves {n : Fin 16} {instant : Nat} :
    ∃ t, execDpllPost n instant s = .next t ∧ Evolves (.doms :: .dplls :: raiseParts) s t := by
  unfold execDpllPost
  dsimp only
  refine ⟨_, rfl, ?_⟩
  split
  · exact refl
  · exact refl.when_ (.ite ((put1 (by split; exacts [refl.setWord, .refl])).setDpll.setPend) refl.refuseUpdate)

theorem execLedgerRecord_evolves {n : Fin 16} :
    ∃ t, execLedgerRecord n s = .next t ∧ Evolves [.counter, .attrs, .dplls, .store, .freeCount] s t :=
  ⟨_, rfl, refl.when_ (.ite refl.advance.setDpll.spend.bump refl.advance.setDpll.spend)⟩

theorem execLedgerDrain_evolves {n : Fin 16} : ∃ t, execLedgerDrain n s = .next t ∧ Evolves [.attrs, .dplls, .faults, .tm, .store] s t :=
  ⟨_, rfl, refl.when_ (refl.setDpll.foldl fun _ _ => refl.tmWrite)⟩

/-! ### System -/

theorem completeFirst (h : Evolves P s t) {who : Issuer} {opcode inst : Nat} (hc : Within bookParts P := by decide +kernel) :
    Evolves P s (t.completeFirst who opcode inst) := by
  refine h.trans hc ?_
  unfold State.completeFirst
  dsimp only
  split
  · split
    · exact .ite refl.finish.withHost.writeCompletion refl.finish
    · exact refl.finish
  · exact refl.finish

theorem tenMs (h : Evolves P s t) (hc : Within [.counter] P := by decide +kernel) : Evolves P s (t.tenMs) :=
  h.trans hc (by unfold State.tenMs; exact .ite refl.advance .refl)

theorem restartTags (h : Evolves P s t) (hc : Within raiseParts P := by decide +kernel) : Evolves P s (t.restartTags) :=
  h.trans hc (by unfold State.restartTags; exact .ite refl.withHost refl.withHost.raise)

theorem noteFw (h : Evolves P s t) {state : Nat} {u' : FwOpen} (hc : Within [.attrs, .store] P := by decide +kernel) :
    Evolves P s (t.noteFw state u') :=
  h.trans hc (by unfold State.noteFw; exact refl.put.put)

theorem closeFw (h : Evolves P s t) (hc : Within [.attrs, .store, .boot] P := by decide +kernel) : Evolves P s (t.closeFw) := by
  refine h.trans hc ?_
  unfold State.closeFw
  dsimp only
  split
  · exact refl.setBoot.noteFw
  · exact refl

theorem setSlot (h : Evolves P s t) {slot : Nat} {i : ImageSlot} (hc : Within [.attrs, .store, .boot] P := by decide +kernel) :
    Evolves P s (t.setSlot slot i) :=
  h.trans hc (by unfold State.setSlot; exact refl.put1.put.put.setBoot)

theorem execFwBegin_evolves {who : Issuer} {slot total : Nat} :
    ∃ t, execFwBegin who slot total s = .next t ∧ Evolves (.boot :: raiseParts) s t :=
  ⟨_, rfl, refl.doAct refl.setSlot.setBoot.noteFw⟩

theorem execFwWrite_evolves {who : Issuer} {offset length : Nat} {data : List Byte} {reachable flashOk : Bool} :
    ∃ t, execFwWrite who offset length data reachable flashOk s = .next t ∧ Evolves (.boot :: raiseParts) s t :=
  ⟨_, rfl, refl.act (.ite refl.finish refl.setBoot.noteFw.finish)⟩

theorem execFwFinish_evolves {who : Issuer} {slot crc : Nat} {integrityOk flashOk : Bool} {holax batt : ImageHead} :
    ∃ t, execFwFinish who slot crc integrityOk flashOk holax batt s = .next t ∧ Evolves (.boot :: raiseParts) s t := by
  unfold execFwFinish
  dsimp only
  refine ⟨_, rfl, ?_⟩
  refine refl.act ?_
  split
  · exact refl
  · exact (ite refl.setBoot.noteFw.setSlot refl.setBoot.noteFw).finish.raise

theorem execFwActivate_evolves {who : Issuer} {slot : Nat} : ∃ t, execFwActivate who slot s = .next t ∧ Evolves raiseParts s t :=
  ⟨_, rfl, refl.doAct refl.put1⟩

theorem dropSramInjection (h : Evolves P s t) {p : Nat → Bool} (hc : Within [.faults] P := by decide +kernel) :
    Evolves P s (t.dropSramInjection p) := by
  refine h.trans hc ?_
  unfold State.dropSramInjection
  dsimp only
  split
  · exact .ite refl.withFaults .refl
  · exact refl

theorem gafferRestart (h : Evolves P s t) (hc : Within (.boot :: raiseParts) P := by decide +kernel) : Evolves P s (t.gafferRestart) :=
  h.trans hc (by unfold State.gafferRestart; exact refl.raise.dropSramInjection.bump.setBoot.closeFw)

theorem execGafferWatchdogExpiry_evolves : ∃ t, execGafferWatchdogExpiry s = .next t ∧ Evolves (.boot :: raiseParts) s t :=
  ⟨_, rfl, refl.when_ refl.raise.gafferRestart⟩

theorem execGafferLockstepMismatch_evolves : ∃ t, execGafferLockstepMismatch s = .next t ∧ Evolves (.boot :: raiseParts) s t :=
  ⟨_, rfl, refl.when_ refl.raise.gafferRestart⟩

theorem serveAgain (h : Evolves P s t) (hc : Within (.doms :: .gens :: .boot :: .pmcs :: raiseParts) P := by decide +kernel) :
    Evolves P s (t.serveAgain) :=
  h.trans hc (by unfold State.serveAgain; exact refl.settleSlots.setBoot.restartTags.feedAlive.forEach (fun _ _ => refl.retz))

theorem execGafferRestartComplete_evolves :
    ∃ t, execGafferRestartComplete s = .next t ∧ Evolves (.doms :: .gens :: .boot :: .pmcs :: raiseParts) s t :=
  ⟨_, rfl, refl.when_ refl.serveAgain⟩

theorem haltControl (h : Evolves P s t) (hc : Within [.attrs, .faults, .store, .boot, .pmcs] P := by decide +kernel) :
    Evolves P s (t.haltControl) :=
  h.trans hc (by unfold State.haltControl; exact refl.settleSlots.setBoot.dropSramInjection.closeFw)

theorem execWarmReset_evolves {who : Issuer} : ∃ t, execWarmReset who s = .next t ∧ Evolves (.counter :: .boot :: .pmcs :: raiseParts) s t :=
  ⟨_, rfl, refl.act (.ite refl.completeFirst.tenMs.setBoot refl.completeFirst.tenMs.haltControl)⟩

theorem warmFails (h : Evolves P s t) {k code : Nat} (hc : Within (.boot :: .mate :: raiseParts) P := by decide +kernel) :
    Evolves P s (t.warmFails k code) :=
  h.trans hc (by unfold State.warmFails; exact (refl.setBoot.foldl fun _ _ => .ite refl.linkDown .refl).bootFails.setMate.restartTags)

theorem execWarmResetComplete_evolves {failedEngines : List Nat} {read : SlotRead} :
    ∃ t, execWarmResetComplete failedEngines read s = .next t ∧
      Evolves (.doms :: .gens :: .boot :: .repair :: .pmcs :: .mate :: .freeCount :: raiseParts) s t := by
  refine ⟨_, rfl, refl.when_ ?_⟩
  have hb : Evolves (.doms :: .gens :: .boot :: .repair :: .pmcs :: .mate :: .freeCount :: raiseParts) s (Machine.bootEngines failedEngines s).1 :=
    refl.bootEngines
  split
  · next hr => rw [hr] at hb; exact hb.warmFails
  · next hr =>
    rw [hr] at hb
    exact .ite (hb.flushRecords.forEach fun _ _ => refl.placeTasks).serveAgain.put1.raise hb.warmFails

theorem execReboot_evolves {who : Issuer} {slot : Nat} {env : BootEnv} : ∃ t, execReboot who slot env s = .next t ∧ Evolves allParts s t :=
  ⟨_, rfl, refl.act refl.completeFirst.tenMs.restart⟩

theorem execRestoreFactory_evolves {who : Issuer} {confirm : Nat} {env : BootEnv} :
    ∃ t, execRestoreFactory who confirm env s = .next t ∧ Evolves (.counter :: .boot :: raiseParts) s t :=
  ⟨_, rfl, refl.act refl.completeFirst.tenMs.setBoot.queueTxn⟩

theorem restoreDone (h : Evolves P s t) (hc : Within allParts P := by decide +kernel) : Evolves P s (t.restoreDone) := by
  refine h.trans hc ?_
  unfold State.restoreDone
  dsimp only
  split
  · exact .ite .refl (.ite refl.setBoot refl.restart)
  · exact refl

theorem execStoreProgramComplete_evolves {page : Fin 1024} {verified : Bool} :
    ∃ t, execStoreProgramComplete page verified s = .next t ∧ Evolves allParts s t :=
  ⟨_, rfl, refl.when_ refl.programResult.restoreDone⟩

theorem setPower (h : Evolves P s t) {k : Nat} (hc : Within (.pmcs :: raiseParts) P := by decide +kernel) : Evolves P s (t.setPower k) :=
  h.trans hc (by unfold State.setPower; exact refl.settleSlots.put1.raise)

theorem execSetPower_evolves {who : Issuer} {state : Nat} :
    ∃ t, execSetPower who state s = .next t ∧ Evolves (.boot :: .pmcs :: raiseParts) s t :=
  ⟨_, rfl, refl.doAct (.ite refl.setBoot.setPower refl.setBoot)⟩

theorem enterDormant (h : Evolves P s t) (hc : Within allParts P := by decide +kernel) : Evolves P s t.enterDormant := by
  refine h.trans hc ?_
  unfold State.enterDormant
  extract_lets captured stored base boot dormant
  have hstored : Evolves allParts t stored := refl.captureTime.forEach fun _ _ => refl.storePage
  have hdormant : Evolves allParts t dormant := hstored.withReset
  exact hdormant.crucibleAttrs.setPower

theorem leaveDormant (h : Evolves P s t) {env : BootEnv}
    (hc : Within allParts P := by decide +kernel) : Evolves P s (t.leaveDormant env) := by
  refine h.trans hc ?_
  have hwoken := ((refl (P := allParts) (s := t) |>.parts [.attrs, .faults, .pmcs]
      (u := { t with attrs := t.attrs.filter fun e => wakeKey e.1, faults := {}, pmcs := [] })
    (by intro q; cases q <;> simp [State.same])).crucibleAttrs.put1 (a := Attr.root_locked) (i := 0) (v' := 1)).setBoot
      (b := { t.boot with heaters := true, transition := none, warmSince := t.counter, warmBase := 0 })
  have hrun := hwoken.runSteps (env := env) (l := wakeSteps env) (by
    simp only [wakeSteps, List.forall_mem_cons, List.not_mem_nil, false_imp_iff, implies_true, and_true]
    exact ⟨fun _ => refl.bootTable, fun _ => refl.bootEngines, fun _ => refl.bootVernier, fun _ => refl.bootReload, fun _ => refl.bootConfig⟩)
  exact .ite hrun.raise hrun

theorem execPowerTransitionComplete_evolves {env : BootEnv} : ∃ t, execPowerTransitionComplete env s = .next t ∧ Evolves allParts s t := by
  unfold execPowerTransitionComplete
  dsimp only
  refine ⟨_, rfl, ?_⟩
  split
  · exact refl.when_ (.ite ((ite refl.enterDormant (.ite refl.leaveDormant refl.setBoot.setPower.sleepTransition)).haltControl) (.ite
        refl.enterDormant (.ite refl.leaveDormant refl.setBoot.setPower.sleepTransition)))
  · exact refl

theorem execSelfTestReport_evolves {who : Issuer} : ∃ t, execSelfTestReport who s = .next t ∧ Evolves raiseParts s t :=
  ⟨_, rfl, refl.act refl.finish⟩

theorem execLogRead_evolves {who : Issuer} {log count first : Nat} {buf : HostBuf} :
    ∃ t, execLogRead who log count first buf s = .next t ∧ Evolves raiseParts s t :=
  ⟨_, rfl, refl.act refl.finishRead⟩

theorem execTimeRead_evolves {who : Issuer} {domains : List Nat} {buf : HostBuf} :
    ∃ t, execTimeRead who domains buf s = .next t ∧ Evolves raiseParts s t :=
  ⟨_, rfl, refl.act refl.writeResult.finish⟩

theorem execFactoryEnter_evolves {who : Issuer} {token : List Byte} : ∃ t, execFactoryEnter who token s = .next t ∧ Evolves raiseParts s t :=
  ⟨_, rfl, refl.doAct refl.put1.raise⟩

/-! ### Verbs -/

theorem afterExtInput (h : Evolves P s t) (hc : Within (.crucible :: raiseParts) P := by decide +kernel) :
    Evolves P s (t.afterExtInput) :=
  h.trans hc (by unfold State.afterExtInput; exact .ite refl.extLeave.extJoin refl.extLeave)

theorem afterAllow (h : Evolves P s t) (hc : Within raiseParts P := by decide +kernel) : Evolves P s (t.afterAllow) :=
  h.trans hc (by unfold State.afterAllow; exact refl.forEach (fun _ _ => refl.disableRing.setRing.raise))

theorem afterPmc (h : Evolves P s t) {s' : State} {a : AttrDesc} (hc : Within [.pmcs] P := by decide +kernel) :
    Evolves P s (s'.afterPmc t a) :=
  h.trans hc (by unfold State.afterPmc; exact refl.forEach (fun _ _ => refl.pmcChanged))

theorem clearOvf (h : Evolves P s t) {c : Nat} {vs : List Int}
    (hc : Within [.pmcs] P := by decide +kernel) : Evolves P s (t.clearOvf c vs) := by
  induction vs generalizing t c with
  | nil => exact h
  | cons v vs ih => exact ih (h.setPmc hc)

theorem setSystem (h : Evolves P s t) {w : Write} (hc : Within (.crucible :: .pmcs :: raiseParts) P := by decide +kernel) :
    Evolves P s (t.setSystem w) := by
  refine h.trans hc ?_
  unfold State.setSystem
  dsimp only
  split
  · exact .ite .refl refl.written.afterExtInput
  · exact refl.written.reweigh
  · exact refl.written.afterAllow
  · exact refl.written.afterPmc
  · exact refl.written.afterPmc
  · exact refl.clearOvf
  · exact refl.written

theorem resettle (h : Evolves P s t) {n : Nat} (hc : Within [.tics] P := by decide +kernel) : Evolves P s (t.resettle n) :=
  h.trans hc (by unfold State.resettle; exact refl.forEach (fun _ _ => refl.setTic))

theorem loadType (h : Evolves P s t) {n : Nat} (hc : Within [.attrs, .store] P := by decide +kernel) : Evolves P s (t.loadType n) := by
  refine h.trans hc ?_
  unfold State.loadType
  refine ite ?_ ?_
  · refine ite ?_ ?_
    · exact (refl.foldl fun _ _ => refl.put1).put1.put1
    · exact .ite ((refl.foldl fun _ _ => refl.put1).put1.put1) (refl.foldl fun _ _ => refl.put1)
  · exact (ite ((refl.foldl fun _ _ => refl.put1).put1.put1) (.ite ((refl.foldl fun _ _ => refl.put1).put1.put1) (refl.foldl fun _ _ =>
        refl.put1))).put1

theorem startAgain (h : Evolves P s t) {n : Nat} (hc : Within (.crucible :: .inputs :: .sels :: raiseParts) P := by decide +kernel) :
    Evolves P s (t.startAgain n) :=
  h.trans hc (by unfold State.startAgain; exact (ite refl.leaveQualified .refl).startMonitors)

theorem afterType (h : Evolves P s t) {n : Nat}
    (hc : Within (.crucible :: .inputs :: .sels :: .tics :: raiseParts) P := by decide +kernel) : Evolves P s (t.afterType n) :=
  h.trans hc (by unfold State.afterType; exact .ite refl.loadType.startAgain.resettle refl.loadType)

theorem newGate (h : Evolves P s t) {s' : State} {a : AttrDesc} {n : Nat} (hc : Within [.inputs] P := by decide +kernel) :
    Evolves P s (t.newGate s' a n) :=
  h.trans hc (by unfold State.newGate; exact .ite .refl refl.setInput)

theorem inputChanged (h : Evolves P s t) {s' : State} {w : Write}
    (hc : Within (.crucible :: .inputs :: .sels :: .tics :: raiseParts) P := by decide +kernel) : Evolves P s (s'.inputChanged t w) := by
  refine h.trans hc ?_
  unfold State.inputChanged
  dsimp only
  split
  · exact .ite .refl (.ite refl.startInput refl.stopInput)
  · exact refl.afterType
  · exact .ite .refl refl.renominal.resettle
  · exact .ite .refl refl.renominal.resettle
  · exact .ite .refl refl.renominal.resettle
  · exact refl.newGate
  · exact refl.newGate
  · exact refl.newGate
  · exact refl.regrade
  · exact refl.regrade
  · exact refl.regrade
  · exact refl.regrade
  · exact refl.regrade
  · exact .ite refl.judgeFormat .refl
  · exact refl

theorem setInputAttr (h : Evolves P s t) {w : Write}
    (hc : Within (.crucible :: .inputs :: .sels :: .tics :: raiseParts) P := by decide +kernel) : Evolves P s (t.setInputAttr w) :=
  h.trans hc (by unfold State.setInputAttr; exact .ite refl.written.inputChanged.restartSoak refl.written.inputChanged)

theorem setSelector (h : Evolves P s t) {w : Write} (hc : Within (.sels :: .dplls :: raiseParts) P := by decide +kernel) :
    Evolves P s (t.setSelector w) := by
  refine h.trans hc ?_
  unfold State.setSelector
  refine ite ?_ ?_
  · exact .ite refl.written (.ite refl.written.selCommand refl.written.selDisable)
  · exact .ite refl.written.selCommand refl.written

theorem reslope (h : Evolves P s t) {n : Nat} {change : State → State} (hf : ∀ u, Evolves P u (change u))
    (hc : Within (.dplls :: raiseParts) P := by decide +kernel) : Evolves P s (t.reslope n change) := by
  have hr : Evolves P s (change (t.rebase n)) :=
    (h.trans hc refl.rebase).trans (List.Subset.refl P) (hf _)
  unfold State.reslope
  dsimp only
  exact .ite (hr.trans hc (.ite refl.reword .refl)) (hr.trans hc (ite refl.reword .refl).dropMoves.setDpll)

theorem afterBandwidth (h : Evolves P s t) {n : Nat} (hc : Within [.attrs, .dplls, .store] P := by decide +kernel) :
    Evolves P s (t.afterBandwidth n) := by
  refine h.trans hc ?_
  unfold State.afterBandwidth
  split
  · exact .ite .refl refl.put1.settle
  · exact refl

theorem setDpllAttr (h : Evolves P s t) {w : Write} (hc : Within (.dplls :: raiseParts) P := by decide +kernel) :
    Evolves P s (t.setDpllAttr w) := by
  refine h.trans hc ?_
  unfold State.setDpllAttr
  dsimp only
  split
  · exact refl.written.afterBandwidth
  · exact .ite refl.written refl.written.settle
  · exact refl.reslope (fun _ => refl.written)
  · split
    · exact refl.written.put1
    · exact refl.written
  · exact refl.written

theorem activateSyn (h : Evolves P s t) {n id : Nat} (hc : Within [.attrs, .syns, .store] P := by decide +kernel) :
    Evolves P s (t.activateSyn n id) := by
  refine h.trans hc ?_
  unfold State.activateSyn
  split
  · exact refl.put1.countSafe
  · exact refl.setRatio
  · exact refl.setRatio
  · exact refl

theorem setSynAttr (h : Evolves P s t) {w : Write}
    (hc : Within (.crucible :: .inputs :: .sels :: .syns :: raiseParts) P := by decide +kernel) : Evolves P s (t.setSynAttr w) := by
  refine h.trans hc ?_
  unfold State.setSynAttr
  refine ite ?_ ?_
  · exact .ite refl.written (.ite refl.written.synOn refl.written.synOff)
  · exact .ite refl.written refl.written.activateSyn

theorem activateOut (h : Evolves P s t) {o id : Nat} (hc : Within [.attrs, .outs, .store] P := by decide +kernel) :
    Evolves P s (t.activateOut o id) := by
  refine h.trans hc ?_
  unfold State.activateOut
  dsimp only
  split
  · exact refl.setOutp
  · exact refl.put1
  · exact refl.setOutp
  · exact refl.setOutp
  · exact refl.setOutp
  · exact refl

theorem setOutputAttr (h : Evolves P s t) {w : Write} (hc : Within (.outs :: raiseParts) P := by decide +kernel) :
    Evolves P s (t.setOutputAttr w) := by
  refine h.trans hc ?_
  unfold State.setOutputAttr
  dsimp only
  refine ite ?_ ?_
  · exact .ite refl.written refl.written.activateOut
  · split
    · refine ite ?_ ?_
      · exact refl.written
      · exact .ite refl.written.setOutp (.ite refl.written.startOutput refl.written)
    · exact .ite refl.written.outMove refl.written
    · exact refl.written.moveDelay
    · exact refl.written.moveDelay
    · exact refl.rebaseOut.written
    · exact refl.written

theorem setDomainAttr (h : Evolves P s t) {w : Write} (hc : Within (.doms :: .dplls :: .gens :: raiseParts) P := by decide +kernel) :
    Evolves P s (t.setDomainAttr w) := by
  refine h.trans hc ?_
  unfold State.setDomainAttr
  dsimp only
  split
  · split
    · exact refl.reslope (fun _ => refl.written)
    · exact refl.written
  · exact .ite refl.setDom refl.setUtcOffset.judgeLeap
  · exact refl.written.judgeLeap
  · exact refl.written

theorem afterGenDomain (h : Evolves P s t) {s' : State} {g : Nat} (hc : Within (.gens :: raiseParts) P := by decide +kernel) :
    Evolves P s (s'.afterGenDomain t g) := by
  refine h.trans hc ?_
  unfold State.afterGenDomain
  refine ite ?_ ?_
  · exact .ite refl.setGen.genArm refl.setGen
  · exact .ite refl.setGen (.ite refl.setGen.genShift.jamNext refl.setGen.genShift)

theorem newRate (h : Evolves P s t) {old : State} {g : Nat} (hc : Within (.gens :: raiseParts) P := by decide +kernel) :
    Evolves P s (t.newRate old g) :=
  h.trans hc (by unfold State.newRate; exact .ite refl.putGenLehr .refl)

theorem setGenAttr (h : Evolves P s t) {w : Write} {g offset : Nat} (hc : Within (.gens :: raiseParts) P := by decide +kernel) :
    Evolves P s (t.setGenAttr w g offset) := by
  refine h.trans hc ?_
  unfold State.setGenAttr
  dsimp only
  split
  · refine ite ?_ ?_
    · exact .ite refl.written.genArm refl.written
    · exact .ite refl.written.genArm refl.written.genLeaves.genEnd
  · exact refl.written.afterGenDomain
  · exact refl.rebaseGen.written
  · split
    · exact .ite refl.written.setGen refl.written.put1
    · exact .ite refl.written.genMove refl.written
    · exact .ite refl.written refl.written.newRate
    · exact refl.written.judgeDate
    · exact refl.written.judgeDate
    · exact .ite refl.written refl.written.newRate.jamNext
    · exact .ite refl.written refl.written.jamNext
    · exact .ite refl.written.genMove refl.written
    · exact refl.written

theorem setPortAttr (h : Evolves P s t) {w : Write}
    (hc : Within (.crucible :: .inputs :: .sels :: .tics :: raiseParts) P := by decide +kernel) : Evolves P s (t.setPortAttr w) := by
  refine h.trans hc ?_
  unfold State.setPortAttr
  dsimp only
  split
  · exact .ite refl.written (.ite refl.written.portOn refl.written.linkDown.uncause.uncause)
  · exact .ite refl.written refl.written.renominal.restartGate.requalify.resettle
  · exact refl.written

theorem setTicAttr (h : Evolves P s t) {w : Write} (hc : Within [.attrs, .tm, .store, .tics, .repair] P := by decide +kernel) :
    Evolves P s (t.setTicAttr w) := by
  refine h.trans hc ?_
  unfold State.setTicAttr
  dsimp only
  refine ite ?_ ?_
  · refine ite ?_ ?_
    · exact refl.written
    · exact .ite refl.written.assignRoutes.startTic refl.written.assignRoutes
  · refine ite ?_ ?_
    · exact refl.written
    · split
      · exact refl.written.assignRoutes.setTic.setTic
      · exact refl.written.assignRoutes.setTic
      · exact refl.written.assignRoutes.setTic
      · exact refl.written.assignRoutes.setTic.setTic
      · exact refl.written.assignRoutes.setTic
      · exact refl.written.assignRoutes.setTic
      · exact refl.written.setTic
      · exact refl.written.setTic
      · exact refl.written.setTic
      · exact refl.written.setTic
      · exact refl.written.setTic
      · exact refl.written

theorem setFaultAttr (h : Evolves P s t) {w : Write} (hc : Within [.attrs, .faults, .store] P := by decide +kernel) :
    Evolves P s (t.setFaultAttr w) :=
  h.trans hc (by unfold State.setFaultAttr; exact .ite refl.written.setLatch refl.written)

theorem setMateAttr (h : Evolves P s t) {w : Write} (hc : Within (.sels :: .mate :: raiseParts) P := by decide +kernel) :
    Evolves P s (t.setMateAttr w) := by
  refine h.trans hc ?_
  unfold State.setMateAttr
  dsimp only
  split
  · refine ite ?_ ?_
    · exact refl.written
    · exact .ite refl.written.decideRole refl.written.endTracking.dropLink.decideRole
  · exact (refl.written.forEach (fun _ _ => refl.selCommand)).judgeTrack
  · exact refl.written

theorem applySet (h : Evolves P s t) {w : Write}
    (hc : Within (.crucible :: .doms :: .inputs :: .sels :: .dplls :: .syns :: .outs :: .gens :: .tics :: .repair :: .pmcs :: .mate ::
      raiseParts) P := by decide +kernel) : Evolves P s (t.applySet w) := by
  refine h.trans hc ?_
  unfold State.applySet
  split
  · exact refl.setSystem
  · exact refl.setInputAttr
  · exact refl.setSelector
  · exact refl.setDpllAttr
  · exact refl.setSynAttr
  · exact refl.setOutputAttr
  · exact refl.setDomainAttr
  · exact refl.setGenAttr
  · exact refl.setGenAttr
  · exact refl.setGenAttr
  · exact refl.setGenAttr
  · exact refl.setPortAttr
  · exact refl
  · exact refl.setTicAttr
  · exact refl.setFaultAttr
  · exact refl.written
  · exact refl.setMateAttr

theorem execSet_evolves {who : Issuer} {inst attr first count : Nat} {value : List Byte} :
    ∃ t, execSet who inst attr first count value s = .next t ∧
      Evolves (.crucible :: .doms :: .inputs :: .sels :: .dplls :: .syns :: .outs :: .gens :: .tics :: .repair :: .pmcs :: .mate ::
        raiseParts) s t := by
  unfold execSet
  dsimp only
  refine ⟨_, rfl, ?_⟩
  split
  · exact refl.doAct .refl
  · exact refl.doAct refl.applySet

theorem execGet_evolves {who : Issuer} {inst attr first count : Nat} {buf : HostBuf} :
    ∃ t, execGet who inst attr first count buf s = .next t ∧ Evolves raiseParts s t := by
  unfold execGet
  dsimp only
  refine ⟨_, rfl, ?_⟩
  exact refl.act (by split; exacts [.ite refl.finish refl.writeResult.finish, .refl])

theorem execBulkGet_evolves {who : Issuer} {buf : HostBuf} {items : List (Nat × Nat)} :
    ∃ t, execBulkGet who buf items s = .next t ∧ Evolves raiseParts s t :=
  ⟨_, rfl, refl.act refl.writeResult.finish⟩

theorem execSubscribe_evolves {who : Issuer} {first count on : Nat} :
    ∃ t, execSubscribe who first count on s = .next t ∧ Evolves raiseParts s t :=
  ⟨_, rfl, refl.doAct (.ite .refl refl.withFaults)⟩

/-! ### Console -/

theorem runSystem_evolves {name : String} {fs : List (String × Int)} {env : ConsoleEnv} {o : Host.Outcome State Fault Refusal}
    (h : runSystem name fs env s = some o) : ∃ t, o = .next t ∧ Evolves allParts s t := by
  unfold runSystem at h
  split at h <;> cases h
  exacts [next_any execOscReadmit_evolves, next_any execOscExclude_evolves, next_any execWarmReset_evolves, next_any execReboot_evolves,
    next_any execRestoreFactory_evolves, next_any execFwBegin_evolves, next_any execFwWrite_evolves, next_any execFwFinish_evolves,
    next_any execFwActivate_evolves, next_any execSelfTestReport_evolves, next_any execLogRead_evolves, next_any execTimeRead_evolves,
    next_any execSetPower_evolves, next_any execFactoryEnter_evolves]

theorem runLoop_evolves {name : String} {fs : List (String × Int)} {env : ConsoleEnv} {o : Host.Outcome State Fault Refusal}
    (h : runLoop name fs env s = some o) : ∃ t, o = .next t ∧ Evolves allParts s t := by
  unfold runLoop at h
  split at h <;> cases h
  exacts [next_any execSetCandidates_evolves, next_any execSelect_evolves, next_any execLockout_evolves, next_any execClearWtr_evolves,
    next_any execAlign_evolves, next_any execDpllOpen_evolves, next_any execDpllClose_evolves, next_any execSetFreq_evolves,
    next_any execNudgePhase_evolves, next_any execResetHistory_evolves, next_any execSynCommit_evolves, next_any execSynCancel_evolves,
    next_any execSynRetune_evolves]

theorem runDomain_evolves {name : String} {fs : List (String × Int)} {env : ConsoleEnv} {o : Host.Outcome State Fault Refusal}
    (h : runDomain name fs env s = some o) : ∃ t, o = .next t ∧ Evolves allParts s t := by
  unfold runDomain at h
  split at h <;> cases h
  exacts [next_any execDomainCreate_evolves, next_any execDomainDelete_evolves, next_any execDomainAssign_evolves,
    next_any execDomainBind_evolves, next_any execDomainUnbind_evolves, next_any execSetTime_evolves, next_any execSetCalendar_evolves,
    next_any execAdjFreq_evolves, next_any execAdjPhase_evolves, next_any execScheduleLeap_evolves, next_any execSetTz_evolves,
    next_any execDomainReset_evolves]

theorem runSignals_evolves {name : String} {fs : List (String × Int)} {env : ConsoleEnv} {o : Host.Outcome State Fault Refusal}
    (h : runSignals name fs env s = some o) : ∃ t, o = .next t ∧ Evolves allParts s t := by
  unfold runSignals at h
  split at h <;> cases h
  exacts [next_any execVidgenDoStep_evolves, next_any execAudgenDoStep_evolves, next_any execTcgenDoStep_evolves,
    next_any execOutputDoStep_evolves, next_any execTcgenJam_evolves, next_any execPortBind_evolves, next_any execPortUnbind_evolves,
    next_any execLoadKey_evolves, next_any execEraseKey_evolves, next_any execHostq_evolves, next_any execPortSend_evolves,
    next_any execTicRestart_evolves, next_any execTicRead_evolves, next_any execSessionOpen_evolves, next_any execSessionClose_evolves]

theorem runFaults_evolves {name : String} {fs : List (String × Int)} {env : ConsoleEnv} {o : Host.Outcome State Fault Refusal}
    (h : runFaults name fs env s = some o) : ∃ t, o = .next t ∧ Evolves allParts s t := by
  unfold runFaults at h
  split at h <;> cases h
  exacts [next_any execFaultAck_evolves, next_any execFaultClear_evolves, next_any execFaultInject_evolves,
    next_any execFaultList_evolves, next_any execStoreCommit_evolves, next_any execMateChangeover_evolves,
    next_any execMateSleep_evolves, next_any execMateWake_evolves, next_any execMateLinkReset_evolves]

theorem nextOr {o : Host.Outcome State Fault Refusal} (h : Evolves P s t) (ho : ∃ u, o = .next u ∧ Evolves P t u) :
    Evolves P s (nextOr t o) := by
  obtain ⟨u, rfl, hu⟩ := ho
  exact h.trans (List.Subset.refl P) hu

theorem runAction_evolves {name : String} {fs : List (String × Int)} {env : ConsoleEnv} (h : runAction name fs env s = some t) :
    Evolves allParts s t := by
  obtain ⟨o, ho, rfl⟩ := Option.map_eq_some_iff.1 h
  simp only [Option.orElse_eq_or, Option.or_eq_some_iff] at ho
  rcases ho with ho | ⟨-, ho | ⟨-, ho | ⟨-, ho | ⟨-, ho⟩⟩⟩⟩
  · exact refl.nextOr (runSystem_evolves ho)
  · exact refl.nextOr (runLoop_evolves ho)
  · exact refl.nextOr (runDomain_evolves ho)
  · exact refl.nextOr (runSignals_evolves ho)
  · exact refl.nextOr (runFaults_evolves ho)

theorem consoleErr (h : Evolves P s t) {code : Nat} (hc : Within [.host, .out] P := by decide +kernel) :
    Evolves P s (t.consoleErr code) :=
  h.trans hc (by unfold State.consoleErr; exact refl.complete)

theorem setConsole (h : Evolves P s t) {u' : ConsoleUnit} (hc : Within [.host] P := by decide +kernel) : Evolves P s (t.setConsole u') :=
  h.trans hc (by unfold State.setConsole; exact refl.withHost)

theorem consoleGet (h : Evolves P s t) {obj inst name : List Nat} (hc : Within raiseParts P := by decide +kernel) :
    Evolves P s (t.consoleGet obj inst name) := by
  refine h.trans hc ?_
  unfold State.consoleGet
  split
  · split
    · exact refl.consoleErr
    · exact ite refl.consoleErr (refl.setConsole.nextOr execGet_evolves)
  · exact refl.consoleErr

theorem consoleSet (h : Evolves P s t) {obj inst name value : List Nat} (hc : Within allParts P := by decide +kernel) :
    Evolves P s (t.consoleSet obj inst name value) := by
  refine h.trans hc ?_
  unfold State.consoleSet
  split
  · split
    · exact refl.consoleErr
    · exact ite refl.consoleErr (refl.nextOr (next_any execSet_evolves))
  · exact refl.consoleErr

theorem consoleRun (h : Evolves P s t) {line : List Nat} {env : ConsoleEnv} (hc : Within allParts P := by decide +kernel) :
    Evolves P s (t.consoleRun line env) := by
  refine h.trans hc ?_
  unfold State.consoleRun
  split
  · exact refl.withHostOut
  · split
    · exact refl.consoleGet
    · split
      · exact refl.consoleSet
      · exact refl.consoleErr
    · split
      · exact refl.consoleErr
      · split
        · exact refl.consoleErr
        · next fs _ =>
          cases hrun : runAction _ fs env t with
          | none => exact refl.consoleErr
          | some u => exact runAction_evolves hrun

theorem drained (h : Evolves P s t) (hc : Within [.host] P := by decide +kernel) : Evolves P s (t.drained) :=
  h.trans hc (by unfold State.drained; exact refl.withHost)

theorem execConsoleCharacter_evolves {char : Nat} : ∃ t, execConsoleCharacter char s = .next t ∧ Evolves raiseParts s t :=
  ⟨_, rfl, refl.when_ (.ite (.ite refl.drained.withHost.emit refl.drained.bump.raiseOnce) refl.drained.withHost.emit)⟩

theorem execConsoleLine_evolves {env : ConsoleEnv} : ∃ t, execConsoleLine env s = .next t ∧ Evolves allParts s t :=
  ⟨_, rfl, refl.when_ (.ite refl.drained refl.drained.withHost.consoleRun.printEvents)⟩

/-! ### TableMem -/

theorem ledgerError (h : Evolves P s t) {lpn frame bits : Nat} {positions : List Nat} {fuller : Bool}
    (hc : Within raiseParts P := by decide +kernel) : Evolves P s (t.ledgerError lpn frame bits positions fuller) := by
  refine h.trans hc ?_
  unfold State.ledgerError
  dsimp only
  refine ite ?_ ?_
  · exact .ite refl.add.logRewritten refl.add
  · split
    · exact .ite refl.add.put.raise.logRewritten refl.add.put.raise
    · exact refl.add.bump.raise

theorem spareBad (h : Evolves P s t) {k : Nat} (hc : Within raiseParts P := by decide +kernel) : Evolves P s (t.spareBad k) :=
  h.trans hc (by unfold State.spareBad; exact refl.put.enforceLimit.raise)

theorem retireFrame (h : Evolves P s t) {f cause : Nat} (hc : Within raiseParts P := by decide +kernel) :
    Evolves P s (t.retireFrame f cause) := by
  refine h.trans hc ?_
  unfold State.retireFrame
  split
  · exact refl.submit
  · exact .ite .refl refl.spareBad
  · exact refl
  · exact refl

theorem poison (h : Evolves P s t) {f : Nat} {tag : Bool} (hc : Within raiseParts P := by decide +kernel) :
    Evolves P s (t.poison f tag) := by
  refine h.trans hc ?_
  unfold State.poison
  dsimp only
  refine retireFrame ?_
  split
  · exact .ite refl.setFrame.bump.raise.raise refl.setFrame.bump.raise
  · exact refl.setFrame

theorem corrected (h : Evolves P s t) {f : Nat} {positions : List Nat} {fuller : Bool} (hc : Within raiseParts P := by decide +kernel) :
    Evolves P s (t.corrected f positions fuller) := by
  refine h.trans hc ?_
  unfold State.corrected
  extract_lets bits v
  have hv : Evolves raiseParts t v := by
    refine ite refl.add.raiseOnce ?_
    split
    · exact ite refl.ledgerError refl.add.raiseOnce
    · exact refl.add.raiseOnce
    · exact refl.add.raiseOnce
  exact ite refl (ite hv.retireFrame hv)

theorem readFrame (h : Evolves P s t) {f : Nat} {r : FrameRead} {fuller : Bool} (hc : Within raiseParts P := by decide +kernel) :
    Evolves P s (t.readFrame f r fuller) := by
  refine h.trans hc ?_
  unfold State.readFrame
  extract_lets v w
  have hv : Evolves raiseParts t v := by
    dsimp only [v]
    split
    · exact refl.findCheck
    · exact refl
  exact ite hv.poison (ite hv.bump.raise hv).setFrame.corrected

theorem fullerNext (h : Evolves P s t) (hc : Within raiseParts P := by decide +kernel) : Evolves P s t.fullerNext := by
  have hp : Evolves raiseParts t ({ t with tm := { t.tm with passSum := t.tm.passSum + t.attrN Attr.fuller_period } } : State) :=
    refl.withTmBytes
  refine h.trans hc ?_
  unfold State.fullerNext
  exact .ite hp.put1 (ite hp.put1.bump.raise.raise hp.put1.bump.raise).withPass

theorem execFullerFrameRead_evolves {read : FrameRead} : ∃ t, execFullerFrameRead read s = .next t ∧ Evolves raiseParts s t :=
  ⟨_, rfl, refl.when_ refl.readFrame.fullerNext⟩

theorem execCacheFill_evolves {lpn : Nat} {read : FrameRead} : ∃ t, execCacheFill lpn read s = .next t ∧ Evolves raiseParts s t := by
  unfold execCacheFill
  refine ⟨_, rfl, ?_⟩
  split
  · exact refl.when_ refl.readFrame.setCache.cacheCount.applyWrites
  · exact refl

theorem retire (h : Evolves P s t) {lpn spare entry cause : Nat} (hc : Within raiseParts P := by decide +kernel) :
    Evolves P s (t.retire lpn spare entry cause) := by
  have hzero : Evolves raiseParts t (if t.poisoned lpn = true then { t with tm := t.tm.zeroPage lpn } else t) :=
    .ite (refl.withTm (Memory.wf_keep _)) refl
  refine h.trans hc ?_
  unfold State.retire
  dsimp only
  exact raise (enforceLimit (by split; exacts [hzero.put.put.setFrame.spareBad, hzero.put.put.setFrame]))

theorem execPageRetire_evolves {lpn cause : Nat} : ∃ t, execPageRetire lpn cause s = .next t ∧ Evolves raiseParts s t := by
  unfold execPageRetire
  dsimp only
  refine ⟨_, rfl, ?_⟩
  split
  · exact refl.when_ (by split; exacts [refl.withTmBytes.retire, refl.withTmBytes.raise])
  · exact refl

theorem dropSessionFrames (h : Evolves P s t) {n : Nat} (hc : Within [.attrs, .faults, .tm, .store, .net] P := by decide +kernel) :
    Evolves P s (t.dropSessionFrames n) :=
  h.trans hc (by unfold State.dropSessionFrames; exact refl.forEach (fun _ _ => (refl.setPort.add.foldl fun _ _ => refl.tellDesc)))

theorem recoverRegion (h : Evolves P s t) {lpn : Nat} (hc : Within (.boot :: raiseParts) P := by decide +kernel) :
    Evolves P s (t.recoverRegion lpn) := by
  refine h.trans hc ?_
  have hdrop : Evolves (.boot :: raiseParts) t (t.forEach (pageSessions lpn) State.dropSessionFrames) :=
    refl.forEach fun _ _ => refl.dropSessionFrames
  unfold State.recoverRegion
  split
  · exact refl.forEach fun _ _ => refl.freeSession
  · refine ⟨fun p hp => ?_, hdrop.forward, hdrop.arms, id⟩
    have := hdrop.same p hp
    cases p <;> first | exact this | exact absurd (by decide) hp
  · exact hdrop
  · exact refl.tmWrite.forEach fun _ _ => refl.put1
  · exact .ite refl.gafferRestart refl
  · exact refl

theorem execPoisonRecovery_evolves {lpn : Nat} : ∃ t, execPoisonRecovery lpn s = .next t ∧ Evolves (.boot :: raiseParts) s t :=
  ⟨_, rfl, refl.when_ (refl.setFrame.withTm (Memory.wf_keep _)).recoverRegion⟩

theorem execMemoryTemperature_evolves : ∃ t, execMemoryTemperature s = .next t ∧ Evolves raiseParts s t :=
  ⟨_, rfl, refl.when_ refl.raise⟩

theorem execBar2Write_evolves {offset : Nat} {bytes : List Byte} {read : FrameRead} :
    ∃ t, execBar2Write offset bytes read s = .next t ∧ Evolves raiseParts s t := by
  refine ⟨_, rfl, refl.when_ ?_⟩
  extract_lets inside u good v
  have hu : Evolves raiseParts s u := by
    dsimp only [u]
    split
    · exact ite refl refl.readFrame
    · exact refl
  have hv : Evolves raiseParts s v := hu.foldl fun _ _ => refl.hostByte
  exact ite hv.bump.raiseOnce hv

/-! ### Every command of the machine -/

/-- Every command but those two goes on to a state that evolves from the one before. -/
theorem exec_evolves (c : Instr) (hc : clearsModule c = false) : ∃ t, exec c s = .next t ∧ Evolves allParts s t := by
  unfold exec
  cases c with
  | resetNAsserted => cases hc
  | holdupExhausted => cases hc
  | vmainApplied => exact next_any execVmainApplied_evolves
  | resetNReleased => exact next_any execResetNReleased_evolves
  | pfNAsserted => exact next_any execPfNAsserted_evolves
  | vmainBelowThreshold => exact next_any execVmainBelowThreshold_evolves
  | powerFailStoreComplete => exact next_any execPowerFailStoreComplete_evolves
  | supplyRestored => exact next_any execSupplyRestored_evolves
  | perstNAsserted => exact next_any execPerstNAsserted_evolves
  | pcieHotReset => exact next_any execPcieHotReset_evolves
  | pcieFlr => exact next_any execPcieFlr_evolves
  | pcieLinkDown => exact next_any execPcieLinkDown_evolves
  | pcieCorrectableErrors => exact next_any execPcieCorrectableErrors_evolves
  | pcieUncorrectableError => exact next_any execPcieUncorrectableError_evolves
  | gafferWatchdogExpiry => exact next_any execGafferWatchdogExpiry_evolves
  | gafferLockstepMismatch => exact next_any execGafferLockstepMismatch_evolves
  | gafferRestartComplete => exact next_any execGafferRestartComplete_evolves
  | warmResetComplete => exact next_any execWarmResetComplete_evolves
  | get => exact next_any execGet_evolves
  | set => exact next_any execSet_evolves
  | bulkGet => exact next_any execBulkGet_evolves
  | subscribe => exact next_any execSubscribe_evolves
  | oscReadmit => exact next_any execOscReadmit_evolves
  | oscExclude => exact next_any execOscExclude_evolves
  | warmReset => exact next_any execWarmReset_evolves
  | reboot => exact next_any execReboot_evolves
  | restoreFactory => exact next_any execRestoreFactory_evolves
  | fwBegin => exact next_any execFwBegin_evolves
  | fwWrite => exact next_any execFwWrite_evolves
  | fwFinish => exact next_any execFwFinish_evolves
  | fwActivate => exact next_any execFwActivate_evolves
  | selfTestReport => exact next_any execSelfTestReport_evolves
  | logRead => exact next_any execLogRead_evolves
  | timeRead => exact next_any execTimeRead_evolves
  | setPower => exact next_any execSetPower_evolves
  | powerTransitionComplete => exact next_any execPowerTransitionComplete_evolves
  | factoryEnter => exact next_any execFactoryEnter_evolves
  | setCandidates => exact next_any execSetCandidates_evolves
  | select => exact next_any execSelect_evolves
  | lockout => exact next_any execLockout_evolves
  | clearWtr => exact next_any execClearWtr_evolves
  | align => exact next_any execAlign_evolves
  | dpllOpen => exact next_any execDpllOpen_evolves
  | dpllClose => exact next_any execDpllClose_evolves
  | setFreq => exact next_any execSetFreq_evolves
  | nudgePhase => exact next_any execNudgePhase_evolves
  | resetHistory => exact next_any execResetHistory_evolves
  | synCommit => exact next_any execSynCommit_evolves
  | synCancel => exact next_any execSynCancel_evolves
  | synRetune => exact next_any execSynRetune_evolves
  | domainCreate => exact next_any execDomainCreate_evolves
  | domainDelete => exact next_any execDomainDelete_evolves
  | domainAssign => exact next_any execDomainAssign_evolves
  | domainBind => exact next_any execDomainBind_evolves
  | domainUnbind => exact next_any execDomainUnbind_evolves
  | setTime => exact next_any execSetTime_evolves
  | setCalendar => exact next_any execSetCalendar_evolves
  | adjFreq => exact next_any execAdjFreq_evolves
  | adjPhase => exact next_any execAdjPhase_evolves
  | scheduleLeap => exact next_any execScheduleLeap_evolves
  | setTz => exact next_any execSetTz_evolves
  | domainReset => exact next_any execDomainReset_evolves
  | vidgenDoStep => exact next_any execVidgenDoStep_evolves
  | audgenDoStep => exact next_any execAudgenDoStep_evolves
  | tcgenDoStep => exact next_any execTcgenDoStep_evolves
  | outputDoStep => exact next_any execOutputDoStep_evolves
  | tcgenJam => exact next_any execTcgenJam_evolves
  | portBind => exact next_any execPortBind_evolves
  | portUnbind => exact next_any execPortUnbind_evolves
  | loadKey => exact next_any execLoadKey_evolves
  | eraseKey => exact next_any execEraseKey_evolves
  | hostq => exact next_any execHostq_evolves
  | portSend => exact next_any execPortSend_evolves
  | ticRestart => exact next_any execTicRestart_evolves
  | ticRead => exact next_any execTicRead_evolves
  | faultAck => exact next_any execFaultAck_evolves
  | faultClear => exact next_any execFaultClear_evolves
  | faultInject => exact next_any execFaultInject_evolves
  | faultList => exact next_any execFaultList_evolves
  | storeCommit => exact next_any execStoreCommit_evolves
  | mateChangeover => exact next_any execMateChangeover_evolves
  | mateSleep => exact next_any execMateSleep_evolves
  | mateWake => exact next_any execMateWake_evolves
  | mateLinkReset => exact next_any execMateLinkReset_evolves
  | sessionOpen => exact next_any execSessionOpen_evolves
  | sessionClose => exact next_any execSessionClose_evolves
  | cmdPiWrite => exact next_any execCmdPiWrite_evolves
  | commandFetch => exact next_any execCommandFetch_evolves
  | completionWrite => exact next_any execCompletionWrite_evolves
  | cplCiWrite => exact next_any execCplCiWrite_evolves
  | evtCiWrite => exact next_any execEvtCiWrite_evolves
  | ringEnable => exact next_any execRingEnable_evolves
  | ringDisable => exact next_any execRingDisable_evolves
  | ringDrained => exact next_any execRingDrained_evolves
  | irqArmWrite => exact next_any execIrqArmWrite_evolves
  | evtLostRead => exact next_any execEvtLostRead_evolves
  | intStatusWrite => exact next_any execIntStatusWrite_evolves
  | aliveFeedWrite => exact next_any execAliveFeedWrite_evolves
  | twBaseWrite => exact next_any execTwBaseWrite_evolves
  | tlCtrlWrite => exact next_any execTlCtrlWrite_evolves
  | msixUnmask => exact next_any execMsixUnmask_evolves
  | registerWrite => exact next_any execRegisterWrite_evolves
  | bar2Write => exact next_any execBar2Write_evolves
  | eventRecordDelivery => exact next_any execEventRecordDelivery_evolves
  | eventOverflowRecord => exact next_any execEventOverflowRecord_evolves
  | spiWrite => exact next_any execSpiWrite_evolves
  | spiRead => exact next_any execSpiRead_evolves
  | spiGo => exact next_any execSpiGo_evolves
  | spiEvtPop => exact next_any execSpiEvtPop_evolves
  | spiCommandDone => exact next_any execSpiCommandDone_evolves
  | consoleLine => exact next_any execConsoleLine_evolves
  | hostFeedTimeout => exact next_any execHostFeedTimeout_evolves
  | comparatorMeasurement => exact next_any execComparatorMeasurement_evolves
  | rootPhaseSteer => exact next_any execRootPhaseSteer_evolves
  | outvoteEvaluation => exact next_any execOutvoteEvaluation_evolves
  | weightRecompute => exact next_any execWeightRecompute_evolves
  | ovenJoin => exact next_any execOvenJoin_evolves
  | ovenFault => exact next_any execOvenFault_evolves
  | warmupTimeout => exact next_any execWarmupTimeout_evolves
  | readmitConditionMet => exact next_any execReadmitConditionMet_evolves
  | readmitRampComplete => exact next_any execReadmitRampComplete_evolves
  | modelFitUpdate => exact next_any execModelFitUpdate_evolves
  | ambientGradient => exact next_any execAmbientGradient_evolves
  | rootUnlock => exact next_any execRootUnlock_evolves
  | domainUpdateApply => exact next_any execDomainUpdateApply_evolves
  | slewEnd => exact next_any execSlewEnd_evolves
  | leapSecond => exact next_any execLeapSecond_evolves
  | tzTableApply => exact next_any execTzTableApply_evolves
  | tzTransition => exact next_any execTzTransition_evolves
  | inputEdge => exact next_any execInputEdge_evolves
  | losTimeout => exact next_any execLosTimeout_evolves
  | freqGateComplete => exact next_any execFreqGateComplete_evolves
  | soakExpiry => exact next_any execSoakExpiry_evolves
  | driftEvaluation => exact next_any execDriftEvaluation_evolves
  | wanderEvaluation => exact next_any execWanderEvaluation_evolves
  | msgTimeout => exact next_any execMsgTimeout_evolves
  | esmcPduReceived => exact next_any execEsmcPduReceived_evolves
  | timeEventMessage => exact next_any execTimeEventMessage_evolves
  | timeAnnounceMessage => exact next_any execTimeAnnounceMessage_evolves
  | nmeaZda => exact next_any execNmeaZda_evolves
  | nmeaRmc => exact next_any execNmeaRmc_evolves
  | videoFormatDetected => exact next_any execVideoFormatDetected_evolves
  | ltcFrameDecoded => exact next_any execLtcFrameDecoded_evolves
  | ltcDiscardWindowClear => exact next_any execLtcDiscardWindowClear_evolves
  | selectorDecision => exact next_any execSelectorDecision_evolves
  | wtrExpiry => exact next_any execWtrExpiry_evolves
  | holdOffExpiry => exact next_any execHoldOffExpiry_evolves
  | servoUpdate => exact next_any execServoUpdate_evolves
  | domainRefStale => exact next_any execDomainRefStale_evolves
  | pktHoldLimitExpiry => exact next_any execPktHoldLimitExpiry_evolves
  | pdSample => exact next_any execPdSample_evolves
  | lockAcquired => exact next_any execLockAcquired_evolves
  | settlingEnd => exact next_any execSettlingEnd_evolves
  | slopeMovementComplete => exact next_any execSlopeMovementComplete_evolves
  | teEstimateEval => exact next_any execTeEstimateEval_evolves
  | holdoverWordRefresh => exact next_any execHoldoverWordRefresh_evolves
  | dpllPost => exact next_any execDpllPost_evolves
  | ledgerRecord => exact next_any execLedgerRecord_evolves
  | ledgerDrain => exact next_any execLedgerDrain_evolves
  | holdoverSummaryStore => exact next_any execHoldoverSummaryStore_evolves
  | calibrationComplete => exact next_any execCalibrationComplete_evolves
  | calibrationFailure => exact next_any execCalibrationFailure_evolves
  | retuneComplete => exact next_any execRetuneComplete_evolves
  | synthesiserUnlock => exact next_any execSynthesiserUnlock_evolves
  | tuningMarginLow => exact next_any execTuningMarginLow_evolves
  | outputStart => exact next_any execOutputStart_evolves
  | outputStop => exact next_any execOutputStop_evolves
  | outputUngate => exact next_any execOutputUngate_evolves
  | commitTrigger => exact next_any execCommitTrigger_evolves
  | stepperStep => exact next_any execStepperStep_evolves
  | driverFault => exact next_any execDriverFault_evolves
  | generatorStart => exact next_any execGeneratorStart_evolves
  | generatorGate => exact next_any execGeneratorGate_evolves
  | stepRestart => exact next_any execStepRestart_evolves
  | lehrMovementEnd => exact next_any execLehrMovementEnd_evolves
  | videoFormatChange => exact next_any execVideoFormatChange_evolves
  | aesGradeChange => exact next_any execAesGradeChange_evolves
  | jamArm => exact next_any execJamArm_evolves
  | dailyJam => exact next_any execDailyJam_evolves
  | tcJamApply => exact next_any execTcJamApply_evolves
  | todgenMessage => exact next_any execTodgenMessage_evolves
  | generatorOutputFault => exact next_any execGeneratorOutputFault_evolves
  | portLinkUp => exact next_any execPortLinkUp_evolves
  | portLinkDown => exact next_any execPortLinkDown_evolves
  | ptpReadyAfterLink => exact next_any execPtpReadyAfterLink_evolves
  | announceReceived => exact next_any execAnnounceReceived_evolves
  | syncReceived => exact next_any execSyncReceived_evolves
  | followUpReceived => exact next_any execFollowUpReceived_evolves
  | delayReqReceived => exact next_any execDelayReqReceived_evolves
  | delayRespReceived => exact next_any execDelayRespReceived_evolves
  | pdelayReqReceived => exact next_any execPdelayReqReceived_evolves
  | pdelayRespReceived => exact next_any execPdelayRespReceived_evolves
  | grantRequestReceived => exact next_any execGrantRequestReceived_evolves
  | grantReceived => exact next_any execGrantReceived_evolves
  | cancelReceived => exact next_any execCancelReceived_evolves
  | managementReceived => exact next_any execManagementReceived_evolves
  | transitFrameReceived => exact next_any execTransitFrameReceived_evolves
  | arpNdpEchoReceived => exact next_any execArpNdpEchoReceived_evolves
  | frameIgnored => exact next_any execFrameIgnored_evolves
  | ptpMessageSend => exact next_any execPtpMessageSend_evolves
  | frameEnqueue => exact next_any execFrameEnqueue_evolves
  | creditsExhausted => exact next_any execCreditsExhausted_evolves
  | launchGateOpen => exact next_any execLaunchGateOpen_evolves
  | frameDeparture => exact next_any execFrameDeparture_evolves
  | frameTransmitDone => exact next_any execFrameTransmitDone_evolves
  | esmcInformationPdu => exact next_any execEsmcInformationPdu_evolves
  | esmcEventPdu => exact next_any execEsmcEventPdu_evolves
  | bmcaPass => exact next_any execBmcaPass_evolves
  | announceReceiptTimeout => exact next_any execAnnounceReceiptTimeout_evolves
  | grantRetryTimeout => exact next_any execGrantRetryTimeout_evolves
  | backoffEnd => exact next_any execBackoffEnd_evolves
  | grantRenew => exact next_any execGrantRenew_evolves
  | grantExpiry => exact next_any execGrantExpiry_evolves
  | portUnbindApply => exact next_any execPortUnbindApply_evolves
  | ticRawMeasurement => exact next_any execTicRawMeasurement_evolves
  | ticWindowClose => exact next_any execTicWindowClose_evolves
  | fullerFrameRead => exact next_any execFullerFrameRead_evolves
  | pageRetire => exact next_any execPageRetire_evolves
  | poisonRecovery => exact next_any execPoisonRecovery_evolves
  | cacheFill => exact next_any execCacheFill_evolves
  | cacheWritebackRetire => exact next_any execCacheWritebackRetire_evolves
  | memoryTemperature => exact next_any execMemoryTemperature_evolves
  | engineFailure => exact next_any execEngineFailure_evolves
  | spareRepairComplete => exact next_any execSpareRepairComplete_evolves
  | clusterLost => exact next_any execClusterLost_evolves
  | rebalanceComplete => exact next_any execRebalanceComplete_evolves
  | vernierBackgroundLoop => exact next_any execVernierBackgroundLoop_evolves
  | channelReplaced => exact next_any execChannelReplaced_evolves
  | sramScrub => exact next_any execSramScrub_evolves
  | countWindowClose => exact next_any execCountWindowClose_evolves
  | aliveFeedMissed => exact next_any execAliveFeedMissed_evolves
  | aliveToggle => exact next_any execAliveToggle_evolves
  | ctrlLossTimeout => exact next_any execCtrlLossTimeout_evolves
  | tempAlert => exact next_any execTempAlert_evolves
  | injectCauseEnd => exact next_any execInjectCauseEnd_evolves
  | pmcSample => exact next_any execPmcSample_evolves
  | pmcWrap => exact next_any execPmcWrap_evolves
  | storeProgramComplete => exact next_any execStoreProgramComplete_evolves
  | slotEraseComplete => exact next_any execSlotEraseComplete_evolves
  | backgroundStore => exact next_any execBackgroundStore_evolves
  | timeRecordStore => exact next_any execTimeRecordStore_evolves
  | holdupMeasure => exact next_any execHoldupMeasure_evolves
  | ovenHours => exact next_any execOvenHours_evolves
  | mateLinkTrained => exact next_any execMateLinkTrained_evolves
  | mateLinkDown => exact next_any execMateLinkDown_evolves
  | roleClaimTimeout => exact next_any execRoleClaimTimeout_evolves
  | roleActRaise => exact next_any execRoleActRaise_evolves
  | chgAckRise => exact next_any execChgAckRise_evolves
  | snapshotSend => exact next_any execSnapshotSend_evolves
  | snapshotReceived => exact next_any execSnapshotReceived_evolves
  | snapshotStale => exact next_any execSnapshotStale_evolves
  | sessionEntryFetch => exact next_any execSessionEntryFetch_evolves
  | aliveLost => exact next_any execAliveLost_evolves
  | linkAndAliveLost => exact next_any execLinkAndAliveLost_evolves
  | release => exact next_any execRelease_evolves
  | snapshotAdoption => exact next_any execSnapshotAdoption_evolves
  | mateAliveResumed => exact next_any execMateAliveResumed_evolves
  | changeoverReceipt => exact next_any execChangeoverReceipt_evolves
  | sleepPropose => exact next_any execSleepPropose_evolves
  | sleepAnswer => exact next_any execSleepAnswer_evolves
  | sleepCommit => exact next_any execSleepCommit_evolves
  | sleepCancel => exact next_any execSleepCancel_evolves
  | sleepEntry => exact next_any execSleepEntry_evolves
  | wakeFetchComplete => exact next_any execWakeFetchComplete_evolves
  | consoleCharacter => exact next_any execConsoleCharacter_evolves
  | nextUtcDay => exact next_any execNextUtcDay_evolves
  | snapMaxAgeExceeded => exact next_any execSnapMaxAgeExceeded_evolves
  | mateRequestReceived => exact next_any execMateRequestReceived_evolves

end Evolves
end Sys2Proof.Machine
end

section
/-! Tier 3: the invariants of every step, from what every command keeps. -/

set_option Elab.async false

namespace Sys2Proof.Machine

variable {s t : State}

/-! ### The two commands that clear the module -/

theorem State.cleared_armsExclusive {powerOn clear : Bool} {phase : Phase} : (s.cleared powerOn clear phase).armsExclusive :=
  (Evolves.crucibleAttrs (P := allParts) .refl).arms (State.armsExclusive_nil rfl)

theorem State.cleared_wf {powerOn clear : Bool} {phase : Phase} : Memory.wf (s.cleared powerOn clear phase).tm = true :=
  (Evolves.crucibleAttrs (P := allParts) .refl).memory rfl

/-- RESET_N asserted and the end of the hold-up leave the module as it is, or cleared but for what its start-up record holds. -/
theorem exec_clears {c : Instr} (hc : clearsModule c = true) :
    ∃ t, exec c s = .next t ∧ (t = s ∨ ∃ p phase, Evolves [.boot] (s.cleared p true phase) t) := by
  cases c with
  | resetNAsserted =>
    refine ⟨_, rfl, ?_⟩
    by_cases hon : s.boot.phase ≠ .off
    · exact .inr ⟨_, _, Evolves.refl.congr (if_pos (decide_eq_true hon))⟩
    · exact .inl (if_neg (by simpa using hon))
  | holdupExhausted =>
    refine ⟨_, rfl, ?_⟩
    by_cases hon : (s.boot.onHoldup && decide (s.boot.phase ≠ .off)) = true
    · exact .inr ⟨_, _, Evolves.refl.setBoot.congr (if_pos hon)⟩
    · exact .inl (if_neg hon)
  | _ => cases hc

theorem clearsModule_of_not_clearsCounter {c : Instr} (h : clearsCounter c = false) : clearsModule c = false := by
  cases c with
  | resetNAsserted => exact h
  | holdupExhausted => exact h
  | _ => rfl

/-! ### Invariants of a step -/

/-- A property that evolution keeps, that a cleared module has and that does not speak of the queue holds after every step. -/
theorem step_keeps {Inv : State → Prop} (hqueue : ∀ s cs, Inv s → Inv { s with pending := cs })
    (hclear : ∀ (s : State) p phase, Inv (s.cleared p true phase)) (hkeep : ∀ s t, Evolves allParts s t → Inv s → Inv t)
    (hs : Inv s) (hstep : step s = .next t) : Inv t := by
  unfold step at hstep
  split at hstep
  · obtain rfl : s.tick = t := by simpa using hstep
    exact hkeep _ _ (.ite (.withCounter .refl (Nat.le_succ _)) .refl) hs
  · next c cs _ =>
    have hrest : Inv { s with pending := cs } := hqueue s cs hs
    cases hc : clearsModule c with
    | true =>
      obtain ⟨u, hu, rfl | ⟨p, phase, hcl⟩⟩ := exec_clears (s := { s with pending := cs }) hc
      · cases hu.symm.trans hstep
        exact hrest
      · cases hu.symm.trans hstep
        exact hkeep _ _ hcl.widen (hclear _ p phase)
    | false =>
      obtain ⟨u, hu, hev⟩ := Evolves.exec_evolves (s := { s with pending := cs }) c hc
      cases hu.symm.trans hstep
      exact hkeep _ _ hev hrest

/-- Settles O4: arming checks that no member is armed already (R198), and every other operation drops slots or keeps their members. -/
theorem armsExclusiveKept : Obligations.ArmsExclusiveKept := by
  unfold Obligations.ArmsExclusiveKept
  intro s t
  exact step_keeps (fun _ _ h => h) (fun _ _ _ => State.cleared_armsExclusive) fun _ _ hev => hev.arms

/-- Settles O5: every operation leaves the counter or advances it to a later instant, but for the clearing of R58. -/
theorem counterNeverBack : Obligations.CounterNeverBack := by
  unfold Obligations.CounterNeverBack
  refine ⟨fun c s t hc hexec => ?_, fun s t hidle hstep => ?_⟩
  · obtain ⟨u, hu, hev⟩ := Evolves.exec_evolves (s := s) c (clearsModule_of_not_clearsCounter hc)
    cases hu.symm.trans hexec
    exact hev.forward
  · rw [step, hidle] at hstep
    obtain rfl : s.tick = t := by simpa using hstep
    exact (Evolves.ite (P := allParts) (.withCounter .refl (Nat.le_succ _)) .refl).forward

/-- Settles O6: every write of table memory keeps its canonical form, and a cleared module has no byte listed. -/
theorem tableMemoryCanonicalKept : Obligations.TableMemoryCanonicalKept := by
  unfold Obligations.TableMemoryCanonicalKept
  intro s t
  exact step_keeps (fun _ _ h => h) (fun _ _ _ => State.cleared_wf) fun _ _ hev => hev.memory

end Sys2Proof.Machine
end

section
/-! How the frames of Safety follow from what operations keep: the attributes that an operation leaves alone, and the frame of a
completion on the state that an effect left. -/

set_option Elab.async false

namespace Sys2Proof.Machine

variable {s t u : State} {keys : List Nat}

/-- The state that a command goes on to evolves as the command does. -/
theorem Evolves.of_next {P : List Part} {o : Host.Outcome State Fault Refusal} (h : ∃ t, o = .next t ∧ Evolves P s t) (ho : o = .next u) :
    Evolves P s u := by
  obtain ⟨t, ht, hev⟩ := h
  cases ht.symm.trans ho
  exact hev

/-- A command changes no part outside those of its operations. -/
theorem Evolves.frame {P : List Part} {o : Host.Outcome State Fault Refusal} (h : ∃ t, o = .next t ∧ Evolves P s t) (ho : o = .next u)
    {parts : List Part} (hP : Within P parts := by decide +kernel) : s.sameBut u parts :=
  State.sameBut_mono (Evolves.of_next h ho).same hP

/-! ### Attributes -/

theorem State.attrsKept_refl : s.attrsKept s keys := fun _ _ _ => rfl

namespace State.attrsKept

theorem through (h : s.attrsKept t keys) (hu : ∀ k, kept k → tblFind u.attrs k = tblFind t.attrs k) : s.attrsKept u keys :=
  fun k hk hb => (hu k hb).trans (h k hk hb)

theorem of_eq (h : s.attrsKept t keys) (hu : u.attrs = t.attrs := by rfl) : s.attrsKept u keys :=
  h.through fun _ _ => by rw [hu]

theorem trans (h : s.attrsKept t keys) (h' : t.attrsKept u keys) : s.attrsKept u keys :=
  fun k hk hb => (h' k hk hb).trans (h k hk hb)

theorem mono {keys' : List Nat} (h : s.attrsKept t keys) (hk : keys ⊆ keys') : s.attrsKept t keys' :=
  fun k hn hb => h k (fun hm => hn (hk hm)) hb

/-- One thing after another, where the second writes no key beyond those of the first. -/
theorem andThen {keys' : List Nat} (h : s.attrsKept t keys) (h' : t.attrsKept u keys') (hk : keys' ⊆ keys := by simp) : s.attrsKept u keys :=
  h.trans (h'.mono hk)

theorem put (h : s.attrsKept t keys) {a : AttrDesc} {i e : Nat} {v : Int} (hk : a.key i e ∈ keys := by simp) :
    s.attrsKept (t.put a i e v) keys :=
  fun k hn hb => (State.find_put_other t v (a := a) (i := i) (e := e) (k := k) fun he => hn (by rwa [he])).trans (h k hn hb)

theorem put1 (h : s.attrsKept t keys) {a : AttrDesc} {i : Nat} {v : Int} (hk : a.key i 0 ∈ keys := by simp) :
    s.attrsKept (t.put1 a i v) keys := h.put hk

theorem add (h : s.attrsKept t keys) {a : AttrDesc} {i e n : Nat} (hk : a.key i e ∈ keys := by simp) :
    s.attrsKept (t.add a i e n) keys := h.put hk

theorem bump (h : s.attrsKept t keys) {a : AttrDesc} {i : Nat} (hk : a.key i 0 ∈ keys := by simp) : s.attrsKept (t.bump a i) keys :=
  h.put hk

theorem raise (h : s.attrsKept t keys) {ev : Nat} {c : Bool} {d : Nat} {x : List ScopeItem} : s.attrsKept (t.raise ev c d x) keys :=
  h.through fun _ hb => State.raise_find t hb ev c d x

theorem raiseOnce (h : s.attrsKept t keys) {ev d : Nat} {c : Bool} : s.attrsKept (t.raiseOnce ev d c) keys :=
  h.through fun _ hb => State.raiseOnce_find t hb ev d c

theorem finish (h : s.attrsKept t keys) {who : Issuer} {op st i : Nat} {r : List Byte} {l : Option Nat} {a : Nat} :
    s.attrsKept (t.finish who op st i r l a) keys :=
  h.through fun _ hb => State.finish_find t hb who op st i r l a

theorem enforceLimit (h : s.attrsKept t keys) : s.attrsKept t.enforceLimit keys := h.through fun _ hb => State.enforceLimit_find t hb

theorem tmWrite (h : s.attrsKept t keys) {a : Nat} {bs : List Byte} : s.attrsKept (t.tmWrite a bs) keys :=
  h.through fun _ hb => State.tmWrite_find t hb a bs

theorem ite (ht : s.attrsKept t keys) (hu : s.attrsKept u keys) {c : Prop} [Decidable c] : s.attrsKept (if c then t else u) keys := by
  split <;> assumption

theorem when_ (h : s.attrsKept t keys) {c : Bool} {f : State → State} (hf : t.attrsKept (f t) keys) : s.attrsKept (t.when_ c f) keys :=
  h.trans (.ite hf State.attrsKept_refl)

theorem forEach (h : s.attrsKept t keys) {f : State → Nat → State} {l : List Nat} (hf : ∀ u : State, ∀ n ∈ l, u.attrsKept (f u n) keys) :
    s.attrsKept (t.forEach l f) keys := by
  refine h.trans fun k hk hb => ?_
  exact State.forEach_keeps_mem (fun u => tblFind u.attrs k) f l (fun u n hn => hf u n hn k hk hb) t

/-- A value outside the listed keys reads as before. -/
theorem attr (h : s.attrsKept t keys) {a : AttrDesc} {i e : Nat} (hk : a.key i e ∉ keys) (hb : a.id ∉ bookAttrs := by decide)
    (hi : i < 65536 := by omega) (he : e < 65536 := by omega) : t.attr a i e = s.attr a i e :=
  State.attr_of_find (h _ hk (kept_key hb hi he))

end State.attrsKept

/-! ### Latches -/

/-- On every variant but for the sources of the oscillators that a Q1 lacks, a source is fitted. -/
theorem State.notFitted_of {ev : Nat} (h : ev ∉ [321, 322, 327, 328]) : s.notFitted ev = false := by
  simp only [State.notFitted, Bool.and_eq_false_iff]
  simp_all

theorem State.raise_latched {ev : Nat} {c : Bool} {d : Nat} {x : List ScopeItem} (hd : Ev.defined ev = true := by decide)
    (hb : ev ∉ bookSources := by decide) (hf : ev ∉ [321, 322, 327, 328] := by decide) : ((s.raise ev c d x).latch ev).latched = true := by
  rw [State.raise_latch_same s hd (State.notFitted_of hf) hb]
  rfl

theorem State.raise_cause {ev : Nat} {c : Bool} {d : Nat} {x : List ScopeItem} (hd : Ev.defined ev = true := by decide)
    (hb : ev ∉ bookSources := by decide) (hf : ev ∉ [321, 322, 327, 328] := by decide) : ((s.raise ev c d x).latch ev).cause = c := by
  rw [State.raise_latch_same s hd (State.notFitted_of hf) hb]
  rfl

/-! ### Frames of a completion -/

/-- Where an effect changed no more than `parts`, the attributes with `keys` and the store, its completion keeps that frame. -/
theorem State.framed_of_effect {parts : List Part} (hp : s.sameBut u (parts ++ [.attrs, .store])) (ha : s.attrsKept u keys)
    (hn : Part.tm ∉ parts ∧ Part.faults ∉ parts ∧ Part.host ∉ parts := by decide) {who : Issuer} {op st i : Nat} {r : List Byte}
    {l : Option Nat} {a : Nat} : s.framed (u.finish who op st i r l a) parts keys := by
  obtain ⟨hntm, hnf, hnh⟩ := hn
  have htm : u.tm = s.tm := hp .tm (by simp [hntm])
  have hfaults : u.faults = s.faults := hp .faults (by simp [hnf])
  have hhost : u.host = s.host := hp .host (by simp [hnh])
  have hslot : u.auditSlot = s.auditSlot := by simp [State.auditSlot, htm]
  refine ⟨fun p hpp => ?_, ha.finish, ?_, ?_, ?_, ?_, fun e h0 h1 h2 => ?_⟩
  · have hfin : u.sameBut (u.finish who op st i r l a) bookParts := (Evolves.finish .refl).same
    simp only [List.mem_append, not_or] at hpp
    refine State.same_trans (hp p ?_) (hfin p ?_) <;> simp_all
  · intro x hx
    rw [State.finish_memBut u who op st i r l a x (by rwa [hslot]), htm]
  · simp [hhost]
  · simp [hhost]
  · simp [hfaults]
  · rw [State.finish_latch _ h0 h1 h2, State.latch_of_faults hfaults]

/-- As `framed_of_effect`, for a state that a command left after occurrences of sources. -/
theorem State.framedRaise_of {parts : List Part} (h : Evolves (parts ++ [.attrs, .faults, .tm, .store, .host, .out, .net]) s t)
    (ha : s.attrsKept t keys) (hr : t.host.rings = s.host.rings := by simp) : s.framedRaise t parts keys := ⟨h.same, ha, hr⟩

/-! ### Commands that wait for a restarted or a dropped completion (R336) -/

/-- No operation below makes a command wait as one whose completion is discarded. -/
theorem State.complete_orphans {who : Issuer} {op st g : Nat} {r : List Byte} {l : Option Nat} :
    (s.complete who op st r l g).host.orphans ⊆ s.host.orphans := by
  cases who with
  | ring c tag =>
    unfold State.complete
    dsimp only
    split
    · exact List.erase_subset
    · exact List.Subset.refl _
  | spi => exact List.Subset.refl _
  | console => exact List.Subset.refl _

theorem State.finish_orphans {who : Issuer} {op st i a : Nat} {r : List Byte} {l : Option Nat} :
    (s.finish who op st i r l a).host.orphans ⊆ s.host.orphans := by
  unfold State.finish
  refine List.Subset.trans State.complete_orphans ?_
  split <;> simp

theorem State.dropSends_orphans (l : List Issuer) : (s.dropSends l).host.orphans ⊆ s.host.orphans := by
  induction l generalizing s with
  | nil => exact List.Subset.refl _
  | cons w ws ih => exact List.Subset.trans ih (List.Subset.trans State.complete_orphans (by simp))

theorem State.failSends_orphans (l : List Issuer) : (s.failSends l).host.orphans ⊆ s.host.orphans := by
  induction l generalizing s with
  | nil => exact List.Subset.refl _
  | cons w ws ih => exact List.Subset.trans ih State.finish_orphans

theorem State.dropFrames_orphans {p : Nat} : (s.dropFrames p).host.orphans ⊆ s.host.orphans := by
  unfold State.dropFrames
  exact List.Subset.trans (State.failSends_orphans _) (List.Subset.trans (State.dropSends_orphans _) (by simp))

theorem State.raise_orphans {ev d : Nat} {c : Bool} {x : List ScopeItem} : (s.raise ev c d x).host.orphans ⊆ s.host.orphans := by
  unfold State.raise
  dsimp only
  split
  · refine State.forEach_induct (P := fun u => u.host.orphans ⊆ s.host.orphans) _ (fun u p hu => ?_) _ _ (by simp)
    split
    · exact List.Subset.trans State.dropFrames_orphans hu
    · exact hu
  · simp

/-- The client of a command waits for its completion as before where the effect left the host alone. -/
theorem State.orphans_of_effect {parts : List Part} (hp : s.sameBut u (parts ++ [.attrs, .store])) (hn : Part.host ∉ parts := by decide) :
    u.host.orphans ⊆ s.host.orphans := by
  have hhost : u.host = s.host := hp .host (by simp [hn])
  rw [hhost]
  exact List.Subset.refl _

end Sys2Proof.Machine
end

section
/-! Tier 1: a step takes the front of the queue, an idle step counts, and what a reset leaves; and the writes of table memory. -/

set_option Elab.async false

namespace Sys2Proof.Machine

/-- Settles O1: the branch of a step for a queue that is not empty. -/
theorem stepTakesFront : Obligations.StepTakesFront := by
  unfold Obligations.StepTakesFront
  intro c cs s hqueue
  rw [step, hqueue]

theorem State.tick_counter (s : State) : s.tick.counter = if s.counting then s.counter + 1 else s.counter := by
  unfold State.tick
  split <;> rfl

theorem State.tick_sameBut (s : State) : s.sameBut s.tick [.counter] :=
  (Evolves.ite (P := [.counter]) (.withCounter .refl (Nat.le_succ _)) .refl).same

/-- Settles O2: an idle step is one tick of the counter. -/
theorem idleCounts : Obligations.IdleCounts := by
  unfold Obligations.IdleCounts
  intro s hidle
  exact ⟨s.tick, by rw [step, hidle], s.tick_counter, s.tick_sameBut⟩

/-- Settles O3: the reset state lists no byte, no slot, no ring and no latch, so each reads as its default. -/
theorem resetState : Obligations.ResetState := by
  unfold Obligations.ResetState
  refine ⟨rfl, rfl, State.armsExclusive_nil rfl, rfl, fun _ => rfl, fun _ => rfl, fun _ => rfl, fun _ => rfl, ?_, ?_, ?_, ?_, rfl, rfl⟩
  · decide +kernel
  · decide +kernel
  · decide +kernel
  · decide +kernel

/-! ### Writes of table memory -/

theorem State.tmWrite_of_refused {s : State} {a : Nat} {bs : List Byte} (h : tmSize < a + bs.length ∨ s.poisoned (a / 4096) = true) :
    s.tmWrite a bs = s := if_pos (by simpa using h)

theorem State.tmWrite_byte_same {s : State} {a k : Nat} {bs : List Byte} (hsize : a + bs.length ≤ tmSize)
    (hpoison : s.poisoned (a / 4096) = false) (hk : k < bs.length) : (s.tmWrite a bs).tm.byte (a + k) = bs[k] := by
  have hok : ¬ (tmSize < a + bs.length || s.poisoned (a / 4096)) = true := by simp [hpoison, hsize]
  rw [State.tmWrite, if_neg hok]
  exact TableMem.byte_write_same _ a k bs hk

/-- Settles O7: a write of the module sets the run of bytes and no other (R371, R377). -/
theorem tableMemoryWrite : Obligations.TableMemoryWrite := by
  unfold Obligations.TableMemoryWrite
  exact ⟨fun s a bs hsize hpoison => ⟨fun k hk => State.tmWrite_byte_same hsize hpoison hk, fun x hx => s.tmWrite_byte_other a x bs hx⟩,
    fun s a bs h => State.tmWrite_of_refused h⟩

end Sys2Proof.Machine
end

section
/-! What an action that is served answers: the newest answer, its result, and the frame of its completion (R326, R355, R359, R364). -/

set_option Elab.async false

namespace Sys2Proof.Machine

variable {s t u : State} {who : Issuer} {op st i a : Nat} {r : List Byte} {l : Option Nat}

/-! ### The newest answer -/

/-- A command that is served still waits where no other command has come to wait for a discarded completion. -/
theorem State.serves.clear (h : s.serves who) (ho : u.host.orphans ⊆ s.host.orphans) :
    ∀ c t, who = .ring c t → u.host.orphans.contains (c.val, t.val) = false := by
  intro c t hw
  have hclear : (c.val, t.val) ∉ s.host.orphans := by simpa using State.serves_clear h c t hw
  simpa using fun hm => hclear (ho hm)

/-- The completion of a command that is served is the newest answer, whatever its effect did, so long as its client still waits. -/
theorem State.serves.finish_answered (h : s.serves who) (ho : u.host.orphans ⊆ s.host.orphans := by simp) :
    (u.finish who op st i r l a).answered who op st :=
  State.finish_answered u who op st i r l a (State.serves.clear h ho)

theorem State.complete_resultOf (h : ∀ c t, who = .ring c t → s.host.orphans.contains (c.val, t.val) = false) {g : Nat} :
    (s.complete who op 0 r l g).resultOf who = r := by
  cases who with
  | ring c t =>
    have h1 : (c.val, t.val) ∉ s.host.orphans := by simpa using h c t rfl
    simp [State.complete, State.resultOf, h1]
  | spi => simp [State.complete, State.resultOf]
  | console => rfl

/-- The newest answer carries the result of a completion with status 0 (R359). -/
theorem State.serves.finish_resultOf (h : s.serves who) (ho : u.host.orphans ⊆ s.host.orphans := by simp) :
    (u.finish who op 0 i r l a).resultOf who = r := by
  unfold State.finish
  refine State.complete_resultOf fun c t hw => ?_
  have hclear := h.clear ho c t hw
  split <;> simpa using hclear

/-! ### Frames -/

/-- A completion alone keeps every frame. -/
theorem State.framed_finish_self {parts : List Part} {keys : List Nat} : s.framed (s.finish who op st i r l a) parts keys :=
  State.framed_finish (fun p _ => s.same_refl p) (fun _ _ => rfl) rfl rfl rfl rfl ..

/-- Settles O8: each check of R326 and R363 completes the action before its effect. -/
theorem refusedChangesNothing : Obligations.RefusedChangesNothing := by
  unfold Obligations.RefusedChangesNothing
  refine ⟨fun s who a f hs hb hr => ?_, fun s who a f code hs hb hr hn => ?_, fun s who a f hs => ?_⟩
  · have hact : s.act who a f = s.finish who a.opcode E_DENIED a.inst [] none a.attr := by
      simp [State.act, hs.1, hb, hr]
    rw [hact]
    exact ⟨hs.finish_answered, State.framed_finish_self⟩
  · rw [State.act_refused f hs.1 hb hr hn]
    exact ⟨hs.finish_answered, State.framed_finish_self⟩
  · rw [State.act, hs]

end Sys2Proof.Machine
end

section
/-! What a chain of operations writes beside the parts of `Evolves`: the attributes, by their ids; whether it discards a completion
that a client waits for; and whether it drops a latch. -/

set_option Elab.async false

namespace Sys2Proof.Machine

/-- `t` comes from `s` by operations that write attributes of the listed ids only, beside those of the book-keeping; that leave the rings
alone; that discard no completion that was not discarded in `s`; and that drop no latch but those of the book-keeping. -/
structure Writes (ids : List Nat) (s t : State) : Prop where
  find : ∀ k, keyId k ∉ ids → kept k → tblFind t.attrs k = tblFind s.attrs k
  orphans : t.host.orphans ⊆ s.host.orphans
  rings : t.host.rings = s.host.rings
  latched : ∀ ev, ev ∉ bookSources → (s.latch ev).latched = true → (t.latch ev).latched = true

theorem State.raise_keepsLatched {s : State} {ev e d : Nat} {c : Bool} {x : List ScopeItem} (he : e ∉ bookSources)
    (h : (s.latch e).latched = true) : ((s.raise ev c d x).latch e).latched = true := by
  by_cases hne : e = ev
  · subst hne
    by_cases hocc : (!Ev.defined e || s.notFitted e) = true
    · have hsame : s.occur e c d x = s := if_pos hocc
      unfold State.raise
      dsimp only
      rw [hsame]
      split
      · rw [State.idlePorts_latch _ he, State.countSafe_latch, h]
      · exact h
    · rw [Bool.not_eq_true, Bool.or_eq_false_iff, Bool.not_eq_false'] at hocc
      rw [State.raise_latch_same _ hocc.1 hocc.2 he]
      rfl
  · rw [State.raise_latch_other _ hne he, h]

namespace Writes

variable {ids : List Nat} {s t u : State}

theorem refl : Writes ids s s := ⟨fun _ _ _ => rfl, List.Subset.refl _, rfl, fun _ _ h => h⟩

theorem trans (h : Writes ids s t) (h' : Writes ids t u) : Writes ids s u :=
  ⟨fun k hk hb => (h'.find k hk hb).trans (h.find k hk hb), List.Subset.trans h'.orphans h.orphans, h'.rings.trans h.rings,
    fun ev he hl => h'.latched ev he (h.latched ev he hl)⟩

theorem mono {ids' : List Nat} (h : Writes ids' s t) (hi : ids' ⊆ ids := by decide) : Writes ids s t :=
  ⟨fun k hk hb => h.find k (fun hm => hk (hi hm)) hb, h.orphans, h.rings, h.latched⟩

theorem andThen {ids' : List Nat} (h : Writes ids s t) (h' : Writes ids' t u) (hi : ids' ⊆ ids := by decide) : Writes ids s u :=
  h.trans (h'.mono hi)

/-- An operation that writes no attributes and leaves the host and the latches alone. -/
theorem of_eq (h : Writes ids s t) (ha : u.attrs = t.attrs := by rfl) (hh : u.host = t.host := by rfl)
    (hf : ∀ ev, (u.latch ev).latched = (t.latch ev).latched := by intro; rfl) : Writes ids s u :=
  h.trans ⟨fun _ _ _ => by rw [ha], by rw [hh]; exact List.Subset.refl _, by rw [hh], fun ev _ hl => (hf ev).trans hl⟩

/-- As `of_eq`, from the parts that an operation changes. -/
theorem of_same {P : List Part} (h : Writes ids s t) (hev : t.sameBut u P) (hP : Part.attrs ∉ P ∧ Part.host ∉ P ∧ Part.faults ∉ P := by decide) :
    Writes ids s u := by
  obtain ⟨ha, hh, hf⟩ := hP
  exact h.of_eq (hev .attrs ha) (hev .host hh) fun ev => by rw [State.latch_of_faults (hev .faults hf)]

theorem setDom (h : Writes ids s t) {d : Nat} {r : DomRec} : Writes ids s (t.setDom d r) := h.of_eq
theorem setInput (h : Writes ids s t) {n : Nat} {r : InputRec} : Writes ids s (t.setInput n r) := h.of_eq
theorem setSel (h : Writes ids s t) {n : Nat} {r : SelRec} : Writes ids s (t.setSel n r) := h.of_eq
theorem setDpll (h : Writes ids s t) {n : Nat} {r : DpllRec} : Writes ids s (t.setDpll n r) := h.of_eq
theorem setSyn (h : Writes ids s t) {n : Nat} {r : SynRec} : Writes ids s (t.setSyn n r) := h.of_eq
theorem setOutp (h : Writes ids s t) {n : Nat} {r : OutRec} : Writes ids s (t.setOutp n r) := h.of_eq
theorem setGen (h : Writes ids s t) {g : Nat} {r : GenRec} : Writes ids s (t.setGen g r) := h.of_eq
theorem setPort (h : Writes ids s t) {p : Nat} {r : PortRec} : Writes ids s (t.setPort p r) := h.of_eq
theorem setSess (h : Writes ids s t) {n : Nat} {r : SessRec} : Writes ids s (t.setSess n r) := h.of_eq
theorem setTic (h : Writes ids s t) {n : Nat} {r : TicRec} : Writes ids s (t.setTic n r) := h.of_eq

theorem put (h : Writes ids s t) {a : AttrDesc} {i e : Nat} {v : Int} (ha : a.id ∈ ids := by decide) (hi : i < 65536 := by omega)
    (he : e < 65536 := by omega) : Writes ids s (t.put a i e v) :=
  h.trans ⟨fun _ hk _ => State.find_put_id t v (fun hid => hk (hid ▸ ha)) hi he, by simp, by simp,
    fun ev _ hl => by rwa [State.latch_of_faults (State.put_faults ..)]⟩

theorem put1 (h : Writes ids s t) {a : AttrDesc} {i : Nat} {v : Int} (ha : a.id ∈ ids := by decide) (hi : i < 65536 := by omega) :
    Writes ids s (t.put1 a i v) := h.put ha hi

theorem add (h : Writes ids s t) {a : AttrDesc} {i e n : Nat} (ha : a.id ∈ ids := by decide) (hi : i < 65536 := by omega)
    (he : e < 65536 := by omega) : Writes ids s (t.add a i e n) := h.put ha hi he

theorem bump (h : Writes ids s t) {a : AttrDesc} {i : Nat} (ha : a.id ∈ ids := by decide) (hi : i < 65536 := by omega) :
    Writes ids s (t.bump a i) := h.put ha hi

theorem putList (h : Writes ids s t) {a : AttrDesc} {i e : Nat} {vs : List Int} (ha : a.id ∈ ids := by decide)
    (hi : i < 65536 := by omega) (he : e + vs.length ≤ 65536 := by simp) : Writes ids s (t.putList a i e vs) := by
  induction vs generalizing t e with
  | nil => exact h
  | cons v vs ih =>
    rw [List.length_cons] at he
    exact ih (h.put ha hi (by omega)) (by omega)

theorem raise (h : Writes ids s t) {ev d : Nat} {c : Bool} {x : List ScopeItem} : Writes ids s (t.raise ev c d x) :=
  h.trans ⟨fun _ _ hb => State.raise_find t hb ev c d x, State.raise_orphans, by simp, fun _ he hl => State.raise_keepsLatched he hl⟩

theorem raiseOnce (h : Writes ids s t) {ev d : Nat} {c : Bool} : Writes ids s (t.raiseOnce ev d c) := by
  unfold State.raiseOnce
  split
  · exact h.of_eq.raise
  · exact h

theorem uncause (h : Writes ids s t) {ev : Nat} : Writes ids s (t.uncause ev) :=
  h.of_eq (State.uncause_attrs ..) (State.uncause_host ..) fun e => State.uncause_latched t ev e

theorem enforceLimit (h : Writes ids s t) : Writes ids s t.enforceLimit :=
  h.trans ⟨fun _ _ hb => State.enforceLimit_find t hb, by simp, by simp,
    fun _ he hl => by
      obtain ⟨-, h0, h1⟩ := bookSources_ne he
      rwa [State.enforceLimit_latch _ h0 h1]⟩

theorem finish (h : Writes ids s t) {who : Issuer} {op st i : Nat} {r : List Byte} {l : Option Nat} {a : Nat} :
    Writes ids s (t.finish who op st i r l a) :=
  h.trans ⟨fun _ _ hb => State.finish_find t hb who op st i r l a, State.finish_orphans, by simp,
    fun _ he hl => by
      obtain ⟨h, h0, h1⟩ := bookSources_ne he
      rwa [State.finish_latch _ h h0 h1]⟩

theorem audit (h : Writes ids s t) {who : Issuer} {op st i a : Nat} : Writes ids s (t.audit who op st i a) :=
  h.trans ⟨fun _ _ hb => State.audit_find t hb who op st i a, by simp, by simp,
    fun _ he hl => by rwa [State.audit_latch _ (bookSources_ne he).1]⟩

theorem complete (h : Writes ids s t) {who : Issuer} {op st g : Nat} {r : List Byte} {l : Option Nat} :
    Writes ids s (t.complete who op st r l g) :=
  h.trans ⟨fun _ _ _ => by simp, State.complete_orphans, by simp, fun _ _ hl => by simpa using hl⟩

theorem countSafe (h : Writes ids s t) {before : State} : Writes ids s (before.countSafe t) :=
  h.trans ⟨fun _ _ hb => State.countSafe_find t hb before,
    by rw [(Evolves.countSafe (P := [.attrs, .store]) .refl).same .host (by decide)]; exact List.Subset.refl _,
    by rw [(Evolves.countSafe (P := [.attrs, .store]) .refl).same .host (by decide)], fun ev _ hl => by rwa [State.countSafe_latch]⟩

theorem ite (ht : Writes ids s t) (hu : Writes ids s u) {c : Prop} [Decidable c] : Writes ids s (if c then t else u) := by
  split <;> assumption

theorem when_ (h : Writes ids s t) {c : Bool} {f : State → State} (hf : Writes ids t (f t)) : Writes ids s (t.when_ c f) :=
  h.trans (.ite hf refl)

theorem forEach (h : Writes ids s t) {f : State → Nat → State} {l : List Nat} (hf : ∀ u : State, ∀ n ∈ l, Writes ids u (f u n)) :
    Writes ids s (t.forEach l f) := by
  refine h.trans ?_
  clear h
  induction l generalizing t with
  | nil => exact refl
  | cons n ns ih =>
    exact (hf t n List.mem_cons_self).trans (ih fun u m hm => hf u m (List.mem_cons_of_mem _ hm))

/-- A value of another id reads as before. -/
theorem attr (h : Writes ids s t) {a : AttrDesc} {i e : Nat} (ha : a.id ∉ ids := by decide) (hb : a.id ∉ bookAttrs := by decide)
    (hi : i < 65536 := by omega) (he : e < 65536 := by omega) : t.attr a i e = s.attr a i e :=
  State.attr_of_find (h.find _ (by rwa [keyId_key hi he]) (kept_key hb hi he))

/-- The completion of a command after such operations is the newest answer. -/
theorem answered (h : Writes ids s t) {who : Issuer} (hs : s.serves who) {op st i a : Nat} {r : List Byte} {l : Option Nat} :
    (t.finish who op st i r l a).answered who op st := hs.finish_answered h.orphans

theorem resultOf (h : Writes ids s t) {who : Issuer} (hs : s.serves who) {op i a : Nat} {r : List Byte} {l : Option Nat} :
    (t.finish who op 0 i r l a).resultOf who = r := hs.finish_resultOf h.orphans

end Writes

/-! ### Keys of one place -/

/-- Two attributes of different ids have different keys for one place and element. -/
theorem key_ne {a b : AttrDesc} {i e : Nat} (h : a.id ≠ b.id := by decide) (hs : a.shared = b.shared := by decide) :
    a.key i e ≠ b.key i e := by
  unfold AttrDesc.key
  rw [hs]
  omega

/-- Attributes of different instances have different keys. -/
theorem key_ne_of_inst {a b : AttrDesc} {i e j f : Nat} (h : i ≠ j) (ha : a.shared = false := by decide) (hb : b.shared = false := by decide)
    (hi : i < 65536 := by omega) (hj : j < 65536 := by omega) (he : e < 65536 := by omega) (hf : f < 65536 := by omega) :
    a.key i e ≠ b.key j f := by
  unfold AttrDesc.key
  rw [ha, hb]
  simp only [Bool.false_eq_true, if_false]
  omega

/-- A value that is not the one written reads as before. -/
theorem State.attr_put1_ne (s : State) {a b : AttrDesc} {i j f : Nat} {v : Int} (h : b.id ≠ a.id := by decide) (hi : i < 65536 := by omega)
    (hj : j < 65536 := by omega) (hf : f < 65536 := by omega) : (s.put1 a i v).attr b j f = s.attr b j f :=
  State.attr_put_other s v (key_ne_of_id h hj hf hi (by omega))

theorem State.attr_bump_ne (s : State) {a b : AttrDesc} {i j f : Nat} (h : b.id ≠ a.id := by decide) (hi : i < 65536 := by omega)
    (hj : j < 65536 := by omega) (hf : f < 65536 := by omega) : (s.bump a i).attr b j f = s.attr b j f :=
  s.attr_put1_ne h hi hj hf

theorem State.attr_bump_same (s : State) {a : AttrDesc} {i : Nat} :
    (s.bump a i).attr a i = (s.attr a i + 1) % (256 ^ a.bytes : Nat) := State.attr_put_same ..

/-- A value of another object reads as before. -/
theorem State.attr_put1_inst (s : State) {a b : AttrDesc} {i j f : Nat} {v : Int} (h : j ≠ i) (ha : a.shared = false := by decide)
    (hb : b.shared = false := by decide) (hi : i < 65536 := by omega) (hj : j < 65536 := by omega) (hf : f < 65536 := by omega) :
    (s.put1 a i v).attr b j f = s.attr b j f :=
  State.attr_put_other s v (key_ne_of_inst h hb ha hj hi hf (by omega))

end Sys2Proof.Machine
end

section
/-! The generic verbs that read: GET, BULK_GET and SUBSCRIBE (R348, R350, R361). -/

set_option Elab.async false

namespace Sys2Proof.Machine

variable {s t u : State} {who : Issuer}

/-! ### Results by pointer (R337, R343) -/

/-- A completion is written on a state whose host and trace its book-keeping left alone. -/
theorem State.finish_eq_complete (op st i : Nat) (r : List Byte) (l : Option Nat) (a : Nat) :
    ∃ v : State, v.host = s.host ∧ v.out = s.out ∧ s.finish who op st i r l a = v.complete who op st r l := by
  unfold State.finish
  split
  · exact ⟨_, by simp, by simp, rfl⟩
  · exact ⟨_, by simp, by simp, rfl⟩

/-- A result that is written and then completed reaches its buffer, or the console before the answer. -/
theorem State.handed_finish {buf : HostBuf} {v r : List Byte} {op st i : Nat} {l : Option Nat} {a : Nat} (hh : u.host = s.host := by rfl)
    (ho : u.out = s.out := by rfl) : s.handed ((u.writeResult who buf v).finish who op st i r l a) who buf v := by
  obtain ⟨w, hwh, hwo, hw⟩ := (u.writeResult who buf v).finish_eq_complete (who := who) op st i r l a
  rw [hw]
  cases who with
  | ring c g =>
    have hout : w.out = .hostWrite buf.addr v :: s.out := by rw [hwo, ← ho]; rfl
    unfold State.complete
    dsimp only
    split <;> exact hout
  | spi => simp [State.handed, State.complete, State.writeResult, hwh, hh]
  | console => simp [State.handed, State.complete, State.writeResult, State.emit, hwo, hh, ho]

theorem State.writeResult_rings {buf : HostBuf} {v : List Byte} : (s.writeResult who buf v).host.rings = s.host.rings := by
  cases who <;> rfl

theorem State.writeResult_inflight {buf : HostBuf} {v : List Byte} : (s.writeResult who buf v).host.inflight = s.host.inflight := by
  cases who <;> rfl

theorem State.writeResult_orphans {buf : HostBuf} {v : List Byte} : (s.writeResult who buf v).host.orphans ⊆ s.host.orphans := by
  cases who <;> exact List.Subset.refl _

/-- A result by pointer changes nothing beside its buffer and the completion. -/
theorem State.framed_writeResult {buf : HostBuf} {v : List Byte} {op st i : Nat} {r : List Byte} {l : Option Nat} {a : Nat}
    {parts : List Part} {keys : List Nat} : s.framed ((s.writeResult who buf v).finish who op st i r l a) parts keys := by
  refine State.framed_finish ?_ (fun _ _ => by simp) (by simp) (by simp) State.writeResult_rings State.writeResult_inflight ..
  exact State.sameBut_mono (Evolves.writeResult (P := [.host, .out]) .refl).same (by simp)

/-! ### Subscriptions (R361) -/

theorem testBit_run (first count ev : Nat) : ((2 ^ count - 1) * 2 ^ first).testBit ev = decide (first ≤ ev ∧ ev < first + count) := by
  rw [Nat.testBit_mul_two_pow, Nat.testBit_two_pow_sub_one]
  grind

theorem bitOf_setBits (v first count ev : Nat) (on : Bool) :
    bitOf (setBits v first count on) ev = if first ≤ ev ∧ ev < first + count then on else bitOf v ev := by
  cases on <;> simp [bitOf_eq_testBit, setBits, testBit_run] <;> grind

/-- Settles O9: the action has its effect, which is a read of the attributes or the change of one client's subscriptions. -/
theorem readingVerbs : Obligations.ReadingVerbs := by
  unfold Obligations.ReadingVerbs
  refine ⟨fun s who inst first count n a buf hs ha hr hrun hinst hstate hbuf hsize => ?_,
    fun s who inst first count n a buf hs ha hr hrun hinst hstate hbuf hok hsize => ?_, fun s who buf items hs hne hlen hok hsize => ?_,
    fun s who first count on hs hc hcount hlast hon => ?_⟩
  · refine ⟨s.finish who 0x00F0 0 inst (s.readRun a inst first n), ?_, hs.finish_answered, hs.finish_resultOf, State.framed_finish_self⟩
    refine congrArg Host.Outcome.next ((State.act_ok _ hs.1 (by simp [hbuf]) (by simpa [ha] using hr) ?_).trans ?_)
    · simpa [firstRefusal_none, ha, hrun, hstate, hbuf, hsize] using hinst
    · simp [ha, hrun, hbuf]
  · refine ⟨(s.writeResult who buf (s.readRun a inst first n)).finish who 0x00F0 0 inst [] (some (n * a.bytes)), ?_,
      hs.finish_answered State.writeResult_orphans, State.handed_finish, State.framed_writeResult⟩
    refine congrArg Host.Outcome.next ((State.act_ok _ hs.1 (by simp [ha, hrun, hok]) (by simpa [ha] using hr) ?_).trans ?_)
    · simpa [firstRefusal_none, ha, hrun, hstate, hbuf, hsize] using hinst
    · simp [ha, hrun, hbuf]
  · refine ⟨_, congrArg Host.Outcome.next (State.act_ok _ hs.1 hok rfl ?_), hs.finish_answered State.writeResult_orphans,
      State.handed_finish, State.framed_writeResult⟩
    simpa [firstRefusal_none, hne, hlen] using hsize
  · refine ⟨_, congrArg Host.Outcome.next (State.doAct_ok _ hs.1 rfl rfl ?_), ?_⟩
    · simp [firstRefusal_none]
      omega
    rw [if_neg hc]
    refine ⟨hs.finish_answered, fun ev => ?_, fun c ev hne => ?_, ?_, ?_⟩
    · simp [State.subscribed, bitOf_setBits]
    · simp [State.subscribed, tblGet_set_other _ _ _ _ hne]
    · exact (Evolves.finish (P := bookParts) (.withFaults .refl)).same
    · intro k _ hk
      exact State.finish_find _ hk ..

end Sys2Proof.Machine
end

section
/-! SET of a value that takes none: a Lehr value of a TODGEN is read-only, and R241 answers E_STATE for it. -/

set_option Elab.async false

namespace Sys2Proof.Machine

/-- A SET of `lehr_state` of a TODGEN on a module out of reset is answered E_STATE, though it is read-only. -/
theorem set_todgen_lehr_state :
    (nextOr State.reset (exec (.set .console 0 Attr.todgen_lehr_state.id 0 1 [0]) State.reset)).out.head? =
      some (.console "" false E_STATE []) := by decide +kernel

/-- Refutes O10: its second clause asks E_READ_ONLY of all read-only attributes, but `lehr_state` of a TODGEN, which is read-only,
answers E_STATE, as a TODGEN has no Lehr (R241). -/
theorem not_setWrites : ¬ Obligations.SetWrites := by
  unfold Obligations.SetWrites
  rintro ⟨-, hreadOnly⟩
  have hserves : State.reset.serves .console := ⟨rfl, trivial⟩
  obtain ⟨t, hexec, ⟨name, signed, bytes, hout⟩, -⟩ :=
    hreadOnly State.reset .console 0 0 1 Attr.todgen_lehr_state [0] hserves rfl rfl rfl rfl
  have hstate := set_todgen_lehr_state
  rw [hexec, nextOr, hout] at hstate
  simp [E_READ_ONLY, E_STATE] at hstate

end Sys2Proof.Machine
end

section
/-! Firmware updates (R353): what opening, filling, closing and selecting a slot write. -/

set_option Elab.async false

namespace Sys2Proof.Machine

variable {s t u : State} {keys : List Nat}

theorem State.attrsKept.noteFw (h : s.attrsKept t keys) {n : Nat} {o : FwOpen} (h0 : Attr.fw_update.key 0 0 ∈ keys := by simp)
    (h1 : Attr.fw_update.key 0 1 ∈ keys := by simp) : s.attrsKept (t.noteFw n o) keys := (h.put h0).put h1

theorem State.attrsKept.setSlot (h : s.attrsKept t keys) {slot : Nat} {i : ImageSlot} (h0 : Attr.slot_valid.key 0 0 ∈ keys := by simp)
    (h1 : Attr.slot_versions.key 0 (2 * slot) ∈ keys := by simp) (h2 : Attr.slot_versions.key 0 (2 * slot + 1) ∈ keys := by simp) :
    s.attrsKept (t.setSlot slot i) keys := (((h.put1 h0).put h1).put h2).of_eq

@[simp] theorem State.noteFw_boot (n : Nat) (o : FwOpen) : (s.noteFw n o).boot = s.boot := by simp [State.noteFw]

theorem State.noteFw_slotValid (n : Nat) (o : FwOpen) : (s.noteFw n o).attr Attr.slot_valid = s.attr Attr.slot_valid := by
  unfold State.noteFw
  rw [State.attr_put_other _ _ (by decide), State.attr_put_other _ _ (by decide)]

theorem bitOf_clear_set (m slot : Nat) (b : Bool) (h : slot ≤ 1) :
    bitOf (m - (if bitOf m slot then 2 ^ slot else 0) + (if b then 2 ^ slot else 0)) slot = b := by
  unfold bitOf
  obtain rfl | rfl : slot = 0 ∨ slot = 1 := by omega
  all_goals cases b <;> simp only [beq_iff_eq] <;> split <;> simp <;> omega

/-- A slot is marked valid or invalid as its image says. -/
theorem State.setSlot_valid {slot : Nat} {i : ImageSlot} (h : slot ≤ 1) : bitOf ((s.setSlot slot i).attrN Attr.slot_valid) slot = i.valid := by
  have hversion : ∀ e, e < 65536 → Attr.slot_valid.key 0 0 ≠ Attr.slot_versions.key 0 e := fun e he =>
    key_ne_of_id (by decide) (by decide) (by decide) (by decide) he
  have hattr : (s.setSlot slot i).attr Attr.slot_valid =
      (s.attrN Attr.slot_valid - (if bitOf (s.attrN Attr.slot_valid) slot then 2 ^ slot else 0) + (if i.valid then 2 ^ slot else 0) : Nat) := by
    refine (State.attr_put_other _ _ (hversion _ (by omega))).trans ((State.attr_put_other _ _ (hversion _ (by omega))).trans ?_)
    exact State.attr_put1_same ..
  rw [State.attrN, hattr, Int.toNat_natCast, bitOf_clear_set _ _ _ h]

/-- Settles O11: each action writes the attributes of the slot and of the update, and the update that is open. -/
theorem firmwareUpdate : Obligations.FirmwareUpdate := by
  unfold Obligations.FirmwareUpdate
  refine ⟨fun s who slot total hs hc hslot hpos hmax hact hfw => ?_, fun s who offset length data u hs hc hfw hface hoff hpos hlen hfit => ?_,
    fun s who slot u holax batt hs hc hslot hfw hface hu hbytes hpair => ?_, fun s who slot hs hc hslot hvalid => ?_⟩
  · refine ⟨_, congrArg Host.Outcome.next (State.doAct_ok _ hs.1 rfl (s.permits_owner0 hc) ?_),
      hs.finish_answered (State.orphans_of_effect (parts := [.boot]) ?begun), ?_, ?_, State.framed_of_effect ?begun ?_⟩
    · simp [firstRefusal_none, hfw]
      omega
    · exact (Evolves.noteFw (.setBoot (.setSlot .refl))).same
    · rw [State.attrN, State.finish_attr _ (by decide) (by decide) (by decide), State.noteFw_slotValid]
      exact State.setSlot_valid hslot
    · simp [State.setBoot]
    · exact ((State.attrsKept_refl.setSlot (slot := slot)).of_eq).noteFw
  · subst hoff
    refine ⟨_, congrArg Host.Outcome.next ((State.act_ok _ hs.1 rfl (s.permits_owner0 hc) ?_).trans (if_neg (by simp))), ?_⟩
    · simp [firstRefusal_none, hfw, hface]
      omega
    simp only [hfw, Option.getD_some]
    refine ⟨hs.finish_answered (State.orphans_of_effect (parts := [.boot]) ?wrote), by simp [State.setBoot],
      hs.finish_resultOf (State.orphans_of_effect (parts := [.boot]) ?wrote), State.framed_of_effect ?wrote (State.attrsKept_refl.of_eq).noteFw⟩
    exact (Evolves.noteFw (.setBoot .refl)).same
  · have hstatus : fwStatus u (u.crc ^^^ 0xFFFFFFFF) true (s.pairOk holax batt) true = 0 := by simp [fwStatus, hbytes, hpair]
    refine ⟨_, congrArg Host.Outcome.next (State.act_ok _ hs.1 rfl (s.permits_owner0 hc) ?_), ?_⟩
    · simpa [firstRefusal_none, hfw, hface, hu] using hslot
    simp only [hfw, hstatus, reduceIte]
    refine ⟨?_, ?_, State.raise_latched, State.framedRaise_of (.raise (.finish (.setSlot (.noteFw (.setBoot .refl))))) ?_ ?_⟩
    · simp [State.setSlot, State.setBoot]
      split <;> rfl
    · rw [State.attrN, State.raise_attr _ (by decide) (by decide) (by decide), State.finish_attr _ (by decide) (by decide) (by decide)]
      exact State.setSlot_valid hslot
    · exact ((State.attrsKept_refl.of_eq.noteFw).setSlot (slot := slot)).finish.raise
    · simp [State.setSlot, State.noteFw, State.setBoot]
  · refine ⟨_, congrArg Host.Outcome.next (State.doAct_ok _ hs.1 rfl (s.permits_owner0 hc) ?_), hs.finish_answered, ?_,
      State.framed_of_effect (Evolves.put1 .refl).same State.attrsKept_refl.put1⟩
    · simpa [firstRefusal_none, hvalid] using hslot
    · rw [State.finish_attr _ (by decide) (by decide) (by decide), State.attr_put1_same]

end Sys2Proof.Machine
end

section
/-! The reports and logs of SYSTEM, and records read from table memory (R307, R354, R355, R403). -/

set_option Elab.async false

namespace Sys2Proof.Machine

variable {s : State} {who : Issuer}

/-! ### Records read from table memory (R307, R355) -/

/-- The check of a frame without errors changes nothing (R374). -/
theorem State.findCheck_clean {lpn : Nat} (h : (s.frame (s.frameOf lpn)).checkErrors = 0) : s.findCheck lpn = s := by
  simp [State.findCheck, h]

theorem State.forEach_findCheck_clean (h : ∀ lpn, (s.frame (s.frameOf lpn)).checkErrors = 0) (l : List Nat) :
    s.forEach l State.findCheck = s :=
  State.forEach_induct (P := (· = s)) _ (fun u lpn hu => by rw [hu, State.findCheck_clean (h lpn)]) l s rfl

/-- Where no frame has errors and no page is poisoned, the records that a ring still holds are handed over as they stand. -/
theorem State.finishRead_clean {op inst size oldest past first count : Nat} {slot : Nat → Nat} {buf : HostBuf}
    (hclean : ∀ lpn, (s.frame (s.frameOf lpn)).checkErrors = 0) (hpoison : ∀ lpn, s.poisoned lpn = false) (hfirst : oldest ≤ first)
    (hmax : first ≠ 2 ^ 64 - 1) (hcount : count ≤ past - first) :
    s.finishRead who op inst buf size slot oldest past first count =
      (s.writeResult who buf ((List.range count).flatMap fun k => s.tm.read (slot (first + k)) size)).finish who op 0 inst
        (bytesLE 8 first ++ bytesLE 2 count) := by
  have hfrom : (if first < oldest ∨ first = 2 ^ 64 - 1 then oldest else first) = first := if_neg (by omega)
  have hread : ∀ a n, s.tmRead a n = s.tm.read a n := fun a n => if_neg (by simp [hpoison])
  unfold State.finishRead State.copyRecords
  simp only [hfrom, Nat.min_eq_left hcount, State.forEach_findCheck_clean hclean, hread]
  exact if_neg (by simp [hpoison])

/-- Settles O12: each report is formed from the state, which its completion leaves alone. -/
theorem systemReports : Obligations.SystemReports := by
  unfold Obligations.SystemReports
  refine ⟨fun s who hs hc => ?_, fun s who domains buf hs hne hlen hall hbuf => ?_,
    fun s who log count first buf hs hc hlog hpos hcount hpower hbuf hpoison hclean hheld hfirst hrest => ?_⟩
  · refine ⟨_, congrArg Host.Outcome.next (State.act_ok _ hs.1 rfl (s.permits_owner0 hc) firstRefusal_nil), ?_⟩
    exact ⟨hs.finish_answered, hs.finish_resultOf, State.framed_finish_self⟩
  · refine ⟨_, congrArg Host.Outcome.next (State.act_ok _ hs.1 hbuf rfl ?_), hs.finish_answered State.writeResult_orphans,
      State.handed_finish, State.framed_writeResult⟩
    simpa [firstRefusal_none, hne, hlen] using hall
  · have hcap : logCapacity log < 2 ^ 64 - 1 := by
      obtain rfl | rfl | rfl : log = 0 ∨ log = 1 ∨ log = 2 := by omega
      all_goals decide
    refine ⟨_, congrArg Host.Outcome.next ((State.act_ok _ hs.1 hbuf (s.permits_owner0 hc) ?_).trans
        (State.finishRead_clean hclean hpoison (by omega) (by omega) hrest)), ?_⟩
    · simp [firstRefusal_none, hpower]
      omega
    · exact ⟨hs.finish_answered State.writeResult_orphans, hs.finish_resultOf State.writeResult_orphans, State.handed_finish,
        State.framed_writeResult⟩

end Sys2Proof.Machine
end

section
/-! Power states and factory mode (R412 to R416, R446). -/

set_option Elab.async false

namespace Sys2Proof.Machine

variable {s t : State} {who : Issuer}

/-! ### The power state (R413, R420) -/

theorem State.settleSlots_sameBut : s.sameBut s.settleSlots [.pmcs] := (Evolves.settleSlots .refl).same

theorem State.setPower_attr {k : Nat} : (s.setPower k).attr Attr.power_state = k := by
  rw [State.setPower, State.raise_attr _ (by decide) (by decide) (by decide), State.attr_put1_same]

theorem State.setPower_latched {k : Nat} : ((s.setPower k).latch 489).latched = true := State.raise_latched

theorem State.setPower_boot {k : Nat} : (s.setPower k).boot = s.boot := (Evolves.setPower (P := .pmcs :: raiseParts) .refl).same .boot (by decide)

theorem State.setPower_orphans {k : Nat} : (s.setPower k).host.orphans ⊆ s.host.orphans := by
  have hhost : s.settleSlots.host = s.host := State.settleSlots_sameBut .host (by decide)
  refine List.Subset.trans State.raise_orphans ?_
  rw [State.put1_host, hhost]
  exact List.Subset.refl _

theorem State.setPower_rings {k : Nat} : (s.setPower k).host.rings = s.host.rings := by
  have hhost : s.settleSlots.host = s.host := State.settleSlots_sameBut .host (by decide)
  rw [State.setPower, State.raise_rings, State.put1_host, hhost]

theorem State.attrsKept.setPower {keys : List Nat} (h : s.attrsKept t keys) {k : Nat} (hk : Attr.power_state.key 0 0 ∈ keys := by simp) :
    s.attrsKept (t.setPower k) keys :=
  ((h.of_eq (State.settleSlots_sameBut .attrs (by decide))).put1 hk).raise

/-- The end of a standby sleep writes nothing but its own state. -/
theorem State.sleepTransition_attrsKept {k : Nat} (h : s.mate.agreement = none) :
    s.attrsKept (s.sleepTransition k) [Attr.mate_sleep_state.key 0 0] := by
  unfold State.sleepTransition
  rw [if_neg (by simp [h])]
  exact .ite (.ite (State.attrsKept_refl.raise.put1) State.attrsKept_refl.raise) State.attrsKept_refl

theorem State.sleepTransition_latch {k ev : Nat} (h : s.mate.agreement = none) (hne : ev ≠ 549) (hev : ev ∉ bookSources) :
    (s.sleepTransition k).latch ev = s.latch ev := by
  have hraise : (s.mateEvent 549).latch ev = s.latch ev := State.raise_latch_other s hne hev ..
  unfold State.sleepTransition
  rw [if_neg (by simp [h])]
  split
  · dsimp only
    split
    · rw [State.latch_of_faults (State.put1_faults ..), hraise]
    · exact hraise
  · rfl

theorem State.sleepTransition_boot {k : Nat} (h : s.mate.agreement = none) : (s.sleepTransition k).boot = s.boot := by
  unfold State.sleepTransition
  rw [if_neg (by simp [h])]
  split
  · dsimp only
    split <;> simp [State.mateEvent]
  · rfl

/-! ### The halt of a warm reset (R409) -/

theorem State.attrsKept.closeFw {keys : List Nat} (h : s.attrsKept t keys) (h0 : Attr.fw_update.key 0 0 ∈ keys := by simp)
    (h1 : Attr.fw_update.key 0 1 ∈ keys := by simp) : s.attrsKept t.closeFw keys := by
  unfold State.closeFw
  split
  · exact h.of_eq.noteFw h0 h1
  · exact h

@[simp] theorem State.dropSramInjection_attrs {p : Nat → Bool} : (s.dropSramInjection p).attrs = s.attrs :=
  (Evolves.dropSramInjection (P := [.faults]) .refl).same .attrs (by decide)

@[simp] theorem State.dropSramInjection_boot {p : Nat → Bool} : (s.dropSramInjection p).boot = s.boot :=
  (Evolves.dropSramInjection (P := [.faults]) .refl).same .boot (by decide)

@[simp] theorem State.dropSramInjection_latch {p : Nat → Bool} {ev : Nat} : (s.dropSramInjection p).latch ev = s.latch ev := by
  unfold State.dropSramInjection
  split
  · split <;> rfl
  · rfl

@[simp] theorem State.closeFw_latch {ev : Nat} : s.closeFw.latch ev = s.latch ev := by
  refine State.latch_of_faults ?_ ev
  exact (Evolves.closeFw (P := [.attrs, .store, .boot]) .refl).same .faults (by decide)

theorem State.closeFw_transition : s.closeFw.boot.transition = s.boot.transition := by
  unfold State.closeFw
  split
  · simp [State.setBoot]
  · rfl

theorem State.haltControl_attrsKept : s.attrsKept s.haltControl [Attr.fw_update.key 0 0, Attr.fw_update.key 0 1] := by
  refine State.attrsKept.closeFw (.of_eq (.of_eq State.attrsKept_refl ?_) State.dropSramInjection_attrs)
  rw [State.setBoot_attrs]
  exact State.settleSlots_sameBut .attrs (by decide)

theorem State.haltControl_latch {ev : Nat} : s.haltControl.latch ev = s.latch ev := by
  unfold State.haltControl
  rw [State.closeFw_latch, State.dropSramInjection_latch]
  exact State.latch_of_faults (by rw [State.setBoot_faults]; exact State.settleSlots_sameBut .faults (by decide)) ev

theorem State.haltControl_transition : s.haltControl.boot.transition = s.boot.transition := by
  unfold State.haltControl
  rw [State.closeFw_transition, State.dropSramInjection_boot]
  rfl

/-- A power-state transition to `k` has ended (R413, R420). -/
def State.powerIs (t : State) (k : Nat) : Prop :=
  t.attr Attr.power_state = k ∧ t.boot.transition = none ∧ (t.latch 489).latched = true

/-- A transition that ends gives the power state, and the sleep of a standby that it ends leaves it alone. -/
theorem State.transitionEnded (h : s.mate.agreement = none) (k : Nat) :
    (((s.setBoot { s.boot with transition := none }).setPower k).sleepTransition k).powerIs k := by
  have hmate : ((s.setBoot { s.boot with transition := none }).setPower k).mate.agreement = none := by
    rw [← h]
    exact congrArg _ ((Evolves.setPower (P := .pmcs :: raiseParts) .refl).same .mate (by decide))
  refine ⟨?_, ?_, ?_⟩
  · rw [(State.sleepTransition_attrsKept hmate).attr (by decide), State.setPower_attr]
  · rw [State.sleepTransition_boot hmate, State.setPower_boot]
    rfl
  · rw [State.sleepTransition_latch hmate (by decide) (by decide)]
    exact State.setPower_latched

theorem State.powerIs.halted {k : Nat} (h : s.powerIs k) : s.haltControl.powerIs k := by
  obtain ⟨hattr, htrans, hlatch⟩ := h
  exact ⟨(State.haltControl_attrsKept.attr (by decide)).trans hattr, State.haltControl_transition.trans htrans, by rwa [State.haltControl_latch]⟩

/-- Settles O13: a change between RUN and QUIET writes the power state at once; the end of a transition writes it and may begin a
warm reset that waited, which leaves it alone; and factory mode is set where the token is issued. -/
theorem systemControl : Obligations.SystemControl := by
  unfold Obligations.SystemControl
  refine ⟨fun s who state hs hc hle hne hdormant hmate hfw => ?_, fun s env k hphase htrans hk hpower hagree => ?_,
    fun s who token hs hc hlow => ?_⟩
  · refine ⟨_, congrArg Host.Outcome.next (State.doAct_ok _ hs.1 rfl (s.permits_owner0 hc) ?_), ?_⟩
    · simp [firstRefusal_none, hne, hfw]
      exact ⟨hle, hdormant, hmate⟩
    by_cases hquick : state ≤ 1 ∧ s.attr Attr.power_state ≤ 1
    · simp only [hquick, and_self, reduceIte]
      refine ⟨hs.finish_answered ?_, ⟨?_, ?_, ?_⟩, State.framedRaise_of (.finish (.setPower (.setBoot .refl))) ?_ ?_⟩
      · exact State.setPower_orphans
      · rw [State.finish_attr _ (by decide) (by decide) (by decide), State.setPower_attr]
      · rw [State.finish_boot, State.setPower_boot]
        rfl
      · rw [State.finish_latch _ (by decide) (by decide) (by decide)]
        exact State.setPower_latched
      · exact (State.attrsKept_refl.of_eq.setPower).finish
      · rw [State.finish_rings, State.setPower_rings]
        rfl
    · simp only [hquick, reduceIte]
      refine ⟨hs.finish_answered, ⟨by simp [State.setBoot], ?_⟩, State.framedRaise_of (.finish (.setBoot .refl)) State.attrsKept_refl.of_eq.finish⟩
      rw [State.finish_attr _ (by decide) (by decide) (by decide)]
      rfl
  · have hended := State.transitionEnded (s := s) hagree k
    have hk3 : k ≠ 3 := by omega
    have hrun : decide (s.boot.phase = .running) = true := decide_eq_true hphase
    refine ⟨_, by simp only [exec, execPowerTransitionComplete, htrans, State.when_, if_pos hrun, if_neg hk3, if_neg hpower]; rfl, ?_⟩
    split
    · exact hended.halted
    · exact hended
  · by_cases htoken : Config.tokenIssued token s.serial
    · refine ⟨_, congrArg Host.Outcome.next (State.doAct_ok _ hs.1 rfl (s.permits_owner0 hc) ?_), ?_⟩
      · simp [hlow, htoken]
      simp only [htoken, reduceIte]
      refine ⟨hs.finish_answered ?_, ?_, ?_, State.framedRaise_of (.finish (.raise (.put1 .refl))) State.attrsKept_refl.put1.raise.finish ?_⟩
      · exact List.Subset.trans State.raise_orphans (by simp)
      · rw [State.finish_attr _ (by decide) (by decide) (by decide), State.raise_attr _ (by decide) (by decide) (by decide), State.attr_put1_same]
      · rw [State.finish_latch _ (by decide) (by decide) (by decide)]
        exact State.raise_latched
      · simp
    · refine ⟨_, congrArg Host.Outcome.next (State.act_refused _ hs.1 rfl (s.permits_owner0 hc) (code := E_FACTORY) ?_), ?_⟩
      · simp [htoken]
      simp only [htoken, Bool.false_eq_true, reduceIte]
      exact ⟨hs.finish_answered, State.framed_finish_self⟩

end Sys2Proof.Machine
end

section
/-! The comparator (R41, R42). The statement about it speaks of the oscillators without a bound on their number, and an element number
beyond the elements of `osc_state` names the place of another value. -/

set_option Elab.async false

namespace Sys2Proof.Machine

/-- The element number that names, as one of `osc_state`, the place of `closure_error`. -/
def closureElement : Nat := (Attr.closure_error.id - Attr.osc_state.id) * 2 ^ 32

theorem key_closureElement : Attr.osc_state.key 0 closureElement = Attr.closure_error.key 0 0 := by decide

/-- A module out of reset whose last comparison closed within 1 fs. -/
def closedBefore : State := State.reset.put1 Attr.closure_error 0 1

/-- A comparison that does not close by 20 ps leaves there the value of no state but the first. -/
theorem osc_closureElement_moves :
    closedBefore.osc closureElement = .absent ∧
      (nextOr closedBefore (exec (.comparatorMeasurement 20000 0 0 none) closedBefore)).osc closureElement = .notFitted := by
  decide +kernel

/-- Refutes O14: its first clause says that a bad closure leaves `osc m` alone for every number m, and for the number under which
`closure_error` stands it does not: the measurement writes that value. -/
theorem not_crucibleMeasurement : ¬ Obligations.CrucibleMeasurement := by
  unfold Obligations.CrucibleMeasurement
  rintro ⟨hmeasure, -⟩
  obtain ⟨t, hexec, -, hbad, -⟩ := hmeasure closedBefore 20000 0 0 none (by decide +kernel) (by decide +kernel)
  rw [if_pos (by decide)] at hbad
  obtain ⟨-, -, -, -, hosc, -⟩ := hbad
  obtain ⟨hbefore, hafter⟩ := osc_closureElement_moves
  rw [hexec, nextOr, hosc, hbefore] at hafter
  cases hafter

end Sys2Proof.Machine
end

section
/-! The evaluation of the oscillators (R45, R56). As for the comparator, the statement speaks of the oscillators without a bound on
their number. -/

set_option Elab.async false

namespace Sys2Proof.Machine

/-- The element number that names, as one of `osc_state`, the place of the first element of `osc_freq_offset`. -/
def offsetElement : Nat := (Attr.osc_freq_offset.id - Attr.osc_state.id) * 2 ^ 32

theorem key_offsetElement : Attr.osc_state.key 0 offsetElement = Attr.osc_freq_offset.key 0 0 := by decide

/-- A module out of reset whose last evaluation found OSC0 off by one unit. -/
def offsetBefore : State := State.reset.put Attr.osc_freq_offset 0 0 1

/-- An evaluation that finds no offset leaves there the value of no state but the first. -/
theorem osc_offsetElement_moves :
    offsetBefore.osc offsetElement = .absent ∧
      (nextOr offsetBefore (exec (.outvoteEvaluation []) offsetBefore)).osc offsetElement = .notFitted := by
  decide +kernel

/-- Refutes O16: its second clause says that an evaluation which outvotes nobody leaves `osc m` alone for every number m, and for the
number under which `osc_freq_offset` stands it does not: the evaluation writes that value. -/
theorem not_crucibleEvaluation : ¬ Obligations.CrucibleEvaluation := by
  unfold Obligations.CrucibleEvaluation
  rintro ⟨-, hnobody, -⟩
  obtain ⟨t, hexec, hosc⟩ := hnobody offsetBefore [] (by decide +kernel) (by decide +kernel)
  obtain ⟨hbefore, hafter⟩ := osc_offsetElement_moves
  rw [hexec, nextOr, hosc, hbefore] at hafter
  cases hafter

end Sys2Proof.Machine
end

section
/-! The members of the ensemble (R42, R48, R51, R52): what joining, leaving and readmission write. -/

set_option Elab.async false

namespace Sys2Proof.Machine

variable {s t u : State} {keys : List Nat} {m : Nat}

theorem State.attrsKept.putList (h : s.attrsKept t keys) {a : AttrDesc} {i e : Nat} {vs : List Int}
    (hk : ∀ j < vs.length, a.key i (e + j) ∈ keys) : s.attrsKept (t.putList a i e vs) keys := by
  induction vs generalizing t e with
  | nil => exact h
  | cons v vs ih =>
    refine ih (h.put (by simpa using hk 0 (by simp))) fun j hj => ?_
    have := hk (j + 1) (by simpa using hj)
    rwa [show e + 1 + j = e + (j + 1) by omega]

/-! ### The weights (R43, R44) -/

/-- The places of the weights as they read, and of the lead. -/
def weightKeys : List Nat :=
  [Attr.osc_weight.key 0 0, Attr.osc_weight.key 0 1, Attr.osc_weight.key 0 2, Attr.osc_weight.key 0 3, Attr.lead_osc.key 0 0]

theorem weightKeys_of_lt (h : m < 4) : Attr.osc_weight.key 0 m ∈ weightKeys := by
  simp only [weightKeys, List.mem_cons]
  obtain rfl | rfl | rfl | rfl : m = 0 ∨ m = 1 ∨ m = 2 ∨ m = 3 := by omega
  all_goals simp

theorem State.attrsKept.putWeights (h : s.attrsKept t weightKeys) {f : Nat → Int} :
    s.attrsKept (t.putList Attr.osc_weight 0 0 ((List.range 4).map f)) weightKeys :=
  h.putList fun j hj => by
    rw [Nat.zero_add]
    exact weightKeys_of_lt (by simpa using hj)

theorem State.settleWeights_attrsKept : s.attrsKept s.settleWeights weightKeys :=
  State.attrsKept_refl.putWeights.put1 (by simp [weightKeys])

theorem State.reweigh_attrsKept : s.attrsKept s.reweigh weightKeys :=
  .ite State.settleWeights_attrsKept (State.attrsKept_refl.of_eq.andThen State.settleWeights_attrsKept)

theorem State.afterLeaving_attrsKept : s.attrsKept s.afterLeaving weightKeys :=
  .ite (State.attrsKept_refl.putWeights.andThen State.settleWeights_attrsKept) State.reweigh_attrsKept

/-! ### The states of the members -/

theorem State.osc_setOsc {x : OscState} : (s.setOsc m x).osc m = x := by
  rw [State.osc, State.setOsc, State.attr_put_same]
  cases x <;> rfl

/-- What keeps the attributes outside some keys keeps the state of every member whose place is not among them. -/
theorem State.attrsKept.osc (h : s.attrsKept t keys) (hm : m < 4) (hk : Attr.osc_state.key 0 m ∉ keys) : t.osc m = s.osc m :=
  congrArg OscState.ofCode (h.attr hk)

theorem osc_notin_weightKeys (hm : m < 4) : Attr.osc_state.key 0 m ∉ weightKeys := by
  obtain rfl | rfl | rfl | rfl : m = 0 ∨ m = 1 ∨ m = 2 ∨ m = 3 := by omega
  all_goals decide

/-! ### Outvoting (R45, R47, R52) -/

/-- The places that an outvote of a member writes. -/
def outvoteKeys (m : Nat) : List Nat := Attr.osc_state.key 0 m :: Attr.outvote_count.key 0 m :: weightKeys

/-- The state of an outvoted member before its source is raised. -/
def State.outvoted (s : State) (m : Nat) (oven : Bool) : State :=
  let t := s.setOsc m .outvoted
  let u := { t with crucible := { t.crucible with
    ramps := tblDrop t.crucible.ramps m
    cause := tblSet t.crucible.cause 0 m (boolNat oven) } }
  (u.afterLeaving.add Attr.outvote_count 0 m 1).enforceLimit

theorem State.outvote_eq {oven : Bool} : s.outvote m oven = ((s.outvoted m oven).raise (320 + m) true m).judgeSingle := rfl

/-- After its state is written, an outvote writes its count and the weights. -/
theorem State.outvoted_attrsKept {oven : Bool} :
    (s.setOsc m .outvoted).attrsKept (s.outvoted m oven) (Attr.outvote_count.key 0 m :: weightKeys) := by
  refine State.attrsKept.enforceLimit (State.attrsKept.add ?_)
  exact (State.attrsKept_refl.of_eq).andThen State.afterLeaving_attrsKept

theorem State.judgeSingle_attrsKept : s.attrsKept s.judgeSingle keys := .ite State.attrsKept_refl.raise State.attrsKept_refl

theorem State.outvote_attrsKept_setOsc {oven : Bool} :
    (s.setOsc m .outvoted).attrsKept (s.outvote m oven) (Attr.outvote_count.key 0 m :: weightKeys) :=
  State.outvoted_attrsKept.raise.trans State.judgeSingle_attrsKept

theorem State.setOsc_attrsKept {x : OscState} : s.attrsKept (s.setOsc m x) [Attr.osc_state.key 0 m] := State.attrsKept_refl.put

theorem State.outvote_attrsKept {oven : Bool} : s.attrsKept (s.outvote m oven) (outvoteKeys m) :=
  (State.setOsc_attrsKept.mono (by simp [outvoteKeys])).andThen State.outvote_attrsKept_setOsc (by simp [outvoteKeys])

theorem osc_notin_outvoteKeys (hm : m < 4) : Attr.osc_state.key 0 m ∉ Attr.outvote_count.key 0 m :: weightKeys := by
  obtain rfl | rfl | rfl | rfl : m = 0 ∨ m = 1 ∨ m = 2 ∨ m = 3 := by omega
  all_goals decide

theorem State.outvote_osc {oven : Bool} (hm : m < 4) : (s.outvote m oven).osc m = .outvoted :=
  (State.outvote_attrsKept_setOsc.osc hm (osc_notin_outvoteKeys hm)).trans State.osc_setOsc

theorem variant_notin_outvoteKeys (hm : m < 4) : Attr.variant.key 0 0 ∉ outvoteKeys m := by
  obtain rfl | rfl | rfl | rfl : m = 0 ∨ m = 1 ∨ m = 2 ∨ m = 3 := by omega
  all_goals decide

theorem State.judgeSingle_latch {ev : Nat} (hne : ev ≠ 325) (hev : ev ∉ bookSources) : s.judgeSingle.latch ev = s.latch ev := by
  unfold State.judgeSingle
  split
  · exact State.raise_latch_other s hne hev ..
  · rfl

/-- Every source of a Q3 is fitted. -/
theorem State.notFitted_q3 {ev : Nat} (h : s.isQ3 = true) : s.notFitted ev = false := by
  have hlt : s.attr Attr.variant < 2 := of_decide_eq_true h
  have hnot : decide (2 ≤ s.attr Attr.variant) = false := decide_eq_false (by omega)
  rw [State.notFitted, hnot, Bool.false_and]

theorem State.isQ3_of_attrsKept (h : s.attrsKept t keys) (hk : Attr.variant.key 0 0 ∉ keys) : t.isQ3 = s.isQ3 := by
  rw [State.isQ3, State.isQ3, h.attr hk]

/-- The oscillators whose sources are fitted on this variant. -/
def State.oscFitted (s : State) (m : Nat) : Prop := m = 0 ∨ m = 3 ∨ s.isQ3 = true

theorem State.oscFitted.notFitted (h : s.oscFitted m) (hm : m < 4) : s.notFitted (320 + m) = false := by
  obtain rfl | rfl | hq3 := h
  · exact State.notFitted_of (by decide)
  · exact State.notFitted_of (by decide)
  · exact State.notFitted_q3 hq3

theorem State.oscFitted_of_attrsKept (h : s.attrsKept t keys) (hk : Attr.variant.key 0 0 ∉ keys) (hfit : s.oscFitted m) : t.oscFitted m := by
  rwa [State.oscFitted, State.isQ3_of_attrsKept h hk]

theorem memberSource (hm : m < 4) : Ev.defined (320 + m) = true ∧ 320 + m ∉ bookSources ∧ 320 + m ≠ 325 := by
  obtain rfl | rfl | rfl | rfl : m = 0 ∨ m = 1 ∨ m = 2 ∨ m = 3 := by omega
  all_goals decide

/-- The source of an outvoted member is latched with its cause (R57). -/
theorem State.outvote_latch {oven : Bool} (hm : m < 4) (hfit : s.oscFitted m) :
    ((s.outvote m oven).latch (320 + m)).latched = true ∧ ((s.outvote m oven).latch (320 + m)).cause = true := by
  obtain ⟨hd, hb, hne⟩ := memberSource hm
  have hkept : s.attrsKept (s.outvoted m oven) (outvoteKeys m) :=
    (State.setOsc_attrsKept.mono (by simp [outvoteKeys])).andThen State.outvoted_attrsKept (by simp [outvoteKeys])
  have hfit' := (State.oscFitted_of_attrsKept hkept (variant_notin_outvoteKeys hm) hfit).notFitted hm
  rw [State.outvote_eq, State.judgeSingle_latch hne hb, State.raise_latch_same _ hd hfit' hb]
  exact ⟨rfl, rfl⟩

/-! ### Joining and readmission (R42, R48, R52) -/

/-- What a join means for warm-up writes no more than its state and its length. -/
theorem State.joinWarmup_attrsKept : s.attrsKept s.joinWarmup [Attr.warmup_state.key 0 0, Attr.warmup_elapsed.key 0 0] := by
  unfold State.joinWarmup
  split
  · exact .ite (State.attrsKept_refl.put1.put1.raise) State.attrsKept_refl
  · exact State.attrsKept_refl.put1.raise
  · exact State.attrsKept_refl

theorem osc_notin_warmupKeys (hm : m < 4) :
    Attr.osc_state.key 0 m ∉ weightKeys ++ [Attr.warmup_state.key 0 0, Attr.warmup_elapsed.key 0 0] := by
  obtain rfl | rfl | rfl | rfl : m = 0 ∨ m = 1 ∨ m = 2 ∨ m = 3 := by omega
  all_goals decide

/-- A granted readmission before the cause of the outvote drops. -/
def State.ramping (s : State) (m : Nat) : State :=
  let t := s.setOsc m .ramping
  let r : Ramp := { done := 0, since := if t.crucible.frozen then none else some t.counter }
  let u := { t with crucible := { t.crucible with ramps := tblPut t.crucible.ramps m r } }
  if u.crucible.frozen then (u.put Attr.osc_weight 0 m 0).settleWeights else u.reweigh

theorem State.startRamp_eq : s.startRamp m = (s.ramping m).uncause (320 + m) := rfl

theorem State.ramping_attrsKept (hm : m < 4) : (s.setOsc m .ramping).attrsKept (s.ramping m) weightKeys :=
  .ite ((State.attrsKept_refl.of_eq.put (weightKeys_of_lt hm)).andThen State.settleWeights_attrsKept)
    (State.attrsKept_refl.of_eq.andThen State.reweigh_attrsKept)

theorem State.startRamp_osc (hm : m < 4) : (s.startRamp m).osc m = .ramping := by
  rw [State.startRamp_eq, State.osc, State.attr_of_find (s := s.ramping m) (by rw [State.uncause_attrs])]
  exact ((State.ramping_attrsKept hm).osc hm (osc_notin_weightKeys hm)).trans State.osc_setOsc

@[simp] theorem State.settleWeights_crucible : s.settleWeights.crucible = s.crucible :=
  (Evolves.settleWeights (P := [.attrs, .store]) .refl).same .crucible (by decide)

theorem State.reweigh_ramps : s.reweigh.crucible.ramps = s.crucible.ramps := by
  unfold State.reweigh
  split <;> simp

theorem State.startRamp_ramp :
    tblFind (s.startRamp m).crucible.ramps m = some { done := 0, since := if s.crucible.frozen then none else some s.counter } := by
  have hramps : (s.ramping m).crucible.ramps =
      tblPut s.crucible.ramps m { done := 0, since := if s.crucible.frozen then none else some s.counter } := by
    have hcrucible : (s.setOsc m .ramping).crucible = s.crucible := by simp [State.setOsc]
    have hcounter : (s.setOsc m .ramping).counter = s.counter := by simp [State.setOsc]
    by_cases hfrozen : s.crucible.frozen = true <;> simp [State.ramping, State.reweigh_ramps, hcrucible, hcounter, hfrozen]
  rw [State.startRamp_eq, State.uncause_crucible, hramps, tblFind_put_same]

/-- An oven that joins, before what its join means for warm-up. -/
def State.joined (s : State) (m : Nat) : State :=
  let u := s.setOsc m .member
  if s.crucible.frozen then
    (if s.noOven then u.putList Attr.osc_weight 0 0 ((List.range 4).map fun k => if k = m then 65536 else 0)
     else u.put Attr.osc_weight 0 m 0).settleWeights
  else u.reweigh

theorem execOvenJoin_eq {m : Fin 3} (hup : s.crucibleUp = true) (hosc : s.osc m.val = .warmup) :
    exec (.ovenJoin m) s = .next (s.joined m.val).joinWarmup := by
  refine congrArg Host.Outcome.next ((if_pos (by simp [hup, hosc])).trans ?_)
  simp [State.joined, State.setOsc]

theorem State.joined_attrsKept (hm : m < 4) : (s.setOsc m .member).attrsKept (s.joined m) weightKeys :=
  .ite (.andThen (.ite State.attrsKept_refl.putWeights (State.attrsKept_refl.put (weightKeys_of_lt hm))) State.settleWeights_attrsKept)
    State.reweigh_attrsKept

theorem State.joined_osc (hm : m < 4) : (s.joined m).joinWarmup.osc m = .member :=
  (State.attrsKept.osc (.andThen ((State.joined_attrsKept hm).mono (by simp)) State.joinWarmup_attrsKept) hm
    (osc_notin_warmupKeys hm)).trans State.osc_setOsc

/-- Ovens and their sources (R57). -/
theorem ovenSource (hm : m < 3) : Ev.defined (326 + m) = true ∧ 326 + m ∉ bookSources ∧ 326 + m ≠ 320 + m ∧ 326 + m ≠ 325 := by
  obtain rfl | rfl | rfl : m = 0 ∨ m = 1 ∨ m = 2 := by omega
  all_goals decide

theorem State.ensemble_of_attrsKept (h : s.attrsKept t keys) (hk : ∀ m < 4, Attr.osc_state.key 0 m ∉ keys) : t.ensemble = s.ensemble := by
  unfold State.ensemble
  refine List.filter_congr fun m hm => ?_
  rw [h.attr (hk m (List.mem_range.1 hm)) (by decide) (by decide) (by have := List.mem_range.1 hm; omega)]

/-- A member of the ensemble is neither missing nor warming up. -/
theorem State.osc_of_mem (h : s.ensemble.contains m = true) : s.osc m ≠ .notFitted ∧ s.osc m ≠ .warmup := by
  have hmem := (List.mem_filter.1 (List.contains_iff_mem.1 h)).2
  rw [Bool.or_eq_true, beq_iff_eq, beq_iff_eq] at hmem
  unfold State.osc
  rcases hmem with h | h <;> rw [h] <;> decide

theorem State.outvote_latch_other {oven : Bool} {ev : Nat} (h : ev ≠ 320 + m) (h' : ev ≠ 325) (hev : ev ∉ bookSources) :
    (s.outvote m oven).latch ev = s.latch ev := by
  obtain ⟨-, h0, h1⟩ := bookSources_ne hev
  rw [State.outvote_eq, State.judgeSingle_latch h' hev, State.raise_latch_other _ h hev, State.outvoted, State.enforceLimit_latch _ h0 h1]
  refine State.latch_of_faults ?_ ev
  exact (Evolves.add (P := [.attrs, .crucible, .store]) (.afterLeaving (.withCrucible (.setOsc .refl)))).same .faults (by decide)

theorem count_notin_keys (hm : m < 4) : Attr.outvote_count.key 0 m ∉ weightKeys ∧ Attr.outvote_count.key 0 m ∉ [Attr.osc_state.key 0 m] := by
  obtain rfl | rfl | rfl | rfl : m = 0 ∨ m = 1 ∨ m = 2 ∨ m = 3 := by omega
  all_goals decide

/-- The outvotes of a member are counted (R57). -/
theorem State.outvote_count {oven : Bool} (hm : m < 4) : (s.outvote m oven).attr Attr.outvote_count 0 m =
    (s.attr Attr.outvote_count 0 m + 1) % (256 ^ Attr.outvote_count.bytes : Nat) := by
  obtain ⟨hweights, hosc⟩ := count_notin_keys hm
  let u : State := { s.setOsc m .outvoted with crucible := { (s.setOsc m .outvoted).crucible with
    ramps := tblDrop (s.setOsc m .outvoted).crucible.ramps m
    cause := tblSet (s.setOsc m .outvoted).crucible.cause 0 m (boolNat oven) } }
  have hleft : u.afterLeaving.attr Attr.outvote_count 0 m = s.attr Attr.outvote_count 0 m :=
    (State.afterLeaving_attrsKept.attr hweights).trans (State.setOsc_attrsKept.attr hosc)
  have hlater : (u.afterLeaving.add Attr.outvote_count 0 m 1).attrsKept (s.outvote m oven) [] :=
    State.attrsKept_refl.enforceLimit.raise.trans State.judgeSingle_attrsKept
  rw [hlater.attr (by simp), State.add, State.attr_put_same, hleft]
  rfl

theorem State.outvote_orphans {oven : Bool} : (s.outvote m oven).host.orphans ⊆ s.host.orphans := by
  have hhost : (s.outvoted m oven).host = s.host :=
    (Evolves.enforceLimit (P := [.attrs, .crucible, .faults, .store]) (.add (.afterLeaving (.withCrucible (.setOsc .refl))))).same .host (by decide)
  have hsingle : ∀ u : State, u.judgeSingle.host.orphans ⊆ u.host.orphans := fun u => by
    unfold State.judgeSingle
    split
    · exact State.raise_orphans
    · exact List.Subset.refl _
  rw [State.outvote_eq]
  refine List.Subset.trans (hsingle _) (List.Subset.trans State.raise_orphans ?_)
  rw [hhost]
  exact List.Subset.refl _

theorem State.startRamp_host : (s.startRamp m).host = s.host :=
  (Evolves.startRamp (P := [.attrs, .crucible, .faults, .store]) .refl).same .host (by decide)

/-- A ramp that has run its time (R48). -/
def State.rampEnded (s : State) (m t0 : Nat) : State :=
  let u := (s.advance (t0 + (rampTicks - (s.ramp m).done))).setOsc m .member
  ({ u with crucible := { u.crucible with ramps := tblDrop u.crucible.ramps m } }.settleWeights).raise 333 false m

theorem State.rampEnded_osc {t0 : Nat} (hm : m < 4) : (s.rampEnded m t0).osc m = .member := by
  let u := (s.advance (t0 + (rampTicks - (s.ramp m).done))).setOsc m .member
  have hlater : u.attrsKept (s.rampEnded m t0) weightKeys :=
    (State.attrsKept_refl.of_eq.andThen State.settleWeights_attrsKept (by simp)).raise
  exact (hlater.osc hm (osc_notin_weightKeys hm)).trans State.osc_setOsc

theorem State.rampEnded_counter {t0 : Nat} : (s.rampEnded m t0).counter = max s.counter (t0 + (rampTicks - (s.ramp m).done)) := by
  let u := (s.advance (t0 + (rampTicks - (s.ramp m).done))).setOsc m .member
  have hlater : (s.rampEnded m t0).counter = u.counter :=
    (Evolves.raise (P := .crucible :: raiseParts) (.settleWeights (.withCrucible .refl))).same .counter (by decide)
  rw [hlater]
  simp [u, State.setOsc, State.advance]

/-- Settles O15: a member's state is written first, and what follows it writes other places. -/
theorem crucibleMembers : Obligations.CrucibleMembers := by
  unfold Obligations.CrucibleMembers
  refine ⟨fun s m hup hosc => ?_, fun s m hup hfit hin hlast => ?_, fun s who m hs hc hm hfit hin hlen => ?_,
    fun s who m hs hc hm hosc => ?_, fun s m hup hmode hosc => ?_, fun s m t0 hup hosc hsince => ?_⟩
  · have hexec := execOvenJoin_eq hup hosc
    exact ⟨_, hexec, State.joined_osc (by omega), Evolves.frame Evolves.execOvenJoin_evolves hexec⟩
  · have hm4 : m.val < 4 := by omega
    obtain ⟨hd, hb, hne, hne'⟩ := ovenSource m.isLt
    obtain ⟨hfitted, hwarm⟩ := State.osc_of_mem hin
    have hkept : s.attrsKept (s.raise (326 + m.val) false m.val) [] := State.attrsKept_refl.raise
    have hens := State.ensemble_of_attrsKept hkept (by simp)
    have hfitraise : s.notFitted (326 + m.val) = false := by
      rcases hfit with h0 | hq3
      · rw [h0]
        exact State.notFitted_of (by decide)
      · exact State.notFitted_q3 hq3
    have hfit' : (s.raise (326 + m.val) false m.val).oscFitted m.val :=
      State.oscFitted_of_attrsKept hkept (by simp) (hfit.imp_right .inr)
    have hexec : exec (.ovenFault m) s = .next ((s.raise (326 + m.val) false m.val).outvote m.val true) := by
      refine congrArg Host.Outcome.next ((if_pos (by simp [hup, hfitted, hwarm])).trans ?_)
      dsimp only
      rw [hens, if_pos hin, if_neg hlast]
    refine ⟨_, hexec, State.outvote_osc hm4, ?_, (State.outvote_latch hm4 hfit').1, (State.outvote_latch hm4 hfit').2, ?_,
      Evolves.frame Evolves.execOvenFault_evolves hexec⟩
    · rw [State.outvote_latch_other hne hne' hb, State.raise_latch_same _ hd hfitraise hb]
      rfl
    · rw [State.outvote_count hm4, hkept.attr (by simp)]
  · have hm4 : m < 4 := by omega
    have hb := (memberSource hm4).2.1
    obtain ⟨h0, h1, h2⟩ := bookSources_ne hb
    have hexec : exec (.oscExclude who m) s = .next _ := congrArg Host.Outcome.next (State.doAct_ok _ hs.1 rfl (s.permits_owner0 hc) (by
      simpa [firstRefusal_none, hlen, hm] using hin))
    refine ⟨_, hexec, hs.finish_answered State.outvote_orphans, ?_, ?_, Evolves.frame Evolves.execOscExclude_evolves hexec⟩
    · rw [State.attrsKept_refl.finish.osc (keys := []) hm4 (by simp), State.outvote_osc hm4]
    · rw [State.finish_latch _ h0 h1 h2]
      exact (State.outvote_latch hm4 hfit).1
  · have hm4 : m < 4 := by omega
    obtain ⟨h0, h1, h2⟩ := bookSources_ne (memberSource hm4).2.1
    have hexec : exec (.oscReadmit who m true) s = .next _ := congrArg Host.Outcome.next (State.doAct_ok _ hs.1 rfl (s.permits_owner0 hc) (by
      simpa [firstRefusal_none, hosc] using hm))
    refine ⟨_, hexec, hs.finish_answered (by rw [State.startRamp_host]; exact List.Subset.refl _), ?_, ?_, ?_, (Evolves.finish (.startRamp .refl)).same⟩
    · rw [State.attrsKept_refl.finish.osc (keys := []) hm4 (by simp), State.startRamp_osc hm4]
    · rw [State.finish_crucible, State.startRamp_ramp]
    · rw [State.finish_latch _ h0 h1 h2]
      exact (s.ramping m).uncause_cause (320 + m)
  · have hexec : exec (.readmitConditionMet m) s = .next (s.startRamp m) := congrArg Host.Outcome.next (if_pos (by simp [hup, hmode, hosc]))
    exact ⟨_, hexec, State.startRamp_osc m.isLt, (s.ramping m).uncause_cause (320 + m), Evolves.frame Evolves.execReadmitConditionMet_evolves hexec⟩
  · have hexec : exec (.readmitRampComplete m) s = .next (s.rampEnded m.val t0) := by
      simp [exec, execReadmitRampComplete, hsince, State.when_, hup, hosc, State.rampEnded]
    refine ⟨_, hexec, State.rampEnded_osc m.isLt, State.raise_latched, ?_, Evolves.frame Evolves.execReadmitRampComplete_evolves hexec⟩
    exact State.rampEnded_counter

end Sys2Proof.Machine
end

section
/-! The lifecycle of a domain (R71 to R73): creation, ownership, binding and deletion. -/

set_option Elab.async false

namespace Sys2Proof.Machine

variable {s t u : State} {d n : Nat} {who : Issuer}

/-! ### Records of the tables -/

@[simp] theorem State.dom_setDom_same {r : DomRec} : (s.setDom d r).dom d = r := tblGet_set_same ..

theorem State.dom_setDom_ne {e : Nat} {r : DomRec} (h : e ≠ d) : (s.setDom d r).dom e = s.dom e := tblGet_set_other _ _ _ _ h

@[simp] theorem State.setDpll_dom {r : DpllRec} : (s.setDpll n r).dom d = s.dom d := rfl
@[simp] theorem State.setDom_dpll {r : DomRec} : (s.setDom d r).dpll n = s.dpll n := rfl

@[simp] theorem State.dpll_setDpll_same {r : DpllRec} : (s.setDpll n r).dpll n = r := tblGet_set_same ..

theorem State.dpll_setDpll_ne {m : Nat} {r : DpllRec} (h : m ≠ n) : (s.setDpll n r).dpll m = s.dpll m := tblGet_set_other _ _ _ _ h

theorem State.dom_of_doms (h : t.doms = s.doms) : t.dom d = s.dom d := by rw [State.dom, State.dom, h]

theorem State.dpll_of_dplls (h : t.dplls = s.dplls) : t.dpll n = s.dpll n := by rw [State.dpll, State.dpll, h]

/-! ### Which domain is bound to which DPLL (R16, R73) -/

theorem State.boundDpll_of_attr (hstate : t.attr Attr.domain_state d = s.attr Attr.domain_state d)
    (hbound : t.attr Attr.domain_bound_dpll d = s.attr Attr.domain_bound_dpll d) : t.boundDpll d = s.boundDpll d := by
  unfold State.boundDpll State.created State.attrN
  rw [hstate, hbound]

theorem State.attr_of_attrs (h : t.attrs = s.attrs) {a : AttrDesc} {i e : Nat} : t.attr a i e = s.attr a i e := State.attr_of_find (by rw [h])

theorem State.boundDpll_of_attrs (h : t.attrs = s.attrs) : t.boundDpll d = s.boundDpll d :=
  State.boundDpll_of_attr (State.attr_of_attrs h) (State.attr_of_attrs h)

theorem State.boundDom_of_attrs (h : t.attrs = s.attrs) : t.boundDom n = s.boundDom n := by
  simp only [State.boundDom, State.boundDpll_of_attrs h]

theorem Writes.boundDpll {ids : List Nat} (h : Writes ids s t) (hd : d < 65536 := by omega) (hstate : Attr.domain_state.id ∉ ids := by decide)
    (hbound : Attr.domain_bound_dpll.id ∉ ids := by decide) : t.boundDpll d = s.boundDpll d :=
  State.boundDpll_of_attr (h.attr hstate) (h.attr hbound)

theorem State.created_of_bound (h : s.boundDpll d = some n) : s.created d = true := by
  unfold State.boundDpll at h
  split at h
  · next hc => 
    rw [Bool.and_eq_true, Bool.and_eq_true] at hc
    exact hc.1.1
  · cases h

theorem State.boundDom_mem (h : s.boundDom n = some d) : d < 512 ∧ s.boundDpll d = some n := by
  unfold State.boundDom at h
  refine ⟨List.mem_range.1 (List.mem_of_find?_eq_some h), ?_⟩
  simpa using List.find?_some h

theorem State.boundDom_none (h : s.boundDom n = none) (hd : d < 512) : s.boundDpll d ≠ some n := by
  simpa using List.find?_eq_none.1 h d (List.mem_range.2 hd)

/-! ### DOMAIN.CREATE and DOMAIN.DELETE -/

@[simp] theorem State.placeTasks_attrs : (s.placeTasks d).attrs = s.attrs := rfl
@[simp] theorem State.placeTasks_host : (s.placeTasks d).host = s.host := rfl
@[simp] theorem State.placeTasks_words : ((s.placeTasks d).dom d).words = (s.dom d).words := by simp [State.placeTasks]

theorem State.placeTasks_dom_ne {e : Nat} (h : e ≠ d) : (s.placeTasks d).dom e = s.dom e := State.dom_setDom_ne h

@[simp] theorem State.resetKeys_dom {p : Nat → Bool} : (s.resetKeys p).dom d = s.dom d := rfl
@[simp] theorem State.resetKeys_host {p : Nat → Bool} : (s.resetKeys p).host = s.host := rfl

@[simp] theorem State.put_dom {a : AttrDesc} {i e : Nat} {v : Int} : (s.put a i e v).dom d = s.dom d := State.dom_of_doms (by simp)
@[simp] theorem State.put1_dom {a : AttrDesc} {i : Nat} {v : Int} : (s.put1 a i v).dom d = s.dom d := State.dom_of_doms (by simp)
@[simp] theorem State.put_dpll {a : AttrDesc} {i e : Nat} {v : Int} : (s.put a i e v).dpll n = s.dpll n := State.dpll_of_dplls (by simp)
@[simp] theorem State.put1_dpll {a : AttrDesc} {i : Nat} {v : Int} : (s.put1 a i v).dpll n = s.dpll n := State.dpll_of_dplls (by simp)
@[simp] theorem State.finish_dom {op st i a : Nat} {r : List Byte} {l : Option Nat} : (s.finish who op st i r l a).dom d = s.dom d :=
  State.dom_of_doms (by simp)
@[simp] theorem State.finish_dpll {op st i a : Nat} {r : List Byte} {l : Option Nat} : (s.finish who op st i r l a).dpll n = s.dpll n :=
  State.dpll_of_dplls (by simp)

/-- A created domain before its timescale and its status are written. -/
def State.createdSlot (s : State) (d source : Nat) : State :=
  ((s.resetKeys (keyOf .domain d)).setDom d
    { words := if source ≤ 511 then (s.dom source).wordsAt s.counter else ⟨0, s.counter, nominalPeriod.toNat⟩ }).put1 Attr.domain_state d 1

/-- What a new domain holds (R72). -/
theorem State.create_eq {timescale source : Nat} : s.create d timescale source =
    let u := ((s.createdSlot d source).put1 Attr.domain_timescale d timescale).put1 Attr.domain_utc_offset d (if timescale = 0 then 37 else 0)
    if source ≤ 511 then
      (u.put1 Attr.domain_time_status d TimeStatus.set.code).put1 Attr.domain_freq_adj d (freqOfPeriod ((s.dom source).wordsAt s.counter).period)
    else u.put1 Attr.domain_time_status d TimeStatus.unset.code := by
  unfold State.create State.createdSlot
  by_cases h : source ≤ 511 <;> simp [h]

theorem State.create_writes {timescale source : Nat} (hd : d < 512) :
    Writes [Attr.domain_timescale.id, Attr.domain_utc_offset.id, Attr.domain_time_status.id, Attr.domain_freq_adj.id]
      (s.createdSlot d source) (s.create d timescale source) := by
  rw [State.create_eq]
  exact .ite Writes.refl.put1.put1.put1.put1 Writes.refl.put1.put1.put1

theorem State.create_dom {timescale source : Nat} {e : Nat} : (s.create d timescale source).dom e = (s.createdSlot d source).dom e := by
  rw [State.create_eq]
  dsimp only
  split <;> simp

theorem State.createdSlot_dom_ne {source e : Nat} (h : e ≠ d) : (s.createdSlot d source).dom e = s.dom e := by
  simp [State.createdSlot, State.dom_setDom_ne h]

theorem State.create_timescale {timescale source : Nat} (hd : d < 512) :
    (s.create d timescale source).attr Attr.domain_timescale d = timescale := by
  rw [State.create_eq]
  dsimp only
  split
  · rw [State.attr_put1_ne, State.attr_put1_ne, State.attr_put1_ne, State.attr_put1_same]
  · rw [State.attr_put1_ne, State.attr_put1_ne, State.attr_put1_same]

theorem State.create_utcOffset {timescale source : Nat} (hd : d < 512) :
    (s.create d timescale source).attr Attr.domain_utc_offset d = if timescale = 0 then 37 else 0 := by
  rw [State.create_eq]
  dsimp only
  split
  · rw [State.attr_put1_ne, State.attr_put1_ne, State.attr_put1_same]
  · rw [State.attr_put1_ne, State.attr_put1_same]

theorem State.create_timeStatus {timescale source : Nat} (hd : d < 512) :
    (s.create d timescale source).attr Attr.domain_time_status d = if source ≤ 511 then TimeStatus.set.code else TimeStatus.unset.code := by
  rw [State.create_eq]
  dsimp only
  split
  · rw [State.attr_put1_ne, State.attr_put1_same]
  · rw [State.attr_put1_same]

/-- A value after the completion of a command. -/
theorem State.finish_attr_eq {op st i a : Nat} {r : List Byte} {l : Option Nat} {x : AttrDesc} {j f : Nat} (hb : x.id ∉ bookAttrs := by decide)
    (hj : j < 65536 := by omega) (hf : f < 65536 := by omega) : (s.finish who op st i r l a).attr x j f = s.attr x j f :=
  (Writes.finish (ids := []) .refl).attr (by simp) hb

/-! ### DOMAIN.BIND and DOMAIN.UNBIND -/

@[simp] theorem State.countSafe_dom {before : State} : (before.countSafe s).dom d = s.dom d :=
  State.dom_of_doms ((Evolves.countSafe (P := [.attrs, .store]) .refl).same .doms (by decide))

@[simp] theorem State.followStatus_dom : (s.followStatus n).dom d = s.dom d :=
  State.dom_of_doms ((Evolves.followStatus (P := [.attrs, .store]) .refl).same .doms (by decide))

@[simp] theorem State.countSafe_dpll {before : State} : (before.countSafe s).dpll n = s.dpll n :=
  State.dpll_of_dplls ((Evolves.countSafe (P := [.attrs, .store]) .refl).same .dplls (by decide))

@[simp] theorem State.followStatus_dpll {m : Nat} : (s.followStatus m).dpll n = s.dpll n :=
  State.dpll_of_dplls ((Evolves.followStatus (P := [.attrs, .store]) .refl).same .dplls (by decide))

theorem State.followStatus_writes : Writes [Attr.domain_time_status.id] s (s.followStatus n) := by
  unfold State.followStatus
  split
  · next d hd =>
    have hlt := (State.boundDom_mem hd).1
    exact .ite .refl (Writes.put1 .refl)
  · exact .refl

/-- A domain's DPLL as it stands when the bind is made, before the outputs start on the domain's grid. -/
def State.joinedTo (s : State) (d n : Nat) : State :=
  let t := (s.setDom d { s.dom d with slew := none }).put1 Attr.domain_bound_dpll d n
  t.setDpll n { t.dpll n with timerFrom := t.counter, acc := 0, accSince := t.counter, posted := (((t.dom d).wordsAt t.counter).period : Int) }

/-- The PULSE outputs that had lost their grid start on the domain's. -/
def State.startOrphans (s : State) (n : Nat) : State :=
  s.forEach ((List.range 32).filter fun o => (s.outp o).orphan && s.attrN Attr.syn_dpll_active (o / 4) == n) fun x o =>
    x.setOutp o { x.outp o with
      orphan := false, started := false, starting := true, since := x.counter, gated := false, stepper := 0, delayLeft := 0, lehr := {} }

theorem State.bindTo_eq : s.bindTo d n = s.countSafe (((s.joinedTo d n).startOrphans n).followStatus n) := rfl

theorem State.startOrphans_sameBut : s.sameBut (s.startOrphans n) [.outs] := (Evolves.forEach .refl fun _ _ => Evolves.setOutp .refl).same

theorem State.startOrphans_writes : Writes [] s (s.startOrphans n) := Writes.refl.of_same State.startOrphans_sameBut

theorem State.joinedTo_writes (hd : d < 512) : Writes [Attr.domain_bound_dpll.id] s (s.joinedTo d n) :=
  Writes.refl.setDom.put1.setDpll

theorem State.bindTo_writes (hd : d < 512) : Writes [Attr.domain_bound_dpll.id, Attr.domain_time_status.id] s (s.bindTo d n) :=
  (((State.joinedTo_writes hd).mono.andThen State.startOrphans_writes).andThen State.followStatus_writes).countSafe

theorem State.joinedTo_attr {a : AttrDesc} {i e : Nat} : (s.joinedTo d n).attr a i e =
    ((s.setDom d { s.dom d with slew := none }).put1 Attr.domain_bound_dpll d n).attr a i e := rfl

theorem State.joinedTo_bound (hd : d < 512) (hn : n ≤ 15) (hc : s.created d = true) : (s.joinedTo d n).boundDpll d = some n := by
  have hstate : (s.joinedTo d n).created d = true := by
    rw [State.created, (State.joinedTo_writes hd).attr]
    exact hc
  have hbound : (s.joinedTo d n).attr Attr.domain_bound_dpll d = n := State.attr_put1_same ..
  simp only [State.boundDpll, State.attrN, hstate, hbound]
  simp
  omega

/-- The domain bound to a DPLL that had none is the one just bound. -/
theorem State.joinedTo_boundDom {e : Nat} (hd : d < 512) (hfree : s.boundDom n = none) (he : (s.joinedTo d n).boundDom n = some e) : e = d := by
  obtain ⟨hlt, hbound⟩ := State.boundDom_mem he
  by_contra hne
  refine State.boundDom_none hfree hlt ?_
  rw [← hbound]
  refine (State.boundDpll_of_attr ?_ ?_).symm
  · rw [State.joinedTo_attr, State.attr_put1_inst _ hne]
    rfl
  · rw [State.joinedTo_attr, State.attr_put1_inst _ hne]
    rfl

theorem State.followStatus_attrsKept {e : Nat} (h : ∀ x, s.boundDom n = some x → x = e) :
    s.attrsKept (s.followStatus n) [Attr.domain_time_status.key e 0] := by
  unfold State.followStatus
  split
  · next x hx => exact h x hx ▸ .ite State.attrsKept_refl State.attrsKept_refl.put1
  · exact State.attrsKept_refl

theorem State.bindTo_attrsKept (hd : d < 512) (hfree : s.boundDom n = none) :
    s.attrsKept (s.bindTo d n) [Attr.domain_bound_dpll.key d 0, Attr.domain_time_status.key d 0] := by
  have houts : (s.joinedTo d n).attrs = ((s.joinedTo d n).startOrphans n).attrs := (State.startOrphans_sameBut .attrs (by decide)).symm
  have hbound := State.boundDom_of_attrs (n := n) houts
  have hjoined : s.attrsKept (s.joinedTo d n) [Attr.domain_bound_dpll.key d 0, Attr.domain_time_status.key d 0] :=
    (State.attrsKept.put1 (a := Attr.domain_bound_dpll) (i := d) (v := n) (.of_eq (State.attrsKept_refl (s := s)) (u := s.setDom d { s.dom d with slew := none }))).of_eq
  refine .through ((hjoined.of_eq houts.symm).andThen (State.followStatus_attrsKept (e := d) fun x hx => ?_)) fun _ hb => State.countSafe_find _ hb _
  exact State.joinedTo_boundDom hd hfree (hbound.symm ▸ hx)

theorem State.bindTo_boundDpll (hd : d < 512) (hn : n ≤ 15) (hc : s.created d = true) : (s.bindTo d n).boundDpll d = some n := by
  rw [← State.joinedTo_bound hd hn hc]
  exact Writes.boundDpll ((State.startOrphans_writes.mono (ids := [Attr.domain_time_status.id])).andThen State.followStatus_writes).countSafe

theorem State.startOrphans_dom : (s.startOrphans n).dom d = s.dom d := State.dom_of_doms (State.startOrphans_sameBut .doms (by decide))

theorem State.startOrphans_dpll {m : Nat} : (s.startOrphans n).dpll m = s.dpll m := State.dpll_of_dplls (State.startOrphans_sameBut .dplls (by decide))

theorem State.bindTo_dom : (s.bindTo d n).dom d = { s.dom d with slew := none } := by
  rw [State.bindTo_eq, State.countSafe_dom, State.followStatus_dom, State.startOrphans_dom]
  simp [State.joinedTo]

theorem State.bindTo_posted : ((s.bindTo d n).dpll n).posted = (((s.dom d).wordsAt s.counter).period : Int) := by
  rw [State.bindTo_eq, State.countSafe_dpll, State.followStatus_dpll, State.startOrphans_dpll]
  simp [State.joinedTo, DomRec.wordsAt]

/-! ### Unbinding -/

theorem State.clearDate_writes {ids : List Nat} {g : Nat} : Writes ids s (s.clearDate g) := by
  unfold State.clearDate
  exact .ite (.ite Writes.refl.setGen Writes.refl.setGen.uncause) .refl

theorem State.genLeaves_writes {g : Nat} (hg : g < 18) : Writes [Attr.todgen_tod_tx_state.id] s (s.genLeaves g) := by
  unfold State.genLeaves State.leaveQuiet
  have hclear : Writes [Attr.todgen_tod_tx_state.id] s (s.clearDate g) := State.clearDate_writes
  exact .ite hclear (.ite hclear.put1 hclear.put1.uncause)

/-- The ids of the counts of Lehr movements. -/
def lehrMoves : List Nat := [Attr.vidgen_lehr_moves.id, Attr.audgen_lehr_moves.id, Attr.tcgen_lehr_moves.id, Attr.todgen_lehr_moves.id,
  Attr.output_lehr_moves.id]

theorem State.lehrEvents_writes {stored before after : Int} {moves : AttrDesc} {i detail : Nat} (hm : moves.id ∈ lehrMoves) (hi : i < 65536) :
    Writes lehrMoves s (s.lehrEvents stored before after moves i detail) := by
  unfold State.lehrEvents
  have hfirst : Writes lehrMoves s (if stored ≠ 0 ∧ before = 0 then s.raise 579 false detail else s) := .ite Writes.refl.raise .refl
  exact .ite (hfirst.bump hm hi).raise (.ite hfirst.raise hfirst)

theorem State.replaceGen_writes {g : Nat} {before : Int} {r : GenRec} (hg : g < 18) : Writes lehrMoves s (s.replaceGen g before r) := by
  unfold State.replaceGen
  refine Writes.refl.setGen.andThen (State.lehrEvents_writes ?_ ?_)
  · unfold genMoves genAttr
    split
    · decide
    · split
      · decide
      · split <;> decide
  · unfold genInst
    repeat' split
    all_goals omega

theorem State.replaceOut_writes {o : Nat} {r : OutRec} : Writes [] s (s.replaceOut o r) := by
  unfold State.replaceOut
  exact .ite Writes.refl.setOutp.raise Writes.refl.setOutp

theorem State.replacePulse_writes {o : Nat} {before : Int} {r : OutRec} (ho : o < 32) : Writes lehrMoves s (s.replacePulse o before r) :=
  State.replaceOut_writes.mono.andThen (State.lehrEvents_writes (by decide) (by omega))

theorem State.stopGens_writes : Writes (Attr.todgen_tod_tx_state.id :: lehrMoves) s (s.stopGens d) := by
  unfold State.stopGens
  refine Writes.refl.forEach fun u g hg => ?_
  have hlt : g < 18 := List.mem_range.1 (List.mem_filter.1 hg).1
  exact (((State.genLeaves_writes hlt).mono).andThen (State.replaceGen_writes hlt)).raise

/-- The PULSE outputs of a DPLL's synthesisers lose their grid. -/
def State.orphanPulses (s : State) (n : Nat) : State :=
  s.forEach ((List.range 32).filter fun o =>
      ((s.outp o).started || (s.outp o).starting) && (s.outp o).pulse && s.attrN Attr.syn_dpll_active (o / 4) == n) fun x o =>
    let r := x.outp o
    x.replacePulse o (x.outLehr o) { r with
      orphan := true, started := true, starting := false, gated := r.gated || r.starting, lehr := {} }

/-- The domain is virtual again; its status is still to be settled. -/
def State.freed (s : State) (d n : Nat) : State :=
  let t := (((s.stopGens d).orphanPulses n).put1 Attr.domain_bound_dpll d 255).put1 Attr.domain_freq_adj d
    (freqOfPeriod ((s.dom d).wordsAt s.counter).period)
  (t.setDpll n { t.dpll n with ctrlLost := false }).uncause (496 + n)

theorem State.unbindDomain_eq : s.unbindDomain d n =
    if (s.freed d n).attr Attr.domain_time_status d = 0 then s.freed d n
    else (s.freed d n).put1 Attr.domain_time_status d TimeStatus.set.code := rfl

theorem State.orphanPulses_writes : Writes lehrMoves s (s.orphanPulses n) :=
  Writes.refl.forEach fun _ _ ho => State.replacePulse_writes (List.mem_range.1 (List.mem_filter.1 ho).1)

theorem State.freed_writes (hd : d < 512) :
    Writes (Attr.todgen_tod_tx_state.id :: Attr.domain_bound_dpll.id :: Attr.domain_freq_adj.id :: lehrMoves) s (s.freed d n) :=
  ((State.stopGens_writes.mono.andThen State.orphanPulses_writes).put1.put1.setDpll).uncause

theorem State.unbindDomain_writes (hd : d < 512) : Writes [Attr.domain_time_status.id] (s.freed d n) (s.unbindDomain d n) :=
  .ite .refl (Writes.put1 .refl)

theorem State.unbindDomain_writes_all (hd : d < 512) :
    Writes (Attr.domain_time_status.id :: Attr.todgen_tod_tx_state.id :: Attr.domain_bound_dpll.id :: Attr.domain_freq_adj.id :: lehrMoves) s
      (s.unbindDomain d n) := ((State.freed_writes hd).mono).andThen (State.unbindDomain_writes hd)

theorem State.freed_attr {a : AttrDesc} {i e : Nat} : (s.freed d n).attr a i e =
    ((((s.stopGens d).orphanPulses n).put1 Attr.domain_bound_dpll d 255).put1 Attr.domain_freq_adj d
      (freqOfPeriod ((s.dom d).wordsAt s.counter).period)).attr a i e := State.attr_of_attrs (State.uncause_attrs ..)

theorem State.unbindDomain_freqAdj (hd : d < 512) :
    (s.unbindDomain d n).attr Attr.domain_freq_adj d = freqOfPeriod ((s.dom d).wordsAt s.counter).period := by
  rw [(State.unbindDomain_writes hd).attr, State.freed_attr, State.attr_put1_same]

theorem State.unbindDomain_boundDpll (hd : d < 512) : (s.unbindDomain d n).boundDpll d = none := by
  have hbound : (s.unbindDomain d n).attr Attr.domain_bound_dpll d = 255 := by
    rw [(State.unbindDomain_writes hd).attr, State.freed_attr, State.attr_put1_ne, State.attr_put1_same]
  simp [State.boundDpll, hbound]

/-- Settles O17: creation and deletion write one slot, a bind joins the one domain that it names to a DPLL without one, and an unbind
keeps the words of every domain. -/
theorem domainLifecycle : Obligations.DomainLifecycle := by
  unfold Obligations.DomainLifecycle
  refine ⟨fun s who d timescale source hs hc hd hts hsource hfree => ?_, fun s who d client hs hc hd hclient hcreated => ?_,
    fun s who d n hs hc hd hn hcreated hloop hdpll hdom => ?_, fun s who d n hs hc hd hn hbound => ?_,
    fun s who d hs hc hd hcreated huse => ?_⟩
  · have hd' : d < 512 := by omega
    have hexec : exec (.domainCreate who d timescale source) s = .next _ :=
      congrArg Host.Outcome.next (State.doAct_ok _ hs.1 rfl (s.permits_owner0 hc) (by
        simp [firstRefusal_none, hfree]
        rcases hsource with ⟨h, hsrc⟩ | h
        · simp [hsrc]; omega
        · omega))
    have hhost : ((s.create d timescale source).placeTasks d).host = s.host :=
      (Evolves.placeTasks (P := [.attrs, .doms, .store]) (.create .refl)).same .host (by decide)
    have hcreated : (s.createdSlot d source).attr Attr.domain_state d = 1 := State.attr_put1_same ..
    refine ⟨_, hexec, hs.finish_answered (by rw [hhost]; exact List.Subset.refl _), ?_, ?_, ?_, ?_, ?_, fun e he => ?_, ?_⟩
    · rw [State.created, State.finish_attr_eq, State.attr_of_attrs State.placeTasks_attrs, (State.create_writes hd').attr, hcreated]
      rfl
    · rw [State.finish_attr_eq, State.attr_of_attrs State.placeTasks_attrs, State.create_timescale hd']
    · rw [State.finish_attr_eq, State.attr_of_attrs State.placeTasks_attrs, State.create_utcOffset hd']
    · rw [State.finish_attr_eq, State.attr_of_attrs State.placeTasks_attrs, State.create_timeStatus hd']
    · rw [State.finish_dom, State.placeTasks_words, State.create_dom]
      simp [State.createdSlot]
    · rw [State.finish_dom, State.placeTasks_dom_ne he, State.create_dom, State.createdSlot_dom_ne he]
    · exact (Evolves.finish (.placeTasks (.create .refl))).same
  · have hexec : exec (.domainAssign who d client) s = .next _ :=
      congrArg Host.Outcome.next (State.doAct_ok _ hs.1 rfl (s.permits_owner0 hc) (by
        simp [firstRefusal_none, hcreated]
        omega))
    refine ⟨_, hexec, hs.finish_answered, ?_, State.framed_of_effect (Evolves.put1 .refl).same State.attrsKept_refl.put1⟩
    rw [State.finish_attr_eq, State.attr_put1_same]
  · have hd' : d < 512 := by omega
    have hexec : exec (.domainBind who d n) s = .next _ :=
      congrArg Host.Outcome.next (State.doAct_ok _ hs.1 rfl (s.permits_owner0 hc) (by
        simp [firstRefusal_none, hcreated, State.wouldLoop, hdpll, hdom]
        exact ⟨⟨by omega, by omega⟩, by simpa using hloop⟩))
    refine ⟨_, hexec, (State.bindTo_writes hd').answered hs, ?_, ?_, ?_, ?_,
      State.framed_of_effect (Evolves.bindTo .refl).same (State.bindTo_attrsKept hd' hdpll)⟩
    · rw [(Writes.finish (ids := []) .refl).boundDpll, State.bindTo_boundDpll hd' hn hcreated]
    · rw [State.finish_dom, State.bindTo_dom]
    · rw [State.finish_dom, State.bindTo_dom]
    · rw [State.finish_dpll, State.bindTo_posted]
  · have hd' : d < 512 := by omega
    have hexec : exec (.domainUnbind who d n) s = .next _ :=
      congrArg Host.Outcome.next (State.doAct_ok _ hs.1 rfl (s.permits_owner0 hc) (by
        simp [firstRefusal_none, State.created_of_bound hbound, hbound]
        omega))
    refine ⟨_, hexec, (State.unbindDomain_writes_all hd').answered hs, ?_, ?_, ?_, ?_⟩
    · rw [(Writes.finish (ids := []) .refl).boundDpll, State.unbindDomain_boundDpll hd']
    · rw [State.finish_attr_eq, State.unbindDomain_freqAdj hd']
    · exact (Evolves.of_next Evolves.execDomainUnbind_evolves hexec).same .doms (by decide)
    · exact Evolves.frame Evolves.execDomainUnbind_evolves hexec
  · have hd' : d < 512 := by omega
    have hexec : exec (.domainDelete who d) s = .next _ :=
      congrArg Host.Outcome.next (State.doAct_ok _ hs.1 rfl (s.permits_owner0 hc) (by
        simp [firstRefusal_none, hcreated, huse]
        omega))
    refine ⟨_, hexec, hs.finish_answered, ?_, ?_, fun e he => ?_, ?_⟩
    · rw [State.created, State.finish_attr_eq, State.attr_put1_same]
      rfl
    · rw [State.finish_dom, State.put1_dom, State.dom_setDom_same]
    · rw [State.finish_dom, State.put1_dom, State.dom_setDom_ne he, State.resetKeys_dom]
    · exact (Evolves.finish (.put1 (.setDom (.resetKeys .refl)))).same

end Sys2Proof.Machine
end

section
/-! Steering a virtual domain by command (R74): one update waits for its instant, and the words in force stay. -/

set_option Elab.async false

namespace Sys2Proof.Machine

variable {s u : State} {d instant : Nat} {who : Issuer}

/-- A command that steers a virtual domain completes where no condition refuses it and the time unit takes its update. -/
theorem State.steerDomain_ok {a : Action} {effect : State → State} {result : State → List Byte} (hs : s.serves who) (hbuf : a.reachable = true)
    (hright : s.permits who a.right = true) (href : firstRefusal a.refusals = none) (hbound : s.boundDpll d = none)
    (hupdate : s.canUpdate d instant = true) :
    s.steerDomain who a d instant effect result = (effect s).finish who a.opcode 0 a.inst (result (effect s)) := by
  have hvirtual : s.virtual d = true := by simp [State.virtual, hbound]
  rw [State.steerDomain, if_pos hvirtual, State.steer, State.act_ok _ hs.1 hbuf hright href, if_pos hupdate]

@[simp] theorem State.setPend_pend {x : DomUpdate} : ((s.setPend d x).dom d).pend = some x := by simp [State.setPend]
@[simp] theorem State.setPend_words {x : DomUpdate} : ((s.setPend d x).dom d).words = (s.dom d).words := by simp [State.setPend]
@[simp] theorem State.setPend_slew {x : DomUpdate} : ((s.setPend d x).dom d).slew = (s.dom d).slew := by simp [State.setPend]

theorem State.setPend_sameBut {x : DomUpdate} : s.sameBut (s.setPend d x) [.doms] := (Evolves.setPend .refl).same

/-- The frame of a command whose effect is on the records of the domains alone. -/
theorem State.framed_of_doms (h : s.sameBut u [.doms]) {op st i a : Nat} {r : List Byte} {l : Option Nat} :
    s.framed (u.finish who op st i r l a) [.doms] [] :=
  State.framed_of_effect (State.sameBut_mono h (by decide)) (State.attrsKept_refl.of_eq (h .attrs (by decide)))

theorem State.answered_of_doms (h : s.sameBut u [.doms]) (hs : s.serves who) {op st i a : Nat} {r : List Byte} {l : Option Nat} :
    (u.finish who op st i r l a).answered who op st := (Writes.refl (ids := []).of_same h).answered hs

theorem State.resultOf_of_doms (h : s.sameBut u [.doms]) (hs : s.serves who) {op i a : Nat} {r : List Byte} {l : Option Nat} :
    (u.finish who op 0 i r l a).resultOf who = r := (Writes.refl (ids := []).of_same h).resultOf hs

theorem State.setVirtual_sameBut {x : Int} : s.sameBut (s.setVirtual d instant x) [.doms] := (Evolves.setVirtual .refl).same

theorem State.setDomTime_virtual {x : Int} (h : s.boundDpll d = none) : s.setDomTime d instant x = s.setVirtual d instant x := by
  rw [State.setDomTime, h]

/-- The one update that a given time makes (R74). -/
theorem State.setVirtual_dom {x : Int} : (s.setVirtual d instant x).dom d = { s.dom d with
    slew := none
    pend := some { instant := instant, period := periodPpt (s.attr Attr.domain_freq_adj d), absolute := some x, delta := 0, steps := 1
                   sets := true } } := by
  simp [State.setVirtual, State.setPend]

theorem State.phaseVirtual_sameBut {mode : Nat} {x : Int} : s.sameBut (s.phaseVirtual d mode instant x) [.doms] :=
  (Evolves.phaseVirtual .refl).same

/-- Settles O18: each command gives the time unit one update and changes no other part of the module. -/
theorem domainSteering : Obligations.DomainSteering := by
  unfold Obligations.DomainSteering
  refine ⟨fun s who d time instant x hs hc hd htime hcreated hbound hmode hupdate => ?_,
    fun s who d ns instant civil hs hc hd hdate hclock hns hpos hexists hcreated hbound hmode hupdate => ?_,
    fun s who d ppt instant hs hc hd hppt hslew hcreated hbound hmode hupdate => ?_,
    fun s who d x instant hs hc hd hpos hcreated hbound hmode hupdate => ?_,
    fun s who d x instant hs hc hd hx hcreated hbound hmode hupdate hrate => ?_⟩
  · refine ⟨(s.setVirtual d instant x).finish who 0x0605 0 d (bytesLE 8 instant), ?_, State.answered_of_doms State.setVirtual_sameBut hs,
      State.resultOf_of_doms State.setVirtual_sameBut hs, ?_, ?_, ?_, State.framed_of_doms State.setVirtual_sameBut⟩
    · refine congrArg Host.Outcome.next ((State.steerDomain_ok hs rfl (s.permits_domainOwner _ hc) ?_ hbound hupdate).trans ?_)
      · simp [firstRefusal_none, htime, State.timeRefused, hcreated, State.autoRefused, hmode, hbound]
        omega
      · simp [State.setDomTime_virtual hbound, htime, instantResult]
    all_goals rw [State.finish_dom, State.setVirtual_dom]
  · let x := (civilSeconds civil + s.attr Attr.domain_utc_offset d) * secondUnits + (ns : Int) * 65536
    refine ⟨(s.setVirtual d instant x).finish who 0x0606 0 d (bytesLE 8 instant), ?_, State.answered_of_doms State.setVirtual_sameBut hs,
      State.resultOf_of_doms State.setVirtual_sameBut hs, ?_, ?_, State.framed_of_doms State.setVirtual_sameBut⟩
    · refine congrArg Host.Outcome.next ((State.steerDomain_ok hs rfl (s.permits_domainOwner _ hc) ?_ hbound hupdate).trans ?_)
      · simp [firstRefusal_none, hdate, hclock, hexists, State.timeRefused, hcreated, State.autoRefused, hmode, hbound]
        omega
      · rw [State.setDomTime_virtual hbound]
        rfl
    all_goals rw [State.finish_dom, State.setVirtual_dom]
    rfl
  · let x : DomUpdate := { instant := instant, period := periodPpt ppt, absolute := none, delta := 0 }
    have heffect : s.freqVirtual d instant ppt = (s.put1 Attr.domain_freq_adj d ppt).setPend d x := by rw [State.freqVirtual, hslew]
    have hwrites : Writes [Attr.domain_freq_adj.id] s ((s.put1 Attr.domain_freq_adj d ppt).setPend d x) := Writes.refl.put1.setDom
    refine ⟨((s.put1 Attr.domain_freq_adj d ppt).setPend d x).finish who 0x0607 0 d (bytesLE 8 (periodPpt ppt)), ?_,
      hwrites.answered hs, hwrites.resultOf hs, ?_, ?_, ?_,
      State.framed_of_effect (Evolves.setPend (.put1 .refl)).same (State.attrsKept_refl.put1.of_eq (t := s.put1 Attr.domain_freq_adj d ppt))⟩
    · refine congrArg Host.Outcome.next ((State.steerDomain_ok hs rfl (s.permits_domainOwner _ hc) ?_ hbound hupdate).trans ?_)
      · simp [firstRefusal_none, State.freqRange, State.freqState, hcreated, State.autoRefused, hmode, hbound, hslew]
        omega
      · have hvirtual : ((s.put1 Attr.domain_freq_adj d ppt).setPend d x).virtual d = true := by
          rw [State.virtual, Writes.boundDpll hwrites, hbound]
          rfl
        simp only [hbound, heffect, State.periodResult, State.setPend_pend, hvirtual, if_true, x]
    · rw [State.finish_attr_eq]
      exact State.attr_put1_same ..
    · rw [State.finish_dom, State.setPend_words, State.put1_dom]
    · rw [State.finish_dom, State.setPend_pend]
  · refine ⟨(s.phaseVirtual d 0 instant x).finish who 0x0608 0 d (bytesLE 8 instant), ?_, State.answered_of_doms State.phaseVirtual_sameBut hs,
      State.resultOf_of_doms State.phaseVirtual_sameBut hs, ?_, ?_, State.framed_of_doms State.phaseVirtual_sameBut⟩
    · refine congrArg Host.Outcome.next ((State.steerDomain_ok hs rfl (s.permits_domainOwner _ hc) ?_ hbound hupdate).trans ?_)
      · simp [firstRefusal_none, State.phaseRange, hcreated, State.autoRefused, hmode, hbound]
        omega
      · rw [hbound]
        rfl
    all_goals rw [State.finish_dom]; simp [State.phaseVirtual]
  · refine ⟨(s.phaseVirtual d 1 instant x).finish who 0x0608 0 d (bytesLE 8 instant), ?_, State.answered_of_doms State.phaseVirtual_sameBut hs,
      State.resultOf_of_doms State.phaseVirtual_sameBut hs, ?_, ?_, ?_, State.framed_of_doms State.phaseVirtual_sameBut⟩
    · refine congrArg Host.Outcome.next ((State.steerDomain_ok hs rfl (s.permits_domainOwner _ hc) ?_ hbound hupdate).trans ?_)
      · simp [firstRefusal_none, State.phaseRange, hcreated, State.autoRefused, hmode, hbound]
        omega
      · rw [hbound]
        rfl
    all_goals rw [State.finish_dom]; simp [State.phaseVirtual, hx]

end Sys2Proof.Machine
end

section
/-! DOMAIN.RESET disqualifies the domain as a reference (R411), and the selectors that list the domain keep that it has left (R131). -/

set_option Elab.async false

namespace Sys2Proof.Machine

/-- A module out of reset with a virtual domain 0 that is a qualified reference, which the next decision of SELECTOR 0 brings in. -/
def listedDomain : State :=
  ((State.reset.put1 Attr.domain_state 0 1).setDom 0 { ref := { qualified := true } }).setSel 0 { newList := some [2 * 2 ^ 10] }

/-- Its reset tells the selector. -/
theorem domainReset_tells_selector :
    ((nextOr listedDomain (exec (.domainReset .console 0 0) listedDomain)).sel 0).left = [64] := by decide +kernel

/-- Refutes O19: its clause of DOMAIN.RESET leaves the selectors out of the parts that may change, but the reset of a qualified domain
makes the selectors that list it keep that it has left. -/
theorem not_domainCalendar : ¬ Obligations.DomainCalendar := by
  unfold Obligations.DomainCalendar
  rintro ⟨-, -, -, hreset, -⟩
  have hserves : listedDomain.serves .console := ⟨rfl, trivial⟩
  obtain ⟨t, hexec, -, -, -, -, -, -, -, -, -, hsame⟩ :=
    hreset listedDomain .console 0 0 hserves rfl (by decide) (by decide +kernel) (by decide +kernel) (by decide +kernel)
  have hsels : t.sels = listedDomain.sels := hsame .sels (by decide)
  have hleft := domainReset_tells_selector
  rw [hexec, nextOr, State.sel, hsels] at hleft
  cases hleft

end Sys2Proof.Machine
end

section
/-! Updates of a domain at their instants (R61, R62, R74), and the end of a reference (R25, R277). -/

set_option Elab.async false

namespace Sys2Proof.Machine

variable {s t u : State} {d : Nat}

/-! ### Frames that an update steps over (R64) -/

theorem State.sendDone_writes {ids : List Nat} {f : TxFrame} {flag : Nat} : Writes ids s (s.sendDone f flag) := by
  unfold State.sendDone
  split
  · exact Writes.refl.audit.complete
  · exact .refl

/-- The ids of the counts of a port's frames that missed their launch times. -/
def lateCounts : List Nat := [Attr.port_tx_drops.id, Attr.port_late_launches.id]

theorem State.lateFrame_writes {p : Nat} {f : TxFrame} (hp : p < 4) : Writes lateCounts s (s.lateFrame p f).2 := by
  unfold State.lateFrame
  have hraise : Writes lateCounts s (s.raiseOnce (Ev.port p 7)) := Writes.refl.raiseOnce
  dsimp only
  split
  · split
    · exact hraise.bump.trans State.sendDone_writes
    · exact hraise
  · exact hraise.bump

theorem State.eachFrame_writes {ids : List Nat} {p : TxFrame → Bool} {f : State → TxFrame → Option TxFrame × State}
    (hf : ∀ u g, Writes ids u (f u g).2) (l : List TxFrame) : Writes ids s (s.eachFrame p f l).2 := by
  induction l generalizing s with
  | nil => exact .refl
  | cons g gs ih =>
    unfold State.eachFrame
    dsimp only
    split
    · exact (hf s g).trans ih
    · exact ih

theorem State.passLaunches_writes {before : Int} : Writes lateCounts s (s.passLaunches d before) := by
  unfold State.passLaunches
  refine Writes.refl.forEach fun u p hp => ?_
  have hlt : p < 4 := List.mem_range.1 hp
  dsimp only
  split
  · exact (State.eachFrame_writes (fun _ _ => State.lateFrame_writes hlt) _).setPort
  · exact .refl

/-! ### What keeps the words and the update of every domain -/

/-- The records of all domains are as before, but for what follows from the time of domain `d`: when it was set, and the transition of
its table. -/
structure KeepsWords (d : Nat) (s t : State) : Prop where
  others : ∀ e, e ≠ d → t.dom e = s.dom e
  words : (t.dom d).words = (s.dom d).words
  prev : (t.dom d).prev = (s.dom d).prev
  lastUpdate : (t.dom d).lastUpdate = (s.dom d).lastUpdate
  pend : (t.dom d).pend = (s.dom d).pend
  slew : (t.dom d).slew = (s.dom d).slew

theorem KeepsWords.refl : KeepsWords d s s := ⟨fun _ _ => rfl, rfl, rfl, rfl, rfl, rfl⟩

theorem KeepsWords.trans (h : KeepsWords d s t) (h' : KeepsWords d t u) : KeepsWords d s u :=
  ⟨fun e he => (h'.others e he).trans (h.others e he), h'.words.trans h.words, h'.prev.trans h.prev, h'.lastUpdate.trans h.lastUpdate,
    h'.pend.trans h.pend, h'.slew.trans h.slew⟩

theorem KeepsWords.of_doms (h : t.doms = s.doms) : KeepsWords d s t := by
  have hdom : ∀ e, t.dom e = s.dom e := fun e => State.dom_of_doms h
  exact ⟨fun e _ => hdom e, by rw [hdom], by rw [hdom], by rw [hdom], by rw [hdom], by rw [hdom]⟩

theorem KeepsWords.through (h : KeepsWords d s t) (hu : u.doms = t.doms) : KeepsWords d s u := h.trans (.of_doms hu)

theorem KeepsWords.setDom (h : KeepsWords d s t) {r : DomRec} (hw : r.words = (t.dom d).words := by rfl)
    (hp : r.prev = (t.dom d).prev := by rfl) (hl : r.lastUpdate = (t.dom d).lastUpdate := by rfl) (hu : r.pend = (t.dom d).pend := by rfl)
    (hs : r.slew = (t.dom d).slew := by rfl) : KeepsWords d s (t.setDom d r) :=
  h.trans ⟨fun _ he => State.dom_setDom_ne he, by simpa, by simpa, by simpa, by simpa, by simpa⟩

theorem KeepsWords.ite (ht : KeepsWords d s t) (hu : KeepsWords d s u) {c : Prop} [Decidable c] : KeepsWords d s (if c then t else u) := by
  split <;> assumption

theorem State.leaveUnset_keepsWords : KeepsWords d s (s.leaveUnset d) := by
  unfold State.leaveUnset
  split
  · exact .refl
  · dsimp only
    split
    · exact KeepsWords.refl.setDom.through (State.put1_doms ..)
    · exact KeepsWords.refl.setDom.through (State.put1_doms ..)

theorem State.retz_keepsWords : KeepsWords d s (s.retz d) := by
  have hdates : KeepsWords d (s.followZone d) (s.retz d) := .of_doms ((Evolves.judgeDates (P := .gens :: raiseParts) .refl).same .doms (by decide))
  refine .trans ?_ hdates
  unfold State.followZone
  dsimp only
  split
  · have hgens : ∀ l : List Nat, KeepsWords d s (s.forEach l fun u g => u.setGen g { u.gen g with tzLag := none }) := fun l =>
      .of_doms ((Evolves.forEach (P := [.gens]) .refl fun _ _ => Evolves.setGen .refl).same .doms (by decide))
    refine .ite (hgens _) ?_
    exact (hgens _).setDom.through ((Evolves.tzExhausted (P := raiseParts) .refl).same .doms (by decide))
  · exact .refl

theorem State.judgeDate_writes {g : Nat} : Writes [] s (s.judgeDate g) := by
  unfold State.judgeDate
  have hclear : Writes [] s (s.clearDate g) := State.clearDate_writes
  exact .ite hclear (.ite .refl Writes.refl.setGen.raise)

theorem State.retz_writes : Writes [] s (s.retz d) := by
  have hzone : Writes [] s (s.followZone d) := by
    unfold State.followZone
    have hgens : ∀ l : List Nat, Writes [] s (s.forEach l fun u g => u.setGen g { u.gen g with tzLag := none }) := fun l =>
      Writes.refl.forEach fun _ _ _ => Writes.refl.setGen
    refine .ite (.ite (hgens _) ?_) .refl
    exact .ite (hgens _).setDom.raise (hgens _).setDom
  exact hzone.forEach fun _ _ _ => State.judgeDate_writes

theorem State.judgeTods_writes : Writes [Attr.todgen_tod_tx_state.id] s s.judgeTods := by
  refine Writes.refl.forEach fun u n hn => ?_
  have hlt : n < 2 := by simp at hn; omega
  exact .ite Writes.refl.put1.raise .refl

theorem State.leaveUnset_writes (hd : d < 512) : Writes [Attr.domain_time_status.id] s (s.leaveUnset d) := by
  unfold State.leaveUnset
  split
  · exact .refl
  · dsimp only
    split <;> exact Writes.refl.setDom.put1

/-! ### The update (R61) -/

/-- A domain with the words that an update sets, before what follows from its step. -/
def State.withWords (s : State) (d : Nat) (x : DomUpdate) : State :=
  { s with counter := max s.counter x.instant }.setDom d
    { s.dom d with prev := some (s.dom d).words, words := (s.dom d).words.after x, lastUpdate := some x.instant, pend := none }

/-- What follows from the step of a virtual domain before the count of its steps. -/
def State.carried (s : State) (d : Nat) (x : DomUpdate) : State :=
  let t := s.withWords d x
  (t.stepArms d ((s.dom d).words.time x.instant 0) (t.domTime d x.instant)).carryLehr d
    ((t.dom d).words.time x.instant 0 - (s.dom d).words.time x.instant 0)

/-- What follows from the step of a virtual domain after that count. -/
def State.settled (v : State) (d : Nat) (x : DomUpdate) (before : Int) : State :=
  let y := (if x.sets then v.leaveUnset d else v).passLaunches d before
  (if x.absolute.isSome || x.delta != 0 then y.retz d else y).judgeTods

theorem State.carried_sameBut {x : DomUpdate} : (s.withWords d x).sameBut (s.carried d x) [.arms, .outs, .gens] :=
  (Evolves.carryLehr (.stepArms .refl)).same

theorem State.carried_attrs {x : DomUpdate} : (s.carried d x).attrs = s.attrs := State.carried_sameBut .attrs (by decide)

theorem State.applyUpdate_eq {x : DomUpdate} (h : s.boundDpll d = none) (hd : d < 512) : s.applyUpdate d x =
    ((s.carried d x).add Attr.domain_steps d 0 x.steps).settled d x ((s.dom d).words.time (max s.counter x.instant) 0) := by
  have hbound : ((s.carried d x).add Attr.domain_steps d 0 x.steps).boundDpll d = none := by
    rw [Writes.boundDpll (Writes.add (ids := [Attr.domain_steps.id]) .refl), State.boundDpll_of_attrs State.carried_attrs, h]
  have hmatch : ∀ v : State, v.boundDpll d = none →
      (match v.boundDpll d with
        | some n => (v.domainStep d x.jump).phaseJump n x.jump
        | none => v) = v := fun v hv => by rw [hv]
  exact congrArg (fun v : State => v.settled d x ((s.dom d).words.time (max s.counter x.instant) 0)) (hmatch _ hbound)

theorem State.settled_keepsWords {v : State} {x : DomUpdate} {before : Int} : KeepsWords d v (v.settled d x before) := by
  have hleft : KeepsWords d v (if x.sets then v.leaveUnset d else v) := .ite State.leaveUnset_keepsWords .refl
  have hpassed := hleft.through ((Evolves.passLaunches (P := raiseParts) (d := d) (before := before) .refl).same .doms (by decide))
  exact KeepsWords.through (.ite (hpassed.trans State.retz_keepsWords) hpassed) ((Evolves.judgeTods (P := raiseParts) .refl).same .doms (by decide))

theorem State.settled_writes {v : State} {x : DomUpdate} {before : Int} (hd : d < 512) :
    Writes (Attr.domain_time_status.id :: Attr.todgen_tod_tx_state.id :: lateCounts) v (v.settled d x before) := by
  have hleft : Writes (Attr.domain_time_status.id :: Attr.todgen_tod_tx_state.id :: lateCounts) v (if x.sets then v.leaveUnset d else v) :=
    .ite (State.leaveUnset_writes hd).mono .refl
  have hpassed := hleft.andThen (State.passLaunches_writes (d := d) (before := before))
  exact (Writes.ite (hpassed.andThen State.retz_writes) hpassed).andThen State.judgeTods_writes

theorem State.settled_counter {v : State} {x : DomUpdate} {before : Int} : (v.settled d x before).counter = v.counter := by
  have hev : Evolves (.doms :: .gens :: raiseParts) v (v.settled d x before) := by
    unfold State.settled
    exact .judgeTods (.ite (.retz (.passLaunches (.ite (.leaveUnset .refl) .refl))) (.passLaunches (.ite (.leaveUnset .refl) .refl)))
  exact hev.same .counter (by decide)

/-- What an update of a virtual domain leaves in the record of the domain, and nothing in those of the others (R61). -/
theorem State.applyUpdate_domain {x : DomUpdate} (h : s.boundDpll d = none) (hd : d < 512) :
    ((s.applyUpdate d x).dom d).words = (s.dom d).words.after x ∧ ((s.applyUpdate d x).dom d).prev = some (s.dom d).words ∧
      ((s.applyUpdate d x).dom d).lastUpdate = some x.instant ∧ ((s.applyUpdate d x).dom d).pend = none ∧
      ((s.applyUpdate d x).dom d).slew = (s.dom d).slew ∧ ∀ e, e ≠ d → (s.applyUpdate d x).dom e = s.dom e := by
  have hkeeps : KeepsWords d (s.withWords d x) (s.applyUpdate d x) := by
    rw [State.applyUpdate_eq h hd]
    exact .trans (.trans (.of_doms (State.carried_sameBut .doms (by decide))) (.of_doms (State.put_doms ..))) State.settled_keepsWords
  have hrecord : (s.withWords d x).dom d = { s.dom d with
      prev := some (s.dom d).words, words := (s.dom d).words.after x, lastUpdate := some x.instant, pend := none } := State.dom_setDom_same
  refine ⟨by rw [hkeeps.words, hrecord], by rw [hkeeps.prev, hrecord], by rw [hkeeps.lastUpdate, hrecord], by rw [hkeeps.pend, hrecord],
    by rw [hkeeps.slew, hrecord], fun e he => ?_⟩
  rw [hkeeps.others e he]
  exact State.dom_setDom_ne he

theorem State.applyUpdate_counter {x : DomUpdate} (h : s.boundDpll d = none) (hd : d < 512) :
    (s.applyUpdate d x).counter = max s.counter x.instant := by
  rw [State.applyUpdate_eq h hd, State.settled_counter, State.add, State.put_counter, State.carried_sameBut .counter (by decide)]
  rfl

/-- The steps of a virtual domain are counted (R61). -/
theorem State.applyUpdate_steps {x : DomUpdate} (h : s.boundDpll d = none) (hd : d < 512) : (s.applyUpdate d x).attr Attr.domain_steps d =
    (s.attr Attr.domain_steps d + x.steps) % (256 ^ Attr.domain_steps.bytes : Nat) := by
  rw [State.applyUpdate_eq h hd, (State.settled_writes hd).attr, State.add, State.attr_put_same, State.attr_of_attrs State.carried_attrs]

/-! ### Disqualified references (R25) -/

theorem State.setQualified_false_dom : ((s.setQualified d false).dom d).ref.qualified = false ∧
    ((s.setQualified d false).dom d).words = (s.dom d).words := by
  unfold State.setQualified
  have hleft : ∀ u : State, ∀ x : Nat, (u.sourceLeft x).dom d = u.dom d := fun u x =>
    State.dom_of_doms ((Evolves.sourceLeft (P := [.sels]) .refl).same .doms (by decide))
  dsimp only
  split
  · rw [hleft]; simp
  · simp

/-- Settles O20: what an update brings with it changes no words, and a reference that ends leaves its domain's words alone. -/
theorem domainUpdates : Obligations.DomainUpdates := by
  unfold Obligations.DomainUpdates
  refine ⟨fun s d x hup hpend hbound => ?_, fun s d w hup hslew hpend hbound hupdate => ?_, fun s d hup hcreated => ?_,
    fun s d hup hcreated => ?_⟩
  · obtain ⟨hwords, hprev, hlast, hnone, -, hothers⟩ := State.applyUpdate_domain (x := x) hbound d.isLt
    have hexec : exec (.domainUpdateApply d) s = .next (s.applyUpdate d.val x) := by
      simp [exec, execDomainUpdateApply, hpend, State.when_, hup]
    exact ⟨_, hexec, hwords, hprev, hlast, hnone, State.applyUpdate_counter hbound d.isLt, State.applyUpdate_steps hbound d.isLt, hothers,
      Evolves.frame Evolves.execDomainUpdateApply_evolves hexec⟩
  · let v := s.setDom d.val { s.dom d.val with slew := none }
    let x : DomUpdate := { instant := max s.counter w.finish, period := periodPpt (s.attr Attr.domain_freq_adj d.val), absolute := none
                           delta := w.residual (max s.counter w.finish) }
    have hbound' : v.boundDpll d.val = none := hbound
    obtain ⟨hwords, -, -, -, hslew', -⟩ := State.applyUpdate_domain (x := x) hbound' d.isLt
    have hexec : exec (.slewEnd d) s = .next (v.applyUpdate d.val x) := by
      simp [exec, execSlewEnd, hslew, hpend, State.when_, hup, State.virtual, hbound, hupdate, v, x]
    refine ⟨_, hexec, ?_, ?_, ?_, ?_, Evolves.frame Evolves.execSlewEnd_evolves hexec⟩
    · rw [hslew']
      simp [v]
    · rw [State.applyUpdate_counter hbound' d.isLt]
      simp [v, x]
    · rw [hwords]
      rfl
    · rw [State.applyUpdate_steps hbound' d.isLt]
      exact congrArg (· % _) (Int.add_zero _)
  · obtain ⟨hqualified, hwords⟩ := State.setQualified_false_dom (s := s) (d := d.val)
    have hexec : exec (.domainRefStale d) s = .next _ := congrArg Host.Outcome.next (if_pos (by simp [hup, hcreated]))
    refine ⟨_, hexec, ?_, ?_, ?_, (Evolves.of_next Evolves.execDomainRefStale_evolves hexec).same .counter (by decide)⟩
    all_goals simp [hqualified, hwords]
  · obtain ⟨hqualified, hwords⟩ := State.setQualified_false_dom (s := s) (d := d.val)
    have hexec : exec (.pktHoldLimitExpiry d) s = .next _ := congrArg Host.Outcome.next (if_pos (by simp [hup, hcreated]))
    exact ⟨_, hexec, hqualified, hwords, (Evolves.of_next Evolves.execPktHoldLimitExpiry_evolves hexec).same .counter (by decide)⟩

end Sys2Proof.Machine
end

section
/-! The SELECTOR actions (R126, R131, R134, R135, R141). -/

set_option Elab.async false

namespace Sys2Proof.Machine

variable {s t u : State} {n k : Nat} {who : Issuer}

@[simp] theorem State.sel_setSel_same {r : SelRec} : (s.setSel n r).sel n = r := tblGet_set_same ..
@[simp] theorem State.put1_sel {a : AttrDesc} {i : Nat} {v : Int} : (s.put1 a i v).sel n = s.sel n := by simp [State.sel]
@[simp] theorem State.put_sel {a : AttrDesc} {i e : Nat} {v : Int} : (s.put a i e v).sel n = s.sel n := by simp [State.sel]
@[simp] theorem State.setDpll_sel {m : Nat} {r : DpllRec} : (s.setDpll m r).sel n = s.sel n := rfl
@[simp] theorem State.finish_sel {op st i a : Nat} {r : List Byte} {l : Option Nat} : (s.finish who op st i r l a).sel n = s.sel n := by
  simp [State.sel]

/-! ### Commands of the configuration (R132, R136) -/

theorem State.selCommand_sameBut {before : State} {c : Nat} : s.sameBut (s.selCommand before n c) [.sels] := (Evolves.selCommand .refl).same

theorem State.selCommand_sel {before : State} {c : Nat} : (s.selCommand before n c).sel n =
    { s.sel n with command := max c (s.sel n).command, cmdLost := ((s.selCommand before n c).sel n).cmdLost } := by
  simp [State.selCommand]

theorem State.selCommand_attr {before : State} {c : Nat} {a : AttrDesc} {i e : Nat} : (s.selCommand before n c).attr a i e = s.attr a i e :=
  State.attr_of_attrs (State.selCommand_sameBut .attrs (by decide))

theorem Writes.selCommand {ids : List Nat} (h : Writes ids s t) {before : State} {c : Nat} : Writes ids s (t.selCommand before n c) := h.setSel

theorem State.attrsKept.selCommand {keys : List Nat} (h : s.attrsKept t keys) {before : State} {c : Nat} :
    s.attrsKept (t.selCommand before n c) keys := h.of_eq (u := t.selCommand before n c)

/-! ### The entry that LOCKOUT writes (R134) -/

theorem State.cand_of_attr {v : Nat} (h : t.attr Attr.selector_candidates n k = v) : t.cand n k = v := by
  rw [State.cand, State.attrN, h]
  rfl

/-- An entry with its lockout bit set or cleared. -/
def lockEntry (e on : Nat) : Nat := field e 0 17 + on * 2 ^ 17

theorem lockEntry_locked {e on : Nat} (h : on ≤ 1) : candLocked (lockEntry e on) = (on == 1) := by
  have hbit : lockEntry e on / 2 ^ 17 % 2 = on := by
    simp only [lockEntry, field]
    omega
  rw [candLocked, bitOf, hbit]

theorem lockEntry_number {e on : Nat} : candNumber (lockEntry e on) = candNumber e := by
  have hkind : candKind (lockEntry e on) = candKind e := by
    simp only [candKind, lockEntry, field]
    omega
  have hsource : candSource (lockEntry e on) = candSource e := by
    simp only [candSource, lockEntry, field]
    omega
  rw [candNumber, candNumber, hkind, hsource]

theorem lockEntry_priority {e on : Nat} : candPriority (lockEntry e on) = candPriority e := by
  simp only [candPriority, lockEntry, field]
  omega

/-! ### Movements that are added (R154) -/

/-- What a movement removes, and what of it is left. -/
def Movement.facts (m : Movement) : MoveKind × Int × Int := (m.kind, m.remaining, m.whole)

theorem startHead_facts {now : Nat} (ms : List Movement) : (startHead now ms).map Movement.facts = ms.map Movement.facts := by
  cases ms with
  | nil => rfl
  | cons m ms =>
    rw [startHead, List.map_cons, List.map_cons]
    split <;> rfl

theorem State.runHead_facts (ms : List Movement) : (s.runHead n ms).map Movement.facts = ms.map Movement.facts := by
  unfold State.runHead
  split
  · rfl
  · split
    · exact startHead_facts ms
    · rfl

/-- The movements of a DPLL after one is added that takes a slope. -/
theorem State.addMove_moves {kind : MoveKind} {x : Int} (hx : x ≠ 0) (hs : s.slopeOf n kind ≠ 0) :
    ((s.addMove n kind x).dpll n).moves.map Movement.facts = (s.dpll n).moves.map Movement.facts ++ [(kind, x, x)] := by
  rw [State.addMove, if_neg hx, if_neg hs, State.dpll_setDpll_same, State.runHead_facts, List.map_append]
  rfl

theorem State.addMove_sameBut {kind : MoveKind} {x : Int} : s.sameBut (s.addMove n kind x) [.dplls] := (Evolves.addMove .refl).same

theorem State.addMove_dpll_ne {kind : MoveKind} {x : Int} {m : Nat} (h : m ≠ n) : (s.addMove n kind x).dpll m = s.dpll m := by
  unfold State.addMove
  split
  · rfl
  · split <;> exact State.dpll_setDpll_ne h

/-- What the removals of a build-out remove as a whole, by the facts of the movements. -/
theorem State.buildOutWhole_eq : s.buildOutWhole n =
    ((((s.dpll n).moves.map Movement.facts).filter fun f => decide (f.1 = .buildOut ∨ f.1 = .align)).map fun f => f.2.2).sum := by
  rw [State.buildOutWhole, List.filter_map, List.map_map]
  rfl

theorem State.buildOutWhole_of_dpll (h : t.dpll n = s.dpll n) : t.buildOutWhole n = s.buildOutWhole n := by
  rw [State.buildOutWhole, State.buildOutWhole, h]

/-- A removal that is added counts with what it removes as a whole. -/
theorem State.addMove_whole {x : Int} (hs : s.slopeOf n .align ≠ 0) : (s.addMove n .align x).buildOutWhole n = s.buildOutWhole n + x := by
  by_cases hx : x = 0
  · rw [State.addMove, if_pos hx, hx, Int.add_zero]
  · rw [State.buildOutWhole_eq, State.buildOutWhole_eq, State.addMove_moves hx hs, List.filter_append, List.map_append, List.sum_append]
    simp

/-! ### Pending periods (R131) -/

/-- The state that CLEAR_WTR leaves. -/
def State.clearWtr (s : State) (n index : Nat) : State :=
  let r := s.sel n
  if index = 255 then s.setSel n { r with wtr := [] }
  else match candNumber (s.cand n index) with
    | some x => s.setSel n { r with wtr := tblDrop r.wtr x }
    | none => s

theorem State.clearWtr_sameBut {index : Nat} : s.sameBut (s.clearWtr n index) [.sels] := by
  unfold State.clearWtr
  dsimp only
  split
  · exact (Evolves.setSel .refl).same
  · split
    · exact (Evolves.setSel .refl).same
    · exact fun p _ => s.same_refl p

theorem State.entryPending_of (hwtr : (t.sel n).wtr = (s.sel n).wtr) (hcand : t.cand n k = s.cand n k) : t.entryPending n k = s.entryPending n k := by
  rw [State.entryPending, State.entryPending, hcand]
  simp only [State.wtrPending, hwtr]

theorem State.clearWtr_pending {index : Nat} (h : index = 255 ∨ k = index) : (s.clearWtr n index).entryPending n k = false := by
  have hcand : (s.clearWtr n index).cand n k = s.cand n k :=
    congrArg Int.toNat (State.attr_of_attrs (State.clearWtr_sameBut .attrs (by decide)))
  unfold State.entryPending
  rw [hcand]
  split
  · next x hx =>
    unfold State.wtrPending State.clearWtr
    split
    · simp
    · have hk : k = index := by omega
      subst hk
      simp [hx]
  · rfl

/-- Settles O21: each action writes what the next decision reads, and ALIGN moves the accumulated phase to the movements. -/
theorem selectorActions : Obligations.SelectorActions := by
  unfold Obligations.SelectorActions
  refine ⟨fun s who n entries hs hc hn hlen hbad htwice hcreated htarget hloop => ?_, fun s who n mode index hs hc hn hmode hentry => ?_,
    fun s who n index on hs hc hn hindex hempty hon htarget => ?_, fun s who n index hs hc hn hindex => ?_, fun s who n hs hc hn hstate => ?_⟩
  · have hexec : exec (.setCandidates who n entries) s = .next _ :=
      congrArg Host.Outcome.next (State.doAct_ok _ hs.1 rfl (s.permits_owner0 hc) (by
        simp only [firstRefusal_none, List.mem_cons, List.not_mem_nil, or_false, forall_eq_or_imp, forall_eq, hbad, htwice]
        simp
        refine ⟨⟨by omega, by omega⟩, ⟨hcreated, ?_⟩, ?_⟩
        · split
          · next x hx => simpa using htarget x hx
          · rfl
        · split
          · next d hd => simpa using hloop d hd
          · rfl))
    refine ⟨_, hexec, (Writes.refl (ids := []).setSel.selCommand).answered hs, ?_,
      State.framed_of_effect (Evolves.selCommand (.setSel .refl)).same State.attrsKept_refl.of_eq⟩
    rw [State.finish_sel, State.selCommand_sel, State.sel_setSel_same]
  · have hexec : exec (.select who n mode index) s = .next _ :=
      congrArg Host.Outcome.next (State.doAct_ok _ hs.1 rfl (s.permits_owner0 hc) (by
        simp [firstRefusal_none]
        grind))
    refine ⟨_, hexec, (Writes.refl (ids := [Attr.selector_select_mode.id, Attr.selector_select_target.id]).put1.put1.selCommand).answered hs,
      ?_, ?_, ?_, State.framed_of_effect (Evolves.selCommand (.put1 (.put1 .refl))).same (State.attrsKept_refl.put1.put1.selCommand)⟩
    · rw [State.finish_attr_eq, State.selCommand_attr, State.attr_put1_ne, State.attr_put1_same]
    · rw [State.finish_attr_eq, State.selCommand_attr, State.attr_put1_same]
    · rw [State.finish_sel, State.selCommand_sel, State.put1_sel, State.put1_sel]
  · have hexec : exec (.lockout who n index on) s = .next _ :=
      congrArg Host.Outcome.next (State.doAct_ok _ hs.1 rfl (s.permits_owner0 hc) (by
        simp [firstRefusal_none, hempty]
        grind))
    have hwrites : Writes [Attr.selector_candidates.id] s
        ((s.put Attr.selector_candidates n index (lockEntry (s.cand n index) on : Nat)).selCommand s n 2) := Writes.refl.put.selCommand
    have hcand : ∀ u : State, u.attr Attr.selector_candidates n index = (lockEntry (s.cand n index) on : Nat) →
        candLocked (u.cand n index) = (on == 1) ∧ candNumber (u.cand n index) = candNumber (s.cand n index) ∧
          candPriority (u.cand n index) = candPriority (s.cand n index) := fun u hu => by
      rw [State.cand_of_attr hu]
      exact ⟨lockEntry_locked hon, lockEntry_number, lockEntry_priority⟩
    obtain ⟨hlocked, hnumber, hpriority⟩ := hcand (((s.put Attr.selector_candidates n index (lockEntry (s.cand n index) on : Nat)).selCommand
      s n 2).finish who 0x0302 0 n) (by
        rw [State.finish_attr_eq]
        exact State.attr_put_same ..)
    exact ⟨_, hexec, hwrites.answered hs, hlocked, hnumber, hpriority,
      State.framed_of_effect (Evolves.selCommand (.put .refl)).same (State.attrsKept_refl.put.selCommand)⟩
  · have hexec : exec (.clearWtr who n index) s = .next _ :=
      congrArg Host.Outcome.next (State.doAct_ok _ hs.1 rfl (s.permits_owner0 hc) (by
        simp [firstRefusal_none]
        omega))
    have hsame := State.clearWtr_sameBut (s := s) (n := n) (index := index)
    refine ⟨_, hexec, (Writes.refl (ids := []).of_same hsame).answered hs, fun k hk hki => ?_,
      State.framed_of_effect (State.sameBut_mono hsame (by decide)) (State.attrsKept_refl.of_eq (hsame .attrs (by decide)))⟩
    have hpending := State.clearWtr_pending (s := s) (n := n) hki
    rw [← hpending]
    exact State.entryPending_of (congrArg SelRec.wtr State.finish_sel) (congrArg Int.toNat State.finish_attr_eq)
  · have hn' : n < 16 := by omega
    let b := s.attr Attr.selector_buildout_phase n
    let v := s.put1 Attr.selector_buildout_phase n 0
    have hsame : v.sameBut (v.addMove n .align (-b)) [.dplls] := State.addMove_sameBut
    have hattr : ∀ (a : AttrDesc) (i e : Nat), (v.addMove n .align (-b)).attr a i e = v.attr a i e := fun a i e =>
      State.attr_of_attrs (hsame .attrs (by decide))
    have hexec : exec (.align who n) s = .next ((v.addMove n .align (-b)).finish who 0x0304 0 n) :=
      congrArg Host.Outcome.next (State.doAct_ok _ hs.1 rfl (s.permits_owner0 hc) (by
        simp [firstRefusal_none, hstate]
        omega))
    have hphase : (v.addMove n .align (-b)).attr Attr.selector_buildout_phase n = 0 := (hattr ..).trans (State.attr_put1_same ..)
    have hslope : v.slopeOf n .align = s.slopeOf n .align := congrArg Int.toNat (State.attr_put1_ne _)
    have hdpll : v.dpll n = s.dpll n := State.put1_dpll
    refine ⟨_, hexec, ((Writes.put1 (ids := [Attr.selector_buildout_phase.id]) .refl).of_same hsame).answered hs, ?_, fun hs0 => ?_, ?_,
      fun m hm => ?_, State.framed_of_effect (Evolves.addMove (.put1 .refl)).same (State.attrsKept_refl.put1.of_eq (hsame .attrs (by decide)))⟩
    · rw [State.finish_attr_eq, hphase]
    · rw [State.buildoutPhase, State.buildoutPhase, State.finish_attr_eq, hphase]
      have hwhole : ((v.addMove n .align (-b)).finish who 0x0304 0 n).buildOutWhole n = s.buildOutWhole n - b := by
        rw [State.buildOutWhole_of_dpll State.finish_dpll, State.addMove_whole (by rwa [hslope]), State.buildOutWhole_of_dpll hdpll]
        rfl
      rw [hwhole]
      omega
    · rw [State.finish_dpll]
      split
      · next hb => rw [State.addMove, if_pos (by simp [b, hb]), hdpll]
      · next hb =>
        have hb' : -b ≠ 0 := by simpa [b] using hb
        split
        · next h0 => 
          rw [State.addMove, if_neg hb', if_pos (by rw [hslope, h0]), State.dpll_setDpll_same, hdpll]
          rfl
        · next h0 =>
          have hmoves := State.addMove_moves (s := v) hb' (by rwa [hslope])
          rw [hdpll] at hmoves
          have hfirst := congrArg (List.map fun f : MoveKind × Int × Int => (f.1, f.2.1)) hmoves
          rw [List.map_append, List.map_map, List.map_map] at hfirst
          exact hfirst
    · rw [State.finish_dpll, State.addMove_dpll_ne hm, State.put1_dpll]

end Sys2Proof.Machine
end

section
/-! What the operations of a DPLL write (R164 to R172, R398): the attributes of the DPLL and those that follow it, and its own record. -/

set_option Elab.async false

namespace Sys2Proof.Machine

/-- The ids of the attributes that follow a change of the word, of the state, and the entry to holdover. -/
def wordIds : List Nat := [Attr.dpll_freq_word.id]
def stateIds : List Nat := [Attr.dpll_state.id, Attr.dpll_state_since.id, Attr.domain_time_status.id, Attr.mate_track_state.id]
def holdIds : List Nat := wordIds ++ stateIds ++ [Attr.dpll_ho_te_coeff.id, Attr.dpll_ho_te_est.id, Attr.dpll_ho_elapsed.id]

/-- The ids of the attributes that the loop of a DPLL, its movements and its changes of state write. -/
def loopIds : List Nat :=
  holdIds ++ [Attr.dpll_bw_used.id, Attr.dpll_lock_limit_used.id, Attr.dpll_pd_rate.id, Attr.dpll_phase_offset.id, Attr.dpll_settling.id,
   Attr.selector_buildout_phase.id]

variable {s t : State} {n x : Nat} {ids : List Nat}

namespace Writes

theorem judgeTransmit (h : Writes ids s t) {before : Int} : Writes ids s (t.judgeTransmit n before) :=
  .ite h (h.forEach fun _ _ _ => .ite refl.raise refl.uncause)

theorem useWord (h : Writes ids s t) (hn : n < 16) {y : Int} (hi : wordIds ⊆ ids := by decide) : Writes ids s (t.useWord n y) :=
  h.andThen (ids' := wordIds) (Writes.refl.setDpll.put1.judgeTransmit) hi

theorem reword (h : Writes ids s t) (hn : n < 16) (hi : wordIds ⊆ ids := by decide) : Writes ids s (t.reword n) := h.useWord hn hi

theorem setWord (h : Writes ids s t) (hn : n < 16) {y : Int} (hi : wordIds ⊆ ids := by decide) : Writes ids s (t.setWord n y) :=
  h.setDpll.reword hn hi

theorem endWordSlew (h : Writes ids s t) (hn : n < 16) (hi : wordIds ⊆ ids := by decide) : Writes ids s (t.endWordSlew n) :=
  .ite (h.setDpll.reword hn hi) h

theorem startWordMove (h : Writes ids s t) (hn : n < 16) {k : MoveKind} {y : Int} (hi : wordIds ⊆ ids := by decide) :
    Writes ids s (t.startWordMove n k y) :=
  .ite h (.ite h.setDpll (h.setDpll.reword hn hi))

theorem addMove (h : Writes ids s t) {k : MoveKind} {y : Int} : Writes ids s (t.addMove n k y) := .ite h (.ite h.setDpll h.setDpll)

theorem followStatus (h : Writes ids s t) (hi : [Attr.domain_time_status.id] ⊆ ids := by decide) : Writes ids s (t.followStatus n) :=
  h.andThen State.followStatus_writes hi

theorem judgeTrack (h : Writes stateIds s t) : Writes stateIds s t.judgeTrack := .ite h (.ite h.put1 (.ite h.put1 h))

theorem trackChange (h : Writes stateIds s t) {old new : DpllState} : Writes stateIds s (t.trackChange n old new) :=
  .ite (.ite h.put1.raise (.ite h.judgeTrack h)) h

/-- A source that is raised or loses its cause. -/
theorem raiseOrUncause (h : Writes ids s t) {p q : Prop} [Decidable p] [Decidable q] {ev e d : Nat} {c : Bool} {l : List ScopeItem} :
    Writes ids s (if p then t.raise ev c d l else if q then t.uncause e else t) := .ite h.raise (.ite h.uncause h)

theorem toDpllState (h : Writes ids s t) (hn : n < 16) {new : DpllState} (hi : stateIds ⊆ ids := by decide) :
    Writes ids s (t.toDpllState n new) := by
  refine h.andThen (ids' := stateIds) ?_ hi
  unfold State.toDpllState
  exact .ite .refl (Writes.refl.setDpll.put1.put1.raise.raiseOrUncause.raiseOrUncause.followStatus.trackChange)

theorem settle (h : Writes ids s t) (hn : n < 16) (hi : [Attr.dpll_settling.id] ⊆ ids := by decide) : Writes ids s (t.settle n) :=
  h.andThen (ids' := [Attr.dpll_settling.id]) Writes.refl.setDpll.put1 hi

theorem holdMoves (h : Writes ids s t) (hn : n < 16) (hi : [Attr.selector_buildout_phase.id] ⊆ ids := by decide) :
    Writes ids s (t.holdMoves n) :=
  h.andThen (ids' := [Attr.selector_buildout_phase.id]) Writes.refl.put1.setDpll.setDpll.setDpll hi

theorem enterHoldover (h : Writes ids s t) (hn : n < 16) (hi : holdIds ⊆ ids := by decide) : Writes ids s (t.enterHoldover n) := by
  refine h.andThen (ids' := holdIds) ?_ hi
  unfold State.enterHoldover
  exact toDpllState (put1 (put1 (.ite (Writes.refl.setDpll.setWord hn) ((Writes.refl.setDpll.setWord hn).putList)))) hn

theorem enterFreeRun (h : Writes ids s t) (hn : n < 16) (hi : holdIds ⊆ ids := by decide) : Writes ids s (t.enterFreeRun n) :=
  h.andThen (ids' := holdIds) ((Writes.refl.setWord hn).toDpllState hn) hi

theorem dpllDisconnect (h : Writes loopIds s t) (hn : n < 16) : Writes loopIds s (t.dpllDisconnect n) :=
  .ite (.ite ((h.setDpll.holdMoves hn).enterHoldover hn) ((h.setDpll.holdMoves hn).enterFreeRun hn)) h.setDpll

theorem secondStep (h : Writes ids s t) {k : Int} : Writes ids s (t.secondStep n k) := .ite h h.setDpll.setDpll

theorem compareLabel (h : Writes ids s t) {d : Nat} {seconds place : Int} : Writes ids s (t.compareLabel n d seconds place) :=
  h.setDpll.secondStep

theorem labelAtAcquire (h : Writes ids s t) : Writes ids s (t.labelAtAcquire n x) := by
  unfold State.labelAtAcquire
  split
  · split
    · split
      · exact h.compareLabel
      · exact h.setDpll
    · exact h
  · exact h

theorem loopMoves (h : Writes loopIds s t) (hn : n < 16) : Writes loopIds s (t.loopMoves n) := h.setDpll.put1.setDpll

theorem firstStep (h : Writes ids s t) {d : Nat} {b : Int} : Writes ids s (t.firstStep n d b) := .ite h.setDom h.setDom.setDpll

theorem takeOffset (h : Writes loopIds s t) (hn : n < 16) {b : Int} : Writes loopIds s (t.takeOffset n x b) :=
  .ite (.ite h.addMove h.put1) h.addMove

theorem useSource (h : Writes loopIds s t) (hn : n < 16) : Writes loopIds s (t.useSource n x) := h.put1.put1.put1

end Writes

/-! ### Entry to ACQUIRE and the connection of a candidate (R138, R160, R164) -/

/-- A DPLL that enters ACQUIRE with its integrator preloaded and the word in use kept. -/
def State.preloaded (s : State) (n : Nat) : State :=
  let held := decide (s.dpllState n = .holdover) || decide (s.dpllState n = .holdoverLimit)
  let word := if held then (s.dpll n).base else s.attr Attr.dpll_freq_word n
  let m := s.loopMoves n
  (m.setDpll n { m.dpll n with integrator := word, integralRest := 0, useShort := false }).setWord n word

/-- What follows its change of state. -/
def State.acquired (v : State) (n x : Nat) : State :=
  ((((v.settle n).setDpll n { (v.settle n).dpll n with moves := (v.settle n).runHead n ((v.settle n).dpll n).moves }).put1
    Attr.dpll_ho_te_est n 0).put1 Attr.dpll_ho_elapsed n 0).labelAtAcquire n x

theorem State.enterAcquire_eq {phase : Int} : ∃ u : State,
    ((∃ d b, u = (s.preloaded n).firstStep n d b) ∨ ∃ b, u = (s.preloaded n).takeOffset n x b) ∧
      s.enterAcquire n x phase = ((u.useSource n x).toDpllState n .acquire).acquired n x := by
  unfold State.enterAcquire
  dsimp only
  split
  · exact ⟨_, .inl ⟨_, _, rfl⟩, rfl⟩
  · exact ⟨_, .inr ⟨_, rfl⟩, rfl⟩

theorem State.preloaded_writes (hn : n < 16) : Writes loopIds s (s.preloaded n) :=
  ((Writes.refl.loopMoves hn).setDpll).setWord hn

/-- The ids of what a DPLL that entered ACQUIRE writes after its change of state. -/
def acquiredIds : List Nat := [Attr.dpll_settling.id, Attr.dpll_ho_te_est.id, Attr.dpll_ho_elapsed.id]

theorem State.acquired_writes (hn : n < 16) : Writes acquiredIds s (s.acquired n x) :=
  ((Writes.refl.settle hn).setDpll.put1.put1).labelAtAcquire

theorem Writes.enterAcquire (h : Writes loopIds s t) (hn : n < 16) {phase : Int} : Writes loopIds s (t.enterAcquire n x phase) := by
  obtain ⟨u, hu, he⟩ := State.enterAcquire_eq (s := t) (n := n) (x := x) (phase := phase)
  have hpre := h.trans (State.preloaded_writes (s := t) hn)
  have hw : Writes loopIds s u := by
    obtain ⟨d, b, rfl⟩ | ⟨b, rfl⟩ := hu
    · exact hpre.firstStep
    · exact hpre.takeOffset hn
  rw [he]
  exact ((hw.useSource hn).toDpllState hn).andThen (State.acquired_writes hn)

theorem Writes.dpllConnect (h : Writes loopIds s t) (hn : n < 16) {phase : Int} : Writes loopIds s (t.dpllConnect n x phase) := by
  unfold State.dpllConnect
  have hmark : Writes loopIds s ((t.setDpll n { t.dpll n with
      heldOff := false
      marks := if t.sourceDrift x then (t.dpll n).marks ||| 32 else (t.dpll n).marks }).markSwitch n) := h.setDpll.setDpll
  dsimp only
  split
  · exact hmark
  · exact ((hmark.takeOffset hn).useSource hn).settle hn
  · exact (((hmark.takeOffset hn).useSource hn).settle hn).followStatus
  · exact hmark.enterAcquire hn

/-! ### The record of a DPLL -/

theorem State.judgeTransmit_dpll {m : Nat} {before : Int} : (s.judgeTransmit n before).dpll m = s.dpll m :=
  State.dpll_of_dplls ((Evolves.judgeTransmit (P := raiseParts) .refl).same .dplls (by decide))

/-- The word in use and what it has gained are the only things that a new word changes in the record. -/
theorem State.useWord_dpll {y : Int} : ∃ acc since sum from_, (s.useWord n y).dpll n =
    { s.dpll n with acc := acc, accSince := since, wordSum := sum, wordSince := from_ } :=
  ⟨_, _, _, _, by rw [State.useWord, State.judgeTransmit_dpll, State.put1_dpll, State.dpll_setDpll_same]⟩

theorem State.useWord_dpll_ne {y : Int} {m : Nat} (h : m ≠ n) : (s.useWord n y).dpll m = s.dpll m := by
  rw [State.useWord, State.judgeTransmit_dpll, State.put1_dpll, State.dpll_setDpll_ne h]

theorem State.useWord_freqWord {y : Int} (hn : n < 16) : (s.useWord n y).attr Attr.dpll_freq_word n = clampWord y := by
  rw [State.useWord, (Writes.judgeTransmit (ids := []) .refl).attr, State.attr_put1_same]

theorem State.setWord_dpll {y : Int} : ∃ acc since sum from_, (s.setWord n y).dpll n =
    { s.dpll n with base := clampWord y, acc := acc, accSince := since, wordSum := sum, wordSince := from_ } := by
  obtain ⟨acc, since, sum, from_, h⟩ := State.useWord_dpll (s := s.setDpll n { s.dpll n with base := clampWord y }) (n := n)
    (y := clampWord y + (s.setDpll n { s.dpll n with base := clampWord y }).moveRate n)
  refine ⟨acc, since, sum, from_, ?_⟩
  rw [State.dpll_setDpll_same] at h
  rw [State.setWord, State.reword, State.dpll_setDpll_same]
  exact h

theorem State.moveRate_nil (h : (s.dpll n).moves = []) : s.moveRate n = 0 := by
  rw [State.moveRate, h]
  rfl

theorem clampWord_idem (y : Int) : clampWord (clampWord y) = clampWord y := by
  unfold clampWord clampInt
  omega

theorem State.trackChange_dpll {m : Nat} {old new : DpllState} : (s.trackChange n old new).dpll m = s.dpll m :=
  State.dpll_of_dplls ((Evolves.trackChange (P := raiseParts) .refl).same .dplls (by decide))

theorem State.raise_dpll {m ev d : Nat} {c : Bool} {l : List ScopeItem} : (s.raise ev c d l).dpll m = s.dpll m :=
  State.dpll_of_dplls (by simp)

theorem State.uncause_dpll {m ev : Nat} : (s.uncause ev).dpll m = s.dpll m := State.dpll_of_dplls (by simp)

end Sys2Proof.Machine
end

section
/-! What a selector does of itself (R131, R132, R136, R146). -/

set_option Elab.async false

namespace Sys2Proof.Machine

variable {s t u : State} {n k x : Nat}

/-! ### A decision whose configuration did not change (R126) -/

/-- The selector with no change of its configuration outstanding. -/
def State.unasked (s : State) (n : Nat) : State := s.setSel n { s.sel n with command := 0, cmdLost := false }

theorem State.applyChanges_unasked (h : (s.sel n).newList = none) : s.applyChanges n = s.unasked n := by
  have hlist : s.applyList n = s := by rw [State.applyList, h]
  rw [State.applyChanges, hlist]
  rfl

theorem State.unasked_sel : (s.unasked n).sel n = { s.sel n with command := 0, cmdLost := false } := State.sel_setSel_same

theorem State.unasked_entryPending : (s.unasked n).entryPending n k = s.entryPending n k := by
  have hwtr : ((s.unasked n).sel n).wtr = (s.sel n).wtr := by rw [State.unasked_sel]
  exact State.entryPending_of hwtr rfl

theorem State.unasked_eligible : (s.unasked n).eligible n = s.eligible n := by
  have hselected : (s.unasked n).selectedIndex n = s.selectedIndex n := by
    rw [State.selectedIndex, State.unasked_sel]
    rfl
  have hstrict : (s.unasked n).strictEligible n = s.strictEligible n :=
    List.filter_congr fun k _ => by rw [State.unasked_entryPending]; rfl
  have hbypassing : (s.unasked n).bypassing n = s.bypassing n := by
    rw [State.bypassing, hstrict]
    rfl
  rw [State.eligible, State.eligible, hbypassing, hselected, State.unasked_sel]
  refine ite_congr rfl (fun _ => rfl) fun _ => List.filter_congr fun k _ => ?_
  rw [State.unasked_entryPending]
  rfl

theorem State.unasked_firstRanked (es : List Nat) : (s.unasked n).firstRanked n es = s.firstRanked n es := by
  induction es with
  | nil => rfl
  | cons k ks ih => rw [State.firstRanked, State.firstRanked, ih]; rfl

theorem State.unasked_autoChoice (es : List Nat) : (s.unasked n).autoChoice n es = s.autoChoice n es := by
  have hselected : (s.unasked n).selectedIndex n = s.selectedIndex n := by
    rw [State.selectedIndex, State.unasked_sel]
    rfl
  rw [State.autoChoice, State.autoChoice, State.unasked_firstRanked, hselected]
  rfl

theorem State.unasked_choice : (s.unasked n).choice n = s.choice n := by
  rw [State.choice, State.choice, State.unasked_eligible]
  simp only [State.unasked_autoChoice]
  rfl

/-! ### NO_REFERENCE and a connection (R146, R147) -/

/-- The ids of what a selector writes of its own. -/
def selectorIds : List Nat :=
  [Attr.selector_sel_state.id, Attr.selector_selected.id, Attr.selector_switch_count.id, Attr.selector_last_switch.id]

theorem State.judgeDegraded_writes : Writes [] s (s.judgeDegraded n) :=
  .ite .refl (.ite Writes.refl.setSel.uncause Writes.refl.setSel.raise)

theorem State.judgeDegraded_sel : ((s.judgeDegraded n).sel n).source = (s.sel n).source ∧ ((s.judgeDegraded n).sel n).command = (s.sel n).command := by
  have hraise : ∀ (v : State) (ev d : Nat), (v.raise ev true d).sel n = v.sel n := fun v ev d => by simp [State.sel]
  unfold State.judgeDegraded
  dsimp only
  split
  · exact ⟨rfl, rfl⟩
  · split
    · simp [State.sel, State.setSel]
    · simp [hraise]

theorem State.sel_of_sels {m : Nat} (h : t.sels = s.sels) : t.sel m = s.sel m := by rw [State.sel, State.sel, h]

theorem State.dpllDisconnect_sel {m : Nat} : (s.dpllDisconnect n).sel m = s.sel m :=
  State.sel_of_sels ((Evolves.dpllDisconnect (P := .dplls :: raiseParts) .refl).same .sels (by decide))

theorem State.dpllConnect_sel {m : Nat} {phase : Int} : (s.dpllConnect n x phase).sel m = s.sel m :=
  State.sel_of_sels ((Evolves.dpllConnect (P := .doms :: .dplls :: raiseParts) .refl).same .sels (by decide))

/-- A selector without a source, before its DPLL follows. -/
def State.unselected (s : State) (n : Nat) : State :=
  ((s.setSel n { s.sel n with source := none, bypass := false }).put1 Attr.selector_sel_state n SelState.noReference.code).put1
    Attr.selector_selected n 255

theorem State.noReference_eq : s.noReference n =
    (if s.attr Attr.selector_sel_state n = SelState.noReference.code then s.unselected n
      else (s.unselected n).raise (evLoop n 1) true).dpllDisconnect n := rfl

theorem State.noReference_writes (hn : n < 16) : Writes loopIds (s.unselected n) (s.noReference n) := by
  rw [State.noReference_eq]
  exact (Writes.ite .refl (.raise .refl)).dpllDisconnect hn

theorem State.noReference_sel : (s.noReference n).sel n = { s.sel n with source := none, bypass := false } := by
  rw [State.noReference_eq, State.dpllDisconnect_sel]
  split <;> simp [State.unselected, State.sel, State.setSel]

/-- A selector in NO_REFERENCE, whatever it was in before. -/
theorem State.noReference_attrs (hn : n < 16) :
    (s.noReference n).attr Attr.selector_sel_state n = SelState.noReference.code ∧ (s.noReference n).attr Attr.selector_selected n = 255 ∧
      (s.noReference n).attr Attr.selector_switch_count n = s.attr Attr.selector_switch_count n := by
  have hwrites := State.noReference_writes (s := s) hn
  refine ⟨?_, ?_, ?_⟩
  · rw [hwrites.attr, State.unselected, State.attr_put1_ne, State.attr_put1_same]
  · rw [hwrites.attr, State.unselected, State.attr_put1_same]
  · rw [hwrites.attr, State.unselected, State.attr_put1_ne, State.attr_put1_ne]
    rfl

theorem loopSource (hn : n < 16) {j : Nat} (hj : j < 6) :
    Ev.defined (evLoop n j) = true ∧ evLoop n j ∉ bookSources ∧ evLoop n j ∉ [321, 322, 327, 328] := by
  unfold evLoop Ev.defined
  refine ⟨?_, ?_, ?_⟩
  · simp
    omega
  · simp [bookSources]
    omega
  · simp
    omega

/-- A selector that had a reference, or a period of grace, latches its source (R149). -/
theorem State.noReference_latched (hn : n < 16) (h : s.attr Attr.selector_sel_state n ≠ SelState.noReference.code) :
    ((s.noReference n).latch (evLoop n 1)).latched = true := by
  obtain ⟨hd, hb, hf⟩ := loopSource hn (j := 1) (by decide)
  rw [State.noReference_eq, if_neg h]
  exact (Writes.dpllDisconnect .refl hn).latched _ hb (State.raise_latched hd hb hf)

/-- A connected entry, before the selector's sources and its DPLL follow. -/
def State.switched (s : State) (n k cause x : Nat) : State :=
  let old := s.attrN Attr.selector_selected n
  let t := s.setSel n { s.sel n with source := some x, bypass := s.takenPending n k }
  let u := (t.put1 Attr.selector_sel_state n SelState.selected.code).put1 Attr.selector_selected n k
  (u.bump Attr.selector_switch_count n).put1 Attr.selector_last_switch n
    ((s.counter + old * 2 ^ 64 + k * 2 ^ 72 + cause * 2 ^ 80 : Nat) : Int)

theorem State.connect_eq {cause : Nat} {phase : Int} (h : candNumber (s.cand n k) = some x) : s.connect n k cause phase =
    (((s.switched n k cause x).uncause (evLoop n 1)).raise (evLoop n 0) false (s.attrN Attr.selector_selected n * 256 + k)).dpllConnect n x phase := by
  rw [State.connect, h]
  rfl

theorem State.connect_writes {cause : Nat} {phase : Int} (hn : n < 16) (h : candNumber (s.cand n k) = some x) :
    Writes loopIds (s.switched n k cause x) (s.connect n k cause phase) := by
  rw [State.connect_eq h]
  exact Writes.refl.uncause.raise.dpllConnect hn

theorem State.connect_latched {cause : Nat} {phase : Int} (hn : n < 16) (h : candNumber (s.cand n k) = some x) :
    ((s.connect n k cause phase).latch (evLoop n 0)).latched = true := by
  obtain ⟨hd, hb, hf⟩ := loopSource hn (j := 0) (by decide)
  rw [State.connect_eq h]
  exact (Writes.dpllConnect .refl hn).latched _ hb (State.raise_latched hd hb hf)

theorem State.connect_source {cause : Nat} {phase : Int} (h : candNumber (s.cand n k) = some x) :
    ((s.connect n k cause phase).sel n).source = some x := by
  have hsel : (((s.switched n k cause x).uncause (evLoop n 1)).raise (evLoop n 0) false (s.attrN Attr.selector_selected n * 256 + k)).sel n =
      (s.switched n k cause x).sel n := State.sel_of_sels (by simp)
  rw [State.connect_eq h, State.dpllConnect_sel, hsel]
  simp [State.switched, State.bump, State.add]

/-- A selector in SELECTED on the entry that it connected; the switch is counted. -/
theorem State.connect_attrs {cause : Nat} {phase : Int} (hn : n < 16) (h : candNumber (s.cand n k) = some x) :
    (s.connect n k cause phase).attr Attr.selector_sel_state n = SelState.selected.code ∧
      (s.connect n k cause phase).attr Attr.selector_selected n = k ∧
      (s.connect n k cause phase).attr Attr.selector_switch_count n =
        (s.attr Attr.selector_switch_count n + 1) % (256 ^ Attr.selector_switch_count.bytes : Nat) := by
  have hwrites := State.connect_writes (cause := cause) (phase := phase) hn h
  refine ⟨?_, ?_, ?_⟩
  · rw [hwrites.attr, State.switched, State.attr_put1_ne, State.attr_bump_ne, State.attr_put1_ne, State.attr_put1_same]
  · rw [hwrites.attr, State.switched, State.attr_put1_ne, State.attr_bump_ne, State.attr_put1_same]
  · rw [hwrites.attr, State.switched, State.attr_put1_ne, State.attr_bump_same, State.attr_put1_ne, State.attr_put1_ne]
    rfl

theorem State.takeChoice_none {a b c : Bool} {phase : Int} (hmate : s.mateTracked n = false) (h : s.choice n = none) :
    s.takeChoice n a b c phase = s.noReference n := by
  rw [State.takeChoice, hmate, h]
  rfl

/-- The state after a decision, with the judgement whether selection is degraded. -/
def State.judged (s : State) (n : Nat) : State := if s.mateTracked n then s else s.judgeDegraded n

theorem State.judged_writes : Writes [] s (s.judged n) := .ite .refl State.judgeDegraded_writes

theorem State.judged_sel : ((s.judged n).sel n).source = (s.sel n).source ∧ ((s.judged n).sel n).command = (s.sel n).command := by
  unfold State.judged
  split
  · exact ⟨rfl, rfl⟩
  · exact State.judgeDegraded_sel

/-- A decision of a selector in NO_REFERENCE without a new list (R136). -/
theorem State.decide_noReference {phase : Int} (hlist : (s.sel n).newList = none)
    (hstate : s.attr Attr.selector_sel_state n = SelState.noReference.code) :
    s.decide_ n phase = ((s.unasked n).takeChoice n (decide ((s.sel n).command ≠ 0)) (s.sel n).cmdLost false phase).judged n := by
  have hstate' : SelState.ofCode ((s.unasked n).attr Attr.selector_sel_state n) = .noReference := by
    rw [show (s.unasked n).attr Attr.selector_sel_state n = SelState.noReference.code from hstate]
    rfl
  simp only [State.decide_, State.applyChanges_unasked hlist, hstate', State.judged]

/-- Settles O22: an unchanged configuration leaves the choice as it is, and the DPLL that follows a selector writes its own attributes. -/
theorem selectorEvents : Obligations.SelectorEvents := by
  unfold Obligations.SelectorEvents
  refine ⟨fun s n phase hup hon hstate hlist hsource hmate hchoice hdeg => ?_, fun s n phase k x hup hon hstate hlist hsource hmate hchoice hx => ?_,
    fun s n index x ends hup hx hends => ?_, fun s n phase hup hstate hlist hmate hchoice => ?_⟩
  · have hexec : exec (.selectorDecision n phase) s = .next (((s.unasked n).noReference n).judged n) := by
      refine congrArg Host.Outcome.next ?_
      have htake := State.takeChoice_none (a := decide ((s.sel n).command ≠ 0)) (b := (s.sel n).cmdLost) (c := false) (phase := phase)
        (s := s.unasked n) hmate (State.unasked_choice.trans hchoice)
      rw [State.when_, if_pos hup, if_pos hon, State.decide_noReference hlist hstate, htake]
    obtain ⟨hstate', hselected, hcount⟩ := State.noReference_attrs (s := s.unasked n) n.isLt
    have hjudged := State.judged_writes (s := (s.unasked n).noReference n) (n := n)
    refine ⟨_, hexec, (hjudged.attr).trans hstate', ?_, (hjudged.attr).trans hselected, ?_, (hjudged.attr).trans hcount⟩
    · rw [State.judged_sel.1, State.noReference_sel]
    · rw [State.judged_sel.2, State.noReference_sel, State.unasked_sel]
  · have hmate' : (s.unasked n).mateTracked n = false := hmate
    have hx' : candNumber ((s.unasked n).cand n k) = some x := hx
    have hselected : (s.unasked n).selectedIndex n = none := by rw [State.selectedIndex, State.unasked_sel, hsource]; rfl
    have hexec : ∃ cause, exec (.selectorDecision n phase) s = .next (((s.unasked n).connect n k cause phase).judged n) := by
      refine ⟨if decide ((s.sel n).command ≠ 0) then 3 else 1, congrArg Host.Outcome.next ?_⟩
      rw [State.when_, if_pos hup, if_pos hon, State.decide_noReference hlist hstate, State.takeChoice,
        if_neg (by rw [hmate']; decide), State.unasked_choice, hchoice, hselected]
      rfl
    obtain ⟨cause, hexec⟩ := hexec
    obtain ⟨-, hbook, -⟩ := loopSource n.isLt (j := 0) (by decide)
    obtain ⟨hstate', hselected', hcount⟩ := State.connect_attrs (s := s.unasked n) (cause := cause) (phase := phase) n.isLt hx'
    have hjudged := State.judged_writes (s := (s.unasked n).connect n k cause phase) (n := n)
    refine ⟨_, hexec, (hjudged.attr).trans hstate', ?_, (hjudged.attr).trans hselected', (hjudged.attr).trans hcount,
      hjudged.latched _ hbook (State.connect_latched n.isLt hx')⟩
    rw [State.judged_sel.1, State.connect_source hx']
  · have hexec : exec (.wtrExpiry n index) s = .next ((s.setSel n { s.sel n with wtr := tblDrop (s.sel n).wtr x }).advance ends) := by
      simp only [exec, execWtrExpiry, hx, hends, State.when_, hup, if_true]
    refine ⟨_, hexec, ?_, rfl, Evolves.frame Evolves.execWtrExpiry_evolves hexec⟩
    have hx' : candNumber (((s.setSel n { s.sel n with wtr := tblDrop (s.sel n).wtr x }).advance ends).cand n index) = some x := hx
    have hsel : ((s.setSel n { s.sel n with wtr := tblDrop (s.sel n).wtr x }).advance ends).sel n =
        { s.sel n with wtr := tblDrop (s.sel n).wtr x } := State.sel_setSel_same (s := s)
    simp only [State.entryPending, hx', State.wtrPending, hsel, tblFind_drop_same, Option.isSome_none]
  · let v := s.advance (s.sel n).holdEnds
    have hv : (v.sel n).newList = none := hlist
    have hexec : exec (.holdOffExpiry n phase) s = .next (((v.unasked n).noReference n).judgeDegraded n) := by
      refine congrArg Host.Outcome.next ?_
      rw [State.when_, if_pos (by simp [hup, hstate]), State.applyChanges_unasked hv,
        State.takeChoice_none (s := v.unasked n) hmate (State.unasked_choice.trans hchoice)]
    obtain ⟨-, hbook, -⟩ := loopSource n.isLt (j := 1) (by decide)
    obtain ⟨hstate', -, -⟩ := State.noReference_attrs (s := v.unasked n) n.isLt
    have hjudged := State.judgeDegraded_writes (s := (v.unasked n).noReference n) (n := n)
    have hheld : (v.unasked n).attr Attr.selector_sel_state n ≠ SelState.noReference.code := by
      rw [show (v.unasked n).attr Attr.selector_sel_state n = SelState.holdOff.code from hstate]
      decide
    refine ⟨_, hexec, ?_, (hjudged.attr).trans hstate', ?_,
      hjudged.latched _ hbook (State.noReference_latched n.isLt hheld)⟩
    · exact ((Evolves.judgeDegraded (P := .sels :: .dplls :: raiseParts) (.noReference .refl)).same .counter (by decide)).trans rfl
    · rw [State.judgeDegraded_sel.1, State.noReference_sel]

end Sys2Proof.Machine
end

section
/-! The free-run word may force a port idle (R252, R431), and the launch descriptors of its dropped frames reach the ledger where a frame
bears a queue number beyond the sessions. -/

set_option Elab.async false

namespace Sys2Proof.Machine

variable {s : State} {n : Nat}

/-! ### What the row does in FREE-RUN -/

/-- The free-run word of HOLDOVER_WORD_REFRESH. -/
def State.modelWord (s : State) (n : Nat) : Int :=
  let u := s.computeHoldover n s.meanTemp
  clampWord (-(u.ensembleModel u.second s.meanTemp))

/-- The row before it gives the DPLL a word. -/
def State.restarted (s : State) (n : Nat) : State :=
  let u := s.computeHoldover n s.meanTemp
  u.setDpll n { u.dpll n with freeRunWord := s.modelWord n, ctrlLost := false, timerFrom := u.counter }

/-- The row in FREE-RUN, once the DPLL has its free-run word. -/
def State.freeWorded (s : State) (n : Nat) : State := (s.restarted n).setWord n (s.modelWord n)

theorem exec_holdoverWordRefresh_freeRun {n : Fin 16} (hup : s.engines = true) (hstate : (s.restarted n).dpllState n = .freeRun)
    (hfew : ((s.freeWorded n).usable n).length < 2) :
    exec (.holdoverWordRefresh n) s = .next ((s.freeWorded n).uncause (496 + n)) := by
  have hrow : exec (.holdoverWordRefresh n) s = .next (s.when_ s.engines fun t =>
      let v := t.restarted n
      let ready := v.flag Attr.dpll_ho_ready n
      let held := decide (v.dpllState n = .holdover) || decide (v.dpllState n = .holdoverLimit)
      let w :=
        if held && ready then (v.setDpll n { v.dpll n with useShort := false }).setWord n (v.attr Attr.dpll_ho_freq n)
        else if v.dpllState n = .freeRun then v.setWord n (t.modelWord n) else v
      (if (held && !ready) || decide ((w.usable n).length < 2) then w else w.writeCoeffs n).uncause (496 + n)) := rfl
  rw [hrow, State.when_, if_pos hup]
  dsimp only
  have hheld : (decide (DpllState.freeRun = .holdover) || decide (DpllState.freeRun = .holdoverLimit)) = false := rfl
  rw [hstate, hheld, Bool.false_and, Bool.false_and, Bool.false_or, if_neg Bool.false_ne_true, if_pos rfl, ← State.freeWorded,
    if_pos (decide_eq_true hfew)]

/-- The state in which the ports judge a new word. -/
def State.worded (s : State) (n : Nat) (y : Int) : State :=
  (s.setDpll n { s.dpll n with
    acc := s.phaseLead n s.counter, accSince := s.counter
    wordSum := (s.dpll n).wordSum + s.attr Attr.dpll_freq_word n * ((s.counter - (s.dpll n).wordSince : Nat) : Int)
    wordSince := s.counter }).put1 Attr.dpll_freq_word n (clampWord y)

def State.baseWorded (s : State) (n : Nat) (y : Int) : State :=
  let t := s.setDpll n { s.dpll n with base := clampWord y }
  t.worded n ((t.dpll n).base + t.moveRate n)

theorem State.setWord_eq {y : Int} : s.setWord n y = (s.baseWorded n y).judgeTransmit n (s.attr Attr.dpll_freq_word n) := rfl

/-- A word that has passed 100 ppm, as the one port that follows the DPLL reports it. -/
theorem State.judgeTransmit_far {before : Int} {p : Nat} (hfar : farWord (s.attr Attr.dpll_freq_word n) = true) (hnear : farWord before = false)
    (hports : ((List.range 4).filter fun p => s.flag Attr.port_enable p && s.attrN Attr.syn_dpll_active (s.attrN Attr.port_ref_syn p) == n) = [p]) :
    s.judgeTransmit n before = s.raise (Ev.port p 1) true := by
  rw [State.judgeTransmit, hfar, hnear, if_neg (by decide), hports]
  rw [State.forEach, State.forEach, if_pos rfl]

theorem State.raise_severe {ev d : Nat} {c : Bool} {l : List ScopeItem} (h : (Ev.defined ev && s.classify ev (s.latch ev) == 3) = true) :
    s.raise ev c d l = s.idlePorts (s.countSafe (s.occur ev c d l)) := if_pos h

theorem State.idlePorts_first {t : State}
    (h : (List.range 4).map (fun p => t.portForced p && !s.portForced p) = [true, false, false, false]) : s.idlePorts t = t.dropFrames 0 := by
  rw [show List.range 4 = [0, 1, 2, 3] from rfl] at h
  simp only [List.map_cons, List.map_nil, List.cons.injEq] at h
  obtain ⟨h0, h1, h2, h3, -⟩ := h
  rw [State.idlePorts, show List.range 4 = [0, 1, 2, 3] from rfl]
  simp only [State.forEach, h0, h1, h2, h3, if_true, Bool.false_eq_true, if_false]

/-! ### Ledger places of zeros -/

theorem tblGetRun_zero {t : Tbl Byte} {i k : Nat} (h : ∀ j < k, tblGet t 0 (i + j) = 0) : tblGetRun t 0 i k = List.replicate k 0 := by
  induction k generalizing i with
  | zero => rfl
  | succ k ih =>
    have hhead : tblGet t 0 i = 0 := h 0 (by omega)
    rw [tblGetRun, List.replicate_succ, hhead, ih fun j hj => by rw [show i + 1 + j = i + (j + 1) by omega]; exact h _ (by omega)]

theorem State.ledgerPlace_zero {second : Nat} (h : ∀ j < 16, s.tm.byte (ledgerAddr n second + j) = 0) : s.ledgerPlace n second = none := by
  have hread : s.tmRead (ledgerAddr n second) 16 = List.replicate 16 0 := by
    unfold State.tmRead
    split
    · rfl
    · exact tblGetRun_zero h
  rw [State.ledgerPlace, hread]
  rfl

/-! ### The state of the counterexample -/

/-- The queue number whose launch descriptors lie at the start of the ledger of DPLL0. -/
def ledgerQueue : Nat := (ledgerAddr 0 0 - descAddr 0 0) / 0x200

/-- A timed frame with that queue number. -/
def strayFrame : TxFrame := { cls := .session, queue := ledgerQueue, launch := some (0, 0), desc := some 0 }

/-- The record of a second with a phase error of 5 ps. -/
def quietRecord (second : Nat) : LedgerRec := { freq := 0, temp := 0, flags := 0, second := second, ref := 0, grade := 0, phaseRms := 5 }

/-- A module in second 4 with the records of seconds 2 and 3, a movement through the word of DPLL0 at more than 100 ppm, a latch of port 0
that holds the port and is SEVERE at its first occurrence, and that frame in the buffer of the port. -/
def crowdedLedger : State :=
  let s := ((State.reset.put1 Attr.dpll_ho_window 0 2).put1 Attr.dpll_slope_limit 0 200000000).put1 Attr.port_enable 0 1
  let t := ((s.put1 Attr.fault_count_n (Ev.port 0 1) 1).setLatch (Ev.port 0 1) { held := [.port 0] }).setDpll 0
    { moves := [{ kind := .align, remaining := 1, since := some 0, word := true }] }
  let u := (t.tmWrite (ledgerAddr 0 2) (quietRecord 2).bytes).tmWrite (ledgerAddr 0 3) (quietRecord 3).bytes
  { u.setPort 0 { buffer := [strayFrame] } with counter := 4 * ticksPerSecond, boot := { phase := .running } }

/-- Both records are usable, with an E0 of 5 ps. -/
theorem crowdedLedger_usable : (crowdedLedger.usable 0).length = 2 ∧ teE0 (crowdedLedger.usable 0) = 5 := by decide +kernel

/-- The state in which port 0 judges the free-run word, and the occurrence that it reports. -/
def judgedLedger : State := (crowdedLedger.restarted 0).baseWorded 0 (crowdedLedger.modelWord 0)
def forcedLedger : State := judgedLedger.countSafe (judgedLedger.occur (Ev.port 0 1) true)

theorem freeWorded_crowdedLedger : crowdedLedger.freeWorded 0 = forcedLedger.dropFrames 0 := by
  have hjudge : judgedLedger.judgeTransmit 0 0 = judgedLedger.raise (Ev.port 0 1) true :=
    State.judgeTransmit_far (p := 0) (by decide +kernel) (by decide +kernel) (by decide +kernel)
  have hbefore : (crowdedLedger.restarted 0).attr Attr.dpll_freq_word 0 = 0 := by decide +kernel
  have hraise : judgedLedger.raise (Ev.port 0 1) true = judgedLedger.idlePorts forcedLedger := State.raise_severe (by decide +kernel)
  have hidle : judgedLedger.idlePorts forcedLedger = forcedLedger.dropFrames 0 := State.idlePorts_first (by decide +kernel)
  rw [State.freeWorded, State.setWord_eq, hbefore, ← judgedLedger, hjudge, hraise, hidle]

/-- The descriptor of the dropped frame is zero where the records of seconds 2 and 3 stood. -/
theorem descBytes_strayFrame : ∀ j < 32, (descBytes ledgerQueue 0 strayFrame (0, 0) .dropped)[32 + j]? = some 0 := by decide +kernel

theorem State.dropFrames_buffer_tm {p : Nat} {f : TxFrame} (hport : s.port p = { buffer := [f] }) (hhost : f.host = none) :
    (s.dropFrames p).tm = ((s.setPort p {}).tellDesc f .dropped).tm := by
  simp [State.dropFrames, hport, TxFrame.issuers, hhost, State.dropSends, State.failSends]

theorem dropFrames_forcedLedger_tm :
    (forcedLedger.dropFrames 0).tm = ((forcedLedger.setPort 0 {}).tmWrite (ledgerAddr 0 0) (descBytes ledgerQueue 0 strayFrame (0, 0) .dropped)).tm :=
  State.dropFrames_buffer_tm (f := strayFrame) (by decide +kernel) rfl

theorem dropFrames_forcedLedger_byte {j : Nat} (hj : j < 32) : (forcedLedger.dropFrames 0).tm.byte (ledgerAddr 0 2 + j) = 0 := by
  have hlen : (descBytes ledgerQueue 0 strayFrame (0, 0) .dropped).length = 64 := by decide +kernel
  have hzero := descBytes_strayFrame j hj
  rw [dropFrames_forcedLedger_tm, show ledgerAddr 0 2 + j = ledgerAddr 0 0 + (32 + j) by rw [ledgerAddr, ledgerAddr]; omega,
    State.tmWrite_byte_same (by rw [hlen]; decide) (by decide +kernel) (by omega)]
  exact (List.getElem?_eq_some_iff.mp hzero).2

theorem freeWorded_crowdedLedger_usable : ((crowdedLedger.freeWorded 0).usable 0) = [] := by
  rw [freeWorded_crowdedLedger]
  have hwindow : (forcedLedger.dropFrames 0).attrN Attr.dpll_ho_window 0 = 2 := by decide +kernel
  have hend : (forcedLedger.dropFrames 0).windowEnd 0 = 4 := by decide +kernel
  have hnone : ∀ second, second = 2 ∨ second = 3 → (forcedLedger.dropFrames 0).ledgerAt 0 second = none := by
    intro second hsecond
    rw [State.ledgerAt, State.ledgerPlace_zero, Option.filter_none]
    intro j hj
    obtain rfl | rfl := hsecond
    · exact dropFrames_forcedLedger_byte (by omega)
    · rw [show ledgerAddr 0 3 + j = ledgerAddr 0 2 + (16 + j) by rw [ledgerAddr, ledgerAddr]; omega]
      exact dropFrames_forcedLedger_byte (by omega)
  rw [State.usable, hwindow, hend]
  simp [show List.range 2 = [0, 1] from rfl, hnone]

/-- Refutes O25: its clause of HOLDOVER_WORD_REFRESH gives the coefficient E0 of the records usable before the row; but the row gives the
free-run word first, and in a state where that drops a frame with a queue number beyond the sessions, its descriptor is written over
them. -/
theorem not_dpllHoldover : ¬ Obligations.DpllHoldover := by
  unfold Obligations.DpllHoldover
  rintro ⟨-, hrefresh, -⟩
  obtain ⟨t, hexec, -, -, -, -, -, hcoeff, -⟩ := hrefresh crowdedLedger 0 (by decide +kernel) (by decide +kernel) (by decide +kernel)
  obtain ⟨hlen, he0⟩ := crowdedLedger_usable
  have hrow := exec_holdoverWordRefresh_freeRun (s := crowdedLedger) (n := 0) (by decide +kernel) (by decide +kernel)
    (by rw [Fin.val_zero, freeWorded_crowdedLedger_usable]; decide)
  have hafter : ((crowdedLedger.freeWorded 0).uncause 496).attr Attr.dpll_ho_te_coeff 0 0 = 0 := by
    rw [freeWorded_crowdedLedger]
    decide +kernel
  have hsame : t = (crowdedLedger.freeWorded 0).uncause 496 := Host.Outcome.next.inj (hexec.symm.trans hrow)
  have hwritten : t.attr Attr.dpll_ho_te_coeff 0 0 = (satNat 0xFFFFFFFF (teE0 (crowdedLedger.usable 0)) : Int) := hcoeff hlen.ge
  rw [hsame, hafter, he0] at hwritten
  exact absurd hwritten (by decide)

end Sys2Proof.Machine
end

section
/-! A frame of a host queue that enters the transmit buffer admits a frame that waits for room (R264), and that frame may bear a launch
descriptor (R385). -/

set_option Elab.async false

namespace Sys2Proof.Machine

/-- A frame of host queue 0. -/
def plainFrame : TxFrame := { cls := .host }

/-- A frame of host queue 0 with a launch time and a launch descriptor. -/
def describedFrame : TxFrame := { cls := .host, launch := some (0, 0), desc := some 0 }

/-- ETH0 is up, the first frame waits in its host queue 0, and the second one for room in that queue. -/
def admittingPort : State :=
  let s := (State.reset.put1 Attr.port_enable 0 1).put1 Attr.port_link_state 0 1
  { s.setPort 0 { waiting := [plainFrame], sends := [describedFrame] } with boot := { s.boot with phase := .running, gafferUp := true } }

/-- What FRAME_ENQUEUE does with a frame of a host queue that finds credits. -/
def State.enqueueHost (s : State) (p : Nat) (f : TxFrame) (rest : List TxFrame) : State :=
  (((s.setPort p { s.port p with waiting := rest }).enterBuffer p f).uncause (Ev.port p 8)).admitSend p f.queue

theorem exec_frameEnqueue_host {s : State} {p : Fin 4} {f : TxFrame} {rest : List TxFrame} (hnext : s.nextFrame p .host = some (f, rest))
    (hup : (s.portUp p && !s.portForced p && (f.kind.isNone || (s.port p).ready) && s.control) = true) (hfree : s.frameForced f = false)
    (hcredit : s.creditFor p f = true) : exec (.frameEnqueue p .host) s = .next (s.enqueueHost p f rest) := by
  change execFrameEnqueue p .host s = _
  unfold execFrameEnqueue
  rw [hnext]
  dsimp only
  rw [State.when_, if_pos (by simpa using hup), hfree, hcredit]
  rfl

/-- Refutes O39: its clause of FRAME_ENQUEUE changes `net` and `faults` alone; but the frame that enters host queue 0 in place of the one
that left it bears a launch descriptor, which is written to table memory. -/
theorem not_transmitPath : ¬ Obligations.TransmitPath := by
  unfold Obligations.TransmitPath
  rintro ⟨-, henqueue, -⟩
  obtain ⟨t, hexec, hafter⟩ := henqueue admittingPort 0 .host plainFrame [] (by decide +kernel) (by decide +kernel) (by decide +kernel)
    (Or.inl rfl) (by decide +kernel) (Or.inr (by decide +kernel)) rfl
  have hcredit : admittingPort.creditFor 0 plainFrame = true := by decide +kernel
  rw [Fin.val_zero, if_pos hcredit] at hafter
  obtain ⟨-, -, -, hsame⟩ := hafter
  have hrow := exec_frameEnqueue_host (s := admittingPort) (p := 0) (f := plainFrame) (rest := []) (by decide +kernel) (by decide +kernel)
    (by decide +kernel) hcredit
  have hout : t = admittingPort.enqueueHost 0 plainFrame [] := Host.Outcome.next.inj (hexec.symm.trans hrow)
  have htm : (admittingPort.enqueueHost 0 plainFrame []).tm = admittingPort.tm := hout ▸ hsame .tm (by decide)
  have hbefore : (admittingPort.frame (descAddr 0 0 / 4096)).written = false := by decide +kernel
  have hwritten : ((admittingPort.enqueueHost 0 plainFrame []).frame (descAddr 0 0 / 4096)).written = true := by decide +kernel
  rw [State.frame, htm, ← State.frame, hbefore] at hwritten
  exact Bool.false_ne_true hwritten

end Sys2Proof.Machine
end

section
/-! The mate pair (R461 to R482): what its operations write, and the state copy (R466 to R470, R477 to R479). -/

set_option Elab.async false

namespace Sys2Proof.Machine

variable {s t : State} {who : Issuer} {ids : List Nat}

/-! ### Parts and attributes -/

/-- A part that stays as it was leaves the list of the parts that may change. -/
theorem State.sameBut_without {P Q : List Part} {p : Part} (h : s.sameBut t P) (hp : s.same t p) (hQ : ∀ q ∈ P, q = p ∨ q ∈ Q := by decide) :
    s.sameBut t Q := fun q hq =>
  if heq : q = p then heq ▸ hp else h q fun hmem => (hQ q hmem).elim heq hq

/-- The shadow store takes no note of a value that is not STORED. -/
theorem State.put_store_of_volatile {a : AttrDesc} {i e : Nat} {v : Int} (h : a.surv ≠ .stored := by decide) : (s.put a i e v).store = s.store := by
  unfold State.put
  split
  · rfl
  · rfl

theorem State.put1_store_of_volatile {a : AttrDesc} {i : Nat} {v : Int} (h : a.surv ≠ .stored := by decide) : (s.put1 a i v).store = s.store :=
  State.put_store_of_volatile h

/-- The identifiers of the SESSION attributes. -/
def sessionIds : List Nat := (List.range 128).map (· + 0x880)

theorem sessionIds_of_keyOf {n k : Nat} (h : keyOf .session n k = true) : keyId k ∈ sessionIds := by
  have hobj : Obj.ofAttr (keyId k) = some .session := by simpa using (Bool.and_eq_true_iff.mp h).1
  have hrange : 0x880 ≤ keyId k ∧ keyId k < 0x900 := by
    unfold Obj.ofAttr at hobj
    grind (splits := 30)
  exact List.mem_map.mpr ⟨keyId k - 0x880, List.mem_range.mpr (by omega), by omega⟩

theorem tblFind_tblKeep {α : Type} {p : Nat → Bool} {x : Tbl α} {k : Nat} (h : p k = true) : tblFind (tblKeep p x) k = tblFind x k := by
  induction x with
  | nil => rfl
  | cons e x ih =>
    obtain ⟨j, v⟩ := e
    by_cases hj : j = k
    · subst hj
      simp [tblKeep, tblFind, h]
    · by_cases hp : p j = true <;> simp [tblKeep, tblFind, hp, ih, Ne.symm hj]

/-! ### What the operations write -/

namespace Writes

theorem setMate (h : Writes ids s t) {m : MateUnit} : Writes ids s (t.setMate m) := h.of_eq

theorem emit (h : Writes ids s t) {e : Emission} : Writes ids s (t.emit e) := h.of_eq

theorem mateEvent (h : Writes ids s t) {ev : Nat} {c : Bool} : Writes ids s (t.mateEvent ev c) := h.raise

theorem redecide (h : Writes ids s t) : Writes ids s t.redecide := h.forEach fun _ _ _ => refl.selCommand

theorem startTracking (h : Writes ids s t) (ha : Attr.mate_track_state.id ∈ ids := by decide) : Writes ids s t.startTracking :=
  (h.setMate.put1 ha).redecide

theorem endTracking (h : Writes ids s t) (ha : Attr.mate_track_state.id ∈ ids := by decide) : Writes ids s t.endTracking :=
  .ite (h.setMate.put1 ha).redecide h

theorem becomeStandby (h : Writes ids s t) (ha : Attr.mate_role.id ∈ ids := by decide) (hb : Attr.mate_track_state.id ∈ ids := by decide) :
    Writes ids s t.becomeStandby :=
  .ite ((h.setMate.put1 ha).mateEvent.startTracking hb) (h.setMate.put1 ha).mateEvent

theorem claimRole (h : Writes ids s t) : Writes ids s t.claimRole := h.setMate

theorem withdraw (h : Writes ids s t) (ha : Attr.mate_role.id ∈ ids := by decide) (hb : Attr.mate_track_state.id ∈ ids := by decide) :
    Writes ids s t.withdraw := .ite (h.setMate.put1 ha) (h.becomeStandby ha hb)

theorem bothClaim (h : Writes ids s t) (ha : Attr.mate_role.id ∈ ids := by decide) (hb : Attr.mate_track_state.id ∈ ids := by decide) :
    Writes ids s t.bothClaim := (Writes.ite (h.withdraw ha hb) h).mateEvent

theorem answer (h : Writes ids s t) {who : Option Issuer} {op st : Nat} : Writes ids s (t.answer who op st) := by
  unfold State.answer
  split
  · exact h.finish
  · exact h

theorem cancelSleep (h : Writes ids s t) (ha : Attr.mate_sleep_state.id ∈ ids := by decide) : Writes ids s t.cancelSleep :=
  (h.setMate.put1 ha).mateEvent.answer

theorem leaveSleep (h : Writes ids s t) (ha : Attr.mate_sleep_state.id ∈ ids := by decide) : Writes ids s t.leaveSleep :=
  (h.of_eq (u := { t with boot := { t.boot with transition := some 0 } })).put1 ha

theorem wakeRequest (h : Writes ids s t) (ha : Attr.mate_sleep_state.id ∈ ids := by decide) : Writes ids s t.wakeRequest := by
  unfold State.wakeRequest
  split
  · exact h.leaveSleep ha
  · split
    · exact .ite h.setMate (h.cancelSleep ha).emit
    · exact h

theorem trigger (h : Writes ids s t) {k : Nat} (hi : [Attr.mate_role.id, Attr.mate_track_state.id, Attr.mate_sleep_state.id] ⊆ ids := by decide) :
    Writes ids s (t.trigger k) :=
  h.andThen (ids' := [Attr.mate_role.id, Attr.mate_track_state.id, Attr.mate_sleep_state.id])
    (Writes.ite Writes.refl.setMate.claimRole.bothClaim Writes.refl.setMate.claimRole).wakeRequest hi

theorem dropLink (h : Writes ids s t) {k : Int}
    (hi : [Attr.mate_link_state.id, Attr.mate_copy_state.id, Attr.mate_sleep_state.id] ⊆ ids := by decide) : Writes ids s (t.dropLink k) := by
  refine h.andThen (ids' := [Attr.mate_link_state.id, Attr.mate_copy_state.id, Attr.mate_sleep_state.id]) ?_ hi
  have hlink (b : Prop) [Decidable b] : Writes [Attr.mate_link_state.id, Attr.mate_copy_state.id, Attr.mate_sleep_state.id] t
      (if b then ((t.put1 Attr.mate_link_state 0 k).put1 Attr.mate_copy_state 0 0).mateEvent 540 true
       else (t.put1 Attr.mate_link_state 0 k).put1 Attr.mate_copy_state 0 0) := .ite Writes.refl.put1.put1.mateEvent Writes.refl.put1.put1
  unfold State.dropLink
  dsimp only
  split
  · exact .ite (hlink _).cancelSleep (hlink _)
  · exact hlink _

theorem linkError (h : Writes ids s t) (hi : [Attr.mate_link_errors.id, Attr.mate_link_state.id] ⊆ ids := by decide) : Writes ids s t.linkError :=
  h.andThen (ids' := [Attr.mate_link_errors.id, Attr.mate_link_state.id])
    (.ite Writes.refl.setMate.bump.put1.mateEvent Writes.refl.setMate.bump) hi

theorem freeSession (h : Writes ids s t) {n : Nat} (hi : sessionIds ⊆ ids := by decide) : Writes ids s (t.freeSession n) := by
  refine h.trans ⟨fun k hk _ => tblFind_tblKeep ?_, List.Subset.refl _, rfl, fun _ _ hl => hl⟩
  have hother : keyOf .session n k = false := Bool.eq_false_iff.mpr fun hof => hk (hi (sessionIds_of_keyOf hof))
  rw [hother]
  rfl

theorem matchSessions (h : Writes ids s t) {p : Snapshot} (hi : sessionIds ⊆ ids := by decide) : Writes ids s (t.matchSessions p) :=
  h.setMate.forEach fun _ _ _ => refl.freeSession hi

theorem labelMates (h : Writes ids s t) : Writes ids s t.labelMates := h.forEach fun _ _ _ => refl.labelAtAcquire

end Writes

end Sys2Proof.Machine
end

section
/-! State copy and standby sleep (R466 to R470, R477 to R479). -/

set_option Elab.async false

namespace Sys2Proof.Machine

variable {s t : State} {who : Issuer} {ids : List Nat} {p : Snapshot}

/-! ### Snapshots (R466 to R468) -/

/-- The snapshot that is sent bears the next epoch and the latest edge. -/
theorem State.sendSnapshot_eq : ∃ p : Snapshot,
    s.sendSnapshot = ((s.injected 4 0).emit (.snapshot p)).setMate { s.mate with snapSent := s.mate.snapSent + 1 } ∧
      p.epoch = s.mate.snapSent + 1 ∧ p.counter = s.mateEdge := by
  refine ⟨(s.injected 4 0).snapshot (s.injected 4 0).mateEdge (s.takeInjection 4 0).isNone, ?_, ?_, ?_⟩
  · have hmate : (s.injected 4 0).mate = s.mate := by simp
    rw [← hmate]
    rfl
  · have hmate : (s.injected 4 0).mate = s.mate := by simp
    rw [← hmate]
    rfl
  · have hcounter : (s.injected 4 0).counter = s.counter := by simp
    change (s.injected 4 0).mateEdge = s.mateEdge
    rw [State.mateEdge, hcounter]
    rfl

theorem State.judgeTrack_writes : Writes [Attr.mate_track_state.id] s s.judgeTrack := .ite .refl (.ite Writes.refl.put1 (.ite Writes.refl.put1 .refl))

/-- The state that judges the digest of a complete snapshot. -/
def State.matched (s : State) (p : Snapshot) : State :=
  (((s.setMate { s.mate with snap := some p }).put1 Attr.mate_snap_epoch 0 p.epoch).uncause 543).matchSessions p

theorem State.takeSnapshot_eq (s : State) (p : Snapshot) : ∃ u, s.takeSnapshot p = u.labelMates.judgeTrack ∧
    (u = (s.matched p).uncause 551 ∨ u = (s.matched p).mateEvent 551 true) := by
  by_cases h : p.digest = (s.matched p).configDigest
  · exact ⟨_, congrArg (fun u => State.judgeTrack (State.labelMates u)) (if_pos h), Or.inl rfl⟩
  · exact ⟨_, congrArg (fun u => State.judgeTrack (State.labelMates u)) (if_neg h), Or.inr rfl⟩

theorem State.matchSessions_snap : (s.matchSessions p).mate.snap = s.mate.snap := by
  have hfree (l : List Nat) (t : State) : (t.forEach l State.freeSession).mate = t.mate :=
    (Evolves.forEach (P := [.attrs, .store, .net]) .refl fun _ _ => Evolves.refl.freeSession).same .mate (by decide)
  unfold State.matchSessions
  dsimp only
  rw [hfree]
  rfl

theorem State.linkError_cases : ∃ k since : Nat, ∃ t, t = (s.setMate { s.mate with errCount := k, errSince := since }).bump Attr.mate_link_errors ∧
    (s.linkError = (t.put1 Attr.mate_link_state 0 3).mateEvent 541 true ∨ s.linkError = t) :=
  ⟨_, _, _, rfl, ite_eq_or_eq _ _ _⟩

theorem State.linkError_copy : s.linkError.mate.snap = s.mate.snap ∧ s.linkError.mate.stale = s.mate.stale := by
  obtain ⟨k, since, t, rfl, h | h⟩ := s.linkError_cases
  · rw [h, State.mateEvent, State.raise_mate, State.put1_mate, State.bump_mate]
    exact ⟨rfl, rfl⟩
  · rw [h, State.bump_mate]
    exact ⟨rfl, rfl⟩

theorem State.linkError_count : s.linkError.attr Attr.mate_link_errors = (s.attr Attr.mate_link_errors + 1) % (256 ^ Attr.mate_link_errors.bytes : Nat) := by
  obtain ⟨k, since, t, rfl, h | h⟩ := s.linkError_cases
  · rw [h, State.mateEvent, State.raise_attr _ (by decide) (by decide) (by decide), State.attr_put1_ne, State.attr_bump_same]
    rfl
  · rw [h, State.attr_bump_same]
    rfl

theorem State.takeSnapshot_facts : (s.takeSnapshot p).mate.snap = some p ∧ (s.takeSnapshot p).attr Attr.mate_snap_epoch = p.epoch := by
  obtain ⟨u, heq, hu⟩ := s.takeSnapshot_eq p
  have hmatched : (s.matched p).mate.snap = some p := by
    rw [State.matched, State.matchSessions_snap, State.uncause_mate, State.put1_mate]
    rfl
  have hepoch : (s.matched p).attr Attr.mate_snap_epoch = p.epoch := by
    have hwrites : Writes sessionIds ((s.setMate { s.mate with snap := some p }).put1 Attr.mate_snap_epoch 0 p.epoch) (s.matched p) :=
      Writes.refl.uncause.matchSessions (List.Subset.refl _)
    rw [hwrites.attr, State.attr_put1_same]
  have hlate : Writes [Attr.mate_track_state.id] (s.matched p) (s.takeSnapshot p) := by
    rw [heq]
    refine (Writes.labelMates ?_).trans State.judgeTrack_writes
    rcases hu with rfl | rfl
    · exact Writes.refl.uncause
    · exact Writes.refl.mateEvent
  refine ⟨?_, (hlate.attr).trans hepoch⟩
  have hmate : (s.takeSnapshot p).mate = u.mate := by
    rw [heq]
    exact (Evolves.judgeTrack (P := [.attrs, .store, .dplls]) (.labelMates .refl)).same .mate (by decide)
  rw [hmate, ← hmatched]
  rcases hu with rfl | rfl
  · rw [State.uncause_mate]
  · exact congrArg MateUnit.snap (State.raise_mate ..)

/-! ### The mirrored session table (R466, R479) -/

theorem State.sess_of_net {n : Nat} (h : t.net = s.net) : t.sess n = s.sess n := by rw [State.sess, h, State.sess]

@[simp] theorem State.put1_sess {a : AttrDesc} {i n : Nat} {v : Int} : (s.put1 a i v).sess n = s.sess n := State.sess_of_net (by simp)

theorem State.createSession_partner {n q k pick addrType : Nat} {role : SessRole} {st : SessState} {w : Partner} :
    ((s.createSession n q k role st w addrType pick).sess n).partner = w := by simp [State.createSession]

theorem State.createSession_state {n q k pick addrType : Nat} {role : SessRole} {st : SessState} {w : Partner} (hn : n < 16384) :
    (s.createSession n q k role st w addrType pick).attr Attr.session_sess_state n = st.code := by
  rw [State.createSession, State.attr_put1_ne, State.attr_put1_ne, State.attr_put1_ne, State.attr_put1_same]

theorem State.setGrant_partner {n g : Nat} {r : GrantRec} : ((s.setGrant n g r).sess n).partner = (s.sess n).partner := by simp [State.setGrant]

theorem State.setGrant_writes {n g : Nat} {r : GrantRec} (hn : n < 16384) : Writes [Attr.session_sess_cost.id] s (s.setGrant n g r) :=
  Writes.refl.setSess.put1

theorem State.mirrorSession_facts {n : Nat} {c : SessionCopy} (hn : n < 16384) :
    n ∉ (s.mirrorSession n c).mate.stale ∧ ((s.mirrorSession n c).sess n).partner = c.partner ∧
      (s.mirrorSession n c).attr Attr.session_sess_state n = SessState.granted.code ∧ tblFind (s.mirrorSession n c).mate.mirror n = some c.summary := by
  refine ⟨?_, ?_, ?_, tblFind_put_same ..⟩
  · change n ∉ List.filter (fun m => m != n) _
    simp
  · refine (State.forEach_keeps (fun u => (u.sess n).partner) _ (fun _ _ => State.setGrant_partner) _ _).trans ?_
    exact State.createSession_partner
  · refine ((Writes.refl (ids := [Attr.session_sess_cost.id])).forEach fun _ _ _ => State.setGrant_writes hn).attr.trans ?_
    exact State.createSession_state hn

/-! ### Standby sleep (R477 to R479) -/

theorem State.cancelSleep_facts :
    s.cancelSleep.mate = { s.mate with agreement := none } ∧ s.cancelSleep.attr Attr.mate_sleep_state = 0 ∧
      (s.cancelSleep.latch 548).latched = true := by
  let u := (s.setMate { s.mate with agreement := none }).put1 Attr.mate_sleep_state 0 0
  have hanswer (w : Option Issuer) : Writes [] (u.mateEvent 548) ((u.mateEvent 548).answer w 0x0C01 E_STATE) := Writes.refl.answer
  have hmate (w : Option Issuer) : ((u.mateEvent 548).answer w 0x0C01 E_STATE).mate = u.mate :=
    (Evolves.answer (P := raiseParts) (.mateEvent .refl)).same .mate (by decide)
  refine ⟨(hmate _).trans (State.put1_mate ..), (hanswer _).attr.trans ?_, (hanswer _).latched _ (by decide) State.raise_latched⟩
  rw [State.mateEvent, State.raise_attr _ (by decide) (by decide) (by decide), State.attr_put1_same]

theorem State.leaveSleep_facts : s.leaveSleep.attr Attr.mate_sleep_state = 4 ∧ s.leaveSleep.boot.transition = some 0 ∧
    s.sameBut s.leaveSleep [.boot, .attrs] := by
  refine ⟨State.attr_put1_same .., by simp [State.leaveSleep], State.sameBut_without (p := .store) (Evolves.leaveSleep (P := [.attrs, .store, .boot]) .refl).same ?_⟩
  exact State.put1_store_of_volatile

theorem State.wakeRequest_asleep (h : s.attr Attr.mate_sleep_state = 3) : s.wakeRequest = s.leaveSleep := if_pos h

theorem State.mateEvent_attr {ev : Nat} {c : Bool} {a : AttrDesc} {i e : Nat} (hb : a.id ∉ bookAttrs := by decide) (hi : i < 65536 := by omega)
    (he : e < 65536 := by omega) : (s.mateEvent ev c).attr a i e = s.attr a i e := State.raise_attr _ hb hi he ..

/-- What a standby is: one of a pair, and not active. -/
theorem State.standby_not_active (h : s.standby = true) : s.paired_ = true ∧ s.active = false := by
  obtain ⟨hpair, hrole⟩ := Bool.and_eq_true_iff.mp h
  refine ⟨hpair, ?_⟩
  rw [State.active, hpair, Bool.true_and, beq_iff_eq.mp hrole]
  rfl

theorem State.active_not_standby (h : s.active = true) : s.paired_ = true ∧ s.standby = false := by
  obtain ⟨hpair, hrole⟩ := Bool.and_eq_true_iff.mp h
  refine ⟨hpair, ?_⟩
  rw [State.standby, hpair, Bool.true_and, beq_iff_eq.mp hrole]
  rfl

/-- The completion of a command keeps what has left the module. -/
theorem State.out_subset_complete {op st g : Nat} {r : List Byte} {l : Option Nat} : s.out ⊆ (s.complete who op st r l g).out := by
  unfold State.complete
  cases who with
  | ring c tag =>
    dsimp only
    split <;> exact List.Subset.refl _
  | spi => exact List.Subset.refl _
  | console => exact List.subset_cons_self ..

theorem State.out_subset_finish {op st i a : Nat} {r : List Byte} {l : Option Nat} : s.out ⊆ (s.finish who op st i r l a).out := by
  unfold State.finish
  refine List.Subset.trans ?_ State.out_subset_complete
  split <;> simp

theorem State.framed_emit_finish {e : Emission} {op st i a : Nat} {r : List Byte} {l : Option Nat} :
    s.framed ((s.emit e).finish who op st i r l a) [] [] :=
  State.framed_finish (State.sameBut_mono (Evolves.emit (P := [.out]) .refl).same (by decide)) (fun _ _ => rfl) rfl rfl rfl rfl ..

/-! ### The rows and the commands -/

theorem exec_snapshotSend (hup : s.control = true) (hact : s.active = true) (hcopy : s.copying = true) (hlink : s.mateLinkUp = true) :
    ∃ t p, exec .snapshotSend s = .next t ∧ t.out = .snapshot p :: s.out ∧ p.epoch = s.mate.snapSent + 1 ∧ p.counter = t.mateEdge ∧
      t.counter = max s.counter (s.mate.snapAt + 13500000) ∧
      t.mate = { s.mate with snapSent := s.mate.snapSent + 1, snapAt := t.counter } ∧ s.sameBut t [.counter, .mate, .out, .faults] := by
  let u := s.advance (s.mate.snapAt + 13500000)
  let v := u.setMate { u.mate with snapAt := u.counter }
  have hexec : exec .snapshotSend s = .next v.sendSnapshot := congrArg Host.Outcome.next (if_pos (by simp [hup, hact, hcopy, hlink]))
  obtain ⟨p, heq, hepoch, hedge⟩ := v.sendSnapshot_eq
  have hcounter : v.sendSnapshot.counter = u.counter := (Evolves.sendSnapshot (P := [.faults, .mate, .out]) .refl).same .counter (by decide)
  refine ⟨_, p, hexec, ?_, hepoch, ?_, hcounter, ?_, State.sameBut_mono (Evolves.of_next Evolves.execSnapshotSend_evolves hexec).same (by decide)⟩
  · rw [heq]
    exact congrArg (Emission.snapshot p :: ·) (State.injected_out ..)
  · rw [hedge, State.mateEdge, State.mateEdge, hcounter]
    rfl
  · rw [hcounter, heq]
    rfl

theorem exec_snapshotReceived (hup : s.control = true) (hstand : s.standby = true) (hcopy : s.copying = true) (hlink : s.mateLinkUp = true) :
    ∃ t, exec (.snapshotReceived p) s = .next t ∧
      (if s.snapComplete p then t.mate.snap = some p ∧ t.attr Attr.mate_snap_epoch = p.epoch
       else t.mate.snap = s.mate.snap ∧
        t.attr Attr.mate_snap_discards = (s.attr Attr.mate_snap_discards + 1) % (256 ^ Attr.mate_snap_discards.bytes : Nat)) ∧
      t.counter = s.counter := by
  have hrow : exec (.snapshotReceived p) s = .next (if s.snapComplete p then s.takeSnapshot p
      else if p.crcOk then (s.bump Attr.mate_snap_discards).raiseOnce 542 s.mateDetail
      else ((s.bump Attr.mate_snap_discards).raiseOnce 542 s.mateDetail).linkError) :=
    congrArg Host.Outcome.next (if_pos (by simp [hup, hstand, hcopy, hlink]))
  have hcounter := (Evolves.of_next Evolves.execSnapshotReceived_evolves hrow).same .counter (by decide)
  refine ⟨_, hrow, ?_, hcounter⟩
  by_cases hok : s.snapComplete p = true
  · rw [if_pos hok, if_pos hok]
    exact State.takeSnapshot_facts
  · rw [if_neg hok, if_neg hok]
    have hwrites : Writes [Attr.mate_link_errors.id, Attr.mate_link_state.id] (s.bump Attr.mate_snap_discards) (if p.crcOk then
        (s.bump Attr.mate_snap_discards).raiseOnce 542 s.mateDetail else ((s.bump Attr.mate_snap_discards).raiseOnce 542 s.mateDetail).linkError) :=
      .ite Writes.refl.raiseOnce Writes.refl.raiseOnce.linkError
    refine ⟨?_, hwrites.attr.trans (State.attr_bump_same s)⟩
    have hraise : ((s.bump Attr.mate_snap_discards).raiseOnce 542 s.mateDetail).mate = s.mate :=
      (Evolves.raiseOnce (P := raiseParts) (.bump .refl)).same .mate (by decide)
    split
    · rw [hraise]
    · rw [State.linkError_copy.1, hraise]

theorem exec_snapshotAges (hsnap : s.mate.snap = some p) (hup : s.timing = true) :
    (s.standby = true →
      ∃ t, exec .snapshotStale s = .next t ∧ (t.latch 543).latched = true ∧ (t.latch 543).cause = true ∧
        t.counter = max s.counter (p.localEdge + 27000001)) ∧
    (s.mate.tracking = true →
      ∃ t, exec .snapMaxAgeExceeded s = .next t ∧ t.mate = s.mate ∧
        t.counter = max s.counter (p.localEdge + s.attrN Attr.mate_snap_max_age * 1350000 + 1)) := by
  refine ⟨fun hstand => ?_, fun htrack => ?_⟩
  · let u := (s.advance (p.localEdge + 27000001)).mateEvent 543 true
    have hexec : exec .snapshotStale s = .next u.judgeTrack := by
      simp only [exec, execSnapshotStale, hsnap, State.when_, hup, hstand, Bool.and_self, if_true]
      rfl
    have hfaults : u.judgeTrack.faults = u.faults := (Evolves.judgeTrack (P := [.attrs, .store]) .refl).same .faults (by decide)
    refine ⟨_, hexec, ?_, ?_, ?_⟩
    · rw [State.latch_of_faults hfaults]
      exact State.raise_latched
    · rw [State.latch_of_faults hfaults]
      exact State.raise_cause
    · rw [(Evolves.judgeTrack (P := [.attrs, .store]) .refl).same .counter (by decide)]
      exact State.raise_counter ..
  · let u := s.advance (p.localEdge + s.attrN Attr.mate_snap_max_age * 1350000 + 1)
    have hexec : exec .snapMaxAgeExceeded s = .next u.redecide := by
      simp only [exec, execSnapMaxAgeExceeded, hsnap, State.when_, hup, htrack, Bool.and_self, if_true]
      rfl
    have hredecide := (Evolves.redecide (P := [.sels]) (s := u) .refl).same
    exact ⟨_, hexec, hredecide .mate (by decide), hredecide .counter (by decide)⟩

theorem exec_sessionEntryFetch {n : Fin 16384} {c : SessionCopy} (hup : s.engines = true) (hpair : s.paired_ = true) (hlink : s.mateLinkUp = true)
    (hstale : s.mate.stale.contains n.val = true) :
    (∃ t, exec (.sessionEntryFetch n (some c)) s = .next t ∧ n.val ∉ t.mate.stale ∧ (t.sess n.val).partner = c.partner ∧
      t.attr Attr.session_sess_state n.val = SessState.granted.code ∧ tblFind t.mate.mirror n.val = some c.summary ∧
      t.counter = s.counter) ∧
    ∃ t, exec (.sessionEntryFetch n none) s = .next t ∧ t.mate.stale = s.mate.stale ∧
      t.attr Attr.mate_link_errors = (s.attr Attr.mate_link_errors + 1) % (256 ^ Attr.mate_link_errors.bytes : Nat) ∧
      t.counter = s.counter := by
  have hcond : (s.engines && s.paired_ && s.mateLinkUp && s.mate.stale.contains n.val) = true := by rw [hup, hpair, hlink, hstale]; rfl
  have hsome : exec (.sessionEntryFetch n (some c)) s = .next (s.mirrorSession n c) := congrArg Host.Outcome.next (if_pos hcond)
  have hnone : exec (.sessionEntryFetch n none) s = .next s.linkError := congrArg Host.Outcome.next (if_pos hcond)
  obtain ⟨hgone, hpartner, hstate, hmirror⟩ := State.mirrorSession_facts (s := s) (c := c) n.isLt
  exact ⟨⟨_, hsome, hgone, hpartner, hstate, hmirror, (Evolves.of_next (Evolves.execSessionEntryFetch_evolves (session := n) (entry := some c)) hsome).same .counter (by decide)⟩,
    _, hnone, State.linkError_copy.2, State.linkError_count, (Evolves.of_next (Evolves.execSessionEntryFetch_evolves (session := n) (entry := none)) hnone).same .counter (by decide)⟩

theorem exec_mateSleep (hs : s.serves who) (hc : issuerClient who = 0) (hok : s.sleepRefused = false) :
    ∃ t, exec (.mateSleep who) s = .next t ∧
      (s.active = true →
        t.mate = { s.mate with agreement := some { who := some who } } ∧ t.attr Attr.mate_sleep_state = 1 ∧
          t.out = .mate 0 0 :: s.out ∧ s.sameBut t [.mate, .attrs, .out]) ∧
      (s.active = false → t.answered who 0x0C01 0 ∧ .mate 6 0 ∈ t.out ∧ s.framed t [] []) := by
  have hexec : exec (.mateSleep who) s = .next (if s.active then s.proposeSleep (some who) else (s.emit (.mate 6 0)).finish who 0x0C01 0 0) :=
    congrArg Host.Outcome.next (State.act_ok _ hs.1 rfl (s.permits_owner0 hc) (by simp [hok]))
  refine ⟨_, hexec, fun hact => ?_, fun hact => ?_⟩
  · rw [if_pos hact]
    refine ⟨State.put1_mate .., State.attr_put1_same .., congrArg (Emission.mate 0 0 :: ·) (State.put1_out ..),
      State.sameBut_without (p := .store) (Evolves.proposeSleep (P := [.attrs, .store, .mate, .out]) .refl).same State.put1_store_of_volatile⟩
  · rw [hact, if_neg Bool.false_ne_true]
    refine ⟨(Writes.refl (ids := [])).emit.answered hs, ?_, ?_⟩
    · exact State.out_subset_finish (List.mem_cons_self ..)
    · exact State.framed_emit_finish

theorem exec_mateWake (hs : s.serves who) (hc : issuerClient who = 0) (hasleep : s.attr Attr.mate_sleep_state = 3) :
    ∃ t, exec (.mateWake who) s = .next t ∧ t.answered who 0x0C02 0 ∧ t.attr Attr.mate_sleep_state = 4 ∧
      (if s.active then .mate 7 0 ∈ t.out else t.boot.transition = some 0) ∧ t.counter = s.counter := by
  let u := if s.active then (s.put1 Attr.mate_sleep_state 0 4).emit (.mate 7 0) else s.leaveSleep
  have hexec : exec (.mateWake who) s = .next (u.finish who 0x0C02 0 0) := by
    refine congrArg Host.Outcome.next ((State.doAct_ok _ hs.1 rfl (s.permits_owner0 hc) (by simp [hasleep])).trans ?_)
    rw [if_pos hasleep, State.wakeRequest_asleep hasleep]
  have hwrites : Writes [Attr.mate_sleep_state.id] s u := .ite Writes.refl.put1.emit Writes.refl.leaveSleep
  refine ⟨_, hexec, hwrites.answered hs, ?_, ?_, (Evolves.of_next Evolves.execMateWake_evolves hexec).same .counter (by decide)⟩
  · rw [State.finish_attr_eq]
    by_cases hact : s.active = true
    · exact (congrArg (State.attr · Attr.mate_sleep_state) (if_pos hact)).trans (State.attr_put1_same ..)
    · exact (congrArg (State.attr · Attr.mate_sleep_state) (if_neg hact)).trans State.leaveSleep_facts.1
  · by_cases hact : s.active = true
    · rw [if_pos hact]
      refine State.out_subset_finish ?_
      rw [show u = (s.put1 Attr.mate_sleep_state 0 4).emit (.mate 7 0) from if_pos hact]
      exact List.mem_cons_self ..
    · rw [if_neg hact, State.finish_boot, show u = s.leaveSleep from if_neg hact]
      exact State.leaveSleep_facts.2.1

theorem exec_mateRequestReceived (hup : s.control = true) (hlink : s.mateLinkUp = true) :
    (s.active = true → s.changeoverRefused = false →
      ∃ t, exec (.mateRequestReceived .changeover) s = .next t ∧ t.mate.changeover = some none ∧ t.counter = s.counter) ∧
    (s.active = true → s.sleepRefused = false →
      ∃ t, exec (.mateRequestReceived .sleep) s = .next t ∧ t.mate = { s.mate with agreement := some {} } ∧
        t.attr Attr.mate_sleep_state = 1 ∧ t.counter = s.counter) ∧
    (s.standby = true → s.attr Attr.mate_sleep_state = 3 →
      ∃ t, exec (.mateRequestReceived .wake) s = .next t ∧ t.attr Attr.mate_sleep_state = 4 ∧ t.boot.transition = some 0 ∧
        s.sameBut t [.boot, .attrs]) := by
  refine ⟨fun hact hok => ?_, fun hact hok => ?_, fun hstand hasleep => ?_⟩
  · have hcond : (s.control && s.paired_ && s.mateLinkUp) = true := by rw [hup, (State.active_not_standby hact).1, hlink]; rfl
    have hexec : exec (.mateRequestReceived .changeover) s = .next (s.startChangeover none) :=
      congrArg Host.Outcome.next ((if_pos hcond).trans (if_pos (by simp [hact, hok])))
    exact ⟨_, hexec, rfl, (Evolves.startChangeover (P := [.faults, .mate, .out]) .refl).same .counter (by decide)⟩
  · have hcond : (s.control && s.paired_ && s.mateLinkUp) = true := by rw [hup, (State.active_not_standby hact).1, hlink]; rfl
    have hexec : exec (.mateRequestReceived .sleep) s = .next (s.proposeSleep none) :=
      congrArg Host.Outcome.next ((if_pos hcond).trans (if_pos (by simp [hact, hok])))
    exact ⟨_, hexec, State.put1_mate .., State.attr_put1_same .., (Evolves.proposeSleep (P := [.attrs, .store, .mate, .out]) .refl).same .counter (by decide)⟩
  · have hcond : (s.control && s.paired_ && s.mateLinkUp) = true := by rw [hup, (State.standby_not_active hstand).1, hlink]; rfl
    have hexec : exec (.mateRequestReceived .wake) s = .next s.leaveSleep :=
      congrArg Host.Outcome.next ((if_pos hcond).trans ((if_pos hstand).trans (State.wakeRequest_asleep hasleep)))
    exact ⟨_, hexec, State.leaveSleep_facts⟩

theorem exec_sleepPropose (hup : s.control = true) (hstand : s.standby = true) (hlink : s.mateLinkUp = true) :
    ∃ t, exec .sleepPropose s = .next t ∧
      (if s.attr Attr.mate_track_state = 2 ∧ s.mate.claim = false ∧ s.mate.agreement = none ∧ s.attr Attr.mate_sleep_state = 0 then
        t.mate = { s.mate with agreement := some {} } ∧ t.attr Attr.mate_sleep_state = 1 ∧ t.out = .mate 1 1 :: s.out
       else t.mate = s.mate ∧ t.out = .mate 1 0 :: s.out) ∧ s.sameBut t [.mate, .attrs, .out] := by
  let ready := s.attr Attr.mate_track_state = 2 ∧ s.mate.claim = false ∧ s.mate.agreement = none ∧ s.attr Attr.mate_sleep_state = 0
  have hrow : exec .sleepPropose s = .next (if ready then ((s.setMate { s.mate with agreement := some {} }).put1 Attr.mate_sleep_state 0 1).emit (.mate 1 1)
      else s.emit (.mate 1 0)) := congrArg Host.Outcome.next (if_pos (by simp [hup, hstand, hlink]))
  have hkept := (Evolves.of_next Evolves.execSleepPropose_evolves hrow).same
  refine ⟨_, hrow, ?_, State.sameBut_without (p := .store) hkept ?_⟩
  · by_cases hready : ready
    · rw [if_pos hready, if_pos hready]
      exact ⟨State.put1_mate .., State.attr_put1_same .., congrArg (Emission.mate 1 1 :: ·) (State.put1_out ..)⟩
    · rw [if_neg hready, if_neg hready]
      exact ⟨rfl, rfl⟩
  · by_cases hready : ready
    · rw [if_pos hready]
      exact State.put1_store_of_volatile
    · rw [if_neg hready]
      exact rfl

theorem exec_sleepAnswer {a : Agreement} {accept : Bool} {instant : Nat} (hagree : s.mate.agreement = some a) (hup : s.control = true)
    (hact : s.active = true) (hopen : a.committed = none) :
    ∃ t, exec (.sleepAnswer accept instant) s = .next t ∧
      (if accept then t.mate.agreement = some { committed := some (max instant (s.counter + 67500000)) } ∧
          t.attr Attr.mate_sleep_state = 2 ∧ (t.latch 547).latched = true
       else t.mate.agreement = none ∧ t.attr Attr.mate_sleep_state = 0) ∧
      (∀ w, a.who = some w → s.serves w → t.answered w 0x0C01 (if accept then 0 else E_STATE)) ∧ t.counter = s.counter := by
  let yes := (((s.setMate { s.mate with agreement := some { committed := some (max instant (s.counter + 67500000)) } }).put1
    Attr.mate_sleep_state 0 2).emit (.mate 2 (max instant (s.counter + 67500000)))).mateEvent 547
  let no := (s.setMate { s.mate with agreement := none }).put1 Attr.mate_sleep_state 0 0
  have hrow : exec (.sleepAnswer accept instant) s = .next (if accept then yes.answer a.who 0x0C01 0 else no.answer a.who 0x0C01 E_STATE) := by
    simp only [exec, execSleepAnswer, hagree, State.when_, hup, hact, hopen, Option.isNone_none, Bool.and_self, if_true]
    rfl
  have hcounter := (Evolves.of_next Evolves.execSleepAnswer_evolves hrow).same .counter (by decide)
  have hyes : Writes [Attr.mate_sleep_state.id] s yes := Writes.refl.setMate.put1.emit.mateEvent
  have hno : Writes [Attr.mate_sleep_state.id] s no := Writes.refl.setMate.put1
  have hmate (x : State) (w : Option Issuer) (st : Nat) : (x.answer w 0x0C01 st).mate = x.mate :=
    (Evolves.answer (P := bookParts) .refl).same .mate (by decide)
  have hanswer (x : State) (w : Option Issuer) (st : Nat) : Writes [] x (x.answer w 0x0C01 st) := Writes.refl.answer
  refine ⟨_, hrow, ?_, ?_, hcounter⟩
  · cases accept with
    | true =>
      refine ⟨?_, (hanswer ..).attr.trans ?_, (hanswer ..).latched _ (by decide) State.raise_latched⟩
      · have hraise : yes.mate = { s.mate with agreement := some { committed := some (max instant (s.counter + 67500000)) } } :=
          (State.raise_mate ..).trans (State.put1_mate ..)
        exact congrArg MateUnit.agreement ((hmate ..).trans hraise)
      · rw [State.mateEvent_attr]
        exact State.attr_put1_same ..
    | false =>
      refine ⟨?_, (hanswer ..).attr.trans (State.attr_put1_same ..)⟩
      exact congrArg MateUnit.agreement ((hmate ..).trans (State.put1_mate ..))
  · intro w hw hs
    rw [hw]
    cases accept with
    | true => exact hyes.answered hs
    | false => exact hno.answered hs

theorem exec_sleepAgreement {a : Agreement} {instant : Nat} (hagree : s.mate.agreement = some a) (hup : s.control = true) :
    (s.standby = true → a.committed = none →
      ∃ t, exec (.sleepCommit instant) s = .next t ∧ t.mate.agreement = some { committed := some instant } ∧
        t.attr Attr.mate_sleep_state = 2 ∧ (t.latch 547).latched = true ∧ t.counter = s.counter) ∧
    (s.active = true →
      ∃ t, exec .sleepCancel s = .next t ∧ t.mate.agreement = none ∧ t.attr Attr.mate_sleep_state = 0 ∧
        (t.latch 548).latched = true ∧ t.counter = s.counter) ∧
    (∀ entry, a.committed = some entry →
      ∃ t, exec .sleepEntry s = .next t ∧ t.counter = max s.counter entry ∧
        (if s.standby then t.boot.transition = some 2 ∧ t.mate = s.mate
         else t.mate = { s.mate with agreement := none } ∧ t.attr Attr.mate_sleep_state = 3)) := by
  refine ⟨fun hstand hopen => ?_, fun hact => ?_, fun entry hentry => ?_⟩
  · let u := (s.setMate { s.mate with agreement := some { committed := some instant } }).put1 Attr.mate_sleep_state 0 2
    have hexec : exec (.sleepCommit instant) s = .next (u.mateEvent 547) := by
      simp only [exec, execSleepCommit, hagree, State.when_, hup, hstand, hopen, Option.isNone_none, Bool.and_self, if_true]
      rfl
    refine ⟨_, hexec, ?_, (State.mateEvent_attr).trans (State.attr_put1_same ..), State.raise_latched, ?_⟩
    · rw [State.mateEvent, State.raise_mate]
      exact congrArg MateUnit.agreement (State.put1_mate ..)
    · exact (Evolves.of_next Evolves.execSleepCommit_evolves hexec).same .counter (by decide)
  · have hexec : exec .sleepCancel s = .next s.cancelSleep := congrArg Host.Outcome.next (if_pos (by simp [hup, hact, hagree]))
    obtain ⟨hmate, hstate, hlatch⟩ := State.cancelSleep_facts (s := s)
    exact ⟨_, hexec, by rw [hmate], hstate, hlatch, (Evolves.of_next Evolves.execSleepCancel_evolves hexec).same .counter (by decide)⟩
  · let u := s.advance entry
    have hrow : exec .sleepEntry s = .next (if s.standby then { u with boot := { u.boot with transition := some 2 } }
        else (u.setMate { u.mate with agreement := none }).put1 Attr.mate_sleep_state 0 3) := by
      simp only [exec, execSleepEntry, hagree, Option.bind_some, hentry, State.when_, hup, if_true]
      rfl
    refine ⟨_, hrow, ?_, ?_⟩
    · split
      · rfl
      · exact State.put1_counter ..
    · by_cases hstand : s.standby = true
      · rw [if_pos hstand, if_pos hstand]
        exact ⟨rfl, rfl⟩
      · rw [if_neg hstand, if_neg hstand]
        exact ⟨State.put1_mate .., State.attr_put1_same ..⟩

/-- Settles O57: each row writes its own attributes of the mate, and a completion or an occurrence leaves them alone. -/
theorem mateStateCopy : Obligations.MateStateCopy := by
  unfold Obligations.MateStateCopy
  refine ⟨fun s => exec_snapshotSend, fun s p => exec_snapshotReceived, fun s p => exec_snapshotAges, fun s n c => exec_sessionEntryFetch,
    fun s who => exec_mateSleep, fun s who => exec_mateWake, fun s => exec_mateRequestReceived, fun s => exec_sleepPropose,
    fun s a accept instant => exec_sleepAnswer, fun s a instant => exec_sleepAgreement, fun s hup hwake hfetched => ?_⟩
  have hexec : exec .wakeFetchComplete s = .next (s.put1 Attr.mate_sleep_state 0 0) :=
    congrArg Host.Outcome.next (if_pos (by simp [hup, hwake, hfetched]))
  exact ⟨_, hexec, State.attr_put1_same .., State.sameBut_without (p := .store) (Evolves.of_next Evolves.execWakeFetchComplete_evolves hexec).same
    State.put1_store_of_volatile⟩

end Sys2Proof.Machine
end

section
/-! The roles of a mate pair, their claims and the mate link (R461 to R465, R471 to R476). -/

set_option Elab.async false

namespace Sys2Proof.Machine

variable {s t : State} {who : Issuer} {ids : List Nat}

theorem State.attr_put_ne (s : State) {a b : AttrDesc} {i e j f : Nat} {v : Int} (h : b.id ≠ a.id := by decide) (hi : i < 65536 := by omega)
    (he : e < 65536 := by omega) (hj : j < 65536 := by omega) (hf : f < 65536 := by omega) : (s.put a i e v).attr b j f = s.attr b j f :=
  State.attr_put_other s v (key_ne_of_id h hj hf hi he)

/-! ### Roles and claims (R461 to R465) -/

theorem State.redecide_mate : s.redecide.mate = s.mate := (Evolves.redecide (P := [.sels]) .refl).same .mate (by decide)

theorem State.startTracking_mate : s.startTracking.mate = { s.mate with tracking := true } := by
  rw [State.startTracking, State.redecide_mate, State.put1_mate]
  rfl

theorem State.endTracking_facts : s.endTracking.mate = { s.mate with tracking := false } := by
  unfold State.endTracking
  split
  case isTrue h =>
    rw [State.redecide_mate, State.put1_mate]
    rfl
  case isFalse h =>
    have hnone : s.mate.tracking = false := by simpa using h
    rw [← hnone]

/-- What a module that becomes STANDBY reports, and the claim that it gives up (R464). -/
theorem State.becomeStandby_facts : s.becomeStandby.attr Attr.mate_role = 2 ∧ s.becomeStandby.mate.claim = false ∧
    s.becomeStandby.mate.deciding = false ∧ s.becomeStandby.mate.ack = s.mate.ack ∧ s.becomeStandby.mate.changeover = s.mate.changeover ∧
    s.becomeStandby.mate.roleAct = false := by
  let t := s.setMate { s.mate with claim := false, roleAct := false, deciding := false, takeover := none }
  let u := (t.put1 Attr.mate_role 0 2).mateEvent 538
  have hmate : u.mate = t.mate := (State.raise_mate ..).trans (State.put1_mate ..)
  have hrole : u.attr Attr.mate_role = 2 := (State.mateEvent_attr).trans (State.attr_put1_same ..)
  have heq : s.becomeStandby = if u.copying then u.startTracking else u := rfl
  have hwrites : Writes [Attr.mate_track_state.id] u s.becomeStandby := heq ▸ .ite Writes.refl.startTracking .refl
  refine ⟨hwrites.attr.trans hrole, ?_⟩
  rw [heq]
  split
  · rw [State.startTracking_mate, hmate]
    exact ⟨rfl, rfl, rfl, rfl, rfl⟩
  · rw [hmate]
    exact ⟨rfl, rfl, rfl, rfl, rfl⟩

/-- A module whose own ALIVE is frozen is STARTING once it withdraws, and STANDBY otherwise (R465). -/
theorem State.withdraw_facts : s.withdraw.attr Attr.mate_role = (if s.aliveFrozen then 1 else 2) ∧ s.withdraw.mate.claim = false ∧
    s.withdraw.mate.ack = s.mate.ack ∧ s.withdraw.mate.changeover = s.mate.changeover ∧ s.withdraw.mate.roleAct = false := by
  by_cases h : s.aliveFrozen = true
  · rw [State.withdraw, if_pos h, if_pos h, State.put1_mate]
    exact ⟨State.attr_put1_same .., rfl, rfl, rfl, rfl⟩
  · rw [State.withdraw, if_neg h, if_neg h]
    obtain ⟨hrole, hclaim, -, hack, hchange, hact⟩ := State.becomeStandby_facts (s := s)
    exact ⟨hrole, hclaim, hack, hchange, hact⟩

/-- Whether a module that finds both claiming yields (R465). -/
def State.yields (s : State) : Bool :=
  if s.aliveFrozen != !s.mate.aliveIn then s.aliveFrozen else !s.flag Attr.mate_role_pri

theorem State.bothClaim_eq : s.bothClaim = (if s.yields then s.withdraw else s).mateEvent 545 := rfl

theorem State.bothClaim_latched : (s.bothClaim.latch 545).latched = true := by
  rw [State.bothClaim_eq]
  exact State.raise_latched

theorem State.bothClaim_stays (h : s.yields = false) : s.bothClaim = s.mateEvent 545 := by
  rw [State.bothClaim_eq, h]
  rfl

theorem State.bothClaim_yields (h : s.yields = true) : s.bothClaim.mate.claim = false ∧
    s.bothClaim.attr Attr.mate_role = (if s.aliveFrozen then 1 else 2) ∧ s.bothClaim.mate.ack = s.mate.ack := by
  obtain ⟨hrole, hclaim, hack, -⟩ := State.withdraw_facts (s := s)
  rw [State.bothClaim_eq, if_pos h, State.mateEvent_attr, State.mateEvent, State.raise_mate]
  exact ⟨hclaim, hrole, hack⟩

theorem exec_roleClaimTimeout (hup : s.timing = true) (hstart : s.starting = true) (hdec : s.mate.deciding = true) :
    ∃ t, exec .roleClaimTimeout s = .next t ∧ (if s.mate.ack then t.attr Attr.mate_role = 2 ∧ t.mate.claim = false else t.mate.claim = true) ∧
      t.mate.deciding = false ∧ t.counter = max s.counter (s.mate.decideFrom + ticksPerSecond) := by
  let u := s.advance (s.mate.decideFrom + ticksPerSecond)
  have hrow : exec .roleClaimTimeout s = .next (if s.mate.ack then u.becomeStandby else u.claimRole) :=
    congrArg Host.Outcome.next (if_pos (by simp [hup, hstart, hdec]))
  refine ⟨_, hrow, ?_⟩
  by_cases hack : s.mate.ack = true
  · rw [if_pos hack, if_pos hack]
    obtain ⟨hrole, hclaim, hdeciding, -⟩ := State.becomeStandby_facts (s := u)
    exact ⟨⟨hrole, hclaim⟩, hdeciding, (Evolves.becomeStandby (P := .sels :: .mate :: raiseParts) .refl).same .counter (by decide)⟩
  · rw [if_neg hack, if_neg hack]
    exact ⟨rfl, rfl, rfl⟩

/-- The occurrence that the new active module reports of its takeover (R472). -/
def State.tookOver (s : State) : State :=
  match s.mate.takeover with
  | some k => (s.setMate { s.mate with tookAt := (s.counter, s.snapAge / 1350000) }).mateEvent (if k = 2 then 537 else 536)
  | none => s

theorem State.tookOver_facts : Writes [] s s.tookOver ∧ s.tookOver.mate.roleAct = s.mate.roleAct ∧ s.tookOver.counter = s.counter ∧
    ∀ k, s.mate.takeover = some k → (s.tookOver.latch (if k = 2 then 537 else 536)).latched = true := by
  unfold State.tookOver
  split
  case h_1 k hk =>
    refine ⟨Writes.refl.setMate.mateEvent, ?_, State.raise_counter .., fun j hj => ?_⟩
    · rw [State.mateEvent, State.raise_mate]
      rfl
    · obtain rfl : k = j := Option.some.inj (hk.symm.trans hj)
      by_cases h2 : k = 2
      · rw [if_pos h2]
        exact State.raise_latched
      · rw [if_neg h2]
        exact State.raise_latched
  case h_2 hk =>
    refine ⟨.refl, rfl, rfl, fun j hj => ?_⟩
    rw [hk] at hj
    cases hj

theorem exec_roleActRaise (hup : s.timing = true) (hpair : s.paired_ = true) (hclaim : s.mate.claim = true) (hact : s.mate.roleAct = false)
    (hmay : s.mate.ack = false ∨ s.mate.takeover = some 0 ∨ s.mate.takeover = some 1) :
    ∃ t, exec .roleActRaise s = .next t ∧ t.attr Attr.mate_role = 3 ∧ t.mate.roleAct = true ∧ t.mate.tracking = false ∧
      (∀ k, s.mate.takeover = some k → (t.latch (if k = 2 then 537 else 536)).latched = true) ∧
      t.counter = max s.counter (if s.mate.ack then s.mate.claimAt + 5400000 else max s.mate.claimAt s.mate.ackAt + 13500) := by
  let t := s.advance (if s.mate.ack then s.mate.claimAt + 5400000 else max s.mate.claimAt s.mate.ackAt + 13500)
  let u := (t.setMate { t.mate with roleAct := true }).put1 Attr.mate_role 0 3
  have hmay' : (!s.mate.ack || s.mate.takeover == some 0 || s.mate.takeover == some 1) = true := by rcases hmay with h | h | h <;> simp [h]
  have hexec : exec .roleActRaise s = .next u.tookOver.endTracking :=
    congrArg Host.Outcome.next (if_pos (by simp only [hup, hpair, hclaim, hact, hmay', Bool.not_false, Bool.and_self]))
  have hmate : u.mate = { t.mate with roleAct := true } := State.put1_mate ..
  obtain ⟨hwrites, hroleAct, hcounter, hlatch⟩ := State.tookOver_facts (s := u)
  have hend : Writes [Attr.mate_track_state.id] u.tookOver u.tookOver.endTracking := Writes.refl.endTracking
  refine ⟨_, hexec, ?_, ?_, ?_, fun k hk => ?_, ?_⟩
  · rw [hend.attr, hwrites.attr]
    exact State.attr_put1_same ..
  · rw [State.endTracking_facts]
    exact hroleAct.trans (congrArg MateUnit.roleAct hmate)
  · rw [State.endTracking_facts]
  · refine hend.latched _ ?_ (hlatch k ((congrArg MateUnit.takeover hmate).trans hk))
    by_cases h2 : k = 2
    · rw [if_pos h2]
      decide
    · rw [if_neg h2]
      decide
  · rw [(Evolves.endTracking (P := [.attrs, .sels, .store, .mate]) .refl).same .counter (by decide), hcounter]
    exact State.put1_counter ..

/-! ### A standby's claim (R471, R472) -/

/-- A wake request leaves the claims of the pair as they are. -/
theorem State.wakeRequest_mate : ∃ a w, s.wakeRequest.mate = { s.mate with agreement := a, wakeDue := w } := by
  unfold State.wakeRequest
  split
  · exact ⟨_, _, State.put1_mate ..⟩
  · split
    · split
      · exact ⟨_, _, rfl⟩
      · exact ⟨_, _, State.cancelSleep_facts.1⟩
    · exact ⟨_, _, rfl⟩

/-- A trigger against which the mate's claim does not stand makes the standby claim. -/
theorem State.trigger_facts {k : Nat} (h : s.mate.ack = false ∨ s.mate.aliveIn = false ∧ s.aliveFrozen = false) :
    (s.trigger k).mate.claim = true ∧ (s.trigger k).mate.claimAt = s.counter ∧ (s.trigger k).mate.takeover = some k ∧
      (s.trigger k).mate.aliveIn = s.mate.aliveIn ∧ (s.trigger k).mate.ack = s.mate.ack ∧ (s.trigger k).mate.ackAt = s.mate.ackAt := by
  let x := (s.setMate { s.mate with takeover := some k }).claimRole
  have heq : s.trigger k = (if x.mate.ack then x.bothClaim else x).wakeRequest := rfl
  have hmate : (if x.mate.ack then x.bothClaim else x).mate = x.mate := by
    by_cases hack : x.mate.ack = true
    · obtain ⟨halive, hfree⟩ := h.resolve_left (by rw [show s.mate.ack = true from hack]; decide)
      have hstay : x.yields = false := by
        rw [State.yields, show x.aliveFrozen = s.aliveFrozen from rfl, show x.mate.aliveIn = s.mate.aliveIn from rfl, halive, hfree]
        rfl
      rw [if_pos hack, State.bothClaim_stays hstay, State.mateEvent, State.raise_mate]
    · rw [if_neg hack]
  obtain ⟨a, w, hwake⟩ := State.wakeRequest_mate (s := if x.mate.ack then x.bothClaim else x)
  rw [heq, hwake, hmate]
  exact ⟨rfl, rfl, rfl, rfl, rfl, rfl⟩

theorem exec_aliveLost_standby (hup : s.timing = true) (hstand : s.standby = true) (hclaim : s.mate.claim = false)
    (hmay : s.mate.ack = false ∨ s.aliveFrozen = false) :
    (∃ t, exec .aliveLost s = .next t ∧ t.mate.claim = true ∧ t.mate.claimAt = s.counter ∧ t.mate.takeover = some 0 ∧
      t.mate.aliveIn = false ∧ t.counter = s.counter) ∧
    (s.attr Attr.mate_link_state = 0 →
      ∃ t, exec .linkAndAliveLost s = .next t ∧ t.mate.claim = true ∧ t.mate.claimAt = s.counter ∧ t.mate.takeover = some 1 ∧
        t.mate.aliveIn = false ∧ t.counter = s.counter) := by
  let u := s.setMate { s.mate with aliveIn := false }
  have hpair := (State.standby_not_active hstand).1
  have htrigger {k : Nat} := State.trigger_facts (s := u) (k := k) (hmay.imp id fun h => ⟨rfl, h⟩)
  have hcounter {k : Nat} : (u.trigger k).counter = s.counter :=
    (Evolves.trigger (P := .sels :: .boot :: .mate :: raiseParts) .refl).same .counter (by decide)
  refine ⟨?_, fun hlink => ?_⟩
  · have hexec : exec .aliveLost s = .next (u.trigger 0) := by
      refine congrArg Host.Outcome.next ((if_pos ?_).trans ((if_pos ?_).trans (if_neg ?_)))
      · rw [hup, hpair]
        rfl
      · exact hstand
      · rw [show u.mate.claim = s.mate.claim from rfl, hclaim]
        decide
    obtain ⟨hclaimed, hat, htake, halive, -, -⟩ := htrigger (k := 0)
    exact ⟨_, hexec, hclaimed, hat, htake, halive, hcounter⟩
  · have hexec : exec .linkAndAliveLost s = .next (u.trigger 1) := congrArg Host.Outcome.next (if_pos (by simp [hup, hstand, hlink, hclaim]))
    obtain ⟨hclaimed, hat, htake, halive, -, -⟩ := htrigger (k := 1)
    exact ⟨_, hexec, hclaimed, hat, htake, halive, hcounter⟩

theorem exec_release (hup : s.timing = true) (hpair : s.paired_ = true) (hack : s.mate.ack = true) :
    ∃ t, exec .release s = .next t ∧ t.mate.ack = false ∧ t.mate.ackAt = s.counter ∧
      (s.standby = true → s.mate.claim = false → s.mate.aliveIn = true → t.mate.claim = true ∧ t.mate.takeover = some 2) ∧
      t.counter = s.counter := by
  let u := s.setMate { s.mate with ack := false, ackAt := s.counter }
  have hrow : exec .release s = .next (if u.standby && !u.mate.claim && u.mate.aliveIn then u.trigger 2 else u) := by
    refine congrArg Host.Outcome.next (if_pos ?_)
    rw [hup, hpair, hack]
    rfl
  obtain ⟨hclaimed, -, htake, -, hfell, hat⟩ := State.trigger_facts (s := u) (k := 2) (Or.inl rfl)
  have hcounter := (Evolves.of_next Evolves.execRelease_evolves hrow).same .counter (by decide)
  refine ⟨_, hrow, ?_, ?_, fun hstand hfree halive => ?_, hcounter⟩
  · split
    · exact hfell
    · rfl
  · split
    · exact hat
    · rfl
  · have hcond : (u.standby && !u.mate.claim && u.mate.aliveIn) = true := by
      rw [show u.standby = s.standby from rfl, show u.mate.claim = s.mate.claim from rfl, show u.mate.aliveIn = s.mate.aliveIn from rfl, hstand,
        hfree, halive]
      rfl
    rw [if_pos hcond]
    exact ⟨hclaimed, htake⟩

theorem exec_chgAckRise (hup : s.timing = true) (hpair : s.paired_ = true) :
    ∃ t, exec .chgAckRise s = .next t ∧ t.mate.ack = true ∧
      (s.mate.claim = true → (t.latch 545).latched = true ∧
        (s.aliveFrozen = false → s.mate.aliveIn = false ∨ s.flag Attr.mate_role_pri = true → t.mate.claim = true) ∧
        (s.aliveFrozen = false → s.mate.aliveIn = true → s.flag Attr.mate_role_pri = false →
          t.mate.claim = false ∧ t.attr Attr.mate_role = 2) ∧
        (s.aliveFrozen = true → s.mate.aliveIn = true → t.mate.claim = false ∧ t.attr Attr.mate_role = 1)) ∧
      (s.mate.claim = false → s.mate.deciding = true → t.attr Attr.mate_role = 2) ∧ t.counter = s.counter := by
  let u := s.setMate { s.mate with ack := true }
  have hrow : exec .chgAckRise s = .next (if u.mate.claim then u.bothClaim else if u.mate.deciding then u.becomeStandby else u) := by
    refine congrArg Host.Outcome.next (if_pos ?_)
    rw [hup, hpair]
    rfl
  have hcounter := (Evolves.of_next Evolves.execChgAckRise_evolves hrow).same .counter (by decide)
  have hyields : u.yields = if s.aliveFrozen != !s.mate.aliveIn then s.aliveFrozen else !s.flag Attr.mate_role_pri := rfl
  have hfrozen : u.aliveFrozen = s.aliveFrozen := rfl
  refine ⟨_, hrow, ?_⟩
  by_cases hclaim : s.mate.claim = true
  · rw [if_pos (show u.mate.claim = true from hclaim)] at hcounter ⊢
    refine ⟨?_, fun _ => ⟨State.bothClaim_latched, fun hfree hstay => ?_, fun hfree halive hpri => ?_, fun hfree halive => ?_⟩, fun h => ?_, hcounter⟩
    · by_cases hyield : u.yields = true
      · exact (State.bothClaim_yields hyield).2.2
      · rw [State.bothClaim_stays (Bool.eq_false_iff.mpr hyield), State.mateEvent, State.raise_mate]
        rfl
    · have hno : u.yields = false := by
        rw [hyields, hfree]
        rcases hstay with h | h <;> simp [h]
      rw [State.bothClaim_stays hno, State.mateEvent, State.raise_mate]
      exact hclaim
    · obtain ⟨hgone, hrole, -⟩ := State.bothClaim_yields (s := u) (by rw [hyields, hfree, halive, hpri]; rfl)
      rw [hfrozen, hfree] at hrole
      exact ⟨hgone, hrole⟩
    · obtain ⟨hgone, hrole, -⟩ := State.bothClaim_yields (s := u) (by rw [hyields, hfree, halive]; rfl)
      rw [hfrozen, hfree] at hrole
      exact ⟨hgone, hrole⟩
    · rw [hclaim] at h
      cases h
  · rw [if_neg (show ¬ u.mate.claim = true from hclaim)] at hcounter ⊢
    refine ⟨?_, fun h => absurd h hclaim, fun _ hdec => ?_, hcounter⟩
    · split
      · exact State.becomeStandby_facts.2.2.2.1
      · rfl
    · rw [if_pos (show u.mate.deciding = true from hdec)]
      exact State.becomeStandby_facts.1

theorem exec_mateAlive_active (hup : s.timing = true) (hact : s.active = true) :
    (∃ t, exec .aliveLost s = .next t ∧ t.mate.aliveIn = false ∧ (t.latch 539).latched = true ∧ (t.latch 539).cause = true ∧
      t.counter = s.counter) ∧
    ∃ t, exec .mateAliveResumed s = .next t ∧ t.mate.aliveIn = true ∧ (t.latch 539).cause = false ∧ s.sameBut t [.mate, .faults] := by
  obtain ⟨hpair, hstand⟩ := State.active_not_standby hact
  have hcond : (s.timing && s.paired_) = true := by rw [hup, hpair]; rfl
  refine ⟨?_, ?_⟩
  · let u := s.setMate { s.mate with aliveIn := false }
    have hexec : exec .aliveLost s = .next (u.mateEvent 539 true) :=
      congrArg Host.Outcome.next ((if_pos hcond).trans ((if_neg (by rw [show u.standby = s.standby from rfl, hstand]; decide)).trans (if_pos hact)))
    refine ⟨_, hexec, ?_, State.raise_latched, State.raise_cause, State.raise_counter ..⟩
    rw [State.mateEvent, State.raise_mate]
    rfl
  · let u := (s.setMate { s.mate with aliveIn := true }).uncause 539
    have hmate : u.mate = { s.mate with aliveIn := true } := State.uncause_mate ..
    have hstart : u.starting = false := by
      have hrole : u.starting = s.starting := by rw [State.starting, State.paired_, State.attr_of_attrs (State.uncause_attrs ..), State.attr_of_attrs (State.uncause_attrs ..)]; rfl
      obtain ⟨-, hthree⟩ := Bool.and_eq_true_iff.mp hact
      rw [hrole, State.starting, hpair, Bool.true_and, beq_iff_eq.mp hthree]
      rfl
    have hexec : exec .mateAliveResumed s = .next u := by
      refine congrArg Host.Outcome.next ((if_pos hcond).trans (if_neg ?_))
      rw [show ((s.setMate { s.mate with aliveIn := true }).uncause 539).starting = false from hstart]
      simp
    exact ⟨_, hexec, by rw [hmate], State.uncause_cause .., (Evolves.uncause (P := [.mate, .faults]) (.setMate .refl)).same⟩

/-! ### Changeover and adoption (R473, R474) -/

theorem exec_mateChangeover (hs : s.serves who) (hc : issuerClient who = 0) (hok : s.changeoverRefused = false) :
    ∃ t, exec (.mateChangeover who true) s = .next t ∧
      (s.active = true → s.attr Attr.mate_sleep_state = 0 →
        t.mate.changeover = some (some who) ∧ t.mate.changeAt = s.counter ∧ t.mate.snapSent = s.mate.snapSent + 1 ∧
          (∃ p, t.out = .snapshot p :: s.out ∧ p.epoch = s.mate.snapSent + 1) ∧ s.sameBut t [.mate, .out, .faults]) ∧
      (s.active = false → s.attr Attr.mate_track_state = 2 → s.attr Attr.mate_sleep_state = 0 →
        t.answered who 0x0C00 0 ∧ .mate 4 0 ∈ t.out ∧ s.framed t [] []) := by
  let refused := s.changeoverRefused || !(if s.active then true && s.attr Attr.mate_sleep_state == 0
    else s.attr Attr.mate_track_state == 2 && s.attr Attr.mate_sleep_state == 0)
  have hdone (hfree : refused = false) : exec (.mateChangeover who true) s =
      .next (if s.active then s.startChangeover (some who) else (s.emit (.mate 4 0)).finish who 0x0C00 0 0) :=
    congrArg Host.Outcome.next (State.act_ok _ hs.1 rfl (s.permits_owner0 hc) (firstRefusal_none.mpr (by
      intro x hx
      rw [List.mem_singleton.mp hx]
      exact hfree)))
  by_cases hact : s.active = true
  · by_cases hawake : s.attr Attr.mate_sleep_state = 0
    · have hexec := (hdone (by simp [refused, hok, hact, hawake])).trans (congrArg Host.Outcome.next (if_pos hact))
      refine ⟨_, hexec, fun _ _ => ?_, fun h => absurd h (by rw [hact]; decide)⟩
      obtain ⟨p, heq, hepoch, -⟩ := s.sendSnapshot_eq
      refine ⟨rfl, (Evolves.sendSnapshot (P := [.faults, .mate, .out]) .refl).same .counter (by decide), ?_, ⟨p, ?_, hepoch⟩,
        State.sameBut_mono (Evolves.startChangeover (P := [.faults, .mate, .out]) .refl).same (by decide)⟩
      · rw [State.startChangeover, heq]
        rfl
      · rw [State.startChangeover, heq]
        exact congrArg (Emission.snapshot p :: ·) (State.injected_out ..)
    · exact ⟨_, rfl, fun _ h => absurd h hawake, fun h => absurd h (by rw [hact]; decide)⟩
  · have hidle : s.active = false := Bool.eq_false_iff.mpr hact
    by_cases hready : s.attr Attr.mate_track_state = 2 ∧ s.attr Attr.mate_sleep_state = 0
    · have hexec := (hdone (by simp [refused, hok, hidle, hready])).trans (congrArg Host.Outcome.next (if_neg hact))
      exact ⟨_, hexec, fun h => absurd h hact, fun _ _ _ => ⟨(Writes.refl (ids := [])).emit.answered hs,
        State.out_subset_finish (List.mem_cons_self ..), State.framed_emit_finish⟩⟩
    · exact ⟨_, rfl, fun h => absurd h hact, fun _ htrack hawake => absurd ⟨htrack, hawake⟩ hready⟩

theorem exec_changeoverReceipt {w : Option Issuer} {received : Bool} (hchange : s.mate.changeover = some w) (hup : s.control = true)
    (hact : s.active = true) :
    ∃ t, exec (.changeoverReceipt received) s = .next t ∧ t.mate.changeover = none ∧ t.mate.claim = false ∧ t.mate.roleAct = false ∧
      t.attr Attr.mate_role = (if s.aliveFrozen then 1 else 2) ∧ (∀ v, w = some v → s.serves v → t.answered v 0x0C00 0) ∧
      t.counter = (if received then s.counter else max s.counter (s.mate.changeAt + 6750000)) := by
  let t := if received then s else s.advance (s.mate.changeAt + 6750000)
  let u := t.setMate { t.mate with changeover := none, claim := false, roleAct := false }
  let x := u.withdraw.emit (.mate 5 (boolNat received))
  have hexec : exec (.changeoverReceipt received) s = .next (x.answer w 0x0C00 0) := by
    simp only [exec, execChangeoverReceipt, hchange, State.when_, hup, hact, Bool.and_self, if_true]
    rfl
  have hmate : (x.answer w 0x0C00 0).mate = u.withdraw.mate := (Evolves.answer (P := bookParts) .refl).same .mate (by decide)
  have hanswer : Writes [] x (x.answer w 0x0C00 0) := Writes.refl.answer
  obtain ⟨hrole, hclaim, -, hnone, hroleAct⟩ := State.withdraw_facts (s := u)
  have ht : Writes [] s t := by
    dsimp only [t]
    split
    · exact .refl
    · exact Writes.refl.of_eq
  have hx : Writes [Attr.mate_role.id, Attr.mate_track_state.id] s x := ((ht.mono (by decide)).setMate.withdraw).emit
  have hfrozen : u.aliveFrozen = s.aliveFrozen := by
    cases received <;> rfl
  refine ⟨_, hexec, ?_, ?_, ?_, ?_, fun v hv hs => ?_, ?_⟩
  · rw [hmate]
    exact hnone
  · rw [hmate]
    exact hclaim
  · rw [hmate]
    exact hroleAct
  · rw [hanswer.attr, ← hfrozen]
    exact hrole
  · rw [hv]
    exact hx.answered hs
  · have hcounter : (x.answer w 0x0C00 0).counter = u.counter :=
      (Evolves.answer (P := .out :: .sels :: .mate :: raiseParts) (.emit (.withdraw .refl))).same .counter (by decide)
    rw [hcounter]
    cases received <;> rfl

theorem Writes.foldl {α : Type} (h : Writes ids s t) {f : State → α → State} {l : List α} (hf : ∀ (u : State) (x : α), Writes ids u (f u x)) :
    Writes ids s (l.foldl f t) := by
  induction l generalizing t with
  | nil => exact h
  | cons x l ih => exact ih (h.trans (hf t x))

/-- What the new active module takes from the last complete snapshot (R473). -/
def State.adopted (s : State) (instant : Nat) (p : Snapshot) : State :=
  let v := p.domains.foldl (fun (x : State) e => x.adoptDomain p.localEdge instant e) s
  let w := p.ages.foldl (fun (x : State) (e : Fin 4 × Int × Int) => (x.put Attr.age_learned 0 e.1.val e.2.1).put Attr.tempco_learned 0 e.1.val e.2.2) v
  let x := p.means.foldl (fun (x : State) e => x.adoptMeans e) w
  let y := p.jams.foldl (fun (x : State) (e : Fin 2 × Option (Int × Nat)) => x.setGen (14 + e.1.val) { x.gen (14 + e.1.val) with base := e.2 }) x
  p.lehrs.foldl (fun (x : State) (e : Gen × Int) => x.putGenLehr (genNumber e.1) (x.genLehr (genNumber e.1)) e.2) y

def adoptIds : List Nat :=
  lehrMoves ++ [Attr.domain_update_refusals.id, Attr.age_learned.id, Attr.tempco_learned.id, Attr.dpll_ho_usable.id]

theorem State.adoptDomain_writes {localEdge instant : Nat} {e : SnapDomain} : Writes adoptIds s (s.adoptDomain localEdge instant e) := by
  have hd := e.domain.isLt
  have hissue (t : State) (u : DomUpdate) : Writes adoptIds t (t.issue e.domain u) := .ite Writes.refl.setDom Writes.refl.bump
  exact .ite (Writes.refl.setDom.trans (hissue _ _)) .refl

theorem genNumber_lt (g : Gen) : genNumber g < 18 := by
  cases g <;> (simp only [genNumber]; omega)

theorem State.adopted_writes {instant : Nat} {p : Snapshot} : Writes adoptIds s (s.adopted instant p) := by
  have hlehr (x : State) (e : Gen × Int) : Writes adoptIds x (x.putGenLehr (genNumber e.1) (x.genLehr (genNumber e.1)) e.2) :=
    (State.replaceGen_writes (genNumber_lt e.1)).mono
  have hdom (x : State) (e : SnapDomain) : Writes adoptIds x (x.adoptDomain p.localEdge instant e) := State.adoptDomain_writes
  have hage (x : State) (e : Fin 4 × Int × Int) :
      Writes adoptIds x ((x.put Attr.age_learned 0 e.1.val e.2.1).put Attr.tempco_learned 0 e.1.val e.2.2) := Writes.refl.put.put
  have hmean (x : State) (e : Fin 16 × Int × Int × Int × Nat) : Writes adoptIds x (x.adoptMeans e) := Writes.refl.setDpll.put1
  have hjam (x : State) (e : Fin 2 × Option (Int × Nat)) : Writes adoptIds x (x.setGen (14 + e.1.val) { x.gen (14 + e.1.val) with base := e.2 }) :=
    Writes.refl.setGen
  exact ((((Writes.refl.foldl hdom).foldl hage).foldl hmean).foldl hjam).foldl hlehr

theorem State.adopted_same {instant : Nat} {p : Snapshot} : s.sameBut (s.adopted instant p) (.doms :: .dplls :: .gens :: raiseParts) :=
  (((((Evolves.refl.foldl fun _ _ => Evolves.refl.adoptDomain).foldl fun _ _ => Evolves.refl.put.put).foldl fun _ _ => Evolves.refl.adoptMeans).foldl
    fun _ _ => Evolves.refl.setGen).foldl fun _ _ => Evolves.refl.putGenLehr).same

theorem exec_snapshotAdoption {k instant : Nat} (htake : s.mate.takeover = some k) (hup : s.control = true) (hact : s.active = true)
    (hrole : s.mate.roleAct = true) :
    ∃ t, exec (.snapshotAdoption instant) s = .next t ∧ t.mate.takeover = none ∧
      t.attr Attr.mate_takeovers = (s.attr Attr.mate_takeovers + 1) % (256 ^ Attr.mate_takeovers.bytes : Nat) ∧
      t.attr Attr.mate_last_takeover =
        ((s.mate.tookAt.1 % 2 ^ 64 + k * 2 ^ 64 + s.mate.tookAt.2 % 65536 * 2 ^ 72 : Nat) : Int) ∧ t.counter = s.counter := by
  have hu : ∃ u, exec (.snapshotAdoption instant) s = .next (((u.setMate { u.mate with takeover := none }).bump Attr.mate_takeovers).enforceLimit.put1
      Attr.mate_last_takeover 0 ((u.mate.tookAt.1 % 2 ^ 64 + k * 2 ^ 64 + u.mate.tookAt.2 % 65536 * 2 ^ 72 : Nat) : Int)) ∧
      u.mate = s.mate ∧ Writes adoptIds s u ∧ u.counter = s.counter := by
    have hcond : (s.control && s.active && s.mate.roleAct) = true := by rw [hup, hact, hrole]; rfl
    cases hsnap : s.mate.snap with
    | some p =>
      refine ⟨s.adopted instant p, ?_, State.adopted_same .mate (by decide), State.adopted_writes, State.adopted_same .counter (by decide)⟩
      simp only [exec, execSnapshotAdoption, htake, State.when_, hcond, if_true, hsnap]
      rfl
    | none =>
      refine ⟨s, ?_, rfl, .refl, rfl⟩
      simp only [exec, execSnapshotAdoption, htake, State.when_, hcond, if_true, hsnap]
  obtain ⟨u, hexec, hmate, hwrites, hcounter⟩ := hu
  have hlimit : Writes [] ((u.setMate { u.mate with takeover := none }).bump Attr.mate_takeovers)
      ((u.setMate { u.mate with takeover := none }).bump Attr.mate_takeovers).enforceLimit := Writes.refl.enforceLimit
  refine ⟨_, hexec, ?_, ?_, ?_, ?_⟩
  · rw [State.put1_mate, State.enforceLimit_mate, State.bump_mate]
    rfl
  · rw [State.attr_put1_ne, hlimit.attr, State.attr_bump_same, ← hwrites.attr]
    rfl
  · rw [State.attr_put1_same, hmate]
  · rw [State.put1_counter, State.enforceLimit_counter, State.bump_counter, ← hcounter]
    rfl

/-! ### The mate link (R463, R475, R476) -/

/-- The primacy that the modules agree on as the link trains (R463). -/
def State.agreedPri (s : State) (peer : MatePeer) : Bool := if s.boot.rolePri = peer.pri then bytesBefore s.serial peer.serial else s.boot.rolePri

/-- The state with what the mate has sent, before state copy is judged. -/
def State.introduced (s : State) (peer : MatePeer) : State :=
  let u := ((s.setMate { s.mate with peer := some peer, errCount := 0 }).put1 Attr.mate_link_state 0 2).put1 Attr.mate_role_pri 0 (boolInt (s.agreedPri peer))
  ((u.put Attr.mate_versions 0 0 peer.version).put Attr.mate_versions 0 1 peer.compat).uncause 540 |>.uncause 541

/-- As `introduced`, with the event that both straps are alike. -/
def State.greeted (s : State) (peer : MatePeer) : State :=
  if s.boot.rolePri = peer.pri then (s.introduced peer).mateEvent 550 else s.introduced peer

/-- State copy starts, where the images permit it (R476). -/
def State.judgeCopy (w : State) (peer : MatePeer) : State :=
  if w.copyAllowed peer then
    let x := (w.setMate { w.mate with snapAt := w.counter }).put1 Attr.mate_copy_state 0 1
    if x.standby && !x.mate.claim then x.startTracking else x
  else ((w.put1 Attr.mate_copy_state 0 2).endTracking).mateEvent 544

theorem exec_mateLinkTrained_eq {peer : MatePeer} (hup : s.timing = true) (hpair : s.paired_ = true)
    (hlink : s.attr Attr.mate_link_state = 0 ∨ s.attr Attr.mate_link_state = 1) :
    exec (.mateLinkTrained peer) s = .next ((s.greeted peer).judgeCopy peer) := by
  have hcond : (s.timing && s.paired_ && (s.attr Attr.mate_link_state == 0 || s.attr Attr.mate_link_state == 1)) = true := by
    rw [hup, hpair]
    rcases hlink with h | h <;> simp [h]
  exact congrArg Host.Outcome.next (if_pos hcond)

theorem State.greeted_facts {peer : MatePeer} : Writes [] (s.introduced peer) (s.greeted peer) ∧ (s.greeted peer).mate.peer = some peer ∧
    (s.greeted peer).boot = s.boot := by
  have hmate : (s.introduced peer).mate.peer = some peer := by
    rw [State.introduced, State.uncause_mate, State.uncause_mate, State.put_mate, State.put_mate, State.put1_mate, State.put1_mate]
    rfl
  have hboot : (s.introduced peer).boot = s.boot := by simp [State.introduced]
  unfold State.greeted
  split
  · refine ⟨Writes.refl.mateEvent, ?_, ?_⟩
    · rw [State.mateEvent, State.raise_mate, hmate]
    · rw [State.mateEvent, State.raise_boot, hboot]
  · exact ⟨.refl, hmate, hboot⟩

theorem State.judgeCopy_facts {w : State} {peer : MatePeer} : Writes [Attr.mate_copy_state.id, Attr.mate_track_state.id] w (w.judgeCopy peer) ∧
    (w.judgeCopy peer).attr Attr.mate_copy_state = (if w.copyAllowed peer then 1 else 2) ∧ (w.judgeCopy peer).mate.peer = w.mate.peer := by
  unfold State.judgeCopy
  dsimp only
  split
  · let x := (w.setMate { w.mate with snapAt := w.counter }).put1 Attr.mate_copy_state 0 1
    have hcopy : x.attr Attr.mate_copy_state = 1 := State.attr_put1_same ..
    have hpeer : x.mate.peer = w.mate.peer := (congrArg MateUnit.peer (State.put1_mate (w.setMate { w.mate with snapAt := w.counter }) ..)).trans rfl
    split
    · have htrack : Writes [Attr.mate_track_state.id] x x.startTracking := Writes.refl.startTracking
      refine ⟨Writes.refl.setMate.put1.startTracking, htrack.attr.trans hcopy, ?_⟩
      rw [State.startTracking_mate]
      exact hpeer
    · exact ⟨Writes.refl.setMate.put1, hcopy, hpeer⟩
  · have hend : Writes [Attr.mate_track_state.id] (w.put1 Attr.mate_copy_state 0 2) ((w.put1 Attr.mate_copy_state 0 2).endTracking.mateEvent 544) :=
      Writes.refl.endTracking.mateEvent
    refine ⟨Writes.refl.put1.endTracking.mateEvent, hend.attr.trans (State.attr_put1_same ..), ?_⟩
    rw [State.mateEvent, State.raise_mate, State.endTracking_facts, State.put1_mate]

theorem State.introduced_attr {peer : MatePeer} {a : AttrDesc} {i e : Nat} : (s.introduced peer).attr a i e =
    (((((s.setMate { s.mate with peer := some peer, errCount := 0 }).put1 Attr.mate_link_state 0 2).put1 Attr.mate_role_pri 0
      (boolInt (s.agreedPri peer))).put Attr.mate_versions 0 0 peer.version).put Attr.mate_versions 0 1 peer.compat).attr a i e := by
  rw [State.introduced, State.attr_of_attrs (State.uncause_attrs ..), State.attr_of_attrs (State.uncause_attrs ..)]

theorem exec_mateLinkTrained {peer : MatePeer} (hup : s.timing = true) (hpair : s.paired_ = true)
    (hlink : s.attr Attr.mate_link_state = 0 ∨ s.attr Attr.mate_link_state = 1) :
    ∃ t, exec (.mateLinkTrained peer) s = .next t ∧ t.attr Attr.mate_link_state = 2 ∧ t.mate.peer = some peer ∧
      t.attr Attr.mate_versions 0 0 = peer.version ∧ t.attr Attr.mate_versions 0 1 = peer.compat ∧
      t.flag Attr.mate_role_pri = (if s.boot.rolePri = peer.pri then bytesBefore s.serial peer.serial else s.boot.rolePri) ∧
      t.attr Attr.mate_copy_state = (if s.copyAllowed peer then 1 else 2) ∧ t.counter = s.counter := by
  have hexec := exec_mateLinkTrained_eq (peer := peer) hup hpair hlink
  obtain ⟨hgreet, hpeer, hboot⟩ := State.greeted_facts (s := s) (peer := peer)
  obtain ⟨hjudge, hcopy, hpeer'⟩ := State.judgeCopy_facts (w := s.greeted peer) (peer := peer)
  have hsame : Writes [Attr.mate_link_state.id, Attr.mate_role_pri.id, Attr.mate_versions.id] s (s.greeted peer) :=
    (Writes.refl.setMate.put1.put1.put.put.uncause.uncause).andThen hgreet
  have hallowed : (s.greeted peer).copyAllowed peer = s.copyAllowed peer := by
    simp only [State.copyAllowed, State.attrN, hsame.attr (a := Attr.compat_id) (i := 0) (e := 0), hsame.attr (a := Attr.active_slot) (i := 0) (e := 0), hboot]
  refine ⟨_, hexec, ?_, hpeer'.trans hpeer, ?_, ?_, ?_, ?_, (Evolves.of_next Evolves.execMateLinkTrained_evolves hexec).same .counter (by decide)⟩
  · rw [hjudge.attr, hgreet.attr, State.introduced_attr, State.attr_put_ne, State.attr_put_ne, State.attr_put1_ne,
      State.attr_put1_same]
  · rw [hjudge.attr, hgreet.attr, State.introduced_attr, State.attr_put_other _ _ (by decide), State.attr_put_same]
  · rw [hjudge.attr, hgreet.attr, State.introduced_attr, State.attr_put_same]
  · rw [State.flag, hjudge.attr, hgreet.attr, State.introduced_attr, State.attr_put_ne, State.attr_put_ne,
      State.attr_put1_same, ← State.agreedPri]
    cases s.agreedPri peer <;> rfl
  · rw [hcopy, hallowed]

theorem State.cancelSleep_latch {ev : Nat} (hne : ev ≠ 548) (hb : ev ∉ bookSources) : s.cancelSleep.latch ev = s.latch ev := by
  let u := (s.setMate { s.mate with agreement := none }).put1 Attr.mate_sleep_state 0 0
  have hanswer (w : Option Issuer) : ((u.mateEvent 548).answer w 0x0C01 E_STATE).latch ev = (u.mateEvent 548).latch ev := by
    obtain ⟨h387, h600, h601⟩ := bookSources_ne hb
    unfold State.answer
    split
    · exact State.finish_latch _ h387 h600 h601 ..
    · rfl
  have hput : u.latch ev = s.latch ev := State.latch_of_faults (State.put1_faults ..) ev
  exact ((hanswer _).trans (State.raise_latch_other _ hne hb ..)).trans hput

/-- The end of the link, with its event, before an agreement that stands is cancelled. -/
def State.unlinked (s : State) (k : Int) : State :=
  let t := (s.put1 Attr.mate_link_state 0 k).put1 Attr.mate_copy_state 0 0
  if s.attr Attr.mate_link_state = 2 ∨ s.attr Attr.mate_link_state = 3 then t.mateEvent 540 true else t

theorem State.dropLink_cases {k : Int} : s.dropLink k = (s.unlinked k).cancelSleep ∨ s.dropLink k = s.unlinked k := by
  have heq : s.dropLink k = match (s.unlinked k).mate.agreement with
      | some a => if a.committed.isNone then (s.unlinked k).cancelSleep else s.unlinked k
      | none => s.unlinked k := rfl
  rw [heq]
  split
  · exact ite_eq_or_eq ..
  · exact Or.inr rfl

theorem State.unlinked_facts {k : Int} : (s.unlinked k).attr Attr.mate_link_state = k ∧ (s.unlinked k).attr Attr.mate_copy_state = 0 ∧
    (s.attr Attr.mate_link_state = 2 → ((s.unlinked k).latch 540).latched = true ∧ ((s.unlinked k).latch 540).cause = true) := by
  let t := (s.put1 Attr.mate_link_state 0 k).put1 Attr.mate_copy_state 0 0
  have hlink : t.attr Attr.mate_link_state = k := by rw [State.attr_put1_ne, State.attr_put1_same]
  have hcopy : t.attr Attr.mate_copy_state = 0 := State.attr_put1_same ..
  have hwrites : Writes [] t (s.unlinked k) := .ite Writes.refl.mateEvent .refl
  refine ⟨hwrites.attr.trans hlink, hwrites.attr.trans hcopy, fun h => ?_⟩
  rw [State.unlinked, if_pos (Or.inl h)]
  exact ⟨State.raise_latched, State.raise_cause⟩

/-- The link goes DOWN or into training (R475). -/
theorem State.dropLink_facts {k : Int} : (s.dropLink k).attr Attr.mate_link_state = k ∧ (s.dropLink k).attr Attr.mate_copy_state = 0 ∧
    (s.attr Attr.mate_link_state = 2 → ((s.dropLink k).latch 540).latched = true ∧ ((s.dropLink k).latch 540).cause = true) := by
  obtain ⟨hlink, hcopy, hlatch⟩ := State.unlinked_facts (s := s) (k := k)
  have hsleep : Writes [Attr.mate_sleep_state.id] (s.unlinked k) (s.unlinked k).cancelSleep := Writes.refl.cancelSleep
  rcases State.dropLink_cases (s := s) (k := k) with h | h
  · rw [h, State.cancelSleep_latch (by decide) (by decide), hsleep.attr, hsleep.attr]
    exact ⟨hlink, hcopy, hlatch⟩
  · rw [h]
    exact ⟨hlink, hcopy, hlatch⟩

theorem exec_mateLinkDown (hup : s.timing = true) (hlink : s.attr Attr.mate_link_state ≠ 0) :
    ∃ t, exec .mateLinkDown s = .next t ∧ t.attr Attr.mate_link_state = 0 ∧ t.attr Attr.mate_copy_state = 0 ∧
      (s.attr Attr.mate_link_state = 2 → (t.latch 540).latched = true ∧ (t.latch 540).cause = true) ∧ t.counter = s.counter := by
  have hexec : exec .mateLinkDown s = .next ((s.dropLink 0).uncause 541) := congrArg Host.Outcome.next (if_pos (by simp [hup, hlink]))
  obtain ⟨hdown, hcopy, hlatch⟩ := State.dropLink_facts (s := s) (k := 0)
  refine ⟨_, hexec, ?_, ?_, ?_, (Evolves.of_next Evolves.execMateLinkDown_evolves hexec).same .counter (by decide)⟩
  · rw [State.attr_of_attrs (State.uncause_attrs ..), hdown]
  · rw [State.attr_of_attrs (State.uncause_attrs ..), hcopy]
  · rw [State.uncause_latch_other _ (by decide)]
    exact hlatch

theorem exec_mateLinkReset (hs : s.serves who) (hc : issuerClient who = 0) (hpair : s.paired_ = true) :
    ∃ t, exec (.mateLinkReset who) s = .next t ∧ t.answered who 0x0C03 0 ∧ t.attr Attr.mate_link_state = 1 ∧
      t.attr Attr.mate_copy_state = 0 ∧ t.counter = s.counter := by
  have hexec : exec (.mateLinkReset who) s = .next (((s.dropLink 1).uncause 541).finish who 0x0C03 0 0) :=
    congrArg Host.Outcome.next (State.doAct_ok _ hs.1 rfl (s.permits_owner0 hc) (by simp [hpair]))
  have hwrites : Writes [Attr.mate_link_state.id, Attr.mate_copy_state.id, Attr.mate_sleep_state.id] s ((s.dropLink 1).uncause 541) :=
    Writes.refl.dropLink.uncause
  obtain ⟨htrain, hcopy, -⟩ := State.dropLink_facts (s := s) (k := 1)
  refine ⟨_, hexec, hwrites.answered hs, ?_, ?_, (Evolves.of_next Evolves.execMateLinkReset_evolves hexec).same .counter (by decide)⟩
  · rw [State.finish_attr_eq, State.attr_of_attrs (State.uncause_attrs ..), htrain]
  · rw [State.finish_attr_eq, State.attr_of_attrs (State.uncause_attrs ..), hcopy]

/-- Settles O56: each row writes the claim or the role that its rule names, and the occurrences that it reports leave them alone. -/
theorem mateRoles : Obligations.MateRoles := by
  unfold Obligations.MateRoles
  exact ⟨fun s => exec_roleClaimTimeout, fun s => exec_roleActRaise, fun s => exec_chgAckRise, fun s => exec_aliveLost_standby, fun s => exec_release,
    fun s => exec_mateAlive_active, fun s who => exec_mateChangeover, fun s w received => exec_changeoverReceipt,
    fun s k instant => exec_snapshotAdoption, fun s peer => exec_mateLinkTrained, fun s => exec_mateLinkDown, fun s who => exec_mateLinkReset⟩

end Sys2Proof.Machine
end

section
/-! The registers of a client's page and of the owner's page, and the time-read latch (R65, R66, R313 to R319, R331). -/

set_option Elab.async false

namespace Sys2Proof.Machine

variable {s t : State}

theorem State.setRing_sameBut (s : State) (c : Nat) (r : Ring) : s.sameBut (s.setRing c r) [.host] := (Evolves.setRing .refl).same

theorem State.ring_of_rings (h : t.host.rings = s.host.rings) (c : Nat) : t.ring c = s.ring c := by rw [State.ring, State.ring, h]

theorem State.raise_ring {ev d c : Nat} {b : Bool} {x : List ScopeItem} : (s.raise ev b d x).ring c = s.ring c :=
  State.ring_of_rings (State.raise_rings s ev b d x) c

/-! ### The registers of a client's page -/

/-- An index at or beyond its ring's size sets INDEX_ERROR and latches 520 (R314, R322). -/
def State.indexRefused (s : State) (c : Nat) : State := (s.setRing c { s.ring c with indexError := true }).raise 520 false c

theorem State.indexRefused_facts (s : State) (c : Nat) : (s.indexRefused c).ring c = { s.ring c with indexError := true } ∧
    ((s.indexRefused c).latch 520).latched = true ∧ (s.indexRefused c).counter = s.counter :=
  ⟨State.raise_ring.trans (State.ring_setRing ..), State.raise_latched, State.raise_counter ..⟩

/-- What a write of an index does once it is taken. -/
theorem State.setRing_facts (s : State) (c : Nat) (r : Ring) :
    (s.setRing c r).ring c = r ∧ (∀ d, d ≠ c → (s.setRing c r).ring d = s.ring d) ∧ s.sameBut (s.setRing c r) [.host] :=
  ⟨State.ring_setRing .., fun _ hd => State.ring_setRing_other s _ hd, s.setRing_sameBut c r⟩

theorem exec_cmdPiWrite {c : Fin 512} {v : Nat} (hup : s.hostUp = true) :
    (v < (s.ring c.val).cmdSize → exec (.cmdPiWrite c v) s =
      .next (s.setRing c.val { s.ring c.val with cmdPi := v % 2 ^ 32, rung := (s.ring c.val).ringUp s.counter (v % 2 ^ 32) })) ∧
    ((s.ring c.val).cmdSize ≤ v → exec (.cmdPiWrite c v) s = .next (s.indexRefused c.val)) :=
  ⟨fun h => congrArg Host.Outcome.next ((if_pos hup).trans (if_neg (by simpa using h))),
   fun h => congrArg Host.Outcome.next ((if_pos hup).trans (if_pos (by simpa using h)))⟩

theorem exec_cplCiWrite {c : Fin 512} {v : Nat} (hup : s.hostUp = true) :
    (v < (s.ring c.val).cplSize → exec (.cplCiWrite c v) s = .next (s.setRing c.val { s.ring c.val with cplCi := v % 2 ^ 32 })) ∧
    ((s.ring c.val).cplSize ≤ v → exec (.cplCiWrite c v) s = .next (s.indexRefused c.val)) :=
  ⟨fun h => congrArg Host.Outcome.next ((if_pos hup).trans (if_neg (by simpa using h))),
   fun h => congrArg Host.Outcome.next ((if_pos hup).trans (if_pos (by simpa using h)))⟩

theorem exec_evtCiWrite {c : Fin 512} {v : Nat} (hup : s.hostUp = true) :
    (v < evtSize → exec (.evtCiWrite c v) s = .next (s.setRing c.val { s.ring c.val with evtCi := v % 2 ^ 32 })) ∧
    (evtSize ≤ v → exec (.evtCiWrite c v) s = .next (s.indexRefused c.val)) :=
  ⟨fun h => congrArg Host.Outcome.next ((if_pos hup).trans (if_neg (by simpa using h))),
   fun h => congrArg Host.Outcome.next ((if_pos hup).trans (if_pos (by simpa using h)))⟩

/-- The rings of a client as an accepted RING_CFG write enables them (R314, R319). -/
def Ring.enable (r : Ring) (cfg : Nat) : Ring :=
  { r with
    indexError := false, dmaFault := false, cfgError := false, denied := false, cfg := cfg % 256 + 2 ^ 31, cmdPi := 0, cmdCi := 0
    cplCi := 0, evtCi := 0, cplPi := 0, evtPi := 0, cplPhase := true, evtPhase := true, active := true, dead := false
    limitHeld := false, poolHeld := false, halted := false, rung := [], fullSince := none, fullTold := false }

theorem exec_ringEnable {c : Fin 512} {cfg : Nat} (hup : s.hostUp = true) (hidle : (s.ring c.val).active = false)
    (hrun : s.boot.phase = .running) (hallowed : s.allowed c.val = true) (hcfg : (s.ring c.val).cfgOk cfg = true) :
    exec (.ringEnable c cfg) s = .next (s.setRing c.val ((s.ring c.val).enable cfg)) :=
  congrArg Host.Outcome.next ((if_pos hup).trans ((if_neg (by simp [hidle])).trans ((if_neg (by simp [hallowed, hrun])).trans
    (if_neg (by simpa [Ring.cfgOk] using hcfg)))))

theorem exec_ringEnable_denied {c : Fin 512} {cfg : Nat} (hup : s.hostUp = true) (hidle : (s.ring c.val).active = false)
    (hallowed : s.allowed c.val = false) :
    exec (.ringEnable c cfg) s = .next ((s.setRing c.val { s.ring c.val with
      indexError := false, dmaFault := false, cfgError := false, denied := true, cfg := cfg % 256 + 2 ^ 31 }).raise 512 false c.val) :=
  congrArg Host.Outcome.next ((if_pos hup).trans ((if_neg (by simp [hidle])).trans (if_pos (by simp [hallowed]))))

theorem exec_ringDisable {c : Fin 512} {cfg : Nat} (hup : s.hostUp = true) :
    exec (.ringDisable c cfg) s = .next (s.setRing c.val
      { s.ring c.val with cfg := if (s.ring c.val).active then (s.ring c.val).cfg % 2 ^ 31 else cfg % 256 }) := by
  refine congrArg Host.Outcome.next ((if_pos hup).trans ?_)
  cases h : (s.ring c.val).active with
  | true => exact (if_pos h).trans (by rw [State.disableRing, if_pos rfl])
  | false => exact (if_neg (by simp [h])).trans (by rw [if_neg (by decide)])

/-- Neither configuration of a disabled ring has ENABLE set. -/
theorem Ring.enabled_of_lt {r : Ring} (h : r.cfg < 2 ^ 31) : r.enabled = false := by
  rw [Ring.enabled, bitOf, Nat.div_eq_of_lt h]
  rfl

theorem exec_ringDrained {c : Fin 512} (hactive : (s.ring c.val).active = true) (hoff : (s.ring c.val).enabled = false)
    (htags : s.tagsOut c.val = 0) : exec (.ringDrained c) s = .next (s.deactivate c.val) :=
  congrArg Host.Outcome.next (if_pos (by simp [hactive, hoff, htags]))

theorem State.deactivate_unsubscribed (s : State) (c ev : Nat) : (s.deactivate c).subscribed c ev = false := by
  simp [State.subscribed, State.deactivate, tblGet, bitOf]

/-- Settles O46: each write is its row's one setting of the client's ring, and a refused index sets INDEX_ERROR instead. -/
theorem ringRegisters : Obligations.RingRegisters := by
  refine ⟨fun s c v hup => ⟨fun h => ⟨_, (exec_cmdPiWrite hup).1 h, s.setRing_facts ..⟩, fun h => ⟨_, (exec_cmdPiWrite hup).2 h, s.indexRefused_facts _⟩⟩,
    fun s c v hup => ⟨fun h => ⟨_, (exec_cplCiWrite hup).1 h, s.setRing_facts ..⟩, fun h => ⟨_, (exec_cplCiWrite hup).2 h, s.indexRefused_facts _⟩⟩,
    fun s c v hup => ⟨fun h => ⟨_, (exec_evtCiWrite hup).1 h, s.setRing_facts ..⟩, fun h => ⟨_, (exec_evtCiWrite hup).2 h, s.indexRefused_facts _⟩⟩,
    fun s c cfg hup hidle hrun => ⟨fun ha hc => ?_, fun ha => ?_⟩, fun s c cfg hup => ?_, fun s c ha he ht => ?_, fun s c v hup => ?_,
    fun s c hup => ?_⟩
  · obtain ⟨hsame, -, hframe⟩ := s.setRing_facts c.val ((s.ring c.val).enable cfg)
    exact ⟨_, exec_ringEnable hup hidle hrun ha hc, hsame, hframe⟩
  · refine ⟨_, exec_ringEnable_denied hup hidle ha, ?_, ?_, State.raise_latched, State.raise_counter ..⟩
    · rw [State.raise_ring, State.ring_setRing]
    · rw [State.raise_ring, State.ring_setRing]
      exact hidle
  · refine ⟨_, exec_ringDisable hup, State.ring_setRing .., ?_, s.setRing_sameBut _ _⟩
    rw [State.ring_setRing]
    apply Ring.enabled_of_lt
    show (if (s.ring c.val).active = true then (s.ring c.val).cfg % 2 ^ 31 else cfg % 256) < 2 ^ 31
    split
    · exact Nat.mod_lt _ (by decide)
    · exact (Nat.mod_lt _ (by decide)).trans (by decide)
  · exact ⟨_, exec_ringDrained ha he ht, State.ring_setRing .., s.deactivate_unsubscribed c.val, (Evolves.deactivate .refl).same⟩
  · exact ⟨_, congrArg Host.Outcome.next (if_pos hup), State.ring_setRing .., s.setRing_sameBut _ _⟩
  · exact ⟨_, congrArg Host.Outcome.next (if_pos hup), rfl, State.ring_setRing .., (Evolves.refl.setRing.emit).same⟩

/-! ### Bits of a register -/

/-- Clearing a bit of a W1C register leaves it 0. -/
theorem bitOf_w1c_same (old v : Nat) : bitOf (w1c old (2 ^ v)) v = false := by
  rw [w1c, Nat.and_two_pow]
  cases hbit : old.testBit v with
  | false => simpa [bitOf_eq_testBit] using hbit
  | true =>
    have hodd : old / 2 ^ v % 2 = 1 := by simpa [← bitOf_eq_testBit, bitOf] using hbit
    have hdiv : (old - true.toNat * 2 ^ v) / 2 ^ v = old / 2 ^ v - 1 := by
      rw [Bool.toNat_true, Nat.one_mul]
      simpa using Nat.sub_mul_div old (2 ^ v) 1
    rw [bitOf, hdiv]
    simp
    omega

theorem bitOf_or_two_pow (m v k : Nat) : bitOf (m ||| 2 ^ v) k = (bitOf m k || decide (v = k)) := by
  simp [bitOf_eq_testBit, Nat.testBit_or, Nat.testBit_two_pow]

/-! ### The owner's page -/

theorem exec_intStatusWrite {c : Fin 512} {v : Nat} (hup : s.hostUp = true) (hc : c.val = 0) :
    exec (.intStatusWrite c v) s = .next { s with host := { s.host with intW1c := w1c s.host.intW1c (v % 8) } } :=
  congrArg Host.Outcome.next (if_pos (by simp [hup, hc]))

/-- Whatever lack of a feed had frozen ends (R316). -/
def State.fed (s : State) : State := ({ s with faults := { s.faults with hostMissed := false } }).uncause 525

theorem State.uncause_hostMissed {ev : Nat} : (s.uncause ev).faults.hostMissed = s.faults.hostMissed := by
  unfold State.uncause
  split <;> rfl

theorem State.fed_facts (s : State) : s.fed.faults.hostMissed = false ∧ (s.fed.latch 525).cause = false :=
  ⟨State.uncause_hostMissed, State.uncause_cause ..⟩

theorem exec_aliveFeedWrite {c : Fin 512} (hup : s.hostUp = true) (hc : c.val = 0) :
    exec (.aliveFeedWrite c) s = .next ({ s with host := { s.host with fedAt := s.counter } } : State).fed :=
  congrArg Host.Outcome.next (if_pos (by simp [hup, hc]))

theorem exec_twBaseWrite_low {c : Fin 512} {v : Nat} (hup : s.hostUp = true) (hc : c.val = 0) :
    exec (.twBaseWrite c false v) s = .next (
      if s.host.twBase / 2 ^ 32 * 2 ^ 32 + v / 2 ^ 26 % 64 * 2 ^ 26 < tmSize then
        { s with host := { s.host with twBase := s.host.twBase / 2 ^ 32 * 2 ^ 32 + v / 2 ^ 26 % 64 * 2 ^ 26 } }
      else s) :=
  congrArg Host.Outcome.next (if_pos (by simp [hup, hc]))

theorem ownerPage {s : State} {c : Fin 512} {v : Nat} (hup : s.hostUp = true) (hc : c.val = 0) :
    (∃ t, exec (.intStatusWrite c v) s = .next t ∧ t.host = { s.host with intW1c := s.host.intW1c - (s.host.intW1c &&& (v % 8)) } ∧
      s.sameBut t [.host]) ∧
    (∃ t, exec (.aliveFeedWrite c) s = .next t ∧ t.faults.hostMissed = false ∧ (t.latch 525).cause = false ∧
      t.host = { s.host with fedAt := s.counter } ∧ s.sameBut t [.faults, .host]) ∧
    (∃ t, exec (.twBaseWrite c false v) s = .next t ∧
      t.host.twBase = (if s.host.twBase / 2 ^ 32 * 2 ^ 32 + v / 2 ^ 26 % 64 * 2 ^ 26 < tmSize then
        s.host.twBase / 2 ^ 32 * 2 ^ 32 + v / 2 ^ 26 % 64 * 2 ^ 26 else s.host.twBase) ∧ s.sameBut t [.host]) := by
  refine ⟨⟨_, exec_intStatusWrite hup hc, rfl, (Evolves.withHost .refl).same⟩, ?_, ?_⟩
  · have hexec := exec_aliveFeedWrite hup hc
    obtain ⟨hmissed, hcause⟩ := State.fed_facts { s with host := { s.host with fedAt := s.counter } }
    exact ⟨_, hexec, hmissed, hcause, State.uncause_host .., Evolves.frame Evolves.execAliveFeedWrite_evolves hexec⟩
  · have hexec := exec_twBaseWrite_low (v := v) hup hc
    refine ⟨_, hexec, ?_, Evolves.frame Evolves.execTwBaseWrite_evolves hexec⟩
    split <;> rfl

/-! ### The time-read latch -/

/-- What a capture without CNT_ONLY leaves in its block, by the rights of its client (R65, R66). -/
theorem State.capture_facts {c v : Nat} (honly : bitOf v 9 = false) :
    (tblGet (s.capture c c v).host.latchBlocks {} c).counter = s.counter ∧
    (c = 0 ∨ s.attrN Attr.domain_owner_client (v % 512) = c → s.created (v % 512) = true →
      (tblGet (s.capture c c v).host.latchBlocks {} c).sec = (secondsOf (s.domNow (v % 512)) % 2 ^ 64).toNat ∧
      (tblGet (s.capture c c v).host.latchBlocks {} c).nsec = (s.domNow (v % 512) % secondUnits / 65536).toNat ∧
      (tblGet (s.capture c c v).host.latchBlocks {} c).frac = (s.domNow (v % 512) % 65536).toNat) ∧
    (c ≠ 0 → ¬ (s.created (v % 512) = true ∧ s.attrN Attr.domain_owner_client (v % 512) = c) →
      tblGet (s.capture c c v).host.latchBlocks {} c = { status := 3 + v % 512 * 65536, counter := s.counter }) ∧
    (∀ d, d ≠ c → tblGet (s.capture c c v).host.latchBlocks {} d = tblGet s.host.latchBlocks {} d) := by
  simp only [State.capture, tblGet, tblFind_put_same, Option.getD_some]
  refine ⟨trivial, fun hright hcreated => ?_, fun hc hright => ?_, fun d hd => by rw [tblFind_put_other _ _ hd]⟩
  · have hdenied : (c != 0 && !(s.created (v % 512) && s.attrN Attr.domain_owner_client (v % 512) == c)) = false := by
      rcases hright with h | h
      · simp [h]
      · simp [h, hcreated]
    simp only [hdenied]
    simp only [hcreated, honly]
    exact ⟨rfl, rfl, rfl⟩
  · have hdenied : (c != 0 && !(s.created (v % 512) && s.attrN Attr.domain_owner_client (v % 512) == c)) = true := by
      simp only [Bool.and_eq_true, bne_iff_ne, Bool.not_eq_true', Bool.and_eq_false_iff, beq_eq_false_iff_ne]
      refine ⟨hc, ?_⟩
      by_cases h : s.created (v % 512) = true
      · exact .inr fun ho => hright ⟨h, ho⟩
      · exact .inl (by simpa using h)
    simp only [hdenied, honly]
    simp [boolNat, secondsOf]

/-! ### The MSI-X table -/

theorem exec_msixUnmask {v : Fin 64} (hup : s.hostUp = true) :
    ∃ t, exec (.msixUnmask v) s = .next t ∧ bitOf t.host.msixMask v.val = false ∧ bitOf t.host.msixPend v.val = false ∧
      t.out = (if bitOf s.host.msixPend v.val then s.msixMessage v.val :: s.out else s.out) ∧ s.sameBut t [.host, .out] := by
  let u : State := { s with host := { s.host with msixMask := w1c s.host.msixMask (2 ^ v.val), msixPend := w1c s.host.msixPend (2 ^ v.val) } }
  have hexec : exec (.msixUnmask v) s = .next (if bitOf s.host.msixPend v.val then u.emit (u.msixMessage v.val) else u) :=
    congrArg Host.Outcome.next (if_pos hup)
  refine ⟨_, hexec, ?_, ?_, ?_, Evolves.frame Evolves.execMsixUnmask_evolves hexec⟩
  · split <;> exact bitOf_w1c_same ..
  · split <;> exact bitOf_w1c_same ..
  · split <;> rfl

/-- What a write of a word of the MSI-X table changes (R317). -/
theorem State.writeMsix_facts {k m v : Nat} (hm : m < 4) :
    (m < 3 → (s.writeMsix k m v).msixWord k m = (if m = 0 then v % 2 ^ 32 / 4 * 4 else v % 2 ^ 32) ∧
      (s.writeMsix k m v).host.msixMask = s.host.msixMask) ∧
    (m = 3 → bitOf (s.writeMsix k m v).host.msixMask k = (bitOf s.host.msixMask k || bitOf v 0)) ∧
    (∀ k' m', k' < 64 → m' < 4 → ¬ (k' = k ∧ m' = m) → (s.writeMsix k m v).msixWord k' m' = s.msixWord k' m') := by
  by_cases h3 : m = 3
  · subst h3
    rw [State.writeMsix, if_pos rfl]
    refine ⟨fun h => absurd h (by decide), fun _ => ?_, fun k' m' hk' hm' hne => ?_⟩
    · split
      case isTrue h => simp [bitOf_or_two_pow, show bitOf v 0 = true by simp [bitOf, h]]
      case isFalse h => simp [bitOf, h]
    · split
      case isTrue h =>
        have hmask : ¬ m' = 3 ∨ k ≠ k' := by omega
        rcases hmask with hm3 | hkk
        · simp [State.msixWord, hm3]
        · simp [State.msixWord, bitOf_or_two_pow, hkk]
      case isFalse h => rfl
  · rw [State.writeMsix, if_neg h3]
    refine ⟨fun h => ⟨?_, rfl⟩, fun h => absurd h h3, fun k' m' hk' hm' hne => ?_⟩
    · simp [State.msixWord, h3]
    · simp only [State.msixWord]
      split
      · rfl
      · exact tblGet_set_other _ _ _ _ (by omega)

/-! ### The plain registers -/

theorem exec_registerWrite_bar0 {c o v : Nat} (hup : s.hostUp = true) (hc : c < 512) (ho : o < 0x1000) (h4 : o % 4 = 0) :
    exec (.registerWrite false (c * 0x1000 + o) v true) s = .next (
      if c = 0 ∧ o = 0x804 then { s with host := { s.host with intMask := v % 32 ||| 8 } }
      else if c = 0 ∧ o = 0x808 then s.writeAliveCfg v
      else s.setRing c ((s.ring c).writeBase o v)) := by
  have hpage : (c * 0x1000 + o) / 0x1000 = c := by omega
  have hoff : (c * 0x1000 + o) % 0x1000 = o := by omega
  have hup' : (s.hostUp && true && (c * 0x1000 + o) % 4 == 0 && decide ((c * 0x1000 + o) < if false then 0x10000 else 0x200000)) = true := by
    have : (c * 0x1000 + o) % 4 = 0 := by omega
    have : c * 0x1000 + o < 0x200000 := by omega
    simp [*]
  refine congrArg Host.Outcome.next ((if_pos hup').trans ((if_neg (by decide)).trans ?_))
  rw [hpage, hoff]

theorem exec_registerWrite_msix {k m v : Nat} (hup : s.hostUp = true) (hk : k < 64) (hm : m < 4) :
    exec (.registerWrite true (0xE000 + 16 * k + 4 * m) v true) s = .next (s.writeMsix k m v) := by
  have hvector : (0xE000 + 16 * k + 4 * m) / 16 % 64 = k := by omega
  have hword : (0xE000 + 16 * k + 4 * m) / 4 % 4 = m := by omega
  have hup' : (s.hostUp && true && (0xE000 + 16 * k + 4 * m) % 4 == 0 &&
      decide ((0xE000 + 16 * k + 4 * m) < if true then 0x10000 else 0x200000)) = true := by
    have : (0xE000 + 16 * k + 4 * m) % 4 = 0 := by omega
    have : 0xE000 + 16 * k + 4 * m < 0x10000 := by omega
    simp [*]
  refine congrArg Host.Outcome.next ((if_pos hup').trans ((if_pos rfl).trans ((if_pos (by omega)).trans ?_)))
  rw [hvector, hword]

/-- What a write of ALIVE_CFG leaves (R315, R316). -/
theorem State.writeAliveCfg_facts (s : State) (v : Nat) : (s.writeAliveCfg v).host.aliveCfg = v / 256 % 256 * 256 + v % 2 ∧
    (bitOf v 0 = true → (s.writeAliveCfg v).faults = s.faults ∧
      (s.writeAliveCfg v).host.fedAt = (if bitOf s.host.aliveCfg 0 then s.host.fedAt else s.counter)) ∧
    (bitOf v 0 = false → (s.writeAliveCfg v).faults.hostMissed = false ∧ ((s.writeAliveCfg v).latch 525).cause = false) := by
  cases hv : bitOf v 0 with
  | true =>
    simp only [State.writeAliveCfg, hv, if_true]
    refine ⟨trivial, fun _ => ⟨trivial, ?_⟩, fun h => absurd h (by decide)⟩
    cases bitOf s.host.aliveCfg 0 <;> rfl
  | false =>
    let t : State := { s with host := { s.host with aliveCfg := v / 256 % 256 * 256 + v % 2, fedAt := s.host.fedAt } }
    have heq : s.writeAliveCfg v = t.fed := by simp [State.writeAliveCfg, hv, State.fed, t]
    rw [heq]
    exact ⟨congrArg (·.aliveCfg) (State.uncause_host ..), fun h => absurd h (by decide), fun _ => t.fed_facts⟩

/-- Settles O47, register by register; the offset of a plain write names its page and its register. -/
theorem ownerRegisters : Obligations.OwnerRegisters := by
  refine ⟨fun s c v hup hc => ownerPage hup hc, fun s c v hup hcnt => ?_, fun s v hup => exec_msixUnmask hup, fun s v hup => ⟨?_, ?_⟩,
    fun s c o v hup hc ho h4 => ?_, fun s k m v hup hk hm => ?_, fun s bar4 o v => ?_⟩
  · obtain ⟨hcounter, howner, hdenied, hother⟩ := s.capture_facts (c := c.val) hcnt
    exact ⟨_, congrArg Host.Outcome.next (if_pos hup), hcounter, howner, hdenied, hother, (Evolves.capture .refl).same⟩
  · exact ⟨_, (exec_registerWrite_bar0 (c := 0) (o := 0x804) hup (by decide) (by decide) (by decide)).trans
      (congrArg Host.Outcome.next (if_pos ⟨rfl, rfl⟩)), rfl, (Evolves.withHost .refl).same⟩
  · obtain ⟨hcfg, hon, hoff⟩ := s.writeAliveCfg_facts v
    exact ⟨_, (exec_registerWrite_bar0 (c := 0) (o := 0x808) hup (by decide) (by decide) (by decide)).trans
      (congrArg Host.Outcome.next ((if_neg (by decide)).trans (if_pos ⟨rfl, rfl⟩))), hcfg, hon, hoff, (Evolves.writeAliveCfg .refl).same⟩
  · obtain ⟨hsame, hother, hframe⟩ := s.setRing_facts c ((s.ring c).writeBase o v)
    exact ⟨_, (exec_registerWrite_bar0 hup hc (by omega) h4).trans
      (congrArg Host.Outcome.next ((if_neg (by omega)).trans (if_neg (by omega)))), hsame, hother, hframe⟩
  · obtain ⟨hword, hmask, hother⟩ := s.writeMsix_facts (k := k) (v := v) hm
    exact ⟨_, exec_registerWrite_msix hup hk hm, hword, hmask, hother, (Evolves.writeMsix .refl).same⟩
  · exact ⟨s, congrArg Host.Outcome.next (if_neg (by simp)), rfl⟩

end Sys2Proof.Machine
end

section
/-! What the fault collector finds of itself (R316, R423 to R426, R436, R446, R518). -/

set_option Elab.async false

namespace Sys2Proof.Machine

variable {s t : State}

/-! ### What no occurrence of a source changes in the collector -/

/-- The part of the fault collector that an occurrence and the book-keeping of a completion leave alone: all but the latches, the
waiting records, the marks of EV sources limited to once a second, and the pending injections. -/
def FaultUnit.standing (f : FaultUnit) : Bool × Bool × Bool × Option (Nat × Nat) × Nat × Tbl Nat :=
  (f.feedMissed, f.hostMissed, f.alivePin, f.causeHeld, f.holaxFed, f.subs)

@[simp] theorem State.occur_standing (ev : Nat) (c : Bool) (d : Nat) (x : List ScopeItem) :
    (s.occur ev c d x).faults.standing = s.faults.standing := by
  unfold State.occur
  split <;> rfl

@[simp] theorem State.occurOnce_standing (ev d : Nat) : (s.occurOnce ev d).faults.standing = s.faults.standing := by
  unfold State.occurOnce
  split
  · rw [State.occur_standing]
    rfl
  · rfl

@[simp] theorem State.findCheck_standing (l : Nat) : (s.findCheck l).faults.standing = s.faults.standing := by
  unfold State.findCheck
  simp only
  split
  · rfl
  · split <;> simp [State.add]

@[simp] theorem State.tmWrite_standing (a : Nat) (bs : List Byte) : (s.tmWrite a bs).faults.standing = s.faults.standing := by
  unfold State.tmWrite
  simp only
  split
  · rfl
  · split <;> simp

@[simp] theorem State.noteWear_standing (p n : Nat) : (s.noteWear p n).faults.standing = s.faults.standing := by
  unfold State.noteWear
  simp only
  split
  · split <;> simp
  · rfl

theorem State.injected_standing (c g : Nat) : (s.injected c g).faults.standing = s.faults.standing := by
  unfold State.injected State.takeInjection
  split
  · next h =>
    split at h
    · split at h <;> simp_all
      subst h
      rfl
    · simp at h
  · rfl

@[simp] theorem State.storePage_standing (p : Nat) (b : Bool) : (s.storePage p b).faults.standing = s.faults.standing := by
  simp [State.storePage, State.programPage, State.injected_standing]

theorem State.storeDown_standing (n : Nat) : ∀ s : State, (State.storeDown n s).faults.standing = s.faults.standing := by
  induction n with
  | zero => intro s; rfl
  | succ n ih =>
    intro s
    unfold State.storeDown
    split
    · rfl
    · split
      · rw [ih, State.storePage_standing]
      · rfl

@[simp] theorem State.enforceLimit_standing : s.enforceLimit.faults.standing = s.faults.standing := by
  unfold State.enforceLimit
  simp only
  split
  · rfl
  · split
    · rfl
    · rw [State.occurOnce_standing, State.storeDown_standing]
      simp

@[simp] theorem State.audit_standing (w : Issuer) (op st i a : Nat) : (s.audit w op st i a).faults.standing = s.faults.standing := by
  simp [State.audit]

@[simp] theorem State.finish_standing (w : Issuer) (op st i : Nat) (r : List Byte) (l : Option Nat) (a : Nat) :
    (s.finish w op st i r l a).faults.standing = s.faults.standing := by
  unfold State.finish
  simp only [State.complete_faults]
  split <;> simp

@[simp] theorem State.dropSends_standing (l : List Issuer) : (s.dropSends l).faults.standing = s.faults.standing := by
  induction l generalizing s with
  | nil => rfl
  | cons w ws ih => unfold State.dropSends; rw [ih]; simp

@[simp] theorem State.failSends_standing (l : List Issuer) : (s.failSends l).faults.standing = s.faults.standing := by
  induction l generalizing s with
  | nil => rfl
  | cons w ws ih => unfold State.failSends; rw [ih]; simp

@[simp] theorem State.tellDesc_standing (f : TxFrame) (st : DescState) : (s.tellDesc f st).faults.standing = s.faults.standing := by
  unfold State.tellDesc
  split <;> simp

theorem State.tellAll_standing (l : List TxFrame) (st : DescState) :
    (l.foldl (fun (x : State) f => x.tellDesc f st) s).faults.standing = s.faults.standing := by
  induction l generalizing s with
  | nil => rfl
  | cons f fs ih => rw [List.foldl_cons, ih, State.tellDesc_standing]

@[simp] theorem State.dropFrames_standing (p : Nat) : (s.dropFrames p).faults.standing = s.faults.standing := by
  simp [State.dropFrames, State.tellAll_standing]

@[simp] theorem State.raise_standing (ev : Nat) (c : Bool) (d : Nat) (x : List ScopeItem) :
    (s.raise ev c d x).faults.standing = s.faults.standing := by
  have hidle : ∀ u t : State, (State.idlePorts t u).faults.standing = u.faults.standing := by
    intro u t
    refine State.forEach_keeps (fun u : State => u.faults.standing) _ (fun u n => ?_) _ _
    split
    · exact State.dropFrames_standing n
    · rfl
  unfold State.raise
  simp only
  split
  · rw [hidle, State.countSafe_faults, State.occur_standing]
  · exact State.occur_standing ..

@[simp] theorem State.uncause_standing (ev : Nat) : (s.uncause ev).faults.standing = s.faults.standing := by
  unfold State.uncause
  split <;> rfl

theorem State.feedMissed_of (h : t.faults.standing = s.faults.standing) : t.faults.feedMissed = s.faults.feedMissed := congrArg (·.1) h
theorem State.hostMissed_of (h : t.faults.standing = s.faults.standing) : t.faults.hostMissed = s.faults.hostMissed := congrArg (·.2.1) h
theorem State.alivePin_of (h : t.faults.standing = s.faults.standing) : t.faults.alivePin = s.faults.alivePin := congrArg (·.2.2.1) h
theorem State.causeHeld_of (h : t.faults.standing = s.faults.standing) : t.faults.causeHeld = s.faults.causeHeld := congrArg (·.2.2.2.1) h

/-! ### The scrubber and the count windows -/

theorem State.raiseOnce_latched {ev d : Nat} {c : Bool} (hdue : s.onceDue ev = true) (hd : Ev.defined ev = true := by decide)
    (hb : ev ∉ bookSources := by decide) (hn : ev ∉ [321, 322, 327, 328] := by decide) : ((s.raiseOnce ev d c).latch ev).latched = true := by
  rw [State.raiseOnce, if_pos hdue]
  exact State.raise_latched hd hb hn

/-- What the scrubber does with the bits that it finds inverted in a word (R423, R443). -/
def State.scrubbed (u : State) (b : Nat) : State :=
  match b with
  | 0 => u
  | 1 => u.raiseOnce 484
  | _ => u.raise 485

theorem exec_sramScrub {u : State} {array : Fin 20} {bits : Fin 3} {b : Nat} (hrun : s.boot.phase = .running)
    (htaken : (s.takeInjection 1 array.val).getD (bits.val, s) = (b, u)) : exec (.sramScrub array bits) s = .next (u.scrubbed b) := by
  refine congrArg Host.Outcome.next ((if_pos (by simp [hrun])).trans ?_)
  simp only [htaken]
  rfl

/-- Taking an injection changes nothing that decides whether a source is due. -/
theorem State.takeInjection_keeps {u : State} {c g k b : Nat} (h : (s.takeInjection c g).getD (k, s) = (b, u)) :
    u.counter = s.counter ∧ u.faults.onceAt = s.faults.onceAt := by
  unfold State.takeInjection at h
  split at h
  · split at h
    · cases h
      exact ⟨rfl, rfl⟩
    · cases h
      exact ⟨rfl, rfl⟩
  · cases h
    exact ⟨rfl, rfl⟩

theorem State.scrubbed_facts {u : State} {b : Nat} :
    (b = 0 → u.scrubbed b = u) ∧ (b = 1 → u.onceDue 484 = true → ((u.scrubbed b).latch 484).latched = true) ∧
      (2 ≤ b → ((u.scrubbed b).latch 485).latched = true) ∧ (u.scrubbed b).counter = u.counter := by
  match b with
  | 0 => exact ⟨fun _ => rfl, fun h => absurd h (by decide), fun h => absurd h (by decide), rfl⟩
  | 1 => exact ⟨fun h => absurd h (by decide), fun _ hdue => State.raiseOnce_latched hdue, fun h => absurd h (by decide), State.raiseOnce_counter ..⟩
  | n + 2 =>
    exact ⟨fun h => absurd h (Nat.succ_ne_zero _), fun h => absurd h (by omega), fun _ => State.raise_latched, State.raise_counter ..⟩

theorem exec_countWindowClose {source : Fin 640} {opened k : Nat} (hw : (s.latch source.val).window = some (opened, k)) :
    exec (.countWindowClose source) s =
      .next ((s.advance (opened + s.attrN Attr.fault_count_w source.val * 1350000)).setLatch source.val
        { s.latch source.val with window := none }) := by
  simp only [exec, execCountWindowClose, hw]
  rfl

/-! ### Missed feeds -/

theorem exec_aliveFeedMissed (hrun : s.boot.phase = .running) (hfed : s.faults.feedMissed = false) :
    exec .aliveFeedMissed s = .next (({ s.advance (s.faults.holaxFed + 6750000) with
      faults := { s.faults with feedMissed := true } } : State).raise 483 true) :=
  congrArg Host.Outcome.next (if_pos (by simp [hrun, hfed]))

theorem exec_hostFeedTimeout (hrun : s.boot.phase = .running) (hen : bitOf s.host.aliveCfg 0 = true) (hfed : s.faults.hostMissed = false) :
    exec .hostFeedTimeout s = .next (({ s.advance (s.host.fedAt + s.hostPeriod) with
      faults := { s.faults with hostMissed := true } } : State).raise 525 true) :=
  congrArg Host.Outcome.next (if_pos (by simp [hrun, hen, hfed]))

/-! ### ALIVE -/

theorem tblFind_mem {α : Type} {t : Tbl α} {i : Nat} {x : α} (h : tblFind t i = some x) : (i, x) ∈ t := by
  induction t with
  | nil => cases h
  | cons e t ih =>
    obtain ⟨k, v⟩ := e
    rw [tblFind] at h
    split at h
    · next hk =>
      cases h
      exact hk ▸ List.mem_cons_self ..
    · exact List.mem_cons_of_mem _ (ih h)

/-- A latch that holds anything is listed. -/
theorem State.latch_mem {ev : Nat} (h : s.latch ev ≠ {}) : (ev, s.latch ev) ∈ s.faults.latches := by
  cases hf : tblFind s.faults.latches ev with
  | none => exact absurd (by simp [State.latch, tblGet, hf]) h
  | some l =>
    have hl : s.latch ev = l := by simp [State.latch, tblGet, hf]
    exact hl ▸ tblFind_mem hf

theorem State.severe_ne_nil {ev : Nat} (hl : (s.latch ev).latched = true) (hc : (s.latch ev).cls = 3) : s.severe ≠ [] := by
  have hmem : (ev, s.latch ev) ∈ s.faults.latches := State.latch_mem fun h => by rw [h] at hl; cases hl
  refine List.ne_nil_of_mem (List.mem_filterMap.mpr ⟨_, hmem, ?_⟩) (a := ev)
  simp [hl, hc]

/-- The end of a cause makes no latch SEVERE. -/
theorem State.uncause_severe {ev : Nat} (h : s.severe = []) : (s.uncause ev).severe = [] := by
  have hall : ∀ e ∈ s.faults.latches, (e.2.latched && e.2.cls == 3) = false := by
    intro e he
    have := List.filterMap_eq_nil_iff.mp h e he
    simpa using this
  unfold State.uncause
  split
  case isTrue hcause =>
    refine List.filterMap_eq_nil_iff.mpr fun e he => ?_
    have hold : e = (ev, { s.latch ev with cause := false }) ∨ e ∈ s.faults.latches := by
      change e ∈ tblSet s.faults.latches {} ev { s.latch ev with cause := false } at he
      unfold tblSet at he
      split at he
      · exact .inr (mem_drop he)
      · exact mem_put he
    rcases hold with rfl | hin
    · have hlisted := hall _ (State.latch_mem (ev := ev) fun h => by rw [h] at hcause; cases hcause)
      simpa using hlisted
    · simpa using hall e hin
  case isFalse => exact h

theorem State.feedAlive_keeps : s.feedAlive.faults.alivePin = s.faults.alivePin ∧ s.feedAlive.faults.hostMissed = s.faults.hostMissed ∧
    s.feedAlive.faults.feedMissed = false :=
  ⟨(State.alivePin_of (State.uncause_standing 483)).trans rfl, (State.hostMissed_of (State.uncause_standing 483)).trans rfl,
    State.feedMissed_of (State.uncause_standing 483)⟩

/-- ALIVE as Holax finds it at the boundary: it has fed it where it serves (R436). -/
def State.holaxFeeds (s : State) : State := if s.firmware then s.feedAlive else s

theorem State.holaxFeeds_facts (s : State) : s.holaxFeeds.faults.alivePin = s.faults.alivePin ∧ s.holaxFeeds.counter = s.counter ∧
    s.holaxFeeds.boot = s.boot ∧ (s.severe = [] → s.holaxFeeds.severe = []) ∧ (∀ ev, ev ≠ 483 → s.holaxFeeds.latch ev = s.latch ev) ∧
    s.sameBut s.holaxFeeds [.faults] := by
  have hframe : s.sameBut s.holaxFeeds [.faults] := (Evolves.ite Evolves.refl.feedAlive .refl).same
  refine ⟨?_, hframe .counter (by decide), hframe .boot (by decide), fun h => ?_, fun ev hne => ?_, hframe⟩
  · unfold State.holaxFeeds
    split
    · exact State.feedAlive_keeps.1
    · rfl
  · unfold State.holaxFeeds
    split
    · exact State.uncause_severe h
    · exact h
  · unfold State.holaxFeeds
    split
    · exact State.uncause_latch_other _ hne
    · rfl

theorem State.holaxFeeds_hostMissed (s : State) : s.holaxFeeds.faults.hostMissed = s.faults.hostMissed := by
  unfold State.holaxFeeds
  split
  · exact State.feedAlive_keeps.2.1
  · rfl

/-- ALIVE toggles where no freeze condition holds (R436). -/
theorem State.aliveState_toggling : s.aliveState = .toggling ↔ s.boot.phase = .running ∧ s.severe = [] ∧ s.faults.feedMissed = false ∧
    (s.faults.hostMissed && bitOf s.host.aliveCfg 0) = false := by
  unfold State.aliveState
  split
  case isTrue h => exact ⟨fun h' => (by cases h'), fun h' => absurd h'.1 h⟩
  case isFalse hrun =>
    split
    case isTrue h => exact ⟨fun h' => (by cases h'), fun h' => absurd h'.2.1 h⟩
    case isFalse hsevere =>
      split
      case isTrue h => exact ⟨fun h' => (by cases h'), fun h' => by simp [h'.2.2.1] at h⟩
      case isFalse hfeed =>
        split
        case isTrue h => exact ⟨fun h' => (by cases h'), fun h' => by simp [h'.2.2.2] at h⟩
        case isFalse hhost => exact ⟨fun _ => ⟨not_not.mp hrun, not_not.mp hsevere, by simpa using hfeed, by simpa using hhost⟩, fun _ => rfl⟩

theorem State.holaxFeeds_toggling (h : s.aliveState = .toggling) : s.holaxFeeds.aliveState = .toggling := by
  obtain ⟨hrun, hsevere, hfeed, hhost⟩ := State.aliveState_toggling.mp h
  obtain ⟨-, -, hboot, hsev, -, hframe⟩ := s.holaxFeeds_facts
  have hhosts : s.holaxFeeds.host = s.host := hframe .host (by decide)
  refine State.aliveState_toggling.mpr ⟨hboot ▸ hrun, hsev hsevere, ?_, ?_⟩
  · unfold State.holaxFeeds
    split
    · exact State.feedAlive_keeps.2.2
    · exact hfeed
  · rw [State.holaxFeeds_hostMissed, hhosts]
    exact hhost

theorem exec_aliveToggle : exec .aliveToggle s = .next (
    if s.holaxFeeds.aliveState = .toggling then
      { s.holaxFeeds.nextMs with faults := { s.holaxFeeds.nextMs.faults with alivePin := !s.holaxFeeds.nextMs.faults.alivePin } }
    else s.holaxFeeds) := rfl

theorem exec_aliveToggle_toggles (h : s.aliveState = .toggling) : ∃ t, exec .aliveToggle s = .next t ∧
    t.faults.alivePin = (!s.faults.alivePin) ∧ t.counter = (s.counter / 1350000 + 1) * 1350000 ∧ s.sameBut t [.counter, .faults] := by
  obtain ⟨hpin, hcounter, -⟩ := s.holaxFeeds_facts
  have hexec := exec_aliveToggle.trans (congrArg Host.Outcome.next (if_pos (State.holaxFeeds_toggling h)))
  refine ⟨_, hexec, congrArg (!·) hpin, ?_, Evolves.frame Evolves.execAliveToggle_evolves hexec⟩
  show max s.holaxFeeds.counter ((s.holaxFeeds.counter / 1350000 + 1) * 1350000) = _
  rw [hcounter]
  omega

theorem exec_aliveToggle_severe {ev : Nat} (hne : ev ≠ 483) (hl : (s.latch ev).latched = true) (hc : (s.latch ev).cls = 3) :
    ∃ t, exec .aliveToggle s = .next t ∧ t.faults.alivePin = s.faults.alivePin ∧ s.sameBut t [.faults] := by
  obtain ⟨hpin, -, -, -, hlatch, hframe⟩ := s.holaxFeeds_facts
  have hsevere : s.holaxFeeds.severe ≠ [] := State.severe_ne_nil (ev := ev) (by rw [hlatch ev hne]; exact hl) (by rw [hlatch ev hne]; exact hc)
  have hfrozen : ¬ s.holaxFeeds.aliveState = .toggling := fun h => hsevere (State.aliveState_toggling.mp h).2.1
  exact ⟨_, exec_aliveToggle.trans (congrArg Host.Outcome.next (if_neg hfrozen)), hpin, hframe⟩

/-! ### The temperature alert and an injected cause -/

theorem exec_tempAlert {reading : Int} (hon : s.boot.phase ≠ .off) (hcross : s.boot.tempAlert ≠ s.alertAfter reading) :
    ∃ t, exec (.tempAlert reading) s = .next t ∧ t.boot.tempAlert = s.alertAfter reading ∧ (t.latch 492).cause = s.alertAfter reading ∧
      (s.alertAfter reading = true → (t.latch 492).latched = true) ∧ t.counter = s.counter := by
  let u : State := { s with boot := { s.boot with tempAlert := s.alertAfter reading } }
  have hexec : exec (.tempAlert reading) s = .next (if s.alertAfter reading then u.raise 492 true else u.uncause 492) :=
    congrArg Host.Outcome.next (if_pos (by simp [hon, hcross]))
  refine ⟨_, hexec, ?_⟩
  cases hafter : s.alertAfter reading with
  | true =>
    rw [if_pos rfl]
    exact ⟨(congrArg (·.tempAlert) (State.raise_boot ..)).trans hafter, State.raise_cause, fun _ => State.raise_latched, State.raise_counter ..⟩
  | false =>
    rw [if_neg (by decide)]
    exact ⟨(congrArg (·.tempAlert) (State.uncause_boot ..)).trans hafter, State.uncause_cause .., fun h => absurd h (by decide),
      State.uncause_counter ..⟩

theorem exec_injectCauseEnd {ev ends : Nat} (hheld : s.faults.causeHeld = some (ev, ends)) :
    exec .injectCauseEnd s = .next (({ s.advance ends with faults := { s.faults with causeHeld := none } } : State).uncause ev) := by
  simp only [exec, execInjectCauseEnd, hheld]

/-- Settles O45. What an occurrence leaves alone in the collector is `FaultUnit.standing`; ALIVE turns on the SEVERE latches, of which
the end of a cause makes none. -/
theorem faultEvents : Obligations.FaultEvents := by
  refine ⟨fun s u array bits b hrun htaken => ?_, fun s source opened k hw => ?_, fun s hrun hfed => ?_, fun s hrun hen hfed => ?_,
    fun s => exec_aliveToggle_toggles, fun s ev => exec_aliveToggle_severe, fun s reading => exec_tempAlert, fun s ev ends hheld => ?_⟩
  · obtain ⟨hcounter, honce⟩ := State.takeInjection_keeps htaken
    obtain ⟨hzero, hone, htwo, hkept⟩ := u.scrubbed_facts (b := b)
    have hdue : u.onceDue 484 = s.onceDue 484 := by rw [State.onceDue, State.onceDue, honce, hcounter]
    exact ⟨_, exec_sramScrub hrun htaken, hzero, fun hb h => hone hb (hdue.trans h), htwo, hkept.trans hcounter⟩
  · have hexec := exec_countWindowClose hw
    exact ⟨_, hexec, State.latch_setLatch .., rfl, fun ev hne => State.latch_setLatch_other _ _ hne,
      Evolves.frame Evolves.execCountWindowClose_evolves hexec⟩
  · exact ⟨_, exec_aliveFeedMissed hrun hfed, State.feedMissed_of (State.raise_standing ..), State.raise_latched, State.raise_cause,
      State.raise_counter ..⟩
  · exact ⟨_, exec_hostFeedTimeout hrun hen hfed, State.hostMissed_of (State.raise_standing ..), State.raise_latched, State.raise_cause,
      State.raise_counter ..⟩
  · have hexec := exec_injectCauseEnd hheld
    exact ⟨_, hexec, State.causeHeld_of (State.uncause_standing ..), State.uncause_cause .., State.uncause_counter ..,
      Evolves.frame Evolves.execInjectCauseEnd_evolves hexec⟩

end Sys2Proof.Machine
end

section
/-! What a power failure and its end do (R490 to R492, R526, R527). -/

set_option Elab.async false

namespace Sys2Proof.Machine

variable {s t : State}

/-! ### What book-keeping changes in the store -/

/-- The part of the store that the book-keeping of a completion and an occurrence leave alone: all but the pages, the marks of what
is DIRTY, and the next transaction number. -/
def StoreUnit.engine (u : StoreUnit) : List Txn × List Txn × List (Nat × DomWords) × Nat × Nat × Nat × Nat × Option Nat :=
  (u.running, u.interrupted, u.timeWords, u.timeCounter, u.holdup, u.holdupAt, u.pfFrom, u.pfDuration)

@[simp] theorem StoreUnit.mark_engine (u : StoreUnit) (key now : Nat) : (u.mark key now).engine = u.engine := by
  unfold StoreUnit.mark
  split <;> rfl

@[simp] theorem State.put_engine (a : AttrDesc) (i e : Nat) (v : Int) : (s.put a i e v).store.engine = s.store.engine := by
  unfold State.put
  split
  · rfl
  · change (if _ then _ else _ : StoreUnit).engine = _
    split
    · exact StoreUnit.mark_engine ..
    · rfl

@[simp] theorem State.put1_engine (a : AttrDesc) (i : Nat) (v : Int) : (s.put1 a i v).store.engine = s.store.engine := State.put_engine ..
@[simp] theorem State.add_engine (a : AttrDesc) (i e n : Nat) : (s.add a i e n).store.engine = s.store.engine := State.put_engine ..
@[simp] theorem State.bump_engine (a : AttrDesc) (i : Nat) : (s.bump a i).store.engine = s.store.engine := State.add_engine ..

@[simp] theorem State.findCheck_engine (l : Nat) : (s.findCheck l).store.engine = s.store.engine := by
  unfold State.findCheck
  simp only
  split
  · rfl
  · split <;> simp

@[simp] theorem State.logRewritten_engine (f : Nat) (b : Bool) : (s.logRewritten f b).store.engine = s.store.engine := by
  unfold State.logRewritten
  split <;> simp

@[simp] theorem State.tmWrite_engine (a : Nat) (bs : List Byte) : (s.tmWrite a bs).store.engine = s.store.engine := by
  unfold State.tmWrite
  simp only
  split
  · rfl
  · split <;> simp

@[simp] theorem State.noteWear_engine (p n : Nat) : (s.noteWear p n).store.engine = s.store.engine := by
  unfold State.noteWear
  simp only
  split
  · split <;> simp
  · rfl

theorem State.programPage_engine (p txn pages : Nat) (b e : Bool) : (s.programPage p txn pages b e).store.engine = s.store.engine := by
  unfold State.programPage
  simp only [State.noteWear_engine]
  change (s.injected 3 p).store.engine = _
  rw [State.injected_store]

theorem State.storePage_engine (p : Nat) (b : Bool) : (s.storePage p b).store.engine = s.store.engine := by
  unfold State.storePage
  rw [State.put1_engine]
  exact State.programPage_engine ..

theorem State.storeDown_engine (n : Nat) : ∀ s : State, (State.storeDown n s).store.engine = s.store.engine := by
  induction n with
  | zero => intro s; rfl
  | succ n ih =>
    intro s
    unfold State.storeDown
    split
    · rfl
    · split
      · rw [ih, State.storePage_engine]
      · rfl

@[simp] theorem State.enforceLimit_engine : s.enforceLimit.store.engine = s.store.engine := by
  unfold State.enforceLimit
  simp only
  split
  · rfl
  · split
    · rfl
    · rw [State.occurOnce_store, State.storeDown_engine, State.bump_engine]

@[simp] theorem State.audit_engine (w : Issuer) (op st i a : Nat) : (s.audit w op st i a).store.engine = s.store.engine := by
  simp only [State.audit, State.tmWrite_engine]

@[simp] theorem State.finish_engine (w : Issuer) (op st i : Nat) (r : List Byte) (l : Option Nat) (a : Nat) :
    (s.finish w op st i r l a).store.engine = s.store.engine := by
  unfold State.finish
  simp only [State.complete_store]
  split <;> simp

@[simp] theorem State.dropSends_engine (l : List Issuer) : (s.dropSends l).store.engine = s.store.engine := by
  induction l generalizing s with
  | nil => rfl
  | cons w ws ih => unfold State.dropSends; rw [ih]; simp

@[simp] theorem State.failSends_engine (l : List Issuer) : (s.failSends l).store.engine = s.store.engine := by
  induction l generalizing s with
  | nil => rfl
  | cons w ws ih => unfold State.failSends; rw [ih]; simp

@[simp] theorem State.tellDesc_engine (f : TxFrame) (st : DescState) : (s.tellDesc f st).store.engine = s.store.engine := by
  unfold State.tellDesc
  split <;> simp

theorem State.tellAll_engine (l : List TxFrame) (st : DescState) :
    (l.foldl (fun (x : State) f => x.tellDesc f st) s).store.engine = s.store.engine := by
  induction l generalizing s with
  | nil => rfl
  | cons f fs ih => rw [List.foldl_cons, ih, State.tellDesc_engine]

@[simp] theorem State.dropFrames_engine (p : Nat) : (s.dropFrames p).store.engine = s.store.engine := by
  simp [State.dropFrames, State.tellAll_engine]

@[simp] theorem State.raise_engine (ev : Nat) (c : Bool) (d : Nat) (x : List ScopeItem) : (s.raise ev c d x).store.engine = s.store.engine := by
  have hcount : ∀ u t : State, (State.countSafe t u).store.engine = u.store.engine := by
    intro u t
    refine State.forEach_keeps (fun u : State => u.store.engine) _ (fun u n => ?_) _ _
    split
    · exact State.bump_engine ..
    · rfl
  have hidle : ∀ u t : State, (State.idlePorts t u).store.engine = u.store.engine := by
    intro u t
    refine State.forEach_keeps (fun u : State => u.store.engine) _ (fun u n => ?_) _ _
    split
    · exact State.dropFrames_engine n
    · rfl
  unfold State.raise
  simp only
  split
  · rw [hidle, hcount, State.occur_store]
  · rw [State.occur_store]

theorem State.running_of (h : t.store.engine = s.store.engine) : t.store.running = s.store.running := congrArg (·.1) h
theorem State.holdup_of (h : t.store.engine = s.store.engine) : t.store.holdup = s.store.holdup := congrArg (·.2.2.2.2.1) h
theorem State.holdupAt_of (h : t.store.engine = s.store.engine) : t.store.holdupAt = s.store.holdupAt := congrArg (·.2.2.2.2.2.1) h
theorem State.pfFrom_of (h : t.store.engine = s.store.engine) : t.store.pfFrom = s.store.pfFrom := congrArg (·.2.2.2.2.2.2.1) h

/-! ### The queue of transactions -/

theorem mem_insertTxn {x : Txn} : ∀ l : List Txn, x ∈ insertTxn x l
  | [] => List.mem_cons_self ..
  | y :: ys => by
    unfold insertTxn
    split
    · exact List.mem_cons_self ..
    · exact List.mem_cons_of_mem _ (mem_insertTxn ys)

/-- The transaction that a queueing adds (R487, R488). -/
def State.newTxn (s : State) (way : StoreWay) (pages : List Nat) : Txn :=
  { way := way, txn := s.store.nextTxn, pages := pages.length, left := pages }

/-- A queued transaction waits behind the one that runs and those that go before it (R488). -/
theorem State.queueTxn_running (way : StoreWay) (pages : List Nat) : (s.queueTxn way pages).store.running =
    match s.store.running with
    | x :: xs => x :: insertTxn (s.newTxn way pages) xs
    | [] => [s.newTxn way pages] := by
  cases h : s.store.running <;> simp [State.queueTxn, State.setRunning, State.newTxn, h]

theorem State.queueTxn_mem (way : StoreWay) (pages : List Nat) : s.newTxn way pages ∈ (s.queueTxn way pages).store.running := by
  rw [State.queueTxn_running]
  cases s.store.running with
  | nil => exact List.mem_cons_self ..
  | cons x xs => exact List.mem_cons_of_mem _ (mem_insertTxn xs)

/-! ### Power failure -/

/-- What the start of the power-fail store leaves (R423, R490, R526). -/
theorem State.startPowerFail_facts (s : State) :
    s.startPowerFail.boot = { s.boot with fetchStopped := true, heaters := false, supplyBack := false, restore := none } ∧
    s.startPowerFail.powerFailing = true ∧ s.startPowerFail.store.pfFrom = s.counter ∧ (s.startPowerFail.latch 493).latched = true ∧
    (s.startPowerFail.latch 493).cause = true ∧ s.startPowerFail.counter = s.counter := by
  let u : State := { s with boot := { s.boot with fetchStopped := true, heaters := false, supplyBack := false, restore := none } }
  let v : State := (u.setRunning (u.store.running.filter fun x => decide (x.way ≠ .restoreFactory))).captureTime
  let mine := (v.store.running.head?.toList ++ v.store.running.filter StoreWay.isCommit).flatMap (·.left)
  let pages := (v.dirtyPages.filter fun p => !mine.contains p) ++ timePages
  let w := v.queueTxn .powerFail pages
  let x : State := { w with store := { w.store with pfFrom := s.counter } }
  have heq : s.startPowerFail = x.raise 493 true := rfl
  have hframe : u.sameBut x [.store] := (Evolves.refl.setRunning.captureTime.queueTxn.withStore).same
  have hrunning : (x.raise 493 true).store.running = x.store.running := State.running_of (State.raise_engine ..)
  rw [heq]
  refine ⟨(State.raise_boot ..).trans (hframe .boot (by decide)), ?_, State.pfFrom_of (State.raise_engine ..), State.raise_latched,
    State.raise_cause, (State.raise_counter ..).trans (hframe .counter (by decide))⟩
  rw [State.powerFailing, hrunning, List.any_eq_true]
  exact ⟨_, State.queueTxn_mem .powerFail pages, rfl⟩

/-- The supply of a running module fails for the first time (R490): from `u`, where the failing signal has been noted. -/
def State.supplyFails (s u : State) : State :=
  if s.supplyFailed || s.boot.fetchStopped || s.boot.phase ≠ .running then u else u.startPowerFail

theorem State.supplyFails_facts {u : State} (hrest : s.sameBut u [.boot]) :
    (s.boot.phase = .running → s.supplyFailed = false → s.boot.fetchStopped = false →
      (s.supplyFails u).boot.fetchStopped = true ∧ (s.supplyFails u).boot.heaters = false ∧ (s.supplyFails u).powerFailing = true ∧
        (s.supplyFails u).store.pfFrom = s.counter ∧ (s.supplyFails u).boot.restore = none ∧ ((s.supplyFails u).latch 493).latched = true ∧
        ((s.supplyFails u).latch 493).cause = true) ∧ (s.supplyFails u).counter = s.counter ∧
    (s.supplyFails u).boot.pfLow = u.boot.pfLow ∧ (s.supplyFails u).boot.onHoldup = u.boot.onHoldup := by
  obtain ⟨hboot, hfailing, hfrom, hlatched, hcause, hcounter⟩ := u.startPowerFail_facts
  have hc : u.counter = s.counter := hrest .counter (by decide)
  by_cases h : (s.supplyFailed || s.boot.fetchStopped || decide (s.boot.phase ≠ .running)) = true
  · have heq : s.supplyFails u = u := if_pos h
    rw [heq]
    refine ⟨fun hrun hsupply hfetch => ?_, hc, rfl, rfl⟩
    simp [hrun, hsupply, hfetch] at h
  · have heq : s.supplyFails u = u.startPowerFail := if_neg h
    rw [heq, hboot]
    exact ⟨fun _ _ _ => ⟨rfl, rfl, hfailing, hfrom.trans hc, rfl, hlatched, hcause⟩, hcounter.trans hc, rfl, rfl⟩

theorem exec_pfNAsserted (hon : s.boot.phase ≠ .off) :
    exec .pfNAsserted s = .next (s.supplyFails { s with boot := { s.boot with pfLow := true, supplyBack := false } }) :=
  congrArg Host.Outcome.next (if_pos (by simp [hon]))

theorem exec_vmainBelowThreshold (hon : s.boot.phase ≠ .off) :
    exec .vmainBelowThreshold s = .next (s.supplyFails { s with boot := { s.boot with onHoldup := true, supplyBack := false } }) :=
  congrArg Host.Outcome.next (if_pos (by simp [hon]))

/-! ### The end of the power-fail store, and the return of the supply -/

/-- What the module does as it resumes (R492, R527). -/
theorem State.resumeSupply_facts (s : State) : s.resumeSupply.boot = { s.boot with fetchStopped := false, heaters := true, supplyBack := false } ∧
    (s.resumeSupply.latch 493).cause = false ∧ s.resumeSupply.store = s.store ∧ s.resumeSupply.counter = s.counter :=
  ⟨State.uncause_boot .., State.uncause_cause .., State.uncause_store .., State.uncause_counter ..⟩

/-- The stores that remain leave the supply's own bits alone. -/
theorem State.drainStore_boot {n : Nat} : (State.drainStore n s).boot = s.boot := by
  induction n generalizing s with
  | zero => rfl
  | succ n ih =>
    unfold State.drainStore
    split
    · rfl
    · split
      · rw [ih]
        exact (Evolves.pageStored (P := raiseParts) .refl).same .boot (by decide)
      · rfl

theorem State.drainStore_counter {n : Nat} : (State.drainStore n s).counter = s.counter :=
  (Evolves.drainStore (P := .boot :: raiseParts) .refl).same .counter (by decide)

/-- The module as the power-fail store ends (R490). -/
def State.pfStored (s : State) (us : Nat) : State :=
  let u := State.drainStore 2048 (s.advance (s.store.pfFrom + us * 1350))
  { u with store := { u.store with pfDuration := some us } }

theorem exec_powerFailStoreComplete {us : Nat} (hpf : s.powerFailing = true) :
    exec (.powerFailStoreComplete us) s = .next (if (s.pfStored us).boot.supplyBack then (s.pfStored us).resumeSupply else s.pfStored us) :=
  congrArg Host.Outcome.next (if_pos hpf)

theorem powerFailStoreComplete_facts {us : Nat} (hpf : s.powerFailing = true) :
    ∃ t, exec (.powerFailStoreComplete us) s = .next t ∧ t.store.pfDuration = some us ∧
      (s.boot.supplyBack = true → t.boot.fetchStopped = false ∧ t.boot.heaters = true ∧ (t.latch 493).cause = false) ∧
      t.counter = max s.counter (s.store.pfFrom + us * 1350) := by
  have hboot : (s.pfStored us).boot = s.boot := State.drainStore_boot
  have hcounter : (s.pfStored us).counter = max s.counter (s.store.pfFrom + us * 1350) := State.drainStore_counter
  obtain ⟨hb, hcause, hstore, hc⟩ := (s.pfStored us).resumeSupply_facts
  refine ⟨_, exec_powerFailStoreComplete hpf, ?_⟩
  by_cases hback : s.boot.supplyBack = true
  · rw [if_pos (hboot ▸ hback)]
    exact ⟨congrArg (·.pfDuration) hstore, fun _ => ⟨congrArg (·.fetchStopped) hb, congrArg (·.heaters) hb, hcause⟩, hc.trans hcounter⟩
  · rw [if_neg (hboot ▸ hback)]
    exact ⟨rfl, fun h => absurd h hback, hcounter⟩

/-- The supply is back, and nothing has resumed yet. -/
def State.supplied (s : State) : State := { s with boot := { s.boot with pfLow := false, onHoldup := false } }

theorem exec_supplyRestored (hon : s.boot.phase ≠ .off) (hfailed : s.supplyFailed = true) :
    exec .supplyRestored s = .next (
      if s.powerFailing then { s.supplied with boot := { s.supplied.boot with supplyBack := true } } else s.supplied.resumeSupply) :=
  congrArg Host.Outcome.next (if_pos (by simp [hon, hfailed]))

theorem supplyRestored_facts (hon : s.boot.phase ≠ .off) (hfailed : s.supplyFailed = true) :
    ∃ t, exec .supplyRestored s = .next t ∧ t.supplyFailed = false ∧
      (if s.powerFailing then t.boot.supplyBack = true ∧ t.boot.fetchStopped = s.boot.fetchStopped
       else t.boot.fetchStopped = false ∧ t.boot.heaters = true ∧ (t.latch 493).cause = false) ∧ s.sameBut t [.boot, .faults] := by
  have hexec := exec_supplyRestored hon hfailed
  obtain ⟨hb, hcause, -, -⟩ := s.supplied.resumeSupply_facts
  refine ⟨_, hexec, ?_, ?_, Evolves.frame Evolves.execSupplyRestored_evolves hexec⟩
  · split
    · rfl
    · rw [State.supplyFailed, hb]
      rfl
  · by_cases hpf : s.powerFailing = true
    · rw [if_pos hpf, if_pos hpf]
      exact ⟨rfl, rfl⟩
    · rw [if_neg hpf, if_neg hpf]
      exact ⟨congrArg (·.fetchStopped) hb, congrArg (·.heaters) hb, hcause⟩

/-! ### The hold-up is exhausted -/

theorem State.putList_counter {a : AttrDesc} {i e : Nat} {l : List Int} : (s.putList a i e l).counter = s.counter :=
  (Evolves.putList (P := [.attrs, .store]) .refl).same .counter (by decide)

/-- What the Crucible's attributes of a start leave alone. -/
theorem State.crucibleAttrs_sameBut (s : State) : s.sameBut s.crucibleAttrs [.attrs, .store] := by
  unfold State.crucibleAttrs
  exact (Evolves.put (P := [.attrs, .store]) (.putList .refl)).same

theorem State.cleared_counter {powerOn : Bool} {phase : Phase} : (s.cleared powerOn true phase).counter = 0 :=
  (State.crucibleAttrs_sameBut _) .counter (by decide)

theorem State.cleared_phase {powerOn clear : Bool} {phase : Phase} : (s.cleared powerOn clear phase).boot.phase = phase :=
  congrArg (·.phase) ((State.crucibleAttrs_sameBut _) .boot (by decide))

theorem State.cutStore_pending : s.cutStore.pending = s.pending :=
  (Evolves.cutStore (P := [.attrs, .faults, .store, .freeCount]) .refl).same .pending (by decide)

theorem State.cleared_pending {powerOn clear : Bool} {phase : Phase} : (s.cleared powerOn clear phase).pending = s.pending :=
  Eq.trans ((State.crucibleAttrs_sameBut _) .pending (by decide)) State.cutStore_pending

theorem exec_holdupExhausted (hheld : s.boot.onHoldup = true) (hon : s.boot.phase ≠ .off) :
    exec .holdupExhausted s = .next ((s.cleared true true .off).setBoot
      { (s.cleared true true .off).boot with vmain := false, heaters := false, pwrGood := false }) :=
  congrArg Host.Outcome.next (if_pos (by simp [hheld, hon]))

/-- Settles O53. The power-fail store is queued behind what runs, and 493 is raised last; the drain and the resumption keep what the
statement speaks of. -/
theorem supplyFails : Obligations.SupplyFails := by
  refine ⟨fun s hon => ⟨?_, ?_⟩, fun s us => powerFailStoreComplete_facts, fun s => supplyRestored_facts, fun s hheld hon => ?_⟩
  · obtain ⟨hfails, hcounter, hlow, -⟩ :=
      s.supplyFails_facts (u := { s with boot := { s.boot with pfLow := true, supplyBack := false } }) (Evolves.withBoot .refl).same
    exact ⟨_, exec_pfNAsserted hon, hlow, hfails, hcounter⟩
  · obtain ⟨hfails, hcounter, -, hheld⟩ :=
      s.supplyFails_facts (u := { s with boot := { s.boot with onHoldup := true, supplyBack := false } }) (Evolves.withBoot .refl).same
    exact ⟨_, exec_vmainBelowThreshold hon, hheld, hfails, hcounter⟩
  · exact ⟨_, exec_holdupExhausted hheld hon, State.cleared_counter, State.cleared_phase, rfl, rfl, rfl, State.cleared_pending⟩

end Sys2Proof.Machine
end

section
/-! The transactions of the shadow store (R484 to R495). -/

set_option Elab.async false

namespace Sys2Proof.Machine

variable {s t u : State}

/-! ### Book-keeping within the dirty limit -/

/-- The pages that are DIRTY fit the ordinary limit, so that no write waits for a background store (R491). -/
def State.dirtyFits (s : State) : Prop := s.store.dirty.length + s.store.dirtyPages.length ≤ ordinaryLimit s.store.holdup

/-- What the book-keeping of a completion and an occurrence leave of the store while the DIRTY pages fit: all of it. -/
structure StoreStands (s t : State) : Prop where
  store : t.store = s.store
  lastTxn : t.attr Attr.store_last_txn = s.attr Attr.store_last_txn

namespace StoreStands

theorem refl : StoreStands s s := ⟨rfl, rfl⟩
theorem trans (h : StoreStands s t) (h' : StoreStands t u) : StoreStands s u := ⟨h'.store.trans h.store, h'.lastTxn.trans h.lastTxn⟩

theorem of_eq (h : StoreStands s t) (hs : u.store = t.store) (ha : u.attrs = t.attrs) : StoreStands s u :=
  h.trans ⟨hs, State.attr_of_attrs ha⟩

theorem put (h : StoreStands s t) {a : AttrDesc} {i e : Nat} {v : Int} (hi : i < 65536 := by omega) (he : e < 65536 := by omega)
    (hv : a.surv ≠ .stored := by decide) (hid : Attr.store_last_txn.id ≠ a.id := by decide) : StoreStands s (t.put a i e v) :=
  h.trans ⟨State.put_store_of_volatile hv, State.attr_put_ne t hid hi he⟩

theorem add (h : StoreStands s t) {a : AttrDesc} {i e n : Nat} (hi : i < 65536 := by omega) (he : e < 65536 := by omega)
    (hv : a.surv ≠ .stored := by decide) (hid : Attr.store_last_txn.id ≠ a.id := by decide) : StoreStands s (t.add a i e n) := h.put hi he hv hid

theorem withTm (h : StoreStands s t) {m : TableMem} : StoreStands s { t with tm := m } := h.of_eq rfl rfl

theorem ite {c : Prop} [Decidable c] (h : StoreStands s t) (h' : StoreStands s u) : StoreStands s (if c then t else u) := by
  split
  · exact h
  · exact h'

theorem forEach (h : StoreStands s t) {f : State → Nat → State} {l : List Nat} (hf : ∀ u : State, ∀ n ∈ l, StoreStands s u → StoreStands s (f u n)) :
    StoreStands s (t.forEach l f) := by
  induction l generalizing t with
  | nil => exact h
  | cons n ns ih => exact ih (hf _ n (List.mem_cons_self ..) h) fun u m hm => hf u m (List.mem_cons_of_mem _ hm)

theorem occur (h : StoreStands s t) {ev d : Nat} {c : Bool} {x : List ScopeItem} : StoreStands s (t.occur ev c d x) :=
  h.of_eq (State.occur_store ..) (State.occur_attrs ..)

theorem occurOnce (h : StoreStands s t) {ev d : Nat} : StoreStands s (t.occurOnce ev d) :=
  h.of_eq (State.occurOnce_store ..) (State.occurOnce_attrs ..)

theorem findCheck (h : StoreStands s t) {l : Nat} : StoreStands s (t.findCheck l) := by
  unfold State.findCheck
  have hframe : StoreStands s (t.setFrame (t.frameOf l) { t.frame (t.frameOf l) with checkErrors := 0 }) := h.of_eq rfl rfl
  have hcounted : StoreStands s (((t.setFrame (t.frameOf l) { t.frame (t.frameOf l) with checkErrors := 0 }).add Attr.ce_counts 0 2 1).occurOnce 387 0xFFFF) :=
    (hframe.add (i := 0) (e := 2)).occurOnce
  exact .ite h (.ite (hcounted.of_eq (State.submit_store ..) (State.submit_attrs ..)) hcounted)

theorem logRewritten (h : StoreStands s t) {f : Nat} {b : Bool} : StoreStands s (t.logRewritten f b) := by
  unfold State.logRewritten
  split
  · next k hk =>
    have : k < 16 := List.mem_range.mp (List.mem_of_find?_eq_some hk)
    exact h.put
  · exact h

theorem tmWrite (h : StoreStands s t) {a : Nat} {bs : List Byte} : StoreStands s (t.tmWrite a bs) := by
  unfold State.tmWrite
  exact .ite h (withTm (.ite h.findCheck.logRewritten h.findCheck))

theorem audit (h : StoreStands s t) {w : Issuer} {op st i a : Nat} : StoreStands s (t.audit w op st i a) := by
  unfold State.audit
  exact h.tmWrite.withTm

theorem enforceLimit (h : StoreStands s t) (hs : s.dirtyFits) : StoreStands s t.enforceLimit := by
  have hfits : t.store.dirty.length + t.store.dirtyPages.length ≤ ordinaryLimit t.store.holdup := by rw [h.store]; exact hs
  rw [State.enforceLimit, if_pos hfits]
  exact h

theorem complete (h : StoreStands s t) {w : Issuer} {op st g : Nat} {r : List Byte} {l : Option Nat} : StoreStands s (t.complete w op st r l g) :=
  h.of_eq (State.complete_store ..) (State.complete_attrs ..)

theorem finish (h : StoreStands s t) (hs : s.dirtyFits) {w : Issuer} {op st i a : Nat} {r : List Byte} {l : Option Nat} :
    StoreStands s (t.finish w op st i r l a) := by
  unfold State.finish
  exact .complete (.ite (h.enforceLimit hs) (h.enforceLimit hs).audit)

theorem dropSends (h : StoreStands s t) {l : List Issuer} : StoreStands s (t.dropSends l) := by
  induction l generalizing t with
  | nil => exact h
  | cons w ws ih => exact ih h.audit.complete

theorem failSends (h : StoreStands s t) (hs : s.dirtyFits) {l : List Issuer} : StoreStands s (t.failSends l) := by
  induction l generalizing t with
  | nil => exact h
  | cons w ws ih => exact ih (h.finish hs)

theorem tellAll (h : StoreStands s t) {l : List TxFrame} {st : DescState} :
    StoreStands s (l.foldl (fun (x : State) f => x.tellDesc f st) t) := by
  induction l generalizing t with
  | nil => exact h
  | cons f fs ih =>
    refine ih ?_
    show StoreStands s (t.tellDesc f st)
    unfold State.tellDesc
    split
    · exact h.tmWrite
    · exact h

theorem dropFrames (h : StoreStands s t) (hs : s.dirtyFits) {p : Nat} (hp : p < 4) : StoreStands s (t.dropFrames p) := by
  unfold State.dropFrames
  have hport : ∀ r, StoreStands s (t.setPort p r) := fun r => h.of_eq rfl rfl
  exact (((hport _).tellAll.add (i := p) (e := 0)).dropSends).failSends hs

theorem raise (h : StoreStands s t) (hs : s.dirtyFits) {ev d : Nat} {c : Bool} {x : List ScopeItem} : StoreStands s (t.raise ev c d x) := by
  unfold State.raise
  refine .ite (.forEach (.forEach h.occur fun u n hn hu => ?_) fun u p hp hu => ?_) h.occur
  · have : n < 32 := List.mem_range.mp hn
    exact .ite (hu.add (i := n) (e := 0)) hu
  · exact .ite (hu.dropFrames hs (List.mem_range.mp hp)) hu

end StoreStands

/-! ### STORE.COMMIT and what else queues a transaction -/

/-- A store of a page without an end to wait for keeps no command from storing (R357). -/
theorem commitRefusals_none {first count : Nat} (hc : 0 < count) (hrange : first + count ≤ 1024)
    (hways : ∀ x ∈ s.store.running, x.way = .background ∨ x.way = .timeRecord) :
    firstRefusal [(decide (count = 0) || decide (1024 < first + count), E_RANGE),
      (s.store.running.any (fun t => match t.way with
        | .commit _ => true
        | .powerFail => true
        | .restoreFactory => true
        | _ => false), E_BUSY)] = none := by
  refine firstRefusal_none.mpr fun x hx => ?_
  simp only [List.mem_cons, List.not_mem_nil, or_false] at hx
  rcases hx with rfl | rfl
  · simp only [Bool.or_eq_false_iff, decide_eq_false_iff_not]
    omega
  · refine List.any_eq_false.mpr fun x hx => ?_
    rcases hways x hx with h | h <;> simp [h]

theorem exec_storeCommit {who : Issuer} {first count : Nat} (hs : s.serves who) (hc : 0 < count) (hrange : first + count ≤ 1024)
    (howner : issuerClient who = 0) (hways : ∀ x ∈ s.store.running, x.way = .background ∨ x.way = .timeRecord) :
    exec (.storeCommit who first count) s = .next (
      if s.dirtyRun first count = [] then (s.finish who 0x0B00 0 first).raise 592 false 0xFFFF
      else s.queueTxn (.commit who) (s.dirtyRun first count)) :=
  congrArg Host.Outcome.next (State.act_ok _ hs.1 rfl (s.permits_owner0 howner) (commitRefusals_none hc hrange hways))

theorem storeCommit_facts {who : Issuer} {first count : Nat} (hs : s.serves who) (howner : issuerClient who = 0) (hc : 0 < count)
    (hrange : first + count ≤ 1024) (hways : ∀ x ∈ s.store.running, x.way = .background ∨ x.way = .timeRecord) :
    ∃ t, exec (.storeCommit who first count) s = .next t ∧
      if s.dirtyRun first count = [] then (t.latch 592).latched = true ∧ s.framedRaise t [] []
      else t.store.running =
          (match s.store.running with
           | x :: xs => x :: insertTxn
              { way := .commit who, txn := s.store.nextTxn, pages := (s.dirtyRun first count).length, left := s.dirtyRun first count } xs
           | [] =>
              [{ way := .commit who, txn := s.store.nextTxn, pages := (s.dirtyRun first count).length, left := s.dirtyRun first count }]) ∧
        s.sameBut t [.store] := by
  refine ⟨_, exec_storeCommit hs hc hrange howner hways, ?_⟩
  by_cases hrun : s.dirtyRun first count = []
  · rw [if_pos hrun, if_pos hrun]
    exact ⟨State.raise_latched, State.framedRaise_of (Evolves.raise (Evolves.finish .refl)) (.raise (.finish State.attrsKept_refl))⟩
  · rw [if_neg hrun, if_neg hrun]
    exact ⟨State.queueTxn_running .., (Evolves.queueTxn .refl).same⟩

theorem State.queueTxn_first {way : StoreWay} {pages : List Nat} (h : s.store.running = []) :
    (s.queueTxn way pages).store.running = [s.newTxn way pages] := by
  rw [State.queueTxn_running, h]

theorem exec_backgroundStore {p : Fin 1024} (hf : s.firmware = true) (hp : p.val < 896) (hd : s.pageDirty p.val = true)
    (ht : s.inTxn p.val = false) :
    exec (.backgroundStore p) s = .next (
      (if s.crowded && decide (s.oldestDirty = some p.val) then s
       else s.advance (s.dirtySince p.val + s.attrN Attr.store_delay * ticksPerSecond)).queueTxn .background [p.val]) :=
  congrArg Host.Outcome.next (if_pos (by simp [hf, hp, hd, ht]))

theorem State.queueTxn_counter {way : StoreWay} {pages : List Nat} : (s.queueTxn way pages).counter = s.counter :=
  (Evolves.queueTxn (P := [.store]) .refl).same .counter (by decide)

theorem backgroundStore_facts {p : Fin 1024} (hf : s.firmware = true) (hp : p.val < 896) (hd : s.pageDirty p.val = true)
    (ht : s.inTxn p.val = false) (hidle : s.store.running = []) :
    ∃ t, exec (.backgroundStore p) s = .next t ∧
      t.store.running = [{ way := .background, txn := s.store.nextTxn, pages := 1, left := [p.val] }] ∧
      t.counter =
        (if s.crowded = true ∧ s.oldestDirty = some p.val then s.counter
         else max s.counter (s.dirtySince p.val + s.attrN Attr.store_delay * ticksPerSecond)) ∧ s.sameBut t [.counter, .store] := by
  have hexec := exec_backgroundStore hf hp hd ht
  refine ⟨_, hexec, ?_, ?_, Evolves.frame Evolves.execBackgroundStore_evolves hexec⟩
  · split <;> exact State.queueTxn_first hidle
  · rw [State.queueTxn_counter]
    by_cases hdue : s.crowded = true ∧ s.oldestDirty = some p.val
    · rw [if_pos (by simpa using hdue), if_pos hdue]
    · rw [if_neg (by simpa using hdue), if_neg hdue]
      rfl

theorem exec_timeRecordStore (hf : s.firmware = true) (hidle : s.store.running = []) :
    exec .timeRecordStore s = .next (
      ((s.advance (s.store.timeCounter + 600 * ticksPerSecond)).captureTime).queueTxn .timeRecord timePages) :=
  congrArg Host.Outcome.next (if_pos (by simp [hf, hidle]))

/-- A queueing changes only what runs and the next transaction number. -/
theorem State.queueTxn_times {way : StoreWay} {pages : List Nat} : (s.queueTxn way pages).store.timeCounter = s.store.timeCounter ∧
    (s.queueTxn way pages).store.timeDirty = s.store.timeDirty ∧ (s.queueTxn way pages).store.timeWords = s.store.timeWords := by
  cases h : s.store.running <;> simp [State.queueTxn, State.setRunning, h]

/-- What a capture of the TIME words leaves of the store, and what it keeps (R483). -/
theorem State.captureTime_store : s.captureTime.store = { s.store with
    timeWords := ((List.range 512).filter s.created).map fun d => (d, (s.dom d).wordsAt s.counter)
    timeCounter := s.counter
    timeDirty := timePages } := by
  unfold State.captureTime
  rfl

theorem State.captureTime_counter : s.captureTime.counter = s.counter := (Evolves.captureTime (P := [.store]) .refl).same .counter (by decide)

/-- The captured words are those of the domains at the instant of the capture. -/
theorem State.advance_words (n : Nat) : ((List.range 512).filter (s.advance n).created).map (fun d => (d, ((s.advance n).dom d).wordsAt (s.advance n).counter)) =
    ((List.range 512).filter s.created).map (fun d => (d, (s.dom d).wordsAt (s.advance n).counter)) := by
  have hcreated : (s.advance n).created = s.created := funext fun _ => rfl
  have hdom : (s.advance n).dom = s.dom := funext fun _ => rfl
  rw [hcreated, hdom]

theorem timeRecordStore_facts (hf : s.firmware = true) (hidle : s.store.running = []) :
    ∃ t, exec .timeRecordStore s = .next t ∧
      t.store.running = [{ way := .timeRecord, txn := s.store.nextTxn, pages := 4, left := [896, 897, 898, 899] }] ∧
      t.counter = max s.counter (s.store.timeCounter + 600 * ticksPerSecond) ∧
      t.store.timeCounter = t.counter ∧ t.store.timeDirty = timePages ∧
      t.store.timeWords = ((List.range 512).filter s.created).map (fun d => (d, (s.dom d).wordsAt t.counter)) ∧
      s.sameBut t [.counter, .store] := by
  have hexec := exec_timeRecordStore hf hidle
  let u := (s.advance (s.store.timeCounter + 600 * ticksPerSecond)).captureTime
  obtain ⟨hcounter, hdirty, hwords⟩ := u.queueTxn_times (way := .timeRecord) (pages := timePages)
  have hnow : (u.queueTxn .timeRecord timePages).counter = (s.advance (s.store.timeCounter + 600 * ticksPerSecond)).counter :=
    State.queueTxn_counter.trans State.captureTime_counter
  have hstore : u.store = _ := State.captureTime_store
  have hidle' : u.store.running = [] := by rw [hstore]; exact hidle
  have hfirst := State.queueTxn_first (way := .timeRecord) (pages := timePages) hidle'
  rw [State.newTxn, hstore] at hfirst
  refine ⟨_, hexec, hfirst, hnow, ?_, ?_, ?_, Evolves.frame Evolves.execTimeRecordStore_evolves hexec⟩
  · rw [hcounter, hnow, hstore]
  · rw [hdirty, hstore]
  · rw [hwords, hnow, hstore]
    dsimp only
    exact State.advance_words _

/-! ### Programs and erases -/

theorem restoreDone_of (h : s.boot.restore = none) : s.restoreDone = s := by simp [State.restoreDone, h]

theorem exec_storeProgramComplete {p : Fin 1024} {verified : Bool} {x : Txn} (hrun : s.boot.phase = .running) (hrestore : s.boot.restore = none)
    (hrunning : s.store.running = [x]) (hleft : x.left = [p.val]) :
    exec (.storeProgramComplete p verified) s = .next (s.programResult p.val verified) := by
  have hbusy : s.busyPages = [p.val] := by simp [State.busyPages, hrunning, hleft]
  have hboot : (s.programResult p.val verified).boot = s.boot :=
    (Evolves.programResult (P := raiseParts) .refl).same .boot (by decide)
  have hexec : exec (.storeProgramComplete p verified) s = .next (s.programResult p.val verified).restoreDone :=
    congrArg Host.Outcome.next (if_pos (by simp [hrun, hbusy]))
  rw [hexec, restoreDone_of (hboot ▸ hrestore)]

theorem State.noteWear_store {p n : Nat} : (s.noteWear p n).store = s.store := by
  unfold State.noteWear
  simp only
  split
  · split
    · rw [State.occur_store, State.put1_store_of_volatile]
    · rw [State.put1_store_of_volatile]
  · rfl

/-- The page as a verified program leaves it, its slot with the content `slot` (R485, R486). -/
def PageRec.programmed (r : PageRec) (slot : FlashSlot) : PageRec :=
  if r.current then { r with a := slot, current := false, wearA := r.wearA + 1, tries := 0 }
  else { r with b := slot, current := true, wearB := r.wearB + 1, tries := 0 }

theorem PageRec.programmed_facts (r : PageRec) (slot : FlashSlot) :
    (r.programmed slot).current = (!r.current) ∧ (r.programmed slot).now = slot ∧ (r.programmed slot).other = r.now := by
  unfold PageRec.programmed
  cases h : r.current with
  | true => exact ⟨rfl, rfl, by simp [PageRec.other, PageRec.now, h]⟩
  | false => exact ⟨rfl, rfl, by simp [PageRec.other, PageRec.now, h]⟩

/-- A verified program without an injection: the store it leaves. -/
theorem State.programPage_store {p txn pages : Nat} {pf erase : Bool} (hinj : s.takeInjection 3 p = none) :
    ∃ slot, slot.seq = ((s.page p).now.seq + 1) % 2 ^ 32 ∧ (s.programPage p txn pages pf erase).store =
      { (s.setPage p ((s.page p).programmed slot)).store with
        dirty := s.store.dirty.filter fun e => shadowPage e.1 != p
        dirtyPages := tblDrop s.store.dirtyPages p
        timeDirty := s.store.timeDirty.filter fun q => q != p } := by
  have hinjected : s.injected 3 p = s := by simp [State.injected, hinj]
  refine ⟨.good (((s.page p).now.seq + 1) % 2 ^ 32) txn pages pf (if 896 ≤ p then s.store.timeCounter else s.counter)
    (s.pageData p erase).1 (s.pageData p erase).2, rfl, ?_⟩
  unfold State.programPage
  simp only [State.noteWear_store, hinjected, hinj]
  rfl

theorem tblDrop_keys {α : Type} {t : Tbl α} {i : Nat} : ∀ e ∈ tblDrop t i, e.1 ≠ i := by
  induction t with
  | nil => intro e he; cases he
  | cons x t ih =>
    obtain ⟨k, v⟩ := x
    intro e he
    rw [tblDrop] at he
    split at he
    · exact ih e he
    · next hk =>
      rcases List.mem_cons.mp he with rfl | hm
      · exact fun h => hk h.symm
      · exact ih e hm

/-- A page that has just been programmed is not DIRTY. -/
theorem State.pageDirty_programmed {p : Nat} (hp : p < 896) (hd : t.store.dirty = u.store.dirty.filter fun e => shadowPage e.1 != p)
    (hpages : t.store.dirtyPages = tblDrop u.store.dirtyPages p) : t.pageDirty p = false := by
  rw [State.pageDirty, if_neg (by omega), State.dirtyPages, hd, hpages]
  simp only [List.contains_eq_mem, decide_eq_false_iff_not, List.mem_eraseDups, List.mem_append, List.mem_map, List.mem_filter, not_or]
  refine ⟨?_, ?_⟩
  · rintro ⟨e, ⟨-, hne⟩, he⟩
    simp [he] at hne
  · rintro ⟨e, hm, he⟩
    exact tblDrop_keys e hm he

/-- The end of a background store of one page (R486, R488). -/
theorem State.pageStored_background {p : Nat} {x : Txn} (hrunning : s.store.running = [x]) (hway : x.way = .background) (hleft : x.left = [p]) :
    s.pageStored p = (s.storePage p false).setRunning [] := by
  have hkept : (s.storePage p false).store.running = [x] := (State.running_of (State.storePage_engine ..)).trans hrunning
  simp [State.pageStored, hrunning, hway, StoreWay.single, State.pageDone, hkept, hleft, State.endTxn]

theorem State.storePage_store {p : Nat} {pf : Bool} : (s.storePage p pf).store =
    { (s.programPage p s.store.nextTxn 1 pf false).store with nextTxn := (s.store.nextTxn + 1) % 2 ^ 32 } := by
  unfold State.storePage
  rw [State.put1_store_of_volatile]

theorem backgroundProgram_facts {p : Fin 1024} {x : Txn} (hrun : s.boot.phase = .running) (hrestore : s.boot.restore = none)
    (hrunning : s.store.running = [x]) (hway : x.way = .background) (hleft : x.left = [p.val]) (hp : p.val < 896) :
    (s.takeInjection 3 p.val = none →
      ∃ t, exec (.storeProgramComplete p true) s = .next t ∧ t.store.running = [] ∧
        (t.page p.val).current = (!(s.page p.val).current) ∧ (t.page p.val).now.seq = ((s.page p.val).now.seq + 1) % 2 ^ 32 ∧
        (t.page p.val).other = (s.page p.val).now ∧ t.pageDirty p.val = false ∧ t.counter = s.counter) ∧
    ((s.page p.val).tries = 0 →
      ∃ t, exec (.storeProgramComplete p false) s = .next t ∧ t.store.running = s.store.running ∧
        t.page p.val = { (s.page p.val).worn with tries := 1 } ∧ t.counter = s.counter) := by
  refine ⟨fun hinj => ?_, fun htries => ?_⟩
  · have hexec := exec_storeProgramComplete (verified := true) hrun hrestore hrunning hleft
    obtain ⟨slot, hseq, hprogram⟩ := s.programPage_store (p := p.val) (txn := s.store.nextTxn) (pages := 1) (pf := false) (erase := false) hinj
    obtain ⟨hcurrent, hnow, hother⟩ := (s.page p.val).programmed_facts slot
    have hstored : s.programResult p.val true = (s.storePage p.val false).setRunning [] := s.pageStored_background hrunning hway hleft
    have hstore : (s.programResult p.val true).store = { (s.storePage p.val false).store with running := [] } := by rw [hstored]; rfl
    rw [State.storePage_store, hprogram] at hstore
    have hpage : (s.programResult p.val true).page p.val = (s.page p.val).programmed slot := by
      rw [State.page, hstore]
      exact tblGet_set_same ..
    refine ⟨_, hexec, congrArg StoreUnit.running hstore, ?_, ?_, ?_, State.pageDirty_programmed (u := s) hp (congrArg StoreUnit.dirty hstore)
      (congrArg StoreUnit.dirtyPages hstore), (Evolves.programResult (P := raiseParts) .refl).same .counter (by decide)⟩
    · rw [hpage, hcurrent]
    · rw [hpage, hnow, hseq]
    · rw [hpage, hother]
  · have hexec := exec_storeProgramComplete (verified := false) hrun hrestore hrunning hleft
    have hworn : (s.page p.val).worn.tries = 0 := by
      rw [← htries]
      unfold PageRec.worn
      split <;> rfl
    have hfailed : s.programResult p.val false =
        ((s.setPage p.val (s.page p.val).worn).noteWear p.val (max (s.page p.val).worn.wearA (s.page p.val).worn.wearB)).setPage p.val
          { (s.page p.val).worn with tries := 1 } := if_pos hworn
    refine ⟨_, hexec, ?_, ?_, (Evolves.programResult (P := raiseParts) .refl).same .counter (by decide)⟩
    · rw [hfailed]
      show ((s.setPage p.val (s.page p.val).worn).noteWear p.val _).store.running = _
      rw [State.noteWear_store]
      rfl
    · rw [hfailed, State.page_setPage]

/-- The end of a STORE.COMMIT (R487, R488). -/
theorem State.pageStored_commit {p : Nat} {x : Txn} {who : Issuer} (hrunning : s.store.running = [x]) (hway : x.way = .commit who)
    (hleft : x.left = [p]) (hok : x.failed = false) :
    s.pageStored p = (((((s.programPage p x.txn x.pages false false).setRunning []).put1 Attr.store_last_txn 0 x.txn).finish who 0x0B00 0 0).raise 592
      false 0xFFFF) := by
  have hkept : (s.programPage p x.txn x.pages false false).store.running = [x] := (State.running_of (State.programPage_engine ..)).trans hrunning
  simp [State.pageStored, hrunning, hway, StoreWay.single, State.pageDone, hkept, hleft, State.endTxn, hok]

/-- A verified program leaves no more pages DIRTY than before it. -/
theorem State.programPage_dirty {p txn pages : Nat} {pf erase : Bool} :
    (s.programPage p txn pages pf erase).store.dirty.length ≤ s.store.dirty.length ∧
    (s.programPage p txn pages pf erase).store.dirtyPages.length ≤ s.store.dirtyPages.length := by
  have hlength : ∀ (t : Tbl Nat) (i : Nat), (tblDrop t i).length ≤ t.length := by
    intro t i
    induction t with
    | nil => exact Nat.le_refl _
    | cons x t ih =>
      obtain ⟨k, v⟩ := x
      rw [tblDrop]
      split
      · exact Nat.le_succ_of_le ih
      · exact Nat.succ_le_succ ih
  unfold State.programPage
  simp only [State.noteWear_store]
  refine ⟨?_, ?_⟩
  · change ((s.injected 3 p).store.dirty.filter _).length ≤ _
    rw [State.injected_store]
    exact List.length_filter_le ..
  · change (tblDrop (s.injected 3 p).store.dirtyPages p).length ≤ _
    rw [State.injected_store]
    exact hlength ..

theorem commitProgram_facts {p : Fin 1024} {x : Txn} {who : Issuer} (hrun : s.boot.phase = .running) (hrestore : s.boot.restore = none)
    (hrunning : s.store.running = [x]) (hway : x.way = .commit who) (hleft : x.left = [p.val]) (hok : x.failed = false)
    (hfits : s.store.dirty.length + s.store.dirtyPages.length ≤ ordinaryLimit s.store.holdup) :
    ∃ t, exec (.storeProgramComplete p true) s = .next t ∧ t.store.running = [] ∧ (t.latch 592).latched = true ∧
      t.attr Attr.store_last_txn = x.txn ∧ t.counter = s.counter := by
  let u := ((s.programPage p.val x.txn x.pages false false).setRunning []).put1 Attr.store_last_txn 0 x.txn
  have hstored : s.programResult p.val true = (u.finish who 0x0B00 0 0).raise 592 false 0xFFFF := s.pageStored_commit hrunning hway hleft hok
  obtain ⟨hdirty, hpages⟩ := s.programPage_dirty (p := p.val) (txn := x.txn) (pages := x.pages) (pf := false) (erase := false)
  have hstore : u.store = { (s.programPage p.val x.txn x.pages false false).store with running := [] } := State.put1_store_of_volatile
  have hfits' : u.dirtyFits := by
    have hholdup : (s.programPage p.val x.txn x.pages false false).store.holdup = s.store.holdup :=
      State.holdup_of (State.programPage_engine ..)
    rw [State.dirtyFits, hstore]
    change (s.programPage p.val x.txn x.pages false false).store.dirty.length +
      (s.programPage p.val x.txn x.pages false false).store.dirtyPages.length ≤ ordinaryLimit (s.programPage p.val x.txn x.pages false false).store.holdup
    rw [hholdup]
    omega
  have hstands : StoreStands u (s.programResult p.val true) := hstored ▸ (StoreStands.refl.finish hfits').raise hfits'
  refine ⟨_, exec_storeProgramComplete hrun hrestore hrunning hleft, ?_, ?_, hstands.lastTxn.trans (State.attr_put1_same ..),
    (Evolves.programResult (P := raiseParts) .refl).same .counter (by decide)⟩
  · rw [hstands.store, hstore]
  · rw [hstored]
    exact State.raise_latched

/-- The page as an erase of its other slot leaves it (R486). -/
def PageRec.erased (r : PageRec) : PageRec := if r.current then { r with a := .erased } else { r with b := .erased }

theorem PageRec.erased_facts (r : PageRec) : r.erased.other = .erased ∧ r.erased.now = r.now ∧ r.erased.current = r.current := by
  unfold PageRec.erased
  cases h : r.current with
  | true => simp [PageRec.other, PageRec.now, h]
  | false => simp [PageRec.other, PageRec.now, h]

theorem exec_slotEraseComplete {p : Fin 1024} (hrun : s.boot.phase = .running) (hlow : 64 ≤ p.val) (hhigh : p.val < 900)
    (hidle : s.busyPages.contains p.val = false) : exec (.slotEraseComplete p) s = .next (s.setPage p.val (s.page p.val).erased) := by
  refine congrArg Host.Outcome.next (if_pos ?_)
  rw [hidle]
  simp [hrun, hlow, hhigh]

/-! ### The hold-up and the oven hours -/

theorem exec_holdupMeasure {ms : Nat} (hf : s.firmware = true) (hsupply : s.supplyFailed = false) :
    exec (.holdupMeasure ms) s = .next ((s.advance (s.store.holdupAt + 86400 * ticksPerSecond)).measureHoldup ms) :=
  congrArg Host.Outcome.next (if_pos (by simp [hf, hsupply]))

theorem State.measureHoldup_facts {ms : Nat} : (s.measureHoldup ms).attr Attr.store_holdup_ms = ms ∧ (s.measureHoldup ms).store.holdup = ms ∧
    (s.measureHoldup ms).attr Attr.store_dirty_limit = ordinaryLimit ms ∧ (ms < 60 → ((s.measureHoldup ms).latch 602).latched = true) ∧
    (s.measureHoldup ms).store.holdupAt = s.counter ∧ (s.measureHoldup ms).counter = s.counter := by
  let u : State := { s with store := { s.store with holdup := ms, holdupAt := s.counter } }
  let v := (u.put1 Attr.store_holdup_ms 0 ms).put1 Attr.store_dirty_limit 0 (ordinaryLimit ms)
  have hms : v.attr Attr.store_holdup_ms = ms := (State.attr_put1_ne _ (by decide)).trans (State.attr_put1_same ..)
  have hlimit : v.attr Attr.store_dirty_limit = ordinaryLimit ms := State.attr_put1_same ..
  have hengine : v.store.engine = u.store.engine := (State.put1_engine ..).trans (State.put1_engine ..)
  have hcounter : v.counter = s.counter := (State.put1_counter ..).trans (State.put1_counter ..)
  by_cases h : ms < 60
  · have heq : s.measureHoldup ms = v.raise 602 false 0xFFFF := if_pos h
    have hkept : (v.raise 602 false 0xFFFF).store.engine = u.store.engine := (State.raise_engine ..).trans hengine
    rw [heq]
    exact ⟨(State.raise_attr v (by decide) (by decide) (by decide) ..).trans hms, State.holdup_of hkept,
      (State.raise_attr v (by decide) (by decide) (by decide) ..).trans hlimit, fun _ => State.raise_latched, State.holdupAt_of hkept,
      (State.raise_counter ..).trans hcounter⟩
  · have heq : s.measureHoldup ms = v := if_neg h
    rw [heq]
    exact ⟨hms, State.holdup_of hengine, hlimit, fun h' => absurd h' h, State.holdupAt_of hengine, hcounter⟩

/-- An hour of heating of one oven. -/
def State.ovenHour (s : State) (m : Nat) : State := s.add Attr.store_oven_hours 0 m 1

theorem State.ovenHour_same (m : Nat) : (s.ovenHour m).attr Attr.store_oven_hours 0 m =
    (s.attr Attr.store_oven_hours 0 m + 1) % (256 ^ Attr.store_oven_hours.bytes : Nat) := State.attr_put_same ..

theorem State.ovenHour_ne {m n : Nat} (h : n ≠ m) :
    (s.ovenHour m).attr Attr.store_oven_hours 0 n = s.attr Attr.store_oven_hours 0 n :=
  State.attr_put_other s _ (by simp only [AttrDesc.key]; omega)

theorem exec_ovenHours (hon : s.boot.phase ≠ .off) (hheat : s.boot.heaters = true) (hawake : s.power ≠ .dormant) :
    exec .ovenHours s = .next ((s.forEach (if s.isQ3 then [0, 1, 2] else [0]) State.ovenHour).enforceLimit) :=
  congrArg Host.Outcome.next (if_pos (by simp [hon, hheat, hawake]))

theorem State.ovenHours_attr (m : Nat) (hm : m < 3) : (s.forEach (if s.isQ3 then [0, 1, 2] else [0]) State.ovenHour).attr Attr.store_oven_hours 0 m =
    (if m = 0 ∨ s.isQ3 = true then (s.attr Attr.store_oven_hours 0 m + 1) % (256 ^ Attr.store_oven_hours.bytes : Nat)
     else s.attr Attr.store_oven_hours 0 m) := by
  cases hq : s.isQ3 with
  | false =>
    change (s.ovenHour 0).attr Attr.store_oven_hours 0 m = _
    by_cases h0 : m = 0
    · subst h0
      rw [if_pos (.inl rfl), State.ovenHour_same]
    · rw [if_neg (by simp [h0]), State.ovenHour_ne h0]
  | true =>
    change (((s.ovenHour 0).ovenHour 1).ovenHour 2).attr Attr.store_oven_hours 0 m = _
    rw [if_pos (.inr rfl)]
    match m with
    | 0 => rw [State.ovenHour_ne (by decide), State.ovenHour_ne (by decide), State.ovenHour_same]
    | 1 => rw [State.ovenHour_ne (by decide), State.ovenHour_same, State.ovenHour_ne (by decide)]
    | 2 => rw [State.ovenHour_same, State.ovenHour_ne (by decide), State.ovenHour_ne (by decide)]

/-- Settles O52. While the DIRTY pages fit the limit, book-keeping leaves the store as it is (`StoreStands`); its engine it never
touches (`StoreUnit.engine`). -/
theorem shadowStore : Obligations.ShadowStore := by
  refine ⟨fun s who first count => storeCommit_facts, fun s p x => backgroundProgram_facts, fun s p x who => commitProgram_facts,
    fun s p hrun hlow hhigh hidle => ?_, fun s p => backgroundStore_facts, fun s => timeRecordStore_facts, fun s ms hf hsupply => ?_,
    fun s hon hheat hawake => ?_⟩
  · obtain ⟨hother, hnow, hcurrent⟩ := (s.page p.val).erased_facts
    have hexec := exec_slotEraseComplete hrun hlow hhigh hidle
    refine ⟨_, hexec, ?_, ?_, ?_, fun q hq => State.page_setPage_other s _ hq, Evolves.frame Evolves.execSlotEraseComplete_evolves hexec⟩
    · rw [State.page_setPage, hother]
    · rw [State.page_setPage, hnow]
    · rw [State.page_setPage, hcurrent]
  · obtain ⟨hms, hholdup, hlimit, hlow, hat, hcounter⟩ :=
      (s.advance (s.store.holdupAt + 86400 * ticksPerSecond)).measureHoldup_facts (ms := ms)
    exact ⟨_, exec_holdupMeasure hf hsupply, hms, hholdup, hlimit, hlow, hat.trans hcounter.symm, hcounter⟩
  · have hexec := exec_ovenHours hon hheat hawake
    refine ⟨_, hexec, fun m hm => ?_, Evolves.frame Evolves.execOvenHours_evolves hexec⟩
    rw [State.attr_of_find (State.enforceLimit_find _ (kept_key (by decide) (by decide) (by omega))), State.ovenHours_attr m hm]

end Sys2Proof.Machine
end

section
/-! RESET_N, the host link and the power-up sequence (R312, R341, R393 to R404). -/

set_option Elab.async false

namespace Sys2Proof.Machine

variable {s t u : State} {ids : List Nat}

/-! ### The end of the power-up sequence -/

theorem Writes.decideRole (h : Writes ids s t) (ha : Attr.mate_role.id ∈ ids := by decide)
    (hb : Attr.mate_track_state.id ∈ ids := by decide) : Writes ids s t.decideRole := by
  unfold State.decideRole
  exact .ite (h.setMate.put1 ha)
    (.ite ((h.setMate.put1 ha).becomeStandby ha hb) (.ite (h.setMate.put1 ha).claimRole (h.setMate.put1 ha).setMate))

theorem Writes.startPowerFail (h : Writes ids s t) : Writes ids s t.startPowerFail := by
  unfold State.startPowerFail
  refine (h.of_same (P := [.boot, .store]) (Evolves.same ?_)).raise
  exact Evolves.refl.withBoot.setRunning.captureTime.queueTxn.withStore

/-- The reports of the sequence and its end, before the role is decided (R396, R408). -/
def State.endReports (s : State) (cause : Nat) (stepTimes : List Nat) : State :=
  ((s.freshSlots.putList Attr.boot_step_time 0 0 ((List.range 9).map fun k => ((stepTimes.getD k 0 : Nat) : Int))).put1 Attr.reset_cause 0 cause).put1
    Attr.power_state 0 0

def State.nowRunning (t : State) : State :=
  t.setBoot { t.boot with phase := .running, gafferUp := true, lastStep := 9, failingStep := 255, failCode := 0, endCounter := t.counter }

theorem State.bootEnds_eq {cause : Nat} {stepTimes : List Nat} : s.bootEnds cause stepTimes =
    if ((s.endReports cause stepTimes).nowRunning.decideRole).supplyFailed then ((s.endReports cause stepTimes).nowRunning.decideRole).startPowerFail
    else (s.endReports cause stepTimes).nowRunning.decideRole := by
  unfold State.bootEnds State.endReports State.nowRunning
  rfl

theorem State.endReports_attr {cause : Nat} {stepTimes : List Nat} : (s.endReports cause stepTimes).attr Attr.power_state = 0 ∧
    (s.endReports cause stepTimes).attr Attr.reset_cause = cause := by
  unfold State.endReports
  exact ⟨State.attr_put1_same .., (State.attr_put1_ne _ (by decide)).trans (State.attr_put1_same ..)⟩

/-- The module serves as step 9 ends (R396, R403, R412). -/
theorem State.bootEnds_started {cause : Nat} {stepTimes : List Nat} : (s.bootEnds cause stepTimes).started cause := by
  obtain ⟨hpower, hcause⟩ := s.endReports_attr (cause := cause) (stepTimes := stepTimes)
  rw [State.bootEnds_eq]
  generalize s.endReports cause stepTimes = t at hpower hcause
  let v := t.nowRunning
  have hwrites : Writes [Attr.mate_role.id, Attr.mate_track_state.id] v v.decideRole := Writes.refl.decideRole
  have hboot : v.decideRole.boot = v.boot := (Evolves.decideRole (P := .sels :: .mate :: raiseParts) .refl).same .boot (by decide)
  split
  · obtain ⟨hfail, -⟩ := v.decideRole.startPowerFail_facts
    have hw : Writes [Attr.mate_role.id, Attr.mate_track_state.id] v v.decideRole.startPowerFail := hwrites.startPowerFail
    rw [hboot] at hfail
    exact ⟨congrArg (·.phase) hfail, congrArg (·.lastStep) hfail, congrArg (·.failingStep) hfail, congrArg (·.failCode) hfail,
      congrArg (·.gafferUp) hfail, hw.attr.trans hpower, hw.attr.trans hcause⟩
  · exact ⟨congrArg (·.phase) hboot, congrArg (·.lastStep) hboot, congrArg (·.failingStep) hboot, congrArg (·.failCode) hboot,
      congrArg (·.gafferUp) hboot, hwrites.attr.trans hpower, hwrites.attr.trans hcause⟩

/-! ### The steps that a module which starts up passes -/

/-- What decides whether the steps pass, and which no step before step 8 changes: the shadow flash, the image slots, the valid slots
and the stepping. -/
structure SameImages (s t : State) : Prop where
  pages : t.store.pages = s.store.pages
  valid : t.attr Attr.slot_valid = s.attr Attr.slot_valid
  stepping : t.attr Attr.soc_stepping = s.attr Attr.soc_stepping
  slots : t.boot.slotA = s.boot.slotA ∧ t.boot.slotB = s.boot.slotB

namespace SameImages

theorem trans (h : SameImages s t) (h' : SameImages t u) : SameImages s u :=
  ⟨h'.pages.trans h.pages, h'.valid.trans h.valid, h'.stepping.trans h.stepping, h'.slots.1.trans h.slots.1, h'.slots.2.trans h.slots.2⟩

theorem refl : SameImages s s := ⟨rfl, rfl, rfl, rfl, rfl⟩

theorem of_same {P : List Part} (h : s.sameBut t P) (hP : Part.store ∉ P ∧ Part.attrs ∉ P ∧ Part.boot ∉ P := by decide) : SameImages s t :=
  ⟨congrArg StoreUnit.pages (h .store hP.1), State.attr_of_attrs (h .attrs hP.2.1), State.attr_of_attrs (h .attrs hP.2.1),
    congrArg BootUnit.slotA (h .boot hP.2.2), congrArg BootUnit.slotB (h .boot hP.2.2)⟩

theorem setBoot {b : BootUnit} (ha : b.slotA = s.boot.slotA := by rfl) (hb : b.slotB = s.boot.slotB := by rfl) : SameImages s (s.setBoot b) :=
  ⟨rfl, rfl, rfl, ha, hb⟩

end SameImages

theorem StoreUnit.mark_pages (u : StoreUnit) (key now : Nat) : (u.mark key now).pages = u.pages := by
  unfold StoreUnit.mark
  split <;> rfl

theorem State.put_pages {a : AttrDesc} {i e : Nat} {v : Int} : (s.put a i e v).store.pages = s.store.pages := by
  unfold State.put
  split
  · rfl
  · change (if _ then _ else _ : StoreUnit).pages = _
    split
    · exact StoreUnit.mark_pages ..
    · rfl

theorem SameImages.put {a : AttrDesc} {i e : Nat} {v : Int} (hi : i < 65536 := by omega) (he : e < 65536 := by omega)
    (hv : Attr.slot_valid.id ≠ a.id := by decide) (hs : Attr.soc_stepping.id ≠ a.id := by decide) : SameImages s (s.put a i e v) :=
  ⟨State.put_pages, State.attr_put_ne s hv hi he, State.attr_put_ne s hs hi he, congrArg (·.slotA) (State.put_boot ..),
    congrArg (·.slotB) (State.put_boot ..)⟩

theorem SameImages.factoryLost (h : SameImages s t) : t.factoryLost = s.factoryLost := by
  simp only [State.factoryLost, State.page, h.pages]

theorem SameImages.slotBoots (h : SameImages s t) (env : BootEnv) (slot : Nat) : t.slotBoots env slot = s.slotBoots env slot := by
  simp only [State.slotBoots, State.acceptable, State.pairOk, State.imageSlot, State.attrN, h.valid, h.stepping, h.slots.1, h.slots.2]

theorem SameImages.startsUp (h : SameImages s t) {env : BootEnv} {slot : Nat} (hs : s.startsUp env slot) : t.startsUp env slot := by
  obtain ⟨hfail, hengines, hchannels, hfactory, hslot, hboots, hrecords⟩ := hs
  refine ⟨hfail, hengines, hchannels, h.factoryLost.trans hfactory, hslot, (h.slotBoots env slot).trans hboots, ?_⟩
  simpa only [State.page, h.pages] using hrecords

theorem State.stepTook_images {env : BootEnv} {k : Nat} : SameImages s (s.stepTook env k) :=
  .of_same (Evolves.stepTook (P := [.counter]) .refl).same

/-- Where nothing makes a step fail, the run goes on after it. -/
theorem State.runSteps_passes {env : BootEnv} {k : Nat} {f : State → State × Option Nat} {rest : List (Nat × (State → State × Option Nat))}
    (hfail : env.failAt = none) (hf : (f (s.stepTook env k)).2 = none) :
    s.runSteps env ((k, f) :: rest) = (f (s.stepTook env k)).1.runSteps env rest := by
  rw [State.runSteps, if_neg (by simp [hfail])]
  split
  · next h => rw [h] at hf; cases hf
  · next h => rw [h]

/-- Step 2 finds the shipping map where no repair record is VALID (R458). -/
theorem bootFuse_repair (h : ∀ b k, (s.page 66).pick = some b → k < 48 →
    bitOf (tblGet (if b then (s.page 66).b else (s.page 66).a).data 0 (Attr.repair_records.key 0 k)).toNat 22 = false) :
    (bootFuse s).1.repair = State.reset.repair := by
  let data := match (s.page 66).pick with
    | some b => (if b then (s.page 66).b else (s.page 66).a).data
    | none => []
  have hnone : (((List.range 48).map fun k => (tblGet data 0 (Attr.repair_records.key 0 k)).toNat).filter fun v => bitOf v 22) = [] := by
    refine List.filter_eq_nil_iff.mpr fun v hv => ?_
    obtain ⟨k, hk, rfl⟩ := List.mem_map.mp hv
    have hk : k < 48 := List.mem_range.mp hk
    cases hpick : (s.page 66).pick with
    | none => simp [data, hpick, bitOf]
    | some b => simpa [data, hpick] using h b k hpick hk
  show (((List.range 48).map fun k => (tblGet data 0 (Attr.repair_records.key 0 k)).toNat).filter fun v => bitOf v 22).foldl RepairUnit.apply
    State.reset.repair = _
  rw [hnone]
  rfl

theorem State.engineCount_of_repair (h : t.repair = s.repair) : t.engineCount = s.engineCount := by
  have hcluster : t.cluster = s.cluster := funext fun c => by rw [State.cluster, State.cluster, h]
  rw [State.engineCount, State.engineCount, State.engineList, State.engineList, hcluster]

theorem engineCount_reset : State.reset.engineCount = 128 := by decide +kernel

/-- Without a fault in the step, steps 1 to 4 leave the images and the shipping map (R393). -/
theorem bootRoot_images : SameImages s (bootRoot s).1 := by
  unfold bootRoot
  exact .trans (.trans .put .put) .setBoot

theorem bootTable_images {us : Nat} : SameImages s (bootTable us s).1 := by
  have htm : SameImages s { s with tm := { passFrom := s.counter } } := ⟨rfl, rfl, rfl, rfl, rfl⟩
  exact htm.trans .put

/-! The steps from the last to the first: what each needs in order to pass, and that what follows it passes then. -/

section Steps

variable {env : BootEnv} {named cause : Nat} {powerOn : Bool}

/-- The steps from step 8 on. -/
def stepsFrom8 (env : BootEnv) (powerOn : Bool) (cause : Nat) : List (Nat × (State → State × Option Nat)) :=
  [(8, bootRestore powerOn env.holdupMs), (9, bootConfig cause env.stepTimes)]

theorem started_from8 (hfail : env.failAt = none) (hs : s.factoryLost = false) : (s.runSteps env (stepsFrom8 env powerOn cause)).started cause := by
  have hfactory : (s.stepTook env 8).factoryLost = false := State.stepTook_images.factoryLost.trans hs
  have hpass : (bootRestore powerOn env.holdupMs (s.stepTook env 8)).2 = none := by rw [bootRestore, if_neg (by rw [hfactory]; decide)]
  rw [stepsFrom8, State.runSteps_passes hfail hpass, State.runSteps_passes hfail (by rw [bootConfig]), bootConfig, State.runSteps]
  dsimp only
  exact State.bootEnds_started

/-- The steps from step 6 on, of a self-test without a failure. -/
def stepsFrom6 (env : BootEnv) (named : Nat) (powerOn : Bool) (cause : Nat) : List (Nat × (State → State × Option Nat)) :=
  (6, bootGaffer env named) :: (7, bootVernier []) :: stepsFrom8 env powerOn cause

/-- Step 6 runs the named slot (R401). -/
theorem bootGaffer_named (h : s.slotBoots env named = true) : bootGaffer env named s = (s.bootSlot named, none) := if_pos h

theorem bootSlot_images {slot : Nat} : (s.bootSlot slot).factoryLost = s.factoryLost := by
  have hpages : (s.bootSlot slot).store.pages = s.store.pages := by
    unfold State.bootSlot State.put1
    rw [State.put_pages, State.put_pages, State.put_pages, State.put_pages, State.put_pages]
  simp only [State.factoryLost, State.page, hpages]

theorem started_from6 (hs : s.startsUp env named) : (s.runSteps env (stepsFrom6 env named powerOn cause)).started cause := by
  obtain ⟨hfail, -, -, hfactory, -, hboots, -⟩ := (State.stepTook_images (env := env) (k := 6)).startsUp hs
  have hgaffer := bootGaffer_named hboots
  have hvernier : ∀ u : State, bootVernier [] u = (u, none) := fun _ => rfl
  rw [stepsFrom6, State.runSteps_passes hfail (by rw [hgaffer]), hgaffer, State.runSteps_passes hfail (by rw [hvernier]), hvernier]
  exact started_from8 hfail ((State.stepTook_images.factoryLost.trans bootSlot_images).trans hfactory)

/-- The steps from step 3 on, of a self-test without a failure. -/
def stepsFrom3 (env : BootEnv) (named : Nat) (powerOn : Bool) (cause : Nat) : List (Nat × (State → State × Option Nat)) :=
  (3, bootBist) :: (4, bootTable (env.stepTimes.getD 3 0)) :: (5, bootEngines []) :: stepsFrom6 env named powerOn cause

theorem State.stepTook_repair {k : Nat} : (s.stepTook env k).repair = s.repair :=
  (Evolves.stepTook (P := [.counter]) .refl).same .repair (by decide)

theorem bootTable_repair {us : Nat} : (bootTable us s).1.repair = s.repair :=
  (Evolves.bootTable (P := [.attrs, .tm, .store]) .refl).same .repair (by decide)

/-- Enough engines are in service for step 5 (R450). -/
theorem bootEngines_none (h : s.engineCount = 128) : bootEngines [] s = (s, none) := by
  rw [bootEngines, State.forEach, h]
  rfl

theorem started_from3 (hs : s.startsUp env named) (hmap : s.repair = State.reset.repair) :
    (s.runSteps env (stepsFrom3 env named powerOn cause)).started cause := by
  obtain ⟨hfail, -⟩ := id hs
  have hbist : ∀ u : State, bootBist u = (u, none) := fun _ => rfl
  have htable : ∀ (n : Nat) (u : State), (bootTable n u).2 = none := fun _ _ => rfl
  rw [stepsFrom3, State.runSteps_passes hfail (by rw [hbist]), hbist, State.runSteps_passes hfail (htable _ _)]
  have hstarts : ∀ n, (bootTable n ((s.stepTook env 3).stepTook env 4)).1.startsUp env named := fun n =>
    bootTable_images.startsUp (State.stepTook_images.startsUp (State.stepTook_images.startsUp hs))
  have hrepair : ∀ n, ((bootTable n ((s.stepTook env 3).stepTook env 4)).1.stepTook env 5).repair = State.reset.repair := fun n => by
    rw [State.stepTook_repair, bootTable_repair, State.stepTook_repair, State.stepTook_repair, hmap]
  have hengines : ∀ n, bootEngines [] ((bootTable n ((s.stepTook env 3).stepTook env 4)).1.stepTook env 5) =
      ((bootTable n ((s.stepTook env 3).stepTook env 4)).1.stepTook env 5, none) := fun n =>
    bootEngines_none ((State.engineCount_of_repair (hrepair n)).trans engineCount_reset)
  rw [State.runSteps_passes hfail (by rw [hengines]), hengines]
  exact started_from6 (State.stepTook_images.startsUp (hstarts _))

/-- The power-up sequence of a module that nothing stops reaches its end (R393 to R396). -/
theorem State.powerUp_started {slot : Nat} (hnamed : (if slot ≤ 1 then slot else s.attrN Attr.boot_slot % 2) = named)
    (hs : s.startsUp env named) : (s.powerUp env powerOn slot cause).started cause := by
  obtain ⟨hfail, hengines, hchannels, -⟩ := id hs
  have hsteps : bootSteps env powerOn named cause = (1, bootRoot) :: (2, bootFuse) :: stepsFrom3 env named powerOn cause := by
    rw [bootSteps, hengines, hchannels]
    rfl
  have hroot : ∀ u : State, (bootRoot u).2 = none := fun _ => rfl
  have hfuse : ∀ u : State, (bootFuse u).2 = none := fun _ => rfl
  have h2 : ((bootRoot (s.stepTook env 1)).1.stepTook env 2).startsUp env named :=
    State.stepTook_images.startsUp (bootRoot_images.startsUp (State.stepTook_images.startsUp hs))
  obtain ⟨-, -, -, -, -, -, hrecords⟩ := id h2
  rw [State.powerUp, hnamed, hsteps, State.runSteps_passes hfail (hroot _), State.runSteps_passes hfail (hfuse _)]
  exact started_from3 ((SameImages.of_same (Evolves.bootFuse (P := [.repair]) .refl).same).startsUp h2) (bootFuse_repair hrecords)

end Steps

/-- A failed first step ends in safe-talk (R394, R402). -/
theorem State.powerUp_fails {env : BootEnv} {powerOn : Bool} {slot cause : Nat} (hfail : env.failAt = some 0) :
    (s.powerUp env powerOn slot cause).boot.phase = .safeTalk ∧ (s.powerUp env powerOn slot cause).boot.failingStep = 1 := by
  let v := s.stepTook env 1
  have heq : s.powerUp env powerOn slot cause = v.bootFails 1 (stepCode 1 env.failCode) := by
    rw [State.powerUp, bootSteps, State.runSteps, if_pos (by rw [hfail]; rfl)]
  have hboot : (v.bootFails 1 (stepCode 1 env.failCode)).boot =
      { v.boot with phase := .safeTalk, gafferUp := true, lastStep := 0, failingStep := 1, failCode := stepCode 1 env.failCode, endCounter := v.counter } := by
    unfold State.bootFails
    simp only
    split
    · rw [State.raise_boot, State.put1_boot]
      rfl
    · rw [State.put1_boot]
      rfl
  rw [heq, hboot]
  exact ⟨rfl, rfl⟩

/-! ### RESET_N and the supply -/

theorem exec_resetNAsserted (hon : s.boot.phase ≠ .off) : exec .resetNAsserted s = .next (s.cleared false true .held) :=
  congrArg Host.Outcome.next (if_pos (by simp [hon]))

/-- A reset leaves no ring, no command in flight, no latch and no armed slot. -/
theorem State.cleared_facts {powerOn clear : Bool} {phase : Phase} : (∀ c, (s.cleared powerOn clear phase).ring c = {}) ∧
    (s.cleared powerOn clear phase).host.inflight = [] ∧ (∀ ev, (s.cleared powerOn clear phase).latch ev = {}) ∧
    (s.cleared powerOn clear phase).arms = [] := by
  have hhost : (s.cleared powerOn clear phase).host = {} := (State.crucibleAttrs_sameBut _) .host (by decide)
  have hfaults : (s.cleared powerOn clear phase).faults = {} := (State.crucibleAttrs_sameBut _) .faults (by decide)
  have harms : (s.cleared powerOn clear phase).arms = [] := (State.crucibleAttrs_sameBut _) .arms (by decide)
  exact ⟨fun c => by rw [State.ring, hhost]; rfl, by rw [hhost], fun ev => by rw [State.latch, hfaults]; rfl, harms⟩

theorem exec_resetNReleased {env : BootEnv} (hheld : s.boot.phase = .held) :
    exec (.resetNReleased env) s = .next (s.powerUp env false 255 1) :=
  congrArg Host.Outcome.next (if_pos (by simp [hheld]))

/-- The module as VMAIN is applied (R393, R404). -/
def State.supplyApplied (s : State) : State :=
  s.setBoot { s.boot with phase := .held, vmain := true, onHoldup := false, pfLow := false, heaters := true }

theorem exec_vmainApplied {env : BootEnv} (hoff : s.boot.phase = .off) :
    exec (.vmainApplied env) s = .next (s.supplyApplied.powerUp env true 255 0) :=
  congrArg Host.Outcome.next (if_pos (by simp [hoff]))

/-! ### The host link -/

theorem State.raise_inflight {ev d : Nat} {c : Bool} {x : List ScopeItem} : (s.raise ev c d x).host.inflight = s.host.inflight := by
  have hdrop : ∀ (l : List Issuer) (u : State), (u.dropSends l).host.inflight = u.host.inflight := by
    intro l
    induction l with
    | nil => intro u; rfl
    | cons w ws ih => intro u; rw [State.dropSends, ih]; simp
  have hfail : ∀ (l : List Issuer) (u : State), (u.failSends l).host.inflight = u.host.inflight := by
    intro l
    induction l with
    | nil => intro u; rfl
    | cons w ws ih => intro u; rw [State.failSends, ih]; simp
  have hframes : ∀ (u : State) (p : Nat), (u.dropFrames p).host.inflight = u.host.inflight := by
    intro u p
    simp [State.dropFrames, hdrop, hfail]
  have hidle : ∀ u t : State, (State.idlePorts t u).host.inflight = u.host.inflight := by
    intro u t
    refine State.forEach_keeps (fun u : State => u.host.inflight) _ (fun u n => ?_) _ _
    split
    · exact hframes u n
    · rfl
  unfold State.raise
  simp only
  split
  · rw [hidle, State.countSafe_host, State.occur_host]
  · rw [State.occur_host]

theorem State.subs_of (h : t.faults.standing = s.faults.standing) : t.faults.subs = s.faults.subs := congrArg (·.2.2.2.2.2) h

/-- An interface reset returns every ring and every subscription (R312, R336). -/
theorem State.hostReset_facts (s : State) : (∀ c, s.hostReset.ring c = {}) ∧ s.hostReset.host.inflight = [] ∧ s.hostReset.faults.subs = [] ∧
    (s.hostReset.latch 521).latched = true ∧ s.hostReset.counter = s.counter := by
  have hrings : s.hostReset.host.rings = [] := (State.raise_rings ..).trans (congrArg (·.rings) (State.uncause_host ..))
  have hinflight : s.hostReset.host.inflight = [] := State.raise_inflight.trans (congrArg (·.inflight) (State.uncause_host ..))
  have hsubs : s.hostReset.faults.subs = [] := (State.subs_of (State.raise_standing ..)).trans (State.subs_of (State.uncause_standing ..))
  exact ⟨fun c => by rw [State.ring, hrings]; rfl, hinflight, hsubs, State.raise_latched, (State.raise_counter ..).trans (State.uncause_counter ..)⟩

/-- An error of the link is one occurrence of its source (R341). -/
theorem State.raise_framedRaise {ev : Nat} : s.framedRaise (s.raise ev) [] [] :=
  State.framedRaise_of (Evolves.raise .refl) (.raise State.attrsKept_refl)

theorem hostReset_execs (hup : s.hostUp = true) : exec .perstNAsserted s = .next s.hostReset ∧ exec .pcieHotReset s = .next s.hostReset ∧
    exec .pcieFlr s = .next s.hostReset :=
  ⟨congrArg Host.Outcome.next (if_pos hup), congrArg Host.Outcome.next (if_pos hup), congrArg Host.Outcome.next (if_pos hup)⟩

theorem pcieCorrectableErrors_facts (hup : s.hostUp = true) : ∃ t, exec .pcieCorrectableErrors s = .next t ∧
    (if s.onceDue 523 then (t.latch 523).latched = true ∧ s.framedRaise t [] [] else t = s) := by
  refine ⟨s.raiseOnce 523, congrArg Host.Outcome.next (if_pos hup), ?_⟩
  by_cases hdue : s.onceDue 523 = true
  · rw [if_pos hdue]
    refine ⟨State.raiseOnce_latched hdue, State.framedRaise_of (Evolves.raiseOnce .refl) (.raiseOnce State.attrsKept_refl) ?_⟩
    rw [State.raiseOnce, if_pos hdue, State.raise_rings]
    rfl
  · rw [if_neg hdue, State.raiseOnce, if_neg hdue]

/-- Settles O54. A module that nothing stops passes the steps one by one; `SameImages` says what none of the first seven changes. -/
theorem resetsAndStartUp : Obligations.ResetsAndStartUp := by
  refine ⟨fun s hon => ?_, fun s env hheld => ⟨fun hs => ⟨_, exec_resetNReleased hheld, State.powerUp_started rfl hs⟩,
      fun hfail => ⟨_, exec_resetNReleased hheld, State.powerUp_fails hfail⟩⟩,
    fun s env hoff => ⟨fun hs => ⟨_, exec_vmainApplied hoff, State.powerUp_started rfl (SameImages.startsUp .setBoot hs)⟩,
      fun hfail => ⟨_, exec_vmainApplied hoff, State.powerUp_fails hfail⟩⟩, fun s hup => ?_⟩
  · obtain ⟨hrings, hinflight, hlatches, harms⟩ := s.cleared_facts (powerOn := false) (clear := true) (phase := .held)
    exact ⟨_, exec_resetNAsserted hon, State.cleared_counter, State.cleared_phase, hrings, hinflight, hlatches, harms, State.cleared_pending⟩
  · obtain ⟨hperst, hhot, hflr⟩ := hostReset_execs hup
    exact ⟨⟨_, hperst, s.hostReset_facts⟩, ⟨_, hhot, s.hostReset_facts⟩, ⟨_, hflr, s.hostReset_facts⟩,
      ⟨_, congrArg Host.Outcome.next (if_pos hup), State.raise_latched, State.raise_framedRaise⟩, pcieCorrectableErrors_facts hup,
      ⟨_, congrArg Host.Outcome.next (if_pos hup), State.raise_latched, State.raise_framedRaise⟩⟩

end Sys2Proof.Machine
end

section
/-! Restarts by command and of the control plane (R336, R352, R402, R407 to R412, R497). -/

set_option Elab.async false

namespace Sys2Proof.Machine

variable {s t u : State} {ids : List Nat}

/-! ### Completions that wait -/

/-- What an operation that only occurs, sets and reports leaves of the commands: those in flight, every completion that waits, and
what no occurrence changes in the collector. -/
structure Carries (s t : State) : Prop where
  inflight : t.host.inflight = s.host.inflight
  completed : s.host.completed ⊆ t.host.completed
  standing : t.faults.standing = s.faults.standing

namespace Carries

theorem refl : Carries s s := ⟨rfl, List.Subset.refl _, rfl⟩
theorem trans (h : Carries s t) (h' : Carries t u) : Carries s u :=
  ⟨h'.inflight.trans h.inflight, List.Subset.trans h.completed h'.completed, h'.standing.trans h.standing⟩

theorem of_same (h : Carries s t) {P : List Part} (hu : t.sameBut u P) (hP : Part.host ∉ P ∧ Part.faults ∉ P := by decide) : Carries s u := by
  have hhost : u.host = t.host := hu .host hP.1
  exact h.trans ⟨congrArg (·.inflight) hhost, fun _ hd => hhost ▸ hd, congrArg FaultUnit.standing (hu .faults hP.2)⟩

theorem ite {c : Prop} [Decidable c] (h : Carries s t) (h' : Carries s u) : Carries s (if c then t else u) := by
  split
  · exact h
  · exact h'

theorem forEach (h : Carries s t) {f : State → Nat → State} {l : List Nat} (hf : ∀ u n, Carries u (f u n)) : Carries s (t.forEach l f) := by
  induction l generalizing t with
  | nil => exact h
  | cons n ns ih => exact ih (h.trans (hf t n))

theorem foldl {α : Type} (h : Carries s t) {f : State → α → State} {l : List α} (hf : ∀ u a, Carries u (f u a)) : Carries s (l.foldl f t) := by
  induction l generalizing t with
  | nil => exact h
  | cons a l ih => exact ih (h.trans (hf t a))

theorem withRepair (h : Carries s t) {r : RepairUnit} : Carries s { t with repair := r } := ⟨h.inflight, h.completed, h.standing⟩

theorem setGen (h : Carries s t) {g : Nat} {r : GenRec} : Carries s (t.setGen g r) := h.of_same (P := [.gens]) (Evolves.setGen .refl).same

theorem uncause (h : Carries s t) {ev : Nat} : Carries s (t.uncause ev) :=
  h.trans ⟨congrArg (·.inflight) (State.uncause_host ..), fun _ hd => (State.uncause_host t ev) ▸ hd, State.uncause_standing ..⟩

end Carries

theorem State.completed_complete {w : Issuer} {op st g : Nat} {r : List Byte} {l : Option Nat} :
    s.host.completed ⊆ (s.complete w op st r l g).host.completed := by
  unfold State.complete
  cases w with
  | ring c g =>
    simp only
    split
    · exact List.Subset.refl _
    · exact List.subset_append_left ..
  | spi => exact List.subset_append_left ..
  | console => exact List.Subset.refl _

theorem State.completed_finish {w : Issuer} {op st i a : Nat} {r : List Byte} {l : Option Nat} :
    s.host.completed ⊆ (s.finish w op st i r l a).host.completed := by
  unfold State.finish
  refine List.Subset.trans ?_ State.completed_complete
  split <;> simp

theorem State.forEach_completed {f : State → Nat → State} {l : List Nat} (hf : ∀ u n, u.host.completed ⊆ (f u n).host.completed) (s : State) :
    s.host.completed ⊆ (s.forEach l f).host.completed := by
  induction l generalizing s with
  | nil => exact List.Subset.refl _
  | cons n ns ih => exact List.Subset.trans (hf s n) (ih _)

theorem State.completed_raise {ev d : Nat} {c : Bool} {x : List ScopeItem} : s.host.completed ⊆ (s.raise ev c d x).host.completed := by
  have hdrop : ∀ (l : List Issuer) (u : State), u.host.completed ⊆ (u.dropSends l).host.completed := by
    intro l
    induction l with
    | nil => intro u; exact List.Subset.refl _
    | cons w ws ih =>
      intro u
      refine List.Subset.trans ?_ (ih _)
      refine List.Subset.trans ?_ State.completed_complete
      simp
  have hfail : ∀ (l : List Issuer) (u : State), u.host.completed ⊆ (u.failSends l).host.completed := by
    intro l
    induction l with
    | nil => intro u; exact List.Subset.refl _
    | cons w ws ih => intro u; exact List.Subset.trans State.completed_finish (ih _)
  have hframes : ∀ (u : State) (p : Nat), u.host.completed ⊆ (u.dropFrames p).host.completed := by
    intro u p
    refine List.Subset.trans ?_ (hfail _ _)
    refine List.Subset.trans ?_ (hdrop _ _)
    simp
  have hidle : ∀ u t : State, u.host.completed ⊆ (State.idlePorts t u).host.completed := by
    intro u t
    refine State.forEach_completed (fun v n => ?_) u
    split
    · exact hframes v n
    · exact List.Subset.refl _
  unfold State.raise
  simp only
  split
  · refine List.Subset.trans ?_ (hidle _ _)
    rw [State.countSafe_host, State.occur_host]
    exact List.Subset.refl _
  · rw [State.occur_host]
    exact List.Subset.refl _

theorem Carries.raise (h : Carries s t) {ev d : Nat} {c : Bool} {x : List ScopeItem} : Carries s (t.raise ev c d x) :=
  h.trans ⟨State.raise_inflight, State.completed_raise, State.raise_standing ..⟩

theorem Carries.put (h : Carries s t) {a : AttrDesc} {i e : Nat} {v : Int} : Carries s (t.put a i e v) :=
  h.of_same (P := [.attrs, .store]) (Evolves.put .refl).same

theorem Carries.retz (h : Carries s t) {d : Nat} : Carries s (t.retz d) := by
  have hclear : ∀ (u : State) g, Carries u (u.clearDate g) := fun u g => by
    unfold State.clearDate
    exact .ite (.ite Carries.refl.setGen Carries.refl.setGen.uncause) .refl
  have hjudge : ∀ (u : State) g, Carries u (u.judgeDate g) := fun u g => by
    unfold State.judgeDate
    exact .ite (hclear u g) (.ite .refl Carries.refl.setGen.raise)
  have hfollow : Carries t (t.followZone d) := by
    unfold State.followZone
    have hlag : ∀ (u : State), Carries u (u.forEach ([14, 15].filter fun g => t.genDomain g == d && (t.gen g).tzLag.isSome) fun x g =>
        x.setGen g { x.gen g with tzLag := none }) := fun u => .forEach .refl fun _ _ => Carries.refl.setGen
    refine .ite (.ite (hlag t) ?_) .refl
    unfold State.tzExhausted
    have hset : ∀ r, Carries t ((t.forEach ([14, 15].filter fun g => t.genDomain g == d && (t.gen g).tzLag.isSome) fun x g =>
        x.setGen g { x.gen g with tzLag := none }).setDom d r) := fun r => (hlag t).of_same (P := [.doms]) (Evolves.setDom .refl).same
    exact .ite (hset _).raise (hset _)
  unfold State.retz State.judgeDates
  exact (h.trans hfollow).forEach hjudge

/-! ### E_RESTARTED (R336) -/

/-- Every command in flight completes with E_RESTARTED. -/
def State.allRestarted (s t : State) : Prop :=
  ∀ f ∈ s.host.inflight, ∃ d ∈ t.host.completed, d.status = E_RESTARTED ∧ d.opcode = f.opcode

theorem State.allRestarted_of (h : s.allRestarted t) (hi : u.host.inflight = s.host.inflight) {v : State} (hc : Carries t v) : u.allRestarted v := by
  intro f hf
  obtain ⟨d, hd, hstatus, hop⟩ := h f (hi ▸ hf)
  exact ⟨d, hc.completed hd, hstatus, hop⟩

theorem State.restartTags_allRestarted (s : State) : s.allRestarted s.restartTags := by
  intro f hf
  let d : Done :=
    { who := .ring (Fin.ofNat 512 f.client) (Fin.ofNat 2048 f.tag), opcode := f.opcode, slot := f.slot, status := E_RESTARTED, result := [], resultLen := 0 }
  refine ⟨d, ?_, rfl, rfl⟩
  unfold State.restartTags
  simp only
  have hd : ∀ l : List Done, d ∈ l ++ s.host.inflight.map (fun f =>
      ({ who := .ring (Fin.ofNat 512 f.client) (Fin.ofNat 2048 f.tag), opcode := f.opcode, slot := f.slot, status := E_RESTARTED, result := [],
         resultLen := 0 } : Done)) := fun l => List.mem_append_right _ (List.mem_map.mpr ⟨f, hf, rfl⟩)
  split
  · exact hd _
  · exact State.completed_raise (hd _)

/-! ### Holax serves again (R336, R409, R410) -/

/-- The module before the tags of a restart return. -/
def State.serving (s : State) : State := s.settleSlots.setBoot { s.boot with gafferUp := true, warmRunning := false }

theorem State.serveAgain_facts (s : State) : s.serveAgain.boot = { s.boot with gafferUp := true, warmRunning := false } ∧
    s.serveAgain.faults.feedMissed = false ∧ s.allRestarted s.serveAgain ∧ s.serveAgain.counter = s.counter := by
  have hsettle : s.sameBut s.settleSlots [.pmcs] := (Evolves.settleSlots .refl).same
  have hinflight : s.serving.host.inflight = s.host.inflight := congrArg (·.inflight) (hsettle .host (by decide))
  have hretz : Carries s.serving.restartTags.feedAlive s.serveAgain := .forEach .refl fun _ _ => .retz .refl
  have hfeed : s.serving.restartTags.feedAlive.host = s.serving.restartTags.host := State.uncause_host ..
  have hparts : s.serving.sameBut s.serveAgain (.doms :: .gens :: raiseParts) :=
    ((Evolves.refl.restartTags.feedAlive).forEach fun _ _ => Evolves.refl.retz).same
  have hall : s.serving.allRestarted s.serveAgain := fun f hf => by
    obtain ⟨d, hd, h⟩ := s.serving.restartTags_allRestarted f hf
    exact ⟨d, hretz.completed (hfeed ▸ hd), h⟩
  refine ⟨hparts .boot (by decide), (State.feedMissed_of hretz.standing).trans State.feedAlive_keeps.2.2,
    State.allRestarted_of hall hinflight.symm .refl, (hparts .counter (by decide)).trans (hsettle .counter (by decide))⟩

theorem exec_gafferRestartComplete (hrun : s.boot.phase = .running) (hdown : s.boot.gafferUp = false) (hwarm : s.boot.warmRunning = false) :
    exec .gafferRestartComplete s = .next s.serveAgain :=
  congrArg Host.Outcome.next (if_pos (by simp [hrun, hdown, hwarm]))

/-! ### Gaffer failures (R407, R410) -/

theorem State.closeFw_facts (s : State) : s.closeFw.boot = { s.boot with fw := none } ∧ s.closeFw.host = s.host ∧ s.closeFw.faults = s.faults ∧
    s.closeFw.counter = s.counter ∧ s.closeFw.out = s.out ∧ Writes [Attr.fw_update.id] s s.closeFw := by
  unfold State.closeFw
  split
  · next u hu =>
    have hrest : (s.setBoot { s.boot with fw := none }).sameBut ((s.setBoot { s.boot with fw := none }).noteFw 3 u) [.attrs, .store] := by
      unfold State.noteFw
      exact (Evolves.refl.put.put).same
    refine ⟨hrest .boot (by decide), hrest .host (by decide), hrest .faults (by decide), hrest .counter (by decide), hrest .out (by decide), ?_⟩
    unfold State.noteFw
    exact ((Writes.refl.of_eq).put).put
  · next hnone =>
    refine ⟨?_, rfl, rfl, rfl, rfl, .refl⟩
    rw [← hnone]

theorem State.dropSramInjection_facts (s : State) (p : Nat → Bool) : s.sameBut (s.dropSramInjection p) [.faults] ∧
    (∀ ev, (s.dropSramInjection p).latch ev = s.latch ev) := by
  refine ⟨(Evolves.dropSramInjection .refl).same, fun ev => ?_⟩
  unfold State.dropSramInjection
  split
  · split <;> rfl
  · rfl

/-- What a restart of the Gaffer leaves: 482 latched, no update open, and the restart counted (R336, R410). -/
theorem State.gafferRestart_facts (s : State) : s.gafferRestart.boot.gafferUp = false ∧ s.gafferRestart.boot.fw = none ∧
    (s.gafferRestart.latch 482).latched = true ∧ (∀ ev, ev ∉ bookSources → (s.latch ev).latched = true → (s.gafferRestart.latch ev).latched = true) ∧
    s.gafferRestart.attr Attr.gaffer_restarts = (s.attr Attr.gaffer_restarts + 1) % (256 ^ Attr.gaffer_restarts.bytes : Nat) ∧
    s.gafferRestart.counter = s.counter := by
  let r := s.raise 482
  let d := r.dropSramInjection fun a => a == 0
  let t := d.bump Attr.gaffer_restarts
  let v := t.setBoot { t.boot with gafferUp := false }
  have heq : s.gafferRestart = v.closeFw := rfl
  obtain ⟨hboot, -, hfaults, hcounter, -, hwrites⟩ := v.closeFw_facts
  obtain ⟨hdrop, hlatch⟩ := r.dropSramInjection_facts fun a => a == 0
  have hkept : ∀ ev, v.closeFw.latch ev = r.latch ev := fun ev =>
    (State.latch_of_faults hfaults ev).trans ((State.latch_of_faults (State.bump_faults ..) ev).trans (hlatch ev))
  have hattrs : d.attr Attr.gaffer_restarts = r.attr Attr.gaffer_restarts := State.attr_of_attrs (hdrop .attrs (by decide))
  have hraise : r.attr Attr.gaffer_restarts = s.attr Attr.gaffer_restarts := State.raise_attr s (by decide) (by decide) (by decide) ..
  have hcount : v.attr Attr.gaffer_restarts = (d.attr Attr.gaffer_restarts + 1) % (256 ^ Attr.gaffer_restarts.bytes : Nat) :=
    (State.attr_of_attrs (State.setBoot_attrs ..)).trans (State.attr_bump_same d)
  rw [heq, hboot]
  refine ⟨rfl, rfl, ?_, fun ev hev hl => ?_, ?_, ?_⟩
  · rw [hkept]
    exact State.raise_latched
  · rw [hkept]
    exact State.raise_keepsLatched hev hl
  · rw [hwrites.attr, hcount, hattrs, hraise]
  · have hv : v.counter = t.counter := State.setBoot_counter ..
    have ht : t.counter = d.counter := State.bump_counter ..
    rw [hcounter, hv, ht]
    exact (hdrop .counter (by decide)).trans (State.raise_counter ..)

theorem exec_gafferWatchdogExpiry (hrun : s.boot.phase = .running) : exec .gafferWatchdogExpiry s = .next (s.raise 481).gafferRestart :=
  congrArg Host.Outcome.next (if_pos (by simp [hrun]))

theorem exec_gafferLockstepMismatch (hrun : s.boot.phase = .running) : exec .gafferLockstepMismatch s = .next (s.raise 480).gafferRestart :=
  congrArg Host.Outcome.next (if_pos (by simp [hrun]))

/-! ### Commands that complete before they act (R352) -/

theorem State.completeFirst_parts {who : Issuer} {op inst : Nat} : s.sameBut (s.completeFirst who op inst) bookParts :=
  (Evolves.completeFirst .refl).same

theorem State.tenMs_counter : s.tenMs.counter = if s.counting then s.counter + 13500000 else s.counter := by
  unfold State.tenMs
  split
  · exact Nat.max_eq_right (Nat.le_add_right ..)
  · rfl

theorem State.tenMs_parts : s.sameBut s.tenMs [.counter] := (Evolves.tenMs .refl).same

/-- The module once the completion is written and the 10 ms have passed. -/
def State.completedFirst (s : State) (who : Issuer) (op : Nat) : State := (s.completeFirst who op 0).tenMs

theorem State.completedFirst_facts (s : State) (who : Issuer) (op : Nat) : (s.completedFirst who op).boot = s.boot ∧
    (s.completedFirst who op).counter = (if s.counting then s.counter + 13500000 else s.counter) ∧ (s.completedFirst who op).pending = s.pending := by
  have hfirst := State.completeFirst_parts (s := s) (who := who) (op := op) (inst := 0)
  have hboot : (s.completeFirst who op 0).boot = s.boot := hfirst .boot (by decide)
  refine ⟨(State.tenMs_parts .boot (by decide)).trans hboot, ?_, (State.tenMs_parts .pending (by decide)).trans (hfirst .pending (by decide))⟩
  rw [State.completedFirst, State.tenMs_counter, State.counting, hboot, hfirst .counter (by decide)]
  rfl

theorem State.answered_of {who : Issuer} {op st : Nat} (h : t.answered who op st) (hh : u.host = t.host) (ho : u.out = t.out) :
    u.answered who op st := by
  unfold State.answered at h ⊢
  rw [hh, ho]
  exact h

/-- SPI lite and the console have their completion at once. -/
theorem State.completedFirst_answered {who : Issuer} {op : Nat} (hs : s.serves who) (hface : who = .spi ∨ who = .console) :
    (s.completedFirst who op).answered who op 0 := by
  have hfinish : s.completeFirst who op 0 = s.finish who op 0 0 := by
    rcases hface with rfl | rfl <;> rfl
  have hanswer : (s.finish who op 0 0).answered who op 0 := State.finish_answered _ who op 0 0 _ _ _ (State.serves_clear hs)
  rw [State.completedFirst, hfinish]
  exact State.answered_of hanswer (State.tenMs_parts .host (by decide)) (State.tenMs_parts .out (by decide))

/-! ### SYSTEM.WARM_RESET (R352, R409, R412) -/

theorem State.haltControl_facts (s : State) : s.haltControl.boot = { s.boot with gafferUp := false, warmRunning := true, warmDue := false, fw := none } ∧
    s.haltControl.host = s.host ∧ s.haltControl.out = s.out ∧ s.haltControl.counter = s.counter := by
  let t := s.settleSlots.setBoot { s.boot with gafferUp := false, warmRunning := true, warmDue := false }
  have hsettle : s.sameBut s.settleSlots [.pmcs] := (Evolves.settleSlots .refl).same
  obtain ⟨hdrop, -⟩ := t.dropSramInjection_facts fun a => decide (a = 0 ∨ 2 ≤ a ∧ a ≤ 17)
  obtain ⟨hboot, hhost, -, hcounter, hout, -⟩ := (t.dropSramInjection fun a => decide (a = 0 ∨ 2 ≤ a ∧ a ≤ 17)).closeFw_facts
  have hdropped : (t.dropSramInjection fun a => decide (a = 0 ∨ 2 ≤ a ∧ a ≤ 17)).boot = t.boot := (hdrop .boot (by decide))
  rw [hdropped] at hboot
  exact ⟨hboot, hhost.trans ((hdrop .host (by decide)).trans (hsettle .host (by decide))),
    hout.trans ((hdrop .out (by decide)).trans (hsettle .out (by decide))),
    hcounter.trans ((hdrop .counter (by decide)).trans (hsettle .counter (by decide)))⟩

theorem exec_warmReset {who : Issuer} (hs : s.serves who) (howner : issuerClient who = 0) : exec (.warmReset who) s = .next (
    if (s.completedFirst who 0x0102).boot.transition.isSome then
      (s.completedFirst who 0x0102).setBoot { (s.completedFirst who 0x0102).boot with warmDue := true }
    else (s.completedFirst who 0x0102).haltControl) :=
  congrArg Host.Outcome.next (State.act_ok _ hs.1 rfl (s.permits_owner0 howner) rfl)

theorem warmReset_facts {who : Issuer} (hs : s.serves who) (howner : issuerClient who = 0) : ∃ t, exec (.warmReset who) s = .next t ∧
    (if s.boot.transition = none then t.boot.gafferUp = false ∧ t.boot.warmRunning = true ∧ t.boot.fw = none
     else t.boot.warmDue = true ∧ t.boot.transition = s.boot.transition) ∧
    (who = .spi ∨ who = .console → t.answered who 0x0102 0) ∧
    t.counter = (if s.counting then s.counter + 13500000 else s.counter) := by
  obtain ⟨hboot, hcounter, -⟩ := s.completedFirst_facts who 0x0102
  refine ⟨_, exec_warmReset hs howner, ?_⟩
  by_cases hidle : s.boot.transition = none
  · obtain ⟨hhalt, hhost, hout, hhaltc⟩ := (s.completedFirst who 0x0102).haltControl_facts
    have hnot : ¬ (s.completedFirst who 0x0102).boot.transition.isSome = true := by rw [hboot, hidle]; decide
    rw [if_neg hnot, if_pos hidle, hhalt]
    exact ⟨⟨rfl, rfl, rfl⟩, fun hface => State.answered_of (State.completedFirst_answered hs hface) hhost hout, hhaltc.trans hcounter⟩
  · have hsome : (s.completedFirst who 0x0102).boot.transition.isSome = true := by rw [hboot]; exact Option.isSome_iff_ne_none.mpr hidle
    rw [if_pos hsome, if_neg hidle]
    exact ⟨⟨rfl, congrArg (·.transition) hboot⟩,
      fun hface => State.answered_of (State.completedFirst_answered hs hface) rfl rfl, hcounter⟩

/-! ### WARM_RESET_COMPLETE (R402, R408, R409) -/

/-- The start-up record once a step has failed (R394, R402). -/
theorem State.bootFails_boot {k code : Nat} : (s.bootFails k code).boot =
    { s.boot with phase := .safeTalk, gafferUp := true, lastStep := k - 1, failingStep := k, failCode := code, endCounter := s.counter } := by
  unfold State.bootFails
  simp only
  split
  · rw [State.raise_boot, State.put1_boot]
    rfl
  · rw [State.put1_boot]
    rfl

theorem State.warmFails_facts {k code : Nat} : (s.warmFails k code).boot.phase = .safeTalk ∧ (s.warmFails k code).boot.failingStep = k ∧
    (s.warmFails k code).boot.failCode = code ∧ (s.warmFails k code).counter = s.counter := by
  let t := s.setBoot { s.boot with warmRunning := false }
  let u := (List.range 4).foldl (fun (x : State) p => if x.portUp p then x.linkDown p false else x) t
  let v := (u.bootFails k code).setMate { u.mate with claim := false, roleAct := false, deciding := false, takeover := none }
  have heq : s.warmFails k code = v.restartTags := rfl
  have hboot : v.restartTags.boot = (u.bootFails k code).boot := (Evolves.restartTags (P := raiseParts) .refl).same .boot (by decide)
  rw [heq, hboot, State.bootFails_boot]
  exact ⟨rfl, rfl, rfl, heq ▸ (Evolves.warmFails (P := .boot :: .mate :: raiseParts) .refl).same .counter (by decide)⟩

/-- The control plane after a warm reset that its images pass (R409). -/
def State.warmServes (s : State) : State :=
  ((s.flushRecords.forEach s.flushRecords.domains State.placeTasks).serveAgain.put1 Attr.reset_cause 0 4).raise 488

theorem exec_warmResetComplete {read : SlotRead} (hrun : s.boot.phase = .running) (hwarm : s.boot.warmRunning = true) :
    exec (.warmResetComplete [] read) s = .next (
      if s.engineCount < 112 then s.warmFails 5 0x0501
      else if s.acceptable (s.attrN Attr.active_slot) read.intact = true then s.warmServes
      else s.warmFails 6 (if s.attrN Attr.slot_valid % 4 = 0 then 0x0601 else 0x0602)) := by
  refine congrArg Host.Outcome.next ((if_pos (by simp [hrun, hwarm])).trans ?_)
  by_cases hfew : s.engineCount < 112
  · have hengines : bootEngines [] s = (s, some 0x0501) := by rw [bootEngines, State.forEach, if_pos hfew]
    simp only [hengines]
    rw [if_pos hfew]
  · have hengines : bootEngines [] s = (s, none) := by rw [bootEngines, State.forEach, if_neg hfew]
    simp only [hengines]
    rw [if_neg hfew]
    rfl

theorem State.flushRecords_carries (s : State) : Carries s s.flushRecords := by
  unfold State.flushRecords
  refine Carries.withRepair (Carries.foldl .refl fun u v => ?_)
  split
  · exact .put .refl
  · exact .raise .refl

theorem State.warmServes_facts (s : State) : s.warmServes.boot.gafferUp = true ∧ s.warmServes.boot.warmRunning = false ∧
    s.warmServes.attr Attr.reset_cause = 4 ∧ (s.warmServes.latch 488).latched = true ∧ s.allRestarted s.warmServes ∧
    s.warmServes.counter = s.counter := by
  let v := s.flushRecords.forEach s.flushRecords.domains State.placeTasks
  have hparts : s.sameBut v (.doms :: .repair :: raiseParts) := (Evolves.refl.flushRecords.forEach fun _ _ => Evolves.refl.placeTasks).same
  have hcarries : Carries s v := s.flushRecords_carries.forEach fun u n => Carries.refl.of_same (P := [.doms]) (Evolves.placeTasks .refl).same
  obtain ⟨hboot, -, hall, hcounter⟩ := v.serveAgain_facts
  have heq : s.warmServes = (v.serveAgain.put1 Attr.reset_cause 0 4).raise 488 := rfl
  have hb : s.warmServes.boot = v.serveAgain.boot := (State.raise_boot ..).trans (State.put1_boot ..)
  rw [hb, hboot]
  refine ⟨rfl, rfl, ?_, heq ▸ State.raise_latched, ?_, ?_⟩
  · rw [heq]
    exact (State.raise_attr _ (by decide) (by decide) (by decide) ..).trans (State.attr_put1_same ..)
  · exact State.allRestarted_of hall hcarries.inflight.symm (heq ▸ .raise (.put .refl))
  · rw [heq, State.raise_counter, State.put1_counter, hcounter]
    exact hparts .counter (by decide)

/-! ### SYSTEM.REBOOT (R352, R407) -/

theorem tblFind_filter {α : Type} {t : Tbl α} {p : Nat → Bool} {i : Nat} (h : p i = true) : tblFind (t.filter fun e => p e.1) i = tblFind t i := by
  induction t with
  | nil => rfl
  | cons e t ih =>
    obtain ⟨k, v⟩ := e
    by_cases hk : k = i
    · subst hk
      rw [List.filter_cons_of_pos (p := fun e : Nat × α => p e.1) h]
      simp [tblFind]
    · have hrest : tblFind ((k, v) :: t) i = tblFind t i := by simp [tblFind, Ne.symm hk]
      rw [hrest, List.filter_cons]
      split
      · rw [← ih]
        simp [tblFind, Ne.symm hk]
      · exact ih

/-- A restart keeps the shadow flash, the image slots and what boot flash reports (R393, R404). -/
theorem State.cleared_images {clear : Bool} {phase : Phase} (hidle : s.store.running = []) : SameImages s (s.cleared false clear phase) := by
  have hcut : s.cutStore = s := by simp [State.cutStore, hidle]
  have hcrucible : ∀ u : State, SameImages u u.crucibleAttrs := fun u => by
    unfold State.crucibleAttrs
    simp only [State.putList]
    exact .trans (.trans (.trans (.trans .put .put) .put) .put) .put
  have hkey : ∀ fresh, keptKey false fresh (Attr.slot_valid.key 0 0) = true ∧ keptKey false fresh (Attr.soc_stepping.key 0 0) = true := by
    decide
  unfold State.cleared
  simp only [hcut]
  refine SameImages.trans ?_ (hcrucible _)
  exact ⟨rfl, State.attr_of_find (tblFind_filter (hkey _).1), State.attr_of_find (tblFind_filter (hkey _).2), rfl, rfl⟩

/-- A completion that is written at once changes its ring and what the module sends, and nothing else. -/
theorem State.completeFirst_of_finish {who : Issuer} {op inst : Nat} :
    (s.finish who op 0 inst).sameBut (s.completeFirst who op inst) [.host, .out] := by
  have hself : (s.finish who op 0 inst).sameBut (s.finish who op 0 inst) [.host, .out] := fun p _ => State.same_refl _ p
  cases who with
  | ring c g =>
    unfold State.completeFirst
    simp only
    split
    · split
      · exact (Evolves.writeCompletion (.withHost .refl)).same
      · exact hself
    · exact hself
  | spi => exact hself
  | console => exact hself

theorem State.completedFirst_images {who : Issuer} {op : Nat} (hfits : s.dirtyFits) : SameImages s (s.completedFirst who op) := by
  have hfinish : SameImages s (s.finish who op 0 0) :=
    ⟨congrArg StoreUnit.pages (StoreStands.refl.finish hfits).store, State.finish_attr_eq, State.finish_attr_eq,
      congrArg (·.slotA) (State.finish_boot ..), congrArg (·.slotB) (State.finish_boot ..)⟩
  have hfirst : SameImages s (s.completeFirst who op 0) := hfinish.trans (.of_same State.completeFirst_of_finish)
  exact hfirst.trans (.of_same State.tenMs_parts)

theorem State.completedFirst_running {who : Issuer} {op : Nat} : (s.completedFirst who op).store.running = s.store.running := by
  have hfirst : (s.completeFirst who op 0).store.engine = s.store.engine :=
    (congrArg StoreUnit.engine (State.completeFirst_of_finish .store (by decide))).trans (State.finish_engine ..)
  exact (congrArg StoreUnit.running (State.tenMs_parts .store (by decide))).trans (State.running_of hfirst)

/-- Every part but the queue of commands still to come. -/
def partsButPending : List Part := allParts.erase .pending

theorem State.powerUp_pending {env : BootEnv} {powerOn : Bool} {slot cause : Nat} : (s.powerUp env powerOn slot cause).pending = s.pending := by
  have hev : Evolves partsButPending s (s.powerUp env powerOn slot cause) := by
    refine Evolves.runSteps (P := partsButPending) .refl ?_
    simp only [bootSteps, List.forall_mem_cons, List.not_mem_nil, false_imp_iff, implies_true, and_true]
    exact ⟨fun _ => .bootRoot .refl, fun _ => .bootFuse .refl, fun _ => .bootBist .refl, fun _ => .bootTable .refl, fun _ => .bootEngines .refl,
      fun _ => .bootGaffer .refl, fun _ => .bootVernier .refl, fun _ => .bootRestore .refl, fun _ => .bootConfig .refl⟩
  exact hev.same .pending (by decide)

theorem rebootRefusals_none {slot : Nat} (hslot : slot ≤ 1) (hawake : s.power ≠ .dormant) (hvalid : bitOf (s.attrN Attr.slot_valid) slot = true) :
    firstRefusal [(decide (1 < slot) && slot != 255, E_RANGE),
        (decide (s.power = .dormant) || !bitOf (s.attrN Attr.slot_valid) (if slot = 255 then s.attrN Attr.boot_slot else slot), E_STATE)] = none := by
  have hnot : ¬ 1 < slot := by omega
  have hnamed : slot ≠ 255 := by omega
  simp [hnot, hnamed, hawake, hvalid]

theorem exec_reboot {who : Issuer} {slot : Nat} {env : BootEnv} (hs : s.serves who) (howner : issuerClient who = 0) (hslot : slot ≤ 1)
    (hawake : s.power ≠ .dormant) (hvalid : bitOf (s.attrN Attr.slot_valid) slot = true) :
    exec (.reboot who slot env) s = .next ((s.completedFirst who 0x0103).restart env slot 2) :=
  congrArg Host.Outcome.next (State.act_ok _ hs.1 rfl (s.permits_owner0 howner) (rebootRefusals_none hslot hawake hvalid))

theorem exec_restoreFactory {who : Issuer} {env : BootEnv} (hs : s.serves who) (howner : issuerClient who = 0) (hawake : s.power ≠ .dormant) :
    exec (.restoreFactory who 0x46414354 env) s = .next (
      ((s.completedFirst who 0x0104).setBoot { (s.completedFirst who 0x0104).boot with restore := some env }).queueTxn .restoreFactory
        ((List.range 828).map fun k => 72 + k)) :=
  congrArg Host.Outcome.next (State.act_ok _ hs.1 rfl (s.permits_owner0 howner) (by simp [hawake]))

theorem State.queueTxn_waits {way : StoreWay} {pages : List Nat} : ∃ x ∈ (s.queueTxn way pages).store.running, x.way = way ∧ x.left = pages :=
  ⟨_, State.queueTxn_mem way pages, rfl, rfl⟩

/-- Settles O55. What waits for a completion is carried through every restart (`Carries`), and a reboot of a module that nothing stops
starts up as after RESET_N. -/
theorem restarts : Obligations.Restarts := by
  refine ⟨fun s who => warmReset_facts, fun s read hrun hwarm => ?_, fun s hrun => ⟨?_, ?_⟩, fun s hrun hdown hwarm => ?_,
    fun s who slot env hs howner hslot hawake hvalid hstarts hidle hfits => ?_, fun s who env hs howner hawake => ?_⟩
  · refine ⟨_, exec_warmResetComplete hrun hwarm, ?_⟩
    by_cases hfew : s.engineCount < 112
    · obtain ⟨hphase, hstep, hcode, hcounter⟩ := s.warmFails_facts (k := 5) (code := 0x0501)
      rw [if_pos hfew, if_pos hfew]
      exact ⟨⟨hphase, hstep, hcode⟩, hcounter⟩
    · rw [if_neg hfew, if_neg hfew]
      by_cases hgood : s.acceptable (s.attrN Attr.active_slot) read.intact = true
      · obtain ⟨hup, hwarm', hcause, hlatched, hall, hcounter⟩ := s.warmServes_facts
        rw [if_pos hgood, if_pos hgood]
        exact ⟨⟨hup, hwarm', hcause, hlatched, hall⟩, hcounter⟩
      · obtain ⟨hphase, hstep, hcode, hcounter⟩ :=
          s.warmFails_facts (k := 6) (code := if s.attrN Attr.slot_valid % 4 = 0 then 0x0601 else 0x0602)
        rw [if_neg hgood, if_neg hgood]
        exact ⟨⟨hphase, hstep, hcode⟩, hcounter⟩
  · obtain ⟨hup, hfw, hlatched, hkept, hcount, hcounter⟩ := (s.raise 481).gafferRestart_facts
    rw [State.raise_attr s (by decide) (by decide) (by decide)] at hcount
    exact ⟨_, exec_gafferWatchdogExpiry hrun, hup, hfw, hkept 481 (by decide) State.raise_latched, hlatched, hcount,
      hcounter.trans (State.raise_counter ..)⟩
  · obtain ⟨hup, hfw, hlatched, hkept, -, hcounter⟩ := (s.raise 480).gafferRestart_facts
    exact ⟨_, exec_gafferLockstepMismatch hrun, hup, hfw, hkept 480 (by decide) State.raise_latched, hlatched,
      hcounter.trans (State.raise_counter ..)⟩
  · obtain ⟨hboot, hfed, hall, hcounter⟩ := s.serveAgain_facts
    exact ⟨_, exec_gafferRestartComplete hrun hdown hwarm, congrArg (·.gafferUp) hboot, hfed, hall, hcounter⟩
  · have hidle' : (s.completedFirst who 0x0103).store.running = [] := State.completedFirst_running.trans hidle
    have himages : SameImages s ((s.completedFirst who 0x0103).cleared false false .held) :=
      (State.completedFirst_images hfits).trans (State.cleared_images hidle')
    obtain ⟨-, -, hpending⟩ := s.completedFirst_facts who 0x0103
    exact ⟨_, exec_reboot hs howner hslot hawake hvalid, State.powerUp_started (if_pos hslot) (himages.startsUp hstarts),
      State.powerUp_pending.trans (State.cleared_pending.trans hpending)⟩
  · let u := (s.completedFirst who 0x0104).setBoot { (s.completedFirst who 0x0104).boot with restore := some env }
    obtain ⟨-, hcounter, -⟩ := s.completedFirst_facts who 0x0104
    have hqueue : u.sameBut (u.queueTxn .restoreFactory ((List.range 828).map fun k => 72 + k)) [.store] := (Evolves.queueTxn .refl).same
    exact ⟨_, exec_restoreFactory hs howner hawake, congrArg (·.restore) (hqueue .boot (by decide)), State.queueTxn_waits,
      fun hface => State.answered_of (State.completedFirst_answered hs hface) (hqueue .host (by decide)) (hqueue .out (by decide)),
      (hqueue .counter (by decide)).trans hcounter⟩

end Sys2Proof.Machine
end

section
/-! Self-repair and the engine performance counters (R20 to R22, R450 to R457, R501 to R512). -/

set_option Elab.async false

namespace Sys2Proof.Machine

variable {s t u : State}

theorem State.cluster_of (h : t.repair = s.repair) (c : Nat) : t.cluster c = s.cluster c := by rw [State.cluster, State.cluster, h]
theorem State.channel_of (h : t.repair = s.repair) (ch : Nat) : t.channel ch = s.channel ch := by rw [State.channel, State.channel, h]

/-- The sources of the clusters (R453, R454): a spare in place, an engine lost, a cluster lost. -/
theorem clusterSources (c : Fin 16) : ∀ k < 3, Ev.defined (416 + k + 3 * c.val) = true ∧ 416 + k + 3 * c.val ∉ bookSources ∧
    416 + k + 3 * c.val ∉ [321, 322, 327, 328] := by
  revert c
  decide

theorem State.raise_cluster {ev d c : Nat} {b : Bool} {x : List ScopeItem} : (s.raise ev b d x).cluster c = s.cluster c :=
  State.cluster_of (State.raise_repair ..) c

/-! ### What follows the loss of an engine (R284, R288, R455, R458) -/

theorem State.faults_latch {P : List Part} (h : s.sameBut t P) (hP : Part.faults ∉ P := by decide) (e : Nat) : t.latch e = s.latch e :=
  State.latch_of_faults (h .faults hP) e

theorem State.tellDesc_latch {e : Nat} (h : e ∉ bookSources) {f : TxFrame} {st : DescState} : (s.tellDesc f st).latch e = s.latch e :=
  State.tellAll_latch h [f] st s

theorem State.sessionFrame_latch {e n g : Nat} {kind : PtpKind} {log : Int} {duration : Option Nat} (h : e ∉ bookSources) :
    (s.sessionFrame n kind g log duration).latch e = s.latch e := by
  unfold State.sessionFrame State.queueFrame
  simp only
  rw [State.tellDesc_latch h]
  exact State.faults_latch (Evolves.setPort (P := [.attrs, .tm, .store, .net]) (.nextSeq (.useEntry .refl))).same (by decide) e

theorem State.closeSession_latch {e n : Nat} (h : e ∉ bookSources) : (s.closeSession n).latch e = s.latch e := by
  unfold State.closeSession
  refine (State.faults_latch (Evolves.freeSession (P := [.attrs, .store, .net]) .refl).same (by decide) e).trans ?_
  exact State.forEach_keeps (fun u : State => u.latch e) _ (fun u g => State.sessionFrame_latch h) _ _

theorem State.shedSessions_latch {e k : Nat} (h : e ∉ bookSources) : ∀ s : State, (State.shedSessions k s).latch e = s.latch e := by
  induction k with
  | zero => intro s; rfl
  | succ k ih =>
    intro s
    unfold State.shedSessions
    split
    · rfl
    · split
      · rw [ih, State.closeSession_latch h]
      · rfl

/-- What follows a fall of E keeps every latch LATCHED. -/
theorem State.afterFall_keepsLatched {e before : Nat} (h : e ∉ bookSources) (hl : (s.latch e).latched = true) :
    ((s.afterFall before).latch e).latched = true := by
  have hshed : ((State.shedSessions s.sessions.length s).latch e).latched = true := by rw [State.shedSessions_latch h]; exact hl
  have hports : Writes [] (State.shedSessions s.sessions.length s) ((State.shedSessions s.sessions.length s).forEach (List.range 4) fun v p =>
      if (s.sessions.filter fun n => s.sessPort n == p).length -
          ((State.shedSessions s.sessions.length s).sessions.filter fun n => (State.shedSessions s.sessions.length s).sessPort n == p).length = 0 then v
      else v.raise (Ev.port p 11) false (satNat 65535 ((s.sessions.filter fun n => s.sessPort n == p).length -
        ((State.shedSessions s.sessions.length s).sessions.filter fun n => (State.shedSessions s.sessions.length s).sessPort n == p).length))) :=
    .forEach .refl fun v p _ => .ite .refl (.raise .refl)
  unfold State.afterFall
  simp only
  split
  · exact (hports.raise).latched e h hshed
  · exact hports.latched e h hshed

theorem State.afterFall_cluster {before c : Nat} : (s.afterFall before).cluster c = s.cluster c :=
  State.cluster_of ((Evolves.afterFall (P := raiseParts) .refl).same .repair (by decide)) c

theorem State.recordRepair_cluster {kind x phys ch rep cause c : Nat} : (s.recordRepair kind x phys ch rep cause).cluster c = s.cluster c :=
  State.cluster_of ((Evolves.recordRepair (P := raiseParts) .refl).same .repair (by decide)) c

theorem State.recordRepair_channel {kind x phys ch rep cause c : Nat} : (s.recordRepair kind x phys ch rep cause).channel c = s.channel c :=
  State.channel_of ((Evolves.recordRepair (P := raiseParts) .refl).same .repair (by decide)) c

theorem State.recordRepair_keepsLatched {kind c phys ch rep cause e : Nat} (h : e ∉ bookSources) (hl : (s.latch e).latched = true) :
    ((s.recordRepair kind c phys ch rep cause).latch e).latched = true := by
  unfold State.recordRepair
  split
  · next k hk =>
    have : k < 48 := List.mem_range.mp (List.mem_of_find?_eq_some hk)
    exact ((Writes.put (ids := [Attr.repair_records.id]) .refl).enforceLimit).latched e h hl
  · exact State.raise_keepsLatched h hl

/-- An engine that leaves service (R453). -/
theorem State.loseEngine_facts {c : Fin 16} {e cause : Nat} {domains : List Nat} :
    (s.loseEngine c.val e cause domains).cluster c.val = { s.cluster c.val with map := (s.cluster c.val).map.set e 9 } ∧
    ((s.loseEngine c.val e cause domains).latch (417 + 3 * c.val)).latched = true ∧
    (∀ ev, ev ∉ bookSources → (s.latch ev).latched = true → ((s.loseEngine c.val e cause domains).latch ev).latched = true) ∧
    (s.loseEngine c.val e cause domains).counter = s.counter := by
  obtain ⟨hd, hb, hf⟩ := clusterSources c 1 (by decide)
  unfold State.loseEngine
  simp only
  refine ⟨?_, State.afterFall_keepsLatched hb (State.raise_latched hd hb hf), fun ev hev hl => ?_, ?_⟩
  · rw [State.afterFall_cluster, State.raise_cluster, State.recordRepair_cluster, State.cluster_setCluster]
  · refine State.afterFall_keepsLatched hev (State.raise_keepsLatched hev (State.recordRepair_keepsLatched hev ?_))
    rw [State.faults_latch (P := [.pmcs, .repair]) (Evolves.refl.settleSlots.setCluster).same]
    exact hl
  · exact (Evolves.loseEngine (P := .repair :: .pmcs :: raiseParts) .refl).same .counter (by decide)

/-! ### ENGINE_FAILURE (R22, R451 to R453) -/

/-- Lost messages count in attributes that no store holds. -/
theorem State.loseMessages_store {serves : Nat → Bool} {lost : List Nat} : (s.loseMessages serves lost).store = s.store :=
  State.forEach_keeps (fun u : State => u.store) _ (fun _ _ => State.put_store_of_volatile) _ _

theorem State.loseMessages_sameBut {serves : Nat → Bool} {lost : List Nat} : s.sameBut (s.loseMessages serves lost) [.attrs] :=
  State.sameBut_without (P := [.attrs, .store]) (Q := [.attrs]) (p := .store) (Evolves.loseMessages .refl).same State.loseMessages_store

theorem exec_engineFailure {c : Fin 16} {e : Fin 8} {detector : EngineDetector} {lost : List (Fin 16384)} (hup : s.memoryUp = true)
    (hlost : (s.cluster c.val).lost = false) (hserves : (s.cluster c.val).map.getD e.val 9 ≠ 9) (hrepair : (s.cluster c.val).repair = none) :
    exec (.engineFailure c e detector lost) s = .next (
      if (s.cluster c.val).spare.isSome then
        ((s.loseMessages (fun x => x == c.val * 256 + e.val) (lost.map (·.val))).settleSlots).setCluster c.val
          { s.cluster c.val with repair := some (e.val, detectorCause detector, s.taskDomains fun x => x == c.val * 256 + e.val) }
      else (s.loseMessages (fun x => x == c.val * 256 + e.val) (lost.map (·.val))).loseEngine c.val e.val (detectorCause detector)
        (s.taskDomains fun x => x == c.val * 256 + e.val)) := by
  have hgate : (s.memoryUp && !(s.cluster c.val).lost && (s.cluster c.val).map.getD e.val 9 != 9 &&
      !((s.cluster c.val).repair.any fun x => x.1 == e.val)) = true := by
    rw [hup, hlost, hrepair]
    simpa using hserves
  refine congrArg Host.Outcome.next ((if_pos hgate).trans ?_)
  by_cases hspare : (s.cluster c.val).spare.isSome = true
  · rw [if_pos hspare]
    exact if_pos (by rw [hspare, hrepair]; rfl)
  · rw [if_neg hspare]
    exact if_neg (by simp [Bool.not_eq_true] at hspare; simp [hspare])

theorem engineFailure_facts {c : Fin 16} {e : Fin 8} {detector : EngineDetector} {lost : List (Fin 16384)} (hup : s.memoryUp = true)
    (hlost : (s.cluster c.val).lost = false) (hserves : (s.cluster c.val).map.getD e.val 9 ≠ 9) (hrepair : (s.cluster c.val).repair = none) :
    ∃ t, exec (.engineFailure c e detector lost) s = .next t ∧
      (if (s.cluster c.val).spare.isSome then
        t.cluster c.val =
          { s.cluster c.val with
              repair := some (e.val, detectorCause detector, s.taskDomains fun x => x == c.val * 256 + e.val) } ∧
        (∀ n, lost = [n] → s.attr Attr.session_sess_state n.val ≠ 0 → s.attrN Attr.session_sess_engine n.val = c.val * 256 + e.val →
          t.attr Attr.session_rx_lost n.val =
            (s.attr Attr.session_rx_lost n.val + 1) % (256 ^ Attr.session_rx_lost.bytes : Nat)) ∧
        s.sameBut t [.attrs, .repair, .pmcs]
       else (t.cluster c.val).map = (s.cluster c.val).map.set e.val 9 ∧ (t.latch (417 + 3 * c.val)).latched = true) ∧
      t.counter = s.counter := by
  refine ⟨_, exec_engineFailure hup hlost hserves hrepair, ?_⟩
  have hmessages := State.loseMessages_sameBut (s := s) (serves := fun x => x == c.val * 256 + e.val) (lost := lost.map (·.val))
  by_cases hspare : (s.cluster c.val).spare.isSome = true
  · rw [if_pos hspare, if_pos hspare]
    have hrest : State.sameBut (s.loseMessages (fun x => x == c.val * 256 + e.val) (lost.map (·.val))) _ [.repair, .pmcs] :=
      (Evolves.refl.settleSlots.setCluster (c := c.val) (r := { s.cluster c.val with
        repair := some (e.val, detectorCause detector, s.taskDomains fun x => x == c.val * 256 + e.val) })).same
    have hframe := State.sameBut_trans (State.sameBut_mono hmessages (Q := [.attrs, .repair, .pmcs]) (by decide)) (State.sameBut_mono hrest (by decide))
    refine ⟨⟨State.cluster_setCluster .., fun n hn hstate hengine => ?_, hframe⟩, hframe .counter (by decide)⟩
    rw [State.attr_of_attrs (hrest .attrs (by decide)), hn]
    have hone : s.loseMessages (fun x => x == c.val * 256 + e.val) [n.val] = s.bump Attr.session_rx_lost n.val := by
      simp [State.loseMessages, hstate, hengine, State.forEach]
    exact hone ▸ State.attr_bump_same s
  · obtain ⟨hmap, hlatched, -, hcounter⟩ := (s.loseMessages (fun x => x == c.val * 256 + e.val) (lost.map (·.val))).loseEngine_facts (c := c)
      (e := e.val) (cause := detectorCause detector) (domains := s.taskDomains fun x => x == c.val * 256 + e.val)
    rw [if_neg hspare, if_neg hspare, hmap, State.cluster_of (hmessages .repair (by decide))]
    exact ⟨⟨rfl, hlatched⟩, hcounter.trans (hmessages .counter (by decide))⟩

/-! ### SPARE_REPAIR_COMPLETE and CLUSTER_LOST (R452 to R454) -/

/-- The spare takes the failed engine's number (R452). -/
def State.spareTakes (s : State) (c : Fin 16) (e cause k : Nat) (domains : List Nat) : State :=
  ((s.settleSlots.setCluster c.val { s.cluster c.val with map := (s.cluster c.val).map.set e k, spare := none, repair := none }).recordRepair 0 c.val
    ((s.cluster c.val).map.getD e 9) 0 k cause).raise (416 + 3 * c.val) false (c.val * 256 + e) (domains.map .dom)

/-- The spare has failed its test (R453). -/
def State.spareFails (s : State) (c : Fin 16) : State :=
  (s.settleSlots.setCluster c.val { s.cluster c.val with spare := none, repair := none }).raise 469 false 0xFF00

theorem exec_spareRepairComplete {c : Fin 16} {passed : Bool} {e cause k : Nat} {domains : List Nat} (hup : s.memoryUp = true)
    (hlost : (s.cluster c.val).lost = false) (hrepair : (s.cluster c.val).repair = some (e, cause, domains))
    (hspare : (s.cluster c.val).spare = some k) : exec (.spareRepairComplete c passed) s = .next (
      if passed then s.spareTakes c e cause k domains else (s.spareFails c).loseEngine c.val e cause domains) := by
  change execSpareRepairComplete c passed s = _
  unfold execSpareRepairComplete
  simp only [hrepair, hspare]
  exact congrArg Host.Outcome.next (if_pos (by simp [hup, hlost]))

theorem spareRepairComplete_facts {c : Fin 16} {passed : Bool} {e cause k : Nat} {domains : List Nat} (hup : s.memoryUp = true)
    (hlost : (s.cluster c.val).lost = false) (hrepair : (s.cluster c.val).repair = some (e, cause, domains))
    (hspare : (s.cluster c.val).spare = some k) : ∃ t, exec (.spareRepairComplete c passed) s = .next t ∧
      t.cluster c.val =
        { s.cluster c.val with map := (s.cluster c.val).map.set e (if passed then k else 9), spare := none, repair := none } ∧
      (t.latch (if passed then 416 + 3 * c.val else 417 + 3 * c.val)).latched = true ∧
      (passed = false → (t.latch 469).latched = true) ∧ t.counter = s.counter := by
  have hexec := exec_spareRepairComplete (passed := passed) hup hlost hrepair hspare
  have hcounter := (Evolves.of_next Evolves.execSpareRepairComplete_evolves hexec).same .counter (by decide)
  refine ⟨_, hexec, ?_⟩
  cases passed with
  | true =>
    obtain ⟨hd, hb, hf⟩ := clusterSources c 0 (by decide)
    refine ⟨?_, State.raise_latched hd hb hf, fun h => absurd h (by decide), hcounter⟩
    show (s.spareTakes c e cause k domains).cluster c.val = _
    rw [State.spareTakes, State.raise_cluster, State.recordRepair_cluster, State.cluster_setCluster]
    rfl
  | false =>
    obtain ⟨hmap, hlatched, hkept, -⟩ := (s.spareFails c).loseEngine_facts (c := c) (e := e) (cause := cause) (domains := domains)
    refine ⟨?_, hlatched, fun _ => hkept 469 (by decide) State.raise_latched, hcounter⟩
    refine hmap.trans ?_
    rw [State.spareFails, State.raise_cluster, State.cluster_setCluster]
    rfl

/-- A cluster that has left service, recorded (R454). -/
def State.clusterGone (s : State) (c : Fin 16) (lost : List (Fin 16384)) : State :=
  (((s.loseMessages (fun x => x / 256 == c.val) (lost.map (·.val))).settleSlots).setCluster c.val
    { s.cluster c.val with lost := true, spare := none, repair := none }).recordRepair 1 c.val 0 0 0x3F 4

theorem exec_clusterLost {c : Fin 16} {lost : List (Fin 16384)} (hup : s.memoryUp = true) (hlost : (s.cluster c.val).lost = false) :
    exec (.clusterLost c lost) s = .next (((s.clusterGone c lost).raise (418 + 3 * c.val) false (c.val * 256 + 0xFF)
      ((s.taskDomains fun x => x / 256 == c.val).map .dom)).afterFall s.engineCount) :=
  congrArg Host.Outcome.next (if_pos (by simp [hup, hlost]))

theorem clusterLost_facts {c : Fin 16} {lost : List (Fin 16384)} (hup : s.memoryUp = true) (hlost : (s.cluster c.val).lost = false) :
    ∃ t, exec (.clusterLost c lost) s = .next t ∧ (t.cluster c.val).lost = true ∧ (t.cluster c.val).spare = none ∧
      (t.latch (418 + 3 * c.val)).latched = true ∧ t.counter = s.counter := by
  have hexec := exec_clusterLost (lost := lost) hup hlost
  obtain ⟨hd, hb, hf⟩ := clusterSources c 2 (by decide)
  have hcluster : (s.clusterGone c lost).cluster c.val = { s.cluster c.val with lost := true, spare := none, repair := none } := by
    rw [State.clusterGone, State.recordRepair_cluster, State.cluster_setCluster]
  refine ⟨_, hexec, ?_, ?_, State.afterFall_keepsLatched hb (State.raise_latched hd hb hf),
    (Evolves.of_next Evolves.execClusterLost_evolves hexec).same .counter (by decide)⟩
  · rw [State.afterFall_cluster, State.raise_cluster, hcluster]
  · rw [State.afterFall_cluster, State.raise_cluster, hcluster]

/-! ### REBALANCE_COMPLETE (R20, R22) -/

theorem State.engineList_of (h : t.repair = s.repair) : t.engineList = s.engineList := by
  have hcluster : t.cluster = s.cluster := funext (State.cluster_of h)
  rw [State.engineList, State.engineList, hcluster]

theorem State.engineServes_of (h : t.repair = s.repair) (x : Nat) : t.engineServes x = s.engineServes x := by
  rw [State.engineServes, State.engineServes, State.engineList_of h]

/-- An engine that is in service is written as its cluster and a number below 8. -/
theorem State.engineList_lt {x : Nat × Nat} (h : x ∈ s.engineList) : x.2 < 8 := by
  obtain ⟨c, -, hx⟩ := List.mem_flatMap.mp h
  split at hx
  · cases hx
  · obtain ⟨e, he, rfl⟩ := List.mem_map.mp hx
    exact List.mem_range.mp (List.mem_filter.mp he).1

/-- An engine picked among some in service is in service (R20). -/
theorem State.engineServes_pick {l : List (Nat × Nat)} {k : Nat} (hne : l ≠ []) (hl : l ⊆ s.engineList) : s.engineServes (pickEngine l k) = true := by
  have hlen : 0 < l.length := List.length_pos_of_ne_nil hne
  have hk : k % max 1 l.length < l.length := by
    rw [Nat.max_eq_right hlen]
    exact Nat.mod_lt _ hlen
  have hmem : l.getD (k % max 1 l.length) (0, 0) ∈ l := by
    rw [List.getD_eq_getElem _ _ hk]
    exact List.getElem_mem hk
  have hin := hl hmem
  have h8 := State.engineList_lt hin
  rw [State.engineServes, pickEngine]
  generalize l.getD (k % max 1 l.length) (0, 0) = x at hin h8
  obtain ⟨c, e⟩ := x
  have hdiv : (c * 256 + e) / 256 = c := by simp only at h8; omega
  have hmod : (c * 256 + e) % 256 = e := by simp only at h8; omega
  simp only [hdiv, hmod]
  simpa using hin

/-- Both tasks of a domain run on engines in service. -/
def State.tasksServed (s : State) (d : Nat) : Prop := s.engineServes (s.dom d).servo = true ∧ s.engineServes (s.dom d).bmca = true

theorem State.placeTasks_repair {d : Nat} : (s.placeTasks d).repair = s.repair := (Evolves.placeTasks (P := [.doms]) .refl).same .repair (by decide)

theorem State.placeTasks_served {d : Nat} (hne : s.engineList ≠ []) : (s.placeTasks d).tasksServed d := by
  rw [State.tasksServed, State.engineServes_of State.placeTasks_repair, State.engineServes_of State.placeTasks_repair, State.placeTasks,
    State.dom_setDom_same]
  dsimp only
  generalize hservo : (if s.engineServes (s.dom d).servo then (s.dom d).servo else pickEngine s.engineList (Config.placeTask d 0)) = servo
  generalize hapart : s.engineList.filter (fun x => x.1 != servo / 256) = apart
  have hsub : apart ⊆ s.engineList := hapart ▸ List.filter_sublist.subset
  constructor
  · rw [← hservo]
    split
    case isTrue h => exact h
    case isFalse => exact State.engineServes_pick hne (List.Subset.refl _)
  · split
    case isTrue h => exact (Bool.and_eq_true_iff.mp h).1
    case isFalse =>
      by_cases hempty : apart.isEmpty = true
      · rw [if_pos hempty]
        exact State.engineServes_pick hne (List.Subset.refl _)
      · rw [if_neg hempty]
        exact State.engineServes_pick (by simpa using hempty) hsub

theorem State.placeTasks_keepsServed {d k : Nat} (hne : s.engineList ≠ []) (hk : s.tasksServed k) : (s.placeTasks d).tasksServed k := by
  by_cases h : k = d
  · exact h ▸ State.placeTasks_served hne
  · rw [State.tasksServed, State.engineServes_of State.placeTasks_repair, State.engineServes_of State.placeTasks_repair,
      State.placeTasks_dom_ne h]
    exact hk

/-- Once Holax has placed the tasks of some domains, each of them is served. -/
theorem State.placeAll_served {l : List Nat} (hne : s.engineList ≠ []) :
    ∀ k, k ∈ l ∨ s.tasksServed k → (s.forEach l State.placeTasks).tasksServed k := by
  induction l generalizing s with
  | nil => exact fun k h => h.resolve_left (List.not_mem_nil)
  | cons d ds ih =>
    intro k hk
    have hne' : (s.placeTasks d).engineList ≠ [] := by rw [State.engineList_of State.placeTasks_repair]; exact hne
    refine ih hne' k ?_
    rcases hk with hmem | hserved
    · rcases List.mem_cons.mp hmem with rfl | hm
      · exact .inr (State.placeTasks_served hne)
      · exact .inl hm
    · exact .inr (State.placeTasks_keepsServed hne hserved)

theorem State.moveSession_moves {n : Fin 16384} {d : Fin 16} {e : Fin 8} (hstate : s.attr Attr.session_sess_state n.val ≠ 0)
    (hserves : s.engineServes (d.val * 256 + e.val) = true)
    (hroom : s.attrN Attr.session_sess_engine n.val = d.val * 256 + e.val ∨ s.engineLoad d.val e.val < 128) :
    s.moveSession (n, d, e) = s.put1 Attr.session_sess_engine n.val ((d.val * 256 + e.val : Nat) : Int) :=
  if_pos (by simp only [Bool.and_eq_true, bne_iff_ne, Bool.or_eq_true, beq_iff_eq, decide_eq_true_eq]; exact ⟨⟨hstate, hserves⟩, hroom⟩)

/-- The module as a rebalance of one session leaves it. -/
def State.rebalanced (s : State) (m : Fin 16384 × Fin 16 × Fin 8) : State :=
  (((s.moveSession m).forEach (s.moveSession m).domains State.placeTasks).bump Attr.rebalances).raise 467 false 0xFF00

theorem exec_rebalanceComplete {c : Fin 16} {m : Fin 16384 × Fin 16 × Fin 8} (hup : s.engines = true)
    (hneeds : (s.cluster c.val).lost = true ∨ (s.cluster c.val).map.contains 9 = true) :
    exec (.rebalanceComplete c [m]) s = .next (s.rebalanced m) :=
  congrArg Host.Outcome.next (if_pos (by rw [hup]; simpa using hneeds))

theorem rebalanceComplete_facts {c : Fin 16} {n : Fin 16384} {d : Fin 16} {e : Fin 8} (hup : s.engines = true)
    (hneeds : (s.cluster c.val).lost = true ∨ (s.cluster c.val).map.contains 9 = true) (hstate : s.attr Attr.session_sess_state n.val ≠ 0)
    (hserves : s.engineServes (d.val * 256 + e.val) = true)
    (hroom : s.attrN Attr.session_sess_engine n.val = d.val * 256 + e.val ∨ s.engineLoad d.val e.val < 128) :
    ∃ t, exec (.rebalanceComplete c [(n, d, e)]) s = .next t ∧
      t.attr Attr.session_sess_engine n.val = ((d.val * 256 + e.val : Nat) : Int) ∧
      (∀ k, k < 512 → s.created k = true → t.engineServes (t.dom k).servo = true ∧ t.engineServes (t.dom k).bmca = true) ∧
      t.attr Attr.rebalances = (s.attr Attr.rebalances + 1) % (256 ^ Attr.rebalances.bytes : Nat) ∧ (t.latch 467).latched = true ∧
      t.counter = s.counter := by
  have hexec := exec_rebalanceComplete (m := (n, d, e)) hup hneeds
  let v := s.put1 Attr.session_sess_engine n.val ((d.val * 256 + e.val : Nat) : Int)
  let w := v.forEach v.domains State.placeTasks
  have heq : s.rebalanced (n, d, e) = (w.bump Attr.rebalances).raise 467 false 0xFF00 := by
    rw [State.rebalanced, State.moveSession_moves hstate hserves hroom]
  have hw : v.sameBut w [.doms] := (Evolves.refl.forEach fun _ _ => Evolves.refl.placeTasks).same
  have hattrs : w.attrs = v.attrs := hw .attrs (by decide)
  have hrepair : v.repair = s.repair := State.put1_repair ..
  refine ⟨_, hexec, ?_, fun k hk hcreated => ?_, ?_, heq ▸ State.raise_latched,
    (Evolves.of_next Evolves.execRebalanceComplete_evolves hexec).same .counter (by decide)⟩
  · rw [heq, State.raise_attr _ (by decide) (by omega) (by decide), State.attr_bump_ne w, State.attr_of_attrs hattrs]
    exact State.attr_put1_same ..
  · have hne : v.engineList ≠ [] := by
      rw [State.engineList_of hrepair]
      exact List.ne_nil_of_mem (List.contains_iff_mem.mp hserves)
    have hmem : k ∈ v.domains := by
      refine List.mem_filter.mpr ⟨List.mem_range.mpr hk, ?_⟩
      rw [State.created, State.attr_put1_ne s]
      exact hcreated
    have hserved := State.placeAll_served hne k (.inl hmem)
    have hdoms : (s.rebalanced (n, d, e)).doms = w.doms := by
      rw [heq]
      exact (State.raise_doms ..).trans (State.bump_doms ..)
    have hrep : (s.rebalanced (n, d, e)).repair = w.repair := by
      rw [heq]
      exact (State.raise_repair ..).trans (State.bump_repair ..)
    rw [State.engineServes_of hrep, State.engineServes_of hrep, State.dom_of_doms hdoms]
    exact hserved
  · rw [heq, State.raise_attr _ (by decide) (by decide) (by decide), State.attr_bump_same w, State.attr_of_attrs hattrs, State.attr_put1_ne s]

/-! ### Stamping channels (R456, R457) -/

theorem vernierBackgroundLoop_facts {ch : Fin 48} {deviation : Nat} (hup : s.timing = true) (hserves : s.channelDown ch.val = false) :
    ∃ t, exec (.vernierBackgroundLoop [(ch, deviation)]) s = .next t ∧
      t.channel ch.val = (if 50 < deviation then { s.channel ch.val with failed := true } else s.channel ch.val) ∧
      s.sameBut t [.repair] := by
  by_cases hfar : 50 < deviation
  · have hexec : exec (.vernierBackgroundLoop [(ch, deviation)]) s = .next (s.setChannel ch.val { s.channel ch.val with failed := true }) := by
      refine congrArg Host.Outcome.next ((if_pos hup).trans ?_)
      simp [hfar, State.forEach, hserves]
    refine ⟨_, hexec, ?_, Evolves.frame Evolves.execVernierBackgroundLoop_evolves hexec⟩
    rw [State.channel_setChannel, if_pos hfar]
  · have hexec : exec (.vernierBackgroundLoop [(ch, deviation)]) s = .next s := by
      refine congrArg Host.Outcome.next ((if_pos hup).trans ?_)
      simp [hfar, State.forEach]
    exact ⟨_, hexec, (if_neg hfar).symm, Evolves.frame Evolves.execVernierBackgroundLoop_evolves hexec⟩

/-- The counters of a replaced channel settle anew; nothing else of the module changes. -/
theorem State.settleTics_sameBut {l : List Nat} : s.sameBut (s.forEach l fun w n => w.setTic n { w.tic n with settling := 2 }) [.tics] :=
  (Evolves.refl.forEach fun _ _ => Evolves.refl.setTic).same

/-- The next spare takes the place of a failed channel (R457). -/
def State.spareChannel (s : State) (ch k : Nat) (rest : List Nat) : State :=
  ((({ s with repair := { s.repair with spares := rest } } : State).setChannel ch { phys := k }).recordRepair 2 0 0 (s.channelPhys ch) k 5).raise 464 false
    (0xFF00 + ch)

/-- A failed channel without a spare stays out of service (R457). -/
def State.channelOut (s : State) (ch : Nat) : State :=
  ((s.setChannel ch { phys := (s.channel ch).phys, lost := true }).recordRepair 2 0 0 (s.channelPhys ch) 0x3F 5).raise 465 false (0xFF00 + ch)

theorem exec_channelReplaced {ch : Fin 48} (hup : s.timing = true) (hfailed : (s.channel ch.val).failed = true) :
    exec (.channelReplaced ch) s = .next (match s.repair.spares with
      | k :: rest => (s.spareChannel ch.val k rest).forEach (s.channelTics ch.val) fun w n => w.setTic n { w.tic n with settling := 2 }
      | [] => s.channelOut ch.val) := by
  change execChannelReplaced ch s = _
  unfold execChannelReplaced
  rw [State.when_, if_pos (by simp [hup, hfailed])]
  cases h : s.repair.spares <;> rfl

theorem State.recordRepair_spares {kind x phys ch rep cause : Nat} : (s.recordRepair kind x phys ch rep cause).repair = s.repair :=
  (Evolves.recordRepair (P := raiseParts) .refl).same .repair (by decide)

theorem channelReplaced_facts {ch : Fin 48} (hup : s.timing = true) (hfailed : (s.channel ch.val).failed = true) :
    ∃ t, exec (.channelReplaced ch) s = .next t ∧
      (match s.repair.spares with
       | k :: rest => t.channel ch.val = { phys := k } ∧ t.repair.spares = rest ∧ (t.latch 464).latched = true
       | [] => (t.channel ch.val).lost = true ∧ (t.channel ch.val).failed = false ∧ (t.latch 465).latched = true) ∧
      t.counter = s.counter := by
  have hexec := exec_channelReplaced hup hfailed
  have hcounter := (Evolves.of_next Evolves.execChannelReplaced_evolves hexec).same .counter (by decide)
  refine ⟨_, hexec, ?_, hcounter⟩
  cases hspares : s.repair.spares with
  | cons k rest =>
    have htics := State.settleTics_sameBut (s := s.spareChannel ch.val k rest) (l := s.channelTics ch.val)
    have hrepair : (s.spareChannel ch.val k rest).repair =
        (({ s with repair := { s.repair with spares := rest } } : State).setChannel ch.val { phys := k }).repair := by
      rw [State.spareChannel, State.raise_repair, State.recordRepair_spares]
    have hall := (htics .repair (by decide)).trans hrepair
    refine ⟨?_, congrArg (·.spares) hall, ?_⟩
    · rw [State.channel_of hall, State.channel_setChannel]
    · rw [State.faults_latch htics]
      exact State.raise_latched
  | nil =>
    have hrepair : (s.channelOut ch.val).repair = (s.setChannel ch.val { phys := (s.channel ch.val).phys, lost := true }).repair := by
      rw [State.channelOut, State.raise_repair, State.recordRepair_spares]
    have hchannel : (s.channelOut ch.val).channel ch.val = { phys := (s.channel ch.val).phys, lost := true } := by
      rw [State.channel_of hrepair, State.channel_setChannel]
    refine ⟨?_, ?_, State.raise_latched⟩
    · rw [hchannel]
    · rw [hchannel]

/-! ### Engine performance counters (R502, R510 to R512) -/

/-- What a counter block reads depends on no value but the power state. -/
theorem State.slotsNow_put {a : AttrDesc} {i e c : Nat} {v : Int} (hid : Attr.power_state.id ≠ a.id := by decide) (hi : i < 65536 := by omega)
    (he : e < 65536 := by omega) : (s.put a i e v).slotsNow c = s.slotsNow c := by
  have hpower : (s.put a i e v).power = s.power := by rw [State.power, State.power, State.attr_put_ne s hid]
  have hlist : (s.put a i e v).engineList = s.engineList := State.engineList_of (State.put_repair ..)
  have hcluster : (s.put a i e v).cluster c = s.cluster c := State.cluster_of (State.put_repair ..) c
  have hpmc : (s.put a i e v).pmc c = s.pmc c := by rw [State.pmc, State.pmc, State.put_pmcs]
  have hrun : (s.put a i e v).slotsRun = s.slotsRun := by rw [State.slotsRun, State.slotsRun, hpower, State.put_boot]
  have hengines : (s.put a i e v).clusterEngines c = s.clusterEngines c := by rw [State.clusterEngines, State.clusterEngines, hlist]
  rw [State.slotsNow, State.slotsNow, hrun, hpmc, hengines, hcluster, State.put_counter]

theorem exec_pmcSample {c : Fin 16} {k e : Fin 8} {kernel : Bool} {domain : Option (Fin 512)} {iaddr : Nat} (hup : s.engines = true)
    (hevent : s.pmcEvent c.val k.val ≠ 0) (hperiod : s.attr Attr.pmc_sample_period 0 (8 * c.val + k.val) ≠ 0)
    (hengine : s.engineList.contains (c.val, e.val) = true) :
    exec (.pmcSample c k e kernel domain iaddr) s = .next (
      ((s.put Attr.pmc_samples 0 (64 * c.val + s.attrN Attr.pmc_sample_count 0 c.val % 64)
          (sampleRecord s.counter c.val e.val k.val kernel domain iaddr : Nat)).add Attr.pmc_sample_count 0 c.val 1).setPmc c.val
        { s.slotsNow c.val with costs := (s.slotsNow c.val).costs + 40 }) := by
  refine congrArg Host.Outcome.next ((if_pos (by rw [hup, hengine]; simp [hevent, hperiod])).trans ?_)
  have hindex : 64 * c.val + s.attrN Attr.pmc_sample_count 0 c.val % 64 < 65536 := by omega
  dsimp only
  rw [State.slotsNow_put (a := Attr.pmc_samples) (he := hindex)]

theorem pmcSample_facts {c : Fin 16} {k e : Fin 8} {kernel : Bool} {domain : Option (Fin 512)} {iaddr : Nat} (hup : s.engines = true)
    (hevent : s.pmcEvent c.val k.val ≠ 0) (hperiod : s.attr Attr.pmc_sample_period 0 (8 * c.val + k.val) ≠ 0)
    (hengine : s.engineList.contains (c.val, e.val) = true) : ∃ t, exec (.pmcSample c k e kernel domain iaddr) s = .next t ∧
      t.attr Attr.pmc_samples 0 (64 * c.val + s.attrN Attr.pmc_sample_count 0 c.val % 64) =
        ((sampleRecord s.counter c.val e.val k.val kernel domain iaddr : Nat) : Int) ∧
      t.attr Attr.pmc_sample_count 0 c.val =
        (s.attr Attr.pmc_sample_count 0 c.val + 1) % (256 ^ Attr.pmc_sample_count.bytes : Nat) ∧
      t.pmc c.val = { s.slotsNow c.val with costs := (s.slotsNow c.val).costs + 40 } ∧ s.sameBut t [.attrs, .pmcs] := by
  have hindex : 64 * c.val + s.attrN Attr.pmc_sample_count 0 c.val % 64 < 65536 := by omega
  have hexec := exec_pmcSample (kernel := kernel) (domain := domain) (iaddr := iaddr) hup hevent hperiod hengine
  generalize 64 * c.val + s.attrN Attr.pmc_sample_count 0 c.val % 64 = i at hindex hexec
  generalize ((sampleRecord s.counter c.val e.val k.val kernel domain iaddr : Nat) : Int) = v at hexec
  have hframe : s.sameBut _ [.attrs, .store, .pmcs] := Evolves.frame Evolves.execPmcSample_evolves hexec
  refine ⟨_, hexec, ?_, ?_, State.pmc_setPmc .., State.sameBut_without (P := [.attrs, .store, .pmcs]) (Q := [.attrs, .pmcs]) (p := .store) hframe ?_⟩
  · exact (State.attr_put_ne _ (by decide) (by decide) (by omega) (by decide) hindex).trans (State.attr_put_same ..)
  · refine (State.attr_put_same ..).trans ?_
    rw [State.attr_put_ne s (by decide) (by decide) hindex (by decide) (by omega)]
    rfl
  · show ((s.put Attr.pmc_samples 0 i v).put _ _ _ _).store = s.store
    rw [State.put_store_of_volatile, State.put_store_of_volatile]

/-- Settles O51. -/
theorem selfRepair : Obligations.SelfRepair := by
  refine ⟨fun s c e detector lost => engineFailure_facts, fun s c passed e cause k domains => spareRepairComplete_facts,
    fun s c lost => clusterLost_facts, fun s c n d e => rebalanceComplete_facts, fun s ch deviation => vernierBackgroundLoop_facts,
    fun s ch => channelReplaced_facts, fun s c k e kernel domain iaddr => pmcSample_facts, fun s c which hup hcount hsel => ?_⟩
  have hexec : exec (.pmcWrap c which) s = .next (s.setPmc c.val { s.pmc c.val with ovf := (s.pmc c.val).ovf ||| 2 ^ which.val }) :=
    congrArg Host.Outcome.next (if_pos (by rw [hup]; simpa using ⟨hcount, hsel⟩))
  exact ⟨_, hexec, State.pmc_setPmc .., Evolves.frame Evolves.execPmcWrap_evolves hexec⟩

end Sys2Proof.Machine
end

section
/-! Commit groups, retunes and the states of a synthesiser (R182 to R186, R195 to R198, R210). -/

set_option Elab.async false

namespace Sys2Proof.Machine

variable {s t u : State} {n o : Nat} {who : Issuer}

/-! ### Latches that an operation leaves alone -/

/-- What operations can raise or clear: besides the sources of the book-keeping no latch but those of the listed sources changes. -/
structure Raises (evs : List Nat) (s t : State) : Prop where
  latch : ∀ e, e ∉ evs → e ∉ bookSources → t.latch e = s.latch e

namespace Raises

variable {evs : List Nat}

theorem refl : Raises evs s s := ⟨fun _ _ _ => rfl⟩

theorem trans (h : Raises evs s t) (h' : Raises evs t u) : Raises evs s u := ⟨fun e he hb => (h'.latch e he hb).trans (h.latch e he hb)⟩

theorem mono {evs' : List Nat} (h : Raises evs' s t) (hi : evs' ⊆ evs) : Raises evs s t :=
  ⟨fun e he hb => h.latch e (fun hm => he (hi hm)) hb⟩

theorem of_faults (h : Raises evs s t) (hu : u.faults = t.faults := by simp) : Raises evs s u :=
  h.trans ⟨fun _ _ _ => State.latch_of_faults hu _⟩

theorem raise (h : Raises evs s t) {ev d : Nat} {c : Bool} {x : List ScopeItem} (hev : ev ∈ evs := by simp) : Raises evs s (t.raise ev c d x) :=
  h.trans ⟨fun e he hb => State.raise_latch_other t (fun heq => he (by rwa [heq])) hb c d x⟩

theorem uncause (h : Raises evs s t) {ev : Nat} (hev : ev ∈ evs := by simp) : Raises evs s (t.uncause ev) :=
  h.trans ⟨fun _ he _ => State.uncause_latch_other t fun heq => he (by rwa [heq])⟩

theorem finish (h : Raises evs s t) {op st i a : Nat} {r : List Byte} {l : Option Nat} : Raises evs s (t.finish who op st i r l a) :=
  h.trans ⟨fun _ _ hb => State.finish_latch _ (bookSources_ne hb).1 (bookSources_ne hb).2.1 (bookSources_ne hb).2.2 ..⟩

theorem ite (ht : Raises evs s t) (hu : Raises evs s u) {c : Prop} [Decidable c] : Raises evs s (if c then t else u) := by split <;> assumption

theorem forEach (h : Raises evs s t) {f : State → Nat → State} {l : List Nat} (hf : ∀ u : State, ∀ k ∈ l, Raises evs u (f u k)) :
    Raises evs s (t.forEach l f) := by
  refine h.trans ⟨fun e he hb => ?_⟩
  exact State.forEach_keeps_mem (fun u => u.latch e) f l (fun u k hk => (hf u k hk).latch e he hb) t

end Raises

/-! ### Replacing what is kept of an output (R211, R240) -/

theorem State.outp_of_outs (h : t.outs = s.outs) (k : Nat) : t.outp k = s.outp k := by rw [State.outp, State.outp, h]
theorem State.syn_of_syns (h : t.syns = s.syns) (k : Nat) : t.syn k = s.syn k := by rw [State.syn, State.syn, h]

theorem State.replaceOut_outs {r : OutRec} : (s.replaceOut o r).outs = (s.setOutp o r).outs := by
  unfold State.replaceOut
  dsimp only
  split
  · exact State.raise_outs ..
  · rfl

theorem State.lehrEvents_outs {stored before after : Int} {moves : AttrDesc} {i detail : Nat} :
    (s.lehrEvents stored before after moves i detail).outs = s.outs :=
  (Evolves.lehrEvents (P := raiseParts) .refl).same .outs (by decide)

theorem State.replacePulse_outs {before : Int} {r : OutRec} : (s.replacePulse o before r).outs = (s.setOutp o r).outs :=
  State.lehrEvents_outs.trans State.replaceOut_outs

theorem Raises.lehrEvents {evs : List Nat} (h : Raises evs s t) {stored before after : Int} {moves : AttrDesc} {i detail : Nat}
    (h578 : 578 ∈ evs := by simp) (h579 : 579 ∈ evs := by simp) : Raises evs s (t.lehrEvents stored before after moves i detail) :=
  have first : Raises evs s (if stored ≠ 0 ∧ before = 0 then t.raise 579 false detail else t) := .ite (h.raise h579) h
  .ite (.raise (first.of_faults (State.bump_faults ..)) h578) (.ite (.raise first h579) first)

/-- The sources that replacing what is kept of an output can raise. -/
def outSources (o : Nat) : List Nat := [Ev.movement (o / 4), 578, 579]

theorem Raises.replaceOut {evs : List Nat} (h : Raises evs s t) {r : OutRec} (hev : Ev.movement (o / 4) ∈ evs) : Raises evs s (t.replaceOut o r) :=
  have hset : Raises evs s (t.setOutp o r) := h.of_faults rfl
  .ite (hset.raise hev) hset

theorem Raises.replacePulse {evs : List Nat} (h : Raises evs s t) {before : Int} {r : OutRec} (hev : outSources o ⊆ evs) :
    Raises evs s (t.replacePulse o before r) :=
  (h.replaceOut (hev (by simp [outSources]))).lehrEvents (hev (by simp [outSources])) (hev (by simp [outSources]))

/-! ### The outputs of a synthesiser start (R185, R189, R190) -/

theorem State.startOutput_outs : ∃ r : OutRec, (r.starting || r.started) = true ∧ (s.startOutput o).outs = (s.setOutp o r).outs := by
  refine ⟨_, ?_, State.replacePulse_outs⟩
  dsimp only
  cases (s.outp o).pulse && !s.pulseDomain (s.attrN Attr.syn_dpll_active (o / 4)) <;> rfl

theorem State.startOutput_starts : (((s.startOutput o).outp o).starting || ((s.startOutput o).outp o).started) = true := by
  obtain ⟨r, hr, houts⟩ := State.startOutput_outs (s := s) (o := o)
  rw [State.outp_of_outs houts, State.outp_setOutp]
  exact hr

theorem State.startOutput_keeps {k : Nat} (h : ((s.outp k).starting || (s.outp k).started) = true) :
    (((s.startOutput o).outp k).starting || ((s.startOutput o).outp k).started) = true := by
  by_cases hk : k = o
  · exact hk ▸ State.startOutput_starts
  · obtain ⟨r, -, houts⟩ := State.startOutput_outs (s := s) (o := o)
    rw [State.outp_of_outs houts, State.outp_setOutp_other s r hk]
    exact h

theorem State.startAll_starts {l : List Nat} : ∀ k, k ∈ l ∨ ((s.outp k).starting || (s.outp k).started) = true →
    (((s.forEach l State.startOutput).outp k).starting || ((s.forEach l State.startOutput).outp k).started) = true := by
  induction l generalizing s with
  | nil => exact fun k h => h.resolve_left List.not_mem_nil
  | cons o os ih =>
    intro k hk
    refine ih k ?_
    rcases hk with hmem | hstarts
    · rcases List.mem_cons.mp hmem with rfl | hm
      · exact .inr State.startOutput_starts
      · exact .inl hm
    · exact .inr (State.startOutput_keeps hstarts)

theorem State.startOutputs_writes : Writes lehrMoves s (s.startOutputs n) :=
  .forEach .refl fun _ _ ho => State.replacePulse_writes (List.mem_range.mp (List.mem_filter.mp ho).1)

/-- The sources that the outputs of SYNn can raise as they start. -/
theorem State.startOutputs_raises : Raises [Ev.movement n, 578, 579] s (s.startOutputs n) := by
  refine .forEach .refl fun _ o ho => Raises.replacePulse .refl ?_
  have hn : o / 4 = n := by simpa using (Bool.and_eq_true_iff.mp (List.mem_filter.mp ho).2).1
  rw [outSources, hn]
  exact List.Subset.refl _

/-! ### A synthesiser locks (R185, R186, R188) -/

theorem State.attrsKept.uncause {keys : List Nat} (h : s.attrsKept t keys) {ev : Nat} : s.attrsKept (t.uncause ev) keys :=
  h.of_eq (State.uncause_attrs ..)

theorem State.synState_of {st : SynState} (h : t.attr Attr.syn_state n = st.code) : t.synState n = st := by
  rw [State.synState, h]
  cases st <;> rfl

/-- A synthesiser with its state LOCKED and its lock instant and grid kept. -/
def State.regridded (s : State) (n : Nat) : State :=
  (s.setSyn n { s.syn n with lockedAt := s.counter, gridSum := s.synIntegral n }).put1 Attr.syn_state n SynState.locked.code

/-- A synthesiser that locks, before its margin is reported. -/
def State.relocked (s : State) (n : Nat) : State :=
  ((((s.regridded n).refreshFeedback n).uncause (Ev.syn n 0)).uncause (Ev.syn n 1)).uncause (Ev.syn n 2)

theorem State.synLocked_eq {margin : Int} : s.synLocked n margin = ((s.relocked n).setMargin n margin).startOutputs n := rfl

theorem Writes.setMargin {ids : List Nat} (h : Writes ids s t) (hn : n < 8) {margin : Int}
    (ha : Attr.syn_tune_margin.id ∈ ids := by decide) : Writes ids s (t.setMargin n margin) :=
  have hput : Writes ids s (t.put1 Attr.syn_tune_margin n margin) := h.put1 ha
  .ite (.ite hput hput.raise) hput.uncause

theorem State.setMargin_margin (hn : n < 8) {margin : Int} : (s.setMargin n margin).attr Attr.syn_tune_margin n = margin := by
  have hput : (s.put1 Attr.syn_tune_margin n margin).attr Attr.syn_tune_margin n = margin := State.attr_put1_same ..
  unfold State.setMargin
  dsimp only
  split
  · split
    · exact hput
    · rw [State.raise_attr _ (by decide) (by omega) (by decide)]
      exact hput
  · rw [State.attr_of_attrs (State.uncause_attrs ..)]
    exact hput

theorem State.setMargin_raises {margin : Int} : Raises [Ev.syn n 2] s (s.setMargin n margin) :=
  have hput : Raises [Ev.syn n 2] s (s.put1 Attr.syn_tune_margin n margin) := Raises.refl.of_faults (State.put1_faults ..)
  .ite (.ite hput hput.raise) hput.uncause

theorem State.synLocked_facts (hn : n < 8) {margin : Int} : (s.synLocked n margin).synState n = .locked ∧
    ((s.synLocked n margin).syn n).lockedAt = s.counter ∧ (s.synLocked n margin).attr Attr.syn_tune_margin n = margin ∧
    (∀ k, k < 2 → ((s.synLocked n margin).latch (Ev.syn n k)).cause = false) ∧
    (∀ o, o < 32 → o / 4 = n → s.flag Attr.output_enable o = true →
      (((s.synLocked n margin).outp o).starting || ((s.synLocked n margin).outp o).started) = true) := by
  have hattrs : (s.relocked n).attrs = (s.regridded n).attrs := by
    rw [State.relocked, State.uncause_attrs, State.uncause_attrs, State.uncause_attrs]
    rfl
  have hwrites : Writes (Attr.syn_tune_margin.id :: lehrMoves) (s.relocked n) (s.synLocked n margin) :=
    (Writes.refl.setMargin hn).andThen State.startOutputs_writes
  have hsyns : (s.synLocked n margin).syns = (s.relocked n).syns :=
    (Evolves.startOutputs (P := .outs :: raiseParts) (.setMargin .refl)).same .syns (by decide)
  refine ⟨State.synState_of ?_, ?_, ?_, fun k hk => ?_, fun o ho hon hen => ?_⟩
  · rw [hwrites.attr, State.attr_of_attrs hattrs]
    exact State.attr_put1_same ..
  · rw [State.syn_of_syns hsyns, State.relocked, State.syn_of_syns (State.uncause_syns ..), State.syn_of_syns (State.uncause_syns ..),
      State.syn_of_syns (State.uncause_syns ..)]
    rw [State.refreshFeedback, State.syn_of_syns (State.setInput_syns ..), State.regridded, State.syn_of_syns (State.put1_syns ..), State.syn_setSyn]
  · rw [State.synLocked_eq, State.startOutputs_writes.attr]
    exact State.setMargin_margin hn
  · have hdiff : Ev.syn n k ∉ [Ev.movement n, 578, 579] ∧ Ev.syn n k ∉ [Ev.syn n 2] ∧ Ev.syn n k ∉ bookSources := by
      simp only [Ev.syn, Ev.movement, bookSources, List.mem_cons, List.not_mem_nil, or_false]
      omega
    have hk2 : Ev.syn n k ≠ Ev.syn n 2 := by simpa using hdiff.2.1
    rw [State.synLocked_eq, State.startOutputs_raises.latch _ hdiff.1 hdiff.2.2, State.setMargin_raises.latch _ hdiff.2.1 hdiff.2.2, State.relocked,
      State.uncause_latch_other _ hk2]
    rcases (by omega : k = 0 ∨ k = 1) with rfl | rfl
    · rw [State.uncause_latch_other _ (by simp only [Ev.syn]; omega)]
      exact State.uncause_cause _ _
    · exact State.uncause_cause _ _
  · refine State.startAll_starts o (.inl (List.mem_filter.mpr ⟨List.mem_range.mpr ho, ?_⟩))
    have hflag : ((s.relocked n).setMargin n margin).flag Attr.output_enable o = true := by
      rw [State.flag, (Writes.setMargin (ids := [Attr.syn_tune_margin.id]) .refl hn).attr, State.attr_of_attrs hattrs, State.regridded, State.attr_put1_ne]
      exact hen
    exact Bool.and_eq_true_iff.mpr ⟨beq_iff_eq.mpr hon, hflag⟩

/-- CALIBRATION_COMPLETE (R185). -/
theorem calibrationComplete_facts {n : Fin 8} (hup : s.timing = true) (hstate : s.synState n.val = .calibrating) :
    ∃ t, exec (.calibrationComplete n) s = .next t ∧ t.synState n.val = .locked ∧ (t.syn n.val).lockedAt = s.counter ∧
      t.attr Attr.syn_tune_margin n.val = Config.freeValue s.freeCount % 101 ∧ t.freeCount = s.freeCount + 1 ∧
      (t.latch (Ev.syn n.val 0)).cause = false ∧ (t.latch (Ev.syn n.val 1)).cause = false ∧
      (∀ o, o < 32 → o / 4 = n.val → s.flag Attr.output_enable o = true → ((t.outp o).starting || (t.outp o).started) = true) ∧
      s.sameBut t [.attrs, .inputs, .syns, .outs, .faults, .tm, .store, .host, .out, .net, .freeCount] := by
  have hexec : exec (.calibrationComplete n) s = .next (s.spend.synLocked n.val (s.free % 101)) :=
    congrArg Host.Outcome.next (if_pos (by simp [hup, hstate]))
  obtain ⟨hlocked, hat, hmargin, hcauses, hstarts⟩ := s.spend.synLocked_facts (margin := s.free % 101) n.isLt
  exact ⟨_, hexec, hlocked, hat, hmargin, (Evolves.synLocked (P := .inputs :: .syns :: .outs :: raiseParts) .refl).same .freeCount (by decide),
    hcauses 0 (by decide), hcauses 1 (by decide), hstarts, Evolves.frame Evolves.execCalibrationComplete_evolves hexec⟩

/-- Every source of a synthesiser is defined and fitted. -/
theorem synSources (n : Fin 8) : ∀ k < 4, Ev.defined (Ev.syn n.val k) = true ∧ Ev.syn n.val k ∉ bookSources ∧
    Ev.syn n.val k ∉ [321, 322, 327, 328] := by
  revert n
  decide

theorem State.raise_syn {ev d : Nat} {c : Bool} {x : List ScopeItem} : (s.raise ev c d x).syn n = s.syn n :=
  State.syn_of_syns (State.raise_syns ..) n

theorem State.raise_synState {ev d : Nat} {c : Bool} {x : List ScopeItem} (hn : n < 8) : (s.raise ev c d x).synState n = s.synState n := by
  rw [State.synState, State.raise_attr _ (by decide) (by omega) (by decide), State.synState]

/-- RETUNE_COMPLETE (R185, R186). -/
theorem retuneComplete_facts {n : Fin 8} (hup : s.timing = true) (hstate : s.synState n.val = .retuning) :
    ∃ t, exec (.retuneComplete n) s = .next t ∧ t.synState n.val = .locked ∧ (t.syn n.val).lockedAt = s.counter ∧
      t.attr Attr.syn_tune_margin n.val = 100 ∧ (t.latch (Ev.syn n.val 3)).latched = true := by
  have hexec : exec (.retuneComplete n) s = .next ((s.synLocked n.val 100).raise (Ev.syn n.val 3) false 0x0100) :=
    congrArg Host.Outcome.next (if_pos (by simp [hup, hstate]))
  obtain ⟨hlocked, hat, hmargin, -, -⟩ := s.synLocked_facts (margin := 100) n.isLt
  obtain ⟨hd, hb, hf⟩ := synSources n 3 (by decide)
  refine ⟨_, hexec, (State.raise_synState n.isLt).trans hlocked, ?_, ?_, State.raise_latched hd hb hf⟩
  · rw [State.raise_syn]
    exact hat
  · rw [State.raise_attr _ (by decide) (by omega) (by decide)]
    exact hmargin

/-- A synthesiser that is UNLOCKED with one of its sources latched and its cause present (R185, R210). -/
theorem State.unlocked_facts {n : Fin 8} {k : Nat} (hk : k < 4) :
    ((s.put1 Attr.syn_state n.val SynState.unlocked.code).raise (Ev.syn n.val k) true).synState n.val = .unlocked ∧
      (((s.put1 Attr.syn_state n.val SynState.unlocked.code).raise (Ev.syn n.val k) true).latch (Ev.syn n.val k)).latched = true ∧
      (((s.put1 Attr.syn_state n.val SynState.unlocked.code).raise (Ev.syn n.val k) true).latch (Ev.syn n.val k)).cause = true ∧
      s.framedRaise ((s.put1 Attr.syn_state n.val SynState.unlocked.code).raise (Ev.syn n.val k) true) [] [Attr.syn_state.key n.val 0] := by
  obtain ⟨hd, hb, hf⟩ := synSources n k hk
  exact ⟨(State.raise_synState n.isLt).trans (State.synState_of (State.attr_put1_same ..)), State.raise_latched hd hb hf, State.raise_cause hd hb hf,
    State.framedRaise_of (.raise (.put1 .refl)) State.attrsKept_refl.put1.raise⟩

theorem calibrationFailure_facts {n : Fin 8} (hup : s.timing = true) (hstate : s.synState n.val = .calibrating ∨ s.synState n.val = .retuning) :
    ∃ t, exec (.calibrationFailure n) s = .next t ∧ t.synState n.val = .unlocked ∧ (t.latch (Ev.syn n.val 1)).latched = true ∧
      (t.latch (Ev.syn n.val 1)).cause = true ∧ s.framedRaise t [] [Attr.syn_state.key n.val 0] :=
  ⟨_, congrArg Host.Outcome.next (if_pos (by rcases hstate with h | h <;> simp [hup, h])), State.unlocked_facts (by decide)⟩

theorem synthesiserUnlock_facts {n : Fin 8} (hup : s.timing = true) (hstate : s.synState n.val = .locked) :
    ∃ t, exec (.synthesiserUnlock n) s = .next t ∧ t.synState n.val = .unlocked ∧ (t.latch (Ev.syn n.val 0)).latched = true ∧
      (t.latch (Ev.syn n.val 0)).cause = true ∧ s.framedRaise t [] [Attr.syn_state.key n.val 0] :=
  ⟨_, congrArg Host.Outcome.next (if_pos (by simp [hup, hstate])), State.unlocked_facts (by decide)⟩

/-- The cause of the tuning-margin event (R186, R210). -/
theorem State.setMargin_cause {n : Fin 8} {margin : Nat} : ((s.setMargin n.val (margin : Int)).latch (Ev.syn n.val 2)).cause = decide (margin < 10) ∧
    (margin < 10 → 10 ≤ s.attr Attr.syn_tune_margin n.val → ((s.setMargin n.val (margin : Int)).latch (Ev.syn n.val 2)).latched = true) := by
  obtain ⟨hd, hb, hf⟩ := synSources n 2 (by decide)
  unfold State.setMargin
  dsimp only
  split
  case isTrue hlow =>
    have hlow' : margin < 10 := by omega
    split
    case isTrue hwas =>
      obtain ⟨hold, hcause⟩ := Bool.and_eq_true_iff.mp hwas
      refine ⟨?_, fun _ hhigh => absurd (of_decide_eq_true hold) (by omega)⟩
      rw [State.latch_of_faults (State.put1_faults ..), hcause]
      exact (decide_eq_true hlow').symm
    case isFalse => exact ⟨(State.raise_cause hd hb hf).trans (decide_eq_true hlow').symm, fun _ _ => State.raise_latched hd hb hf⟩
  case isFalse hhigh =>
    have hhigh' : ¬ margin < 10 := by omega
    exact ⟨(State.uncause_cause _ _).trans (decide_eq_false hhigh').symm, fun h => absurd h hhigh'⟩

theorem State.attrsKept.setMargin {keys : List Nat} (h : s.attrsKept t keys) {margin : Int} (hk : Attr.syn_tune_margin.key n 0 ∈ keys) :
    s.attrsKept (t.setMargin n margin) keys :=
  .ite (.ite (h.put1 hk) (h.put1 hk).raise) (h.put1 hk).uncause

theorem tuningMarginLow_facts {n : Fin 8} {margin : Nat} (hup : s.timing = true) (hstate : s.synState n.val = .locked) (hmargin : margin ≤ 100) :
    ∃ t, exec (.tuningMarginLow n margin) s = .next t ∧ t.attr Attr.syn_tune_margin n.val = margin ∧
      (t.latch (Ev.syn n.val 2)).cause = decide (margin < 10) ∧
      (margin < 10 → 10 ≤ s.attr Attr.syn_tune_margin n.val → (t.latch (Ev.syn n.val 2)).latched = true) ∧
      s.framedRaise t [] [Attr.syn_tune_margin.key n.val 0] := by
  have hexec : exec (.tuningMarginLow n margin) s = .next (s.setMargin n.val (margin : Int)) := by
    refine congrArg Host.Outcome.next ((if_pos (by simp [hup, hstate])).trans ?_)
    rw [Nat.min_eq_left hmargin]
  have hframe : s.framedRaise (s.setMargin n.val (margin : Int)) [] [Attr.syn_tune_margin.key n.val 0] :=
    ⟨(Evolves.setMargin (P := [.attrs, .faults, .tm, .store, .host, .out, .net]) .refl).same, State.attrsKept_refl.setMargin (by simp), by
      unfold State.setMargin
      dsimp only
      split
      · split <;> simp
      · simp⟩
  exact ⟨_, hexec, State.setMargin_margin n.isLt, State.setMargin_cause.1, State.setMargin_cause.2, hframe⟩

/-- Settles O28. -/
theorem synStates : Obligations.SynStates :=
  ⟨fun _ _ => calibrationComplete_facts, fun _ _ => retuneComplete_facts, fun _ _ => calibrationFailure_facts, fun _ _ => synthesiserUnlock_facts,
    fun _ _ _ => tuningMarginLow_facts⟩

/-! ### SYN.COMMIT, SYN.CANCEL and SYN.RETUNE (R195, R198, R208) -/

/-- Only the arms and the outcomes of the slots change where a slot is armed or disarmed. -/
theorem State.slotSet_sameBut {arms : Tbl CommitArm} {slot : Nat} {v : Int} :
    s.sameBut (({ s with arms := arms } : State).put Attr.syn_commit_slots 0 slot v) [.arms, .attrs, .store] := by
  have harms : s.sameBut ({ s with arms := arms } : State) [.arms] := fun p hp => by
    cases p with
    | arms => exact absurd (List.mem_singleton.mpr rfl) hp
    | _ => rfl
  exact State.sameBut_trans (State.sameBut_mono harms (by decide)) (State.sameBut_mono (Evolves.put (P := [.attrs, .store]) .refl).same (by decide))

/-- A slot armed by a commit (R196, R198). -/
def State.armed (s : State) (slot : Nat) (a : CommitArm) : State :=
  ({ s with arms := tblPut s.arms slot a } : State).put Attr.syn_commit_slots 0 slot SlotOutcome.armed.code

theorem synCommit_facts {slot trigger edge synMask outMask d time : Nat} (hs : s.serves who) (hc : issuerClient who = 0)
    (hrange : s.commitRange slot trigger edge synMask outMask d time = false) (hlate : s.triggerPassed trigger d time = false)
    (hstate : s.commitState trigger edge synMask outMask d = false) (huse : s.commitInUse slot synMask outMask = false) :
    ∃ t, exec (.synCommit who slot trigger edge synMask outMask d time) s = .next t ∧ t.answered who 0x0500 0 ∧
      tblFind t.arms slot = some { trigger := trigger, edgeOutput := edge, synMask := synMask % 256, outMask := outMask, domain := d
                                   time := (commandTime time).getD 0, armedAt := s.counter } ∧
      (∀ k, k ≠ slot → tblFind t.arms k = tblFind s.arms k) ∧ t.attr Attr.syn_commit_slots 0 slot = SlotOutcome.armed.code ∧
      s.framed t [.arms] [Attr.syn_commit_slots.key 0 slot] := by
  have hslot : slot ≤ 7 := by
    simp only [State.commitRange, Bool.or_eq_false_iff, decide_eq_false_iff_not] at hrange
    omega
  let a : CommitArm := { trigger := trigger, edgeOutput := edge, synMask := synMask % 256, outMask := outMask, domain := d
                         time := (commandTime time).getD 0, armedAt := s.counter }
  have hexec : exec (.synCommit who slot trigger edge synMask outMask d time) s = .next ((s.armed slot a).finish who 0x0500 0 slot) := by
    change execSynCommit who slot trigger edge synMask outMask d time s = _
    unfold execSynCommit
    simp only [hrange, hlate, Bool.and_false, Bool.false_and, Bool.false_eq_true, if_false]
    exact congrArg Host.Outcome.next (State.act_ok _ hs.1 rfl (s.permits_owner0 hc) (by simp [hstate, huse]))
  have harms : ((s.armed slot a).finish who 0x0500 0 slot).arms = tblPut s.arms slot a := by
    rw [State.finish_arms, State.armed, State.put_arms]
  refine ⟨_, hexec, (Writes.refl (ids := [Attr.syn_commit_slots.id])).of_eq.put.answered hs, ?_, fun k hk => ?_, ?_, ?_⟩
  · rw [harms, tblFind_put_same]
  · rw [harms, tblFind_put_other _ _ hk]
  · rw [State.finish_attr_eq, State.armed]
    exact State.attr_put_same ..
  · exact State.framed_of_effect State.slotSet_sameBut (State.attrsKept.of_eq State.attrsKept_refl).put

/-- A value of its own that a command changes beside its completion. -/
theorem State.framed_put {parts : List Part} {keys : List Nat} (h : s.framed t parts keys) {a : AttrDesc} {i e : Nat} {v : Int}
    (hk : a.key i e ∈ keys := by simp) : s.framed (t.put a i e v) parts keys := by
  obtain ⟨hparts, hkeys, hmem, hrings, hinflight, hsubs, hlatch⟩ := h
  have hput : t.sameBut (t.put a i e v) [.attrs, .store] := (Evolves.put .refl).same
  have hfaults := hput .faults (by decide)
  have hhost := hput .host (by decide)
  exact ⟨State.sameBut_trans hparts (State.sameBut_mono hput (by simp)), hkeys.put hk, fun x hx => by rw [State.put_tm]; exact hmem x hx,
    (congrArg (·.rings) hhost).trans hrings, (congrArg (·.inflight) hhost).trans hinflight, (congrArg (·.subs) hfaults).trans hsubs,
    fun ev h0 h1 h2 => (State.latch_of_faults hfaults ev).trans (hlatch ev h0 h1 h2)⟩

theorem synCommit_late {slot trigger edge synMask outMask d time : Nat} (hs : s.serves who) (hc : issuerClient who = 0)
    (hrange : s.commitRange slot trigger edge synMask outMask d time = false) (hlate : s.triggerPassed trigger d time = true) :
    ∃ t, exec (.synCommit who slot trigger edge synMask outMask d time) s = .next t ∧ t.answered who 0x0500 E_RANGE ∧ t.arms = s.arms ∧
      t.attr Attr.syn_commit_late = (s.attr Attr.syn_commit_late + 1) % (256 ^ Attr.syn_commit_late.bytes : Nat) ∧
      s.framed t [] [Attr.syn_commit_late.key 0 0] := by
  have hexec : exec (.synCommit who slot trigger edge synMask outMask d time) s = .next ((s.finish who 0x0500 E_RANGE slot).bump Attr.syn_commit_late 0) := by
    change execSynCommit who slot trigger edge synMask outMask d time s = _
    unfold execSynCommit
    simp only [hrange, hlate, hs.1, s.permits_owner0 hc, Bool.not_false, Bool.and_self, decide_true, if_true]
    rw [State.act_refused _ hs.1 rfl (s.permits_owner0 hc) (firstRefusal_true ..)]
  refine ⟨_, hexec, State.answered_of (hs.finish_answered (List.Subset.refl _)) (State.bump_host ..) (State.bump_out ..), ?_, ?_, State.framed_put State.framed_finish_self⟩
  · rw [State.bump_arms, State.finish_arms]
  · rw [State.attr_bump_same, State.finish_attr_eq]

theorem synCancel_facts {slot : Nat} {a : CommitArm} (hs : s.serves who) (hc : issuerClient who = 0) (hslot : slot ≤ 7)
    (harm : tblFind s.arms slot = some a) : ∃ t, exec (.synCancel who slot) s = .next t ∧ t.answered who 0x0501 0 ∧ tblFind t.arms slot = none ∧
      (∀ k, k ≠ slot → tblFind t.arms k = tblFind s.arms k) ∧ t.attr Attr.syn_commit_slots 0 slot = SlotOutcome.cancelled.code ∧
      (t.latch (Ev.commit slot)).latched = true ∧ s.framedRaise t [.arms] [Attr.syn_commit_slots.key 0 slot] := by
  let u : State := ({ s with arms := tblDrop s.arms slot } : State).put Attr.syn_commit_slots 0 slot SlotOutcome.cancelled.code
  have hexec : exec (.synCancel who slot) s = .next ((u.raise (Ev.commit slot) false 3).finish who 0x0501 0 slot) :=
    congrArg Host.Outcome.next (State.doAct_ok _ hs.1 rfl (s.permits_owner0 hc) (by simp [decide_eq_false (Nat.not_lt.mpr hslot), harm]))
  have harms : ((u.raise (Ev.commit slot) false 3).finish who 0x0501 0 slot).arms = tblDrop s.arms slot := by
    rw [State.finish_arms, State.raise_arms]
    exact State.put_arms ..
  have hwrites : Writes [Attr.syn_commit_slots.id] s (u.raise (Ev.commit slot) false 3) := (Writes.of_eq .refl).put.raise
  have hsource : Ev.defined (Ev.commit slot) = true ∧ Ev.commit slot ∉ bookSources ∧ Ev.commit slot ∉ [321, 322, 327, 328] := by
    clear harm hexec harms hwrites
    revert slot
    decide
  refine ⟨_, hexec, hwrites.answered hs, ?_, fun k hk => ?_, ?_, ?_, ?_⟩
  · rw [harms, tblFind_drop_same]
  · rw [harms, tblFind_drop_other _ hk]
  · rw [State.finish_attr_eq, State.raise_attr _ (by decide) (by decide) (by omega)]
    exact State.attr_put_same ..
  · exact (Writes.finish (ids := []) .refl).latched _ hsource.2.1 (State.raise_latched hsource.1 hsource.2.1 hsource.2.2)
  · have hend : u.sameBut ((u.raise (Ev.commit slot) false 3).finish who 0x0501 0 slot) raiseParts := (Evolves.finish (.raise .refl)).same
    exact ⟨State.sameBut_trans (State.sameBut_mono State.slotSet_sameBut (by decide)) (State.sameBut_mono hend (by decide)),
      (State.attrsKept.of_eq State.attrsKept_refl).put.raise.finish, hwrites.finish.rings⟩

theorem synRetune_facts {n : Nat} (hs : s.serves who) (hc : issuerClient who = 0) (hn : n ≤ 7) (hratio : ratioOk (s.pendingRatio n) = true)
    (hoff : s.synState n ≠ .off) (hcal : s.synState n ≠ .calibrating) (htaps : s.tapUsers n = 0) :
    ∃ t, exec (.synRetune who n) s = .next t ∧ t.answered who 0x0502 0 ∧ t.synState n = .retuning ∧
      t.activeRatio n = s.pendingRatio n ∧ t.attr Attr.syn_vco_active n = vcoMilli (s.pendingRatio n) ∧
      t.attr Attr.syn_retunes n = (s.attr Attr.syn_retunes n + 1) % (256 ^ Attr.syn_retunes.bytes : Nat) ∧
      s.framed t [.syns] [Attr.syn_vco_active.key n 0, Attr.syn_state.key n 0, Attr.syn_retunes.key n 0] := by
  let v := s.pendingRatio n
  let w : State := (s.setSyn n { s.syn n with num := v.1, den := v.2 }).put1 Attr.syn_vco_active n (vcoMilli v)
  let u : State := (w.put1 Attr.syn_state n SynState.retuning.code).bump Attr.syn_retunes n
  have hexec : exec (.synRetune who n) s = .next (u.finish who 0x0502 0 n) :=
    congrArg Host.Outcome.next (State.doAct_ok _ hs.1 rfl (s.permits_owner0 hc) (by simp [decide_eq_false (Nat.not_lt.mpr hn), hratio, hoff, hcal, htaps]))
  refine ⟨_, hexec, ((Writes.refl (ids := [Attr.syn_vco_active.id, Attr.syn_state.id, Attr.syn_retunes.id])).setSyn.put1.put1.bump).answered hs,
    State.synState_of ?_, ?_, ?_, ?_, ?_⟩
  · rw [State.finish_attr_eq, State.attr_bump_ne]
    exact State.attr_put1_same ..
  · have hsyns : (u.finish who 0x0502 0 n).syns = (s.setSyn n { s.syn n with num := v.1, den := v.2 }).syns := by
      rw [State.finish_syns, State.bump_syns, State.put1_syns, State.put1_syns]
    rw [State.activeRatio, State.syn_of_syns hsyns, State.syn_setSyn]
  · rw [State.finish_attr_eq, State.attr_bump_ne, State.attr_put1_ne]
    exact State.attr_put1_same ..
  · rw [State.finish_attr_eq, State.attr_bump_same, State.attr_put1_ne, State.attr_put1_ne]
    rfl
  · exact State.framed_of_effect (Evolves.refl.setSyn.put1.put1.bump).same ((State.attrsKept.of_eq State.attrsKept_refl).put1.put1.bump)

/-- Settles O27. -/
theorem synActions : Obligations.SynActions :=
  ⟨fun _ _ _ _ _ _ _ _ _ => synCommit_facts, fun _ _ _ _ _ _ _ _ _ => synCommit_late, fun _ _ _ _ => synCancel_facts,
    fun _ _ _ => synRetune_facts⟩

end Sys2Proof.Machine
end

section
/-! Interval counters: restart, reading, measurements and windows (R296 to R307). -/

set_option Elab.async false

namespace Sys2Proof.Machine

variable {s t u : State} {who : Issuer}

theorem State.tic_of_tics (h : t.tics = s.tics) (n : Nat) : t.tic n = s.tic n := by rw [State.tic, State.tic, h]

/-! ### TIC.RESTART (R305, R307) -/

/-- The attributes that a restart clears. -/
def ticCounts : List Nat := [Attr.tic_samples.id, Attr.tic_stops_outside.id, Attr.tic_starts_unmatched.id, Attr.tic_stamps_missed.id]

theorem tblFind_tblKeep_not {α : Type} {p : Nat → Bool} {x : Tbl α} {k : Nat} (h : p k = false) : tblFind (tblKeep p x) k = none := by
  induction x with
  | nil => rfl
  | cons e x ih =>
    obtain ⟨j, v⟩ := e
    rw [tblKeep]
    split
    case isTrue hj =>
      have hne : ¬ k = j := fun he => by simp [← he, h] at hj
      rw [tblFind, if_neg hne]
      exact ih
    case isFalse => exact ih

/-- The ring of a cleared counter reads 0 (R307). -/
theorem State.clearTic_byte {n a : Nat} (h : 0x1C118000 + n * 65536 ≤ a) (h' : a < 0x1C118000 + (n + 1) * 65536) : (s.clearTic n).tm.byte a = 0 := by
  unfold State.clearTic
  rw [State.put1_tm, State.put1_tm, State.put1_tm, State.put1_tm]
  dsimp only
  rw [TableMem.byte, tblGet, tblFind_tblKeep_not (by simp; omega)]
  rfl

theorem State.clearTic_tics {n : Nat} : (s.clearTic n).tics = s.tics :=
  (Evolves.clearTic (P := [.attrs, .tm, .store]) .refl).same .tics (by decide)

theorem State.clearTic_writes {n : Nat} (hn : n ≤ 11) : Writes ticCounts s (s.clearTic n) := (Writes.of_eq .refl).put1.put1.put1.put1

theorem State.clearTic_counts {n : Nat} (hn : n ≤ 11) : (s.clearTic n).attr Attr.tic_samples n = 0 ∧ (s.clearTic n).attr Attr.tic_stops_outside n = 0 ∧
    (s.clearTic n).attr Attr.tic_starts_unmatched n = 0 ∧ (s.clearTic n).attr Attr.tic_stamps_missed n = 0 := by
  unfold State.clearTic
  refine ⟨?_, ?_, ?_, State.attr_put1_same ..⟩
  · rw [State.attr_put1_ne, State.attr_put1_ne, State.attr_put1_ne]
    exact State.attr_put1_same ..
  · rw [State.attr_put1_ne, State.attr_put1_ne]
    exact State.attr_put1_same ..
  · rw [State.attr_put1_ne]
    exact State.attr_put1_same ..

theorem State.clearTic_attrsKept {n : Nat} : s.attrsKept (s.clearTic n)
    [Attr.tic_samples.key n 0, Attr.tic_stops_outside.key n 0, Attr.tic_starts_unmatched.key n 0, Attr.tic_stamps_missed.key n 0] :=
  (State.attrsKept.of_eq State.attrsKept_refl).put1.put1.put1.put1

theorem ticRestart_facts {n : Nat} (hs : s.serves who) (hc : issuerClient who = 0) (hn : n ≤ 11) (hstate : s.ticState n ≠ .disabled) :
    ∃ t, exec (.ticRestart who n) s = .next t ∧ t.answered who 0x0900 0 ∧ t.attr Attr.tic_samples n = 0 ∧
      t.attr Attr.tic_stops_outside n = 0 ∧ t.attr Attr.tic_starts_unmatched n = 0 ∧ t.attr Attr.tic_stamps_missed n = 0 ∧
      t.tic n = { s.tic n with block := { seq := (s.tic n).block.seq } } ∧
      (∀ a, 0x1C118000 + n * 65536 ≤ a → a < 0x1C118000 + (n + 1) * 65536 → t.tm.byte a = 0) ∧ (∀ m, m ≠ n → t.tic m = s.tic m) ∧
      s.sameBut t [.attrs, .tics, .tm, .faults, .store, .host, .out] ∧
      s.attrsKept t [Attr.tic_samples.key n 0, Attr.tic_stops_outside.key n 0, Attr.tic_starts_unmatched.key n 0,
        Attr.tic_stamps_missed.key n 0] := by
  let r : TicRec := { s.tic n with block := { seq := (s.tic n).block.seq } }
  have hexec : exec (.ticRestart who n) s = .next (((s.clearTic n).setTic n r).finish who 0x0900 0 n) := by
    exact congrArg Host.Outcome.next (State.doAct_ok _ hs.1 rfl (s.permits_owner0 hc) (by simp [decide_eq_false (Nat.not_lt.mpr hn), hstate]))
  have hattr : ∀ {a : AttrDesc}, a.id ∉ bookAttrs → (((s.clearTic n).setTic n r).finish who 0x0900 0 n).attr a n = (s.clearTic n).attr a n :=
    fun hb => State.finish_attr_eq hb
  have htic := State.tic_of_tics (State.clearTic_tics (s := s) (n := n))
  obtain ⟨hsamples, hstops, hstarts, hmissed⟩ := s.clearTic_counts hn
  have htics : (((s.clearTic n).setTic n r).finish who 0x0900 0 n).tics = ((s.clearTic n).setTic n r).tics := State.finish_tics ..
  refine ⟨_, hexec, ((State.clearTic_writes hn).setTic).answered hs, (hattr (by decide)).trans hsamples, (hattr (by decide)).trans hstops,
    (hattr (by decide)).trans hstarts, (hattr (by decide)).trans hmissed, ?_, fun a ha ha' => ?_, fun m hm => ?_, ?_, ?_⟩
  · rw [State.tic_of_tics htics, State.tic_setTic]
  · have hslot : a < ((s.clearTic n).setTic n r).auditSlot ∨ ((s.clearTic n).setTic n r).auditSlot + 32 ≤ a := by
      simp only [State.auditSlot]
      omega
    exact (State.finish_memBut _ who 0x0900 0 n [] none _ a hslot).trans (State.clearTic_byte ha ha')
  · rw [State.tic_of_tics htics, State.tic_setTic_other _ _ hm, htic]
  · exact (Evolves.finish (P := [.attrs, .tics, .tm, .faults, .store, .host, .out]) (Evolves.refl.clearTic.setTic)).same
  · exact (State.attrsKept.of_eq (u := (s.clearTic n).setTic n r) State.clearTic_attrsKept).finish

/-! ### Samples (R302 to R307) -/

/-- The attributes that a raw measurement writes. -/
def sampleIds : List Nat := [Attr.tic_samples.id, Attr.tic_last_sample.id, Attr.tic_stat_result.id]

theorem Writes.tmWrite {ids : List Nat} (h : Writes ids s t) {a : Nat} {bs : List Byte} : Writes ids s (t.tmWrite a bs) := by
  refine h.trans ⟨fun k _ hk => State.tmWrite_find t hk a bs, ?_, congrArg (·.rings) (State.tmWrite_host ..), fun e he hl => ?_⟩
  · rw [State.tmWrite_host]
    exact List.Subset.refl _
  · rw [State.tmWrite_latch _ (bookSources_ne he).1]
    exact hl

theorem State.statistic_starts {n flags newest : Nat} {value : Int} :
    ((s.statistic n value flags newest).tic n).starts = (s.tic n).starts ∧ ((s.statistic n value flags newest).tic n).lastA = (s.tic n).lastA := by
  unfold State.statistic
  dsimp only
  split
  · simp
  · split
    · simp
    · simp [State.tic_of_tics (State.put1_tics ..)]

theorem State.sample_tic {n : Nat} {raw : TicRaw} : ((s.sample n raw).tic n).starts = (s.tic n).starts ∧
    ((s.sample n raw).tic n).lastA = (s.tic n).lastA := by
  unfold State.sample
  dsimp only
  rw [State.statistic_starts.1, State.statistic_starts.2, State.tic_of_tics (State.tmWrite_tics ..), State.tic_of_tics (State.put1_tics ..),
    State.tic_of_tics (State.put1_tics ..), State.tic_setTic]
  exact ⟨rfl, rfl⟩

theorem State.sample_samples {n : Nat} (hn : n < 12) {raw : TicRaw} :
    (s.sample n raw).attr Attr.tic_samples n = ((s.attrN Attr.tic_samples n + 1 : Nat) : Int) := by
  have hstat : ∀ (t : State) (value : Int) (flags newest : Nat), Writes [Attr.tic_stat_result.id] t (t.statistic n value flags newest) := fun t _ _ _ =>
    .ite Writes.refl.setTic (.ite Writes.refl.setTic Writes.refl.setTic.put1)
  unfold State.sample
  dsimp only
  rw [(hstat ..).attr, (Writes.refl (ids := [])).tmWrite.attr, State.attr_put1_ne]
  exact State.attr_put1_same ..

/-- A raw measurement forms the next sample and keeps the open starts and the last stamp (R302, R304). -/
theorem State.raw_facts {n : Nat} (hn : n < 12) {value : Int} {first newest : Nat} :
    ((s.raw n value first newest).tic n).starts = (s.tic n).starts ∧ ((s.raw n value first newest).tic n).lastA = (s.tic n).lastA ∧
      (s.raw n value first newest).attr Attr.tic_samples n = ((s.attrN Attr.tic_samples n + 1 : Nat) : Int) := by
  unfold State.raw
  dsimp only
  refine ⟨State.sample_tic.1.trans ?_, State.sample_tic.2.trans ?_, State.sample_samples hn⟩
  · rw [State.tic_setTic]
  · rw [State.tic_setTic]

/-- One stamp is a list in order. -/
theorem exec_ticRawMeasurement_one {n : Fin 12} {x : TicStamp} (hup : s.timing = true) (hstate : s.ticState n.val = .running) :
    exec (.ticRawMeasurement n [x]) s = .next (s.ticStamp n.val x) :=
  congrArg Host.Outcome.next (if_pos (by simp [hup, hstate]))

/-- A stamp of a counter in INTERVAL (R297). -/
theorem State.ticStamp_interval {n : Nat} {x : TicStamp} (hmode : s.ticMode n = .interval) (hmissed : x.missed = false) :
    s.ticStamp n x = if x.sourceB then s.stop n (s.ticPoint n x) else s.openStart n (s.ticPoint n x) := by
  unfold State.ticStamp
  simp only [hmissed, Bool.false_eq_true, if_false, hmode]

/-- A stamp of A of a counter in PERIOD or FREQUENCY (R296). -/
theorem State.ticStamp_period {n : Nat} {x : TicStamp} {q : TicPoint} (hmode : s.ticMode n = .period ∨ s.ticMode n = .frequency)
    (hmissed : x.missed = false) (ha : x.sourceB = false) (hlast : (s.tic n).lastA = some q) :
    s.ticStamp n x = (s.setTic n { s.tic n with lastA := some (s.ticPoint n x) }).raw n ((s.ticPoint n x).since q) q.count x.count := by
  unfold State.ticStamp
  rcases hmode with h | h <;> simp only [hmissed, Bool.false_eq_true, if_false, h, ha, hlast]

theorem State.stop_match {n : Nat} {b : TicPoint} {y : TicStart} {rest : List TicStart} (hmode : s.ticMode n = .interval)
    (h : takeFirst (fun y => y.matches_ b) (s.tic n).starts = some (y, rest)) :
    s.stop n b = (s.setTic n { s.tic n with starts := rest }).raw n (b.since y.point) y.point.count b.count := by
  unfold State.stop
  simp [h, hmode]

theorem ticRawMeasurement_interval {n : Fin 12} {x : TicStamp} (hup : s.timing = true) (hstate : s.ticState n.val = .running)
    (hmode : s.ticMode n.val = .interval) (hmissed : x.missed = false) :
      (x.sourceB = false → (s.tic n.val).starts.length < 16 →
        ∃ t, exec (.ticRawMeasurement n [x]) s = .next t ∧
          t.tic n.val = { s.tic n.val with
            starts := (s.tic n.val).starts ++
              [{ point := s.ticPoint n.val x, opens := s.attrN Attr.tic_win_open n.val, closes := s.attrN Attr.tic_win_close n.val }] } ∧ s.sameBut t [.tics]) ∧
      (∀ y rest, x.sourceB = true →
        takeFirst (fun y => y.matches_ (s.ticPoint n.val x)) (s.tic n.val).starts = some (y, rest) →
        ∃ t, exec (.ticRawMeasurement n [x]) s = .next t ∧ (t.tic n.val).starts = rest ∧
          t.attr Attr.tic_samples n.val = ((s.attrN Attr.tic_samples n.val + 1 : Nat) : Int) ∧ t.counter = s.counter) := by
  have hexec := (exec_ticRawMeasurement_one (x := x) hup hstate).trans (congrArg Host.Outcome.next (State.ticStamp_interval hmode hmissed))
  refine ⟨fun ha hroom => ?_, fun y rest hb hmatch => ?_⟩
  · rw [ha, if_neg Bool.false_ne_true, State.openStart, if_pos hroom] at hexec
    exact ⟨_, hexec, State.tic_setTic .., (Evolves.refl.setTic (P := [.tics])).same⟩
  · rw [hb, if_pos rfl, State.stop_match hmode hmatch] at hexec
    obtain ⟨hstarts, -, hsamples⟩ := State.raw_facts (s := s.setTic n.val { s.tic n.val with starts := rest }) n.isLt
      (value := (s.ticPoint n.val x).since y.point) (first := y.point.count) (newest := (s.ticPoint n.val x).count)
    refine ⟨_, hexec, hstarts.trans ?_, hsamples, (Evolves.of_next Evolves.execTicRawMeasurement_evolves hexec).same .counter (by decide)⟩
    rw [State.tic_setTic]

theorem ticRawMeasurement_period {n : Fin 12} {x : TicStamp} {q : TicPoint} (hup : s.timing = true) (hstate : s.ticState n.val = .running)
    (hmode : s.ticMode n.val = .period ∨ s.ticMode n.val = .frequency) (hmissed : x.missed = false) (ha : x.sourceB = false)
    (hlast : (s.tic n.val).lastA = some q) :
    ∃ t, exec (.ticRawMeasurement n [x]) s = .next t ∧
      (t.tic n.val).lastA =
        some (s.ticPoint n.val x) ∧
      t.attr Attr.tic_samples n.val = ((s.attrN Attr.tic_samples n.val + 1 : Nat) : Int) ∧ t.counter = s.counter := by
  have hexec := (exec_ticRawMeasurement_one (x := x) hup hstate).trans (congrArg Host.Outcome.next (State.ticStamp_period hmode hmissed ha hlast))
  obtain ⟨-, hlastA, hsamples⟩ := State.raw_facts (s := s.setTic n.val { s.tic n.val with lastA := some (s.ticPoint n.val x) }) n.isLt
    (value := (s.ticPoint n.val x).since q) (first := q.count) (newest := x.count)
  refine ⟨_, hexec, hlastA.trans ?_, hsamples, (Evolves.of_next Evolves.execTicRawMeasurement_evolves hexec).same .counter (by decide)⟩
  rw [State.tic_setTic]

/-- TIC_WINDOW_CLOSE (R297). -/
theorem ticWindowClose_facts {n : Fin 12} {x : TicStart} {rest : List TicStart} (hup : s.timing = true) (hstarts : (s.tic n.val).starts = x :: rest) :
    ∃ t, exec (.ticWindowClose n) s = .next t ∧ t.tic n.val = { s.tic n.val with starts := rest } ∧ t.counter = max s.counter x.closesAt ∧
      t.attr Attr.tic_starts_unmatched n.val =
        (s.attr Attr.tic_starts_unmatched n.val + 1) % (256 ^ Attr.tic_starts_unmatched.bytes : Nat) ∧ s.sameBut t [.counter, .attrs, .tics] := by
  have hexec : exec (.ticWindowClose n) s = .next
      (((s.advance x.closesAt).setTic n.val { s.tic n.val with starts := rest }).bump Attr.tic_starts_unmatched n.val) := by
    change execTicWindowClose n s = _
    unfold execTicWindowClose State.when_
    rw [if_pos (by simp [hup, hstarts])]
    simp only [hstarts]
    have htic : (s.advance x.closesAt).tic n.val = s.tic n.val := rfl
    rw [htic, hstarts]
    rfl
  refine ⟨_, hexec, ?_, ?_, State.attr_bump_same .., State.sameBut_without (P := [.counter, .attrs, .store, .tics]) (Q := [.counter, .attrs, .tics])
    (p := .store) (Evolves.frame Evolves.execTicWindowClose_evolves hexec) State.put1_store_of_volatile⟩
  · rw [State.tic_of_tics (State.bump_tics ..), State.tic_setTic]
  · rw [State.bump_counter, State.setTic_counter]
    rfl

theorem ticRead_facts {n count first : Nat} {buf : HostBuf} (hs : s.serves who) (hc : issuerClient who = 0) (hn : n ≤ 11) (hpos : 0 < count)
    (hcount : count ≤ 4096) (hpower : s.power ≠ .standbyWarm) (hbuf : bufOk who buf (16 * count) = true) (hpoison : ∀ lpn, s.poisoned lpn = false)
    (hclean : ∀ lpn, (s.frame (s.frameOf lpn)).checkErrors = 0) (hheld : s.attrN Attr.tic_samples n ≤ 4096) (hfirst : 0 < first)
    (hrest : first + count ≤ s.attrN Attr.tic_samples n + 1) :
    ∃ t, exec (.ticRead who n count first buf) s = .next t ∧ t.answered who 0x0901 0 ∧ t.resultOf who = bytesLE 8 first ++ bytesLE 2 count ∧
      s.handed t who buf ((List.range count).flatMap fun k => s.tm.read (ticSlot n (first + k)) 16) ∧ s.framed t [] [] := by
  refine ⟨_, congrArg Host.Outcome.next ((State.act_ok _ hs.1 hbuf (s.permits_owner0 hc) ?_).trans
    (State.finishRead_clean hclean hpoison (by omega) (by omega) (by omega))), ?_⟩
  · simp [firstRefusal_none, hpower]
    omega
  · exact ⟨hs.finish_answered State.writeResult_orphans, hs.finish_resultOf State.writeResult_orphans, State.handed_finish, State.framed_writeResult⟩

/-- Settles O43. -/
theorem intervalCounters : Obligations.IntervalCounters :=
  ⟨fun _ _ _ => ticRestart_facts, fun _ _ _ _ _ _ => ticRead_facts, fun _ _ _ => ticRawMeasurement_interval, fun _ _ _ _ => ticRawMeasurement_period,
    fun _ _ _ _ => ticWindowClose_facts⟩

end Sys2Proof.Machine
end

section
/-! Outputs start, stop, are gated and step (R185, R189 to R193, R199 to R201, R209, R211, R239). -/

set_option Elab.async false

namespace Sys2Proof.Machine

variable {s t u : State} {n o : Nat} {who : Issuer}

/-! ### What an instant of a grid changes (R188) -/

/-- An instant of an output's grid time only advances the counter. -/
theorem State.reachGrid_eq {x : Int} : ∃ k, s.reachGrid o x = s.advance k := by
  unfold State.reachGrid
  split
  · exact ⟨_, rfl⟩
  · exact ⟨_, rfl⟩

theorem outputStart_facts {n : Fin 32} (hup : s.timing = true) (hstarting : (s.outp n.val).starting = true)
    (hen : s.flag Attr.output_enable n.val = true) (hsyn : s.synState (n.val / 4) = .locked) :
    ∃ t, exec (.outputStart n) s = .next t ∧
      t.outp n.val = { s.outp n.val with starting := false, started := true, gated := s.outGateWanted n.val } ∧
      t.counter = (s.reachGrid n.val (s.startInstant n.val)).counter ∧
      (∀ m, m ≠ n.val → t.outp m = s.outp m) ∧ s.sameBut t [.counter, .outs] := by
  obtain ⟨k, hk⟩ := State.reachGrid_eq (s := s) (o := n.val) (x := s.startInstant n.val)
  have hexec : exec (.outputStart n) s = .next ((s.advance k).setOutp n.val
      { s.outp n.val with starting := false, started := true, gated := s.outGateWanted n.val }) := by
    refine congrArg Host.Outcome.next ((if_pos (by simp [hup, hstarting, hen, hsyn])).trans ?_)
    dsimp only
    rw [hk]
    rfl
  refine ⟨_, hexec, State.outp_setOutp .., ?_, fun m hm => State.outp_setOutp_other (s.advance k) _ hm,
    Evolves.frame Evolves.execOutputStart_evolves hexec⟩
  rw [hk, State.setOutp_counter]

/-! ### ToD outputs whose companion stops (R234) -/

theorem State.judgeTods_outs : s.judgeTods.outs = s.outs := (Evolves.judgeTods (P := raiseParts) .refl).same .outs (by decide)

theorem State.judgeTod_attrsKept : s.attrsKept (s.judgeTod n) [Attr.todgen_tod_tx_state.key n 0] :=
  .ite (State.attrsKept_refl.put1).raise State.attrsKept_refl

theorem State.judgeTods_attrsKept : s.attrsKept s.judgeTods [Attr.todgen_tod_tx_state.key 0 0, Attr.todgen_tod_tx_state.key 1 0] := by
  refine .forEach State.attrsKept_refl fun u k hk => ?_
  rcases (by simpa using hk : k = 0 ∨ k = 1) with rfl | rfl
  · exact State.judgeTod_attrsKept.mono (by simp)
  · exact State.judgeTod_attrsKept.mono (by simp)

/-! ### OUTPUT_STOP and OUTPUT_UNGATE (R185, R189, R200, R201) -/

/-- An output whose error ends at 0 begins no Lehr movement. -/
theorem State.lehrEvents_attrsKept {stored before : Int} {moves : AttrDesc} {i detail : Nat} :
    s.attrsKept (s.lehrEvents stored before 0 moves i detail) [] := by
  unfold State.lehrEvents
  have first : s.attrsKept (if stored ≠ 0 ∧ before = 0 then s.raise 579 false detail else s) [] := .ite State.attrsKept_refl.raise State.attrsKept_refl
  dsimp only
  rw [if_neg (fun h => h.2 rfl)]
  exact .ite first.raise first

theorem State.replaceOut_attrsKept {r : OutRec} : s.attrsKept (s.replaceOut o r) [] := by
  have hset : s.attrsKept (s.setOutp o r) [] := State.attrsKept_refl.of_eq
  exact .ite hset.raise hset

theorem State.replacePulse_ends {before : Int} {r : OutRec} (hr : r.lehr.e = 0) : s.attrsKept (s.replacePulse o before r) [] := by
  unfold State.replacePulse
  rw [hr]
  exact State.replaceOut_attrsKept.trans State.lehrEvents_attrsKept

theorem outputStop_facts {n : Fin 32} (hup : s.timing = true) (hstarted : (s.outp n.val).started = true)
    (hoff : s.flag Attr.output_enable n.val = false ∨ s.synState (n.val / 4) = .off) :
    ∃ t, exec (.outputStop n) s = .next t ∧
      t.outp n.val = { s.outp n.val with started := false, gated := false, orphan := false, stepper := 0, delayLeft := 0, transit := none, lehr := {} } ∧
      (∀ m, m ≠ n.val → t.outp m = s.outp m) ∧
      s.framedRaise t [.outs] [Attr.todgen_tod_tx_state.key 0 0, Attr.todgen_tod_tx_state.key 1 0] := by
  let r : OutRec := { s.outp n.val with
    started := false, gated := false, orphan := false, stepper := 0, delayLeft := 0, transit := none, lehr := {} }
  have hexec : exec (.outputStop n) s = .next (s.replacePulse n.val (s.outLehr n.val) r).judgeTods := by
    refine congrArg Host.Outcome.next ((if_pos (by simp [hup, hstarted])).trans (congrArg State.judgeTods (if_pos ?_)))
    rcases hoff with h | h <;> simp [h]
  have houts : (s.replacePulse n.val (s.outLehr n.val) r).judgeTods.outs = (s.setOutp n.val r).outs :=
    State.judgeTods_outs.trans State.replacePulse_outs
  refine ⟨_, hexec, ?_, fun m hm => ?_, Evolves.frame Evolves.execOutputStop_evolves hexec,
    State.attrsKept.trans ((State.replacePulse_ends rfl).mono (List.nil_subset _)) State.judgeTods_attrsKept,
    State.judgeTods_writes.rings.trans (State.replacePulse_writes n.isLt).rings⟩
  · rw [State.outp_of_outs houts, State.outp_setOutp]
  · rw [State.outp_of_outs houts, State.outp_setOutp_other _ _ hm]

theorem outputStop_gates {n : Fin 32} (hup : s.timing = true) (hstarted : (s.outp n.val).started = true)
    (hen : s.flag Attr.output_enable n.val = true) (hsyn : s.synState (n.val / 4) ≠ .off) (hgate : s.outGateWanted n.val = true) :
    ∃ t, exec (.outputStop n) s = .next t ∧ t.outp n.val = { s.outp n.val with gated := true } ∧
      (∀ m, m ≠ n.val → t.outp m = s.outp m) ∧
      s.framedRaise t [.outs] [Attr.todgen_tod_tx_state.key 0 0, Attr.todgen_tod_tx_state.key 1 0] := by
  let r : OutRec := { s.outp n.val with gated := true }
  have hexec : exec (.outputStop n) s = .next (s.setOutp n.val r).judgeTods :=
    congrArg Host.Outcome.next ((if_pos (by simp [hup, hstarted])).trans
      (congrArg State.judgeTods ((if_neg (by simp [hen, hsyn])).trans (if_pos hgate))))
  have hset : s.attrsKept (s.setOutp n.val r) [] := State.attrsKept_refl.of_eq
  refine ⟨_, hexec, ?_, fun m hm => ?_, Evolves.frame Evolves.execOutputStop_evolves hexec,
    (hset.mono (List.nil_subset _)).trans State.judgeTods_attrsKept, State.judgeTods_writes.rings⟩
  · rw [State.outp_of_outs State.judgeTods_outs, State.outp_setOutp]
  · rw [State.outp_of_outs State.judgeTods_outs, State.outp_setOutp_other _ _ hm]

theorem outputUngate_facts {n : Fin 32} (hup : s.timing = true) (hstarted : (s.outp n.val).started = true) (hgate : s.outGateWanted n.val = false) :
    ∃ t, exec (.outputUngate n) s = .next t ∧ t.outp n.val = { s.outp n.val with gated := false } ∧
      (∀ m, m ≠ n.val → t.outp m = s.outp m) ∧ s.sameBut t [.outs] :=
  ⟨_, congrArg Host.Outcome.next (if_pos (by simp [hup, hstarted, hgate])), State.outp_setOutp .., fun m hm => State.outp_setOutp_other s _ hm,
    (Evolves.refl.setOutp (P := [.outs])).same⟩

/-! ### STEPPER_STEP (R192, R211) -/

/-- One fine step takes what is left one nearer to 0. -/
theorem OutRec.step_sum {r : OutRec} : r.step.stepper + r.step.delayLeft = r.toRun - (if 0 < r.toRun then 1 else -1) := by
  unfold OutRec.step
  dsimp only
  generalize (if 0 < r.toRun then (1 : Int) else -1) = d
  split <;> simp only [OutRec.toRun] <;> omega

theorem State.setMove_outp {a b : Int} : ((s.setMove o a b).outp o).toRun = a + b ∧ ∀ m, m ≠ o → (s.setMove o a b).outp m = s.outp m := by
  unfold State.setMove
  refine ⟨?_, fun m hm => ?_⟩
  · rw [State.outp_of_outs State.replaceOut_outs, State.outp_setOutp]
    split
    case isTrue h => exact h.symm
    case isFalse => rfl
  · rw [State.outp_of_outs State.replaceOut_outs, State.outp_setOutp_other _ _ hm]

theorem State.synMoving_of_outs (h : t.outs = s.outs) (k : Nat) : t.synMoving k = s.synMoving k := by
  simp only [State.synMoving, State.outp_of_outs h]

/-- Where the last movement on a synthesiser ends, its source latches (R211). -/
theorem State.replaceOut_latched {r : OutRec} (ho : o < 32) (hwas : s.synMoving (o / 4) = true) (hnow : (s.replaceOut o r).synMoving (o / 4) = false) :
    ((s.replaceOut o r).latch (Ev.movement (o / 4))).latched = true := by
  rw [State.synMoving_of_outs State.replaceOut_outs] at hnow
  have hsource : ∀ k < 8, Ev.defined (Ev.movement k) = true ∧ Ev.movement k ∉ bookSources ∧ Ev.movement k ∉ [321, 322, 327, 328] := by decide
  obtain ⟨hd, hb, hf⟩ := hsource (o / 4) (by omega)
  unfold State.replaceOut
  rw [if_pos (by rw [hwas, hnow]; rfl)]
  exact State.raise_latched hd hb hf

theorem stepperStep_facts {n : Fin 32} (hup : s.timing = true) (hstarted : (s.outp n.val).started = true) (hrun : (s.outp n.val).toRun ≠ 0) :
    ∃ t, exec (.stepperStep n) s = .next t ∧
      (t.outp n.val).toRun = (if 0 < (s.outp n.val).toRun then (s.outp n.val).toRun - 1 else (s.outp n.val).toRun + 1) ∧
      ((t.outp n.val).toRun = 0 → t.synMoving (n.val / 4) = false → (t.latch (Ev.movement (n.val / 4))).latched = true) ∧
      (∀ m, m ≠ n.val → t.outp m = s.outp m) ∧ s.framedRaise t [.outs] [] := by
  have hexec : exec (.stepperStep n) s = .next (s.setMove n.val (s.outp n.val).step.stepper (s.outp n.val).step.delayLeft) :=
    congrArg Host.Outcome.next (if_pos (by simp [hup, hstarted, hrun]))
  have hwas : s.synMoving (n.val / 4) = true := by
    refine List.any_eq_true.mpr ⟨n.val % 4, List.mem_range.mpr (Nat.mod_lt _ (by decide)), ?_⟩
    rw [Nat.div_add_mod]
    exact bne_iff_ne.mpr hrun
  obtain ⟨hmoved, hothers⟩ := State.setMove_outp (s := s) (o := n.val) (a := (s.outp n.val).step.stepper) (b := (s.outp n.val).step.delayLeft)
  refine ⟨_, hexec, ?_, fun _ hdone => State.replaceOut_latched n.isLt hwas hdone, hothers, Evolves.frame Evolves.execStepperStep_evolves hexec,
    State.replaceOut_attrsKept, State.replaceOut_writes.rings⟩
  rw [hmoved, OutRec.step_sum]
  split <;> rfl

/-! ### DRIVER_FAULT (R209, R211) -/

theorem driverFault_facts {n : Fin 32} (hup : s.timing = true) :
    (∃ t, exec (.driverFault n true) s = .next t ∧ t.flag Attr.output_driver_fault n.val = true ∧
      (s.flag Attr.output_driver_fault n.val = false → (t.latch (Ev.driver n.val)).latched = true) ∧
      s.framedRaise t [] [Attr.output_driver_fault.key n.val 0]) ∧
    ∃ t, exec (.driverFault n false) s = .next t ∧ t.flag Attr.output_driver_fault n.val = false ∧
      (t.latch (Ev.driver n.val)).cause = false := by
  have hsource : Ev.defined (Ev.driver n.val) = true ∧ Ev.driver n.val ∉ bookSources ∧ Ev.driver n.val ∉ [321, 322, 327, 328] := by
    revert n
    decide
  obtain ⟨hd, hb, hf⟩ := hsource
  refine ⟨?_, ⟨_, congrArg Host.Outcome.next ((if_pos hup).trans (if_neg Bool.false_ne_true)), ?_, State.uncause_cause _ _⟩⟩
  · by_cases hfault : s.flag Attr.output_driver_fault n.val = true
    · exact ⟨s, congrArg Host.Outcome.next ((if_pos hup).trans ((if_pos rfl).trans (if_pos hfault))), hfault,
        fun h => absurd (hfault.symm.trans h) (by decide), State.framedRaise_of .refl State.attrsKept_refl⟩
    · refine ⟨_, congrArg Host.Outcome.next ((if_pos hup).trans ((if_pos rfl).trans (if_neg hfault))), ?_, fun _ => State.raise_latched hd hb hf,
        State.framedRaise_of (.raise (.put1 .refl)) State.attrsKept_refl.put1.raise⟩
      rw [State.flag, State.raise_attr _ (by decide) (by omega) (by decide), State.attr_put1_same]
      rfl
  · rw [State.flag, State.attr_of_attrs (State.uncause_attrs ..), State.attr_put1_same]
    rfl

/-! ### OUTPUT.DO_STEP (R239, R247) -/

/-- An error restated as of now is no movement. -/
theorem State.rebaseOut_eq (h : s.outLehr n ≠ 0) :
    s.rebaseOut n = s.replaceOut n { s.outp n with lehr := { (s.outp n).lehr with e := s.outLehr n, since := s.outTime n } } := by
  unfold State.rebaseOut State.putOutLehr State.replacePulse State.lehrEvents
  dsimp only
  rw [if_neg (fun hx => h hx.1), if_neg (fun hx => h hx.2), if_neg (fun hx => h hx.2)]

theorem outputDoStep_facts (hs : s.serves who) (hc : issuerClient who = 0) (hn : n ≤ 31) (hpulse : (s.outp n).pulse = true) :
    ∃ t, exec (.outputDoStep who n) s = .next t ∧ t.answered who 0x0D00 0 ∧
      (if s.outLehr n = 0 then s.framed t [] []
       else (t.outp n).lehr = { e := s.outLehr n, since := s.outTime n, stepping := true, stepAt := s.pulseEnd n } ∧ (t.latch 580).latched = true ∧
        t.attr Attr.output_lehr_moves n = (s.attr Attr.output_lehr_moves n + 1) % (256 ^ Attr.output_lehr_moves.bytes : Nat) ∧
        s.framedRaise t [.outs] [Attr.output_lehr_moves.key n 0]) := by
  have hexec : exec (.outputDoStep who n) s = .next ((if s.outLehr n = 0 then s else s.outRestart n).finish who 0x0D00 0 n) :=
    congrArg Host.Outcome.next (State.doAct_ok _ hs.1 rfl (s.permits_owner0 hc) (by simp [decide_eq_false (Nat.not_lt.mpr hn), hpulse]))
  by_cases h0 : s.outLehr n = 0
  · rw [if_pos h0] at hexec
    exact ⟨_, hexec, hs.finish_answered, (if_pos h0).symm ▸ State.framed_finish_self⟩
  · rw [if_neg h0] at hexec
    let v := s.rebaseOut n
    let w := v.setOutp n { v.outp n with lehr := { (v.outp n).lehr with stepping := true, stepAt := s.pulseEnd n } }
    have hv : v = s.replaceOut n { s.outp n with lehr := { (s.outp n).lehr with e := s.outLehr n, since := s.outTime n } } := State.rebaseOut_eq h0
    have hwrites : Writes [] s w := (hv ▸ State.replaceOut_writes).setOutp
    have hkept : s.attrsKept w [Attr.output_lehr_moves.key n 0] := ((hv ▸ State.replaceOut_attrsKept).mono (List.nil_subset _)).of_eq
    have hrestart : s.outRestart n = (w.bump Attr.output_lehr_moves n).raise 580 false (0x0D00 + n) := rfl
    have hall : Writes [Attr.output_lehr_moves.id] s (s.outRestart n) := hrestart ▸ (hwrites.mono.bump).raise
    have houtp : ((s.outRestart n).finish who 0x0D00 0 n).outs = w.outs := by
      rw [State.finish_outs, hrestart, State.raise_outs, State.bump_outs]
    refine ⟨_, hexec, hall.answered hs, (if_neg h0).symm ▸ ⟨?_, ?_, ?_, ?_⟩⟩
    · rw [State.outp_of_outs houtp, State.outp_setOutp, hv, State.outp_of_outs State.replaceOut_outs, State.outp_setOutp]
    · exact (Writes.finish (ids := []) .refl).latched 580 (by decide) (hrestart ▸ State.raise_latched)
    · rw [State.finish_attr_eq, hrestart, State.raise_attr _ (by decide) (by omega) (by decide), State.attr_bump_same, hwrites.attr]
    · exact ⟨State.sameBut_mono (Evolves.finish (P := .outs :: raiseParts) (.outRestart .refl)).same (by decide),
        (hrestart ▸ (hkept.bump).raise).finish, hall.finish.rings⟩

/-- Settles O29. -/
theorem outputEvents : Obligations.OutputEvents :=
  ⟨fun _ _ => outputStart_facts, fun _ _ => outputStop_facts, fun _ _ => outputStop_gates, fun _ _ => outputUngate_facts, fun _ _ => stepperStep_facts,
    fun _ _ => driverFault_facts, fun _ _ _ => outputDoStep_facts⟩

end Sys2Proof.Machine
end

section
/-! A commit is applied (R195 to R198, R202, R210, R211). -/

set_option Elab.async false

namespace Sys2Proof.Machine

variable {s t u y : State} {n o k mask : Nat}

/-! ### One member synthesiser (R195, R202) -/

/-- A member synthesiser with its pending ratio and DPLL active, before its outputs move to their new grids. -/
def State.ratioTaken (s : State) (n : Nat) : State :=
  let t := (s.setRatio n (s.pendingRatio n)).put1 Attr.syn_dpll_active n (s.attr Attr.syn_dpll n)
  t.setSyn n { t.syn n with committedAt := some s.counter, gridSum := (t.syn n).gridSum + t.synIntegral n - s.synIntegral n }

theorem Writes.replaceOut {ids : List Nat} (h : Writes ids s t) {r : OutRec} : Writes ids s (t.replaceOut o r) :=
  h.andThen State.replaceOut_writes (List.nil_subset _)

theorem Writes.replacePulse {ids : List Nat} (h : Writes ids s t) (ho : o < 32) {before : Int} {r : OutRec} (hi : lehrMoves ⊆ ids := by decide) :
    Writes ids s (t.replacePulse o before r) := h.andThen (State.replacePulse_writes ho) hi

theorem State.regrid_writes {old : State} {c : Bool} (ho : o < 32) : Writes lehrMoves s (s.regrid old o c) := by
  have hmove : ∀ {v : State} {a b : Int}, Writes lehrMoves s v → Writes lehrMoves s (v.setMove o a b) := fun h => h.replaceOut
  unfold State.regrid
  dsimp only
  refine .ite (hmove Writes.refl) ?_
  split
  · exact .ite (hmove Writes.refl) ((hmove Writes.refl).replacePulse ho)
  · exact (hmove Writes.refl).replacePulse ho
  · exact hmove Writes.refl

theorem State.commitSyn_after : Writes lehrMoves (s.ratioTaken n) (s.commitSyn mask n) := by
  have hfresh : ∀ c : Prop, [Decidable c] → Writes lehrMoves (s.ratioTaken n) (if c then (s.ratioTaken n).refreshFeedback n else s.ratioTaken n) :=
    fun _ _ => .ite Writes.refl.setInput .refl
  refine Writes.countSafe (.ite (.forEach (hfresh _) fun v o ho => ?_) (hfresh _))
  exact State.regrid_writes (List.mem_range.mp (List.mem_filter.mp ho).1)

theorem State.commitSyn_syns : (s.commitSyn mask n).syns = (s.ratioTaken n).syns := by
  have hall : Evolves (.inputs :: .outs :: raiseParts) (s.ratioTaken n) (s.commitSyn mask n) :=
    Evolves.countSafe (.ite (.forEach (.ite Evolves.refl.refreshFeedback .refl) fun _ _ => Evolves.refl.regrid) (.ite Evolves.refl.refreshFeedback .refl))
  exact hall.same .syns (by decide)

/-- The pending values of a synthesiser are its active ones, as of `s`. -/
def State.takenBy (s t : State) (n : Nat) : Prop :=
  t.activeRatio n = s.pendingRatio n ∧ t.attr Attr.syn_dpll_active n = s.attr Attr.syn_dpll n ∧ (t.syn n).committedAt = some s.counter

theorem State.ratioTaken_syn : (s.setRatio n (s.pendingRatio n)).syn n = { s.syn n with num := (s.pendingRatio n).1, den := (s.pendingRatio n).2 } := by
  rw [State.setRatio, State.syn_of_syns (State.put1_syns ..), State.syn_setSyn]

theorem State.commitSyn_takes (hn : n < 8) : s.takenBy (s.commitSyn mask n) n := by
  have hsyn : (s.commitSyn mask n).syn n = (s.ratioTaken n).syn n := State.syn_of_syns State.commitSyn_syns n
  refine ⟨?_, ?_, ?_⟩
  · rw [State.activeRatio, hsyn, State.ratioTaken, State.syn_setSyn]
    dsimp only
    rw [State.syn_of_syns (State.put1_syns ..), State.ratioTaken_syn]
  · exact State.commitSyn_after.attr.trans (State.attr_put1_same ..)
  · rw [hsyn, State.ratioTaken, State.syn_setSyn]

theorem State.commitSyn_syn_ne (h : k ≠ n) : (s.commitSyn mask n).syn k = s.syn k := by
  rw [State.syn_of_syns State.commitSyn_syns, State.ratioTaken, State.syn_setSyn_other _ _ h, State.syn_of_syns (State.put1_syns ..), State.setRatio,
    State.syn_of_syns (State.put1_syns ..), State.syn_setSyn_other _ _ h]

theorem State.commitSyn_active_ne (h : k ≠ n) (hn : n < 8) (hk : k < 8) :
    (s.commitSyn mask n).attr Attr.syn_dpll_active k = s.attr Attr.syn_dpll_active k := by
  refine State.commitSyn_after.attr.trans ((State.attr_put1_inst _ h).trans ?_)
  rw [State.setRatio, State.attr_put1_ne]
  rfl

/-- The ids of the attributes that the members of a commit write. -/
def commitIds : List Nat := Attr.syn_vco_active.id :: Attr.syn_dpll_active.id :: Attr.output_divider_active.id :: lehrMoves

theorem State.commitSyn_writes (hn : n < 8) : Writes commitIds s (s.commitSyn mask n) :=
  (Writes.refl.setSyn.put1.put1.setSyn).andThen State.commitSyn_after

theorem State.commitSyn_counter : (s.commitSyn mask n).counter = s.counter :=
  (Evolves.commitSyn (P := .inputs :: .syns :: .outs :: raiseParts) .refl).same .counter (by decide)

theorem State.takenBy_of (hcounter : y.counter = s.counter) (hw : Writes commitIds s y) (h : y.takenBy t n) (hn : n < 8) : s.takenBy t n := by
  obtain ⟨hratio, hdpll, hat⟩ := h
  refine ⟨hratio.trans ?_, hdpll.trans hw.attr, hat.trans (by rw [hcounter])⟩
  rw [State.pendingRatio, State.pendingRatio, State.attrN, State.attrN, State.attrN, State.attrN, hw.attr, hw.attr]

/-! ### All member synthesisers -/

/-- What the commit of member synthesisers leaves of the state `s` at which it began. -/
structure SynsCommitted (s : State) (l : List Nat) (y : State) : Prop where
  counter : y.counter = s.counter
  writes : Writes commitIds s y
  taken : ∀ n < 8, n ∈ l → s.takenBy y n
  kept : ∀ n < 8, n ∉ l → y.syn n = s.syn n

theorem SynsCommitted.step {l : List Nat} (h : SynsCommitted s l y) (hn : n < 8) : SynsCommitted s (n :: l) (y.commitSyn mask n) where
  counter := State.commitSyn_counter.trans h.counter
  writes := h.writes.trans (State.commitSyn_writes hn)
  taken k hk hmem := by
    by_cases hkn : k = n
    · subst hkn
      exact State.takenBy_of h.counter h.writes (State.commitSyn_takes hn) hn
    · obtain ⟨hratio, hdpll, hat⟩ := h.taken k hk ((List.mem_cons.mp hmem).resolve_left hkn)
      have hsyn : (y.commitSyn mask n).syn k = y.syn k := State.commitSyn_syn_ne hkn
      refine ⟨?_, (State.commitSyn_active_ne hkn hn hk).trans hdpll, (congrArg (·.committedAt) hsyn).trans hat⟩
      rw [State.activeRatio, hsyn]
      exact hratio
  kept k hk hmem := by
    have hne : k ≠ n := fun he => hmem (List.mem_cons.mpr (.inl he))
    exact (State.commitSyn_syn_ne hne).trans (h.kept k hk fun hm => hmem (List.mem_cons.mpr (.inr hm)))

theorem SynsCommitted.all {done l : List Nat} (h : SynsCommitted s done y) (hl : ∀ n ∈ l, n < 8) :
    ∃ m, SynsCommitted s m (y.forEach l fun v n => v.commitSyn mask n) ∧ ∀ n, n ∈ m ↔ n ∈ done ∨ n ∈ l := by
  induction l generalizing y done with
  | nil => exact ⟨done, h, fun n => by simp⟩
  | cons n ns ih =>
    obtain ⟨m, hm, hmem⟩ := ih (h.step (mask := mask) (hl n List.mem_cons_self)) fun k hk => hl k (List.mem_cons_of_mem _ hk)
    refine ⟨m, hm, fun k => (hmem k).trans ?_⟩
    simp only [List.mem_cons]
    tauto

/-! ### The member outputs (R195, R197) -/

theorem State.pendingSetting_of {ids : List Nat} (h : Writes ids s t) (_ : o < 32)
    (hi : ∀ i ∈ [Attr.output_out_mode.id, Attr.output_divider.id, Attr.output_pulse_num.id, Attr.output_pulse_den.id, Attr.output_pulse_width.id],
      i ∉ ids := by decide) : t.pendingSetting o = s.pendingSetting o := by
  unfold State.pendingSetting State.attrN
  rw [h.attr (hi _ (by simp)), h.attr (hi _ (by simp)), h.attr (hi _ (by simp)), h.attr (hi _ (by simp)), h.attr (hi _ (by simp))]

theorem State.activeSetting_of (houtp : t.outp o = s.outp o) (hd : t.attr Attr.output_divider_active o = s.attr Attr.output_divider_active o) :
    t.activeSetting o = s.activeSetting o := by
  unfold State.activeSetting State.attrN
  rw [houtp, hd]

theorem State.commitOutput_writes (ho : o < 32) : Writes commitIds s (s.commitOutput o) := (Writes.refl.replacePulse ho).put1

/-- An output with its pending setting active. -/
def OutRec.committed (r : OutRec) (x : OutSetting) : OutRec :=
  { r with pulse := x.pulse, num := x.num, den := x.den, width := x.width, stepper := 0, delayLeft := 0, lehr := {}, orphan := false }

theorem State.commitOutput_eq : s.commitOutput o =
    (s.replacePulse o (s.outLehr o) ((s.outp o).committed (s.pendingSetting o))).put1 Attr.output_divider_active o (s.pendingSetting o).divider := rfl

theorem State.commitOutput_takes : (s.commitOutput o).activeSetting o = s.pendingSetting o := by
  have houtp : (s.commitOutput o).outp o = (s.outp o).committed (s.pendingSetting o) := by
    rw [State.commitOutput_eq, State.outp_of_outs (State.put1_outs ..), State.outp_of_outs State.replacePulse_outs, State.outp_setOutp]
  have hdiv : (s.commitOutput o).attr Attr.output_divider_active o = ((s.pendingSetting o).divider : Int) := State.attr_put1_same ..
  rw [State.activeSetting, State.attrN, houtp, hdiv]
  rfl

theorem State.commitOutput_ne (h : k ≠ o) (ho : o < 32) (hk : k < 32) : (s.commitOutput o).activeSetting k = s.activeSetting k := by
  rw [State.commitOutput_eq]
  refine State.activeSetting_of ?_ ((State.attr_put1_inst _ h).trans (State.replacePulse_writes ho).attr)
  rw [State.outp_of_outs (State.put1_outs ..), State.outp_of_outs State.replacePulse_outs, State.outp_setOutp_other _ _ h]

theorem State.commitOutputs_setting {l : List Nat} (hl : ∀ o ∈ l, o < 32) (hw : Writes commitIds s y) : ∀ o < 32,
    o ∈ l ∨ y.activeSetting o = s.pendingSetting o → (y.forEach l State.commitOutput).activeSetting o = s.pendingSetting o := by
  induction l generalizing y with
  | nil => exact fun o _ h => h.resolve_left List.not_mem_nil
  | cons k ks ih =>
    intro o ho hor
    have hk := hl k List.mem_cons_self
    refine ih (fun j hj => hl j (List.mem_cons_of_mem _ hj)) (hw.trans (State.commitOutput_writes hk)) o ho ?_
    by_cases hok : o = k
    · subst hok
      exact .inr (State.commitOutput_takes.trans (State.pendingSetting_of hw ho))
    · rcases hor with hmem | hset
      · exact .inl ((List.mem_cons.mp hmem).resolve_left hok)
      · exact .inr ((State.commitOutput_ne hok hk ho).trans hset)

theorem State.beginPeriod_setting {old : State} : (s.beginPeriod old k).activeSetting o = s.activeSetting o := by
  unfold State.beginPeriod
  split
  · rfl
  · by_cases h : o = k
    · subst h
      unfold State.activeSetting
      rw [State.outp_setOutp]
      rfl
    · exact State.activeSetting_of (State.outp_setOutp_other _ _ h) rfl

/-! ### COMMIT_TRIGGER (R196, R211) -/

/-- The source of a commit slot is defined and fitted. -/
theorem commitSource : ∀ slot : Fin 8, Ev.defined (Ev.commit slot.val) = true ∧ Ev.commit slot.val ∉ bookSources ∧
    Ev.commit slot.val ∉ [321, 322, 327, 328] := by decide

theorem synMembers_mem : n ∈ synMembers mask ↔ n < 8 ∧ bitOf mask n = true := by simp [synMembers]

theorem State.applyCommit_facts {slot : Fin 8} {a : CommitArm} :
    (s.applyCommit slot.val a).arms = tblDrop s.arms slot.val ∧
      (s.applyCommit slot.val a).attr Attr.syn_commit_slots 0 slot.val = SlotOutcome.applied.code ∧
      ((s.applyCommit slot.val a).latch (Ev.commit slot.val)).latched = true ∧ (s.applyCommit slot.val a).counter = s.counter ∧
      (∀ n < 8, bitOf a.synMask n = true → s.takenBy (s.applyCommit slot.val a) n) ∧
      (∀ n < 8, bitOf a.synMask n = false → (s.applyCommit slot.val a).syn n = s.syn n) ∧
      (∀ o < 32, bitOf a.outMask o = true → (s.applyCommit slot.val a).activeSetting o = s.pendingSetting o) := by
  let members := (List.range 32).filter (bitOf a.outMask)
  have hmembers : ∀ o ∈ members, o < 32 := fun o ho => List.mem_range.mp (List.mem_filter.mp ho).1
  let u := s.forEach (synMembers a.synMask) fun y n => y.commitSyn a.outMask n
  let v := u.forEach members State.commitOutput
  let x := v.forEach members fun y o => y.beginPeriod s o
  let w := x.forEach (synMembers a.synMask) fun y n => y.raise (Ev.syn n 3) false slot.val
  let z : State := ({ w with arms := tblDrop w.arms slot.val } : State).put Attr.syn_commit_slots 0 slot.val SlotOutcome.applied.code
  have happly : s.applyCommit slot.val a = z.raise (Ev.commit slot.val) false (if a.stepped then 2 else 1) := rfl
  have hparts : Evolves (.inputs :: .syns :: .outs :: raiseParts) s w :=
    (((Evolves.refl.forEach fun _ _ => Evolves.refl.commitSyn).forEach fun _ _ => Evolves.refl.commitOutput).forEach
      fun _ _ => Evolves.refl.beginPeriod).forEach fun _ _ => Evolves.refl.raise
  have hlate : Evolves (.outs :: raiseParts) u w :=
    ((Evolves.refl.forEach fun _ _ => Evolves.refl.commitOutput).forEach fun _ _ => Evolves.refl.beginPeriod).forEach fun _ _ => Evolves.refl.raise
  obtain ⟨done, hdone, hmem⟩ := SynsCommitted.all (s := s) (mask := a.outMask) (done := []) (l := synMembers a.synMask)
    ⟨rfl, .refl, fun _ _ h => absurd h List.not_mem_nil, fun _ _ _ => rfl⟩ fun n hn => (synMembers_mem.mp hn).1
  have hbegun : Writes [] v w :=
    (Writes.forEach .refl fun _ _ _ => Writes.ite .refl Writes.refl.setOutp).forEach fun _ _ _ => Writes.refl.raise
  have houtputs : Writes (Attr.output_divider_active.id :: lehrMoves) u v :=
    .forEach .refl fun _ o ho =>
      have := hmembers o ho
      (Writes.refl.replacePulse this).put1
  have hz : Writes [Attr.syn_commit_slots.id] w (s.applyCommit slot.val a) := happly ▸ (Writes.of_eq .refl).put.raise
  have hsyns : (s.applyCommit slot.val a).syns = u.syns := by
    rw [happly, State.raise_syns, State.put_syns]
    exact hlate.same .syns (by decide)
  have hdpll : ∀ n < 8, (s.applyCommit slot.val a).attr Attr.syn_dpll_active n = u.attr Attr.syn_dpll_active n := fun n hn =>
    hz.attr.trans (hbegun.attr.trans houtputs.attr)
  have hsource := commitSource slot
  refine ⟨?_, ?_, State.raise_latched hsource.1 hsource.2.1 hsource.2.2, ?_, fun n hn hbit => ?_, fun n hn hbit => ?_, fun o ho hbit => ?_⟩
  · rw [happly, State.raise_arms, State.put_arms]
    exact congrArg (tblDrop · slot.val) (hparts.same .arms (by decide))
  · rw [happly, State.raise_attr _ (by decide) (by decide) (by omega)]
    exact State.attr_put_same ..
  · rw [happly, State.raise_counter, State.put_counter]
    exact hparts.same .counter (by decide)
  · obtain ⟨hratio, hactive, hat⟩ := hdone.taken n hn ((hmem n).mpr (.inr (synMembers_mem.mpr ⟨hn, hbit⟩)))
    refine ⟨?_, (hdpll n hn).trans hactive, (congrArg (·.committedAt) (State.syn_of_syns hsyns n)).trans hat⟩
    rw [State.activeRatio, State.syn_of_syns hsyns]
    exact hratio
  · refine (State.syn_of_syns hsyns n).trans (hdone.kept n hn fun hin => ?_)
    rcases (hmem n).mp hin with h | h
    · cases h
    · exact absurd ((synMembers_mem.mp h).2.symm.trans hbit) (by decide)
  · have hv : v.activeSetting o = s.pendingSetting o :=
      State.commitOutputs_setting hmembers hdone.writes o ho (.inl (List.mem_filter.mpr ⟨List.mem_range.mpr ho, hbit⟩))
    have hx : x.activeSetting o = v.activeSetting o :=
      State.forEach_keeps (fun y : State => y.activeSetting o) _ (fun _ _ => State.beginPeriod_setting) _ _
    have hw : w.outs = x.outs := (Evolves.forEach (P := raiseParts) .refl fun _ _ => Evolves.refl.raise).same .outs (by decide)
    have hraised : Writes [] x w := .forEach .refl fun _ _ _ => Writes.refl.raise
    refine (State.activeSetting_of ?_ (hz.attr.trans hraised.attr)).trans (hx.trans hv)
    refine State.outp_of_outs ?_ o
    rw [happly, State.raise_outs, State.put_outs]
    exact hw

theorem commitTrigger_facts {slot : Fin 8} {a : CommitArm} (hup : s.timing = true) (harm : tblFind s.arms slot.val = some a)
    (hreached : s.triggerReached a = some u) :
    ∃ t, exec (.commitTrigger slot) s = .next t ∧ tblFind t.arms slot.val = none ∧
      (∀ k, k ≠ slot.val → tblFind t.arms k = tblFind s.arms k) ∧
      t.attr Attr.syn_commit_slots 0 slot.val = SlotOutcome.applied.code ∧ (t.latch (Ev.commit slot.val)).latched = true ∧
      (∀ n, n < 8 → bitOf a.synMask n = true →
        t.activeRatio n = s.pendingRatio n ∧ t.attr Attr.syn_dpll_active n = s.attr Attr.syn_dpll n ∧
          (t.syn n).committedAt = some u.counter) ∧
      (∀ n, n < 8 → bitOf a.synMask n = false → t.syn n = s.syn n) ∧
      (∀ o, o < 32 → bitOf a.outMask o = true → t.activeSetting o = s.pendingSetting o) ∧ t.counter = u.counter := by
  have hexec : exec (.commitTrigger slot) s = .next (u.applyCommit slot.val a) := by
    change execCommitTrigger slot s = _
    unfold execCommitTrigger
    simp only [harm, State.when_, hup, if_true, hreached]
  have hsame : s.sameBut u [.counter] := (Evolves.triggerReached hreached .refl).same
  have hattrs : u.attrs = s.attrs := hsame .attrs (by decide)
  obtain ⟨harms, hslot, hlatch, hcounter, htaken, hkept, hset⟩ := u.applyCommit_facts (slot := slot) (a := a)
  have hu : s.arms = u.arms := (hsame .arms (by decide)).symm
  refine ⟨_, hexec, ?_, fun k hk => ?_, hslot, hlatch, fun n hn hbit => ?_, fun n hn hbit => ?_, fun o ho hbit => ?_, hcounter⟩
  · rw [harms, tblFind_drop_same]
  · rw [harms, tblFind_drop_other _ hk, hu]
  · obtain ⟨hratio, hactive, hat⟩ := htaken n hn hbit
    refine ⟨hratio.trans ?_, hactive.trans (State.attr_of_attrs hattrs), hat⟩
    rw [State.pendingRatio, State.pendingRatio, State.attrN, State.attrN, State.attr_of_attrs hattrs, State.attr_of_attrs hattrs]
    rfl
  · exact (hkept n hn hbit).trans (State.syn_of_syns (hsame .syns (by decide)) n)
  · exact (hset o ho hbit).trans (State.pendingSetting_of (Writes.refl.of_same (ids := []) hsame) ho)

/-- Settles O30. -/
theorem commitApplies : Obligations.CommitApplies := fun _ _ _ _ => commitTrigger_facts

end Sys2Proof.Machine
end

section
/-! Generators start, are gated, step and return to their targets (R213 to R218, R235 to R240, R248). -/

set_option Elab.async false

namespace Sys2Proof.Machine

variable {s t u : State} {n g k : Nat}

/-! ### What a generator and its time depend on -/

theorem State.gen_of_gens (h : t.gens = s.gens) (k : Nat) : t.gen k = s.gen k := by rw [State.gen, State.gen, h]

/-- The ids of the attributes that name the domain of a generator. -/
def genDomainIds : List Nat := [Attr.vidgen_domain.id, Attr.audgen_domain.id, Attr.tcgen_domain.id, Attr.todgen_domain.id]

theorem State.genDomain_of {ids : List Nat} (h : Writes ids s t) (hg : g < 18) (hi : ∀ i ∈ genDomainIds, i ∉ ids := by decide) :
    t.genDomain g = s.genDomain g := by
  have hattr : ∀ {a : AttrDesc} {j : Nat}, a.id ∈ genDomainIds → a.id ∉ bookAttrs → j < 18 → t.attrN a j = s.attrN a j := fun {a j} ha hb hj => by
    rw [State.attrN, h.attr (hi _ ha) hb, State.attrN]
  unfold State.genDomain
  rw [hattr (by decide) (by decide) hg, hattr (by decide) (by decide) (by omega), hattr (by decide) (by decide) (by omega),
    hattr (by decide) (by decide) (by omega)]

theorem State.lehrTime_of (hd : t.doms = s.doms) (hc : t.counter = s.counter) (d : Nat) : t.lehrTime d = s.lehrTime d := by
  rw [State.lehrTime, State.lehrTime, State.dom_of_doms hd, hc]

/-- The time that a generator's Lehr runs by. -/
def State.genTime (s : State) (g : Nat) : Int := s.lehrTime (s.genDomain g)

theorem State.genTime_of {ids : List Nat} (h : Writes ids s t) (hg : g < 18) (hd : t.doms = s.doms) (hc : t.counter = s.counter)
    (hi : ∀ i ∈ genDomainIds, i ∉ ids := by decide) : t.genTime g = s.genTime g := by
  rw [State.genTime, State.genDomain_of h hg hi, State.lehrTime_of hd hc, State.genTime]

/-! ### The dates of a generator (R231, R248) -/

/-- A judgement of a date touches only the mark of its generator. -/
theorem State.judgeDate_gen : (∃ b, (s.judgeDate g).gen g = { s.gen g with dateBad := b }) ∧ ∀ k, k ≠ g → (s.judgeDate g).gen k = s.gen k := by
  have hclear : (∃ b, (s.clearDate g).gen g = { s.gen g with dateBad := b }) ∧ ∀ k, k ≠ g → (s.clearDate g).gen k = s.gen k := by
    unfold State.clearDate
    split
    case isTrue h =>
      dsimp only
      split
      · exact ⟨⟨_, State.gen_setGen ..⟩, fun k hk => State.gen_setGen_other s _ hk⟩
      · refine ⟨⟨_, (State.gen_of_gens (State.uncause_gens ..) g).trans (State.gen_setGen ..)⟩, fun k hk => ?_⟩
        exact (State.gen_of_gens (State.uncause_gens ..) k).trans (State.gen_setGen_other s _ hk)
    case isFalse => exact ⟨⟨(s.gen g).dateBad, rfl⟩, fun _ _ => rfl⟩
  unfold State.judgeDate
  dsimp only
  split
  · exact hclear
  · split
    · exact ⟨⟨(s.gen g).dateBad, rfl⟩, fun _ _ => rfl⟩
    · refine ⟨⟨_, (State.gen_of_gens (State.raise_gens ..) g).trans (State.gen_setGen ..)⟩, fun k hk => ?_⟩
      exact (State.gen_of_gens (State.raise_gens ..) k).trans (State.gen_setGen_other s _ hk)

/-! ### GENERATOR_START and GENERATOR_GATE (R214, R215) -/

/-- A generator that starts, with its counts and dates still to be settled. -/
def State.genStarted (s : State) (g : Nat) : State :=
  let t := s.reach (s.genDomain g) (s.genStartPoint g)
  t.setGen g { running := true, gated := t.genGateWanted g, armedAt := (t.gen g).armedAt, start := s.genStartPoint g
               lehr := { since := t.lehrTime (t.genDomain g) } }

/-- What settling the count and the date of a generator that starts leaves alone. -/
structure StartSettled (g : Nat) (u v : State) : Prop where
  own : ∃ b c, v.gen g = { u.gen g with base := b, dateBad := c }
  others : ∀ k, k ≠ g → v.gen k = u.gen k
  counter : v.counter = u.counter
  doms : v.doms = u.doms
  writes : Writes [Attr.vidgen_format_active.id] u v

theorem StartSettled.refl : StartSettled g u u := ⟨⟨(u.gen g).base, (u.gen g).dateBad, rfl⟩, fun _ _ => rfl, rfl, rfl, .refl⟩

theorem StartSettled.judgeDate (h : StartSettled g u t) : StartSettled g u (t.judgeDate g) := by
  obtain ⟨⟨b, c, hown⟩, hothers, hcounter, hdoms, hwrites⟩ := h
  obtain ⟨⟨c', hjudged⟩, hkept⟩ := t.judgeDate_gen (g := g)
  have hparts := (Evolves.judgeDate (P := .gens :: raiseParts) (s := t) (g := g) .refl).same
  refine ⟨⟨b, c', hjudged.trans ?_⟩, fun k hk => (hkept k hk).trans (hothers k hk), (hparts .counter (by decide)).trans hcounter,
    (hparts .doms (by decide)).trans hdoms, hwrites.andThen State.judgeDate_writes⟩
  rw [hown]

theorem exec_generatorStart {x : Gen} (hup : s.timing = true) (hrel : s.genReleased (genNumber x) = true) :
    ∃ t, exec (.generatorStart x) s = .next t ∧ StartSettled (genNumber x) (s.genStarted (genNumber x)) t := by
  have hgate : (s.timing && s.genReleased (genNumber x)) = true := by rw [hup, hrel]; rfl
  refine ⟨_, congrArg Host.Outcome.next (if_pos hgate), ?_⟩
  cases x with
  | vid n =>
    refine ⟨⟨_, _, State.gen_of_gens (State.put1_gens ..) _⟩, fun k _ => State.gen_of_gens (State.put1_gens ..) k, State.put1_counter .., State.put1_doms ..,
      Writes.refl.put1⟩
  | aud n => exact .refl
  | tc n =>
    refine StartSettled.judgeDate ?_
    split
    · exact ⟨⟨_, _, State.gen_setGen ..⟩, fun k hk => State.gen_setGen_other _ _ hk, rfl, rfl, Writes.refl.setGen⟩
    · exact .refl
  | tod n => exact .refl

theorem generatorStart_facts {x : Gen} (hup : s.timing = true) (hrel : s.genReleased (genNumber x) = true) :
    ∃ t, exec (.generatorStart x) s = .next t ∧ (t.gen (genNumber x)).running = true ∧
      (t.gen (genNumber x)).start = s.genStartPoint (genNumber x) ∧
      t.counter = (s.reach (s.genDomain (genNumber x)) (s.genStartPoint (genNumber x))).counter ∧
      (t.gen (genNumber x)).gated = s.genGateWanted (genNumber x) ∧
      (t.gen (genNumber x)).lehr = { since := t.lehrTime (t.genDomain (genNumber x)) } ∧
      (∀ k, k ≠ genNumber x → t.gen k = s.gen k) := by
  obtain ⟨t, hexec, ⟨b, c, hown⟩, hothers, hcounter, hdoms, hwrites⟩ := exec_generatorStart hup hrel
  have hlt := genNumber_lt x
  generalize genNumber x = g at *
  have hgen : (s.genStarted g).gen g = { running := true, gated := s.genGateWanted g, armedAt := (s.gen g).armedAt, start := s.genStartPoint g
                                         lehr := { since := (s.genStarted g).genTime g } } := State.gen_setGen ..
  refine ⟨t, hexec, ?_, ?_, hcounter, ?_, ?_, fun k hk => (hothers k hk).trans (State.gen_setGen_other _ _ hk)⟩
  · rw [hown, hgen]
  · rw [hown, hgen]
  · rw [hown, hgen]
  · rw [hown, hgen]
    exact congrArg (fun x => ({ since := x } : Lehr)) (State.genTime_of hwrites hlt hdoms hcounter).symm

theorem generatorGate_facts {x : Gen} (hup : s.timing = true) (hrun : (s.gen (genNumber x)).running = true) :
    ∃ t, exec (.generatorGate x) s = .next t ∧ t.gen (genNumber x) = { s.gen (genNumber x) with gated := s.genGateWanted (genNumber x) } ∧
      (∀ k, k ≠ genNumber x → t.gen k = s.gen k) ∧ s.sameBut t [.gens] := by
  have hgate : (s.timing && (s.gen (genNumber x)).running) = true := by rw [hup, hrun]; rfl
  exact ⟨_, congrArg Host.Outcome.next (if_pos hgate), State.gen_setGen .., fun k hk => State.gen_setGen_other s _ hk,
    (Evolves.refl.setGen (P := [.gens])).same⟩

/-! ### A Lehr error becomes 0 (R236, R239, R240) -/

theorem State.replaceGen_gens {before : Int} {r : GenRec} : (s.replaceGen g before r).gens = (s.setGen g r).gens :=
  (Evolves.lehrEvents (P := raiseParts) .refl).same .gens (by decide)

theorem State.replaceGen_ends {before : Int} {r : GenRec} (hr : r.lehr.e = 0) : s.attrsKept (s.replaceGen g before r) [] := by
  have hset : s.attrsKept (s.setGen g r) [] := State.attrsKept_refl.of_eq
  unfold State.replaceGen
  rw [hr]
  exact hset.trans State.lehrEvents_attrsKept

/-- Where an error that had been written ends, its source latches (R240). -/
theorem State.lehrEvents_latched {stored before : Int} {moves : AttrDesc} {i detail : Nat} (h : stored ≠ 0) :
    ((s.lehrEvents stored before 0 moves i detail).latch 579).latched = true := by
  unfold State.lehrEvents
  dsimp only
  rw [if_neg (fun h => h.2 rfl)]
  by_cases hb : before = 0
  · rw [if_neg (fun hx => hx.1 hb), if_pos ⟨h, hb⟩]
    exact State.raise_latched
  · rw [if_pos ⟨hb, rfl⟩]
    exact State.raise_latched

theorem State.genAligned_facts (hg : g < 18) : ((s.genAligned g).gen g).lehr = { since := (s.genAligned g).genTime g } ∧
    s.framedRaise (s.genAligned g) [.gens] [] ∧ ((s.gen g).lehr.e ≠ 0 → ((s.genAligned g).latch 579).latched = true) := by
  have hev : Evolves (.gens :: raiseParts) s (s.genAligned g) := .genAligned .refl
  have hwrites : Writes lehrMoves s (s.genAligned g) := State.replaceGen_writes hg
  refine ⟨?_, ⟨State.sameBut_mono hev.same (by decide), State.replaceGen_ends rfl, hwrites.rings⟩, State.lehrEvents_latched⟩
  rw [State.genTime_of hwrites hg (hev.same .doms (by decide)) (hev.same .counter (by decide)), State.genAligned,
    State.gen_of_gens State.replaceGen_gens, State.gen_setGen]
  rfl

/-- What follows an advance of the counter keeps its frame. -/
theorem State.framedRaise_advance {k : Nat} {p : Part} (h : (s.advance k).framedRaise t [p] []) : s.framedRaise t [.counter, p] [] := by
  obtain ⟨hparts, hattrs, hrings⟩ := h
  have hadvance : s.sameBut (s.advance k) [.counter] := (Evolves.refl.advance (P := [.counter])).same
  exact ⟨State.sameBut_trans (State.sameBut_mono hadvance (by simp)) (State.sameBut_mono hparts (by simp)), hattrs, hrings⟩

theorem stepRestart_gen {x : Gen} (hup : s.timing = true) (hstep : (s.gen (genNumber x)).lehr.stepping = true) :
    ∃ t, exec (.stepRestart (.gen x)) s = .next t ∧
      (t.gen (genNumber x)).lehr = { since := t.lehrTime (t.genDomain (genNumber x)) } ∧
      t.counter = (s.reach (s.genDomain (genNumber x)) (s.genRestartPoint (genNumber x))).counter ∧ s.framedRaise t [.counter, .gens] [] := by
  have hgate : (s.timing && (s.gen (genNumber x)).lehr.stepping) = true := by rw [hup, hstep]; rfl
  obtain ⟨hlehr, hframe, -⟩ := (s.reach (s.genDomain (genNumber x)) (s.genRestartPoint (genNumber x))).genAligned_facts (genNumber_lt x)
  exact ⟨_, congrArg Host.Outcome.next (if_pos hgate), hlehr, hframe.1 .counter (by decide), State.framedRaise_advance hframe⟩

theorem lehrMovementEnd_gen {x : Gen} (hup : s.timing = true) (he : (s.gen (genNumber x)).lehr.e ≠ 0)
    (hstep : (s.gen (genNumber x)).lehr.stepping = false) : ∃ t, exec (.lehrMovementEnd (.gen x)) s = .next t ∧
      (t.gen (genNumber x)).lehr = { since := t.lehrTime (t.genDomain (genNumber x)) } ∧
      (t.latch 579).latched = true ∧ s.framedRaise t [.counter, .gens] [] := by
  have hgate : (s.timing && (s.gen (genNumber x)).lehr.e != 0 && !(s.gen (genNumber x)).lehr.stepping) = true := by
    rw [hup, hstep, bne_iff_ne.mpr he]
    rfl
  obtain ⟨hlehr, hframe, hlatch⟩ := (s.reach (s.genDomain (genNumber x)) ((s.gen (genNumber x)).lehr.endsAt
    (s.attrN (genRate (genNumber x)) (genInst (genNumber x))))).genAligned_facts (genNumber_lt x)
  exact ⟨_, congrArg Host.Outcome.next (if_pos hgate), hlehr, hlatch he, State.framedRaise_advance hframe⟩

/-! ### PULSE outputs -/

theorem State.boundDom_of {ids : List Nat} (h : Writes ids s t) (hi : ∀ i ∈ [Attr.domain_state.id, Attr.domain_bound_dpll.id], i ∉ ids := by decide)
    (m : Nat) : t.boundDom m = s.boundDom m := by
  refine List.find?_congr fun d hd => ?_
  have hlt := List.mem_range.mp hd
  rw [State.boundDpll_of_attr (h.attr (hi _ (by simp))) (h.attr (hi _ (by simp)))]

theorem State.outTime_of {ids : List Nat} (h : Writes ids s t) (hn : n < 32) (hd : t.doms = s.doms) (hc : t.counter = s.counter)
    (hi : ∀ i ∈ [Attr.domain_state.id, Attr.domain_bound_dpll.id, Attr.syn_dpll_active.id], i ∉ ids := by decide) : t.outTime n = s.outTime n := by
  have hdom : t.outDomain n = s.outDomain n := by
    rw [State.outDomain, State.attrN, h.attr (hi _ (by simp)), State.boundDom_of h (fun i hm => hi i (by simp at hm ⊢; tauto)), State.outDomain, State.attrN]
  unfold State.outTime
  rw [hdom]
  cases s.outDomain n with
  | none => rfl
  | some d => exact State.lehrTime_of hd hc d

theorem State.outAlignedNow_facts (hn : n < 32) : ((s.outAlignedNow n).outp n).lehr = { since := (s.outAlignedNow n).outTime n } ∧
    s.framedRaise (s.outAlignedNow n) [.outs] [] ∧ ((s.outp n).lehr.e ≠ 0 → ((s.outAlignedNow n).latch 579).latched = true) := by
  have hev : Evolves (.outs :: raiseParts) s (s.outAlignedNow n) := .outAlignedNow .refl
  have hwrites : Writes lehrMoves s (s.outAlignedNow n) := State.replacePulse_writes hn
  refine ⟨?_, ⟨State.sameBut_mono hev.same (by decide), State.replacePulse_ends rfl, hwrites.rings⟩, State.lehrEvents_latched⟩
  rw [State.outTime_of hwrites hn (hev.same .doms (by decide)) (hev.same .counter (by decide)), State.outAlignedNow,
    State.outp_of_outs State.replacePulse_outs, State.outp_setOutp]

theorem stepRestart_out {n : Fin 32} (hup : s.timing = true) (hstep : (s.outp n.val).lehr.stepping = true) :
    ∃ t, exec (.stepRestart (.out n)) s = .next t ∧ (t.outp n.val).lehr = { since := t.outTime n.val } ∧
      t.counter = (s.reachGrid n.val (s.outRestartPoint n.val)).counter ∧ s.framedRaise t [.counter, .outs] [] := by
  have hgate : (s.timing && (s.outp n.val).lehr.stepping) = true := by rw [hup, hstep]; rfl
  obtain ⟨k, hk⟩ := State.reachGrid_eq (s := s) (o := n.val) (x := s.outRestartPoint n.val)
  have hexec : exec (.stepRestart (.out n)) s = .next ((s.advance k).outAlignedNow n.val) :=
    congrArg Host.Outcome.next ((if_pos hgate).trans (congrArg (State.outAlignedNow · n.val) hk))
  obtain ⟨hlehr, hframe, -⟩ := (s.advance k).outAlignedNow_facts n.isLt
  exact ⟨_, hexec, hlehr, (hframe.1 .counter (by decide)).trans (by rw [hk]), State.framedRaise_advance hframe⟩

theorem lehrMovementEnd_out {n : Fin 32} (hup : s.timing = true) (he : (s.outp n.val).lehr.e ≠ 0) (hstep : (s.outp n.val).lehr.stepping = false) :
    ∃ t, exec (.lehrMovementEnd (.out n)) s = .next t ∧ (t.outp n.val).lehr = { since := t.outTime n.val } ∧
      (t.latch 579).latched = true ∧ s.framedRaise t [.counter, .outs] [] := by
  have hgate : (s.timing && (s.outp n.val).lehr.e != 0 && !(s.outp n.val).lehr.stepping) = true := by
    rw [hup, hstep, bne_iff_ne.mpr he]
    rfl
  obtain ⟨k, hk⟩ := State.reachGrid_eq (s := s) (o := n.val) (x := (s.outp n.val).lehr.endsAt (s.attrN Attr.output_lehr_rate n.val))
  have hexec : exec (.lehrMovementEnd (.out n)) s = .next ((s.advance k).outAlignedNow n.val) :=
    congrArg Host.Outcome.next ((if_pos hgate).trans (congrArg (State.outAlignedNow · n.val) hk))
  obtain ⟨hlehr, hframe, hlatch⟩ := (s.advance k).outAlignedNow_facts n.isLt
  exact ⟨_, hexec, hlehr, hlatch he, State.framedRaise_advance hframe⟩

/-! ### GENERATOR_OUTPUT_FAULT (R248) -/

/-- The source of a generator's output is defined and fitted. -/
theorem genSources : ∀ k < 18, Ev.defined (560 + k) = true ∧ 560 + k ∉ bookSources ∧ 560 + k ∉ [321, 322, 327, 328] := by decide

theorem genFault_volatile : ∀ k < 18, (genFault k).id ∉ bookAttrs ∧ genInst k < 18 := by decide

theorem generatorOutputFault_facts {x : Gen} (hup : s.timing = true) :
    (∃ t, exec (.generatorOutputFault x true) s = .next t ∧ t.flag (genFault (genNumber x)) (genInst (genNumber x)) = true ∧
      (s.flag (genFault (genNumber x)) (genInst (genNumber x)) = false → (t.latch (560 + genNumber x)).latched = true)) ∧
    ∃ t, exec (.generatorOutputFault x false) s = .next t ∧ t.flag (genFault (genNumber x)) (genInst (genNumber x)) = false ∧
      (t.latch (560 + genNumber x)).cause = false := by
  obtain ⟨hd, hb, hf⟩ := genSources _ (genNumber_lt x)
  obtain ⟨hbook, hinst⟩ := genFault_volatile _ (genNumber_lt x)
  refine ⟨?_, ⟨_, congrArg Host.Outcome.next ((if_pos hup).trans (if_neg Bool.false_ne_true)), ?_, State.uncause_cause _ _⟩⟩
  · by_cases hfault : s.flag (genFault (genNumber x)) (genInst (genNumber x)) = true
    · exact ⟨s, congrArg Host.Outcome.next ((if_pos hup).trans ((if_pos rfl).trans (if_pos hfault))), hfault,
        fun h => absurd (hfault.symm.trans h) (by decide)⟩
    · refine ⟨_, congrArg Host.Outcome.next ((if_pos hup).trans ((if_pos rfl).trans (if_neg hfault))), ?_, fun _ => State.raise_latched hd hb hf⟩
      rw [State.flag, State.raise_attr _ hbook (by omega) (by decide), State.attr_put1_same]
      rfl
  · rw [State.flag, State.attr_of_attrs (State.uncause_attrs ..), State.attr_put1_same]
    rfl

/-- Settles O32. -/
theorem generatorEvents : Obligations.GeneratorEvents :=
  ⟨fun _ _ => generatorStart_facts, fun _ _ => generatorGate_facts, fun _ _ => stepRestart_gen, fun _ _ => stepRestart_out,
    fun _ _ => lehrMovementEnd_gen, fun _ _ => lehrMovementEnd_out, fun _ _ => generatorOutputFault_facts⟩

end Sys2Proof.Machine
end

section
/-! Video formats, AES grades, jams and the messages of a ToD output (R216, R223, R226, R229, R232 to R234). -/

set_option Elab.async false

namespace Sys2Proof.Machine

variable {s t u : State} {n k : Nat}

/-! ### VIDEO_FORMAT_CHANGE and AES_GRADE_CHANGE (R223, R226) -/

/-- The grid of a video generator depends on its active format and its offset. -/
theorem State.gridError_of {ids : List Nat} (h : Writes ids s t) (hn : n < 8) (x : Int)
    (hi : ∀ i ∈ [Attr.vidgen_format_active.id, Attr.vidgen_vid_offset.id], i ∉ ids := by decide) : t.gridError n x = s.gridError n x := by
  have hperiod : t.genPeriod n = s.genPeriod n := by
    unfold State.genPeriod
    rw [if_pos hn, if_pos hn, State.attrN, State.attrN, h.attr (hi _ (by simp))]
  have hoffset : t.genOffset n = s.genOffset n := by
    unfold State.genOffset
    rw [if_pos hn, if_pos hn, h.attr (hi _ (by simp))]
  rw [State.gridError, State.gridError, hperiod, hoffset]

/-- The set format of a video generator taken, before its error is formed anew. -/
def State.formatTaken (s : State) (n : Nat) : State :=
  let t := s.reach (s.genDomain n) (s.unitEnd n).1
  let u := t.put1 Attr.vidgen_format_active n (t.attr Attr.vidgen_vid_format n)
  u.setGen n { u.gen n with formatDue := false }

theorem videoFormatChange_facts {n : Fin 8} (hup : s.timing = true) (hrun : (s.gen n.val).running = true) (hdue : (s.gen n.val).formatDue = true) :
    ∃ t, exec (.videoFormatChange n) s = .next t ∧ t.attr Attr.vidgen_format_active n.val = s.attr Attr.vidgen_vid_format n.val ∧
      (t.gen n.val).formatDue = false ∧ (t.gen n.val).lehr.e = t.gridError n.val (s.unitEnd n.val).1 ∧
      (∀ k, k ≠ n.val → t.gen k = s.gen k) ∧ t.counter = (s.reach (s.genDomain n.val) (s.unitEnd n.val).1).counter := by
  let before := (s.reach (s.genDomain n.val) (s.unitEnd n.val).1).genLehr n.val
  let after := (s.formatTaken n.val).gridError n.val (s.unitEnd n.val).1
  have hexec : exec (.videoFormatChange n) s = .next ((s.formatTaken n.val).putGenLehr n.val before after) :=
    congrArg Host.Outcome.next (if_pos (by simp [hup, hrun, hdue]))
  have hwrites : Writes lehrMoves (s.formatTaken n.val) ((s.formatTaken n.val).putGenLehr n.val before after) := State.replaceGen_writes (by omega)
  have hgen : (s.formatTaken n.val).gen n.val = { s.gen n.val with formatDue := false } := by
    rw [State.formatTaken, State.gen_setGen, State.gen_of_gens (State.put1_gens ..)]
    rfl
  have hlehr : ((s.formatTaken n.val).putGenLehr n.val before after).gen n.val = { (s.formatTaken n.val).gen n.val with
      lehr := { ((s.formatTaken n.val).gen n.val).lehr with e := after, since := (s.formatTaken n.val).lehrTime ((s.formatTaken n.val).genDomain n.val) } } := by
    rw [State.putGenLehr, State.gen_of_gens State.replaceGen_gens, State.gen_setGen]
  refine ⟨_, hexec, hwrites.attr.trans (State.attr_put1_same ..), ?_, ?_, fun k hk => ?_, ?_⟩
  · rw [hlehr, hgen]
  · rw [hlehr, State.gridError_of hwrites n.isLt]
  · rw [State.putGenLehr, State.gen_of_gens State.replaceGen_gens, State.gen_setGen_other _ _ hk, State.formatTaken, State.gen_setGen_other _ _ hk,
      State.gen_of_gens (State.put1_gens ..)]
    rfl
  · refine ((Evolves.putGenLehr (P := .gens :: raiseParts) .refl).same .counter (by decide)).trans ?_
    rw [State.formatTaken, State.setGen_counter, State.put1_counter]

theorem aesGradeChange_facts {n : Fin 2} (hup : s.timing = true) (hrun : (s.gen (12 + n.val)).running = true)
    (hgrade : s.aesGradeNow (12 + n.val) ≠ s.attr Attr.audgen_aes_grade (4 + n.val)) :
    ∃ t, exec (.aesGradeChange n) s = .next t ∧ t.attr Attr.audgen_aes_grade (4 + n.val) = s.aesGradeNow (12 + n.val) ∧
      (t.latch 586).latched = true ∧ s.framedRaise t [] [Attr.audgen_aes_grade.key (4 + n.val) 0] := by
  refine ⟨_, congrArg Host.Outcome.next (if_pos (by simp [hup, hrun, hgrade])), ?_, State.raise_latched,
    State.framedRaise_of (.raise (.put1 .refl)) State.attrsKept_refl.put1.raise⟩
  rw [State.raise_attr _ (by decide) (by omega) (by decide)]
  exact State.attr_put1_same ..

/-! ### Jams (R216, R229) -/

theorem jamArm_facts {n : Fin 2} {transition : Bool} (hup : s.control = true) (hrun : (s.gen (14 + n.val)).running = true) :
    ∃ t, exec (.jamArm n transition) s = .next t ∧
      t.gen (14 + n.val) = (if transition then { s.gen (14 + n.val) with tzArmed := true } else { s.gen (14 + n.val) with dailyArmed := true }) ∧
      (∀ k, k ≠ 14 + n.val → t.gen k = s.gen k) ∧ s.sameBut t [.gens] :=
  ⟨_, congrArg Host.Outcome.next (if_pos (by simp [hup, hrun])), State.gen_setGen .., fun k hk => State.gen_setGen_other s _ hk,
    (Evolves.refl.setGen (P := [.gens])).same⟩

theorem State.attrN_of_attrs {a : AttrDesc} {i e : Nat} (h : t.attrs = s.attrs) : t.attrN a i e = s.attrN a i e :=
  congrArg Int.toNat (State.attr_of_attrs h)

theorem State.utcHeld_of_attrs (h : t.attrs = s.attrs) (d : Nat) (x : Int) : t.utcHeld d x = s.utcHeld d x := by
  have hleap : t.leapOf d = s.leapOf d := by rw [State.leapOf, State.attr_of_attrs h, State.leapOf]
  have hraw : t.utcRaw d x = s.utcRaw d x := by rw [State.utcRaw, State.attr_of_attrs h, State.utcRaw]
  have hday : t.leapS d = s.leapS d := by rw [State.leapS, State.attr_of_attrs h, State.leapS]
  rw [State.utcHeld, State.utcHeld, State.inInserted, State.inInserted, hleap, hraw, hday]

theorem State.zoneOffset_of_attrs (h : t.attrs = s.attrs) (d k : Nat) : t.zoneOffset d k = s.zoneOffset d k := by
  rw [State.zoneOffset, State.zoneOffset, State.attr_of_attrs h, State.attrN_of_attrs h]

theorem State.zoneAt_of_attrs (h : t.attrs = s.attrs) (d last : Nat) (x : Int) : t.zoneAt d last x = s.zoneAt d last x := by
  have hentries : t.tzEntries d = s.tzEntries d := by simp only [State.tzEntries, State.attrN_of_attrs h]
  rw [State.zoneAt, State.zoneAt, hentries]

theorem State.genDomain_of_attrs (h : t.attrs = s.attrs) (g : Nat) : t.genDomain g = s.genDomain g := by
  simp only [State.genDomain, State.attrN_of_attrs h]

/-- The base that a jam sets depends on the attributes, the domains and the transition that its counter has not taken. -/
theorem State.jamBase_of (ha : t.attrs = s.attrs) (hd : t.doms = s.doms) (hlag : (t.gen (14 + n)).tzLag = (s.gen (14 + n)).tzLag) (j : Int) :
    t.jamBase n j = s.jamBase n j := by
  have hzone : ∀ x, t.tcZone n x = s.tcZone n x := fun x => by
    rw [State.tcZone, State.tcZone, State.genDomain_of_attrs ha, hlag, State.dom_of_doms hd, State.zoneAt_of_attrs ha]
  have hlocal : t.tcLocal n j = s.tcLocal n j := by
    rw [State.tcLocal, State.tcLocal, State.genDomain_of_attrs ha, State.utcHeld_of_attrs ha, hzone, State.zoneOffset_of_attrs ha, State.attr_of_attrs ha]
  rw [State.jamBase, State.jamBase, hlocal, State.frameFrom, State.frameFrom, State.tcOffset, State.tcOffset, State.attr_of_attrs ha,
    State.attrN_of_attrs ha]

theorem State.jam_gen {j : Int} : (s.jam n j).gen (14 + n) = { s.gen (14 + n) with base := some (s.jamBase n j) } := by
  unfold State.jam
  dsimp only
  split
  · exact State.gen_setGen ..
  · rw [State.gen_of_gens (State.raise_gens ..), State.gen_of_gens (State.put1_gens ..), State.gen_of_gens (State.bump_gens ..), State.gen_setGen]

/-- A jam sets the base of the count and leaves what is armed and due as it was. -/
theorem State.jamAt_facts {j : Int} : ∃ b, (s.jamAt n j).gen (14 + n) = { s.gen (14 + n) with base := some (s.jamBase n j), dateBad := b } := by
  unfold State.jamAt
  dsimp only
  obtain ⟨⟨b, hb⟩, -⟩ := State.judgeDate_gen (g := 14 + n) (s := (s.reach (s.genDomain (14 + n)) (reachPlace (s.lehrTime (s.genDomain (14 + n))) (s.genLehr (14 + n))
    (s.attrN (genRate (14 + n)) (genInst (14 + n))) (s.nextTcFrame n j))).jam n j)
  refine ⟨b, hb.trans ?_⟩
  rw [State.jam_gen]
  rfl

theorem dailyJam_facts {n : Fin 2} (hup : s.timing = true) (hrun : (s.gen (14 + n.val)).running = true) (hrate : s.tc2997 n.val = true)
    (harmed : (s.gen (14 + n.val)).dailyArmed = true ∨ s.firmware = true) :
    ∃ t, exec (.dailyJam n) s = .next t ∧ (t.gen (14 + n.val)).dailyArmed = false ∧
      (t.gen (14 + n.val)).base = some (s.jamBase n.val (s.nextDaily n.val)) ∧ s.counter ≤ t.counter := by
  let u := s.setGen (14 + n.val) { s.gen (14 + n.val) with dailyArmed := false }
  have hexec : exec (.dailyJam n) s = .next (u.jamAt n.val (s.nextDaily n.val)) := by
    refine congrArg Host.Outcome.next (if_pos ?_)
    rcases harmed with h | h <;> simp [hup, hrun, hrate, h]
  obtain ⟨b, hb⟩ := State.jamAt_facts (s := u) (n := n.val) (j := s.nextDaily n.val)
  have hu : u.gen (14 + n.val) = { s.gen (14 + n.val) with dailyArmed := false } := State.gen_setGen ..
  have hbase : u.jamBase n.val (s.nextDaily n.val) = s.jamBase n.val (s.nextDaily n.val) := State.jamBase_of (t := u) (s := s) (n := n.val) rfl rfl (congrArg (·.tzLag) hu) _
  exact ⟨_, hexec, (congrArg (·.dailyArmed) hb).trans (congrArg (·.dailyArmed) hu), (congrArg (·.base) hb).trans (congrArg some hbase), (Evolves.of_next Evolves.execDailyJam_evolves hexec).forward⟩

theorem tcJamApply_facts {n : Fin 2} {j : Int} (hup : s.timing = true) (hrun : (s.gen (14 + n.val)).running = true) (hrate : s.tc2997 n.val = true)
    (hdue : (s.gen (14 + n.val)).jamDue = some j) : ∃ t, exec (.tcJamApply n) s = .next t ∧ (t.gen (14 + n.val)).jamDue = none ∧
      (t.gen (14 + n.val)).base = some (s.jamBase n.val j) ∧ s.counter ≤ t.counter := by
  let u := s.setGen (14 + n.val) { s.gen (14 + n.val) with jamDue := none }
  have hexec : exec (.tcJamApply n) s = .next (u.jamAt n.val j) := by
    change execTcJamApply n s = _
    unfold execTcJamApply
    dsimp only
    rw [State.when_, if_pos (by rw [hup, hrun, hrate]; rfl)]
    simp only [hdue]
    rfl
  obtain ⟨b, hb⟩ := State.jamAt_facts (s := u) (n := n.val) (j := j)
  have hu : u.gen (14 + n.val) = { s.gen (14 + n.val) with jamDue := none } := State.gen_setGen ..
  have hbase : u.jamBase n.val j = s.jamBase n.val j := State.jamBase_of (t := u) (s := s) (n := n.val) rfl rfl (congrArg (·.tzLag) hu) _
  exact ⟨_, hexec, (congrArg (·.jamDue) hb).trans (congrArg (·.jamDue) hu), (congrArg (·.base) hb).trans (congrArg some hbase), (Evolves.of_next Evolves.execTcJamApply_evolves hexec).forward⟩

/-! ### TODGEN_MESSAGE (R232 to R234) -/

theorem State.leaveQuiet_facts (hn : n < 2) {state : TodTxState} : (s.leaveQuiet n state).attr Attr.todgen_tod_tx_state n = state.code ∧
    Writes [Attr.todgen_tod_tx_state.id] s (s.leaveQuiet n state) ∧
    (state.code ≠ TodTxState.quiet.code → s.attr Attr.todgen_tod_tx_state (1 - n) ≠ TodTxState.quiet.code →
      ((s.leaveQuiet n state).latch 585).cause = false) := by
  have hsame : (s.put1 Attr.todgen_tod_tx_state n state.code).attr Attr.todgen_tod_tx_state n = state.code := State.attr_put1_same ..
  have hother : (s.put1 Attr.todgen_tod_tx_state n state.code).attr Attr.todgen_tod_tx_state (1 - n) = s.attr Attr.todgen_tod_tx_state (1 - n) :=
    State.attr_put1_inst s (by omega)
  unfold State.leaveQuiet
  dsimp only
  have hput : Writes [Attr.todgen_tod_tx_state.id] s (s.put1 Attr.todgen_tod_tx_state n state.code) := Writes.refl.put1
  generalize s.put1 Attr.todgen_tod_tx_state n state.code = v at *
  refine ⟨?_, .ite hput hput.uncause, fun hstate hquiet => ?_⟩
  · split
    · exact hsame
    · rw [State.attr_of_attrs (State.uncause_attrs ..)]
      exact hsame
  · rw [if_neg]
    · exact State.uncause_cause _ _
    · rcases (by omega : n = 0 ∨ n = 1) with rfl | rfl
      · rintro (h | h)
        · exact hstate (hsame.symm.trans h)
        · exact hquiet (hother.symm.trans h)
      · rintro (h | h)
        · exact hquiet (hother.symm.trans h)
        · exact hstate (hsame.symm.trans h)

/-- A judgement of a date raises or clears its own source only. -/
theorem State.judgeDate_raises {g : Nat} : Raises [583] s (s.judgeDate g) := by
  have hclear : Raises [583] s (s.clearDate g) := by
    have hset : ∀ r, Raises [583] s (s.setGen g r) := fun r => Raises.refl.of_faults rfl
    exact .ite (.ite (hset _) (hset _).uncause) .refl
  have hset : ∀ r, Raises [583] s (s.setGen g r) := fun r => Raises.refl.of_faults rfl
  exact .ite hclear (.ite .refl (hset _).raise)

/-- A pair of messages counted, before the date of an output that sends NMEA is judged. -/
def State.todCounted (s : State) (n : Nat) (e : Emission) : State := ((s.emit e).leaveQuiet n .sending).add Attr.todgen_tod_tx_count n 0 2

theorem State.todSend_eq : ∃ e, s.todSend n = s.todCounted n e ∨ s.todSend n = (s.todCounted n e).judgeDate (16 + n) := by
  unfold State.todSend
  dsimp only
  split
  · exact ⟨_, .inl rfl⟩
  · exact ⟨_, .inr rfl⟩

theorem State.todCounted_facts {e : Emission} (hn : n < 2) : (s.todCounted n e).attr Attr.todgen_tod_tx_state n = TodTxState.sending.code ∧
    (s.todCounted n e).attr Attr.todgen_tod_tx_count n = (s.attr Attr.todgen_tod_tx_count n + 2) % (256 ^ Attr.todgen_tod_tx_count.bytes : Nat) ∧
    (s.attr Attr.todgen_tod_tx_state (1 - n) ≠ TodTxState.quiet.code → ((s.todCounted n e).latch 585).cause = false) := by
  obtain ⟨hstate, hwrites, hcause⟩ := (s.emit e).leaveQuiet_facts hn (state := .sending)
  refine ⟨(State.attr_put_ne _).trans hstate, ?_, fun hother => ?_⟩
  · refine (State.attr_put_same ..).trans ?_
    rw [hwrites.attr]
    rfl
  · rw [State.todCounted, State.latch_of_faults (State.add_faults ..)]
    exact hcause (by decide) hother

theorem State.todSend_facts (hn : n < 2) : (s.todSend n).attr Attr.todgen_tod_tx_state n = TodTxState.sending.code ∧
    (s.todSend n).attr Attr.todgen_tod_tx_count n = (s.attr Attr.todgen_tod_tx_count n + 2) % (256 ^ Attr.todgen_tod_tx_count.bytes : Nat) ∧
    (s.attr Attr.todgen_tod_tx_state (1 - n) ≠ TodTxState.quiet.code → ((s.todSend n).latch 585).cause = false) := by
  obtain ⟨e, h⟩ := State.todSend_eq (s := s) (n := n)
  obtain ⟨hstate, hcount, hcause⟩ := s.todCounted_facts (e := e) hn
  rcases h with h | h
  · rw [h]
    exact ⟨hstate, hcount, hcause⟩
  · rw [h, State.judgeDate_writes.attr, State.judgeDate_writes.attr, State.judgeDate_raises.latch 585 (by decide) (by decide)]
    exact ⟨hstate, hcount, hcause⟩

theorem todgenMessage_facts {n : Fin 2} (hup : s.timing = true) (hrun : s.genState (16 + n.val) = .running) (hquiet : s.todQuiet n.val = false) :
    ∃ t, exec (.todgenMessage n) s = .next t ∧ t.attr Attr.todgen_tod_tx_state n.val = TodTxState.sending.code ∧
      t.attr Attr.todgen_tod_tx_count n.val = (s.attr Attr.todgen_tod_tx_count n.val + 2) % (256 ^ Attr.todgen_tod_tx_count.bytes : Nat) ∧
      (s.attr Attr.todgen_tod_tx_state (1 - n.val) ≠ TodTxState.quiet.code → (t.latch 585).cause = false) ∧
      t.counter = (s.reachGrid (s.attrN Attr.todgen_tod_companion n.val) (s.todInstant n.val)).counter := by
  obtain ⟨k, hk⟩ := State.reachGrid_eq (s := s) (o := s.attrN Attr.todgen_tod_companion n.val) (x := s.todInstant n.val)
  have hexec : exec (.todgenMessage n) s = .next ((s.advance k).todSend n.val) :=
    congrArg Host.Outcome.next ((if_pos (by simp [hup, hrun])).trans ((if_neg (by simp [hquiet])).trans (congrArg (State.todSend · n.val) hk)))
  obtain ⟨hstate, hcount, hcause⟩ := (s.advance k).todSend_facts n.isLt
  exact ⟨_, hexec, hstate, hcount, hcause, ((Evolves.todSend (P := .gens :: raiseParts) .refl).same .counter (by decide)).trans (by rw [hk])⟩

/-- Settles O33. -/
theorem generatorFormats : Obligations.GeneratorFormats :=
  ⟨fun _ _ => videoFormatChange_facts, fun _ _ => aesGradeChange_facts, fun _ _ _ => jamArm_facts, fun _ _ => dailyJam_facts,
    fun _ _ _ => tcJamApply_facts, fun _ _ => todgenMessage_facts⟩

end Sys2Proof.Machine
end

section
/-! A DPLL posts its word to its bound domain (R62, R167, R168, R433). -/

set_option Elab.async false

namespace Sys2Proof.Machine

variable {s t u : State} {n d x : Nat} {who : Issuer}

theorem State.boundDpll_lt (h : s.boundDpll d = some n) : n < 16 := by
  unfold State.boundDpll at h
  split at h
  case isTrue hc =>
    simp only [Bool.and_eq_true, decide_eq_true_eq] at hc
    obtain ⟨⟨-, hpos⟩, hlt⟩ := hc
    obtain rfl := Option.some.inj h
    show (s.attr Attr.domain_bound_dpll d).toNat < 16
    omega
  case isFalse => cases h

theorem State.virtual_of_bound (h : s.boundDpll d = some n) : s.virtual d = false := by
  rw [State.virtual, h]
  simp

/-! ### DPLL_POST and CTRL_LOSS_TIMEOUT (R167, R433) -/

theorem dpllPost_facts {n : Fin 16} {instant d : Nat} (hup : s.timing = true) (hbound : s.boundDom n.val = some d)
    (hupdate : s.canUpdate d instant = true) (hword : (s.dpll n.val).pendWord = none) :
    ∃ t, exec (.dpllPost n instant) s = .next t ∧
      (t.dom d).pend = some { instant := instant, period := periodWord (s.attr Attr.dpll_freq_word n.val), absolute := none
                              delta := s.leadAt n.val d instant / leadUnit + (s.dpll n.val).pendNudge, steps := (s.dpll n.val).nudges
                              jump := (s.dpll n.val).pendNudge, sets := (s.dpll n.val).setsTime } ∧
      (t.dpll n.val).pendNudge = 0 ∧ (t.dpll n.val).nudges = 0 ∧ (t.dpll n.val).posted = (periodWord (s.attr Attr.dpll_freq_word n.val) : Int) ∧
      (t.dpll n.val).acc = s.leadAt n.val d instant % leadUnit ∧
      (t.dom d).words = (s.dom d).words ∧ s.sameBut t [.attrs, .doms, .dplls, .store] := by
  let x : DomUpdate := { instant := instant, period := periodWord (s.attr Attr.dpll_freq_word n.val), absolute := none
                         delta := s.leadAt n.val d instant / leadUnit + (s.dpll n.val).pendNudge, steps := (s.dpll n.val).nudges
                         jump := (s.dpll n.val).pendNudge, sets := (s.dpll n.val).setsTime }
  let v := s.put1 Attr.dpll_phase_offset n.val (s.attr Attr.dpll_phase_offset n.val + (s.dpll n.val).pendOffset)
  let r : DpllRec := { v.dpll n.val with
    pendWord := none, pendNudge := 0, pendOffset := 0, nudges := 0, setsTime := false
    posted := (periodWord (s.attr Attr.dpll_freq_word n.val) : Int), acc := s.leadAt n.val d instant % leadUnit, accSince := instant }
  have hexec : exec (.dpllPost n instant) s = .next ((v.setDpll n.val r).setPend d x) := by
    change execDpllPost n instant s = _
    unfold execDpllPost
    simp only [hbound, State.when_, hup, if_true, hupdate, hword]
    rfl
  have hdpll : ((v.setDpll n.val r).setPend d x).dpll n.val = r := State.dpll_setDpll_same
  have hdom : ((v.setDpll n.val r).setPend d x).dom d = { s.dom d with pend := some x } := by
    rw [State.setPend, State.dom_setDom_same]
    exact congrArg (fun r : DomRec => { r with pend := some x }) (State.dom_of_doms (State.put1_doms ..))
  refine ⟨_, hexec, by rw [hdom], by rw [hdpll], by rw [hdpll], by rw [hdpll], by rw [hdpll], by rw [hdom], ?_⟩
  exact (Evolves.setPend (P := [.attrs, .doms, .dplls, .store]) Evolves.refl.put1.setDpll).same

/-- The sources of control loss are defined and fitted. -/
theorem ctrlSources : ∀ n : Fin 16, Ev.defined (496 + n.val) = true ∧ 496 + n.val ∉ bookSources ∧ 496 + n.val ∉ [321, 322, 327, 328] := by decide

theorem ctrlLossTimeout_facts {n : Fin 16} {d : Nat} (hup : s.timing = true) (hbound : s.boundDom n.val = some d)
    (hopen : s.dpllState n.val ≠ .opened) (hlost : (s.dpll n.val).ctrlLost = false) :
    ∃ t, exec (.ctrlLossTimeout n) s = .next t ∧ (t.dpll n.val).ctrlLost = true ∧ (t.latch (496 + n.val)).latched = true ∧
      (t.latch (496 + n.val)).cause = true ∧
      t.counter = max s.counter ((s.dpll n.val).timerFrom + s.attrN Attr.fault_ctrl_loss_timeout * ticksPerSecond) ∧
      s.framedRaise t [.counter, .dplls] [] := by
  let v := (s.advance ((s.dpll n.val).timerFrom + s.attrN Attr.fault_ctrl_loss_timeout * ticksPerSecond)).setDpll n.val
    { s.dpll n.val with ctrlLost := true }
  have hexec : exec (.ctrlLossTimeout n) s = .next (v.raise (496 + n.val) true 0 [.dom d]) := by
    change execCtrlLossTimeout n s = _
    unfold execCtrlLossTimeout
    simp only [hbound]
    exact congrArg Host.Outcome.next (if_pos (by simp [hup, hopen, hlost]))
  obtain ⟨hd, hb, hf⟩ := ctrlSources n
  have hkept : s.attrsKept v [] := State.attrsKept_refl.of_eq
  have hframe : Evolves ([.counter, .dplls] ++ [.attrs, .faults, .tm, .store, .host, .out, .net]) s (v.raise (496 + n.val) true 0 [.dom d]) :=
    Evolves.refl.advance.setDpll.raise
  refine ⟨_, hexec, ?_, State.raise_latched hd hb hf, State.raise_cause hd hb hf, State.raise_counter .., State.framedRaise_of hframe hkept.raise ?_⟩
  · rw [State.raise_dpll]
    exact congrArg (·.ctrlLost) State.dpll_setDpll_same
  · rw [State.raise_rings]
    rfl

/-! ### Steering of a bound domain (R166, R168) -/

/-- A command that steers a bound domain completes where no condition refuses it. -/
theorem State.steerDomain_bound {a : Action} {effect : State → State} {result : State → List Byte} {instant : Nat} (hs : s.serves who)
    (hbuf : a.reachable = true) (hright : s.permits who a.right = true) (href : firstRefusal a.refusals = none) (hbound : s.boundDpll d = some n) :
    s.steerDomain who a d instant effect result = (effect s).finish who a.opcode 0 a.inst (result (effect s)) none a.attr := by
  rw [State.steerDomain, if_neg (by rw [State.virtual_of_bound hbound]; decide), State.act_ok _ hs.1 hbuf hright href]

theorem adjFreq_bound {ppt : Int} {instant : Nat} (hs : s.serves who) (hc : issuerClient who = 0) (hd : d ≤ 511) (hbound : s.boundDpll d = some n)
    (hopen : s.dpllState n = .opened) (hppt : ppt.natAbs ≤ 250000000) :
    ∃ t, exec (.adjFreq who d ppt instant) s = .next t ∧ t.answered who 0x0607 0 ∧ t.resultOf who = bytesLE 8 (periodPpt ppt) ∧
      t.dpll n = { s.dpll n with pendWord := some (ppt * 1000000) } ∧ s.framed t [.dplls] [] := by
  let u := s.setDpll n { s.dpll n with pendWord := some (ppt * 1000000) }
  have hresult : State.periodResult d ppt u = bytesLE 8 (periodPpt ppt) := by
    have hvirtual : u.virtual d = false := State.virtual_of_bound (s := u) hbound
    unfold State.periodResult
    rw [hvirtual]
    cases (u.dom d).pend <;> rfl
  have hexec : exec (.adjFreq who d ppt instant) s = .next (u.finish who 0x0607 0 d (bytesLE 8 (periodPpt ppt))) := by
    refine congrArg Host.Outcome.next ((State.steerDomain_bound hs rfl (s.permits_domainOwner _ hc) ?_ hbound).trans ?_)
    · have hauto : s.autoRefused d = false := by rw [State.autoRefused, State.virtual_of_bound hbound]; rfl
      simp [firstRefusal_none, State.freqRange, State.freqState, hbound, hopen, State.created_of_bound hbound, hauto]
      omega
    · simp only [hbound]
      rw [hresult]
  have hwrites : Writes [] s u := Writes.refl.setDpll
  refine ⟨_, hexec, hwrites.answered hs, hwrites.resultOf hs, ?_, State.framed_of_effect (Evolves.setDpll .refl).same State.attrsKept_refl.of_eq⟩
  rw [State.dpll_of_dplls (State.finish_dplls ..)]
  exact State.dpll_setDpll_same

/-- Ending a SLEW through the word keeps what waits for the next post. -/
theorem State.endWordSlew_waiting : ((s.endWordSlew n).dpll n).pendNudge = (s.dpll n).pendNudge ∧ ((s.endWordSlew n).dpll n).nudges = (s.dpll n).nudges := by
  unfold State.endWordSlew
  dsimp only
  split
  · obtain ⟨acc, since, sum, from_, h⟩ := State.useWord_dpll (n := n)
      (s := s.setDpll n { s.dpll n with moves := (s.dpll n).moves.filter fun m => !(m.word && decide (m.kind = .domainSlew)) })
      (y := ((s.setDpll n { s.dpll n with moves := (s.dpll n).moves.filter fun m => !(m.word && decide (m.kind = .domainSlew)) }).dpll n).base +
        (s.setDpll n { s.dpll n with moves := (s.dpll n).moves.filter fun m => !(m.word && decide (m.kind = .domainSlew)) }).moveRate n)
    rw [State.reword, h, State.dpll_setDpll_same]
    exact ⟨rfl, rfl⟩
  · exact ⟨rfl, rfl⟩

theorem State.stepBound_facts {x held : Int} {sets : Bool} : ((s.stepBound n x held sets).dpll n).pendNudge = (s.dpll n).pendNudge + x ∧
    ((s.stepBound n x held sets).dpll n).nudges = (s.dpll n).nudges + 1 := by
  obtain ⟨hnudge, hcount⟩ := State.endWordSlew_waiting (s := s) (n := n)
  have hmark : ((s.endWordSlew n).markSwitch n).dpll n = { (s.endWordSlew n).dpll n with marks := ((s.endWordSlew n).dpll n).marks ||| 16 } :=
    State.dpll_setDpll_same
  unfold State.stepBound
  dsimp only
  rw [State.dpll_setDpll_same, hmark]
  exact ⟨congrArg (· + x) hnudge, congrArg (· + 1) hcount⟩

theorem adjPhase_bound {x : Int} {instant : Nat} (hs : s.serves who) (hc : issuerClient who = 0) (hd : d ≤ 511) (hbound : s.boundDpll d = some n)
    (hloop : s.inLoop n = false) (hx : x.natAbs ≤ secondUnits) (hpos : 0 ≤ s.domNow d + x) :
    ∃ t, exec (.adjPhase who d 0 x instant) s = .next t ∧ t.answered who 0x0608 0 ∧ t.resultOf who = bytesLE 8 instant ∧
      (t.dpll n).pendNudge = (s.dpll n).pendNudge + x ∧ (t.dpll n).nudges = (s.dpll n).nudges + 1 ∧ t.doms = s.doms := by
  let u := s.stepBound n x x false
  have hn := State.boundDpll_lt hbound
  have hexec : exec (.adjPhase who d 0 x instant) s = .next (u.finish who 0x0608 0 d (bytesLE 8 instant)) := by
    refine congrArg Host.Outcome.next ((State.steerDomain_bound hs rfl (s.permits_domainOwner _ hc) ?_ hbound).trans ?_)
    · have hauto : s.autoRefused d = false := by rw [State.autoRefused, State.virtual_of_bound hbound]; rfl
      have hrange : s.phaseRange d 0 x = false := by
        rw [State.phaseRange, if_pos rfl, decide_eq_false (by omega), hbound]
        simp only [hloop, decide_eq_false (not_lt.mpr hx), Bool.not_false, Bool.and_false, Bool.or_false]
      simp [firstRefusal_none, hrange, State.created_of_bound hbound, hauto]
      omega
    · simp only [hbound]
      rw [State.phaseBound, if_neg (by rw [hloop]; decide), if_pos rfl]
      rfl
  have hwrites : Writes wordIds s u := ((Writes.refl.endWordSlew hn).setDpll).setDpll
  have hdplls : (u.finish who 0x0608 0 d (bytesLE 8 instant)).dplls = u.dplls := State.finish_dplls ..
  refine ⟨_, hexec, hwrites.answered hs, hwrites.resultOf hs, ?_, ?_, ?_⟩
  · rw [State.dpll_of_dplls hdplls]
    exact State.stepBound_facts.1
  · rw [State.dpll_of_dplls hdplls]
    exact State.stepBound_facts.2
  · rw [State.finish_doms]
    exact (Evolves.stepBound (P := .dplls :: raiseParts) .refl).same .doms (by decide)

/-- Settles O26. -/
theorem dpllPost : Obligations.DpllPost :=
  ⟨fun _ _ _ _ => dpllPost_facts, fun _ _ _ => ctrlLossTimeout_facts, fun _ _ _ _ _ _ => adjFreq_bound, fun _ _ _ _ _ _ => adjPhase_bound⟩

end Sys2Proof.Machine
end

section
/-! The DPLL actions on an open loop (R160, R164 to R168, R179), and what a change of state keeps of a DPLL's record. -/

set_option Elab.async false

namespace Sys2Proof.Machine

variable {s t u : State} {n x k : Nat} {who : Issuer}

/-! ### What the operations of a DPLL keep of its record -/

/-- A change of state touches only the marks and the duty of a DPLL's record; the duty stays where the new state is in the loop. -/
theorem State.toDpllState_dpll {new : DpllState} : ∃ marks duty, (s.toDpllState n new).dpll n = { s.dpll n with marks := marks, duty := duty } ∧
    (new = .acquire ∨ new = .locked → duty = (s.dpll n).duty) := by
  unfold State.toDpllState
  dsimp only
  split
  · exact ⟨_, _, rfl, fun _ => rfl⟩
  · refine ⟨(s.dpll n).marks ||| 1, if new = .acquire ∨ new = .locked then (s.dpll n).duty else 0, ?_, fun h => if_pos h⟩
    rw [State.trackChange_dpll, State.followStatus_dpll]
    repeat' split
    all_goals simp only [State.raise_dpll, State.uncause_dpll, State.put1_dpll, State.dpll_setDpll_same]

theorem State.settle_dpll : ∃ marks ends, (s.settle n).dpll n = { s.dpll n with marks := marks, settleEnds := ends } :=
  ⟨_, _, by rw [State.settle, State.put1_dpll, State.dpll_setDpll_same]⟩

theorem State.markSwitch_dpll : (s.markSwitch n).dpll n = { s.dpll n with marks := (s.dpll n).marks ||| 16 } := State.dpll_setDpll_same

theorem State.secondStep_dpll {k : Int} : ∃ marks nudge count, (s.secondStep n k).dpll n =
    { s.dpll n with marks := marks, pendNudge := nudge, nudges := count } := by
  unfold State.secondStep
  dsimp only
  split
  · exact ⟨_, _, _, rfl⟩
  · exact ⟨_, _, _, by rw [State.dpll_setDpll_same, State.markSwitch_dpll]⟩

theorem State.labelAtAcquire_dpll : ∃ due marks nudge count, (s.labelAtAcquire n x).dpll n =
    { s.dpll n with labelDue := due, marks := marks, pendNudge := nudge, nudges := count } := by
  unfold State.labelAtAcquire
  split
  · split
    · split
      · obtain ⟨marks, nudge, count, h⟩ := State.secondStep_dpll (s := s.setDpll n { s.dpll n with labelDue := false }) (n := n)
        refine ⟨false, marks, nudge, count, ?_⟩
        rw [State.compareLabel, h, State.dpll_setDpll_same]
      · exact ⟨true, _, _, _, State.dpll_setDpll_same⟩
    · exact ⟨_, _, _, _, rfl⟩
  · exact ⟨_, _, _, _, rfl⟩

theorem State.addMove_dpll {k : MoveKind} {y : Int} : ∃ moves nudge marks, (s.addMove n k y).dpll n =
    { s.dpll n with moves := moves, pendNudge := nudge, marks := marks } := by
  unfold State.addMove
  dsimp only
  split
  · exact ⟨_, _, _, rfl⟩
  · split
    · exact ⟨_, _, _, State.dpll_setDpll_same⟩
    · exact ⟨_, _, _, State.dpll_setDpll_same⟩

theorem State.takeOffset_dpll {b : Int} : ∃ moves nudge marks, (s.takeOffset n x b).dpll n =
    { s.dpll n with moves := moves, pendNudge := nudge, marks := marks } := by
  unfold State.takeOffset State.loadBuildOut
  split
  · split
    · exact State.addMove_dpll
    · exact ⟨_, _, _, State.put1_dpll⟩
  · exact State.addMove_dpll

theorem State.firstStep_dpll {d : Nat} {b : Int} : ∃ nudge count, (s.firstStep n d b).dpll n = { s.dpll n with pendNudge := nudge, nudges := count } := by
  unfold State.firstStep
  dsimp only
  split
  · exact ⟨_, _, rfl⟩
  · exact ⟨_, _, State.dpll_setDpll_same⟩

theorem State.useSource_dpll : (s.useSource n x).dpll n = s.dpll n := by
  rw [State.useSource, State.put1_dpll, State.put1_dpll, State.put1_dpll]

/-- The loop of a DPLL that enters ACQUIRE outside a holdover starts from its word in use. -/
theorem State.enterAcquire_integrator {phase : Int} (hstate : s.dpllState n = .opened) :
    ((s.enterAcquire n x phase).dpll n).integrator = s.attr Attr.dpll_freq_word n := by
  have hpre : ((s.preloaded n).dpll n).integrator = s.attr Attr.dpll_freq_word n := by
    obtain ⟨acc, since, sum, from_, h⟩ := State.setWord_dpll (n := n) (y := s.attr Attr.dpll_freq_word n)
      (s := (s.loopMoves n).setDpll n { (s.loopMoves n).dpll n with integrator := s.attr Attr.dpll_freq_word n, integralRest := 0, useShort := false })
    unfold State.preloaded
    simp only [hstate, reduceCtorEq, decide_false, Bool.or_self, Bool.false_eq_true, if_false]
    rw [h, State.dpll_setDpll_same]
  obtain ⟨u, hu, he⟩ := State.enterAcquire_eq (s := s) (n := n) (x := x) (phase := phase)
  have hint : (u.dpll n).integrator = ((s.preloaded n).dpll n).integrator := by
    obtain ⟨d, b, rfl⟩ | ⟨b, rfl⟩ := hu
    · obtain ⟨nudge, count, h⟩ := State.firstStep_dpll (s := s.preloaded n) (n := n) (d := d) (b := b)
      rw [h]
    · obtain ⟨moves, nudge, marks, h⟩ := State.takeOffset_dpll (s := s.preloaded n) (n := n) (x := x) (b := b)
      rw [h]
  obtain ⟨marks, duty, hto, -⟩ := State.toDpllState_dpll (s := u.useSource n x) (n := n) (new := .acquire)
  rw [he]
  generalize (u.useSource n x).toDpllState n .acquire = v at hto ⊢
  obtain ⟨marks', ends, hsettle⟩ := State.settle_dpll (s := v) (n := n)
  unfold State.acquired
  obtain ⟨due, marks'', nudge, count, hlabel⟩ := State.labelAtAcquire_dpll (n := n) (x := x)
    (s := ((((v.settle n).setDpll n { (v.settle n).dpll n with moves := (v.settle n).runHead n ((v.settle n).dpll n).moves }).put1
      Attr.dpll_ho_te_est n 0).put1 Attr.dpll_ho_elapsed n 0))
  rw [hlabel, State.put1_dpll, State.put1_dpll, State.dpll_setDpll_same, hsettle, hto]
  exact (congrArg (·.integrator) State.useSource_dpll).trans (hint.trans hpre)

/-! ### What a change of state of a DPLL does -/

theorem Writes.flag {ids : List Nat} {a : AttrDesc} {i e : Nat} (h : Writes ids s t) (ha : a.id ∉ ids := by decide)
    (hb : a.id ∉ bookAttrs := by decide) (hi : i < 65536 := by omega) (he : e < 65536 := by omega) : t.flag a i e = s.flag a i e :=
  congrArg (fun v : Int => v != 0) (h.attr ha hb hi he)

theorem Writes.dpllState {ids : List Nat} (h : Writes ids s t) (hn : n < 16) (ha : Attr.dpll_state.id ∉ ids := by decide) :
    t.dpllState n = s.dpllState n := congrArg DpllState.ofCode (h.attr ha)

theorem DpllState.ofCode_code (x : DpllState) : DpllState.ofCode x.code = x := by cases x <;> rfl

theorem Writes.trackOf (h : Writes [Attr.mate_track_state.id] s t) {old new : DpllState} :
    Writes [Attr.mate_track_state.id] s (t.trackChange n old new) :=
  .ite (.ite h.put1.raise (.ite (.ite h (.ite h.put1 (.ite h.put1 h))) h)) h

/-- A change of state writes the state and what follows it. -/
theorem State.toDpllState_state {new : DpllState} (hn : n < 16) : (s.toDpllState n new).dpllState n = new := by
  unfold State.toDpllState
  dsimp only
  split
  case isTrue h => exact h
  case isFalse h =>
    refine Eq.trans (congrArg DpllState.ofCode ?_) (DpllState.ofCode_code new)
    refine Eq.trans (((Writes.followStatus (ids := [Attr.dpll_state_since.id, Attr.domain_time_status.id, Attr.mate_track_state.id])
      (Writes.refl.put1.raise.raiseOrUncause.raiseOrUncause)).andThen (Writes.trackOf .refl)).attr) ?_
    exact State.attr_put1_same ..

/-- A change to another state latches the state source of the DPLL. -/
theorem State.toDpllState_latched {new : DpllState} (hn : n < 16) (hne : s.dpllState n ≠ new) :
    ((s.toDpllState n new).latch (evLoop n 3)).latched = true := by
  obtain ⟨hd, hb, hf⟩ := loopSource hn (j := 3) (by decide)
  unfold State.toDpllState
  rw [if_neg hne]
  exact (Writes.refl.raiseOrUncause.raiseOrUncause.followStatus.andThen (ids := stateIds) (Writes.trackChange .refl)).latched _ hb
    (State.raise_latched hd hb hf)

theorem State.enterAcquire_state {phase : Int} (hn : n < 16) : (s.enterAcquire n x phase).dpllState n = .acquire := by
  obtain ⟨u, -, he⟩ := State.enterAcquire_eq (s := s) (n := n) (x := x) (phase := phase)
  rw [he, State.dpllState, (State.acquired_writes hn).attr]
  exact State.toDpllState_state hn

theorem State.enterAcquire_settling {phase : Int} (hn : n < 16) : (s.enterAcquire n x phase).flag Attr.dpll_settling n = true := by
  obtain ⟨u, -, he⟩ := State.enterAcquire_eq (s := s) (n := n) (x := x) (phase := phase)
  rw [he]
  generalize (u.useSource n x).toDpllState n .acquire = v
  have hkept : Writes [Attr.dpll_ho_te_est.id, Attr.dpll_ho_elapsed.id] (v.settle n) (v.acquired n x) :=
    Writes.refl.setDpll.put1.put1.labelAtAcquire
  rw [hkept.flag, State.flag, State.settle, State.attr_put1_same]
  rfl

/-! ### The actions (R164, R166, R167, R179) -/

/-- A DPLL whose word is frozen and whose movements are held, before its state is OPEN (R166). -/
def State.held (s : State) (n : Nat) : State :=
  let t := s.rebase n
  ((t.setDpll n { t.dpll n with
    base := t.attr Attr.dpll_freq_word n
    moves := (t.dpll n).moves.map fun m => { m with since := none }
    heldOff := false
    labelDue := false
    useShort := false }).put1 Attr.dpll_ho_te_est n 0).put1 Attr.dpll_ho_elapsed n 0

theorem State.openDpll_eq : s.openDpll n = (s.held n).toDpllState n .opened := rfl

theorem State.held_writes (hn : n < 16) : Writes [Attr.dpll_ho_te_est.id, Attr.dpll_ho_elapsed.id] s (s.held n) := Writes.refl.setDpll.setDpll.put1.put1

theorem State.held_moves {m : Movement} (h : m ∈ ((s.held n).dpll n).moves) : m.since = none := by
  rw [State.held, State.put1_dpll, State.put1_dpll, State.dpll_setDpll_same] at h
  obtain ⟨m', -, rfl⟩ := List.mem_map.mp h
  rfl

theorem dpllOpen_facts (hs : s.serves who) (hc : issuerClient who = 0) (hn : n ≤ 15) (hstate : s.dpllState n ≠ .opened) :
    ∃ t, exec (.dpllOpen who n) s = .next t ∧ t.answered who 0x0400 0 ∧ t.dpllState n = .opened ∧
      (∀ m ∈ (t.dpll n).moves, m.since = none) ∧ t.flag Attr.dpll_settling n = s.flag Attr.dpll_settling n ∧
      t.attr Attr.dpll_freq_word n = s.attr Attr.dpll_freq_word n ∧ (t.latch (evLoop n 3)).latched = true ∧
      (∀ d, (t.dom d).words = (s.dom d).words) := by
  have hn' : n < 16 := by omega
  have hexec : exec (.dpllOpen who n) s = .next ((s.openDpll n).finish who 0x0400 0 n) :=
    congrArg Host.Outcome.next (State.doAct_ok _ hs.1 rfl (s.permits_owner0 hc) (by
      simp [decide_eq_false (Nat.not_lt.mpr hn), hstate]))
  have hwrites : Writes holdIds s (s.openDpll n) := Writes.toDpllState ((State.held_writes hn').mono (by decide)) hn'
  have hopened : (s.openDpll n).dpllState n = .opened := State.toDpllState_state hn'
  have hheld : (s.held n).dpllState n ≠ .opened := ((State.held_writes hn').dpllState hn').symm ▸ hstate
  have hlatched : ((s.openDpll n).latch (evLoop n 3)).latched = true :=
    State.toDpllState_latched hn' hheld
  obtain ⟨marks, duty, hdpll, -⟩ := State.toDpllState_dpll (s := s.held n) (n := n) (new := .opened)
  have hkept : Writes ([Attr.dpll_ho_te_est.id, Attr.dpll_ho_elapsed.id] ++ stateIds) s ((s.openDpll n).finish who 0x0400 0 n) :=
    Writes.finish (((State.held_writes hn').mono (by decide)).toDpllState hn')
  refine ⟨_, hexec, hwrites.answered hs, ?_, ?_, hkept.flag, hkept.attr, ?_, ?_⟩
  · exact ((Writes.finish (ids := []) .refl).dpllState hn').trans hopened
  · rw [State.dpll_of_dplls (State.finish_dplls ..)]
    intro m hm
    rw [State.openDpll_eq, hdpll] at hm
    exact State.held_moves hm
  · exact (Writes.finish (ids := []) .refl).latched _ (loopSource hn' (by decide)).2.1 hlatched
  · have hdoms : (s.openDpll n).doms = s.doms := (Evolves.toDpllState (P := .dplls :: raiseParts) (Evolves.refl.setDpll.setDpll.put1.put1)).same .doms (by decide)
    exact fun d => congrArg DomRec.words (State.dom_of_doms ((State.finish_doms ..).trans hdoms))

theorem setFreq_facts {word : Int} (hs : s.serves who) (hc : issuerClient who = 0) (hn : n ≤ 15) (hstate : s.dpllState n = .opened)
    (hword : word.natAbs ≤ 250000000000000) :
    ∃ t, exec (.setFreq who n word) s = .next t ∧ t.answered who 0x0402 0 ∧ t.dpll n = { s.dpll n with pendWord := some word } ∧
      (∀ m, m ≠ n → t.dpll m = s.dpll m) ∧ s.framed t [.dplls] [] := by
  let u := s.setDpll n { s.dpll n with pendWord := some word }
  have hexec : exec (.setFreq who n word) s = .next (u.finish who 0x0402 0 n) :=
    congrArg Host.Outcome.next (State.doAct_ok _ hs.1 rfl (s.permits_owner0 hc) (by
      simp [decide_eq_false (Nat.not_lt.mpr hn), decide_eq_false (Nat.not_lt.mpr hword), hstate]))
  have hwrites : Writes [] s u := Writes.refl.setDpll
  refine ⟨_, hexec, hwrites.answered hs, ?_, fun m hm => ?_, State.framed_of_effect (Evolves.setDpll .refl).same State.attrsKept_refl.of_eq⟩
  · exact (State.dpll_of_dplls (State.finish_dplls ..)).trans State.dpll_setDpll_same
  · exact (State.dpll_of_dplls (State.finish_dplls ..)).trans (State.dpll_setDpll_ne hm)

theorem nudgePhase_facts {y : Int} (hs : s.serves who) (hc : issuerClient who = 0) (hn : n ≤ 15) (hstate : s.dpllState n = .opened)
    (hy : y.natAbs ≤ secondUnits) :
    ∃ t, exec (.nudgePhase who n y) s = .next t ∧ t.answered who 0x0403 0 ∧ (t.dpll n).pendNudge = (s.dpll n).pendNudge + y ∧
      (t.dpll n).nudges = (s.dpll n).nudges + 1 ∧ (t.dpll n).pendWord = (s.dpll n).pendWord ∧
      (∀ m, m ≠ n → t.dpll m = s.dpll m) ∧ s.framed t [.dplls] [] := by
  let v := s.markSwitch n
  let u := v.setDpll n { v.dpll n with pendNudge := (v.dpll n).pendNudge + y, nudges := (v.dpll n).nudges + 1 }
  have hrange : ¬ secondUnits < |y| := not_lt.mpr (Int.natCast_natAbs y ▸ hy)
  have hexec : exec (.nudgePhase who n y) s = .next (u.finish who 0x0403 0 n) :=
    congrArg Host.Outcome.next (State.doAct_ok _ hs.1 rfl (s.permits_owner0 hc) (by
      simp [decide_eq_false (Nat.not_lt.mpr hn), hrange, hstate]))
  have hwrites : Writes [] s u := Writes.refl.setDpll.setDpll
  have hdpll : u.dpll n = { s.dpll n with marks := (s.dpll n).marks ||| 16, pendNudge := (s.dpll n).pendNudge + y, nudges := (s.dpll n).nudges + 1 } := by
    rw [State.dpll_setDpll_same, State.markSwitch_dpll]
  have hfinish : (u.finish who 0x0403 0 n).dpll n = _ := (State.dpll_of_dplls (State.finish_dplls ..)).trans hdpll
  refine ⟨_, hexec, hwrites.answered hs, by rw [hfinish], by rw [hfinish], by rw [hfinish], fun m hm => ?_,
    State.framed_of_effect (Evolves.refl.setDpll.setDpll).same State.attrsKept_refl.of_eq⟩
  exact (State.dpll_of_dplls (State.finish_dplls ..)).trans ((State.dpll_setDpll_ne hm).trans (State.dpll_setDpll_ne hm))

/-! ### DPLL.CLOSE (R160, R164, R166) -/

/-- A loop that is closed, its integrator at the word in use. -/
def State.loopClosed (s : State) (n : Nat) : State :=
  s.setDpll n { s.dpll n with integrator := s.attr Attr.dpll_freq_word n, integralRest := 0, timerFrom := s.counter }

/-- The candidate that a selector in SELECTED has connected. -/
def State.selectedSource (s : State) (n : Nat) : Option Nat :=
  if s.attr Attr.selector_sel_state n = SelState.selected.code then (s.sel n).source else none

theorem State.closeDpll_none {phase : Int} (h : s.selectedSource n = none) : s.closeDpll n phase =
    let u := (((s.loopClosed n).holdMoves n).resumeMoves n).settle n
    if u.flag Attr.dpll_has_locked n then u.enterHoldover n else u.enterFreeRun n := by
  unfold State.closeDpll
  dsimp only
  split
  case h_1 y hy => exact absurd (hy.symm.trans h) (by simp)
  case h_2 => rfl

theorem State.closeDpll_some {phase : Int} (h : s.selectedSource n = some x) : s.closeDpll n phase =
    ((s.loopClosed n).dropMoves n [.buildOut, .align, .phaseAlign]).2.enterAcquire n x (phase - (s.loopClosed n).offsetReached n) := by
  unfold State.closeDpll
  dsimp only
  split
  case h_1 y hy =>
    obtain rfl := Option.some.inj (hy.symm.trans h)
    rfl
  case h_2 hy => exact absurd (hy.symm.trans h) (by simp)

theorem State.exec_dpllClose {phase : Int} (hs : s.serves who) (hc : issuerClient who = 0) (hn : n ≤ 15) (hstate : s.dpllState n = .opened) :
    exec (.dpllClose who n phase) s = .next ((s.closeDpll n phase).finish who 0x0401 0 n) :=
  congrArg Host.Outcome.next (State.doAct_ok _ hs.1 rfl (s.permits_owner0 hc) (by
    simp [decide_eq_false (Nat.not_lt.mpr hn), hstate]))

theorem State.enterHoldover_state (hn : n < 16) : (s.enterHoldover n).dpllState n = .holdover := State.toDpllState_state hn
theorem State.enterFreeRun_state (hn : n < 16) : (s.enterFreeRun n).dpllState n = .freeRun := State.toDpllState_state hn

theorem State.setWord_freqWord {y : Int} (hn : n < 16) (h : (s.dpll n).moves = []) :
    (s.setWord n y).attr Attr.dpll_freq_word n = clampWord y := by
  have hmoves : ((s.setDpll n { s.dpll n with base := clampWord y }).dpll n).moves = [] := by rw [State.dpll_setDpll_same]; exact h
  rw [State.setWord, State.reword, State.useWord_freqWord hn, State.moveRate_nil hmoves, State.dpll_setDpll_same, Int.add_zero, clampWord_idem]

theorem State.enterFreeRun_dpll : ((s.enterFreeRun n).dpll n).base = clampWord (s.dpll n).freeRunWord := by
  obtain ⟨marks, duty, h, -⟩ := State.toDpllState_dpll (s := s.setWord n (s.dpll n).freeRunWord) (n := n) (new := .freeRun)
  obtain ⟨acc, since, sum, from_, h'⟩ := State.setWord_dpll (s := s) (n := n) (y := (s.dpll n).freeRunWord)
  rw [State.enterFreeRun, h, h']

theorem State.enterFreeRun_freqWord (hn : n < 16) (h : (s.dpll n).moves = []) :
    (s.enterFreeRun n).attr Attr.dpll_freq_word n = clampWord (s.dpll n).freeRunWord :=
  ((Writes.toDpllState (ids := stateIds) .refl hn).attr).trans (State.setWord_freqWord hn h)

theorem State.dropMoves_dpll {kinds : List MoveKind} : ∃ moves, (s.dropMoves n kinds).2.dpll n = { s.dpll n with moves := moves } ∧
    ((s.dpll n).moves = [] → moves = []) := by
  refine ⟨_, State.dpll_setDpll_same, fun h => ?_⟩
  rw [h, List.filter_nil]
  unfold State.runHead startHead
  split
  · rfl
  · split <;> rfl

theorem State.rebase_dpll : ∃ moves, (s.rebase n).dpll n = { s.dpll n with moves := moves } ∧ ((s.dpll n).moves = [] → moves = []) :=
  ⟨_, State.dpll_setDpll_same, fun h => by rw [h]; rfl⟩

/-- Holding and resuming the movements of a DPLL changes nothing else of its record. -/
theorem State.holdMoves_dpll : ∃ moves, (s.holdMoves n).dpll n = { s.dpll n with moves := moves } ∧ ((s.dpll n).moves = [] → moves = []) := by
  unfold State.holdMoves
  dsimp only
  rw [State.dpll_setDpll_same]
  obtain ⟨dropped, hdrop, hdrop0⟩ := State.dropMoves_dpll (n := n) (kinds := [.buildOut, .align, .phaseAlign])
    (s := s.put1 Attr.selector_buildout_phase n (s.attr Attr.selector_buildout_phase n - s.buildOutLeft n))
  obtain ⟨moves, hbase, hbase0⟩ := State.rebase_dpll (n := n)
    (s := ((s.put1 Attr.selector_buildout_phase n (s.attr Attr.selector_buildout_phase n - s.buildOutLeft n)).dropMoves n
      [.buildOut, .align, .phaseAlign]).2)
  rw [hbase, hdrop, State.put1_dpll]
  refine ⟨_, rfl, fun h => ?_⟩
  have hmoves : moves = [] := hbase0 (by rw [hdrop]; exact hdrop0 (by rw [State.put1_dpll]; exact h))
  exact congrArg _ hmoves

theorem State.resumeMoves_dpll : ∃ moves, (s.resumeMoves n).dpll n = { s.dpll n with moves := moves } ∧ ((s.dpll n).moves = [] → moves = []) :=
  ⟨_, State.dpll_setDpll_same, fun h => by rw [h]; rfl⟩

theorem State.resumed_writes (hn : n < 16) :
    Writes [Attr.selector_buildout_phase.id, Attr.dpll_settling.id] s ((((s.loopClosed n).holdMoves n).resumeMoves n).settle n) :=
  Writes.settle (Writes.setDpll (Writes.holdMoves Writes.refl.setDpll hn)) hn

theorem dpllClose_unselected {phase : Int} (hs : s.serves who) (hc : issuerClient who = 0) (hn : n ≤ 15) (hstate : s.dpllState n = .opened)
    (hnone : (s.sel n).source = none ∨ s.attr Attr.selector_sel_state n ≠ SelState.selected.code) :
    ∃ t, exec (.dpllClose who n phase) s = .next t ∧ t.answered who 0x0401 0 ∧ t.flag Attr.dpll_settling n = true ∧
      (if s.flag Attr.dpll_has_locked n then t.dpllState n = .holdover
       else t.dpllState n = .freeRun ∧ (t.dpll n).base = clampWord (s.dpll n).freeRunWord ∧
         ((s.dpll n).moves = [] → t.attr Attr.dpll_freq_word n = clampWord (s.dpll n).freeRunWord)) := by
  have hn' : n < 16 := by omega
  have hsource : s.selectedSource n = none := by
    unfold State.selectedSource
    split
    case isTrue h => exact hnone.resolve_right (not_not.mpr h)
    case isFalse => rfl
  have hresumed := State.resumed_writes (s := s) hn'
  obtain ⟨moves, hhold, hhold0⟩ := State.holdMoves_dpll (s := s.loopClosed n) (n := n)
  obtain ⟨moves', hresume, hresume0⟩ := State.resumeMoves_dpll (s := (s.loopClosed n).holdMoves n) (n := n)
  obtain ⟨marks, ends, hsettle⟩ := State.settle_dpll (s := ((s.loopClosed n).holdMoves n).resumeMoves n) (n := n)
  have hsettling : ((((s.loopClosed n).holdMoves n).resumeMoves n).settle n).flag Attr.dpll_settling n = true := by
    rw [State.flag, State.settle, State.attr_put1_same]
    rfl
  have hclosed := State.closeDpll_none (phase := phase) hsource
  dsimp only at hclosed
  generalize (((s.loopClosed n).holdMoves n).resumeMoves n).settle n = u at *
  have hfree : (u.dpll n).freeRunWord = (s.dpll n).freeRunWord := by
    rw [hsettle, hresume, hhold, State.loopClosed, State.dpll_setDpll_same]
  have hmoves (h : (s.dpll n).moves = []) : (u.dpll n).moves = [] := by
    have h0 : ((s.loopClosed n).dpll n).moves = [] := by rw [State.loopClosed, State.dpll_setDpll_same]; exact h
    rw [hsettle, hresume]
    exact hresume0 (by rw [hhold]; exact hhold0 h0)
  rw [hresumed.flag] at hclosed
  refine ⟨_, State.exec_dpllClose hs hc hn hstate, ?_⟩
  by_cases hlocked : s.flag Attr.dpll_has_locked n = true
  · rw [if_pos hlocked] at hclosed
    rw [hclosed, if_pos hlocked]
    have hheld : Writes holdIds u ((u.enterHoldover n).finish who 0x0401 0 n) := (Writes.enterHoldover .refl hn').finish
    have hwrites : Writes loopIds s (u.enterHoldover n) := (hresumed.mono (by decide)).enterHoldover hn'
    exact ⟨hwrites.answered hs, hheld.flag.trans hsettling, ((Writes.finish (ids := []) .refl).dpllState hn').trans (State.enterHoldover_state hn')⟩
  · rw [if_neg hlocked] at hclosed
    rw [hclosed, if_neg hlocked]
    have hfinish : Writes [] (u.enterFreeRun n) ((u.enterFreeRun n).finish who 0x0401 0 n) := Writes.refl.finish
    have hheld : Writes holdIds u ((u.enterFreeRun n).finish who 0x0401 0 n) := (Writes.enterFreeRun .refl hn').finish
    have hwrites : Writes loopIds s (u.enterFreeRun n) := (hresumed.mono (by decide)).enterFreeRun hn'
    refine ⟨hwrites.answered hs, hheld.flag.trans hsettling, (hfinish.dpllState hn').trans (State.enterFreeRun_state hn'), ?_, fun h => ?_⟩
    · rw [State.dpll_of_dplls (State.finish_dplls ..), State.enterFreeRun_dpll, hfree]
    · rw [hfinish.attr, State.enterFreeRun_freqWord hn' (hmoves h), hfree]

theorem dpllClose_selected {phase : Int} (hs : s.serves who) (hc : issuerClient who = 0) (hn : n ≤ 15) (hstate : s.dpllState n = .opened)
    (hx : (s.sel n).source = some x) (hsel : s.attr Attr.selector_sel_state n = SelState.selected.code) :
    ∃ t, exec (.dpllClose who n phase) s = .next t ∧ t.answered who 0x0401 0 ∧ t.dpllState n = .acquire ∧
      t.flag Attr.dpll_settling n = true ∧ (t.dpll n).integrator = s.attr Attr.dpll_freq_word n := by
  have hn' : n < 16 := by omega
  have hclosed := State.closeDpll_some (phase := phase) ((if_pos hsel).trans hx)
  have hdropped : Writes [] s ((s.loopClosed n).dropMoves n [.buildOut, .align, .phaseAlign]).2 := Writes.refl.setDpll.setDpll
  refine ⟨_, State.exec_dpllClose hs hc hn hstate, ?_⟩
  rw [hclosed]
  generalize ((s.loopClosed n).dropMoves n [.buildOut, .align, .phaseAlign]).2 = u at *
  have hfinish : Writes [] (u.enterAcquire n x (phase - (s.loopClosed n).offsetReached n))
    ((u.enterAcquire n x (phase - (s.loopClosed n).offsetReached n)).finish who 0x0401 0 n) := Writes.refl.finish
  refine ⟨((hdropped.mono (by decide)).enterAcquire hn').answered hs, (hfinish.dpllState hn').trans (State.enterAcquire_state hn'),
    hfinish.flag.trans (State.enterAcquire_settling hn'), ?_⟩
  rw [State.dpll_of_dplls (State.finish_dplls ..), State.enterAcquire_integrator ((hdropped.dpllState hn').trans hstate), hdropped.attr]

/-! ### DPLL.RESET_HISTORY (R179) -/

theorem Writes.ledgerMark {ids : List Nat} (h : Writes ids s t) {second bit : Nat} : Writes ids s (t.ledgerMark n second bit) := by
  unfold State.ledgerMark
  split
  · exact h.tmWrite
  · exact h

/-- The ids of the attributes that a cleared history writes. -/
def historyIds : List Nat := [Attr.dpll_has_locked.id, Attr.dpll_ho_ready.id, Attr.dpll_ho_usable.id, Attr.dpll_phase_offset.id]

/-- A DPLL without records, before its output moves. -/
def State.forgotten (s : State) (n : Nat) : State :=
  let r := s.dpll n
  let t := s.setDpll n { r with fifo := r.fifo.map fun q => { q with flags := q.flags ||| 32 } }
  let u := t.forEach (t.ledgerSeconds n) fun x sec => x.ledgerMark n sec 32
  (((u.put1 Attr.dpll_has_locked n 0).put1 Attr.dpll_ho_ready n 0).put1 Attr.dpll_ho_usable n 0).put1 Attr.dpll_phase_offset n 0

theorem State.forgotten_writes (hn : n < 16) : Writes historyIds s (s.forgotten n) :=
  Writes.put1 (Writes.put1 (Writes.put1 (Writes.put1 (Writes.forEach Writes.refl.setDpll fun _ _ _ => Writes.ledgerMark .refl))))

theorem State.resetHistory_eq : ∃ y, s.resetHistory n = if (s.forgotten n).dpllState n = .freeRun then (s.forgotten n).startWordMove n .phaseOffset y
    else (s.forgotten n).addMove n .phaseOffset y := by
  unfold State.resetHistory State.forgotten
  exact ⟨_, rfl⟩

theorem State.resetHistory_writes (hn : n < 16) : Writes wordIds (s.forgotten n) (s.resetHistory n) := by
  obtain ⟨y, h⟩ := State.resetHistory_eq (s := s) (n := n)
  rw [h]
  exact .ite (Writes.startWordMove .refl hn) (Writes.addMove .refl)

theorem State.forgotten_cleared (hn : n < 16) : (s.forgotten n).flag Attr.dpll_has_locked n = false ∧
    (s.forgotten n).flag Attr.dpll_ho_ready n = false ∧ (s.forgotten n).attr Attr.dpll_phase_offset n = 0 := by
  refine ⟨?_, ?_, State.attr_put1_same ..⟩
  · rw [State.forgotten, (Writes.put1 (Writes.put1 (Writes.put1 (.refl (ids := [Attr.dpll_ho_ready.id, Attr.dpll_ho_usable.id, Attr.dpll_phase_offset.id]))))).flag,
      State.flag, State.attr_put1_same]
    rfl
  · rw [State.forgotten, (Writes.put1 (Writes.put1 (.refl (ids := [Attr.dpll_ho_usable.id, Attr.dpll_phase_offset.id])))).flag, State.flag, State.attr_put1_same]
    rfl

theorem resetHistory_facts (hs : s.serves who) (hc : issuerClient who = 0) (hn : n ≤ 15) (hheld : s.dpllState n ≠ .holdover)
    (hlimit : s.dpllState n ≠ .holdoverLimit) :
    ∃ t, exec (.resetHistory who n) s = .next t ∧ t.answered who 0x0404 0 ∧ t.flag Attr.dpll_has_locked n = false ∧
      t.flag Attr.dpll_ho_ready n = false ∧ t.attr Attr.dpll_phase_offset n = 0 ∧ t.dpllState n = s.dpllState n := by
  have hn' : n < 16 := by omega
  have hexec : exec (.resetHistory who n) s = .next ((s.resetHistory n).finish who 0x0404 0 n) :=
    congrArg Host.Outcome.next (State.doAct_ok _ hs.1 rfl (s.permits_owner0 hc) (by
      simp [decide_eq_false (Nat.not_lt.mpr hn), hheld, hlimit]))
  have hmoved : Writes wordIds (s.forgotten n) ((s.resetHistory n).finish who 0x0404 0 n) := (State.resetHistory_writes hn').finish
  have hwrites : Writes (wordIds ++ historyIds) s (s.resetHistory n) :=
    ((State.forgotten_writes hn').mono (by decide)).trans ((State.resetHistory_writes hn').mono (by decide))
  obtain ⟨hlock, hready, hoffset⟩ := State.forgotten_cleared (s := s) hn'
  exact ⟨_, hexec, hwrites.answered hs, hmoved.flag.trans hlock, hmoved.flag.trans hready, hmoved.attr.trans hoffset,
    (hmoved.dpllState hn').trans ((State.forgotten_writes hn').dpllState hn')⟩

/-- Settles O23, action by action: what each operation keeps of the DPLL's record, and its change of state. -/
theorem dpllActions : Obligations.DpllActions :=
  ⟨fun _ _ _ hs hc hn hstate => dpllOpen_facts hs hc hn hstate,
   fun _ _ _ _ hs hc hn hstate hword => setFreq_facts hs hc hn hstate hword,
   fun _ _ _ _ hs hc hn hstate hy => nudgePhase_facts hs hc hn hstate hy,
   fun _ _ _ _ hs hc hn hstate hnone => dpllClose_unselected hs hc hn hstate hnone,
   fun _ _ _ _ _ hs hc hn hstate hx hsel => dpllClose_selected hs hc hn hstate hx hsel,
   fun _ _ _ hs hc hn hheld hlimit => resetHistory_facts hs hc hn hheld hlimit⟩

end Sys2Proof.Machine
end

section
/-! The loop reports, locks and settles, and its movements end (R154, R155, R160, R162 to R164, R168). -/

set_option Elab.async false

namespace Sys2Proof.Machine

variable {s t u : State} {n x k : Nat} {who : Issuer}

/-! ### What a sample reads -/

theorem State.boundDom_lt {d : Nat} (h : s.boundDom n = some d) : d < 512 := by
  unfold State.boundDom at h
  exact List.mem_range.mp (List.mem_of_find?_eq_some h)

/-- The ids of the attributes that the loop reads of its DPLL at a sample. -/
def filterIds : List Nat :=
  [Attr.dpll_bw_used.id, Attr.dpll_damping.id, Attr.dpll_pd_rate.id, Attr.dpll_lock_limit_used.id, Attr.dpll_lock_freq_limit.id]

section
variable {ids : List Nat} (h : Writes ids s t) (hn : n < 16) (hi : ∀ i ∈ filterIds, i ∉ ids)
include h hn hi

theorem State.naturalOf_of : t.naturalOf n = s.naturalOf n := by
  rw [State.naturalOf, State.attrN, State.attrN, h.attr (hi _ (by simp [filterIds])), h.attr (hi _ (by simp [filterIds]))]
  rfl

theorem State.proportional_of (e : Int) : t.proportional n e = s.proportional n e := by
  rw [State.proportional, State.naturalOf_of h hn hi, h.attr (hi _ (by simp [filterIds]))]
  rfl

theorem State.integralStep_of (e : Int) : t.integralStep n e = s.integralStep n e := by
  rw [State.integralStep, State.naturalOf_of h hn hi, h.attr (hi _ (by simp [filterIds]))]
  rfl

theorem State.sampleDuty_of (e : Int) : t.sampleDuty n e = s.sampleDuty n e := by
  rw [State.sampleDuty, State.attrN, h.attr (hi _ (by simp [filterIds]))]
  rfl

theorem State.lockLost_of (e f : Int) : t.lockLost n e f = s.lockLost n e f := by
  rw [State.lockLost, State.attrN, State.attrN, h.attr (hi _ (by simp [filterIds])), h.attr (hi _ (by simp [filterIds]))]
  rfl

end

theorem State.streamPaused_of {ids : List Nat} (h : Writes ids s t) (hsels : t.sels = s.sels) (hchannels : t.repair = s.repair)
    (hi : Attr.input_qual_flags.id ∉ ids := by decide) : t.streamPaused n = s.streamPaused n := by
  unfold State.streamPaused
  rw [State.sel_of_sels hsels]
  cases (s.sel n).source with
  | none => rfl
  | some x =>
    by_cases hx : isDomainSource x = true
    · dsimp only
      rw [hx]
      rfl
    · have hlt : channelInput x < 64 := by
        simp only [isDomainSource, decide_eq_true_eq] at hx
        unfold channelInput
        split <;> omega
      have hdown : t.channelDown (channelInput x) = s.channelDown (channelInput x) := by
        rw [State.channelDown, State.channelDown, State.channel, State.channel, hchannels]
      dsimp only
      rw [hdown, State.attrN, State.attrN, h.attr hi]

/-! ### PD_SAMPLE (R155, R162, R167) -/

theorem Writes.phaseJump {ids : List Nat} (h : Writes ids s t) {y : Int} : Writes ids s (t.phaseJump n y) := by
  refine h.andThen (ids' := ids) ?_ (List.Subset.refl _)
  unfold State.phaseJump
  exact .ite .refl (.forEach .refl fun _ _ _ => Writes.refl.replaceOut)

/-- What waits for an unbound DPLL reaches its word and its outputs, and leaves its integrator as it is. -/
theorem State.applyWaiting_writes (hn : n < 16) : Writes (wordIds ++ [Attr.dpll_phase_offset.id]) s (s.applyWaiting n) := by
  unfold State.applyWaiting
  dsimp only
  cases (s.dpll n).pendWord with
  | none => exact Writes.phaseJump (Writes.setDpll (Writes.put1 .refl))
  | some y => exact Writes.phaseJump (Writes.setDpll (Writes.put1 (Writes.setWord .refl hn)))

theorem State.phaseJump_dpll {m : Nat} {y : Int} : (s.phaseJump n y).dpll m = s.dpll m :=
  State.dpll_of_dplls ((Evolves.phaseJump (P := .outs :: raiseParts) .refl).same .dplls (by decide))

theorem State.applyWaiting_loop : ((s.applyWaiting n).dpll n).integrator = (s.dpll n).integrator ∧
    ((s.applyWaiting n).dpll n).integralRest = (s.dpll n).integralRest ∧ ((s.applyWaiting n).dpll n).heldOff = (s.dpll n).heldOff := by
  unfold State.applyWaiting
  dsimp only
  rw [State.phaseJump_dpll, State.dpll_setDpll_same, State.put1_dpll]
  cases (s.dpll n).pendWord with
  | none => exact ⟨rfl, rfl, rfl⟩
  | some y =>
    obtain ⟨acc, since, sum, from_, h⟩ := State.setWord_dpll (s := s) (n := n) (y := y)
    dsimp only
    rw [h]
    exact ⟨rfl, rfl, rfl⟩

/-- The state in which a DPLL takes a sample: an unbound one has applied what waited. -/
def State.sampling (s : State) (n : Nat) : State := if (s.boundDom n).isNone then s.applyWaiting n else s

theorem State.sampling_writes (hn : n < 16) : Writes (wordIds ++ [Attr.dpll_phase_offset.id]) s (s.sampling n) :=
  .ite (State.applyWaiting_writes hn) .refl

theorem State.sampling_evolves : Evolves (.dplls :: .outs :: raiseParts) s (s.sampling n) := .ite (Evolves.applyWaiting .refl) .refl

theorem State.sampling_loop : ((s.sampling n).dpll n).integrator = (s.dpll n).integrator ∧
    ((s.sampling n).dpll n).integralRest = (s.dpll n).integralRest ∧ ((s.sampling n).dpll n).heldOff = (s.dpll n).heldOff := by
  unfold State.sampling
  split
  · exact State.applyWaiting_loop
  · exact ⟨rfl, rfl, rfl⟩

theorem State.sampling_phase (hn : n < 16) (y : Int) : (s.sampling n).samplePhase n y = s.samplePhase n y := by
  have hbound := State.boundDom_of (State.sampling_writes (s := s) hn) (by decide) n
  cases hd : s.boundDom n with
  | none =>
    unfold State.samplePhase
    rw [hbound, hd]
  | some d =>
    have hsame : s.sampling n = s := by rw [State.sampling, hd]; rfl
    rw [hsame]

/-- A sample sets the integrator, the duty and the word of the loop. -/
theorem State.loopSample_dpll {e : Int} : ((s.loopSample n e).dpll n).integrator = clampWord (((s.dpll n).integrator * 1000000000000 +
      (s.dpll n).integralRest + s.integralStep n e) / 1000000000000) ∧
    ((s.loopSample n e).dpll n).base = clampWord (((s.loopSample n e).dpll n).integrator + s.proportional n e) ∧
    ((s.loopSample n e).dpll n).duty = s.sampleDuty n e := by
  unfold State.loopSample
  dsimp only
  rw [State.put1_dpll, State.dpll_setDpll_same]
  generalize hr : ({ s.dpll n with
    integrator := clampWord (((s.dpll n).integrator * 1000000000000 + (s.dpll n).integralRest + s.integralStep n e) / 1000000000000)
    integralRest := ((s.dpll n).integrator * 1000000000000 + (s.dpll n).integralRest + s.integralStep n e) % 1000000000000
    duty := s.sampleDuty n e
    errSquares := (s.dpll n).errSquares + picoseconds e * picoseconds e
    errCount := (s.dpll n).errCount + 1 } : DpllRec) = r
  obtain ⟨acc, since, sum, from_, h⟩ := State.setWord_dpll (s := s.setDpll n r) (n := n)
    (y := r.integrator + (s.setDpll n r).proportional n e)
  rw [h, State.dpll_setDpll_same]
  subst hr
  exact ⟨rfl, rfl, rfl⟩

theorem State.loopSample_writes (hn : n < 16) {e : Int} : Writes (wordIds ++ [Attr.dpll_phase_error.id]) s (s.loopSample n e) :=
  Writes.put1 (Writes.setWord Writes.refl.setDpll hn)

/-- A DPLL that has lost lock acquires its source again. -/
def State.relock (s : State) (n : Nat) : State :=
  let w := (s.toDpllState n .acquire).settle n
  match (w.sel n).source with
  | some x => w.labelAtAcquire n x
  | none => w

theorem State.relock_writes (hn : n < 16) : Writes (stateIds ++ [Attr.dpll_settling.id]) s (s.relock n) := by
  have h : Writes (stateIds ++ [Attr.dpll_settling.id]) s ((s.toDpllState n .acquire).settle n) := (Writes.refl.toDpllState hn).settle hn
  unfold State.relock
  dsimp only
  split
  · exact h.labelAtAcquire
  · exact h

theorem State.relock_evolves : Evolves (.dplls :: raiseParts) s (s.relock n) := by
  unfold State.relock
  dsimp only
  split
  · exact Evolves.refl.toDpllState.settle.labelAtAcquire
  · exact Evolves.refl.toDpllState.settle

theorem State.relock_state (hn : n < 16) : (s.relock n).dpllState n = .acquire := by
  have hsettled : ((s.toDpllState n .acquire).settle n).dpllState n = .acquire :=
    ((Writes.settle (ids := [Attr.dpll_settling.id]) .refl hn).dpllState hn).trans (State.toDpllState_state hn)
  unfold State.relock
  dsimp only
  split
  · exact ((Writes.labelAtAcquire (ids := []) .refl).dpllState hn).trans hsettled
  · exact hsettled

theorem State.relock_dpll : ((s.relock n).dpll n).integrator = (s.dpll n).integrator ∧ ((s.relock n).dpll n).base = (s.dpll n).base ∧
    ((s.relock n).dpll n).duty = (s.dpll n).duty := by
  obtain ⟨marks, duty, hto, hduty⟩ := State.toDpllState_dpll (s := s) (n := n) (new := .acquire)
  obtain ⟨marks', ends, hsettle⟩ := State.settle_dpll (s := s.toDpllState n .acquire) (n := n)
  unfold State.relock
  dsimp only
  split
  case h_1 y _ =>
    obtain ⟨due, marks'', nudge, count, hlabel⟩ := State.labelAtAcquire_dpll (s := (s.toDpllState n .acquire).settle n) (n := n) (x := y)
    rw [hlabel, hsettle, hto]
    exact ⟨rfl, rfl, hduty (.inl rfl)⟩
  case h_2 =>
    rw [hsettle, hto]
    exact ⟨rfl, rfl, hduty (.inl rfl)⟩

/-- A DPLL after a sample in the loop. -/
def State.sampled (s : State) (n : Nat) (e f : Int) : State :=
  let v := s.loopSample n e
  if v.dpllState n = .locked ∧ v.lockLost n e f = true then v.relock n else v

theorem State.exec_pdSample {n : Fin 16} {y f : Int} (hup : s.timing = true) (hloop : s.inLoop n.val = true) (hheld : (s.dpll n.val).heldOff = false)
    (hpaused : s.streamPaused n.val = false) :
    exec (.pdSample n y f) s = .next ((s.sampling n.val).sampled n.val (s.samplePhase n.val y) f) := by
  have hev := State.sampling_evolves (s := s) (n := n.val)
  have hwrites := State.sampling_writes (s := s) n.isLt
  have hloop' : (s.sampling n.val).inLoop n.val = true := by rw [State.inLoop, hwrites.dpllState n.isLt]; exact hloop
  have hpaused' : (s.sampling n.val).streamPaused n.val = false :=
    (State.streamPaused_of hwrites (hev.same .sels (by decide)) (hev.same .repair (by decide))).trans hpaused
  rw [← State.sampling_phase n.isLt]
  have hgo : ((s.sampling n.val).inLoop n.val && !((s.sampling n.val).dpll n.val).heldOff && !(s.sampling n.val).streamPaused n.val) = true := by
    rw [hloop', State.sampling_loop.2.2, hheld, hpaused']
    rfl
  change execPdSample n y f s = _
  unfold execPdSample
  rw [State.when_, if_pos hup]
  unfold State.sampling at hgo ⊢
  dsimp only
  rw [if_pos hgo]
  generalize (if (s.boundDom n.val).isNone = true then s.applyWaiting n.val else s) = u
  generalize u.samplePhase n.val y = e
  unfold State.sampled State.relock
  rfl

theorem pdSample_facts {n : Fin 16} {y f : Int} (hup : s.timing = true) (hloop : s.inLoop n.val = true) (hheld : (s.dpll n.val).heldOff = false)
    (hpaused : s.streamPaused n.val = false) :
    ∃ t, exec (.pdSample n y f) s = .next t ∧ t.attr Attr.dpll_phase_error n.val = s.samplePhase n.val y ∧
      t.dpllState n.val = (if s.dpllState n.val = .locked ∧ s.lockLost n.val (s.samplePhase n.val y) f = true then .acquire
        else s.dpllState n.val) ∧
      (t.dpll n.val).integrator = clampWord (((s.dpll n.val).integrator * 1000000000000 + (s.dpll n.val).integralRest +
        s.integralStep n.val (s.samplePhase n.val y)) / 1000000000000) ∧
      (t.dpll n.val).base = clampWord ((t.dpll n.val).integrator + s.proportional n.val (s.samplePhase n.val y)) ∧
      (t.dpll n.val).duty = s.sampleDuty n.val (s.samplePhase n.val y) ∧ t.freeCount = s.freeCount ∧ t.counter = s.counter := by
  refine ⟨_, State.exec_pdSample hup hloop hheld hpaused, ?_⟩
  have hn := n.isLt
  generalize s.samplePhase n.val y = e
  have hwrites := State.sampling_writes (s := s) hn
  have hev := State.sampling_evolves (s := s) (n := n.val)
  obtain ⟨hint, hrest, -⟩ := State.sampling_loop (s := s) (n := n.val)
  have hintegral := State.integralStep_of hwrites hn (by decide) e
  have hprop := State.proportional_of hwrites hn (by decide) e
  have hduty := State.sampleDuty_of hwrites hn (by decide) e
  have hsampled := State.loopSample_writes (s := s.sampling n.val) hn (e := e)
  obtain ⟨hi, hb, hd⟩ := State.loopSample_dpll (s := s.sampling n.val) (n := n.val) (e := e)
  rw [hint, hrest, hintegral] at hi
  rw [hprop] at hb
  rw [hduty] at hd
  have herr : ((s.sampling n.val).loopSample n.val e).attr Attr.dpll_phase_error n.val = e := State.attr_put1_same ..
  have hstate : ((s.sampling n.val).loopSample n.val e).dpllState n.val = s.dpllState n.val := (hsampled.dpllState hn).trans (hwrites.dpllState hn)
  have hlost : ((s.sampling n.val).loopSample n.val e).lockLost n.val e f = s.lockLost n.val e f :=
    (State.lockLost_of hsampled hn (by decide) e f).trans (State.lockLost_of hwrites hn (by decide) e f)
  have hloopEv : Evolves (.dplls :: .outs :: raiseParts) s ((s.sampling n.val).loopSample n.val e) := hev.loopSample
  unfold State.sampled
  dsimp only
  rw [hstate, hlost]
  split
  · obtain ⟨hri, hrb, hrd⟩ := State.relock_dpll (s := (s.sampling n.val).loopSample n.val e) (n := n.val)
    have hend := hloopEv.trans (by decide) (State.relock_evolves (n := n.val))
    rw [hri, hrb, hrd]
    exact ⟨(State.relock_writes hn).attr.trans herr, State.relock_state hn, hi, hb, hd, hend.same .freeCount (by decide), hend.same .counter (by decide)⟩
  · exact ⟨herr, hstate, hi, hb, hd, hloopEv.same .freeCount (by decide), hloopEv.same .counter (by decide)⟩

/-! ### LOCK_ACQUIRED and SETTLING_END (R75, R160, R162 to R164) -/

theorem State.followStatus_faults : (s.followStatus n).faults = s.faults :=
  (Evolves.followStatus (P := [.attrs, .store]) .refl).same .faults (by decide)

/-- A DPLL that locks from ACQUIRE has no cause of a lost lock. -/
theorem State.toLocked_cause (h : s.dpllState n = .acquire) : ((s.toDpllState n .locked).latch (evLoop n 4)).cause = false := by
  have htrack : ∀ v : State, (v.trackChange n .acquire .locked).faults = v.faults := fun v =>
    (Evolves.ite (P := [.attrs, .store]) (Evolves.judgeTrack .refl) .refl).same .faults (by decide)
  unfold State.toDpllState
  rw [h, if_neg (by decide)]
  dsimp only
  rw [if_neg (by decide), if_pos rfl, if_neg (by decide), if_neg (by decide), State.latch_of_faults ((htrack _).trans State.followStatus_faults)]
  exact State.uncause_cause ..

theorem State.toDpllState_since {new : DpllState} (hn : n < 16) (hne : s.dpllState n ≠ new) :
    (s.toDpllState n new).attr Attr.dpll_state_since n = s.counter := by
  unfold State.toDpllState
  rw [if_neg hne]
  exact (((Writes.followStatus (ids := [Attr.domain_time_status.id, Attr.mate_track_state.id])
    (Writes.refl.raise.raiseOrUncause.raiseOrUncause)).andThen (Writes.trackOf .refl)).attr).trans (State.attr_put1_same ..)

theorem lockAcquired_facts {n : Fin 16} (hup : s.timing = true) (hstate : s.dpllState n.val = .acquire)
    (hsettling : s.flag Attr.dpll_settling n.val = false) (hheld : (s.dpll n.val).heldOff = false)
    (herr : (s.attr Attr.dpll_phase_error n.val).natAbs * 1000 ≤ s.attrN Attr.dpll_lock_limit_used n.val * 65536) :
    ∃ t, exec (.lockAcquired n) s = .next t ∧ t.dpllState n.val = .locked ∧ t.flag Attr.dpll_has_locked n.val = true ∧
      t.attr Attr.dpll_state_since n.val = s.counter ∧ (t.latch (evLoop n.val 3)).latched = true ∧
      (t.latch (evLoop n.val 4)).cause = false := by
  have hn := n.isLt
  let v := (s.toDpllState n.val .locked).put1 Attr.dpll_has_locked n.val 1
  have hne : s.dpllState n.val ≠ .locked := by rw [hstate]; decide
  have hexec : ∃ t, exec (.lockAcquired n) s = .next t ∧ Writes [Attr.domain_time_status.id] v t ∧ t.faults = v.faults := by
    cases hd : v.boundDom n.val with
    | none =>
      refine ⟨v, ?_, .refl, rfl⟩
      change execLockAcquired n s = _
      unfold execLockAcquired
      rw [State.when_, if_pos (by simp [hup, hstate, hsettling, hheld, herr])]
      dsimp only
      rw [hd]
    | some d =>
      refine ⟨v.leaveUnset d, ?_, State.leaveUnset_writes (State.boundDom_lt hd),
        (Evolves.leaveUnset (P := [.attrs, .doms, .store]) .refl).same .faults (by decide)⟩
      change execLockAcquired n s = _
      unfold execLockAcquired
      rw [State.when_, if_pos (by simp [hup, hstate, hsettling, hheld, herr])]
      dsimp only
      rw [hd]
  obtain ⟨t, hexec, hleft, hfaults⟩ := hexec
  have hput : Writes [Attr.dpll_has_locked.id] (s.toDpllState n.val .locked) v := Writes.refl.put1
  refine ⟨t, hexec, (hleft.dpllState hn).trans ((hput.dpllState hn).trans (State.toDpllState_state hn)), ?_,
    hleft.attr.trans (hput.attr.trans (State.toDpllState_since hn hne)), ?_, ?_⟩
  · rw [hleft.flag, State.flag, State.attr_put1_same]
    rfl
  · have hb := (loopSource hn (j := 3) (by decide)).2.1
    exact hleft.latched _ hb (hput.latched _ hb (State.toDpllState_latched hn hne))
  · exact (congrArg Latch.cause (State.latch_of_faults (hfaults.trans (State.put1_faults ..)) _)).trans (State.toLocked_cause hstate)

theorem settlingEnd_facts {n : Fin 16} (hup : s.timing = true) (hsettling : s.flag Attr.dpll_settling n.val = true) :
    exec (.settlingEnd n) s = .next ((s.advance (s.dpll n.val).settleEnds).put1 Attr.dpll_settling n.val 0) ∧
      ((s.advance (s.dpll n.val).settleEnds).put1 Attr.dpll_settling n.val 0).flag Attr.dpll_settling n.val = false := by
  refine ⟨congrArg Host.Outcome.next (if_pos (by rw [hup, hsettling]; rfl)), ?_⟩
  rw [State.flag, State.attr_put1_same]
  rfl

/-! ### SLOPE_MOVEMENT_COMPLETE (R154, R168) -/

/-- The choice of the earlier of two ends. -/
def earlierEnd (best : Option (Movement × Nat)) (e : Movement × Nat) : Option (Movement × Nat) :=
  match best with
  | some b => if e.2 < b.2 then some e else some b
  | none => some e

theorem foldl_earlierEnd_mem {l : List (Movement × Nat)} {best : Option (Movement × Nat)} {e : Movement × Nat}
    (h : l.foldl earlierEnd best = some e) : e ∈ l ∨ best = some e := by
  induction l generalizing best with
  | nil => exact .inr h
  | cons b l ih =>
    obtain hl | hb := ih h
    · exact .inl (List.mem_cons_of_mem _ hl)
    · unfold earlierEnd at hb
      split at hb
      · split at hb
        · exact .inl (List.mem_cons.mpr (.inl (Option.some.inj hb).symm))
        · exact .inr hb
      · exact .inl (List.mem_cons.mpr (.inl (Option.some.inj hb).symm))

/-- The movement that ends first is one of the DPLL's. -/
theorem State.nextEnd_mem {m : Movement} {tick : Nat} (h : s.nextEnd n = some (m, tick)) : m ∈ (s.dpll n).moves := by
  obtain hl | hb := foldl_earlierEnd_mem (h : List.foldl earlierEnd none _ = _)
  · obtain ⟨m', hm', he⟩ := List.mem_filterMap.mp hl
    cases hsince : m'.since with
    | none => rw [hsince] at he; cases he
    | some t =>
      rw [hsince] at he
      cases he
      exact hm'
  · cases hb

theorem startHead_words {now : Nat} (ms : List Movement) : (startHead now ms).map (·.word) = ms.map (·.word) := by
  cases ms with
  | nil => rfl
  | cons m ms =>
    rw [startHead, List.map_cons, List.map_cons]
    split <;> rfl

theorem State.runHead_words (ms : List Movement) : (s.runHead n ms).map (·.word) = ms.map (·.word) := by
  unfold State.runHead
  split
  · rfl
  · split
    · exact startHead_words ms
    · rfl

theorem State.runHead_rest (ms : List Movement) : (s.runHead n ms).map (fun m => (m.kind, m.remaining)) = ms.map fun m => (m.kind, m.remaining) := by
  have h := congrArg (List.map fun f : MoveKind × Int × Int => (f.1, f.2.1)) (State.runHead_facts (s := s) (n := n) ms)
  rw [List.map_map, List.map_map] at h
  exact h

/-- A DPLL without the movement that has run out, before its word follows. -/
def State.runOut (s : State) (n : Nat) (m : Movement) (tick : Nat) : State :=
  let u := s.advance tick
  u.setDpll n { u.dpll n with moves := u.runHead n ((u.dpll n).moves.erase m) }

theorem State.runOut_dpll {m : Movement} {tick : Nat} : (s.runOut n m tick).dpll n =
    { s.dpll n with moves := (s.advance tick).runHead n ((s.dpll n).moves.erase m) } := State.dpll_setDpll_same

theorem State.runOut_any {m : Movement} {tick : Nat} : ((s.runOut n m tick).dpll n).moves.any (·.word) = ((s.dpll n).moves.erase m).any (·.word) := by
  have h := congrArg (List.any · id) (State.runHead_words (s := s.advance tick) (n := n) ((s.dpll n).moves.erase m))
  rw [State.runOut_dpll]
  simpa only [List.any_map, Function.id_comp] using h

theorem State.exec_slopeMovementComplete {n : Fin 16} {m : Movement} {tick : Nat} (hup : s.timing = true) (hend : s.nextEnd n.val = some (m, tick)) :
    exec (.slopeMovementComplete n) s = .next (if m.word || ((s.dpll n.val).moves.erase m).any (·.word) then (s.runOut n.val m tick).reword n.val
      else s.runOut n.val m tick) := by
  rw [← State.runOut_any (tick := tick)]
  change execSlopeMovementComplete n s = _
  unfold execSlopeMovementComplete
  rw [hend]
  dsimp only
  rw [State.when_, if_pos hup]
  rfl

theorem slopeMovementComplete_plain {n : Fin 16} {m : Movement} {tick : Nat} (hup : s.timing = true) (hend : s.nextEnd n.val = some (m, tick))
    (hword : (s.dpll n.val).moves.any (·.word) = false) :
    ∃ t, exec (.slopeMovementComplete n) s = .next t ∧
      ((t.dpll n.val).moves.map fun m => (m.kind, m.remaining)) = (((s.dpll n.val).moves.erase m).map fun m => (m.kind, m.remaining)) ∧
      t.counter = max s.counter tick ∧ (∀ j, j ≠ n.val → t.dpll j = s.dpll j) ∧ s.sameBut t [.counter, .dplls] := by
  have hplain : ∀ m' ∈ (s.dpll n.val).moves, ¬ m'.word = true := List.any_eq_false.mp hword
  have hnone : (m.word || ((s.dpll n.val).moves.erase m).any (·.word)) = false :=
    Bool.or_eq_false_iff.mpr ⟨Bool.eq_false_iff.mpr (hplain m (State.nextEnd_mem hend)),
      List.any_eq_false.mpr fun m' hm' => hplain m' (List.mem_of_mem_erase hm')⟩
  refine ⟨_, State.exec_slopeMovementComplete hup hend, ?_⟩
  rw [hnone, if_neg (by decide)]
  refine ⟨by rw [State.runOut_dpll, State.runHead_rest], rfl, fun j hj => State.dpll_setDpll_ne hj, ?_⟩
  exact (Evolves.setDpll (P := [.counter, .dplls]) (Evolves.refl.advance)).same

theorem State.reword_dpll : ∃ acc since sum from_, (s.reword n).dpll n =
    { s.dpll n with acc := acc, accSince := since, wordSum := sum, wordSince := from_ } := State.useWord_dpll

theorem slopeMovementComplete_word {n : Fin 16} {m : Movement} {tick : Nat} (hup : s.timing = true) (hend : s.nextEnd n.val = some (m, tick))
    (hword : (s.dpll n.val).moves.any (·.word) = true) :
    ∃ t, exec (.slopeMovementComplete n) s = .next t ∧
      ((t.dpll n.val).moves.map fun m => (m.kind, m.remaining)) = (((s.dpll n.val).moves.erase m).map fun m => (m.kind, m.remaining)) ∧
      t.counter = max s.counter tick ∧ (t.dpll n.val).base = (s.dpll n.val).base ∧
      ((s.dpll n.val).moves.erase m = [] → t.attr Attr.dpll_freq_word n.val = clampWord (s.dpll n.val).base) := by
  have hthrough : (m.word || ((s.dpll n.val).moves.erase m).any (·.word)) = true := by
    obtain ⟨m', hm', hw⟩ := List.any_eq_true.mp hword
    by_cases he : m' = m
    · rw [← he, hw]; rfl
    · rw [List.any_eq_true.mpr ⟨m', (List.mem_erase_of_ne he).mpr hm', hw⟩, Bool.or_true]
  refine ⟨_, State.exec_slopeMovementComplete hup hend, ?_⟩
  rw [hthrough, if_pos rfl]
  obtain ⟨acc, since, sum, from_, h⟩ := State.reword_dpll (s := s.runOut n.val m tick) (n := n.val)
  refine ⟨by rw [h, State.runOut_dpll, State.runHead_rest], ?_, by rw [h, State.runOut_dpll], fun hempty => ?_⟩
  · exact ((Evolves.reword (P := .dplls :: raiseParts) .refl).same .counter (by decide)).trans rfl
  · have hmoves : ((s.runOut n.val m tick).dpll n.val).moves = [] := by
      rw [State.runOut_dpll, hempty]
      exact List.map_eq_nil_iff.mp (State.runHead_rest [])
    rw [State.reword, State.useWord_freqWord n.isLt, State.moveRate_nil hmoves, State.runOut_dpll, Int.add_zero]

/-- Settles O24, row by row: what a sample reads is what it read before what waited was applied. -/
theorem dpllLoop : Obligations.DpllLoop :=
  ⟨fun _ _ _ _ hup hloop hheld hpaused => pdSample_facts hup hloop hheld hpaused,
   fun _ _ hup hstate hsettling hheld herr => lockAcquired_facts hup hstate hsettling hheld herr,
   fun _ _ hup hsettling => settlingEnd_facts hup hsettling,
   fun _ _ _ _ hup hend hword => slopeMovementComplete_plain hup hend hword,
   fun _ _ _ _ hup hend hword => slopeMovementComplete_word hup hend hword⟩

end Sys2Proof.Machine
end

section
/-! Commands are fetched, and completions and records reach their rings (R29, R321 to R338). -/

set_option Elab.async false

namespace Sys2Proof.Machine

variable {s t u : State} {c n k : Nat} {who : Issuer}

/-! ### A notification of a ring (R331) -/

/-- A ring whose notification has fired keeps its indices. -/
def Ring.disarmed (r : Ring) (cpl evt : Bool) : Ring := { r with armCpl := cpl, armEvt := evt }

/-- What the host holds is the same but for the arms of one ring and what waits to be signalled. -/
structure Notified (c : Nat) (s t : State) : Prop where
  ring : ∃ cpl evt, t.ring c = (s.ring c).disarmed cpl evt
  other : ∀ d, d ≠ c → t.ring d = s.ring d
  inflight : t.host.inflight = s.host.inflight
  completed : t.host.completed = s.host.completed
  spi : t.host.spi = s.host.spi
  out : s.out ⊆ t.out

theorem State.sendMsix_host {v : Nat} : (s.sendMsix v).host.rings = s.host.rings ∧ (s.sendMsix v).host.inflight = s.host.inflight ∧
    (s.sendMsix v).host.completed = s.host.completed ∧ (s.sendMsix v).host.spi = s.host.spi ∧ s.out ⊆ (s.sendMsix v).out := by
  unfold State.sendMsix
  split
  · exact ⟨rfl, rfl, rfl, rfl, List.Subset.refl _⟩
  · exact ⟨rfl, rfl, rfl, rfl, List.subset_cons_self ..⟩

/-- A ring whose arm has gone, with its interrupt bit for the owner. -/
def State.signalled (s : State) (c : Nat) (evt : Bool) : State :=
  let t := s.setRing c (if evt then { s.ring c with armEvt := false } else { s.ring c with armCpl := false })
  if c = 0 then { t with host := { t.host with intW1c := t.host.intW1c ||| (if evt then 4 else 2) } } else t

theorem State.notify_eq {evt : Bool} : s.notify c evt = if (if evt then (s.ring c).armEvt else (s.ring c).armCpl) = true then
    (s.signalled c evt).sendMsix ((s.signalled c evt).attrN Attr.client_vector 0 c) else s := rfl

theorem State.signalled_facts {evt : Bool} : Notified c s (s.signalled c evt) := by
  have hring : ∀ d, (s.signalled c evt).ring d = (s.setRing c (if evt then { s.ring c with armEvt := false } else { s.ring c with armCpl := false })).ring d := by
    intro d
    unfold State.signalled
    dsimp only
    split <;> rfl
  refine ⟨?_, fun d hd => (hring d).trans (tblGet_set_other _ _ _ _ hd), ?_, ?_, ?_, ?_⟩
  · rw [hring, ring_setRing]
    cases evt
    · exact ⟨false, (s.ring c).armEvt, rfl⟩
    · exact ⟨(s.ring c).armCpl, false, rfl⟩
  all_goals
    unfold State.signalled
    dsimp only
    split
  exacts [rfl, rfl, rfl, rfl, rfl, rfl, List.Subset.refl _, List.Subset.refl _]

theorem State.notify_facts {evt : Bool} : Notified c s (s.notify c evt) := by
  rw [State.notify_eq]
  by_cases harm : (if evt then (s.ring c).armEvt else (s.ring c).armCpl) = true
  · rw [if_pos harm]
    obtain ⟨⟨cpl, ev, hring⟩, hother, hin, hdone, hspi, hout⟩ := State.signalled_facts (s := s) (c := c) (evt := evt)
    obtain ⟨hrings', hin', hdone', hspi', hout'⟩ := State.sendMsix_host (s := s.signalled c evt) (v := (s.signalled c evt).attrN Attr.client_vector 0 c)
    exact ⟨⟨cpl, ev, (State.ring_of_rings hrings' c).trans hring⟩, fun d hd => (State.ring_of_rings hrings' d).trans (hother d hd),
      hin'.trans hin, hdone'.trans hdone, hspi'.trans hspi, List.Subset.trans hout hout'⟩
  · rw [if_neg harm]
    exact ⟨⟨_, _, rfl⟩, fun _ _ => rfl, rfl, rfl, rfl, List.Subset.refl _⟩

/-! ### COMMAND_FETCH (R321, R324, R326 to R328) -/

theorem exec_commandFetch {c : Fin 512} {entry : List Byte} {payload : Option (List Byte)} (hfetch : s.fetches c.val = true)
    (hactive : (s.ring c.val).active = true) (hon : (s.ring c.val).enabled = true) (hgo : (s.ring c.val).halted = false)
    (hindex : (s.ring c.val).cmdPi ≠ (s.ring c.val).cmdCi) (hlimit : s.tagsOut c.val < s.attrN Attr.client_tag_limit 0 c.val)
    (hpool : s.poolFree c.val = true) (hturn : s.nextClient = some c.val) :
    exec (.commandFetch c entry payload true) s = .next ((s.fetch c entry payload true).hadTurn c.val) := by
  change execCommandFetch c entry payload true s = _
  unfold execCommandFetch
  dsimp only
  rw [State.when_, if_pos (by simp [hfetch, hactive, hon, hgo, hindex]), if_neg (Nat.not_le.mpr hlimit), hpool, Bool.not_true,
    if_neg Bool.false_ne_true, if_pos hturn]

/-- The command in flight that an entry of a ring becomes. -/
def State.flightOf (s : State) (c : Fin 512) (entry : List Byte) (payload : Option (List Byte)) : InFlight :=
  let e := Entry.ofBytes entry
  { client := c.val, tag := e.tag, opcode := e.opcode, slot := (s.ring c.val).cmdCi, fence := e.fence
    rung := tblGet (s.ring c.val).rung s.counter (s.ring c.val).cmdCi
    fetched := s.counter, names := commandNames e.opcode ((if e.ptr then payload.getD [] else entry.drop 8).take e.length) }

/-- An entry that passes its checks is in flight, and the ring stands at the next. -/
def State.entryTaken (s : State) (c : Fin 512) (entry : List Byte) (payload : Option (List Byte)) : State :=
  let r := { s.ring c.val with limitHeld := false, poolHeld := false }
  let e := Entry.ofBytes entry
  let u := s.setRing c.val { r with cmdCi := (r.cmdCi + 1) % r.cmdSize }
  { u with host := { u.host with
    orphans := u.host.orphans.erase (c.val, e.tag)
    inflight := u.host.inflight ++ [s.flightOf c entry payload] } }

theorem State.fetch_taken {c : Fin 512} {entry : List Byte} {payload : Option (List Byte)} (hcrc : (Entry.ofBytes entry).crc = false)
    (hcheck : (Entry.ofBytes entry).check entry payload 0
      (s.host.inflight.any fun f => f.client == c.val && f.tag == (Entry.ofBytes entry).tag) = none) :
    s.fetch c entry payload true = s.entryTaken c entry payload := by
  unfold State.fetch
  simp only [hcrc, Bool.false_eq_true, if_false, Bool.not_true, hcheck]
  have hlost : ((none : Option Nat) == some E_POINTER) = false := rfl
  simp only [hlost, Bool.or_false]
  rfl

theorem commandFetch_facts {c : Fin 512} {entry : List Byte} {payload : Option (List Byte)} (hfetch : s.fetches c.val = true)
    (hactive : (s.ring c.val).active = true) (hon : (s.ring c.val).enabled = true) (hgo : (s.ring c.val).halted = false)
    (hindex : (s.ring c.val).cmdPi ≠ (s.ring c.val).cmdCi) (hlimit : s.tagsOut c.val < s.attrN Attr.client_tag_limit 0 c.val)
    (hpool : s.poolFree c.val = true) (hturn : s.nextClient = some c.val) (hcrc : (Entry.ofBytes entry).crc = false)
    (hcheck : (Entry.ofBytes entry).check entry payload 0
      (s.host.inflight.any fun f => f.client == c.val && f.tag == (Entry.ofBytes entry).tag) = none) :
    ∃ t f, exec (.commandFetch c entry payload true) s = .next t ∧ t.host.inflight = s.host.inflight ++ [f] ∧ f.client = c.val ∧
      f.tag = (Entry.ofBytes entry).tag ∧ f.opcode = (Entry.ofBytes entry).opcode ∧ f.slot = (s.ring c.val).cmdCi ∧
      f.fence = (Entry.ofBytes entry).fence ∧ f.fetched = s.counter ∧
      (t.ring c.val).cmdCi = ((s.ring c.val).cmdCi + 1) % (s.ring c.val).cmdSize ∧ (t.ring c.val).cmdPi = (s.ring c.val).cmdPi ∧
      t.host.completed = s.host.completed ∧ (∀ d, d ≠ c.val → t.ring d = s.ring d) ∧ s.sameBut t [.host] := by
  refine ⟨_, s.flightOf c entry payload, exec_commandFetch hfetch hactive hon hgo hindex hlimit hpool hturn, ?_⟩
  rw [State.fetch_taken hcrc hcheck]
  have hring : ((s.entryTaken c entry payload).hadTurn c.val).ring c.val =
      { s.ring c.val with limitHeld := false, poolHeld := false, cmdCi := ((s.ring c.val).cmdCi + 1) % (s.ring c.val).cmdSize } := tblGet_set_same ..
  refine ⟨rfl, rfl, rfl, rfl, rfl, rfl, rfl, by rw [hring], by rw [hring], rfl, fun d hd => tblGet_set_other _ _ _ _ hd, ?_⟩
  exact (Evolves.withHost (P := [.host]) (Evolves.withHost (Evolves.refl.setRing))).same

/-! ### COMPLETION_WRITE (R322, R324, R329, R331) -/

theorem State.returnTag_facts {tag : Nat} : (s.returnTag c tag).host.rings = s.host.rings ∧ (s.returnTag c tag).host.completed = s.host.completed ∧
    (∀ f rest, takeFirst (fun f : InFlight => f.client == c && f.tag == tag) s.host.inflight = some (f, rest) →
      (s.returnTag c tag).host.inflight = rest) := by
  unfold State.returnTag
  cases htake : takeFirst (fun f : InFlight => f.client == c && f.tag == tag) s.host.inflight with
  | none => exact ⟨rfl, rfl, fun _ _ h => by cases h⟩
  | some p =>
    obtain ⟨f, rest⟩ := p
    refine ⟨rfl, rfl, fun _ _ h => ?_⟩
    cases h
    rfl

/-- A ring after one more completion. -/
def Ring.completionPut (r : Ring) : Ring :=
  let next := (r.cplPi + 1) % r.cplSize
  { r with cplPi := next, cplPhase := if next = 0 then !r.cplPhase else r.cplPhase, fullSince := none, fullTold := false }

/-- The completion entry that a client's ring gets for a command (R324). -/
def State.completionOf (s : State) (c : Nat) (d : Done) : List Byte :=
  completionEntry d (issuerTag d.who) (s.ring c).cmdCi (ticksUs (s.timesOf d).1) (ticksUs (s.timesOf d).2) (s.ring c).cplPhase

theorem State.writeCompletion_eq {d : Done} : s.writeCompletion c d =
    (((((s.setRing c (s.ring c).completionPut).returnTag c (issuerTag d.who)).emit (.completion c (s.ring c).cplPi (s.completionOf c d) d.flag)).notify
      c false).served (ticksNs (s.timesOf d).2)) := rfl

theorem State.writeCompletion_facts {d : Done} : ((s.writeCompletion c d).ring c).cplPi = ((s.ring c).cplPi + 1) % (s.ring c).cplSize ∧
    (s.writeCompletion c d).host.completed = s.host.completed ∧ .completion c (s.ring c).cplPi (s.completionOf c d) d.flag ∈ (s.writeCompletion c d).out ∧
    (∀ f rest, takeFirst (fun f => f.client == c && f.tag == issuerTag d.who) s.host.inflight = some (f, rest) →
      (s.writeCompletion c d).host.inflight = rest) := by
  rw [State.writeCompletion_eq]
  obtain ⟨hrings, hdone, htag⟩ := State.returnTag_facts (s := s.setRing c (s.ring c).completionPut) (c := c) (tag := issuerTag d.who)
  generalize (s.setRing c (s.ring c).completionPut).returnTag c (issuerTag d.who) = u at *
  obtain ⟨⟨cpl, ev, hring⟩, -, hin, hdone', -, hout⟩ :=
    State.notify_facts (s := u.emit (.completion c (s.ring c).cplPi (s.completionOf c d) d.flag)) (c := c) (evt := false)
  generalize (u.emit (.completion c (s.ring c).cplPi (s.completionOf c d) d.flag)).notify c false = v at *
  refine ⟨?_, hdone'.trans hdone, hout (List.mem_cons_self ..), fun f rest h => hin.trans (htag f rest h)⟩
  have huring : u.ring c = (s.ring c).completionPut := (State.ring_of_rings hrings c).trans (State.ring_setRing ..)
  have hvring : v.ring c = ((s.ring c).completionPut).disarmed cpl ev := by
    rw [hring]
    exact congrArg (Ring.disarmed · cpl ev) huring
  exact congrArg Ring.cplPi hvring

theorem completionWrite_facts {c : Fin 512} {d : Done} {rest : List Done}
    (hdone : takeFirst (fun d => d.ofClient c.val && !s.heldBack d) s.host.completed = some (d, rest)) (hup : s.hostUp = true)
    (hactive : (s.ring c.val).active = true) (hdead : (s.ring c.val).dead = false)
    (hroom : ((s.ring c.val).cplPi + 1) % (s.ring c.val).cplSize ≠ (s.ring c.val).cplCi) :
    ∃ t, exec (.completionWrite c true) s = .next t ∧ t.host.completed = rest ∧
      (t.ring c.val).cplPi = ((s.ring c.val).cplPi + 1) % (s.ring c.val).cplSize ∧
      .completion c.val (s.ring c.val).cplPi
        (completionEntry d (issuerTag d.who) (s.ring c.val).cmdCi (ticksUs (s.timesOf d).1) (ticksUs (s.timesOf d).2)
          (s.ring c.val).cplPhase) d.flag ∈ t.out ∧
      (∀ f rest, takeFirst (fun f => f.client == c.val && f.tag == issuerTag d.who) s.host.inflight = some (f, rest) →
        t.host.inflight = rest) ∧ s.sameBut t [.host, .out] := by
  let u : State := { s with host := { s.host with completed := rest } }
  have hexec : exec (.completionWrite c true) s = .next (u.writeCompletion c.val d) := by
    change execCompletionWrite c true s = _
    unfold execCompletionWrite
    dsimp only
    rw [hdone]
    dsimp only
    rw [State.when_, if_pos (by rw [hup, hactive]; rfl), hdead, if_neg Bool.false_ne_true, if_neg hroom, if_neg (by decide)]
  obtain ⟨hpi, hcompleted, hout, htag⟩ := State.writeCompletion_facts (s := u) (c := c.val) (d := d)
  exact ⟨_, hexec, hcompleted, hpi, hout, htag, (Evolves.writeCompletion (P := [.host, .out]) Evolves.refl.withHost).same⟩

/-! ### EVENT_RECORD_DELIVERY and EVENT_OVERFLOW_RECORD (R29, R334, R335, R338) -/

theorem State.putEvent_facts {x : Nat → Bool → Emission} :
    (∃ cpl evt, (s.putEvent c x).ring c = { s.ring c with
      evtPi := ((s.ring c).evtPi + 1) % evtSize
      evtPhase := if ((s.ring c).evtPi + 1) % evtSize = 0 then !(s.ring c).evtPhase else (s.ring c).evtPhase
      armCpl := cpl, armEvt := evt }) ∧
    x (s.ring c).evtPi (s.ring c).evtPhase ∈ (s.putEvent c x).out := by
  unfold State.putEvent
  dsimp only
  generalize hr : ({ s.ring c with evtPi := _, evtPhase := _ } : Ring) = r
  obtain ⟨⟨cpl, ev, hring⟩, -, -, -, -, hout⟩ :=
    State.notify_facts (s := (s.setRing c r).emit (x (s.ring c).evtPi (s.ring c).evtPhase)) (c := c) (evt := true)
  refine ⟨⟨cpl, ev, ?_⟩, hout (List.mem_cons_self ..)⟩
  have hset : ((s.setRing c r).emit (x (s.ring c).evtPi (s.ring c).evtPhase)).ring c = r := State.ring_setRing ..
  rw [hring, hset, ← hr]
  rfl

/-- Nothing is due to a ring without lost records. -/
theorem State.flushLost_none {b : Bool} (hactive : (s.ring c).active = true) (hlost : (s.ring c).lostPending = 0) : s.flushLost c b = s := by
  unfold State.flushLost
  simp only [hactive, if_true, hlost]
  rfl

theorem State.deliver_ring {x : EventRec} (hactive : (s.ring x.client).active = true) (hlost : (s.ring x.client).lostPending = 0)
    (hroom : (s.ring x.client).evtRoom = true) : s.deliver x true = s.putEvent x.client fun slot phase => .event x.client slot x phase := by
  unfold State.deliver
  simp only [State.flushLost_none hactive hlost, hactive, hlost, hroom, if_true]
  rfl

theorem State.deliver_spi {x : EventRec} (hc : x.client = 0) (hidle : (s.ring 0).active = false) (hlost : s.host.spi.lost = 0)
    (hroom : s.host.spi.fifo.length < 64) :
    s.deliver x true = { s with host := { s.host with spi := { s.host.spi with fifo := s.host.spi.fifo ++ [x] } } } := by
  have hflush : s.flushLost 0 true = s := by
    unfold State.flushLost
    simp only [hidle, Bool.false_eq_true, if_false, hlost]
    rfl
  unfold State.deliver
  simp only [hc, hflush, hidle, Bool.false_eq_true, if_false, if_true, hlost, hroom, and_self]

/-- A record of a source that has left the queue. -/
def State.withoutRecords (s : State) (source : Nat) : State :=
  { s with faults := { s.faults with waiting := s.faults.waiting.filter fun y => y.source != source } }

/-- The log and the console get an event of client 0. -/
def State.recorded (w : State) (x : EventRec) : State :=
  if x.client = 0 then (if 2 ≤ x.cls then (w.logEvent x).tellConsole x else w.logEvent x) else w

theorem exec_eventRecordDelivery {source : Fin 640} {x : EventRec} (hup : s.firmware = true)
    (hone : s.faults.waiting.filter (fun y => y.source == source.val) = [x]) :
    exec (.eventRecordDelivery source []) s = .next (((s.withoutRecords source.val).deliver x true).recorded x) := by
  change execEventRecordDelivery source [] s = _
  unfold execEventRecordDelivery
  dsimp only
  rw [State.when_, if_pos hup, hone]
  rfl

theorem State.tmWrite_eventCount {a : Nat} {bs : List Byte} : (s.tmWrite a bs).tm.eventCount = s.tm.eventCount := by
  have hcheck : ∀ l : Nat, (s.findCheck l).tm.eventCount = s.tm.eventCount := by
    intro l
    unfold State.findCheck State.occurOnce State.submit
    dsimp only
    split
    · rfl
    · split <;> split <;> (try split) <;> simp [State.setFrame]
  unfold State.tmWrite
  split
  · rfl
  · unfold State.logRewritten
    dsimp only [TableMem.write, State.markWritten, State.setFrame]
    split
    · split
      · rw [State.put_tm, hcheck]
      · exact hcheck _
    · exact hcheck _

theorem State.recorded_facts {x : EventRec} (hc : x.client = 0) : (s.recorded x).host.spi = s.host.spi ∧
    (s.recorded x).tm.eventCount = s.tm.eventCount + 1 ∧ (s.recorded x).counter = s.counter := by
  have hlog : (s.logEvent x).host.spi = s.host.spi ∧ (s.logEvent x).tm.eventCount = s.tm.eventCount + 1 := by
    have hev := Evolves.logEvent (P := [.attrs, .faults, .tm, .store]) (.refl (s := s)) (x := x)
    exact ⟨congrArg (·.spi) (hev.same .host (by decide)), congrArg (· + 1) State.tmWrite_eventCount⟩
  have hprint : ∀ u : State, u.printEvents.host.spi = u.host.spi := by
    intro u
    have hfold : ∀ (l : List EventRec) (v : State), (l.foldl State.printEvent v).host.spi = v.host.spi := by
      intro l
      induction l with
      | nil => exact fun _ => rfl
      | cons y ys ih => exact fun v => ih _
    unfold State.printEvents
    split
    · rfl
    · exact hfold _ _
  have htell : ((s.logEvent x).tellConsole x).host.spi = (s.logEvent x).host.spi := hprint _
  have hev : Evolves ([.attrs, .faults, .tm, .store] ++ [.host, .out]) s (s.recorded x) := by
    unfold State.recorded
    exact .ite (.ite (Evolves.tellConsole (Evolves.logEvent .refl)) (Evolves.logEvent .refl)) .refl
  have htm : ((s.logEvent x).tellConsole x).tm = (s.logEvent x).tm := (Evolves.tellConsole (P := [.host, .out]) .refl).same .tm (by decide)
  refine ⟨?_, ?_, hev.same .counter (by decide)⟩
  · rw [State.recorded, if_pos hc]
    split
    · exact htell.trans hlog.1
    · exact hlog.1
  · rw [State.recorded, if_pos hc]
    split
    · exact (congrArg (·.eventCount) htm).trans hlog.2
    · exact hlog.2

theorem eventRecordDelivery_ring {source : Fin 640} {x : EventRec} (hup : s.firmware = true)
    (hone : s.faults.waiting.filter (fun y => y.source == source.val) = [x]) (hc : x.client ≠ 0) (hactive : (s.ring x.client).active = true)
    (hlost : (s.ring x.client).lostPending = 0) (hroom : (s.ring x.client).evtRoom = true) :
    ∃ t, exec (.eventRecordDelivery source []) s = .next t ∧ t.faults.waiting = s.faults.waiting.filter (fun y => y.source != source.val) ∧
      (t.ring x.client).evtPi = ((s.ring x.client).evtPi + 1) % evtSize ∧
      .event x.client (s.ring x.client).evtPi x (s.ring x.client).evtPhase ∈ t.out ∧ s.sameBut t [.host, .out, .faults] := by
  refine ⟨_, exec_eventRecordDelivery hup hone, ?_⟩
  obtain ⟨⟨cpl, evt, hring⟩, hout⟩ := State.putEvent_facts (s := s.withoutRecords source.val) (c := x.client)
    (x := fun slot phase => .event x.client slot x phase)
  have hput := Evolves.putEvent (P := [.host, .out]) (.refl (s := s.withoutRecords source.val)) (c := x.client)
    (x := fun slot phase => .event x.client slot x phase)
  rw [State.recorded, if_neg hc, State.deliver_ring (s := s.withoutRecords source.val) hactive hlost hroom]
  refine ⟨congrArg (·.waiting) (hput.same .faults (by decide)), by rw [hring]; rfl, hout, ?_⟩
  exact State.sameBut_trans (P := [.host, .out, .faults]) (State.sameBut_mono (Evolves.withFaults (P := [.faults]) .refl).same (by decide))
    (State.sameBut_mono hput.same (by decide))

theorem eventRecordDelivery_spi {source : Fin 640} {x : EventRec} (hup : s.firmware = true)
    (hone : s.faults.waiting.filter (fun y => y.source == source.val) = [x]) (hc : x.client = 0) (hidle : (s.ring 0).active = false)
    (hlost : s.host.spi.lost = 0) (hroom : s.host.spi.fifo.length < 64) :
    ∃ t, exec (.eventRecordDelivery source []) s = .next t ∧ t.host.spi.fifo = s.host.spi.fifo ++ [x] ∧
      t.tm.eventCount = s.tm.eventCount + 1 ∧ t.counter = s.counter := by
  refine ⟨_, exec_eventRecordDelivery hup hone, ?_⟩
  rw [State.deliver_spi (s := s.withoutRecords source.val) hc hidle hlost hroom]
  obtain ⟨hspi, hcount, hcounter⟩ := State.recorded_facts (x := x) hc (s := { s.withoutRecords source.val with
    host := { s.host with spi := { s.host.spi with fifo := s.host.spi.fifo ++ [x] } } })
  exact ⟨congrArg (·.fifo) hspi, hcount, hcounter⟩

/-- What has left the module stays out as an occurrence is raised. -/
theorem State.out_subset_raise {ev d : Nat} {b : Bool} {x : List ScopeItem} : s.out ⊆ (s.raise ev b d x).out := by
  have hdrop : ∀ (l : List Issuer) (u : State), u.out ⊆ (u.dropSends l).out := by
    intro l
    induction l with
    | nil => exact fun _ => List.Subset.refl _
    | cons w ws ih => exact fun u => List.Subset.trans (by rw [← State.audit_out]; exact State.out_subset_complete) (ih _)
  have hfail : ∀ (l : List Issuer) (u : State), u.out ⊆ (u.failSends l).out := by
    intro l
    induction l with
    | nil => exact fun _ => List.Subset.refl _
    | cons w ws ih => exact fun u => List.Subset.trans State.out_subset_finish (ih _)
  have htell : ∀ (l : List TxFrame) (u : State), (l.foldl (fun (x : State) f => x.tellDesc f .dropped) u).out = u.out := fun l u =>
    (Evolves.foldl (P := [.attrs, .faults, .tm, .store]) .refl fun _ _ => Evolves.tellDesc .refl).same .out (by decide)
  have hframes : ∀ (u : State) (p : Nat), u.out ⊆ (u.dropFrames p).out := by
    intro u p
    unfold State.dropFrames
    refine List.Subset.trans ?_ (hfail _ _)
    refine List.Subset.trans ?_ (hdrop _ _)
    rw [State.add_out, htell]
    exact List.Subset.refl _
  have hidle : ∀ (c : Nat → Bool) (l : List Nat) (u : State), u.out ⊆ (u.forEach l fun t p => if c p then t.dropFrames p else t).out := by
    intro c l
    induction l with
    | nil => exact fun _ => List.Subset.refl _
    | cons p ps ih =>
      intro u
      refine List.Subset.trans ?_ (ih _)
      change u.out ⊆ (if c p = true then u.dropFrames p else u).out
      split
      · exact hframes u p
      · exact List.Subset.refl _
  have hports : ∀ t u : State, u.out ⊆ (State.idlePorts t u).out := fun t u =>
    hidle (fun p => u.portForced p && !t.portForced p) (List.range 4) u
  unfold State.raise
  dsimp only
  split
  · refine List.Subset.trans ?_ (hports _ _)
    rw [State.countSafe_out, State.occur_out]
    exact List.Subset.refl _
  · rw [State.occur_out]
    exact List.Subset.refl _

theorem eventOverflowRecord_facts {c : Fin 512} (hup : s.firmware = true) (hactive : (s.ring c.val).active = true)
    (hlost : (s.ring c.val).lostPending ≠ 0) (hroom : (s.ring c.val).evtRoom = true) :
    ∃ t, exec (.eventOverflowRecord c true) s = .next t ∧ (t.ring c.val).lostPending = 0 ∧
      (t.ring c.val).evtPi = ((s.ring c.val).evtPi + 1) % evtSize ∧
      .overflow c.val (s.ring c.val).evtPi (satNat 65535 (s.ring c.val).lostPending) (s.ring c.val).evtPhase ∈ t.out ∧
      (t.latch 518).latched = true ∧ t.counter = s.counter := by
  let u := s.putEvent c.val fun slot phase => .overflow c.val slot (satNat 65535 (s.ring c.val).lostPending) phase
  let v := u.setRing c.val { u.ring c.val with lostPending := 0 }
  have hexec : exec (.eventOverflowRecord c true) s = .next (v.raise 518 false c.val) := by
    refine congrArg Host.Outcome.next ((if_pos hup).trans ?_)
    unfold State.flushLost
    simp only [hactive, hroom, bne_iff_ne.mpr hlost, if_true, Bool.and_self, Bool.not_true, Bool.false_eq_true, if_false]
    rfl
  obtain ⟨⟨cpl, evt, hring⟩, hout⟩ := State.putEvent_facts (s := s) (c := c.val)
    (x := fun slot phase => .overflow c.val slot (satNat 65535 (s.ring c.val).lostPending) phase)
  have hvring : (v.raise 518 false c.val).ring c.val = { u.ring c.val with lostPending := 0 } := State.raise_ring.trans (State.ring_setRing ..)
  refine ⟨_, hexec, by rw [hvring], by rw [hvring]; exact congrArg Ring.evtPi hring, State.out_subset_raise hout, State.raise_latched, ?_⟩
  exact (Evolves.raise (P := raiseParts) (Evolves.setRing (Evolves.putEvent .refl))).same .counter (by decide)

/-- Settles O48, row by row: what a notification leaves of a ring, and one record in the order of its delivery. -/
theorem ringTraffic : Obligations.RingTraffic :=
  ⟨fun _ _ _ _ hfetch hactive hon hgo hindex hlimit hpool hturn hcrc hcheck =>
     commandFetch_facts hfetch hactive hon hgo hindex hlimit hpool hturn hcrc hcheck,
   fun _ _ _ _ hdone hup hactive hdead hroom => completionWrite_facts hdone hup hactive hdead hroom,
   fun _ _ _ hup hone => ⟨fun hc hactive hlost hroom => eventRecordDelivery_ring hup hone hc hactive hlost hroom,
     fun hc hidle hlost hroom => eventRecordDelivery_spi hup hone hc hidle hlost hroom⟩,
   fun _ _ hup hactive hlost hroom => eventOverflowRecord_facts hup hactive hlost hroom⟩

end Sys2Proof.Machine
end

section
/-! SPI lite and the console take their commands (R323, R324, R326, R337 to R339, R341). -/

set_option Elab.async false

namespace Sys2Proof.Machine

variable {s t u : State} {a n k : Nat} {who : Issuer}

/-! ### SPI_WRITE and SPI_READ (R337) -/

theorem State.setSpi_self : s.setSpi s.host.spi = s := rfl

theorem State.spiPuts_entry {bytes : List Byte} (h : a + bytes.length ≤ 0x40) :
    s.spiPuts a bytes = s.setSpi { s.host.spi with entry := tblSetRun (0 : Byte) s.host.spi.entry a bytes } := by
  induction bytes generalizing s a with
  | nil => rfl
  | cons b bs ih =>
    rw [List.length_cons] at h
    have hnext : (a + 1) % 0x2000 = a + 1 := Nat.mod_eq_of_lt (by omega)
    rw [State.spiPuts, hnext, ih (by omega), State.spiPut, if_pos (by omega)]
    rfl

theorem State.spiPuts_buffer {bytes : List Byte} (ha : 0x1000 ≤ a) (h : a + bytes.length ≤ 0x2000) :
    s.spiPuts a bytes = s.setSpi { s.host.spi with buffer := tblSetRun (0 : Byte) s.host.spi.buffer (a - 0x1000) bytes } := by
  induction bytes generalizing s a with
  | nil => rfl
  | cons b bs ih =>
    rw [List.length_cons] at h
    rw [State.spiPuts, State.spiPut, if_neg (by omega), if_pos ⟨ha, by omega⟩]
    cases bs with
    | nil => rfl
    | cons b' bs' =>
      rw [List.length_cons] at h
      have hnext : (a + 1) % 0x2000 = a + 1 := Nat.mod_eq_of_lt (by omega)
      have hplace : a + 1 - 0x1000 = a - 0x1000 + 1 := by omega
      rw [hnext, ih (by omega) (by rw [List.length_cons]; omega), hplace]
      rfl

/-- The addresses of a transaction, which wraps at the end of the window. -/
def spiTouched (a len : Nat) : List Nat := (List.range len).map fun k => (a + k) % 0x2000

theorem spiTouched_entry {len x : Nat} (h : a + len ≤ 0x40) (hx : x ∈ spiTouched (a % 0x2000) len) : x < 0x40 := by
  obtain ⟨k, hk, rfl⟩ := List.mem_map.mp hx
  have := List.mem_range.mp hk
  omega

theorem spiTouched_buffer {len x : Nat} (ha : 0x1000 ≤ a) (h : a + len ≤ 0x2000) (hx : x ∈ spiTouched (a % 0x2000) len) : 0x1000 ≤ x := by
  obtain ⟨k, hk, rfl⟩ := List.mem_map.mp hx
  have := List.mem_range.mp hk
  omega

/-- A write that touches neither SPI_CTRL nor all of TL_CTRL only puts its bytes, or counts an error while BUSY. -/
theorem exec_spiWrite {bytes : List Byte} (hup : s.spiUp = true) (hctrl : 0x60 ∉ spiTouched (a % 0x2000) bytes.length)
    (hlatch : ¬ (a % 0x2000 ≤ 0x200 ∧ 0x204 ≤ a % 0x2000 + bytes.length)) :
    exec (.spiWrite a bytes) s = .next (if s.host.spi.busy then
      (if (spiTouched (a % 0x2000) bytes.length).any (fun x => decide (x < 0x40) || decide (0x1000 ≤ x)) then s.spiError else s)
      else s.spiPuts (a % 0x2000) bytes) := by
  change execSpiWrite a bytes s = _
  unfold execSpiWrite
  dsimp only
  rw [State.when_, if_pos hup, if_neg hlatch, if_neg (by rw [List.contains_iff_mem]; exact hctrl)]
  rfl

theorem spiWrite_entry {bytes : List Byte} (hup : s.spiUp = true) (hidle : s.host.spi.busy = false) (h : a + bytes.length ≤ 0x40) :
    ∃ t, exec (.spiWrite a bytes) s = .next t ∧ (∀ k (h : k < bytes.length), tblGet t.host.spi.entry 0 (a + k) = bytes[k]) ∧
      (∀ x, x < a ∨ a + bytes.length ≤ x → tblGet t.host.spi.entry 0 x = tblGet s.host.spi.entry 0 x) ∧
      t.host.spi.buffer = s.host.spi.buffer ∧ s.sameBut t [.host] := by
  have hmod : a % 0x2000 = a := Nat.mod_eq_of_lt (by omega)
  refine ⟨_, exec_spiWrite hup (fun hx => absurd (spiTouched_entry h hx) (by decide)) (by omega), ?_⟩
  rw [hidle, if_neg Bool.false_ne_true, hmod, State.spiPuts_entry h]
  exact ⟨fun k hk => tblGet_setRun_same _ _ _ _ _ hk, fun x hx => tblGet_setRun_other _ _ _ _ _ hx, rfl, (Evolves.withHost (P := [.host]) .refl).same⟩

theorem spiWrite_buffer {bytes : List Byte} (hup : s.spiUp = true) (hidle : s.host.spi.busy = false) (ha : 0x1000 ≤ a)
    (h : a + bytes.length ≤ 0x2000) :
    ∃ t, exec (.spiWrite a bytes) s = .next t ∧
      (∀ k (h : k < bytes.length), tblGet t.host.spi.buffer 0 (a - 0x1000 + k) = bytes[k]) ∧
      (∀ x, x < a - 0x1000 ∨ a - 0x1000 + bytes.length ≤ x → tblGet t.host.spi.buffer 0 x = tblGet s.host.spi.buffer 0 x) ∧
      t.host.spi.entry = s.host.spi.entry ∧ s.sameBut t [.host] := by
  refine ⟨_, exec_spiWrite hup (fun hx => absurd (spiTouched_buffer ha h hx) (by decide)) (by omega), ?_⟩
  rw [hidle, if_neg Bool.false_ne_true]
  cases bytes with
  | nil => exact ⟨fun k hk => absurd hk (Nat.not_lt_zero _), fun _ _ => rfl, rfl, fun p _ => s.same_refl p⟩
  | cons b bs =>
    have hmod : a % 0x2000 = a := Nat.mod_eq_of_lt (by rw [List.length_cons] at h; omega)
    rw [hmod, State.spiPuts_buffer ha h]
    exact ⟨fun k hk => tblGet_setRun_same _ _ _ _ _ hk, fun x hx => tblGet_setRun_other _ _ _ _ _ hx, rfl, (Evolves.withHost (P := [.host]) .refl).same⟩

/-- An occurrence leaves SPI lite as it is. -/
theorem State.raise_spi {ev d : Nat} {c : Bool} {x : List ScopeItem} : (s.raise ev c d x).host.spi = s.host.spi := by
  have hcomplete : ∀ (u : State) (w : Issuer) (op st g : Nat), (u.complete w op st [] none g).host.spi = u.host.spi := by
    intro u w op st g
    unfold State.complete
    cases w with
    | ring _ _ => dsimp only; split <;> rfl
    | spi => rfl
    | console => rfl
  have hdrop : ∀ (l : List Issuer) (u : State), (u.dropSends l).host.spi = u.host.spi := by
    intro l
    induction l with
    | nil => exact fun _ => rfl
    | cons w ws ih => exact fun u => (ih _).trans ((hcomplete ..).trans (congrArg (·.spi) (State.audit_host ..)))
  have hfail : ∀ (l : List Issuer) (u : State), (u.failSends l).host.spi = u.host.spi := by
    intro l
    induction l with
    | nil => exact fun _ => rfl
    | cons w ws ih =>
      intro u
      rw [State.failSends, ih, State.finish, hcomplete]
      split <;> simp
  have hframes : ∀ (u : State) (p : Nat), (u.dropFrames p).host.spi = u.host.spi := by
    intro u p
    simp [State.dropFrames, hdrop, hfail]
  have hidle : ∀ u t : State, (State.idlePorts t u).host.spi = u.host.spi := by
    intro u t
    refine State.forEach_keeps (fun u : State => u.host.spi) _ (fun u n => ?_) _ _
    split
    · exact hframes u n
    · rfl
  unfold State.raise
  simp only
  split
  · rw [hidle, State.countSafe_host, State.occur_host]
  · rw [State.occur_host]

theorem State.spiError_facts : s.spiError.host.spi = s.host.spi ∧
    s.spiError.attr Attr.spi_errors = (s.attr Attr.spi_errors + 1) % (256 ^ Attr.spi_errors.bytes : Nat) ∧ s.spiError.counter = s.counter := by
  have hspi : ∀ u : State, (u.raiseOnce 526).host.spi = u.host.spi := by
    intro u
    unfold State.raiseOnce
    split
    · exact State.raise_spi
    · rfl
  have hbump : (s.bump Attr.spi_errors).attr Attr.spi_errors = (s.attr Attr.spi_errors + 1) % (256 ^ Attr.spi_errors.bytes : Nat) :=
    State.attr_bump_same s
  refine ⟨(hspi _).trans (congrArg (·.spi) (State.bump_host ..)), ?_, ?_⟩
  · exact ((Writes.raiseOnce (ids := []) .refl).attr).trans hbump
  · exact (Evolves.raiseOnce (P := raiseParts) (Evolves.bump .refl)).same .counter (by decide)

theorem spiWrite_busy {bytes : List Byte} (hup : s.spiUp = true) (hbusy : s.host.spi.busy = true) (hne : bytes ≠ []) (h : a + bytes.length ≤ 0x40) :
    ∃ t, exec (.spiWrite a bytes) s = .next t ∧ t.host.spi = s.host.spi ∧
      t.attr Attr.spi_errors = (s.attr Attr.spi_errors + 1) % (256 ^ Attr.spi_errors.bytes : Nat) ∧ t.counter = s.counter := by
  have hguarded : (spiTouched (a % 0x2000) bytes.length).any (fun x => decide (x < 0x40) || decide (0x1000 ≤ x)) = true := by
    have hmem : (a % 0x2000 + 0) % 0x2000 ∈ spiTouched (a % 0x2000) bytes.length :=
      List.mem_map.mpr ⟨0, List.mem_range.mpr (List.length_pos_iff.mpr hne), rfl⟩
    exact List.any_eq_true.mpr ⟨_, hmem, by rw [decide_eq_true (spiTouched_entry h hmem), Bool.true_or]⟩
  refine ⟨_, exec_spiWrite hup (fun hx => absurd (spiTouched_entry h hx) (by decide)) (by omega), ?_⟩
  rw [hbusy, if_pos rfl, hguarded, if_pos rfl]
  exact State.spiError_facts

theorem exec_spiRead (hup : s.spiUp = true) :
    exec (.spiRead a n) s = .next (s.emit (.spiRead ((List.range n).map fun k => s.spiByte ((a + k) % 0x2000)))) :=
  congrArg Host.Outcome.next (if_pos hup)

/-! ### The commands of SPI lite (R324, R326, R337, R338) -/

/-- SPI lite with a command that runs. -/
def State.spiBusy (s : State) : State := s.setSpi { s.host.spi with busy := true, done := false, goAt := s.counter }

theorem exec_spiGo (hup : s.spiUp = true) (hfetch : s.boot.fetchStopped = false) (hrestore : s.boot.restore = none) (hidle : s.host.spi.busy = false)
    (hcheck : (Entry.ofBytes (tblGetRun s.host.spi.entry 0 0 64)).check (tblGetRun s.host.spi.entry 0 0 64)
        (if (Entry.ofBytes (tblGetRun s.host.spi.entry 0 0 64)).ptr then
          s.spiPayload (tblGetRun s.host.spi.entry 0 0 64) (Entry.ofBytes (tblGetRun s.host.spi.entry 0 0 64)).length
         else some []) 0 false = none) :
    exec .spiGo s = .next s.spiBusy := by
  refine congrArg Host.Outcome.next ((if_pos hup).trans ?_)
  unfold State.spiSubmit
  rw [State.when_, if_pos (by rw [hfetch, hrestore]; rfl)]
  dsimp only
  rw [hidle, if_neg Bool.false_ne_true]
  change (match (Entry.ofBytes (tblGetRun s.host.spi.entry 0 0 64)).check (tblGetRun s.host.spi.entry 0 0 64)
        (if (Entry.ofBytes (tblGetRun s.host.spi.entry 0 0 64)).ptr then
          s.spiPayload (tblGetRun s.host.spi.entry 0 0 64) (Entry.ofBytes (tblGetRun s.host.spi.entry 0 0 64)).length
         else some []) 0 false with
    | some k => s.spiBusy.rejectEntry .spi (Entry.ofBytes (tblGetRun s.host.spi.entry 0 0 64)).opcode 0 k
    | none => s.spiBusy) = s.spiBusy
  rw [hcheck]

theorem spiCommandDone_facts {d : Done} {rest : List Done} (hup : s.spiUp = true)
    (hdone : takeFirst (fun d => decide (d.who = .spi)) s.host.completed = some (d, rest)) :
    ∃ t, exec .spiCommandDone s = .next t ∧ t.host.completed = rest ∧ t.host.spi.busy = false ∧ t.host.spi.done = true ∧
      t.host.spi.completion =
        completionEntry d (natLE ((tblGetRun s.host.spi.entry 0 0 4).drop 2) % 2048) 0 0
          (ticksUs (s.counter - s.host.spi.goAt)) s.host.spi.phase ∧
      bitOf t.host.intW1c 0 = true ∧ s.sameBut t [.host] := by
  have hexec : ∃ t, exec .spiCommandDone s = .next t ∧ t = (({ s with host := { s.host with
      spi := { s.host.spi with
        busy := false, done := true, phase := !s.host.spi.phase
        completion := completionEntry d (natLE ((tblGetRun s.host.spi.entry 0 0 4).drop 2) % 2048) 0 0
          (ticksUs (s.counter - s.host.spi.goAt)) s.host.spi.phase }
      completed := rest, intW1c := s.host.intW1c ||| 1 } } : State)).served (ticksNs (s.counter - s.host.spi.goAt)) := by
    refine ⟨_, ?_, rfl⟩
    change execSpiCommandDone s = _
    unfold execSpiCommandDone
    rw [hdone]
    dsimp only
    rw [State.when_, if_pos hup]
    rfl
  obtain ⟨t, hexec, rfl⟩ := hexec
  refine ⟨_, hexec, rfl, rfl, rfl, rfl, ?_, (Evolves.withHost (P := [.host]) (Evolves.withHost .refl)).same⟩
  exact (bitOf_or_two_pow s.host.intW1c 0 0).trans (Bool.or_true _)

/-! ### The console (R339) -/

/-- A console that holds no character back takes up nothing. -/
theorem State.drained_eq (h : s.host.console.held = []) : s.drained = s := by
  have hconsole : ConsoleUnit.drain s.host.console.held s.host.console = s.host.console := by
    rw [h, ConsoleUnit.drain, ← h]
  unfold State.drained
  rw [hconsole]

theorem exec_consoleCharacter {char : Nat} (hserved : s.service .console ≠ .unserved) (hheld : s.host.console.held = [])
    (hidle : s.host.console.busy = false) (hopen : s.host.console.ended = false) :
    exec (.consoleCharacter char) s = .next (({ s with host := { s.host with console := s.host.console.enter (char % 256) } }).emit (.echo (char % 256))) := by
  change execConsoleCharacter char s = _
  unfold execConsoleCharacter
  rw [State.when_, if_pos (decide_eq_true hserved)]
  dsimp only
  rw [State.drained_eq hheld, hidle, hopen, if_neg (by decide)]

/-- The module as the console runs a line. -/
def State.lineTaken (s : State) : State :=
  { s with host := { s.host with console := { s.host.console with line := [], ended := false, busy := true } } }

theorem exec_consoleLine {env : ConsoleEnv} (hserved : s.service .console ≠ .unserved) (hheld : s.host.console.held = [])
    (hidle : s.host.console.busy = false) (hended : s.host.console.ended = true) :
    exec (.consoleLine env) s = .next (s.lineTaken.consoleRun s.host.console.line env).printEvents := by
  change execConsoleLine env s = _
  unfold execConsoleLine
  rw [State.when_, if_pos (decide_eq_true hserved)]
  dsimp only
  rw [State.drained_eq hheld, hidle, hended, if_neg (by decide)]
  rfl

/-- A console that waits for no event prints none. -/
theorem State.printEvents_none (h : s.host.console.events = []) : s.printEvents = s := by
  have hsame : ({ s with host := { s.host with console := { s.host.console with events := [] } } } : State) = s := by rw [← h]
  unfold State.printEvents
  split
  · rfl
  · rw [h]
    exact hsame

/-- The console's answer to a line that it cannot run. -/
theorem State.consoleRun_unknown {line : List Nat} {env : ConsoleEnv} (h : wordsOf line [] = [[88]]) : s.consoleRun line env = s.consoleErr E_OPCODE := by
  unfold State.consoleRun
  rw [h]
  rfl

theorem consoleLine_facts {env : ConsoleEnv} (hserved : s.service .console ≠ .unserved) (hheld : s.host.console.held = [])
    (hidle : s.host.console.busy = false) (hended : s.host.console.ended = true) :
    ∃ t, exec (.consoleLine env) s = .next t ∧
      t = (State.consoleRun
        { s with host := { s.host with console := { s.host.console with line := [], ended := false, busy := true } } }
        s.host.console.line env).printEvents ∧
      (s.host.console.events = [] → wordsOf s.host.console.line [] = [] → t.out = .consolePrompt :: s.out ∧
        t.host.console.busy = false ∧ t.host.console.line = [] ∧ s.sameBut t [.host, .out]) ∧
      (s.host.console.events = [] → wordsOf s.host.console.line [] = [[88]] →
        t.answered .console 0 E_OPCODE ∧ s.sameBut t [.host, .out]) := by
  refine ⟨_, exec_consoleLine hserved hheld hidle hended, rfl, fun hevents hwords => ?_, fun hevents hwords => ?_⟩
  · have hrun : s.lineTaken.consoleRun s.host.console.line env =
        { s.lineTaken with host := { s.lineTaken.host with console := { s.lineTaken.host.console with busy := false } }
                           out := .consolePrompt :: s.out } := by
      unfold State.consoleRun
      rw [hwords]
      rfl
    rw [hrun, State.printEvents_none]
    · exact ⟨rfl, rfl, rfl, (Evolves.withHostOut (P := [.host, .out]) (Evolves.withHost .refl)).same⟩
    · exact hevents
  · rw [State.consoleRun_unknown hwords, State.printEvents_none]
    · exact ⟨⟨_, _, _, rfl⟩, (Evolves.withHostOut (P := [.host, .out]) (Evolves.withHost .refl)).same⟩
    · exact hevents

/-- Settles O49, row by row: the bytes of a write are a run of keys, and a console that holds nothing back takes up its line. -/
theorem spiAndConsole : Obligations.SpiAndConsole :=
  ⟨fun _ _ _ hup => ⟨fun hidle h => spiWrite_entry hup hidle h, fun hidle ha h => spiWrite_buffer hup hidle ha h,
     fun hbusy hne h => spiWrite_busy hup hbusy hne h⟩,
   fun _ _ _ hup => ⟨_, exec_spiRead hup, rfl, (Evolves.emit (P := [.out]) .refl).same⟩,
   fun _ hup hfetch hrestore hidle hcheck => ⟨_, exec_spiGo hup hfetch hrestore hidle hcheck, rfl, (Evolves.withHost (P := [.host]) .refl).same⟩,
   fun _ hup => ⟨_, congrArg Host.Outcome.next (if_pos hup), rfl, (Evolves.withHost (P := [.host]) .refl).same⟩,
   fun _ _ _ hup hdone => spiCommandDone_facts hup hdone,
   fun _ _ hserved hheld hidle hopen => ⟨_, exec_consoleCharacter hserved hheld hidle hopen, rfl, rfl,
     (Evolves.emit (P := [.host, .out]) (Evolves.withHost .refl)).same⟩,
   fun _ _ hserved hheld hidle hended => consoleLine_facts hserved hheld hidle hended⟩

end Sys2Proof.Machine
end

section
/-! Sessions are opened, granted, renewed and freed (R278 to R288, R383). -/

set_option Elab.async false

namespace Sys2Proof.Machine

variable {s t u : State} {n m g k p : Nat} {who : Issuer}

/-! ### What the use of an entry and a session's frames write -/

/-- The ids of what the use of a session's entry counts. -/
def cacheIds : List Nat := [Attr.cache_counts.id]

theorem State.requestPage_writes {lpn : Nat} : Writes cacheIds s (s.requestPage lpn) := by
  unfold State.requestPage State.startFill State.setCache
  split
  · split
    · exact .of_eq .refl
    · exact .refl
    · exact .ite .refl (.of_eq .refl)
    · exact .ite (Writes.add (.of_eq .refl)) (.of_eq .refl)
  · refine .ite (.of_eq .refl) (.ite .refl ?_)
    dsimp only
    split <;> exact .of_eq .refl

theorem Writes.useEntry {ids : List Nat} (h : Writes ids s t) (hi : cacheIds ⊆ ids := by decide) : Writes ids s (t.useEntry n) :=
  h.andThen State.requestPage_writes hi

theorem Writes.tellDesc {ids : List Nat} (h : Writes ids s t) {f : TxFrame} {st : DescState} : Writes ids s (t.tellDesc f st) := by
  unfold State.tellDesc
  split
  · exact h.tmWrite
  · exact h

theorem Writes.queueFrame {ids : List Nat} (h : Writes ids s t) {f : TxFrame} : Writes ids s (t.queueFrame p f) := h.setPort.tellDesc

theorem Writes.nextSeq {ids : List Nat} (h : Writes ids s t) : Writes ids s (t.nextSeq p k).2 := h.setPort

theorem Writes.sessionFrame {ids : List Nat} (h : Writes ids s t) {kind : PtpKind} {log : Int} {duration : Option Nat}
    (hi : cacheIds ⊆ ids := by decide) : Writes ids s (t.sessionFrame n kind g log duration) := by
  unfold State.sessionFrame
  dsimp only
  exact Writes.queueFrame (Writes.nextSeq (h.useEntry hi))

/-! ### The records of sessions -/

theorem State.sess_of_sessions (h : t.net.sessions = s.net.sessions) (m : Nat) : t.sess m = s.sess m := by rw [State.sess, h, State.sess]

theorem State.grant_of_sess (h : t.sess n = s.sess n) (g : Nat) : t.grant n g = s.grant n g := by rw [State.grant, h, State.grant]

theorem State.queueFrame_sessions {f : TxFrame} : (s.queueFrame p f).net.sessions = s.net.sessions :=
  congrArg (·.sessions) ((Evolves.tellDesc (P := [.attrs, .faults, .tm, .store]) .refl).same .net (by decide))

theorem State.useEntry_net : (s.useEntry n).net = s.net := (Evolves.useEntry (P := [.attrs, .tm, .store]) .refl).same .net (by decide)

theorem State.sessionFrame_sessions {kind : PtpKind} {log : Int} {duration : Option Nat} :
    (s.sessionFrame n kind g log duration).net.sessions = s.net.sessions := by
  unfold State.sessionFrame
  dsimp only
  rw [State.queueFrame_sessions]
  exact congrArg (·.sessions) State.useEntry_net

theorem State.setGrant_sess {r : GrantRec} : (s.setGrant n g r).sess n = { s.sess n with grants := tblSet (s.sess n).grants {} g r } := by
  rw [State.setGrant, State.put1_sess]
  exact tblGet_set_same ..

theorem State.setGrant_sess_ne {r : GrantRec} (h : m ≠ n) : (s.setGrant n g r).sess m = s.sess m := by
  rw [State.setGrant, State.put1_sess]
  exact tblGet_set_other _ _ _ _ h

theorem State.setGrant_grant {r : GrantRec} : (s.setGrant n g r).grant n g = r := by
  rw [State.grant, State.setGrant_sess]
  exact tblGet_set_same ..

theorem State.setGrant_grant_ne {r : GrantRec} (h : k ≠ g) : (s.setGrant n g r).grant n k = s.grant n k := by
  rw [State.grant, State.setGrant_sess]
  exact tblGet_set_other _ _ _ _ h

/-- What a session asks for a grant leaves of its record and of the other sessions. -/
theorem State.askGrant_sess : (s.askGrant n g).sess n = { s.sess n with
    grants := tblSet (s.sess n).grants {} g { s.grant n g with asking := true, backoff := false, tries := 0, since := s.counter } } := by
  rw [State.askGrant, State.sess_of_sessions State.sessionFrame_sessions, State.setGrant_sess]

theorem State.askGrant_sess_ne (h : m ≠ n) : (s.askGrant n g).sess m = s.sess m := by
  rw [State.askGrant, State.sess_of_sessions State.sessionFrame_sessions, State.setGrant_sess_ne h]

theorem State.askGrant_grant : (s.askGrant n g).grant n g = { s.grant n g with asking := true, backoff := false, tries := 0, since := s.counter } := by
  rw [State.grant, State.askGrant_sess]
  exact tblGet_set_same ..

theorem State.askGrant_grant_ne (h : k ≠ g) : (s.askGrant n g).grant n k = s.grant n k := by
  rw [State.grant, State.askGrant_sess]
  exact tblGet_set_other _ _ _ _ h

/-- The ids of the attributes that a grant record writes. -/
def grantIds : List Nat := cacheIds ++ [Attr.session_sess_cost.id]

theorem State.askGrant_writes (hn : n < 16384) : Writes grantIds s (s.askGrant n g) :=
  Writes.sessionFrame ((State.setGrant_writes hn).mono (by decide))

theorem State.askGrant_counter : (s.askGrant n g).counter = s.counter :=
  (Evolves.askGrant (P := [.attrs, .faults, .tm, .store, .net]) .refl).same .counter (by decide)

/-! ### SESSION.OPEN and SESSION.CLOSE (R278, R282, R287) -/

theorem State.askAll_asking (h : g < 3) : (([0, 1, 2].foldl (fun v g => State.askGrant v n g) s).grant n g).asking = true := by
  have hcases : g = 0 ∨ g = 1 ∨ g = 2 := by omega
  simp only [List.foldl_cons, List.foldl_nil]
  rcases hcases with rfl | rfl | rfl
  · rw [State.askGrant_grant_ne (by decide), State.askGrant_grant_ne (by decide), State.askGrant_grant]
  · rw [State.askGrant_grant_ne (by decide), State.askGrant_grant]
  · rw [State.askGrant_grant]

theorem State.askAll_keeps {α : Type} (f : State → α) (hf : ∀ (v : State) (g : Nat), f (v.askGrant n g) = f v) :
    f (s.forEach [0, 1, 2] fun v g => v.askGrant n g) = f s := State.forEach_keeps f _ hf _ _

theorem State.createSession_sess {q k pick addrType : Nat} {role : SessRole} {st : SessState} {w : Partner} :
    (s.createSession n q k role st w addrType pick).sess n = { partner := w, addrType := addrType, order := s.net.created + 1 } := by
  rw [State.createSession, State.put1_sess, State.put1_sess, State.put1_sess, State.put1_sess]
  exact State.sess_setSess _ n _

theorem State.createSession_sess_ne {q k pick addrType : Nat} {role : SessRole} {st : SessState} {w : Partner} (h : m ≠ n) :
    (s.createSession n q k role st w addrType pick).sess m = s.sess m := by
  rw [State.createSession, State.put1_sess, State.put1_sess, State.put1_sess, State.put1_sess]
  refine (State.sess_setSess_other _ _ h).trans ?_
  have hentry (v : State) : ((v.useEntry n).resetEntry n).net = v.net :=
    (Evolves.resetEntry (P := [.attrs, .faults, .tm, .store]) (.useEntry .refl)).same .net (by decide)
  rw [State.sess, hentry]
  rfl

/-- The ids of the attributes that a new session writes. -/
def createIds : List Nat :=
  cacheIds ++ [Attr.session_sess_state.id, Attr.session_sess_role.id, Attr.session_sess_binding.id, Attr.session_sess_engine.id]

theorem State.createSession_writes {q k pick addrType : Nat} {role : SessRole} {st : SessState} {w : Partner} (hn : n < 16384) :
    Writes createIds s (s.createSession n q k role st w addrType pick) := by
  unfold State.createSession
  exact Writes.put1 (Writes.put1 (Writes.put1 (Writes.put1 (Writes.setSess (Writes.tmWrite (Writes.useEntry (.of_eq .refl)))))))

theorem State.createSession_attrs {q k pick addrType : Nat} {role : SessRole} {st : SessState} {w : Partner} (hn : n < 16384) :
    let t := s.createSession n q k role st w addrType pick
    t.attr Attr.session_sess_state n = st.code ∧ t.attr Attr.session_sess_role n = role.code ∧ t.attr Attr.session_sess_binding n = (k * 256 + q : Nat) := by
  refine ⟨State.createSession_state hn, ?_, ?_⟩
  · rw [State.createSession, State.attr_put1_ne, State.attr_put1_ne, State.attr_put1_same]
  · rw [State.createSession, State.attr_put1_ne, State.attr_put1_same]

theorem State.freeNumber_lt (h : s.freeNumber = some n) : n < 16384 := by
  unfold State.freeNumber at h
  exact List.mem_range.mp (List.mem_of_find?_eq_some h)

theorem sessionOpen_facts {port slot addrType address pick : Nat} (hs : s.serves who) (hport : port ≤ 3) (hslot : slot ≤ 31)
    (htype : addrType = 4 ∨ addrType = 6) (hright : s.permits who (.domainOwner (bindDomain (s.binding port slot))) = true)
    (hpower : s.power ≠ .standbyWarm) (hused : s.bindUsed port slot = true) (hmode : bindMode (s.binding port slot) = 1)
    (hfew : ((s.sessionsOf port slot).filter s.grantee).length < 16) (hroom : s.sessionRoom = true) (hfree : s.freeNumber = some n)
    (hpage : s.poisoned (sessionPage n) = false) :
    ∃ t, exec (.sessionOpen who port slot addrType address pick) s = .next t ∧ t.answered who 0x1100 0 ∧
      t.resultOf who = bytesLE 2 n ∧ t.attr Attr.session_sess_state n = SessState.requesting.code ∧ t.grantee n = true ∧
      t.attr Attr.session_sess_binding n = ((slot * 256 + port : Nat) : Int) ∧ (t.sess n).partner = ⟨address, 0⟩ ∧
      (∀ g, g < 3 → (t.grant n g).asking = true) ∧ (∀ m, m ≠ n → t.sess m = s.sess m) ∧
      s.sameBut t [.attrs, .net, .tm, .faults, .store, .host, .out] := by
  have hn := State.freeNumber_lt hfree
  have hrange : (decide (3 < port) || decide (31 < slot) || !(addrType == 4 || addrType == 6)) = false := by
    rcases htype with rfl | rfl <;> simp [decide_eq_false (Nat.not_lt.mpr hport), decide_eq_false (Nat.not_lt.mpr hslot)]
  let c := s.createSession n port slot .grantee .requesting ⟨address, 0⟩ addrType pick
  let u := c.forEach [0, 1, 2] fun v g => v.askGrant n g
  have hexec : exec (.sessionOpen who port slot addrType address pick) s = .next (u.finish who 0x1100 0 slot (bytesLE 2 n)) := by
    change execSessionOpen who port slot addrType address pick s = _
    unfold execSessionOpen
    dsimp only
    rw [hrange]
    refine congrArg Host.Outcome.next ((State.act_ok _ hs.1 rfl hright ?_).trans ?_)
    · simp [firstRefusal_none, hpower, hused, hmode, hroom, hfree, hfew]
    · rw [hfree, Option.getD_some, hpage, if_neg Bool.false_ne_true]
  have hasked : Writes grantIds c u := Writes.forEach .refl fun _ _ _ => State.askGrant_writes hn
  have hfinished : Writes grantIds c (u.finish who 0x1100 0 slot (bytesLE 2 n)) := hasked.finish
  have hwrites : Writes (createIds ++ grantIds) s u := ((State.createSession_writes hn).mono (by decide)).trans (hasked.mono (by decide))
  obtain ⟨hstate, hrole, hbinding⟩ := State.createSession_attrs (s := s) (q := port) (k := slot) (pick := pick) (addrType := addrType) (role := .grantee)
    (st := .requesting) (w := ⟨address, 0⟩) hn
  have hsess : ∀ m, (u.finish who 0x1100 0 slot (bytesLE 2 n)).sess m = u.sess m := fun m => State.sess_of_net (State.finish_net ..)
  refine ⟨_, hexec, hwrites.answered hs, hwrites.resultOf hs, hfinished.attr.trans hstate, ?_, hfinished.attr.trans hbinding, ?_, fun g hg => ?_,
    fun m hm => ?_, ?_⟩
  · rw [State.grantee, hfinished.attr]
    exact beq_iff_eq.mpr hrole
  · rw [hsess, State.askAll_keeps (fun v => (v.sess n).partner) fun v g => by rw [State.askGrant_sess]]
    exact congrArg SessRec.partner State.createSession_sess
  · rw [State.grant_of_sess (hsess n)]
    exact State.askAll_asking hg
  · rw [hsess, State.askAll_keeps (fun v => v.sess m) fun v g => State.askGrant_sess_ne hm]
    exact State.createSession_sess_ne hm
  · exact (Evolves.finish (P := raiseParts) (Evolves.forEach (Evolves.createSession .refl) fun _ _ => Evolves.refl.askGrant)).same |> (State.sameBut_mono · (by decide))

theorem keyInst_key {a : AttrDesc} {i e : Nat} (ha : a.shared = false) (hi : i < 65536) (he : e < 65536) : keyInst (a.key i e) = i := by
  unfold keyInst AttrDesc.key
  rw [ha, if_neg Bool.false_ne_true]
  omega

/-- The state of a freed session reads its default. -/
theorem State.freeSession_state (hn : n < 16384) : (s.freeSession n).attr Attr.session_sess_state n = 0 := by
  have hid : keyId (Attr.session_sess_state.key n 0) = 0x880 := keyId_key (by omega) (by decide)
  have hinst : keyInst (Attr.session_sess_state.key n 0) = n := keyInst_key rfl (by omega) (by decide)
  have hof : keyOf .session n (Attr.session_sess_state.key n 0) = true := by
    rw [keyOf, hid, hinst, beq_self_eq_true, Bool.and_true]
    decide
  change tblGet (tblKeep (fun k => !keyOf .session n k) s.attrs) _ (Attr.session_sess_state.key n 0) = 0
  rw [tblGet, tblFind_tblKeep_not (by rw [hof]; rfl)]
  rfl

theorem Writes.closeSession {ids : List Nat} (h : Writes ids s t) (hi : cacheIds ++ sessionIds ⊆ ids := by decide) :
    Writes ids s (t.closeSession n) := by
  refine h.andThen (ids' := cacheIds ++ sessionIds) ?_ hi
  unfold State.closeSession
  exact Writes.freeSession (Writes.forEach .refl fun _ _ _ => Writes.sessionFrame .refl (List.subset_append_left ..)) (List.subset_append_right ..)

theorem State.closeSession_sess_ne (h : m ≠ n) : (s.closeSession n).sess m = s.sess m := by
  refine (State.sess_setSess_other _ _ h).trans ?_
  exact State.forEach_keeps (fun v : State => v.sess m) _ (fun v g => State.sess_of_sessions State.sessionFrame_sessions m) _ _

theorem sessionClose_facts (hs : s.serves who) (hn : n ≤ 16383) (hused : s.attr Attr.session_sess_state n ≠ 0)
    (hright : s.permits who (.domainOwner (s.sessDomain n)) = true) (hpower : s.power ≠ .standbyWarm) (hpage : s.poisoned (sessionPage n) = false) :
    ∃ t, exec (.sessionClose who n) s = .next t ∧ t.answered who 0x1101 0 ∧ t.attr Attr.session_sess_state n = 0 ∧ t.sess n = {} ∧
      (∀ m, m ≠ n → t.sess m = s.sess m) ∧ s.sameBut t [.attrs, .net, .tm, .faults, .store, .host, .out] := by
  have hfree : (decide (16383 < n) || s.attr Attr.session_sess_state n == 0) = false := by
    rw [decide_eq_false (Nat.not_lt.mpr hn), beq_eq_false_iff_ne.mpr hused]
    rfl
  have hexec : exec (.sessionClose who n) s = .next ((s.closeSession n).finish who 0x1101 0 n) := by
    change execSessionClose who n s = _
    unfold execSessionClose
    dsimp only
    rw [hfree]
    refine congrArg Host.Outcome.next ((State.act_ok _ hs.1 rfl hright ?_).trans ?_)
    · simp [hpower, decide_eq_false (Nat.not_lt.mpr hn)]
    · rw [hpage, if_neg Bool.false_ne_true]
  have hfinish : Writes [] (s.closeSession n) ((s.closeSession n).finish who 0x1101 0 n) := Writes.refl.finish
  have hwrites : Writes (cacheIds ++ sessionIds) s (s.closeSession n) := Writes.closeSession .refl (List.Subset.refl _)
  refine ⟨_, hexec, hwrites.answered hs, hfinish.attr.trans (State.freeSession_state (by omega)), ?_, fun m hm => ?_, ?_⟩
  · exact (State.sess_of_net (State.finish_net ..)).trans (State.sess_setSess ..)
  · exact (State.sess_of_net (State.finish_net ..)).trans (State.closeSession_sess_ne hm)
  · exact State.sameBut_mono (Evolves.finish (P := raiseParts) (Evolves.closeSession .refl)).same (by decide)

/-! ### Grants as grantor (R278, R280) -/

theorem State.received_ok {slot : Nat} {head : PtpHead} {f : State → State} (hready : s.portReady p = true) (hused : s.bindUsed p slot = true)
    (hauth : s.authPasses p slot head = true) : s.received p slot head f = f s := by
  rw [State.received, hready, hused, if_neg (by decide), if_pos hauth]

/-- What a grant request asks may be granted to a session (R280, R383). -/
def State.grantable (s : State) (p slot n g : Nat) (log : Int) : Prop :=
  bindMode (s.binding p slot) = 1 ∧ bindRole (s.binding p slot) ≤ 1 ∧ inRange (logRange (bindProfile (s.binding p slot)) g) log = true ∧
    s.budgetFits p (grantCost g log) (if s.granted n g then grantCost g (s.grant n g).log else 0) = true ∧ s.hostAllows n g log = true

theorem exec_grantRequestReceived {p : Fin 4} {slot : Fin 32} {head : PtpHead} {type : GrantType} {log : Int} {duration pick : Nat}
    (hup : s.engines = true) (hready : s.portReady p.val = true) (hused : s.bindUsed p.val slot.val = true)
    (hauth : s.authPasses p.val slot.val head = true) (hpartner : s.partnerSession p.val slot.val head.sender = some n) :
    (s.grantable p.val slot.val n (grantIndex type) log → exec (.grantRequestReceived p slot head type log duration pick) s =
      .next ((s.countReceived n 3 head.seq).giveGrant n (grantIndex type) log duration)) ∧
    (¬ s.grantable p.val slot.val n (grantIndex type) log → exec (.grantRequestReceived p slot head type log duration pick) s =
      .next (s.refuseGrant p.val slot.val head.sender (grantIndex type) log)) := by
  change (_ → execGrantRequestReceived p slot head type log duration pick s = _) ∧ (_ → execGrantRequestReceived p slot head type log duration pick s = _)
  unfold execGrantRequestReceived
  rw [State.when_, if_pos hup, State.received_ok hready hused hauth]
  dsimp only
  rw [hpartner]
  dsimp only
  generalize hok : (bindMode (s.binding p.val slot.val) == 1 && decide (bindRole (s.binding p.val slot.val) ≤ 1) &&
    inRange (logRange (bindProfile (s.binding p.val slot.val)) (grantIndex type)) log &&
    s.budgetFits p.val (grantCost (grantIndex type) log)
      (if s.granted n (grantIndex type) = true then grantCost (grantIndex type) (s.grant n (grantIndex type)).log else 0) &&
    s.hostAllows n (grantIndex type) log) = ok
  have hiff : s.grantable p.val slot.val n (grantIndex type) log ↔ ok = true := by
    rw [← hok, State.grantable]
    simp only [Bool.and_eq_true, beq_iff_eq, decide_eq_true_eq, and_assoc]
  rw [hiff]
  cases ok with
  | true => exact ⟨fun _ => rfl, fun h => absurd rfl h⟩
  | false => exact ⟨fun h => absurd h (by decide), fun _ => rfl⟩

theorem State.countReceived_counter {kind seq : Nat} : (s.countReceived n kind seq).counter = s.counter :=
  (Evolves.countReceived (P := [.attrs, .tm, .store, .net]) .refl).same .counter (by decide)

theorem State.giveGrant_facts {log : Int} {duration : Nat} (hn : n < 16384) (hg : g < 65536) :
    (s.giveGrant n g log duration).grant n g = { expires := some (s.counter + max 10 (min 1000 duration) * ticksPerSecond), log := log } ∧
      (s.giveGrant n g log duration).attr Attr.session_grant_log n g = log := by
  unfold State.giveGrant
  dsimp only
  refine ⟨?_, ?_⟩
  · rw [State.grant_of_sess (State.sess_of_sessions State.sessionFrame_sessions n)]
    exact (State.grant_of_sess (State.sess_of_net (State.put_net ..)) g).trans State.setGrant_grant
  · rw [(Writes.sessionFrame (ids := cacheIds) .refl (List.Subset.refl _)).attr, State.attr_put_same]

/-- An occurrence that drops frames leaves the sessions as they are. -/
theorem State.raise_sessions {ev d : Nat} {c : Bool} {x : List ScopeItem} : (s.raise ev c d x).net.sessions = s.net.sessions := by
  have hdrop : ∀ (l : List Issuer) (u : State), (u.dropSends l).net = u.net := by
    intro l
    induction l with
    | nil => exact fun _ => rfl
    | cons w ws ih => exact fun u => (ih _).trans ((State.complete_net ..).trans (State.audit_net ..))
  have hfail : ∀ (l : List Issuer) (u : State), (u.failSends l).net = u.net := by
    intro l
    induction l with
    | nil => exact fun _ => rfl
    | cons w ws ih => exact fun u => (ih _).trans (State.finish_net ..)
  have htell : ∀ (l : List TxFrame) (u : State), (l.foldl (fun (x : State) f => x.tellDesc f .dropped) u).net = u.net := fun l u =>
    (Evolves.foldl (P := [.attrs, .faults, .tm, .store]) .refl fun _ _ => Evolves.tellDesc .refl).same .net (by decide)
  have hframes : ∀ (u : State) (q : Nat), (u.dropFrames q).net.sessions = u.net.sessions := by
    intro u q
    unfold State.dropFrames
    dsimp only
    rw [hfail, hdrop, State.add_net, htell]
    rfl
  have hidle : ∀ u t : State, (State.idlePorts t u).net.sessions = u.net.sessions := by
    intro u t
    refine State.forEach_keeps (fun u : State => u.net.sessions) _ (fun u n => ?_) _ _
    split
    · exact hframes u n
    · rfl
  unfold State.raise
  dsimp only
  split
  · rw [hidle, State.countSafe_net, State.occur_net]
  · rw [State.occur_net]

theorem State.refuseGrant_facts {w : Partner} {log : Int} (hp : p < 4) : (s.refuseGrant p k w g log).net.sessions = s.net.sessions ∧
    (s.refuseGrant p k w g log).attr Attr.port_grant_refusals p =
      (s.attr Attr.port_grant_refusals p + 1) % (256 ^ Attr.port_grant_refusals.bytes : Nat) := by
  have hraise : ∀ v : State, (v.raiseOnce (Ev.port p 4)).net.sessions = v.net.sessions := by
    intro v
    unfold State.raiseOnce
    split
    · exact State.raise_sessions
    · rfl
  have hqueue : Writes [] (s.bump Attr.port_grant_refusals p) (s.refuseGrant p k w g log) := by
    unfold State.refuseGrant
    dsimp only
    exact Writes.queueFrame (Writes.nextSeq (Writes.raiseOnce .refl))
  refine ⟨?_, hqueue.attr.trans (State.attr_bump_same s)⟩
  unfold State.refuseGrant
  dsimp only
  rw [State.queueFrame_sessions]
  exact (hraise _).trans (congrArg (·.sessions) (State.bump_net ..))

theorem grantRequestReceived_facts {p : Fin 4} {slot : Fin 32} {head : PtpHead} {type : GrantType} {log : Int} {duration pick : Nat}
    (hup : s.engines = true) (hready : s.portReady p.val = true) (hused : s.bindUsed p.val slot.val = true)
    (hauth : s.authPasses p.val slot.val head = true) (hpartner : s.partnerSession p.val slot.val head.sender = some n) (hn : n < 16384) :
    ∃ t, exec (.grantRequestReceived p slot head type log duration pick) s = .next t ∧
      (if bindMode (s.binding p.val slot.val) = 1 ∧ bindRole (s.binding p.val slot.val) ≤ 1 ∧
          inRange (logRange (bindProfile (s.binding p.val slot.val)) (grantIndex type)) log = true ∧
          s.budgetFits p.val (grantCost (grantIndex type) log)
            (if s.granted n (grantIndex type) then grantCost (grantIndex type) (s.grant n (grantIndex type)).log else 0) = true ∧
          s.hostAllows n (grantIndex type) log = true then
        t.grant n (grantIndex type) = { expires := some (s.counter + max 10 (min 1000 duration) * ticksPerSecond), log := log } ∧
          t.attr Attr.session_grant_log n (grantIndex type) = log
       else t.net.sessions = s.net.sessions ∧
        t.attr Attr.port_grant_refusals p.val =
          (s.attr Attr.port_grant_refusals p.val + 1) % (256 ^ Attr.port_grant_refusals.bytes : Nat)) ∧ t.counter = s.counter := by
  obtain ⟨hgive, hrefuse⟩ := exec_grantRequestReceived (type := type) (log := log) (duration := duration) (pick := pick) hup hready hused hauth hpartner
  by_cases hok : s.grantable p.val slot.val n (grantIndex type) log
  · refine ⟨_, hgive hok, ?_⟩
    unfold State.grantable at hok
    rw [if_pos hok]
    have hg : grantIndex type < 65536 := by cases type <;> decide
    obtain ⟨hgrant, hlog⟩ := State.giveGrant_facts (s := s.countReceived n 3 head.seq) (log := log) (duration := duration) hn hg
    rw [State.countReceived_counter] at hgrant
    exact ⟨⟨hgrant, hlog⟩, ((Evolves.giveGrant (P := [.attrs, .faults, .tm, .store, .net]) .refl).same .counter (by decide)).trans State.countReceived_counter⟩
  · refine ⟨_, hrefuse hok, ?_⟩
    unfold State.grantable at hok
    rw [if_neg hok]
    exact ⟨State.refuseGrant_facts p.isLt, (Evolves.refuseGrant (P := raiseParts) .refl).same .counter (by decide)⟩

/-! ### Grants as grantee (R281, R282, R286) -/

theorem grantIndex_lt (type : GrantType) : grantIndex type < 3 := by cases type <;> decide

theorem State.sameBut_put_volatile {a : AttrDesc} {i e : Nat} {v : Int} (h : a.surv ≠ .stored := by decide) : s.sameBut (s.put a i e v) [.attrs] :=
  State.sameBut_without (P := [.attrs, .store]) (Q := [.attrs]) (p := .store) (Evolves.put (P := [.attrs, .store]) .refl).same (State.put_store_of_volatile h)

theorem State.setGrant_sameBut {r : GrantRec} : s.sameBut (s.setGrant n g r) [.attrs, .net] :=
  State.sameBut_trans (P := [.attrs, .net]) (State.sameBut_mono (Evolves.setSess (P := [.net]) .refl).same (by decide))
    (State.sameBut_mono (State.sameBut_put_volatile (e := 0)) (by decide))

/-- A message received for a session that grants: the grant is in force (R281). -/
def State.grantTaken (s : State) (n g : Nat) (log : Int) (duration : Nat) : State :=
  let v := if s.timedOut n then s.bump Attr.session_late_completions n else s
  ((v.setGrant n g { expires := some (v.counter + duration * ticksPerSecond), log := log }).put Attr.session_grant_log n g log).judgeGrantee n

theorem State.judgeGrantee_writes (hn : n < 16384) : Writes [Attr.session_sess_state.id] s (s.judgeGrantee n) := .ite Writes.refl.put1 .refl

theorem State.judgeGrantee_net : (s.judgeGrantee n).net = s.net := by
  unfold State.judgeGrantee
  split
  · exact State.put1_net ..
  · rfl

theorem State.grantTaken_facts {log : Int} {duration : Nat} (hn : n < 16384) (hg : g < 3) :
    (s.grantTaken n g log duration).grant n g = { expires := some (s.counter + duration * ticksPerSecond), log := log } ∧
      (s.grantTaken n g log duration).attr Attr.session_grant_log n g = log ∧
      (s.grantTaken n g log duration).attr Attr.session_rx_msgs n = s.attr Attr.session_rx_msgs n ∧
      s.sameBut (s.grantTaken n g log duration) [.attrs, .net] := by
  unfold State.grantTaken
  dsimp only
  generalize hv : (if s.timedOut n then s.bump Attr.session_late_completions n else s) = v
  have hlate : Writes [Attr.session_late_completions.id] s v := hv ▸ .ite Writes.refl.bump .refl
  have hsame : s.sameBut v [.attrs] := by
    subst hv
    split
    · exact State.sameBut_put_volatile (e := 0)
    · exact fun p _ => s.same_refl p
  have hcounter : v.counter = s.counter := hsame .counter (by decide)
  generalize hr : ({ expires := some (v.counter + duration * ticksPerSecond), log := log } : GrantRec) = r
  have hkept : Writes ([Attr.session_sess_state.id, Attr.session_grant_log.id] ++ grantIds) v
      (((v.setGrant n g r).put Attr.session_grant_log n g log).judgeGrantee n) :=
    Writes.andThen (Writes.put ((State.setGrant_writes hn).mono (by decide))) (State.judgeGrantee_writes hn)
  refine ⟨?_, ?_, hkept.attr.trans hlate.attr, ?_⟩
  · rw [State.grant_of_sess (State.sess_of_net State.judgeGrantee_net), State.grant_of_sess (State.sess_of_net (State.put_net ..)), State.setGrant_grant, ← hr, hcounter]
  · rw [(State.judgeGrantee_writes hn).attr, State.attr_put_same]
  · have hput : (v.setGrant n g r).sameBut ((v.setGrant n g r).put Attr.session_grant_log n g log) [.attrs] := State.sameBut_put_volatile
    have hjudge : ((v.setGrant n g r).put Attr.session_grant_log n g log).sameBut
        (((v.setGrant n g r).put Attr.session_grant_log n g log).judgeGrantee n) [.attrs] := by
      unfold State.judgeGrantee
      split
      · exact State.sameBut_put_volatile (e := 0)
      · exact fun p _ => State.same_refl _ p
    have hset : v.sameBut (v.setGrant n g r) [.attrs, .net] := State.setGrant_sameBut
    exact State.sameBut_trans (State.sameBut_mono hsame (by decide)) (State.sameBut_trans hset (State.sameBut_mono (State.sameBut_trans hput hjudge) (by decide)))

theorem grantReceived_facts {n : Fin 16384} {type : GrantType} {log : Int} {duration : Nat} (hup : s.engines = true)
    (hused : s.attr Attr.session_sess_state n.val ≠ 0) (hrole : s.grantee n.val = true) (hready : s.portReady (s.sessPort n.val) = true) :
    ∃ t, exec (.grantReceived n type log duration) s = .next t ∧
      t.attr Attr.session_rx_msgs n.val = (s.attr Attr.session_rx_msgs n.val + 1) % (256 ^ Attr.session_rx_msgs.bytes : Nat) ∧
      (if duration = 0 then t.net = s.net
       else t.grant n.val (grantIndex type) = { expires := some (s.counter + duration * ticksPerSecond), log := log } ∧
        t.attr Attr.session_grant_log n.val (grantIndex type) = log) ∧ s.sameBut t [.attrs, .net] := by
  let u := s.bump Attr.session_rx_msgs n.val
  have hexec : exec (.grantReceived n type log duration) s = .next (if duration = 0 then u.bump Attr.session_refusals_rx n.val
      else u.grantTaken n.val (grantIndex type) log duration) :=
    congrArg Host.Outcome.next (if_pos (by simp [hup, hused, hrole, hready]))
  have hcounted : u.attr Attr.session_rx_msgs n.val = (s.attr Attr.session_rx_msgs n.val + 1) % (256 ^ Attr.session_rx_msgs.bytes : Nat) :=
    State.attr_bump_same s
  have hu : s.sameBut u [.attrs] := State.sameBut_put_volatile (e := 0)
  refine ⟨_, hexec, ?_⟩
  by_cases h0 : duration = 0
  · rw [if_pos h0, if_pos h0]
    refine ⟨(State.attr_bump_ne u).trans hcounted, (State.bump_net ..).trans (State.bump_net ..), ?_⟩
    exact State.sameBut_trans (State.sameBut_mono hu (by decide)) (State.sameBut_mono (State.sameBut_put_volatile (e := 0)) (by decide))
  · rw [if_neg h0, if_neg h0]
    obtain ⟨hgrant, hlog, hrx, hsame⟩ := State.grantTaken_facts (s := u) (log := log) (duration := duration) n.isLt (grantIndex_lt type)
    have hcounter : u.counter = s.counter := State.bump_counter ..
    rw [hcounter] at hgrant
    exact ⟨hrx.trans hcounted, ⟨hgrant, hlog⟩, State.sameBut_trans (State.sameBut_mono hu (by decide)) hsame⟩

/-! ### The end of a grant (R281, R282, R383) -/

theorem State.endGrant_granted : (s.endGrant n g).granted n g = false := by
  unfold State.endGrant
  dsimp only
  have hset : ((s.setGrant n g { s.grant n g with expires := none }).grant n g).expires = none := by rw [State.setGrant_grant]
  split
  · split
    · rw [State.granted, hset]; rfl
    · rw [State.granted, State.askGrant_grant]
      have hput : ((s.setGrant n g { s.grant n g with expires := none }).put1 Attr.session_sess_state n SessState.requesting.code).grant n g =
          (s.setGrant n g { s.grant n g with expires := none }).grant n g := State.grant_of_sess State.put1_sess g
      rw [hput, hset]
      rfl
  · split
    · rw [State.granted, hset]; rfl
    · rw [State.granted, State.grant, State.freeSession, State.sess_setSess]
      rfl

theorem State.endGrant_counter : (s.endGrant n g).counter = s.counter :=
  (Evolves.endGrant (P := [.attrs, .faults, .tm, .store, .net]) .refl).same .counter (by decide)

theorem exec_cancelReceived {n : Fin 16384} {type : GrantType} (hup : s.engines = true) (hgranted : s.granted n.val (grantIndex type) = true)
    (hready : s.portReady (s.sessPort n.val) = true) : exec (.cancelReceived n type) s =
      .next (((s.bump Attr.session_rx_msgs n.val).sessionFrame n.val .ackCancel (grantIndex type) 0 none).endGrant n.val (grantIndex type)) :=
  congrArg Host.Outcome.next (if_pos (by rw [hup, hready, hgranted]; rfl))

theorem grantExpiry_facts {n : Fin 16384} {type : GrantType} (hup : s.engines = true) (hgranted : s.granted n.val (grantIndex type) = true) :
    ∃ t e, exec (.grantExpiry n type) s = .next t ∧ (s.grant n.val (grantIndex type)).expires = some e ∧
      t.granted n.val (grantIndex type) = false ∧ t.counter = max s.counter e := by
  obtain ⟨e, he⟩ := Option.isSome_iff_exists.mp hgranted
  have hexec : exec (.grantExpiry n type) s = .next ((s.advance e).endGrant n.val (grantIndex type)) := by
    change execGrantExpiry n type s = _
    unfold execGrantExpiry
    rw [he]
    dsimp only
    rw [State.when_, if_pos hup]
  exact ⟨_, e, hexec, he, State.endGrant_granted, State.endGrant_counter⟩

/-! ### Requests, backoff and renewals (R281, R282) -/

theorem State.askGrant_state {c : Int} (hn : n < 16384) : ((s.put1 Attr.session_sess_state n c).askGrant n g).attr Attr.session_sess_state n = c :=
  ((State.askGrant_writes hn).attr).trans (State.attr_put1_same ..)

theorem State.asked_grant {c : Int} : ((s.put1 Attr.session_sess_state n c).askGrant n g).grant n g =
    { s.grant n g with asking := true, backoff := false, tries := 0, since := s.counter } := by
  rw [State.askGrant_grant, State.grant_of_sess State.put1_sess, State.put1_counter]

theorem backoffEnd_facts {n : Fin 16384} {type : GrantType} (hup : s.engines = true) (hback : (s.grant n.val (grantIndex type)).backoff = true) :
    ∃ t, exec (.backoffEnd n type) s = .next t ∧ (t.grant n.val (grantIndex type)).asking = true ∧
      (t.grant n.val (grantIndex type)).backoff = false ∧ t.attr Attr.session_sess_state n.val = SessState.requesting.code ∧
      t.counter = max s.counter ((s.grant n.val (grantIndex type)).since + 10 * ticksPerSecond) := by
  have hexec : exec (.backoffEnd n type) s = .next (((s.advance ((s.grant n.val (grantIndex type)).since + 10 * ticksPerSecond)).put1
      Attr.session_sess_state n.val SessState.requesting.code).askGrant n.val (grantIndex type)) :=
    congrArg Host.Outcome.next (if_pos (by rw [hup, hback]; rfl))
  exact ⟨_, hexec, by rw [State.asked_grant], by rw [State.asked_grant], State.askGrant_state n.isLt,
    State.askGrant_counter.trans (State.put1_counter ..)⟩

theorem grantRenew_facts {n : Fin 16384} {type : GrantType} (hup : s.engines = true) (hrole : s.grantee n.val = true)
    (hgranted : s.granted n.val (grantIndex type) = true) (hquiet : (s.grant n.val (grantIndex type)).asking = false) (hdrain : s.drain n.val = false) :
    ∃ t, exec (.grantRenew n type) s = .next t ∧ (t.grant n.val (grantIndex type)).asking = true ∧
      t.granted n.val (grantIndex type) = true ∧ t.attr Attr.session_sess_state n.val = SessState.renewing.code ∧
      ∀ e, (s.grant n.val (grantIndex type)).expires = some e → t.counter =
        max s.counter (e - bindRenewLead (s.binding (s.sessPort n.val) (s.sessSlot n.val)) * (ticksPerSecond / 10)) := by
  let v := s.advance (((s.grant n.val (grantIndex type)).expires.getD 0) -
    bindRenewLead (s.binding (s.sessPort n.val) (s.sessSlot n.val)) * (ticksPerSecond / 10))
  have hexec : exec (.grantRenew n type) s = .next ((v.put1 Attr.session_sess_state n.val SessState.renewing.code).askGrant n.val (grantIndex type)) :=
    congrArg Host.Outcome.next (if_pos (by rw [hup, hrole, hgranted, hquiet, hdrain]; rfl))
  refine ⟨_, hexec, by rw [State.asked_grant], ?_, State.askGrant_state n.isLt, fun e he => ?_⟩
  · rw [State.granted, State.asked_grant]
    exact hgranted
  · refine State.askGrant_counter.trans ((State.put1_counter ..).trans ?_)
    change max s.counter _ = _
    rw [he, Option.getD_some]

theorem grantRetryTimeout_facts {n : Fin 16384} {type : GrantType} (hup : s.engines = true) (hasking : (s.grant n.val (grantIndex type)).asking = true) :
    ∃ t, exec (.grantRetryTimeout n type) s = .next t ∧
      (if (s.grant n.val (grantIndex type)).tries < bindRetries (s.binding (s.sessPort n.val) (s.sessSlot n.val)) then
        (t.grant n.val (grantIndex type)).tries = (s.grant n.val (grantIndex type)).tries + 1 ∧
          (t.grant n.val (grantIndex type)).asking = true
       else (t.grant n.val (grantIndex type)).asking = false ∧ (t.grant n.val (grantIndex type)).backoff = true ∧
        t.attr Attr.session_sess_state n.val = SessState.backoff.code) ∧
      t.counter = max s.counter ((s.grant n.val (grantIndex type)).since + ticksPerSecond) := by
  let v := s.advance ((s.grant n.val (grantIndex type)).since + ticksPerSecond)
  let e := s.binding (s.sessPort n.val) (s.sessSlot n.val)
  let again := v.setGrant n.val (grantIndex type) { s.grant n.val (grantIndex type) with tries := (s.grant n.val (grantIndex type)).tries + 1, since := v.counter }
  let waits := v.setGrant n.val (grantIndex type)
    { s.grant n.val (grantIndex type) with asking := false, backoff := true, tries := 0, since := v.counter }
  have hexec : exec (.grantRetryTimeout n type) s = .next (if (s.grant n.val (grantIndex type)).tries < bindRetries e then
      (again.bump Attr.session_retries n.val).sessionFrame n.val .grantRequest (grantIndex type) (logOf e (grantIndex type)) (some (bindDuration e))
      else (waits.bump Attr.session_grants_exhausted n.val).put1 Attr.session_sess_state n.val SessState.backoff.code) :=
    congrArg Host.Outcome.next (if_pos (by rw [hup, hasking]; rfl))
  refine ⟨_, hexec, ?_⟩
  by_cases htry : (s.grant n.val (grantIndex type)).tries < bindRetries (s.binding (s.sessPort n.val) (s.sessSlot n.val))
  · rw [if_pos htry, if_pos htry]
    have hgrant : ((again.bump Attr.session_retries n.val).sessionFrame n.val .grantRequest (grantIndex type) (logOf e (grantIndex type))
        (some (bindDuration e))).grant n.val (grantIndex type) =
        { s.grant n.val (grantIndex type) with tries := (s.grant n.val (grantIndex type)).tries + 1, since := v.counter } := by
      rw [State.grant_of_sess (State.sess_of_sessions State.sessionFrame_sessions n.val), State.grant_of_sess (State.sess_of_net (State.bump_net ..)),
        State.setGrant_grant]
    refine ⟨⟨by rw [hgrant], by rw [hgrant]; exact hasking⟩, ?_⟩
    exact (Evolves.sessionFrame (P := [.attrs, .faults, .tm, .store, .net]) (Evolves.bump (Evolves.refl.setGrant))).same .counter (by decide)
  · rw [if_neg htry, if_neg htry]
    have hgrant : ((waits.bump Attr.session_grants_exhausted n.val).put1 Attr.session_sess_state n.val SessState.backoff.code).grant n.val (grantIndex type) =
        { s.grant n.val (grantIndex type) with asking := false, backoff := true, tries := 0, since := v.counter } := by
      rw [State.grant_of_sess State.put1_sess, State.grant_of_sess (State.sess_of_net (State.bump_net ..)), State.setGrant_grant]
    refine ⟨⟨by rw [hgrant], by rw [hgrant], State.attr_put1_same ..⟩, ?_⟩
    exact (Evolves.put1 (P := [.attrs, .store, .net]) (Evolves.bump (Evolves.refl.setGrant))).same .counter (by decide)

/-- Settles O42, row by row: what the records of grants become, and that a session's frames leave them. -/
theorem sessionsAndGrants : Obligations.SessionsAndGrants :=
  ⟨fun _ _ _ _ _ _ _ _ hs hport hslot htype hright hpower hused hmode hfew hroom hfree hpage =>
     sessionOpen_facts hs hport hslot htype hright hpower hused hmode hfew hroom hfree hpage,
   fun _ _ _ hs hn hused hright hpower hpage => sessionClose_facts hs hn hused hright hpower hpage,
   fun _ _ _ _ _ _ _ _ _ hup hready hused hauth hpartner hn => grantRequestReceived_facts hup hready hused hauth hpartner hn,
   fun _ _ _ _ _ hup hused hrole hready => grantReceived_facts hup hused hrole hready,
   fun _ _ _ hup hgranted => ⟨fun hready => ⟨_, exec_cancelReceived hup hgranted hready, State.endGrant_granted,
     (Evolves.endGrant (P := [.attrs, .faults, .tm, .store, .net]) (.sessionFrame (.bump .refl))).same .counter (by decide)⟩,
     grantExpiry_facts hup hgranted⟩,
   fun _ _ _ hup hasking => grantRetryTimeout_facts hup hasking,
   fun _ _ _ hup hback => backoffEnd_facts hup hback,
   fun _ _ _ hup hrole hgranted hquiet hdrain => grantRenew_facts hup hrole hgranted hquiet hdrain⟩

end Sys2Proof.Machine
end

section
/-! The PORT actions: binding slots, key slots and host queues (R264, R269, R272, R273, R287). -/

set_option Elab.async false

namespace Sys2Proof.Machine

variable {s t u : State} {n m p slot k : Nat} {who : Issuer}

/-! ### Binding slots (R272, R273) -/

theorem State.bindRec_of_net (h : t.net = s.net) : t.bindRec p k = s.bindRec p k := by
  rw [State.bindRec, State.port, h, State.bindRec, State.port]

theorem State.bindRec_setBindRec {r : BindRec} : (s.setBindRec p k r).bindRec p k = r := by
  rw [State.bindRec, State.setBindRec, State.port_setPort]
  exact tblGet_set_same ..

theorem Writes.setBindRec {ids : List Nat} (h : Writes ids s t) {r : BindRec} : Writes ids s (t.setBindRec p k r) := h.setPort

/-- A binding slot with an entry and its portState. -/
def State.bound (s : State) (p k : Nat) (e : Int) (r : BindRec) (st : Int) : State :=
  ((s.put Attr.port_bindings p k e).setBindRec p k r).put Attr.port_binding_state p k st

theorem State.bound_facts {e : Nat} {r : BindRec} {st : Nat} (hp : p < 4) (hk : k < 32) :
    (s.bound p k e r st).binding p k = e ∧ (s.bound p k e r st).portState p k = st ∧ (s.bound p k e r st).bindRec p k = r := by
  have hset : ((s.put Attr.port_bindings p k e).setBindRec p k r).attr Attr.port_bindings p k = e := State.attr_put_same ..
  refine ⟨?_, ?_, ?_⟩
  · rw [State.binding, State.attrN, State.bound, State.attr_put_ne _, hset, Int.toNat_natCast]
  · rw [State.portState, State.attrN, State.bound, State.attr_put_same, Int.toNat_natCast]
  · exact (State.bindRec_of_net (State.put_net ..)).trans State.bindRec_setBindRec

theorem State.bound_attrsKept {e st : Int} {r : BindRec} :
    s.attrsKept (s.bound p k e r st) [Attr.port_bindings.key p k, Attr.port_binding_state.key p k] :=
  State.attrsKept.put (State.attrsKept.of_eq (State.attrsKept.put (a := Attr.port_bindings) (i := p) (e := k) (v := e) (State.attrsKept_refl (s := s)) (by simp))) (by simp)

/-- The ids of the attributes that a binding slot writes. -/
def bindIds : List Nat := [Attr.port_bindings.id, Attr.port_binding_state.id]

theorem State.bound_writes {e st : Int} {r : BindRec} (hp : p < 4) (hk : k < 32) : Writes bindIds s (s.bound p k e r st) :=
  Writes.put (Writes.setBindRec (Writes.put .refl))

theorem portBind_facts {e : Nat} (hs : s.serves who) (hc : issuerClient who = 0) (hp : p ≤ 3) (hslot : slot ≤ 31) (hentry : entryOk e = true)
    (htransport : s.transportOk p (bindTransport e) = true) (hpower : s.power ≠ .standbyWarm) (hcreated : s.created (bindDomain e) = true)
    (hslave : bindRole e = 2 → s.boundDpll (bindDomain e) = none) (htransparent : bindRole e = 3 → (s.paired p).isSome = true)
    (hfree : s.bindUsed p slot = false) (hother : ∀ k, k < 32 → s.bindUsed p k = true →
        ¬ (bindNumber (s.binding p k) = bindNumber e ∧ bindTransport (s.binding p k) = bindTransport e)) :
    ∃ t, exec (.portBind who p slot e) s = .next t ∧ t.answered who 0x0800 0 ∧ t.binding p slot = storedEntry e % 2 ^ 224 ∧
      t.portState p slot = 4 ∧ t.bindRec p slot = { since := s.counter } ∧
      s.framed t [.net] [Attr.port_bindings.key p slot, Attr.port_binding_state.key p slot] := by
  let u := s.bound p slot (storedEntry e % 2 ^ 224 : Nat) { since := s.counter } 4
  have hrole : (bindRole e == 2 && (s.boundDpll (bindDomain e)).isSome) = false ∧ (bindRole e == 3 && (s.paired p).isNone) = false := by
    refine ⟨?_, ?_⟩
    · by_cases h : bindRole e = 2
      · rw [hslave h, Option.isSome_none, Bool.and_false]
      · rw [beq_eq_false_iff_ne.mpr h, Bool.false_and]
    · by_cases h : bindRole e = 3
      · rw [Option.isNone_eq_false_iff.mpr (htransparent h), Bool.and_false]
      · rw [beq_eq_false_iff_ne.mpr h, Bool.false_and]
  have hclash : ((List.range 32).any fun k => s.bindUsed p k && bindNumber (s.binding p k) == bindNumber e &&
      bindTransport (s.binding p k) == bindTransport e) = false := by
    refine List.any_eq_false.mpr fun k hk h => ?_
    simp only [Bool.and_eq_true, beq_iff_eq] at h
    obtain ⟨⟨hused, hnumber⟩, hkind⟩ := h
    exact hother k (List.mem_range.mp hk) hused ⟨hnumber, hkind⟩
  have hexec : exec (.portBind who p slot e) s = .next (u.finish who 0x0800 0 p) := by
    refine congrArg Host.Outcome.next ((State.doAct_ok _ hs.1 rfl (s.permits_owner0 hc) ?_).trans ?_)
    · dsimp only
      rw [decide_eq_false (Nat.not_lt.mpr hp), decide_eq_false (Nat.not_lt.mpr hslot), hentry, htransport, decide_eq_false hpower, hcreated, hrole.1,
        hrole.2, hfree, hclash]
      rfl
    · rfl
  have hwrites : Writes bindIds s u := State.bound_writes (by omega) (by omega)
  have hfinish : Writes [] u (u.finish who 0x0800 0 p) := Writes.refl.finish
  obtain ⟨hbinding, hstate, hrec⟩ := State.bound_facts (s := s) (e := storedEntry e % 2 ^ 224) (r := { since := s.counter }) (st := 4)
    (show p < 4 by omega) (show slot < 32 by omega)
  refine ⟨_, hexec, hwrites.answered hs, ?_, ?_, ?_, ?_⟩
  · rw [State.binding, State.attrN, hfinish.attr]
    exact hbinding
  · rw [State.portState, State.attrN, hfinish.attr]
    exact hstate
  · exact (State.bindRec_of_net (State.finish_net ..)).trans hrec
  · exact State.framed_of_effect (Evolves.put (P := [.net, .attrs, .store]) (Evolves.setPort (Evolves.put .refl))).same State.bound_attrsKept

theorem portUnbind_facts (hs : s.serves who) (hc : issuerClient who = 0) (hp : p ≤ 3) (hslot : slot ≤ 31) (hpower : s.power ≠ .standbyWarm)
    (hused : s.bindUsed p slot = true) :
    ∃ t, exec (.portUnbind who p slot) s = .next t ∧ t.answered who 0x0801 0 ∧
      t.bindRec p slot = { s.bindRec p slot with unbinding := true } ∧ s.framed t [.net] [] := by
  let u := s.setBindRec p slot { s.bindRec p slot with unbinding := true }
  have hexec : exec (.portUnbind who p slot) s = .next (u.finish who 0x0801 0 p) :=
    congrArg Host.Outcome.next (State.doAct_ok _ hs.1 rfl (s.permits_owner0 hc) (by
      simp [decide_eq_false (Nat.not_lt.mpr hp), decide_eq_false (Nat.not_lt.mpr hslot), hpower, hused]))
  have hwrites : Writes [] s u := Writes.setBindRec .refl
  exact ⟨_, hexec, hwrites.answered hs, (State.bindRec_of_net (State.finish_net ..)).trans State.bindRec_setBindRec,
    State.framed_of_effect (Evolves.setPort .refl).same State.attrsKept_refl.of_eq⟩

/-- A session that is closed stays FREE as others are closed. -/
theorem State.closeSession_state_ne (hm : m ≠ n) (hn : n < 16384) :
    (s.closeSession m).attr Attr.session_sess_state n = s.attr Attr.session_sess_state n := by
  have hinst : keyInst (Attr.session_sess_state.key n 0) = n := keyInst_key rfl (by omega) (by decide)
  have hof : keyOf .session m (Attr.session_sess_state.key n 0) = false := by
    rw [keyOf, hinst, beq_eq_false_iff_ne.mpr (Ne.symm hm), Bool.and_false]
  have hframes : Writes cacheIds s (s.forEach ((List.range 3).filter (s.granted m)) fun t g => t.sessionFrame m .cancel g 0 none) :=
    .forEach .refl fun _ _ _ => Writes.sessionFrame .refl (List.Subset.refl _)
  refine Eq.trans ?_ hframes.attr
  unfold State.closeSession
  generalize (s.forEach ((List.range 3).filter (s.granted m)) fun t g => t.sessionFrame m .cancel g 0 none) = v
  change tblGet (tblKeep (fun k => !keyOf .session m k) v.attrs) _ _ = tblGet v.attrs _ _
  rw [tblGet, tblFind_tblKeep (by rw [hof]; rfl), tblGet]

theorem State.closeSession_closed (hn : n < 16384) (h : s.attr Attr.session_sess_state n = 0) :
    (s.closeSession m).attr Attr.session_sess_state n = 0 := by
  by_cases hm : m = n
  · rw [hm]
    exact State.freeSession_state hn
  · rw [State.closeSession_state_ne hm hn, h]

theorem State.closeAll_closed {l : List Nat} (hn : n < 16384) (h : n ∈ l ∨ s.attr Attr.session_sess_state n = 0) :
    (s.forEach l State.closeSession).attr Attr.session_sess_state n = 0 := by
  induction l generalizing s with
  | nil => exact h.resolve_left List.not_mem_nil
  | cons m l ih =>
    refine ih (s := s.closeSession m) ?_
    rcases h with hmem | h0
    · rcases List.mem_cons.mp hmem with rfl | hl
      · exact .inr (State.freeSession_state hn)
      · exact .inl hl
    · exact .inr (State.closeSession_closed hn h0)

theorem portUnbindApply_facts {p : Fin 4} {slot : Fin 32} (hup : s.firmware = true) (hunbinding : (s.bindRec p.val slot.val).unbinding = true) :
    ∃ t, exec (.portUnbindApply p slot) s = .next t ∧ t.binding p.val slot.val = s.binding p.val slot.val - 2 ^ 20 ∧
      t.portState p.val slot.val = 0 ∧ t.bindRec p.val slot.val = {} ∧
      (∀ n ∈ s.sessionsOf p.val slot.val, n < 16384 → t.attr Attr.session_sess_state n = 0) ∧ t.counter = s.counter := by
  let u := s.forEach (s.sessionsOf p.val slot.val) State.closeSession
  have hclosed : Writes (cacheIds ++ sessionIds) s u := .forEach .refl fun _ _ _ => Writes.closeSession .refl (List.Subset.refl _)
  have hbinding : u.binding p.val slot.val = s.binding p.val slot.val := congrArg Int.toNat hclosed.attr
  have hexec : exec (.portUnbindApply p slot) s =
      .next (u.bound p.val slot.val (s.binding p.val slot.val - 2 ^ 20 : Nat) {} (0 : Nat)).enforceLimit := by
    rw [← hbinding]
    exact congrArg Host.Outcome.next (if_pos (by rw [hup, hunbinding]; rfl))
  obtain ⟨hb, hst, hrec⟩ := State.bound_facts (s := u) (e := s.binding p.val slot.val - 2 ^ 20) (r := {}) (st := 0) p.isLt slot.isLt
  have hlimit : Writes [] (u.bound p.val slot.val (s.binding p.val slot.val - 2 ^ 20 : Nat) {} (0 : Nat))
      (u.bound p.val slot.val (s.binding p.val slot.val - 2 ^ 20 : Nat) {} (0 : Nat)).enforceLimit := Writes.refl.enforceLimit
  have hbound := (State.bound_writes (s := u) (e := (s.binding p.val slot.val - 2 ^ 20 : Nat)) (r := {}) (st := (0 : Nat)) p.isLt slot.isLt).trans
    (hlimit.mono (List.nil_subset _))
  refine ⟨_, hexec, ?_, ?_, (State.bindRec_of_net (State.enforceLimit_net _)).trans hrec, fun n hmem hn => ?_, ?_⟩
  · rw [State.binding, State.attrN, hlimit.attr]
    exact hb
  · rw [State.portState, State.attrN, hlimit.attr]
    exact hst
  · exact hbound.attr.trans (State.closeAll_closed hn (.inl hmem))
  · exact (Evolves.enforceLimit (P := [.attrs, .faults, .tm, .store, .net]) (.put (.setPort (.put (.forEach .refl fun _ _ => Evolves.refl.closeSession))))).same
      .counter (by decide)

/-! ### Key slots (R269) -/

/-- The keys of a key slot. -/
def keySlotKeys (k : Nat) : List Nat := [Attr.port_key_slots.key 0 k, Shadow.keyValue.key 0 k]

/-- A key slot with its words. -/
def State.keyed (s : State) (k : Nat) (v w : Int) : State := (s.put Attr.port_key_slots 0 k v).put Shadow.keyValue 0 k w

theorem State.keyed_facts {v w : Int} (hk : k < 256) : (s.keyed k v w).attr Attr.port_key_slots 0 k = v ∧ (s.keyed k v w).attr Shadow.keyValue 0 k = w := by
  refine ⟨?_, State.attr_put_same ..⟩
  rw [State.keyed, State.attr_put_ne _, State.attr_put_same]

theorem key_ne_of_elem {a b : AttrDesc} {e f : Nat} (h : e ≠ f) (he : e < 65536 := by omega) (hf : f < 65536 := by omega) : a.key 0 e ≠ b.key 0 f := by
  unfold AttrDesc.key
  split <;> split <;> omega

theorem State.keyed_facts_ne {v w : Int} (h : m ≠ k) (hk : k < 256) (hm : m < 256) :
    (s.keyed k v w).attr Attr.port_key_slots 0 m = s.attr Attr.port_key_slots 0 m ∧
      (s.keyed k v w).attr Shadow.keyValue 0 m = s.attr Shadow.keyValue 0 m := by
  refine ⟨?_, ?_⟩
  all_goals rw [State.keyed, State.attr_put_other _ _ (key_ne_of_elem h), State.attr_put_other _ _ (key_ne_of_elem h)]

theorem State.keyed_attrsKept {v w : Int} {keys : List Nat} (h : s.attrsKept t keys) (hk : keySlotKeys k ⊆ keys) : s.attrsKept (t.keyed k v w) keys :=
  State.attrsKept.put (State.attrsKept.put h (hk (by simp [keySlotKeys]))) (hk (by simp [keySlotKeys]))

/-- The ids of the attributes of key slots. -/
def keySlotIds : List Nat := [Attr.port_key_slots.id, Shadow.keyValue.id]

theorem State.keyed_writes {v w : Int} (hk : k < 256) : Writes keySlotIds s (s.keyed k v w) := Writes.put (Writes.put .refl)

theorem loadKey_facts {spp icvLen keyId key : Nat} (hs : s.serves who) (hc : issuerClient who = 0) (hslot : slot ≤ 255) (hspp : spp ≤ 255)
    (hicv : icvLen = 16 ∨ icvLen = 32) :
    ∃ t, exec (.loadKey who slot spp icvLen keyId key) s = .next t ∧
      if who = .console then t.answered who 0x0802 E_DENIED ∧ s.framed t [] []
      else t.answered who 0x0802 0 ∧
        t.attr Attr.port_key_slots 0 slot =
          ((spp + 256 + (if icvLen = 32 then 512 else 0) + keyId % 2 ^ 32 * 2 ^ 32 : Nat) : Int) ∧
        t.attr Shadow.keyValue 0 slot = ((key % 2 ^ 256 : Nat) : Int) ∧
        s.framed t [] [Attr.port_key_slots.key 0 slot, Shadow.keyValue.key 0 slot] := by
  by_cases hconsole : who = .console
  · have hexec : exec (.loadKey who slot spp icvLen keyId key) s = .next (s.finish who 0x0802 E_DENIED slot) :=
      congrArg Host.Outcome.next (State.act_refused _ hs.1 rfl (s.permits_owner0 hc) (by rw [decide_eq_true hconsole]; rfl))
    refine ⟨_, hexec, ?_⟩
    rw [if_pos hconsole]
    exact ⟨(Writes.refl (ids := [])).answered hs, State.framed_finish_self⟩
  · generalize hv : spp + 256 + (if icvLen = 32 then 512 else 0) + keyId % 2 ^ 32 * 2 ^ 32 = v
    generalize hw : key % 2 ^ 256 = w
    have hexec : exec (.loadKey who slot spp icvLen keyId key) s = .next ((s.keyed slot v w).finish who 0x0802 0 slot) := by
      subst hv hw
      refine congrArg Host.Outcome.next (State.doAct_ok _ hs.1 rfl (s.permits_owner0 hc) ?_)
      dsimp only
      rw [decide_eq_false hconsole, decide_eq_false (Nat.not_lt.mpr hslot), decide_eq_false (Nat.not_lt.mpr hspp)]
      rcases hicv with rfl | rfl <;> rfl
    have hwrites : Writes keySlotIds s (s.keyed slot v w) := State.keyed_writes (by omega)
    have hfinish : Writes [] (s.keyed slot v w) ((s.keyed slot v w).finish who 0x0802 0 slot) := Writes.refl.finish
    obtain ⟨hslots, hvalue⟩ := State.keyed_facts (s := s) (v := v) (w := w) (show slot < 256 by omega)
    refine ⟨_, hexec, ?_⟩
    rw [if_neg hconsole]
    exact ⟨hwrites.answered hs, hfinish.attr.trans hslots, hfinish.attr.trans hvalue,
      State.framed_of_effect (Evolves.put (P := [.attrs, .store]) (Evolves.put .refl)).same (State.keyed_attrsKept State.attrsKept_refl (List.Subset.refl _))⟩

/-- The slots that an ERASE_KEY clears. -/
def erasedSlots (slot : Nat) : List Nat := if slot = 255 then List.range 256 else [slot]

theorem State.eraseSlots_facts {l : List Nat} (hl : ∀ m ∈ l, m < 256) (hk : k < 256) :
    (k ∈ l → (s.forEach l State.eraseSlot).attr Attr.port_key_slots 0 k = 0 ∧ (s.forEach l State.eraseSlot).attr Shadow.keyValue 0 k = 0) ∧
    (k ∉ l → (s.forEach l State.eraseSlot).attr Attr.port_key_slots 0 k = s.attr Attr.port_key_slots 0 k ∧
      (s.forEach l State.eraseSlot).attr Shadow.keyValue 0 k = s.attr Shadow.keyValue 0 k) := by
  induction l generalizing s with
  | nil => exact ⟨fun h => absurd h List.not_mem_nil, fun _ => ⟨rfl, rfl⟩⟩
  | cons m l ih =>
    obtain ⟨hin, hout⟩ := ih (s := s.eraseSlot m) fun x hx => hl x (List.mem_cons_of_mem _ hx)
    have hm := hl m (List.mem_cons_self ..)
    by_cases hkl : k ∈ l
    · exact ⟨fun _ => hin hkl, fun h => absurd (List.mem_cons_of_mem _ hkl) h⟩
    · obtain ⟨hslots, hvalue⟩ := hout hkl
      by_cases he : k = m
      · subst he
        obtain ⟨h0, h1⟩ := State.keyed_facts (s := s) (v := 0) (w := 0) hk
        exact ⟨fun _ => ⟨hslots.trans h0, hvalue.trans h1⟩, fun h => absurd (List.mem_cons_self ..) h⟩
      · obtain ⟨h0, h1⟩ := State.keyed_facts_ne (s := s) (v := 0) (w := 0) he hm hk
        exact ⟨fun h => absurd (List.mem_cons.mp h) (by simp [he, hkl]), fun _ => ⟨hslots.trans h0, hvalue.trans h1⟩⟩

theorem eraseKey_facts (hs : s.serves who) (hc : issuerClient who = 0) (hslot : slot ≤ 255) :
    ∃ t, exec (.eraseKey who slot) s = .next t ∧ t.answered who 0x0803 0 ∧
      (∀ k, k < 256 →
        if slot = 255 ∨ k = slot then t.attr Attr.port_key_slots 0 k = 0 ∧ t.attr Shadow.keyValue 0 k = 0
        else t.attr Attr.port_key_slots 0 k = s.attr Attr.port_key_slots 0 k ∧
          t.attr Shadow.keyValue 0 k = s.attr Shadow.keyValue 0 k) ∧
      s.framed t [] ((List.range 256).flatMap fun k => [Attr.port_key_slots.key 0 k, Shadow.keyValue.key 0 k]) := by
  let u := s.forEach (erasedSlots slot) State.eraseSlot
  have hslots : ∀ m ∈ erasedSlots slot, m < 256 := by
    intro m hm
    unfold erasedSlots at hm
    split at hm
    · exact List.mem_range.mp hm
    · rw [List.mem_singleton.mp hm]
      omega
  have hiff : ∀ k, k < 256 → (slot = 255 ∨ k = slot ↔ k ∈ erasedSlots slot) := by
    intro k hk
    unfold erasedSlots
    split
    case isTrue h => simp [h, hk]
    case isFalse h => simp [h]
  have hexec : exec (.eraseKey who slot) s = .next (u.finish who 0x0803 0 slot) := by
    refine congrArg Host.Outcome.next ((State.doAct_ok _ hs.1 rfl (s.permits_owner0 hc) (by simp [decide_eq_false (Nat.not_lt.mpr hslot)])).trans ?_)
    change (if slot = 255 then s.forEach (List.range 256) State.eraseSlot else s.eraseSlot slot).finish who 0x0803 0 slot = _
    change _ = (s.forEach (if slot = 255 then List.range 256 else [slot]) State.eraseSlot).finish who 0x0803 0 slot
    split <;> rfl
  have hwrites : Writes keySlotIds s u := .forEach .refl fun _ m hm => State.keyed_writes (hslots m hm)
  have hfinish : Writes [] u (u.finish who 0x0803 0 slot) := Writes.refl.finish
  refine ⟨_, hexec, hwrites.answered hs, fun k hk => ?_, ?_⟩
  · obtain ⟨hin, hout⟩ := State.eraseSlots_facts (s := s) (k := k) hslots hk
    rw [hfinish.attr, hfinish.attr]
    by_cases h : slot = 255 ∨ k = slot
    · rw [if_pos h]
      exact hin ((hiff k hk).mp h)
    · rw [if_neg h]
      exact hout fun hk' => h ((hiff k hk).mpr hk')
  · refine State.framed_of_effect (Evolves.forEach (P := [.attrs, .store]) .refl fun _ _ => Evolves.put (Evolves.put .refl)).same ?_
    refine State.attrsKept.forEach State.attrsKept_refl fun v m hm => State.keyed_attrsKept State.attrsKept_refl fun x hx => ?_
    exact List.mem_flatMap.mpr ⟨m, List.mem_range.mpr (hslots m hm), hx⟩

/-! ### Host queues (R264) -/

theorem hostq_facts {queue port client policy : Nat} (hs : s.serves who) (hc : issuerClient who = 0) (hqueue : queue ≤ 63) (hport : port ≤ 3)
    (hclient : client ≤ 511) (hpolicy : policy ≤ 1) (hempty : ∀ p, p < 4 → s.queued p queue = 0 ∧ ∀ f ∈ (s.port p).sends, f.queue ≠ queue) :
    ∃ t, exec (.hostq who queue port client policy) s = .next t ∧ t.answered who 0x0804 0 ∧ t.queueClient queue = some client ∧
      t.queuePort queue = port ∧ t.queueLate queue = policy ∧ s.framed t [] [Attr.port_hostq.key 0 queue] := by
  let v := port + 256 * client + 262144 * policy + 524288
  let u := s.put Attr.port_hostq 0 queue (v : Nat)
  have hidle : ((List.range 4).any fun p => s.queued p queue != 0 || (s.port p).sends.any fun f => f.queue == queue) = false := by
    refine List.any_eq_false.mpr fun p hp h => ?_
    obtain ⟨hq, hsends⟩ := hempty p (List.mem_range.mp hp)
    rw [hq] at h
    obtain ⟨f, hf, he⟩ := List.any_eq_true.mp (show ((s.port p).sends.any fun f => f.queue == queue) = true from h)
    exact hsends f hf (beq_iff_eq.mp he)
  have hexec : exec (.hostq who queue port client policy) s = .next (u.finish who 0x0804 0 queue) := by
    refine congrArg Host.Outcome.next (State.doAct_ok _ hs.1 rfl (s.permits_owner0 hc) ?_)
    dsimp only
    rw [decide_eq_false (Nat.not_lt.mpr hqueue), decide_eq_false (Nat.not_lt.mpr hport), decide_eq_false (Nat.not_lt.mpr hclient),
      decide_eq_false (Nat.not_lt.mpr hpolicy), hidle]
    rfl
  have hwrites : Writes [Attr.port_hostq.id] s u := Writes.put .refl
  have hvalue : (u.finish who 0x0804 0 queue).attrN Attr.port_hostq 0 queue = v := by
    rw [State.attrN, (Writes.finish (ids := []) .refl).attr, State.attr_put_same, Int.toNat_natCast]
  refine ⟨_, hexec, hwrites.answered hs, ?_, ?_, ?_, State.framed_of_effect (Evolves.put (P := [.attrs, .store]) .refl).same
    (State.attrsKept.put State.attrsKept_refl)⟩
  · have hbit : bitOf v 19 = true := by
      unfold bitOf
      simp only [v, beq_iff_eq]
      omega
    have hfield : v / 256 % 1024 = client := by omega
    rw [State.queueClient, hvalue, hbit, hfield]
    rfl
  · rw [State.queuePort, State.queueEntry, hvalue]
    unfold field
    omega
  · rw [State.queueLate, State.queueEntry, hvalue]
    unfold field
    omega

/-- Settles O37, action by action: the words that each slot gets, and the sessions that close with a slot. -/
theorem portActions : Obligations.PortActions :=
  ⟨fun _ _ _ _ _ hs hc hp hslot hentry htransport hpower hcreated hslave htransparent hfree hother =>
     portBind_facts hs hc hp hslot hentry htransport hpower hcreated hslave htransparent hfree hother,
   fun _ _ _ _ hs hc hp hslot hpower hused => portUnbind_facts hs hc hp hslot hpower hused,
   fun _ _ _ hup hunbinding => portUnbindApply_facts hup hunbinding,
   fun _ _ _ _ _ _ _ hs hc hslot hspp hicv => loadKey_facts hs hc hslot hspp hicv,
   fun _ _ _ hs hc hslot => eraseKey_facts hs hc hslot,
   fun _ _ _ _ _ _ hs hc hqueue hport hclient hpolicy hempty => hostq_facts hs hc hqueue hport hclient hpolicy hempty⟩

end Sys2Proof.Machine
end

section
/-! The verdicts of an input's monitors, its qualification and its grade (R97, R98, R103, R106). -/

set_option Elab.async false

namespace Sys2Proof.Machine

variable {s t u : State} {n m k : Nat}

/-! ### The bits of `qual_flags` (R97) -/

/-- The flags after the verdict of one monitor. -/
def verdictFlags (f k : Nat) (fails : Bool) : Nat := if fails then f ||| 2 ^ k else if bitOf f k then f - 2 ^ k else f

theorem bitOf_verdictFlags_same {f : Nat} {fails : Bool} : bitOf (verdictFlags f k fails) k = fails := by
  unfold verdictFlags
  cases fails
  · by_cases hbit : bitOf f k = true
    · have hodd : f / 2 ^ k % 2 = 1 := by simpa [bitOf] using hbit
      have hdiv : (f - 2 ^ k) / 2 ^ k = f / 2 ^ k - 1 := by simpa using Nat.sub_mul_div f (2 ^ k) 1
      rw [if_neg Bool.false_ne_true, if_pos hbit, bitOf, hdiv, beq_eq_false_iff_ne]
      omega
    · rw [if_neg Bool.false_ne_true, if_neg hbit]
      exact Bool.not_eq_true _ ▸ hbit
  · simp [bitOf_or_two_pow]

/-- A verdict leaves the bits of the monitors below its own as they were. -/
theorem bitOf_verdictFlags_lt {f j : Nat} {fails : Bool} (h : j < k) : bitOf (verdictFlags f k fails) j = bitOf f j := by
  unfold verdictFlags
  cases fails
  · by_cases hbit : bitOf f k = true
    · have hodd : f / 2 ^ k % 2 = 1 := by simpa [bitOf] using hbit
      have hle : 2 ^ k ≤ f := Nat.le_of_not_lt fun hlt => by simp [Nat.div_eq_of_lt hlt] at hodd
      have hpow : 2 ^ k = 2 ^ j * (2 * 2 ^ (k - j - 1)) := by rw [← Nat.pow_succ', ← Nat.pow_add]; congr 1; omega
      have hdiv : (f - 2 ^ k) / 2 ^ j = f / 2 ^ j - 2 * 2 ^ (k - j - 1) := by rw [hpow]; exact Nat.sub_mul_div_of_le _ _ _ (hpow ▸ hle)
      have hle' : 2 * 2 ^ (k - j - 1) ≤ f / 2 ^ j := (Nat.le_div_iff_mul_le (Nat.two_pow_pos j)).mpr (by rw [Nat.mul_comm, ← hpow]; exact hle)
      have hparity : (f / 2 ^ j - 2 * 2 ^ (k - j - 1)) % 2 = f / 2 ^ j % 2 := by omega
      rw [if_neg Bool.false_ne_true, if_pos hbit, bitOf, bitOf, hdiv, hparity]
    · simp [hbit]
  · have hne : k ≠ j := by omega
    simp [bitOf_or_two_pow, hne]

/-! ### What the external member writes as it leaves (R51) -/

/-- The ids of the attributes that the external member writes. -/
def memberIds : List Nat := [Attr.osc_state.id, Attr.osc_weight.id, Attr.lead_osc.id]

theorem State.settleWeights_writes : Writes memberIds s s.settleWeights := Writes.put1 (Writes.putList .refl)
theorem State.reweigh_writes : Writes memberIds s s.reweigh :=
  .ite State.settleWeights_writes (Writes.trans (.of_eq .refl) State.settleWeights_writes)
theorem State.afterLeaving_writes : Writes memberIds s s.afterLeaving :=
  .ite (Writes.trans (Writes.putList .refl) State.settleWeights_writes) State.reweigh_writes
theorem State.judgeSingle_writes : Writes [] s s.judgeSingle := .ite (.raise .refl) .refl

/-- The ensemble with the external member absent, before its weights are formed anew. -/
def State.extAbsent (s : State) : State :=
  let t := s.setOsc 3 .absent
  { t with crucible := { t.crucible with ramps := tblDrop t.crucible.ramps 3, cause := tblDrop t.crucible.cause 3 } }

/-- The ensemble with its weights formed anew after the external member has left. -/
def State.extGone (s : State) : State := (if s.ensemble.contains 3 then s.extAbsent.afterLeaving else s.extAbsent).uncause 323

/-- The ensemble with the event that the external member has left. -/
def State.extTold (s : State) (event : Bool) : State := if event then s.extGone.raise 334 false 3 else s.extGone

theorem State.extLeave_eq {event : Bool} : s.extLeave event = if s.osc 3 = .absent then s
    else if s.ensemble.contains 3 then (s.extTold event).judgeSingle else s.extTold event := rfl

theorem State.extAbsent_writes : Writes memberIds s s.extAbsent :=
  have hput : Writes memberIds s (s.setOsc 3 .absent) := Writes.put .refl
  hput.of_eq

theorem State.extGone_writes : Writes memberIds s s.extGone :=
  .uncause (.ite (State.extAbsent_writes.trans State.afterLeaving_writes) State.extAbsent_writes)

theorem State.extTold_writes {event : Bool} : Writes memberIds s (s.extTold event) :=
  .ite (State.extGone_writes.raise) State.extGone_writes

theorem State.extLeave_writes {event : Bool} : Writes memberIds s (s.extLeave event) :=
  State.extLeave_eq ▸ .ite .refl (.ite (State.extTold_writes.andThen State.judgeSingle_writes) State.extTold_writes)

theorem State.extAbsent_faults : s.extAbsent.faults = s.faults := State.put_faults ..

theorem State.afterLeaving_faults : s.afterLeaving.faults = s.faults :=
  (Evolves.afterLeaving (P := [.attrs, .store, .crucible]) .refl).same .faults (by decide)

theorem State.extTold_raises {event : Bool} : Raises [323, 325, 334] s (s.extTold event) :=
  have hgone : Raises [323, 325, 334] s s.extGone :=
    .uncause (.ite (.of_faults .refl (State.afterLeaving_faults.trans State.extAbsent_faults)) (.of_faults .refl State.extAbsent_faults))
  .ite hgone.raise hgone

theorem State.extLeave_raises {event : Bool} : Raises [323, 325, 334] s (s.extLeave event) :=
  State.extLeave_eq ▸ .ite .refl (.ite (.ite (.raise State.extTold_raises) State.extTold_raises) State.extTold_raises)

/-! ### An input follows its monitors (R97, R103) -/

/-- The ids of the attributes that an input writes as it follows its monitors. -/
def judgeIds : List Nat := Attr.input_qual_state.id :: memberIds
/-- The ids of the attributes that a verdict writes. -/
def verdictIds : List Nat := Attr.input_qual_flags.id :: judgeIds
/-- The parts that a verdict may change. -/
def verdictParts : List Part := .crucible :: .inputs :: .sels :: raiseParts
/-- The sources that an input can raise as it follows its monitors. -/
def judgeSources (n : Nat) : List Nat := [evInput n 1, 323, 325, 334]

theorem State.sourceLeft_writes {ids : List Nat} {x : Nat} : Writes ids s (s.sourceLeft x) := .forEach .refl fun _ _ _ => .setSel .refl

theorem State.leaveQualified_writes (hn : n < 36) : Writes judgeIds s (s.leaveQualified n) := by
  unfold State.leaveQualified
  have hleft : Writes judgeIds s
      (((s.put1 Attr.input_qual_state n QualState.disqualified.code).raise (evInput n 1) true (s.failing n % 128)).sourceLeft n) :=
    Writes.trans (Writes.raise (Writes.put1 .refl)) State.sourceLeft_writes
  exact .ite (hleft.andThen State.extLeave_writes) hleft

theorem State.leaveQualified_raises : Raises (judgeSources n) s (s.leaveQualified n) := by
  unfold State.leaveQualified
  have hput : Raises (judgeSources n) s (s.put1 Attr.input_qual_state n QualState.disqualified.code) := .of_faults .refl
  have hleft : Raises (judgeSources n) s
      (((s.put1 Attr.input_qual_state n QualState.disqualified.code).raise (evInput n 1) true (s.failing n % 128)).sourceLeft n) :=
    (hput.raise (by simp [judgeSources])).of_faults ((Evolves.sourceLeft (P := [.sels]) .refl).same .faults (by decide))
  exact .ite (hleft.trans (State.extLeave_raises.mono (by simp [judgeSources]))) hleft

theorem State.judgeInput_writes (hn : n < 36) : Writes judgeIds s (s.judgeInput n) := by
  unfold State.judgeInput
  refine .ite .refl ?_
  split
  · exact .refl
  · exact .ite .refl (Writes.put1 (.setInput .refl))
  · exact .ite (Writes.put1 .refl) .refl
  · exact .ite (State.leaveQualified_writes hn) .refl

theorem State.judgeInput_raises : Raises (judgeSources n) s (s.judgeInput n) := by
  unfold State.judgeInput
  refine .ite .refl ?_
  split
  · exact .refl
  · exact .ite .refl (.of_faults (t := s) .refl (by simp [State.setInput]))
  · exact .ite (.of_faults .refl (State.put1_faults ..)) .refl
  · exact .ite State.leaveQualified_raises .refl

theorem State.leaveQualified_inputs : (s.leaveQualified n).inputs = s.inputs :=
  (Evolves.leaveQualified (P := .crucible :: .sels :: raiseParts) .refl).same .inputs (by decide)

/-- Between the records of one input nothing differs but when its soak began; those of the others are the same. -/
structure SameInputs (n : Nat) (s t : State) : Prop where
  other : ∀ m, m ≠ n → t.input m = s.input m
  own : ∃ x, t.input n = { s.input n with soakFrom := x }

theorem State.input_of_inputs (h : t.inputs = s.inputs) (m : Nat) : t.input m = s.input m := by rw [State.input, h, State.input]

theorem SameInputs.of_inputs (h : t.inputs = s.inputs := by simp) : SameInputs n s t :=
  ⟨fun m _ => State.input_of_inputs h m, _, State.input_of_inputs h n⟩

theorem SameInputs.trans (h : SameInputs n s t) (h' : SameInputs n t u) : SameInputs n s u := by
  obtain ⟨x, hx⟩ := h.own
  obtain ⟨y, hy⟩ := h'.own
  exact ⟨fun m hm => (h'.other m hm).trans (h.other m hm), y, by rw [hy, hx]⟩

theorem State.judgeInput_inputs : SameInputs n s (s.judgeInput n) := by
  unfold State.judgeInput
  split
  · exact .of_inputs rfl
  · split
    · exact .of_inputs rfl
    · split
      · exact .of_inputs rfl
      · refine .trans (t := s.setInput n { s.input n with soakFrom := s.counter }) ⟨fun m hm => State.input_setInput_other s _ hm, _, State.input_setInput ..⟩
          (.of_inputs (by simp))
    · split
      · exact .of_inputs (by simp)
      · exact .of_inputs rfl
    · split
      · exact .of_inputs State.leaveQualified_inputs
      · exact .of_inputs rfl

/-- Where a disqualifying monitor fails, no soak begins. -/
theorem State.judgeInput_inputs_of_disqualified (h : s.disqualified n = true) : (s.judgeInput n).inputs = s.inputs := by
  unfold State.judgeInput
  rw [h]
  split
  · rfl
  · split
    · rfl
    · rfl
    · exact State.put1_inputs ..
    · exact State.leaveQualified_inputs

/-! ### Verdicts (R97) -/

/-- The flags of an input with the verdict of one monitor, before the input follows it. -/
def State.flagged (s : State) (n k : Nat) (fails : Bool) : State := s.put1 Attr.input_qual_flags n (verdictFlags (s.failing n) k fails : Nat)

theorem State.verdict_eq {fails : Bool} : s.verdict n k fails = (s.flagged n k fails).judgeInput n := by
  unfold State.verdict State.flagged verdictFlags
  rfl

theorem State.verdict_writes {fails : Bool} (hn : n < 36) : Writes verdictIds s (s.verdict n k fails) :=
  State.verdict_eq ▸ (Writes.put1 .refl : Writes verdictIds s (s.flagged n k fails)).andThen (State.judgeInput_writes hn)

theorem State.verdict_raises {fails : Bool} : Raises (judgeSources n) s (s.verdict n k fails) :=
  State.verdict_eq ▸ (Raises.of_faults .refl (State.put1_faults ..)).trans State.judgeInput_raises

theorem State.verdict_inputs {fails : Bool} : SameInputs n s (s.verdict n k fails) :=
  State.verdict_eq ▸ (SameInputs.of_inputs (State.put1_inputs ..)).trans State.judgeInput_inputs

theorem State.verdict_counter {fails : Bool} : (s.verdict n k fails).counter = s.counter :=
  (Evolves.verdict (P := verdictParts) .refl).same .counter (by decide)

theorem State.failing_of_writes {ids : List Nat} (h : Writes ids s t) (hn : n < 36) (hid : Attr.input_qual_flags.id ∉ ids := by decide) :
    t.failing n = s.failing n := congrArg Int.toNat (h.attr hid)

theorem State.flagged_failing {fails : Bool} : (s.flagged n k fails).failing n = verdictFlags (s.failing n) k fails := by
  rw [State.failing, State.attrN, State.flagged, State.attr_put1_same, Int.toNat_natCast]

theorem State.verdict_failing {fails : Bool} (hn : n < 36) : (s.verdict n k fails).failing n = verdictFlags (s.failing n) k fails := by
  rw [State.verdict_eq, State.failing_of_writes (State.judgeInput_writes hn) hn, State.flagged_failing]

theorem State.verdict_bit {fails : Bool} (hn : n < 36) : bitOf ((s.verdict n k fails).failing n) k = fails := by
  rw [State.verdict_failing hn, bitOf_verdictFlags_same]

theorem State.verdict_bit_lt {fails : Bool} {j : Nat} (hn : n < 36) (h : j < k) :
    bitOf ((s.verdict n k fails).failing n) j = bitOf (s.failing n) j := by
  rw [State.verdict_failing hn, bitOf_verdictFlags_lt h]

/-! ### Loss of signal (R98) -/

theorem State.loseSignal_bit (hn : n < 36) : bitOf ((s.loseSignal n).failing n) 0 = true := by
  unfold State.loseSignal
  split
  · assumption
  · exact State.verdict_bit hn

theorem State.loseSignal_writes (hn : n < 36) : Writes verdictIds s (s.loseSignal n) :=
  .ite .refl (Writes.trans (.raise .refl) (State.verdict_writes hn))

theorem State.loseSignal_counter : (s.loseSignal n).counter = s.counter :=
  (Evolves.loseSignal (P := verdictParts) .refl).same .counter (by decide)

theorem State.loseSignal_raises : Raises (evInput n 0 :: judgeSources n) s (s.loseSignal n) :=
  .ite .refl ((Raises.raise .refl).trans (State.verdict_raises.mono (List.subset_cons_self ..)))

/-! ### Grades (R106 to R110) -/

/-- The ids of the attributes that a grade formed anew writes. -/
def gradeIds : List Nat := Attr.input_grade.id :: verdictIds
/-- The sources that a grade formed anew can raise. -/
def gradeSources (n : Nat) : List Nat := evInput n 3 :: judgeSources n

/-- An input with its grade formed anew and its quality event, before the verdict on it. -/
def State.gradeFormed (s : State) (n cause : Nat) (always : Bool) : State :=
  let t := s.put1 Attr.input_grade n (s.gradeOf n)
  if (s.gradeOf n != s.attrN Attr.input_grade n) || always then t.quality n cause else t

theorem State.regrade_eq {cause : Nat} {always : Bool} : s.regrade n cause always =
    if !s.inputOn n || decide (28 ≤ n) then s else (s.gradeFormed n cause always).verdict n 5 (s.gradeOf n == 15) := rfl

theorem State.gradeFormed_writes {cause : Nat} {always : Bool} (hn : n < 36) : Writes [Attr.input_grade.id] s (s.gradeFormed n cause always) :=
  .ite (Writes.raise (Writes.put1 .refl)) (Writes.put1 .refl)

theorem State.gradeFormed_inputs {cause : Nat} {always : Bool} : (s.gradeFormed n cause always).inputs = s.inputs :=
  (Evolves.ite (P := raiseParts) (.quality (.put1 .refl)) (.put1 .refl)).same .inputs (by decide)

theorem State.regrade_writes {cause : Nat} {always : Bool} (hn : n < 36) : Writes gradeIds s (s.regrade n cause always) :=
  State.regrade_eq ▸ .ite .refl (((State.gradeFormed_writes hn).mono).andThen (State.verdict_writes hn))

theorem State.regrade_inputs {cause : Nat} {always : Bool} : SameInputs n s (s.regrade n cause always) := by
  rw [State.regrade_eq]
  split
  · exact .of_inputs rfl
  · exact .trans (.of_inputs State.gradeFormed_inputs) State.verdict_inputs

theorem State.regrade_counter {cause : Nat} {always : Bool} : (s.regrade n cause always).counter = s.counter :=
  (Evolves.regrade (P := verdictParts) .refl).same .counter (by decide)

/-- Forming the grade anew leaves the monitors below the grade monitor as they were. -/
theorem State.regrade_bit_lt {cause j : Nat} {always : Bool} (hn : n < 36) (h : j < 5) :
    bitOf ((s.regrade n cause always).failing n) j = bitOf (s.failing n) j := by
  rw [State.regrade_eq]
  split
  · rfl
  · rw [State.verdict_bit_lt hn h, State.failing_of_writes (State.gradeFormed_writes hn) hn]

theorem State.graded_writes {kind g : Nat} (hn : n < 36) : Writes gradeIds s (s.graded n kind g) :=
  Writes.trans (.setInput .refl) (State.regrade_writes hn)

theorem State.graded_counter {kind g : Nat} : (s.graded n kind g).counter = s.counter := State.regrade_counter.trans rfl

theorem State.graded_bit_lt {kind g j : Nat} (hn : n < 36) (h : j < 5) : bitOf ((s.graded n kind g).failing n) j = bitOf (s.failing n) j :=
  State.regrade_bit_lt hn h

theorem State.graded_other {kind g : Nat} (h : m ≠ n) : (s.graded n kind g).input m = s.input m :=
  (State.regrade_inputs.other m h).trans (State.input_setInput_other s _ h)

/-- A grading message is kept with the tick of its receipt; beside it only the begin of a soak may change. -/
theorem State.graded_own {kind g : Nat} :
    ∃ x, (s.graded n kind g).input n = { s.input n with msgs := tblPut (s.input n).msgs kind (g, s.counter), soakFrom := x } := by
  obtain ⟨x, hx⟩ := (State.regrade_inputs (s := s.setInput n { s.input n with msgs := tblPut (s.input n).msgs kind (g, s.counter) })
    (n := n) (cause := 0) (always := false)).own
  exact ⟨x, by rw [State.graded, hx, State.input_setInput]⟩

theorem State.graded_message {kind g : Nat} : tblFind ((s.graded n kind g).input n).msgs kind = some (g, s.counter) := by
  obtain ⟨x, hx⟩ := State.graded_own (s := s) (n := n) (kind := kind) (g := g)
  rw [hx]
  exact tblFind_put_same ..

end Sys2Proof.Machine
end

section
/-! Ports: their links, and the frames that the hardware answers, ignores and forwards (R250, R253, R254, R261). -/

set_option Elab.async false

namespace Sys2Proof.Machine

variable {s t u : State} {n m p k : Nat}

/-! ### Ports without frames (R250) -/

/-- A port that is not ready and holds no frame but those of session queues. -/
structure State.portQuiet (s : State) (p : Nat) : Prop where
  ready : (s.port p).ready = false
  buffer : (s.port p).buffer = []
  leaving : (s.port p).leaving = []
  waiting : ∀ f ∈ (s.port p).waiting, f.cls = .session

theorem State.port_of_net (h : t.net = s.net) (p : Nat) : t.port p = s.port p := by rw [State.port, h, State.port]

theorem State.portQuiet.of_net (hs : s.portQuiet p) (h : t.net = s.net) : t.portQuiet p := by
  obtain ⟨hready, hbuffer, hleaving, hwaiting⟩ := hs
  have hport := State.port_of_net h p
  exact ⟨hport ▸ hready, hport ▸ hbuffer, hport ▸ hleaving, hport ▸ hwaiting⟩

/-- A port whose frames are dropped. -/
def PortRec.dropped (r : PortRec) : PortRec :=
  { r with leaving := [], buffer := [], sends := [], waiting := r.waiting.filter fun f => decide (f.cls = .session) }

theorem State.dropFrames_net : (s.dropFrames k).net = (s.setPort k (s.port k).dropped).net := by
  simp [State.dropFrames, PortRec.dropped]

theorem State.dropFrames_port : (s.dropFrames p).port p = (s.port p).dropped := by
  rw [State.port_of_net State.dropFrames_net, State.port_setPort]

theorem State.dropFrames_port_other (h : p ≠ k) : (s.dropFrames k).port p = s.port p := by
  rw [State.port_of_net State.dropFrames_net, State.port_setPort_other s _ h]

theorem State.portQuiet.of_port (hs : s.portQuiet p) (h : t.port p = s.port p) : t.portQuiet p := by
  obtain ⟨hready, hbuffer, hleaving, hwaiting⟩ := hs
  exact ⟨h ▸ hready, h ▸ hbuffer, h ▸ hleaving, h ▸ hwaiting⟩

/-- A port that is not ready and loses its frames is quiet. -/
theorem State.portQuiet_of_dropped {r : PortRec} (h : t.port p = r.dropped) (hr : r.ready = false) : t.portQuiet p := by
  refine ⟨h ▸ hr, by rw [h]; rfl, by rw [h]; rfl, fun f hf => ?_⟩
  rw [h] at hf
  simpa using (List.mem_filter.mp hf).2

theorem State.portQuiet.dropFrames (hs : s.portQuiet p) : (s.dropFrames k).portQuiet p := by
  by_cases h : p = k
  · subst h
    exact State.portQuiet_of_dropped State.dropFrames_port hs.ready
  · exact hs.of_port (State.dropFrames_port_other h)

theorem State.portQuiet.raise (hs : s.portQuiet p) {ev d : Nat} {c : Bool} {x : List ScopeItem} : (s.raise ev c d x).portQuiet p := by
  have hoccur : (s.occur ev c d x).portQuiet p := hs.of_net (by simp)
  unfold State.raise
  dsimp only
  split
  · refine State.forEach_induct (P := fun u => u.portQuiet p) _ (fun u k hu => ?_) _ _ (hoccur.of_net (by simp))
    split
    · exact hu.dropFrames
    · exact hu
  · exact hoccur

theorem State.portQuiet.extLeave (hs : s.portQuiet p) {event : Bool} : (s.extLeave event).portQuiet p := by
  have hgone : s.extGone.portQuiet p := hs.of_net ((Evolves.uncause (P := [.attrs, .crucible, .store, .faults]) (.ite
    (.afterLeaving (.withCrucible (.setOsc .refl))) (.withCrucible (.setOsc .refl)))).same .net (by decide))
  have htold : (s.extTold event).portQuiet p := by unfold State.extTold; split; exacts [hgone.raise, hgone]
  rw [State.extLeave_eq]
  split
  · exact hs
  · split
    · unfold State.judgeSingle
      split
      exacts [htold.raise, htold]
    · exact htold

theorem State.portQuiet.judgeInput (hs : s.portQuiet p) : (s.judgeInput n).portQuiet p := by
  unfold State.judgeInput
  split
  · exact hs
  · split
    · exact hs
    · split
      exacts [hs, hs.of_net (by simp)]
    · split
      exacts [hs.of_net (by simp), hs]
    · split
      · have hleft : (((s.put1 Attr.input_qual_state n QualState.disqualified.code).raise (evInput n 1) true (s.failing n % 128)).sourceLeft n).portQuiet p :=
          (hs.of_net (t := s.put1 ..) (by simp)).raise.of_net ((Evolves.sourceLeft (P := [.sels]) .refl).same .net (by decide))
        unfold State.leaveQualified
        dsimp only
        split
        exacts [hleft.extLeave, hleft]
      · exact hs

theorem State.portQuiet.loseSignal (hs : s.portQuiet p) : (s.loseSignal n).portQuiet p := by
  unfold State.loseSignal
  split
  · exact hs
  · rw [State.verdict_eq]
    exact (hs.raise.of_net (State.put1_net ..)).judgeInput

/-! ### Links (R250, R288) -/

theorem portLinkUp_facts (hp : p < 4) (htiming : s.timing = true) (hrun : s.boot.phase = .running) (hon : s.flag Attr.port_enable p = true)
    (hdown : s.flag Attr.port_link_state p = false) :
    ∃ t, execPortLinkUp ⟨p, hp⟩ s = .next t ∧ t.attr Attr.port_link_state p = 1 ∧ t.port p = { s.port p with ready := false } ∧
      (t.latch (Ev.port p 0)).cause = false ∧ s.sameBut t [.attrs, .faults, .net] ∧ s.attrsBut t [Attr.port_link_state.key p 0] := by
  let u := s.setPort p { s.port p with ready := false }
  have hexec : execPortLinkUp ⟨p, hp⟩ s = .next ((u.put1 Attr.port_link_state p 1).uncause (Ev.port p 0)) :=
    congrArg Host.Outcome.next (if_pos (by simp [htiming, hrun, hon, hdown]))
  have hev : Evolves [.attrs, .store, .faults, .net] s ((u.put1 Attr.port_link_state p 1).uncause (Ev.port p 0)) := .uncause (.put1 (.setPort .refl))
  refine ⟨_, hexec, ?_, ?_, State.uncause_cause _ _, State.sameBut_without hev.same (p := .store) ?_, fun k hk => ?_⟩
  · rw [State.attr_of_attrs (State.uncause_attrs ..), State.attr_put1_same]
  · rw [State.port_of_net (State.uncause_net ..), State.port_of_net (State.put1_net ..), State.port_setPort]
  · exact (State.uncause_store ..).trans (State.put1_store_of_volatile)
  · rw [State.uncause_attrs]
    exact State.find_put_other _ _ fun h => hk (List.mem_singleton.mpr h)

/-- A port that has lost its link and its frames. -/
def State.cutOff (s : State) (p : Nat) : State := (s.put1 Attr.port_link_state p 0).dropFrames p

/-- A port without link whose responder stands, before the event. -/
def State.linkless (s : State) (p : Nat) : State :=
  (s.cutOff p).setPort p { (s.cutOff p).port p with ready := false, tokens := none }

theorem State.linkDown_eq : s.linkDown p true = (s.linkless p).raise (Ev.port p 0) true := rfl

theorem State.linkDown_quiet : (s.linkDown p true).portQuiet p := by
  rw [State.linkDown_eq]
  refine State.portQuiet.raise (State.portQuiet_of_dropped (r := { (s.put1 Attr.port_link_state p 0).port p with ready := false, tokens := none }) ?_ rfl)
  rw [State.linkless, State.port_setPort, State.cutOff, State.dropFrames_port]
  rfl

theorem State.linkDown_find (hp : p < 4) (hk : kept k) : tblFind (s.linkDown p true).attrs k = tblFind (s.put1 Attr.port_link_state p 0).attrs k := by
  rw [State.linkDown_eq, State.raise_find _ hk]
  exact State.dropFrames_find (s.put1 Attr.port_link_state p 0) hk (show p < 65536 by omega)

theorem State.linkDown_state (hp : p < 4) : (s.linkDown p true).attr Attr.port_link_state p = 0 := by
  rw [State.attr_of_find (State.linkDown_find hp (kept_key (by decide) (by omega) (by omega))), State.attr_put1_same]

theorem State.linkDown_attr (hp : p < 4) {a : AttrDesc} {i e : Nat} (hne : a.id ≠ Attr.port_link_state.id := by decide)
    (hb : a.id ∉ bookAttrs := by decide) (hi : i < 65536 := by omega) (he : e < 65536 := by omega) :
    (s.linkDown p true).attr a i e = s.attr a i e := by
  rw [State.attr_of_find (State.linkDown_find hp (kept_key hb hi he)), State.attr_put1_ne s hne]

theorem State.port_source (hp : p < 4) : Ev.defined (Ev.port p 0) = true ∧ Ev.port p 0 ∉ bookSources ∧ Ev.port p 0 ∉ [321, 322, 327, 328] ∧
    Ev.port p 0 ∉ evInput (22 + p) 0 :: judgeSources (22 + p) := by
  obtain rfl | rfl | rfl | rfl : p = 0 ∨ p = 1 ∨ p = 2 ∨ p = 3 := by omega
  all_goals decide

theorem State.linkDown_latch (hp : p < 4) :
    ((s.linkDown p true).latch (Ev.port p 0)).latched = true ∧ ((s.linkDown p true).latch (Ev.port p 0)).cause = true := by
  obtain ⟨hdefined, hbook, hfitted, -⟩ := State.port_source hp
  exact State.linkDown_eq ▸ ⟨State.raise_latched hdefined hbook hfitted, State.raise_cause hdefined hbook hfitted⟩

theorem portLinkDown_facts (hp : p < 4) (htiming : s.timing = true) (hlink : s.flag Attr.port_link_state p = true) :
    ∃ t, execPortLinkDown ⟨p, hp⟩ s = .next t ∧ t.attr Attr.port_link_state p = 0 ∧ t.portQuiet p ∧
      (s.inputOn (22 + p) = true → bitOf (t.failing (22 + p)) 0 = true) ∧ (t.latch (Ev.port p 0)).latched = true ∧
      (t.latch (Ev.port p 0)).cause = true ∧ t.counter = s.counter := by
  let u := s.linkDown p true
  have hexec : execPortLinkDown ⟨p, hp⟩ s = .next (if u.inputOn (22 + p) then u.loseSignal (22 + p) else u) :=
    congrArg Host.Outcome.next (if_pos (by simp [htiming, hlink]))
  have hon : u.inputOn (22 + p) = s.inputOn (22 + p) := by
    have henable : u.attr Attr.input_enable (22 + p) = s.attr Attr.input_enable (22 + p) := State.linkDown_attr hp
    simp only [State.inputOn, State.flag, henable, if_neg (show ¬ 28 ≤ 22 + p by omega)]
  obtain ⟨hlatched, hcause⟩ := State.linkDown_latch (s := s) hp
  have hcounter : u.counter = s.counter := (Evolves.linkDown (P := raiseParts) .refl).same .counter (by decide)
  refine ⟨_, hexec, ?_⟩
  split
  · obtain ⟨-, hbook, -, hother⟩ := State.port_source hp
    have hlatch : (u.loseSignal (22 + p)).latch (Ev.port p 0) = u.latch (Ev.port p 0) := State.loseSignal_raises.latch _ hother hbook
    refine ⟨?_, State.linkDown_quiet.loseSignal, fun _ => State.loseSignal_bit (by omega), hlatch ▸ hlatched, hlatch ▸ hcause,
      State.loseSignal_counter.trans hcounter⟩
    rw [(State.loseSignal_writes (by omega)).attr, State.linkDown_state hp]
  · next hoff => exact ⟨State.linkDown_state hp, State.linkDown_quiet, fun h => absurd (hon.trans h) hoff, hlatched, hcause, hcounter⟩

theorem ptpReady_facts (hp : p < 4) (hup : s.portUp p = true) :
    ∃ t, execPtpReadyAfterLink ⟨p, hp⟩ s = .next t ∧ t.port p = { s.port p with ready := true } ∧ s.sameBut t [.net] :=
  ⟨s.setPort p { s.port p with ready := true }, congrArg Host.Outcome.next (if_pos hup), State.port_setPort ..,
    (Evolves.setPort .refl).same⟩

/-! ### Frames ignored and answered (R254) -/

theorem State.bump_ignored : (s.bump Attr.port_rx_ignored p).attr Attr.port_rx_ignored p =
      (s.attr Attr.port_rx_ignored p + 1) % (256 ^ Attr.port_rx_ignored.bytes : Nat) ∧
    s.sameBut (s.bump Attr.port_rx_ignored p) [.attrs] ∧ s.attrsBut (s.bump Attr.port_rx_ignored p) [Attr.port_rx_ignored.key p 0] :=
  ⟨s.attr_bump_same, State.sameBut_without (P := [.attrs, .store]) (Evolves.bump .refl).same (p := .store) State.put_store_of_volatile,
    fun _ hk => State.find_put_other _ _ fun h => hk (List.mem_singleton.mpr h)⟩

theorem frameIgnored_facts (hp : p < 4) (hup : s.portUp p = true) (hpair : s.paired p = none) :
    execFrameIgnored ⟨p, hp⟩ s = .next (s.bump Attr.port_rx_ignored p) :=
  congrArg Host.Outcome.next (if_pos (by simp [hup, hpair]))

/-- The frame that hardware answers with. -/
def replyFrame (kind : ReplyKind) : TxFrame := { cls := .hardware, queue := 65535, reply := some kind }

theorem State.queueFrame_reply {kind : ReplyKind} :
    s.queueFrame p (replyFrame kind) = s.setPort p { s.port p with waiting := (s.port p).waiting ++ [{ replyFrame kind with length := 60 }] } := rfl

/-- The counts of answers of a port with one more of a kind. -/
def State.replied (s : State) (p : Nat) (kind : ReplyKind) : State :=
  let w := tblGet (s.port p).replies (0, 0) (replyLimit kind)
  let next := if w.2 != 0 && decide (s.counter < w.1 + ticksPerSecond) then (w.1, w.2 + 1) else (s.counter, 1)
  s.setPort p { s.port p with replies := tblSet (s.port p).replies (0, 0) (replyLimit kind) next }

theorem arpAnswered_facts {kind : ReplyKind} {vlan : Nat} (hp : p < 4) (hup : s.portUp p = true) (hvlan : (vlan : Int) = s.attr Attr.port_vlan_id p)
    (hanswers : s.answers p kind = true) (hlimit : (tblGet (s.port p).replies (0, 0) (replyLimit kind)).2 < 100) :
    ∃ t, execArpNdpEchoReceived ⟨p, hp⟩ kind vlan s = .next t ∧
      (t.port p).waiting = (s.port p).waiting ++ [{ cls := .hardware, queue := 65535, length := 60, reply := some kind }] ∧ s.sameBut t [.net] := by
  have hexec : execArpNdpEchoReceived ⟨p, hp⟩ kind vlan s = .next ((s.replied p kind).queueFrame p (replyFrame kind)) := by
    refine congrArg Host.Outcome.next ((if_pos hup).trans ((if_neg (by simp [hvlan, hanswers])).trans ?_))
    exact if_neg (by simp; omega)
  refine ⟨_, hexec, ?_, ?_⟩
  · rw [State.queueFrame_reply, State.port_setPort, State.replied, State.port_setPort]
    rfl
  · rw [State.queueFrame_reply]
    exact (Evolves.setPort (.setPort .refl)).same

theorem arpIgnored_facts {kind : ReplyKind} {vlan : Nat} (hp : p < 4) (hup : s.portUp p = true)
    (h : (vlan : Int) ≠ s.attr Attr.port_vlan_id p ∨ s.answers p kind = false) :
    execArpNdpEchoReceived ⟨p, hp⟩ kind vlan s = .next (s.bump Attr.port_rx_ignored p) :=
  congrArg Host.Outcome.next ((if_pos hup).trans (if_pos (by simpa using h)))

/-! ### Transit (R253, R261) -/

/-- A port with a transit frame in its FIFO. -/
def State.inTransit (s : State) (p residence length : Nat) : State :=
  s.setPort p { s.port p with fifo := s.transitFifo p ++ [(s.counter + residence / 1024, length)] }

section
variable {q length domainNumber transport residence sum : Nat} {kind : TransitKind} {correction : Int}

theorem exec_transitFrame (hp : p < 4) (hpair : s.paired p = some q) (hup : s.portUp p = true) (hupq : s.portUp q = true)
    (hforced : s.portForced p = false) (hforcedq : s.portForced q = false) (hroom : s.fifoRoom p length = true) :
    execTransitFrameReceived ⟨p, hp⟩ kind length true none domainNumber transport residence sum correction s =
      .next (if !transitEvent kind then (s.inTransit p residence length).emit (.forward q kind length correction sum [])
        else (s.inTransit p residence length).emit (.forward q kind length
          (correction + s.residenceTime p q domainNumber transport residence + s.transitAsymmetry p q kind)
          (if transport = 0 ∨ sum = 0 then sum else updatedChecksum sum (intBytesBE 8 correction) (intBytesBE 8
            (correction + s.residenceTime p q domainNumber transport residence + s.transitAsymmetry p q kind))) [])) := by
  unfold execTransitFrameReceived
  rw [hpair]
  dsimp only
  rw [State.when_, if_pos (by simp [hup, hupq, hforced, hforcedq]), hroom]
  rfl

theorem State.forwarded_same {e : Emission} : s.sameBut ((s.inTransit p residence length).emit e) [.out, .net] :=
  (Evolves.emit (.setPort .refl)).same

end

/-- Settles O38: links come and go, frames are ignored and answered, and a transit frame is forwarded within its row. -/
theorem portLinks : Obligations.PortLinks := by
  unfold Obligations.PortLinks
  refine ⟨fun s p htiming hrun hon hdown => portLinkUp_facts p.isLt htiming hrun hon hdown, fun s p htiming hlink => ?_,
    fun s p hup => ptpReady_facts p.isLt hup, fun s p hup hpair => ⟨_, frameIgnored_facts p.isLt hup hpair, State.bump_ignored⟩,
    fun s p kind vlan hup => ⟨fun hvlan hanswers hlimit => arpAnswered_facts p.isLt hup hvlan hanswers hlimit, fun h =>
      ⟨_, arpIgnored_facts p.isLt hup h, State.bump_ignored.1, State.bump_ignored.2.1⟩⟩,
    fun s p q kind length domainNumber transport residence sum correction new hpair hup hupq hforced hforcedq hroom hevent hnew => ?_,
    fun s p q kind length domainNumber transport residence sum correction hpair hup hupq hforced hforcedq hroom hevent => ?_⟩
  · obtain ⟨t, hexec, hstate, ⟨hready, hbuffer, hleaving, hwaiting⟩, hrest⟩ := portLinkDown_facts p.isLt htiming hlink
    exact ⟨t, hexec, hstate, hready, hbuffer, hleaving, hwaiting, hrest⟩
  · have hexec := exec_transitFrame (domainNumber := domainNumber) (transport := transport) (residence := residence) (sum := sum) (kind := kind)
      (correction := correction) p.isLt hpair hup hupq hforced hforcedq hroom
    rw [hevent, Bool.not_true, if_neg Bool.false_ne_true, ← hnew] at hexec
    exact ⟨_, hexec, rfl, State.forwarded_same⟩
  · have hexec := exec_transitFrame (domainNumber := domainNumber) (transport := transport) (residence := residence) (sum := sum) (kind := kind)
      (correction := correction) p.isLt hpair hup hupq hforced hforcedq hroom
    rw [hevent, Bool.not_false, if_pos rfl] at hexec
    exact ⟨_, hexec, rfl, State.forwarded_same⟩

end Sys2Proof.Machine
end

section
/-! Stamps, labels and the hardware monitors of an input (R93, R98 to R103, R116, R117). -/

set_option Elab.async false

namespace Sys2Proof.Machine

variable {s t u : State} {n m k : Nat}

/-! ### What labelling leaves alone (R116, R117) -/

/-- The ids of the attributes that labelling an edge writes. -/
def labelIds : List Nat := Attr.input_rx_errors.id :: gradeIds

/-- Labelling an edge of INPUT n leaves alone the stamps and the fit that are held, the inputs beside it, the counter and the hardware
monitors. -/
structure Labels (n : Nat) (s t : State) : Prop where
  writes : Writes labelIds s t
  counter : t.counter = s.counter
  other : ∀ m, m ≠ n → t.input m = s.input m
  lastStamp : (t.input n).lastStamp = (s.input n).lastStamp
  prevStamp : (t.input n).prevStamp = (s.input n).prevStamp
  losFrom : (t.input n).losFrom = (s.input n).losFrom
  fit : (t.input n).fit = (s.input n).fit
  bits : ∀ j, j < 5 → bitOf (t.failing n) j = bitOf (s.failing n) j

namespace Labels

theorem refl : Labels n s s := ⟨.refl, rfl, fun _ _ => rfl, rfl, rfl, rfl, rfl, fun _ _ => rfl⟩

theorem trans (h : Labels n s t) (h' : Labels n t u) : Labels n s u :=
  ⟨h.writes.trans h'.writes, h'.counter.trans h.counter, fun m hm => (h'.other m hm).trans (h.other m hm), h'.lastStamp.trans h.lastStamp,
    h'.prevStamp.trans h.prevStamp, h'.losFrom.trans h.losFrom, h'.fit.trans h.fit, fun j hj => (h'.bits j hj).trans (h.bits j hj)⟩

/-- An operation that leaves the inputs alone and writes no flags. -/
theorem of_inputs {ids : List Nat} (hw : Writes ids s t) (hi : t.inputs = s.inputs) (hc : t.counter = s.counter) (hn : n < 36)
    (hsub : ids ⊆ labelIds := by decide) (hid : Attr.input_qual_flags.id ∉ ids := by decide) : Labels n s t :=
  have hinput := State.input_of_inputs hi
  ⟨hw.mono hsub, hc, fun m _ => hinput m, by rw [hinput], by rw [hinput], by rw [hinput], by rw [hinput],
    fun j _ => by rw [State.failing_of_writes hw hn hid]⟩

/-- What replaces the record of the input but keeps its stamps and its fit. -/
theorem setInput {r : InputRec} (hl : r.lastStamp = (s.input n).lastStamp) (hp : r.prevStamp = (s.input n).prevStamp)
    (hf : r.losFrom = (s.input n).losFrom) (hfit : r.fit = (s.input n).fit) : Labels n s (s.setInput n r) :=
  ⟨.setInput .refl, rfl, fun m hm => State.input_setInput_other s r hm, by rw [State.input_setInput, hl], by rw [State.input_setInput, hp],
    by rw [State.input_setInput, hf], by rw [State.input_setInput, hfit], fun _ _ => rfl⟩

theorem graded {kind g : Nat} (hn : n < 36) : Labels n s (s.graded n kind g) := by
  obtain ⟨x, hx⟩ := State.graded_own (s := s) (n := n) (kind := kind) (g := g)
  exact ⟨(State.graded_writes hn).mono, State.graded_counter, fun m hm => State.graded_other hm, by rw [hx], by rw [hx], by rw [hx],
    by rw [hx], fun j hj => State.graded_bit_lt hn hj⟩

theorem quality {cause : Nat} (hn : n < 36) : Labels n s (s.quality n cause) :=
  of_inputs (ids := []) (.raise .refl) (State.raise_inputs ..) (State.raise_counter ..) hn

theorem rxError {j : Nat} (hn : n < 36) (hj : j < 65536) : Labels n s (s.rxError n j) :=
  have hev : Evolves raiseParts s (s.rxError n j) := .rxError .refl
  of_inputs (ids := [Attr.input_rx_errors.id]) (.raiseOnce (.add .refl)) (hev.same .inputs (by decide)) (hev.same .counter (by decide)) hn

theorem labelArrived {sec place : Int} (hn : n < 36) : Labels n s (s.labelArrived n sec place) :=
  have hev : Evolves [.dplls] s (s.labelArrived n sec place) := .labelArrived .refl
  of_inputs (ids := []) (.of_same .refl hev.same) (hev.same .inputs (by decide)) (hev.same .counter (by decide)) hn

theorem acceptLabel {sec place : Int} {edge : Nat} (hn : n < 36) : Labels n s (s.acceptLabel n sec edge place) :=
  (setInput (r := { s.input n with sequence := some (sec, edge), newSeq := none, label := some (sec, place, s.counter) }) rfl rfl rfl rfl).trans
    (labelArrived hn)

theorem takeLabel {sec place : Int} {edge : Nat} (hn : n < 36) : Labels n s (s.takeLabel n sec edge place).2 := by
  unfold State.takeLabel
  dsimp only
  split
  · exact acceptLabel (sec := sec) (edge := edge) (place := place) hn
  · split
    · exact (acceptLabel (sec := sec) (edge := edge) (place := place) hn).trans (quality (cause := 4) hn)
    · generalize nextCandidate (s.input n).newSeq sec edge = c
      exact (setInput (r := { s.input n with newSeq := some c }) rfl rfl rfl rfl).trans (rxError (j := 2) hn (by omega))

theorem labelEdge {msg : LabelMsg} {edge : Nat} {place : Int} (hn : n < 36) : Labels n s (s.labelEdge n msg edge place) := by
  unfold State.labelEdge
  split
  · exact rxError (j := 3) hn (by omega)
  · dsimp only
    split
    · exact (takeLabel hn).trans (graded hn)
    · exact takeLabel hn

theorem labelNext {place : Int} (hn : n < 36) : Labels n s (s.labelNext n place) := by
  have hempty : Labels n s (s.setInput n { s.input n with following := [] }) := setInput rfl rfl rfl rfl
  unfold State.labelNext
  dsimp only
  split
  · exact hempty
  · refine hempty.trans ?_
    generalize (s.input n).following = msgs
    generalize s.setInput n { s.input n with following := [] } = u
    induction msgs generalizing u with
    | nil => exact refl
    | cons msg msgs ih =>
      refine Labels.trans ?_ (ih _)
      dsimp only
      split
      · exact labelEdge hn
      · exact rxError (j := 2) hn (by omega)

end Labels

/-! ### An edge (R93, R98) -/

/-- An edge leaves the stamps that are held alone, starts the loss-of-signal time anew and writes no value but what a verdict
does. -/
structure Edged (n count : Nat) (s t : State) : Prop where
  writes : Writes verdictIds s t
  counter : t.counter = s.counter
  other : ∀ m, m ≠ n → t.input m = s.input m
  lastStamp : (t.input n).lastStamp = (s.input n).lastStamp
  losFrom : (t.input n).losFrom = count

/-- The parts that an edge of an input changes. -/
theorem State.signalEdge_same {count : Nat} : s.sameBut (s.signalEdge n count) verdictParts := (Evolves.signalEdge .refl).same

theorem State.signalEdge_writes {count : Nat} (hn : n < 36) : Writes verdictIds s (s.signalEdge n count) := by
  unfold State.signalEdge
  dsimp only
  exact .ite (((Writes.uncause (.setInput (.setInput .refl))).trans (State.verdict_writes hn)).trans (State.verdict_writes hn)) (.setInput .refl)

/-- An input whose loss-of-signal time starts anew. -/
def State.losRestarted (s : State) (n count : Nat) : State := s.setInput n { s.input n with losFrom := count }

/-- An input at the first edge after a loss of signal, before its verdicts. -/
def State.regained (s : State) (n count : Nat) : State :=
  ((s.losRestarted n count).setInput n { ((s.losRestarted n count).input n).forget count with freqPass := false }).uncause (evInput n 0)

theorem State.signalEdge_cases {count : Nat} :
    s.signalEdge n count = (((s.regained n count).verdict n 1 true).verdict n 0 false) ∨ s.signalEdge n count = s.losRestarted n count := by
  unfold State.signalEdge
  dsimp only
  split
  exacts [.inl rfl, .inr rfl]

theorem State.regained_input {count : Nat} : (∀ m, m ≠ n → (s.regained n count).input m = s.input m) ∧
    ((s.regained n count).input n).lastStamp = (s.input n).lastStamp ∧ ((s.regained n count).input n).losFrom = count := by
  unfold State.regained State.losRestarted
  simp only [State.input_of_inputs (State.uncause_inputs ..), State.input_setInput]
  refine ⟨fun m hm => ?_, rfl, rfl⟩
  rw [State.input_setInput_other _ _ hm, State.input_setInput_other _ _ hm]

theorem State.signalEdge_facts {count : Nat} (hn : n < 36) : Edged n count s (s.signalEdge n count) := by
  have hinput : (∀ m, m ≠ n → (s.signalEdge n count).input m = s.input m) ∧
      ((s.signalEdge n count).input n).lastStamp = (s.input n).lastStamp ∧ ((s.signalEdge n count).input n).losFrom = count := by
    rcases State.signalEdge_cases (s := s) (n := n) (count := count) with h | h
    · obtain ⟨hother, hlast, hlos⟩ := State.regained_input (s := s) (n := n) (count := count)
      have hsame : SameInputs n (s.regained n count) (((s.regained n count).verdict n 1 true).verdict n 0 false) :=
        State.verdict_inputs.trans State.verdict_inputs
      obtain ⟨x, hx⟩ := hsame.own
      rw [h]
      exact ⟨fun m hm => (hsame.other m hm).trans (hother m hm), by rw [hx]; exact hlast, by rw [hx]; exact hlos⟩
    · rw [h, State.losRestarted, State.input_setInput]
      exact ⟨fun m hm => State.input_setInput_other s _ hm, rfl, rfl⟩
  exact ⟨State.signalEdge_writes hn, State.signalEdge_same .counter (by decide), hinput.1, hinput.2.1, hinput.2.2⟩

/-- Without a loss of signal an edge starts the time anew and nothing else. -/
theorem State.signalEdge_of_signal {count : Nat} (h : bitOf (s.failing n) 0 = false) :
    s.signalEdge n count = s.losRestarted n count := by
  unfold State.signalEdge
  exact if_neg (by simp only [Bool.and_eq_true, not_and]; intro hbit; exact absurd (hbit.symm.trans h) (by decide))

/-- An edge ends a loss of signal, where verdicts form. -/
theorem State.signalEdge_bit {count : Nat} (hn : n < 36) (h : s.suppressed n = false) : bitOf ((s.signalEdge n count).failing n) 0 = false := by
  by_cases hbit : bitOf (s.failing n) 0 = false
  · rw [State.signalEdge_of_signal hbit]
    exact hbit
  · unfold State.signalEdge
    dsimp only
    have hloss : (bitOf ((s.losRestarted n count).failing n) 0 && !(s.losRestarted n count).suppressed n) = true := by
      have hsupp : (s.losRestarted n count).suppressed n = false := h
      rw [hsupp, Bool.not_false, Bool.and_true]
      exact Bool.not_eq_false _ ▸ hbit
    exact (if_pos hloss) ▸ State.verdict_bit hn

theorem State.inputType_of_attr (h : t.attr Attr.input_type n = s.attr Attr.input_type n) : t.inputType n = s.inputType n := by
  unfold State.inputType
  rw [h]

theorem State.stampPlace_of (hd : t.attr Attr.input_delay n = s.attr Attr.input_delay n) (hf : t.factory = s.factory) (hr : t.repair = s.repair)
    (count vernier : Nat) : t.stampPlace n count vernier = s.stampPlace n count vernier := by
  unfold State.stampPlace State.channelPhys State.channel
  rw [hd, hf, hr]

/-! ### A stamp (R93, R99, R100) -/

/-- An input with one more stamp, before it is judged against the fit. -/
def State.stamped (s : State) (n count : Nat) (place : Int) : State :=
  let q := s.monitorPlace n count place
  let p := (s.stampNumber n q, q)
  (s.add Attr.input_stamps n 0 1).setInput n { s.input n with
    lastStamp := some (count, place)
    prevStamp := (s.input n).lastStamp
    gate := p :: (s.input n).gate
    held := (p :: (s.input n).held).filter fun e => decide (q - 3600 * ticksPerSecond * 1024 ≤ e.2) }

theorem State.takeStamp_fit {count : Nat} {place q : Int} {f : LineFit} (hfit : (s.input n).fit = some f)
    (hq : q = s.monitorPlace n count place) (hsupp : s.suppressed n = false) (hdep : s.departs n f (s.stampNumber n q, q) = true) :
    s.takeStamp n count place = (s.stamped n count place).jumpFails n := by
  unfold State.takeStamp
  dsimp only
  subst hq
  have hjump : (!s.suppressed n && s.departs n f (s.stampNumber n (s.monitorPlace n count place), s.monitorPlace n count place)) = true := by
    rw [hsupp, hdep]
    rfl
  rw [hfit]
  dsimp only
  rw [if_pos hjump]
  unfold State.stamped
  dsimp only
  rw [hfit]

theorem State.takeStamp_cases {count : Nat} {place : Int} : s.takeStamp n count place = (s.stamped n count place).jumpFails n ∨
    s.takeStamp n count place = s.stamped n count place := by
  unfold State.takeStamp
  dsimp only
  split
  · split
    exacts [.inl rfl, .inr rfl]
  · exact .inr rfl

/-- A stamp is counted and kept beside the one before it. -/
structure Stamped (n count : Nat) (place : Int) (s t : State) : Prop where
  stamps : t.attr Attr.input_stamps n = (s.attr Attr.input_stamps n + 1) % (256 ^ Attr.input_stamps.bytes : Nat)
  counter : t.counter = s.counter
  other : ∀ m, m ≠ n → t.input m = s.input m
  lastStamp : (t.input n).lastStamp = some (count, place)
  prevStamp : (t.input n).prevStamp = (s.input n).lastStamp
  losFrom : (t.input n).losFrom = (s.input n).losFrom

theorem State.stamped_facts {count : Nat} {place : Int} : Stamped n count place s (s.stamped n count place) := by
  refine ⟨State.attr_put_same .., State.put_counter .., fun m hm => ?_, ?_, ?_, ?_⟩
  · rw [State.stamped, State.input_setInput_other _ _ hm]
    exact State.input_of_inputs (State.put_inputs ..) m
  all_goals rw [State.stamped, State.input_setInput]

theorem State.jumpFails_inputs : (∀ m, m ≠ n → (s.jumpFails n).input m = s.input m) ∧
    ∃ x, (s.jumpFails n).input n = { s.input n with fit := none, clean := false, soakFrom := x } := by
  have hsame := State.verdict_inputs (s := s.setInput n { s.input n with fit := none, clean := false }) (n := n) (k := 2) (fails := true)
  obtain ⟨x, hx⟩ := hsame.own
  exact ⟨fun m hm => (hsame.other m hm).trans (State.input_setInput_other s _ hm), x, by rw [State.jumpFails, hx, State.input_setInput]⟩

theorem State.takeStamp_facts {count : Nat} {place : Int} (hn : n < 36) : Stamped n count place s (s.takeStamp n count place) := by
  rcases State.takeStamp_cases (s := s) (n := n) (count := count) (place := place) with h | h
  · obtain ⟨hstamps, hcounter, hother, hlast, hprev, hlos⟩ := State.stamped_facts (s := s) (n := n) (count := count) (place := place)
    obtain ⟨hjother, x, hx⟩ := State.jumpFails_inputs (s := s.stamped n count place) (n := n)
    have hwrites : Writes verdictIds (s.stamped n count place) ((s.stamped n count place).jumpFails n) :=
      Writes.trans (.setInput .refl) (State.verdict_writes hn)
    rw [h]
    exact ⟨hwrites.attr.trans hstamps, State.verdict_counter.trans hcounter, fun m hm => (hjother m hm).trans (hother m hm), by rw [hx]; exact hlast,
      by rw [hx]; exact hprev, by rw [hx]; exact hlos⟩
  · rw [h]
    exact State.stamped_facts

/-! ### INPUT_EDGE (R93, R98 to R100) -/

/-- The mark of a frame that an edge starts. -/
def State.marked (s : State) (n : Nat) (place : Int) (starts : Bool) : State :=
  if starts then s.setInput n { s.input n with frameStart := some place } else s

theorem Labels.marked {place : Int} {starts : Bool} : Labels n s (s.marked n place starts) := by
  unfold State.marked
  split
  exacts [.setInput rfl rfl rfl rfl, .refl]

theorem State.signalEdge_inputType {count : Nat} (hn : n < 36) : (s.signalEdge n count).inputType n = s.inputType n :=
  State.inputType_of_attr ((State.signalEdge_facts hn).writes.attr (he := by omega))

theorem State.signalEdge_stampPlace {count : Nat} (hn : n < 36) {c v : Nat} : (s.signalEdge n count).stampPlace n c v = s.stampPlace n c v :=
  State.stampPlace_of ((State.signalEdge_facts hn).writes.attr (he := by omega)) (State.signalEdge_same .factory (by decide))
    (State.signalEdge_same .repair (by decide)) c v

section
variable {count vernier : Nat} {frameStart : Bool}

/-- An edge that is stamped: its signal, its stamp, its frame mark and its labels. -/
def State.edged (s : State) (n count : Nat) (place : Int) (frameStart : Bool) : State :=
  (((s.signalEdge n count).takeStamp n count place).marked n place
    (frameStart && decide ((s.signalEdge n count).inputType n = .video))).labelNext n place

theorem exec_inputEdge (hn : n < 36) (htiming : s.timing = true) (hon : s.inputOn n = true) (hdown : s.channelDown n = false)
    (htype : s.inputType n ≠ .ltc) :
    execInputEdge ⟨n, hn⟩ count vernier frameStart s = .next (s.edged n count (s.stampPlace n count vernier) frameStart) := by
  refine congrArg Host.Outcome.next ((if_pos (by simp [htiming, hon, hdown])).trans ?_)
  dsimp only
  rw [if_neg (by rwa [State.signalEdge_inputType hn]), State.signalEdge_stampPlace hn]
  rfl

theorem exec_inputEdge_ltc (hn : n < 36) (htiming : s.timing = true) (hon : s.inputOn n = true) (hdown : s.channelDown n = false)
    (htype : s.inputType n = .ltc) : execInputEdge ⟨n, hn⟩ count vernier frameStart s = .next (s.signalEdge n count) := by
  refine congrArg Host.Outcome.next ((if_pos (by simp [htiming, hon, hdown])).trans ?_)
  dsimp only
  rw [if_pos (by rwa [State.signalEdge_inputType hn])]

theorem State.edged_labels {place : Int} (hn : n < 36) :
    Labels n ((s.signalEdge n count).takeStamp n count place) (s.edged n count place frameStart) := Labels.marked.trans (.labelNext hn)

theorem inputEdge_facts (hn : n < 36) (htiming : s.timing = true) (hon : s.inputOn n = true) (hdown : s.channelDown n = false)
    (htype : s.inputType n ≠ .ltc) :
    ∃ t, execInputEdge ⟨n, hn⟩ count vernier frameStart s = .next t ∧
      t.attr Attr.input_stamps n = (s.attr Attr.input_stamps n + 1) % (256 ^ Attr.input_stamps.bytes : Nat) ∧
      (t.input n).lastStamp = some (count, s.stampPlace n count vernier) ∧ (t.input n).losFrom = count ∧
      (t.input n).prevStamp = (s.input n).lastStamp ∧ (∀ m, m ≠ n → t.input m = s.input m) ∧ t.counter = s.counter := by
  have hlabels := State.edged_labels (s := s) (n := n) (count := count) (place := s.stampPlace n count vernier) (frameStart := frameStart) hn
  obtain ⟨hstamps, hcounter, hother, hlast, hprev, hlos⟩ :=
    State.takeStamp_facts (s := s.signalEdge n count) (n := n) (count := count) (place := s.stampPlace n count vernier) hn
  obtain ⟨hwrites, hecounter, heother, helast, helos⟩ := State.signalEdge_facts (s := s) (n := n) (count := count) hn
  refine ⟨_, exec_inputEdge hn htiming hon hdown htype, ?_, hlabels.lastStamp.trans hlast, (hlabels.losFrom.trans hlos).trans helos,
    (hlabels.prevStamp.trans hprev).trans helast, fun m hm => ((hlabels.other m hm).trans (hother m hm)).trans (heother m hm),
    (hlabels.counter.trans hcounter).trans hecounter⟩
  rw [hlabels.writes.attr, hstamps, hwrites.attr]

theorem State.losRestarted_nominal : (s.losRestarted n count).nominal n = s.nominal n := by
  have hlast : ((s.losRestarted n count).input n).lastFormat = (s.input n).lastFormat := by rw [State.losRestarted, State.input_setInput]
  have hformat : (s.losRestarted n count).inputFormat n = s.inputFormat n := by
    unfold State.inputFormat
    rw [hlast]
    rfl
  have htype : (s.losRestarted n count).inputType n = s.inputType n := rfl
  unfold State.nominal
  rw [hformat, htype]
  rfl

theorem State.losRestarted_stampPlaces : (s.losRestarted n count).stampPlaces n = s.stampPlaces n := by
  have htype : (s.losRestarted n count).inputType n = s.inputType n := rfl
  have hprediv : (s.losRestarted n count).prediv n = s.prediv n := by
    unfold State.prediv
    rw [State.losRestarted_nominal]
    rfl
  unfold State.stampPlaces State.stampPeriod State.expectedPeriod State.stampDiv
  rw [State.losRestarted_nominal, htype, hprediv]

theorem State.losRestarted_modular : (s.losRestarted n count).modular n = s.modular n := rfl

theorem State.losRestarted_stampNumber {q : Int} : (s.losRestarted n count).stampNumber n q = s.stampNumber n q := by
  have hheld : ((s.losRestarted n count).input n).held = (s.input n).held := by rw [State.losRestarted, State.input_setInput]
  unfold State.stampNumber
  rw [hheld, State.losRestarted_stampPlaces, State.losRestarted_modular]

theorem State.losRestarted_departs {f : LineFit} {e : Int × Int} : (s.losRestarted n count).departs n f e = s.departs n f e := by
  have hlimit : (s.losRestarted n count).attrN Attr.input_phase_jump_limit n = s.attrN Attr.input_phase_jump_limit n := rfl
  unfold State.departs
  rw [State.losRestarted_stampPlaces, State.losRestarted_modular, hlimit]

theorem inputEdge_jump {f : LineFit} {q : Int} (hn : n < 36) (htiming : s.timing = true) (hon : s.inputOn n = true)
    (hdown : s.channelDown n = false) (htype : s.inputType n ≠ .ltc) (hsignal : bitOf (s.failing n) 0 = false) (hsupp : s.suppressed n = false)
    (hfit : (s.input n).fit = some f) (hq : q = s.monitorPlace n count (s.stampPlace n count vernier))
    (hdep : s.departs n f (s.stampNumber n q, q) = true) :
    ∃ t, execInputEdge ⟨n, hn⟩ count vernier frameStart s = .next t ∧ (t.input n).fit = none ∧ bitOf (t.failing n) 2 = true := by
  have hlabels := State.edged_labels (s := s) (n := n) (count := count) (place := s.stampPlace n count vernier) (frameStart := frameStart) hn
  have hedge := State.signalEdge_of_signal (count := count) hsignal
  have hinput : (s.signalEdge n count).input n = { s.input n with losFrom := count } := by rw [hedge, State.losRestarted, State.input_setInput]
  have hjump : (s.signalEdge n count).takeStamp n count (s.stampPlace n count vernier) =
      ((s.signalEdge n count).stamped n count (s.stampPlace n count vernier)).jumpFails n := by
    refine State.takeStamp_fit (f := f) (q := q) (by rw [hinput]; exact hfit) ?_ ?_ ?_
    · rw [hq, hedge]
      rfl
    · rw [hedge]
      exact hsupp
    · rw [hedge, State.losRestarted_stampNumber, State.losRestarted_departs]
      exact hdep
  obtain ⟨-, x, hx⟩ := State.jumpFails_inputs (s := (s.signalEdge n count).stamped n count (s.stampPlace n count vernier)) (n := n)
  refine ⟨_, exec_inputEdge hn htiming hon hdown htype, ?_, ?_⟩
  · rw [hlabels.fit, hjump, hx]
  · rw [hlabels.bits 2 (by omega), hjump]
    exact State.verdict_bit hn

theorem inputEdge_ltc (hn : n < 36) (htiming : s.timing = true) (hon : s.inputOn n = true) (hdown : s.channelDown n = false)
    (htype : s.inputType n = .ltc) :
    ∃ t, execInputEdge ⟨n, hn⟩ count vernier frameStart s = .next t ∧ (t.input n).losFrom = count ∧
      (t.input n).lastStamp = (s.input n).lastStamp ∧ t.attr Attr.input_stamps n = s.attr Attr.input_stamps n ∧
      (s.suppressed n = false → bitOf (t.failing n) 0 = false) := by
  obtain ⟨hwrites, -, -, hlast, hlos⟩ := State.signalEdge_facts (s := s) (n := n) (count := count) hn
  exact ⟨_, exec_inputEdge_ltc hn htiming hon hdown htype, hlos, hlast, hwrites.attr, State.signalEdge_bit hn⟩

end

end Sys2Proof.Machine
end

section
/-! The loss-of-signal time, the frequency gate and the soak of an input run out (R98, R99, R103). -/

set_option Elab.async false

namespace Sys2Proof.Machine

variable {s t u : State} {n m k : Nat}

/-! ### Loss of signal (R98) -/

theorem bitOf_or_lowest (f : Nat) : (f ||| 2 ^ 0) % 2 = 1 := by
  have hbit : bitOf (f ||| 2 ^ 0) 0 = true := by rw [bitOf_or_two_pow, decide_eq_true rfl, Bool.or_true]
  rwa [bitOf, Nat.pow_zero, Nat.div_one, beq_iff_eq] at hbit

/-- The loss-of-signal monitor disqualifies. -/
theorem State.flagged_loss_disqualified : (s.flagged n 0 true).disqualified n = true := by
  have hodd := bitOf_or_lowest (s.failing n)
  have hflags : verdictFlags (s.failing n) 0 true = s.failing n ||| 2 ^ 0 := if_pos rfl
  rw [State.disqualified, State.flagged_failing, hflags]
  simp only [bne_iff_ne, ne_eq, Bool.and_eq_true]
  omega

theorem State.loseSignal_inputs : (s.loseSignal n).inputs = s.inputs := by
  unfold State.loseSignal
  split
  · rfl
  · rw [State.verdict_eq, State.judgeInput_inputs_of_disqualified State.flagged_loss_disqualified, State.flagged, State.put1_inputs,
      State.raise_inputs]

theorem input_source (hn : n < 36) : Ev.defined (evInput n 0) = true ∧ evInput n 0 ∉ bookSources ∧ evInput n 0 ∉ [321, 322, 327, 328] ∧
    evInput n 0 ∉ judgeSources n := by
  interval_cases n <;> decide

theorem State.loseSignal_latch (hn : n < 36) (h : bitOf (s.failing n) 0 = false) :
    ((s.loseSignal n).latch (evInput n 0)).latched = true ∧ ((s.loseSignal n).latch (evInput n 0)).cause = true := by
  obtain ⟨hdefined, hbook, hfitted, hother⟩ := input_source hn
  have hlatch : (s.loseSignal n).latch (evInput n 0) = (s.raise (evInput n 0) true).latch (evInput n 0) := by
    unfold State.loseSignal
    rw [h, if_neg Bool.false_ne_true]
    exact State.verdict_raises.latch _ hother hbook
  rw [hlatch]
  exact ⟨State.raise_latched hdefined hbook hfitted, State.raise_cause hdefined hbook hfitted⟩

theorem losTimeout_facts (hn : n < 36) (htiming : s.timing = true) (hon : s.inputOn n = true) (hsupp : s.suppressed n = false)
    (hchannel : (s.channel n).failed = false) (hsignal : bitOf (s.failing n) 0 = false) :
    ∃ t, execLosTimeout ⟨n, hn⟩ s = .next t ∧ bitOf (t.failing n) 0 = true ∧ t.inputs = s.inputs ∧ (t.latch (evInput n 0)).latched = true ∧
      (t.latch (evInput n 0)).cause = true ∧ t.counter = max s.counter (s.losAt n) := by
  have hexec : execLosTimeout ⟨n, hn⟩ s = .next ((s.advance (s.losAt n)).loseSignal n) :=
    congrArg Host.Outcome.next (if_pos (by simp [htiming, hon, hsupp, hchannel, hsignal]))
  obtain ⟨hlatched, hcause⟩ := State.loseSignal_latch (s := s.advance (s.losAt n)) hn hsignal
  exact ⟨_, hexec, State.loseSignal_bit hn, State.loseSignal_inputs, hlatched, hcause, State.loseSignal_counter⟩

/-! ### The frequency gate (R99 to R101) -/

/-- An input at the begin of its next gate, with the verdict of the gate that ends. -/
def State.gated (s : State) (n : Nat) : State :=
  (s.nextGate n).setInput n { (s.nextGate n).input n with freqPass := s.gatePasses n }

theorem State.gated_input : ((s.gated n).input n).freqPass = s.gatePasses n ∧ ((s.gated n).input n).gate = [] ∧
    ((s.gated n).input n).gateStart = s.gateAt n := by
  rw [State.gated, State.input_setInput, State.nextGate, State.input_setInput]
  exact ⟨rfl, rfl, rfl⟩

/-- The offset of the gate that ends, as it is reported. -/
def State.gateReported (s : State) (n : Nat) : State :=
  match s.gateOffset n with
  | some (x, y) => (s.gated n).put1 Attr.input_freq_offset n (clampInt (-2147483647) 2147483647 (roundQuot (x * 1000000000000000) y))
  | none => s.gated n

theorem State.gateReported_same : s.sameBut (s.gateReported n) [.attrs, .store, .inputs] := by
  unfold State.gateReported State.gated
  split
  · exact (Evolves.put1 (.setInput (.nextGate .refl))).same
  · exact (Evolves.setInput (.nextGate .refl)).same

theorem State.gateReported_inputs : (s.gateReported n).inputs = (s.gated n).inputs := by
  unfold State.gateReported
  split
  exacts [State.put1_inputs .., rfl]

theorem State.gateReported_offset {x y : Int} (h : s.gateOffset n = some (x, y)) :
    (s.gateReported n).attr Attr.input_freq_offset n = clampInt (-2147483647) 2147483647 (roundQuot (x * 1000000000000000) y) := by
  rw [State.gateReported, h]
  exact State.attr_put1_same ..

/-- An input whose gate has ended, with the phase monitor passed where the gate fits. -/
def State.gateFitted (s : State) (n : Nat) : State :=
  if (s.input n).clean && (s.gateFit n).isSome then (s.gateReported n).verdict n 2 false else s.gateReported n

theorem exec_freqGate (hn : n < 36) (htiming : s.timing = true) (hon : s.inputOn n = true) (hu : u = s.advance (s.gateAt n))
    (hsupp : u.suppressed n = false) : execFreqGateComplete ⟨n, hn⟩ s = .next ((u.gateFitted n).verdict n 1 (!u.gatePasses n)) := by
  subst hu
  refine congrArg Host.Outcome.next ((if_pos (by simp [htiming, hon])).trans ?_)
  dsimp only
  rw [hsupp]
  rfl

theorem freqGate_facts (hn : n < 36) (htiming : s.timing = true) (hon : s.inputOn n = true) (hu : u = s.advance (s.gateAt n))
    (hsupp : u.suppressed n = false) :
    ∃ t, execFreqGateComplete ⟨n, hn⟩ s = .next t ∧ t.counter = u.counter ∧ (t.input n).freqPass = u.gatePasses n ∧
      bitOf (t.failing n) 1 = !u.gatePasses n ∧ (t.input n).gate = [] ∧ (t.input n).gateStart = s.gateAt n ∧
      ∀ x y, s.gateOffset n = some (x, y) →
        t.attr Attr.input_freq_offset n = clampInt (-2147483647) 2147483647 (roundQuot (x * 1000000000000000) y) := by
  have hfitted : SameInputs n (u.gateReported n) (u.gateFitted n) ∧ Writes verdictIds (u.gateReported n) (u.gateFitted n) ∧
      (u.gateFitted n).counter = (u.gateReported n).counter := by
    unfold State.gateFitted
    split
    · exact ⟨State.verdict_inputs, State.verdict_writes hn, State.verdict_counter⟩
    · exact ⟨.of_inputs rfl, .refl, rfl⟩
  obtain ⟨hinputs, hwrites, hcounter⟩ := hfitted
  obtain ⟨x, hx⟩ := (hinputs.trans (State.verdict_inputs (k := 1) (fails := !u.gatePasses n))).own
  obtain ⟨hpass, hgate, hstart⟩ := State.gated_input (s := u) (n := n)
  have hreported := State.input_of_inputs (State.gateReported_inputs (s := u) (n := n)) n
  refine ⟨_, exec_freqGate hn htiming hon hu hsupp, ?_, ?_, State.verdict_bit hn, ?_, ?_, fun x y hxy => ?_⟩
  · rw [State.verdict_counter, hcounter]
    exact State.gateReported_same .counter (by decide)
  · rw [hx, hreported]
    exact hpass
  · rw [hx, hreported]
    exact hgate
  · rw [hx, hreported]
    exact hstart.trans (hu ▸ rfl)
  · rw [(State.verdict_writes hn).attr, hwrites.attr]
    exact State.gateReported_offset (hu ▸ hxy)

/-- An input at the begin of its next gate, without a verdict. -/
def State.regated (s : State) (n now : Nat) : State := s.setInput n { (s.input n).newGate now with clean := false }

theorem State.regated_record {now : Nat} : (s.regated n now).input n = { (s.input n).newGate now with clean := false } := State.input_setInput ..

theorem State.regated_gate {now : Nat} : ((s.regated n now).input n).gate = [] := by rw [State.regated_record, InputRec.newGate]
theorem State.regated_pass {now : Nat} : ((s.regated n now).input n).freqPass = (s.input n).freqPass := by
  rw [State.regated_record, InputRec.newGate]

theorem exec_freqGate_suppressed (hn : n < 36) (htiming : s.timing = true) (hon : s.inputOn n = true)
    (hsupp : (s.advance (s.gateAt n)).suppressed n = true) : execFreqGateComplete ⟨n, hn⟩ s = .next ((s.advance (s.gateAt n)).regated n ((s.advance (s.gateAt n)).gateAt n)) := by
  unfold execFreqGateComplete
  rw [State.when_, if_pos (by simp [htiming, hon])]
  dsimp only
  rw [if_pos hsupp, State.regated]

theorem freqGate_suppressed (hn : n < 36) (htiming : s.timing = true) (hon : s.inputOn n = true)
    (hsupp : (s.advance (s.gateAt n)).suppressed n = true) :
    ∃ t, execFreqGateComplete ⟨n, hn⟩ s = .next t ∧ t.counter = max s.counter (s.gateAt n) ∧ (t.input n).gate = [] ∧
      (t.input n).freqPass = (s.input n).freqPass ∧ s.sameBut t [.counter, .inputs] := by
  have hexec := exec_freqGate_suppressed hn htiming hon hsupp
  have hcounter : (s.advance (s.gateAt n)).counter = max s.counter (s.gateAt n) := by rw [State.advance]
  have hinput : (s.advance (s.gateAt n)).input n = s.input n := State.input_of_inputs (State.advance_inputs ..) n
  generalize s.gateAt n = at_ at *
  have hregated : (s.advance at_).sameBut ((s.advance at_).regated n ((s.advance at_).gateAt n)) [.inputs] := (Evolves.setInput .refl).same
  refine ⟨_, hexec, (hregated .counter (by decide)).trans hcounter, State.regated_gate, State.regated_pass.trans (hinput ▸ rfl),
    State.sameBut_trans (Evolves.advance (P := [.counter, .inputs]) .refl).same (State.sameBut_mono hregated (by decide))⟩

/-! ### The soak (R103) -/

theorem State.extJoin_writes : Writes memberIds s s.extJoin := by
  have hjoined : Writes memberIds s (s.setOsc 3 .member) := Writes.put .refl
  unfold State.extJoin
  refine .ite ?_ .refl
  dsimp only
  exact .ite ((Writes.put hjoined).trans State.settleWeights_writes) (hjoined.trans State.reweigh_writes)

theorem State.sourceReturned_writes {ids : List Nat} {x : Nat} : Writes ids s (s.sourceReturned x) :=
  .of_same .refl (Evolves.sourceReturned (P := [.sels]) .refl).same

/-- An input whose soak has run out, before the ensemble takes it. -/
def State.soaked (s : State) (n : Nat) : State :=
  ((s.put1 Attr.input_qual_state n QualState.qualified.code).uncause (evInput n 1)).sourceReturned n

/-- The ensemble after an input has become QUALIFIED. -/
def State.joinedBy (s : State) (n : Nat) : State := if s.attr Attr.ext_input = n then s.extJoin else s

theorem State.joinedBy_writes : Writes memberIds s (s.joinedBy n) := .ite State.extJoin_writes .refl

theorem State.joinedBy_same : s.sameBut (s.joinedBy n) [.attrs, .store, .crucible] := (Evolves.ite (.extJoin .refl) .refl).same

theorem soakExpiry_facts (hn : n < 36) (htiming : s.timing = true) (hsoaking : s.attr Attr.input_qual_state n = QualState.soaking.code) :
    ∃ t, execSoakExpiry ⟨n, hn⟩ s = .next t ∧ t.attr Attr.input_qual_state n = QualState.qualified.code ∧
      (t.latch (evInput n 1)).cause = false ∧ t.inputs = s.inputs ∧ t.counter = max s.counter (s.soakAt n) := by
  let u := s.advance (s.soakAt n)
  have hexec : execSoakExpiry ⟨n, hn⟩ s = .next ((u.soaked n).joinedBy n) := congrArg Host.Outcome.next (if_pos (by simp [htiming, hsoaking]))
  have hsame : u.sameBut ((u.soaked n).joinedBy n) [.attrs, .store, .crucible, .faults, .sels] :=
    (Evolves.ite (.extJoin (.sourceReturned (.uncause (.put1 .refl)))) (.sourceReturned (.uncause (.put1 .refl)))).same
  refine ⟨_, hexec, ?_, ?_, hsame .inputs (by decide), hsame .counter (by decide)⟩
  · rw [State.joinedBy_writes.attr, State.soaked, (State.sourceReturned_writes (ids := [])).attr, State.attr_of_attrs (State.uncause_attrs ..),
      State.attr_put1_same]
  · rw [State.latch_of_faults (State.joinedBy_same .faults (by decide)), State.soaked,
      State.latch_of_faults ((Evolves.sourceReturned (P := [.sels]) .refl).same .faults (by decide)), State.uncause_cause]

/-- Settles O34: edges are stamped and judged, and the times of the hardware monitors run out at their instants. -/
theorem inputMonitors : Obligations.InputMonitors := by
  unfold Obligations.InputMonitors
  exact ⟨fun _ n _ _ _ htiming hon hdown htype => inputEdge_facts n.isLt htiming hon hdown htype,
    fun _ n _ _ _ _ _ htiming hon hdown htype hsignal hsupp hfit hq hdep =>
      inputEdge_jump n.isLt htiming hon hdown htype hsignal hsupp hfit hq hdep,
    fun _ n _ _ _ htiming hon hdown htype => inputEdge_ltc n.isLt htiming hon hdown htype,
    fun _ n htiming hon hsupp hchannel hsignal => losTimeout_facts n.isLt htiming hon hsupp hchannel hsignal,
    fun _ _ n htiming hon hu hsupp => freqGate_facts n.isLt htiming hon hu hsupp,
    fun _ n htiming hon hsupp => freqGate_suppressed n.isLt htiming hon hsupp,
    fun _ n htiming hsoaking => soakExpiry_facts n.isLt htiming hsoaking⟩

end Sys2Proof.Machine
end

section
/-! Labels of an input whose `time_domain` is no domain: the offset that they are converted with is not its own (R115, R116, R120, R344). -/

set_option Elab.async false

namespace Sys2Proof.Machine

/-- A number far beyond the 512 domains: its `utc_offset` has the place of `port_tx_drops` of ETHp0. -/
def strayDomain : Nat := (Attr.port_tx_drops.id - Attr.domain_utc_offset.id) * 65536

theorem strayDomain_offset : Attr.domain_utc_offset.key strayDomain 0 = Attr.port_tx_drops.key 0 0 := by decide +kernel

/-- A module whose input n names that number as its `time_domain`, with a quality event that is SEVERE at its first occurrence and holds
ETHp0, and one frame in the buffer of ETHp0: the event drops it, and the frame is counted (R431). -/
def strayInput (n : Nat) : State :=
  let s := ((State.reset.put1 Attr.input_enable n 1).put1 Attr.input_time_domain n strayDomain).put1 Attr.fault_count_n (evInput n 3) 1
  { (s.setLatch (evInput n 3) { held := [.port 0] }).setPort 0 { buffer := [{ cls := .hardware, queue := 65535 }] } with
    boot := { phase := .running } }

/-- A time that is nearest to the time of a domain after reset by its two-digit year. -/
def strayTime : CivilTime := { year := 1990, month := 1, day := 2, hour := 3, minute := 4, second := 5 }

/-! ### An LTC frame (R120) -/

theorem exec_ltcFrameDecoded {s : State} {n : Fin 2} {rate : Fin 6} {civil : CivilTime} {frame count vernier : Nat} {zone : Fin 64}
    (htiming : s.timing = true) (hcontrol : s.control = true) (hon : s.inputOn (20 + n.val) = true) (hdown : s.channelDown (20 + n.val) = false) :
    exec (.ltcFrameDecoded n rate civil frame zone count vernier) s = .next ((s.takeStamp (20 + n.val) count
      (s.stampPlace (20 + n.val) count vernier)).ltcDecoded (20 + n.val) rate.val civil frame zone.val
      (s.stampPlace (20 + n.val) count vernier)) :=
  congrArg Host.Outcome.next ((if_pos (by simp [htiming, hon, hdown])).trans (if_pos hcontrol))

/-- The offset of 37 s before the frame gives way to the one dropped frame. -/
theorem strayFrame_time : (strayInput 20).ltcTime 20 strayTime = some 631249482 ∧
    ((((strayInput 20).takeStamp 20 5 ((strayInput 20).stampPlace 20 5 6)).ltcDecoded 20 2 strayTime 3 0
      ((strayInput 20).stampPlace 20 5 6)).input 20).ltcTime = some (631249446, 3, (strayInput 20).stampPlace 20 5 6) := by
  decide +kernel

/-- Refutes O35: its clause of LTC_FRAME_DECODED names the time that the frame had before the row. The clause bounds no value of
`time_domain`, and where that is no domain the count of frames which the change of `ltc_rate` drops stands in the place of the offset. -/
theorem not_inputFirmware : ¬ Obligations.InputFirmware := by
  unfold Obligations.InputFirmware
  rintro ⟨-, -, -, -, -, hframe, -⟩
  obtain ⟨t, hexec, -, htime, -⟩ := hframe (strayInput 20) 0 2 strayTime 3 0 5 6 631249482 (by decide +kernel) (by decide +kernel)
    (by decide +kernel) (by decide +kernel) (by decide) (by decide) strayFrame_time.1
  have hrow := exec_ltcFrameDecoded (s := strayInput 20) (n := 0) (rate := 2) (civil := strayTime) (frame := 3) (zone := 0) (count := 5)
    (vernier := 6) (by decide +kernel) (by decide +kernel) (by decide +kernel) (by decide +kernel)
  rw [Host.Outcome.next.inj (hexec.symm.trans hrow)] at htime
  have hboth := strayFrame_time.2.symm.trans htime
  rw [Option.some.injEq, Prod.mk.injEq] at hboth
  exact absurd hboth.1 (by decide)

/-! ### An NMEA message (R115, R116) -/

/-- That module with a receiver on its input 0, which has stamped one edge. -/
def strayReceiver : State :=
  ((((strayInput 0).put1 Attr.input_type 0 InputType.pps.code).put1 Attr.input_tod_protocol 0 1).put1 Attr.input_tod_rx 0 1).setInput 0
    { lastStamp := some (0, 0) }

/-- A message after a character whose stop bit fails. -/
def strayTiming : LabelTiming := { checksumOk := true, samples := List.replicate 154 false, start := 2700000, stop := 0 }

/-- The offset of 37 s before the message gives way to the one frame that the quality event of the framing error drops. -/
theorem strayMessage_time : strayReceiver.utcToDomain (strayReceiver.attrN Attr.input_time_domain 0)
      (strayReceiver.domTimeAt (strayReceiver.attrN Attr.input_time_domain 0) 0) strayTime = some 631249482 ∧
    ((strayReceiver.nmea 0 strayTiming strayTime false true).input 0).sequence = some (631249446, 0) := by
  decide +kernel

/-- Refutes O36: its clause of NMEA_ZDA labels the edge with the time that the message had before the row. The clause bounds no value of
`time_domain`, and where that is no domain the count of frames which a framing error drops stands in the place of the offset. -/
theorem not_timeOfDayMessages : ¬ Obligations.TimeOfDayMessages := by
  unfold Obligations.TimeOfDayMessages
  rintro ⟨-, -, -, hzda, -⟩
  obtain ⟨t, hexec, hlabel, -⟩ := hzda strayReceiver 0 0 0 0 strayTiming strayTime 631249482 (by decide +kernel) (by decide +kernel)
    (by decide +kernel) rfl (by decide +kernel) (by decide +kernel) (by decide) strayMessage_time.1 (by decide +kernel)
  have hrow : exec (.nmeaZda 0 strayTiming strayTime) strayReceiver = .next (strayReceiver.nmea 0 strayTiming strayTime false true) := rfl
  rw [Host.Outcome.next.inj (hexec.symm.trans hrow)] at hlabel
  have hboth := strayMessage_time.2.symm.trans hlabel
  rw [Option.some.injEq, Prod.mk.injEq] at hboth
  exact absurd hboth.1 (by decide)

end Sys2Proof.Machine
end

section
/-! What a binding keeps while messages are counted and sources occur (R274, R278, R286). -/

set_option Elab.async false

namespace Sys2Proof.Machine

variable {s t u : State} {n m p k : Nat}

/-! ### The run-time records of the bindings -/

/-- What is kept of the bindings at run time is the same. -/
structure Binds (s t : State) : Prop where
  bind : ∀ p k, t.bindRec p k = s.bindRec p k

namespace Binds

theorem refl : Binds s s := ⟨fun _ _ => rfl⟩
theorem trans (h : Binds s t) (h' : Binds t u) : Binds s u := ⟨fun p k => (h'.bind p k).trans (h.bind p k)⟩

theorem of_net (h : Binds s t) (hn : u.net = t.net := by simp) : Binds s u := h.trans ⟨fun _ _ => State.bindRec_of_net hn⟩

/-- An operation that changes the listed parts only, and the ports not among them. -/
theorem of_same {P : List Part} (h : Binds s t) (hev : t.sameBut u P) (hP : Part.net ∉ P := by decide) : Binds s u := h.of_net (hev .net hP)

theorem ite (ht : Binds s t) (hu : Binds s u) {c : Prop} [Decidable c] : Binds s (if c then t else u) := by split <;> assumption

theorem setPort (h : Binds s t) {q : Nat} {r : PortRec} (hr : r.binds = (t.port q).binds) : Binds s (t.setPort q r) := by
  refine h.trans ⟨fun p k => ?_⟩
  unfold State.bindRec
  by_cases hp : p = q
  · rw [hp, State.port_setPort, hr]
  · rw [State.port_setPort_other t r hp]

theorem dropFrames (h : Binds s t) {q : Nat} : Binds s (t.dropFrames q) :=
  (h.setPort (q := q) (r := (t.port q).dropped) rfl).trans ⟨fun _ _ => State.bindRec_of_net State.dropFrames_net⟩

theorem raise (h : Binds s t) {ev d : Nat} {c : Bool} {x : List ScopeItem} : Binds s (t.raise ev c d x) := by
  unfold State.raise
  dsimp only
  split
  · refine State.forEach_induct (P := fun u => Binds s u) _ (fun u q hu => ?_) _ _ (h.of_net (by simp))
    exact .ite hu.dropFrames hu
  · exact h.of_net (by simp)

theorem raiseOnce (h : Binds s t) {ev d : Nat} {c : Bool} : Binds s (t.raiseOnce ev d c) := by
  unfold State.raiseOnce
  exact .ite (.raise (h.of_net (by simp))) h

theorem forEach (h : Binds s t) {f : State → Nat → State} {l : List Nat} (hf : ∀ (u : State) (n : Nat), Binds u (f u n)) : Binds s (t.forEach l f) :=
  State.forEach_induct (P := fun u => Binds s u) _ (fun u n hu => hu.trans (hf u n)) _ _ h

/-! ### What an Announce teaches a domain (R80) -/

theorem judgeDate (h : Binds s t) {g : Nat} : Binds s (t.judgeDate g) := by
  have hclear : Binds s (t.clearDate g) := h.of_same (Evolves.clearDate (P := [.gens, .faults]) .refl).same
  have hset : ∀ r, Binds s (t.setGen g r) := fun r => h.of_net (State.setGen_net ..)
  unfold State.judgeDate
  dsimp only
  split
  · exact hclear
  · split
    exacts [h, (hset _).raise]

theorem followZone (h : Binds s t) {d : Nat} : Binds s (t.followZone d) := by
  have hlag : ∀ l : List Nat, Binds s (t.forEach l fun u g => u.setGen g { u.gen g with tzLag := none }) := fun l =>
    h.forEach fun u g => refl.of_net (State.setGen_net ..)
  unfold State.followZone State.tzExhausted
  dsimp only
  split
  · split
    · exact hlag _
    · split
      · exact .raise ((hlag _).of_net (State.setDom_net ..))
      · exact (hlag _).of_net (State.setDom_net ..)
  · exact h

theorem setUtcOffset (h : Binds s t) {d : Nat} {o : Int} {commanded : Bool} : Binds s (t.setUtcOffset d o commanded) := by
  have hput : Binds s (t.put1 Attr.domain_utc_offset d o) := h.of_net (State.put1_net ..)
  have hzone : Binds s ((t.put1 Attr.domain_utc_offset d o).retz d) := hput.followZone.forEach fun _ _ => refl.judgeDate
  unfold State.setUtcOffset
  dsimp only
  split
  exacts [hzone.of_net (State.put1_net ..), hzone]

theorem learnOffset (h : Binds s t) {d : Nat} {o : Int} : Binds s (t.learnOffset d o) := by
  have hset : ∀ r, Binds s (t.setDom d r) := fun r => h.of_net (State.setDom_net ..)
  unfold State.learnOffset
  dsimp only
  split
  · exact hset _
  · split
    · exact (hset _).of_net (State.setDom_net ..)
    · exact (hset _).setUtcOffset

theorem judgeLeap (h : Binds s t) {d : Nat} : Binds s (t.judgeLeap d) := by
  have hput : ∀ r v, Binds s ((t.setDom d r).put1 Attr.domain_leap_disagree d v) := fun r v => h.of_net ((State.put1_net ..).trans (State.setDom_net ..))
  unfold State.judgeLeap
  extract_lets r a b u v w
  have hu : Binds s u := hput _ _
  have hv : Binds s v := .ite hu.raise hu
  have hw : Binds s w := .ite hv.raise hv
  split
  exacts [hw, hw.of_net (State.uncause_net ..)]

theorem learnUtc (h : Binds s t) {d : Nat} {f : UtcFields} : Binds s (t.learnUtc d f) := by
  unfold State.learnUtc
  extract_lets v w
  have hv : Binds s v := by
    dsimp only [v]
    split
    exacts [h.learnOffset, h]
  have hw : Binds s w := .ite hv (hv.of_same (Evolves.learnLeap (P := [.attrs, .doms, .store]) .refl).same)
  exact hw.judgeLeap.of_same (Evolves.enforceLimit (P := [.attrs, .faults, .store]) .refl).same

end Binds

/-! ### Keys of attributes by their ids -/

/-- Attributes of a lower id have other keys, whatever the place of the higher one. -/
theorem key_ne_above {a b : AttrDesc} {i e j : Nat} (h : a.id < b.id := by decide) (hi : i < 65536 := by omega) (he : e < 65536 := by omega) :
    a.key i e ≠ b.key j 0 := by
  unfold AttrDesc.key
  split <;> split <;> omega

/-- Attributes of a lower id have other keys for instances that are no higher. -/
theorem key_ne_of_le {a b : AttrDesc} {i j : Nat} (h : i ≤ j) (hid : a.id < b.id := by decide) (hb : b.shared = false := by decide)
    (ha : a.shared = false := by decide) : a.key i 0 ≠ b.key j 0 := by
  unfold AttrDesc.key
  rw [ha, hb, if_neg Bool.false_ne_true, if_neg Bool.false_ne_true]
  omega

/-! ### A session counts a message (R286, R386) -/

theorem State.requestPage_find {lpn x : Nat} (h : x ≠ Attr.cache_counts.key 0 2) : tblFind (s.requestPage lpn).attrs x = tblFind s.attrs x := by
  unfold State.requestPage State.startFill State.setCache
  split
  · split
    · rfl
    · rfl
    · split <;> rfl
    · split
      · exact State.find_put_other _ _ h
      · rfl
  · split
    · rfl
    · split
      · rfl
      · dsimp only
        split <;> rfl

/-- The record of a session that has counted a message. -/
def SessRec.heard (r : SessRec) (kind seq : Nat) : SessRec := { r with lastSeq := tblPut r.lastSeq kind seq }

theorem State.countReceived_find {kind seq x : Nat} (hcache : x ≠ Attr.cache_counts.key 0 2) (hmsgs : x ≠ Attr.session_rx_msgs.key n 0)
    (hlost : x ≠ Attr.session_rx_lost.key n 0) : tblFind (s.countReceived n kind seq).attrs x = tblFind s.attrs x := by
  unfold State.countReceived
  exact (State.find_put_other _ _ hlost).trans ((State.find_put_other _ _ hmsgs).trans (State.requestPage_find hcache))

theorem State.countReceived_net {kind seq : Nat} : (s.countReceived n kind seq).net = (s.setSess n ((s.sess n).heard kind seq)).net := by
  unfold State.countReceived
  refine (State.put_net ..).trans ((State.put_net ..).trans ?_)
  rw [State.setSess, State.setSess, State.useEntry_net]
  rfl

/-- What a message counted for the session of its sender leaves alone. -/
structure Counted (s t : State) : Prop where
  attr : ∀ (a : AttrDesc) (i e : Nat), a.id < Attr.session_rx_msgs.id → a.id ≠ Attr.cache_counts.id → i < 65536 → e < 65536 →
    t.attr a i e = s.attr a i e
  binds : Binds s t
  same : s.sameBut t [.attrs, .tm, .store, .net]
  read : ∀ x l, t.tmRead x l = s.tmRead x l

theorem Counted.refl : Counted s s := ⟨fun _ _ _ _ _ _ _ => rfl, .refl, fun q _ => s.same_refl q, fun _ _ => rfl⟩

theorem State.requestPage_tm {lpn : Nat} : (s.requestPage lpn).tm.bytes = s.tm.bytes ∧ (s.requestPage lpn).tm.frames = s.tm.frames := by
  unfold State.requestPage State.startFill State.setCache
  split
  · split
    · exact ⟨rfl, rfl⟩
    · exact ⟨rfl, rfl⟩
    · split <;> exact ⟨rfl, rfl⟩
    · split
      · exact ⟨(congrArg TableMem.bytes (State.put_tm ..)).trans rfl, (congrArg TableMem.frames (State.put_tm ..)).trans rfl⟩
      · exact ⟨rfl, rfl⟩
  · split
    · exact ⟨rfl, rfl⟩
    · split
      · exact ⟨rfl, rfl⟩
      · dsimp only
        split <;> exact ⟨rfl, rfl⟩

theorem State.tmRead_of (hb : t.tm.bytes = s.tm.bytes) (hf : t.tm.frames = s.tm.frames)
    (hc : ∀ e, e < 32 → t.attr Attr.cullet 0 e = s.attr Attr.cullet 0 e) (x l : Nat) : t.tmRead x l = s.tmRead x l := by
  have hcullet : t.cullet = s.cullet := by
    unfold State.cullet
    refine List.filterMap_congr fun e he => ?_
    rw [State.attrN, hc e (List.mem_range.mp he), State.attrN]
  have hframe : t.frameOf (x / 4096) = s.frameOf (x / 4096) := by
    unfold State.frameOf
    rw [hcullet]
  unfold State.tmRead State.poisoned State.frame TableMem.read
  rw [hb, hf, hframe]

theorem State.countReceived_counted {kind seq : Nat} : Counted s (s.countReceived n kind seq) := by
  have hattr : ∀ (a : AttrDesc) (i e : Nat), a.id < Attr.session_rx_msgs.id → a.id ≠ Attr.cache_counts.id → i < 65536 → e < 65536 →
      (s.countReceived n kind seq).attr a i e = s.attr a i e := fun a i e hid hne hi he =>
    State.attr_of_find (State.countReceived_find (key_ne_of_id hne hi he (by decide) (by decide)) (key_ne_above hid)
      (key_ne_above (Nat.lt_trans hid (by decide))))
  have htm : (s.countReceived n kind seq).tm = (s.useEntry n).tm := by
    unfold State.countReceived
    exact (State.put_tm ..).trans ((State.put_tm ..).trans rfl)
  refine ⟨hattr, ⟨fun p k => ?_⟩, (Evolves.countReceived .refl).same, fun x l => ?_⟩
  · rw [State.bindRec_of_net State.countReceived_net]
    rfl
  · refine State.tmRead_of ?_ ?_ (fun e he => hattr _ _ _ (by decide) (by decide) (by decide) (by omega)) x l
    · rw [htm]
      exact State.requestPage_tm.1
    · rw [htm]
      exact State.requestPage_tm.2

theorem State.countFrom_counted {kind : Nat} {head : PtpHead} : Counted s (s.countFrom p k kind head) := by
  unfold State.countFrom
  split
  exacts [State.countReceived_counted, .refl]

/-! ### The session of a partner (R278) -/

/-- Whether a session stands on a binding with a partner. -/
def State.partners (s : State) (p k : Nat) (w : Partner) (n : Nat) : Bool :=
  s.attr Attr.session_sess_state n != 0 && s.attrN Attr.session_sess_binding n == k * 256 + p && samePartner (s.sess n).partner w

theorem State.partnerSession_eq {w : Partner} :
    s.partnerSession p k w = (s.net.sessions.find? fun e => s.partners p k w e.1).map (·.1) := by
  rw [State.partnerSession, State.sessionsOf, State.sessions, List.filter_map, List.find?_map, List.find?_filter, List.find?_filter]
  congr 2
  funext e
  simp only [State.partners, Function.comp_apply, Bool.decide_and, Bool.decide_eq_true, Bool.and_assoc]

/-- An entry whose number a predicate meets first stays the first after it is written anew, where the predicate does not change up to that
number. -/
theorem find_tblPut_first {α : Type} {P Q : Nat → Bool} {x : α} {l : Tbl α} (h : (l.find? fun e => P e.1).map (·.1) = some n)
    (hQ : ∀ j, j ≤ n → Q j = P j) : ((tblPut l n x).find? fun e => Q e.1).map (·.1) = some n := by
  have hn : Q n = true := by
    obtain ⟨e, he, heq⟩ := Option.map_eq_some_iff.mp h
    rw [hQ n (Nat.le_refl n), ← heq]
    exact List.find?_some (p := fun e : Nat × α => P e.1) he
  induction l with
  | nil => exact absurd h (by simp)
  | cons e es ih =>
    obtain ⟨j, y⟩ := e
    unfold tblPut
    split
    · simp [hn]
    · split
      · simp [hn]
      · next hne hge =>
        have hlt : j < n := by omega
        have hj : P j = false := by
          by_contra hP
          simp only [List.find?_cons, Bool.not_eq_false] at h hP
          rw [hP] at h
          simp at h
          omega
        simp only [List.find?_cons, hj] at h
        simpa [List.find?_cons, (hQ j (by omega)).trans hj] using ih h

theorem tblPut_ne_nil {α : Type} {l : Tbl α} {x : α} : tblPut l n x ≠ [] := by
  cases l with
  | nil => exact List.cons_ne_nil (n, x) []
  | cons e es =>
    unfold tblPut
    split
    · exact List.cons_ne_nil _ _
    · split <;> exact List.cons_ne_nil _ _

theorem State.countReceived_sessions {kind seq : Nat} :
    (s.countReceived n kind seq).net.sessions = tblPut s.net.sessions n ((s.sess n).heard kind seq) := by
  have hne : (s.sess n).heard kind seq ≠ {} := fun heq => tblPut_ne_nil (congrArg SessRec.lastSeq heq)
  rw [State.countReceived_net]
  exact if_neg hne

theorem State.countReceived_partners {kind seq j : Nat} {w : Partner} (h : j ≤ n) :
    (s.countReceived n kind seq).partners p k w j = s.partners p k w j := by
  have hattr : ∀ a : AttrDesc, a.id < Attr.session_rx_msgs.id → a.id ≠ Attr.cache_counts.id → a.shared = false → Attr.cache_counts.id < a.id →
      (s.countReceived n kind seq).attr a j = s.attr a j := fun a hid hne hsh hup => by
    refine State.attr_of_find (State.countReceived_find (fun heq => ?_) (key_ne_of_le h hid rfl hsh) (key_ne_of_le h (Nat.lt_trans hid (by decide)) rfl hsh))
    exact key_ne_above (a := Attr.cache_counts) (i := 0) (e := 2) hup (by decide) (by decide) heq.symm
  have hpartner : ((s.countReceived n kind seq).sess j).partner = (s.sess j).partner := by
    rw [State.sess_of_net State.countReceived_net]
    by_cases hj : j = n
    · rw [hj, State.sess_setSess]
      rfl
    · rw [State.sess_setSess_other _ _ hj]
  simp only [State.partners, State.attrN, hpartner, hattr Attr.session_sess_state (by decide) (by decide) rfl (by decide),
    hattr Attr.session_sess_binding (by decide) (by decide) rfl (by decide)]

/-- The session of a partner is the same after it has counted a message. -/
theorem State.countFrom_partnerSession {kind : Nat} {head : PtpHead} :
    (s.countFrom p k kind head).partnerSession p k head.sender = s.partnerSession p k head.sender := by
  unfold State.countFrom
  split
  · next n hn =>
    rw [hn, State.partnerSession_eq, State.countReceived_sessions]
    exact find_tblPut_first (State.partnerSession_eq ▸ hn) fun j hj => State.countReceived_partners hj
  · rfl

/-- The session of the sender bears the same role after it has counted a message. -/
theorem State.countFrom_grantee {kind : Nat} {head : PtpHead} (h : s.partnerSession p k head.sender = some n) :
    (s.countFrom p k kind head).grantee n = s.grantee n := by
  have hattr : (s.countReceived n kind head.seq).attr Attr.session_sess_role n = s.attr Attr.session_sess_role n := by
    refine State.attr_of_find (State.countReceived_find (fun heq => ?_) (key_ne_of_le (Nat.le_refl n)) (key_ne_of_le (Nat.le_refl n)))
    exact key_ne_above (a := Attr.cache_counts) (i := 0) (e := 2) (by decide) (by decide) (by decide) heq.symm
  rw [State.countFrom, h]
  exact congrArg (· == SessRole.grantee.code) hattr

theorem State.countFrom_asymmetry {kind : Nat} {head : PtpHead} (hp : p < 4) :
    (s.countFrom p k kind head).asymmetry p k head.sender = s.asymmetry p k head.sender := by
  have hcounted : Counted s (s.countFrom p k kind head) := State.countFrom_counted
  have hdelay := hcounted.attr Attr.port_delay_asymmetry p 0 (by decide) (by decide) (by omega) (by decide)
  have hread : ∀ n, (s.countFrom p k kind head).asymCorr n = s.asymCorr n := fun n => by rw [State.asymCorr, hcounted.read, State.asymCorr]
  unfold State.asymmetry
  rw [State.countFrom_partnerSession, hdelay]
  split
  · next n hn => rw [State.countFrom_grantee hn, hread]
  · rfl

end Sys2Proof.Machine
end

section
/-! PTP messages that a binding receives (R255, R257, R266, R267, R270, R274, R283). -/

set_option Elab.async false

namespace Sys2Proof.Machine

variable {s t u : State} {n m p k : Nat} {slot : Fin 32} {head : PtpHead}

/-! ### Announce (R80, R145, R274) -/

theorem Binds.learnPartner {w : Partner} : Binds s (s.learnPartner p k w) := by
  unfold State.learnPartner
  split
  · split
    exacts [⟨fun _ _ => rfl⟩, .refl]
  · exact .refl

/-- A binding that has heard an Announce. -/
def State.announceHeard (s : State) (p k : Nat) (head : PtpHead) (fields : AnnounceFields) : State :=
  let t := (s.learnPartner p k head.sender).countFrom p k 0 head
  t.setBindRec p k ((t.bindRec p k).hear (t.binding p k) head.sender fields t.counter)

theorem State.announceHeard_parent {fields : AnnounceFields} : ((s.announceHeard p k head fields).bindRec p k).parent = (s.bindRec p k).parent := by
  have hbinds : Binds s ((s.learnPartner p k head.sender).countFrom p k 0 head) := Binds.learnPartner.trans State.countFrom_counted.binds
  rw [State.announceHeard, State.bindRec_setBindRec, ← hbinds.bind]
  rfl

/-- A binding that keeps the Announce of its parent. -/
def State.announceKept (s : State) (p k : Nat) (fields : AnnounceFields) : State :=
  s.setBindRec p k { s.bindRec p k with announce := some fields, announceAlive := true }

/-- The reference of a domain by the grade of its parent's Announce. -/
def State.announceGraded (s : State) (d : Nat) (fields : AnnounceFields) : State :=
  if announceGrade fields.clockClass fields.clockAccuracy = 15 then s.setQualified d false else s

/-- The domains that an Announce of a master in use teaches. -/
def State.announceTaught (s : State) (p k d : Nat) (fields : AnnounceFields) : State :=
  if s.portState p k = 9 then s.forEach (s.taughtBy d) fun y e => y.learnUtc e fields.utc else s

theorem Binds.announceGraded {d : Nat} {fields : AnnounceFields} : Binds s (s.announceGraded d fields) :=
  .ite (.of_same .refl (Evolves.setQualified (P := [.doms, .sels]) .refl).same) .refl

theorem Binds.announceTaught {d : Nat} {fields : AnnounceFields} : Binds s (s.announceTaught p k d fields) :=
  .ite (.forEach .refl fun _ _ => .learnUtc .refl) .refl

theorem exec_announceReceived {fields : AnnounceFields} (hp : p < 4) (hup : s.engines = true) (hready : s.portReady p = true)
    (hused : s.bindUsed p slot.val = true) (hauth : s.authPasses p slot.val head = true)
    (hparent : (s.bindRec p slot.val).parent = some head.sender) : execAnnounceReceived ⟨p, hp⟩ slot head fields s =
      .next ((((s.announceHeard p slot.val head fields).announceKept p slot.val fields).announceGraded
        (bindDomain ((s.announceHeard p slot.val head fields).binding p slot.val)) fields).announceTaught p slot.val
        (bindDomain ((s.announceHeard p slot.val head fields).binding p slot.val)) fields) := by
  unfold execAnnounceReceived
  dsimp only
  rw [State.when_, if_pos hup, State.received_ok hready hused hauth]
  exact congrArg Host.Outcome.next (if_pos (State.announceHeard_parent.trans hparent))

theorem announceReceived_facts {fields : AnnounceFields} (hp : p < 4) (hup : s.engines = true) (hready : s.portReady p = true)
    (hused : s.bindUsed p slot.val = true) (hauth : s.authPasses p slot.val head = true)
    (hparent : (s.bindRec p slot.val).parent = some head.sender) :
    ∃ t, execAnnounceReceived ⟨p, hp⟩ slot head fields s = .next t ∧ (t.bindRec p slot.val).announce = some fields ∧
      (t.bindRec p slot.val).announceAlive = true ∧ t.counter = s.counter := by
  have hexec := exec_announceReceived (fields := fields) hp hup hready hused hauth hparent
  obtain ⟨t, hrow, hev⟩ := Evolves.execAnnounceReceived_evolves (s := s) (p := ⟨p, hp⟩) (slot := slot) (head := head) (fields := fields)
  refine ⟨t, hrow, ?_⟩
  have ht := Host.Outcome.next.inj (hrow.symm.trans hexec)
  have hkept : ((((s.announceHeard p slot.val head fields).announceKept p slot.val fields)).bindRec p slot.val).announce = some fields ∧
      ((((s.announceHeard p slot.val head fields).announceKept p slot.val fields)).bindRec p slot.val).announceAlive = true := by
    rw [State.announceKept, State.bindRec_setBindRec]
    exact ⟨rfl, rfl⟩
  refine ⟨?_, ?_, hev.same .counter (by decide)⟩
  · rw [ht, (Binds.announceGraded.trans Binds.announceTaught).bind, hkept.1]
  · rw [ht, (Binds.announceGraded.trans Binds.announceTaught).bind, hkept.2]

theorem announceRefused_facts {fields : AnnounceFields} (hp : p < 4) (hup : s.engines = true) (hready : s.portReady p = true)
    (hused : s.bindUsed p slot.val = true) (hauth : s.authPasses p slot.val head = false) :
    ∃ t, execAnnounceReceived ⟨p, hp⟩ slot head fields s = .next t ∧
      t.attr Attr.port_auth_fail p = (s.attr Attr.port_auth_fail p + 1) % (256 ^ Attr.port_auth_fail.bytes : Nat) ∧
      t.bindRec p slot.val = s.bindRec p slot.val ∧ t.doms = s.doms := by
  have hexec : execAnnounceReceived ⟨p, hp⟩ slot head fields s = .next ((s.bump Attr.port_auth_fail p).raiseOnce (Ev.port p 6)) := by
    unfold execAnnounceReceived
    dsimp only
    rw [State.when_, if_pos hup, State.received, hready, hused, hauth, if_neg (by decide), if_neg Bool.false_ne_true]
  refine ⟨_, hexec, ?_, ?_, (Evolves.raiseOnce (P := raiseParts) (.bump .refl)).same .doms (by decide)⟩
  · rw [State.raiseOnce_attr _ (by decide) (by omega) (by decide), State.attr_bump_same]
  · exact ((Binds.refl (s := s)).of_net (State.bump_net ..)).raiseOnce.bind _ _

/-! ### Measurements (R255, R257, R266, R267) -/

theorem State.measured_bindRec {r : BindRec} : (s.measured p k r).bindRec p k = r := by
  have hset : (s.setBindRec p k r).bindRec p k = r := State.bindRec_setBindRec
  unfold State.measured
  dsimp only
  split
  · split
    · exact (State.bindRec_of_net ((State.put1_net ..).trans (State.put1_net ..))).trans hset
    · exact hset
  · exact hset

theorem State.measured_counter {r : BindRec} : (s.measured p k r).counter = s.counter :=
  (Evolves.measured (P := [.attrs, .store, .net]) .refl).same .counter (by decide)

theorem Counted.binding (h : Counted s t) (hp : p < 4) (hk : k < 32) : t.binding p k = s.binding p k :=
  congrArg Int.toNat (h.attr Attr.port_bindings p k (by decide) (by decide) (by omega) (by omega))

theorem Counted.fromParent (h : Counted s t) (hp : p < 4) (hk : k < 32) : t.fromParent p k head = s.fromParent p k head := by
  have hstate : t.portState p k = s.portState p k :=
    congrArg Int.toNat (h.attr Attr.port_binding_state p k (by decide) (by decide) (by omega) (by omega))
  rw [State.fromParent, State.following, hstate, h.binds.bind, State.fromParent, State.following]

theorem State.latencyIndex_le : s.latencyIndex p ≤ 6 := by
  unfold State.latencyIndex
  dsimp only
  split
  · omega
  · split
    · omega
    · split <;> omega
  · omega
  · split <;> omega

theorem Counted.rxTime (h : Counted s t) (hp : p < 4) {d count vernier : Nat} : t.rxTime p d count vernier = s.rxTime p d count vernier := by
  have hport : ∀ (a : AttrDesc) (e : Nat), a.id < Attr.session_rx_msgs.id → a.id ≠ Attr.cache_counts.id → e < 65536 → t.attr a p e = s.attr a p e :=
    fun a e hid hne he => h.attr a p e hid hne (by omega) he
  have hindex : t.latencyIndex p = s.latencyIndex p := by
    unfold State.latencyIndex State.attrN
    rw [hport Attr.port_fec 0 (by decide) (by decide) (by decide), hport Attr.port_speed 0 (by decide) (by decide) (by decide)]
  have hlatency := hport Attr.port_rx_latency_fact (s.latencyIndex p) (by decide) (by decide) (Nat.lt_of_le_of_lt State.latencyIndex_le (by decide))
  have htime : t.domTime d count vernier = s.domTime d count vernier := by
    rw [State.domTime, State.dom_of_doms (h.same .doms (by decide)), State.domTime]
  rw [State.rxTime, htime, State.rxDelay, hindex, hlatency, hport Attr.port_ext_rx_delay 0 (by decide) (by decide) (by decide), State.rxTime,
    State.rxDelay]

section
variable {count vernier : Nat} {origin correction : Int}

theorem syncReceived_facts {twoStep : Bool} (hp : p < 4) (hup : s.engines = true) (hready : s.portReady p = true)
    (hused : s.bindUsed p slot.val = true) (hauth : s.authPasses p slot.val head = true) (hfrom : s.fromParent p slot.val head = true) :
    ∃ t, execSyncReceived ⟨p, hp⟩ slot head twoStep count vernier origin correction s = .next t ∧
      (if twoStep then (t.bindRec p slot.val).awaiting =
          some (head.seq, s.rxTime p (bindDomain (s.binding p slot.val)) count vernier, correction)
       else (t.bindRec p slot.val).masterToSlave =
          s.rxTime p (bindDomain (s.binding p slot.val)) count vernier - (origin + correction) - s.asymmetry p slot.val head.sender) ∧
      t.counter = s.counter := by
  let v := s.countFrom p slot.val 1 head
  have hcounted : Counted s v := State.countFrom_counted
  let at_ := v.rxTime p (bindDomain (v.binding p slot.val)) count vernier
  have hat : at_ = s.rxTime p (bindDomain (s.binding p slot.val)) count vernier := by
    rw [show at_ = v.rxTime p (bindDomain (v.binding p slot.val)) count vernier from rfl, hcounted.binding hp slot.isLt, hcounted.rxTime hp]
  have hcounter : v.counter = s.counter := hcounted.same .counter (by decide)
  have hfrom' : v.fromParent p slot.val head = true := (hcounted.fromParent hp slot.isLt).trans hfrom
  have hexec : execSyncReceived ⟨p, hp⟩ slot head twoStep count vernier origin correction s =
      .next (if twoStep then v.setBindRec p slot.val { v.bindRec p slot.val with awaiting := some (head.seq, at_, correction) }
        else v.measured p slot.val { v.bindRec p slot.val with awaiting := none
                                                               masterToSlave := at_ - (origin + correction) - v.asymmetry p slot.val head.sender }) := by
    unfold execSyncReceived
    dsimp only
    rw [State.when_, if_pos hup, State.received_ok hready hused hauth]
    exact congrArg Host.Outcome.next (if_pos hfrom')
  refine ⟨_, hexec, ?_⟩
  cases twoStep with
  | true =>
    refine ⟨?_, hcounter⟩
    rw [if_pos rfl, if_pos rfl, State.bindRec_setBindRec, ← hat]
  | false =>
    refine ⟨?_, State.measured_counter.trans hcounter⟩
    rw [if_neg Bool.false_ne_true, if_neg Bool.false_ne_true, State.measured_bindRec, hat, State.countFrom_asymmetry hp]

theorem followUpReceived_facts {at_ c : Int} (hp : p < 4) (hup : s.engines = true) (hready : s.portReady p = true)
    (hused : s.bindUsed p slot.val = true) (hauth : s.authPasses p slot.val head = true) (hfrom : s.fromParent p slot.val head = true)
    (hawaiting : (s.bindRec p slot.val).awaiting = some (head.seq, at_, c)) :
    ∃ t, execFollowUpReceived ⟨p, hp⟩ slot head origin correction s = .next t ∧ (t.bindRec p slot.val).awaiting = none ∧
      (t.bindRec p slot.val).masterToSlave = at_ - (origin + correction + c) - s.asymmetry p slot.val head.sender ∧ t.counter = s.counter := by
  have hexec : execFollowUpReceived ⟨p, hp⟩ slot head origin correction s = .next (s.measured p slot.val { s.bindRec p slot.val with
      awaiting := none, masterToSlave := at_ - (origin + correction + c) - s.asymmetry p slot.val head.sender }) := by
    unfold execFollowUpReceived
    dsimp only
    rw [State.when_, if_pos hup, State.received_ok hready hused hauth, hawaiting]
    exact congrArg Host.Outcome.next (if_pos (by simp [hfrom]))
  refine ⟨_, hexec, ?_, ?_, State.measured_counter⟩ <;> rw [State.measured_bindRec]

theorem delayRespReceived_facts {receive sent : Int} (hp : p < 4) (hup : s.engines = true) (hready : s.portReady p = true)
    (hused : s.bindUsed p slot.val = true) (hauth : s.authPasses p slot.val head = true) (hfrom : s.fromParent p slot.val head = true)
    (hsent : (s.bindRec p slot.val).delayReqSent = some (head.seq, sent)) :
    ∃ t, execDelayRespReceived ⟨p, hp⟩ slot head receive correction s = .next t ∧
      (t.bindRec p slot.val).slaveToMaster = receive - correction - sent + s.asymmetry p slot.val head.sender ∧
      (t.bindRec p slot.val).pathDelay = ((s.bindRec p slot.val).masterToSlave + (t.bindRec p slot.val).slaveToMaster) / 2 ∧
      t.counter = s.counter := by
  let v := s.countFrom p slot.val 2 head
  have hcounted : Counted s v := State.countFrom_counted
  have hfrom' : v.fromParent p slot.val head = true := (hcounted.fromParent hp slot.isLt).trans hfrom
  have hbind : v.bindRec p slot.val = s.bindRec p slot.val := hcounted.binds.bind _ _
  have hexec : execDelayRespReceived ⟨p, hp⟩ slot head receive correction s = .next (v.measured p slot.val
      ({ v.bindRec p slot.val with delayReqSent := none
                                   slaveToMaster := receive - correction - sent + v.asymmetry p slot.val head.sender } : BindRec).mean) := by
    unfold execDelayRespReceived
    dsimp only
    rw [State.when_, if_pos hup, State.received_ok hready hused hauth]
    have hmatch : (v.bindRec p slot.val).delayReqSent = some (head.seq, sent) := by rw [hbind, hsent]
    rw [show s.countFrom p slot.val 2 head = v from rfl, hmatch]
    exact congrArg Host.Outcome.next (if_pos (by simp [hfrom']))
  refine ⟨_, hexec, ?_, ?_, State.measured_counter.trans (hcounted.same .counter (by decide))⟩
  · rw [State.measured_bindRec, BindRec.mean, State.countFrom_asymmetry hp]
  · rw [State.measured_bindRec, BindRec.mean, hbind]

theorem pdelayRespReceived_facts {request response sent arrival ratio delay : Int} (hp : p < 4) (hup : s.engines = true)
    (hready : s.portReady p = true) (hused : s.bindUsed p slot.val = true) (hauth : s.authPasses p slot.val head = true)
    (hprofile : bindProfile (s.binding p slot.val) = 4) (hsent : (s.bindRec p slot.val).pdelaySent = some (head.seq, sent))
    (harrival : arrival = s.rxTime p (bindDomain (s.binding p slot.val)) count vernier)
    (hratio : ratio = rateRatio (s.bindRec p slot.val).pdelayLast response arrival)
    (hdelay : delay = linkDelay ratio sent request response arrival - psUnits (s.attr Attr.port_delay_asymmetry p)) :
    ∃ t, execPdelayRespReceived ⟨p, hp⟩ slot head count vernier request response s = .next t ∧ (t.bindRec p slot.val).pathDelay = delay ∧
      (t.bindRec p slot.val).rateRatio = ratio ∧ (t.bindRec p slot.val).asCapable = decide (delay ≤ 800 * 65536) ∧
      (t.bindRec p slot.val).pdelayLast = some (response, arrival) ∧ t.counter = s.counter := by
  have hexec : execPdelayRespReceived ⟨p, hp⟩ slot head count vernier request response s = .next (s.measured p slot.val
      { s.bindRec p slot.val with pathDelay := delay, rateRatio := ratio, asCapable := decide (delay ≤ 800 * 65536)
                                  pdelaySent := none, pdelayLast := some (response, arrival) }) := by
    unfold execPdelayRespReceived
    dsimp only
    rw [State.when_, if_pos hup, State.received_ok hready hused hauth, hsent]
    dsimp only
    rw [if_pos (by simp [hprofile]), ← harrival, ← hratio, ← hdelay]
  refine ⟨_, hexec, ?_, ?_, ?_, ?_, State.measured_counter⟩ <;> rw [State.measured_bindRec]

end

/-! ### Frames that are queued (R254, R264) -/

theorem State.sized_of_cls {f : TxFrame} (h : f.cls ≠ .host) : ∃ l, s.sized p f = { f with length := l } := ⟨_, if_neg h⟩

/-- A frame of the hardware or of a task that needs no launch descriptor waits with its length. -/
theorem State.queueFrame_plain {f : TxFrame} (hcls : f.cls ≠ .host) (hplain : f.needsDesc = false) (hdesc : f.desc = none) :
    ∃ l, s.queueFrame p f = s.setPort p { s.port p with waiting := (s.port p).waiting ++ [{ f with length := l }] } := by
  obtain ⟨l, hl⟩ := State.sized_of_cls (s := s) (p := p) hcls
  have hneeds : ({ f with length := l } : TxFrame).needsDesc = false := hplain
  refine ⟨l, ?_⟩
  unfold State.queueFrame State.takeDesc
  dsimp only
  rw [hl, if_neg (by rw [hneeds]; exact Bool.false_ne_true), State.tellDesc, hdesc]

/-! ### The stateless responder (R283) -/

/-- An answer of the responder of a port. -/
structure Responded (p : Nat) (s t : State) (f : TxFrame) : Prop where
  port : ∃ l, t.port p = { s.port p with
    waiting := (s.port p).waiting ++ [{ f with length := l }], tokens := some (s.tokens p - ticksPerSecond, s.counter) }
  same : s.sameBut t [.net]

theorem State.respond_facts {f : TxFrame} (hcls : f.cls = .hardware) (hplain : f.needsDesc = false) (hdesc : f.desc = none)
    (htokens : ticksPerSecond ≤ s.tokens p) : Responded p s (s.respond p f) f := by
  let u := s.setPort p { s.port p with tokens := some (s.tokens p - ticksPerSecond, s.counter) }
  obtain ⟨l, hl⟩ := State.queueFrame_plain (s := u) (p := p) (f := f) (by rw [hcls]; decide) hplain hdesc
  have hrespond : s.respond p f = u.queueFrame p f := if_neg (Nat.not_lt.mpr htokens)
  rw [hrespond, hl]
  refine ⟨⟨l, ?_⟩, (Evolves.setPort (.setPort .refl)).same⟩
  rw [State.port_setPort, State.port_setPort]

section
variable {count vernier : Nat} {correction : Int}

theorem delayReqReceived_facts (hp : p < 4) (hup : s.timing = true) (hready : s.portReady p = true) (hused : s.bindUsed p slot.val = true)
    (hauth : s.authPasses p slot.val head = true) (htokens : ticksPerSecond ≤ s.tokens p) (hmaster : s.portState p slot.val = 6) :
    ∃ t f, execDelayReqReceived ⟨p, hp⟩ slot head false count vernier correction s = .next t ∧
      t.port p = { s.port p with
        waiting := (s.port p).waiting ++ [f], tokens := some (s.tokens p - ticksPerSecond, s.counter) } ∧
      f.kind = some PtpKind.delayResp ∧ f.seq = head.seq ∧ f.correction = correction ∧
      f.receive = some (s.rxTime p (bindDomain (s.binding p slot.val)) count vernier) ∧ s.sameBut t [.net] := by
  let f : TxFrame :=
    { cls := .hardware, queue := 65535, kind := some .delayResp, slot := slot.val, seq := head.seq, domain := bindDomain (s.binding p slot.val)
      receive := some (s.rxTime p (bindDomain (s.binding p slot.val)) count vernier), correction := correction
      log := logOf (s.binding p slot.val) 2, peer := ⟨0, head.sender.portId⟩ }
  have hexec : execDelayReqReceived ⟨p, hp⟩ slot head false count vernier correction s = .next (s.respond p f) := by
    unfold execDelayReqReceived
    dsimp only
    rw [State.when_, if_pos hup, State.received_ok hready hused hauth, if_neg (not_not.mpr hmaster)]
    rfl
  obtain ⟨⟨l, hl⟩, hsame⟩ := State.respond_facts (s := s) (p := p) (f := f) rfl rfl rfl htokens
  exact ⟨_, _, hexec, hl, rfl, rfl, rfl, rfl, hsame⟩

theorem pdelayReqReceived_facts (hp : p < 4) (hup : s.timing = true) (hready : s.portReady p = true) (hused : s.bindUsed p slot.val = true)
    (hauth : s.authPasses p slot.val head = true) (htokens : ticksPerSecond ≤ s.tokens p) (hprofile : bindProfile (s.binding p slot.val) = 4) :
    ∃ t f, execPdelayReqReceived ⟨p, hp⟩ slot head count vernier correction s = .next t ∧
      t.port p = { s.port p with
        waiting := (s.port p).waiting ++ [f], tokens := some (s.tokens p - ticksPerSecond, s.counter) } ∧
      f.kind = some PtpKind.pdelayResp ∧ f.seq = head.seq ∧ f.correction = correction ∧
      f.receive = some (s.rxTime p (bindDomain (s.binding p slot.val)) count vernier) ∧ s.sameBut t [.net] := by
  let f : TxFrame :=
    { cls := .hardware, queue := 65535, kind := some .pdelayResp, slot := slot.val, seq := head.seq, domain := bindDomain (s.binding p slot.val)
      receive := some (s.rxTime p (bindDomain (s.binding p slot.val)) count vernier), correction := correction, peer := ⟨0, head.sender.portId⟩ }
  have hexec : execPdelayReqReceived ⟨p, hp⟩ slot head count vernier correction s = .next (s.respond p f) := by
    unfold execPdelayReqReceived
    dsimp only
    rw [State.when_, if_pos hup, State.received_ok hready hused hauth, if_pos hprofile]
  obtain ⟨⟨l, hl⟩, hsame⟩ := State.respond_facts (s := s) (p := p) (f := f) rfl rfl rfl htokens
  exact ⟨_, _, hexec, hl, rfl, rfl, rfl, rfl, hsame⟩

end

/-! ### Management (R270) -/

/-- The code of an answer to a management message: the data set, NO_SUCH_ID or NOT_SUPPORTED. -/
def mgmtAnswer (action : MgmtAction) (id : MgmtId) : Nat := if action ≠ .get then 3 else match id with | .other _ => 2 | _ => 1

theorem managementReceived_facts {action : MgmtAction} {id : MgmtId} (hp : p < 4) (hup : s.engines = true) (hready : s.portReady p = true)
    (hused : s.bindUsed p slot.val = true) (hauth : s.authPasses p slot.val head = true) :
    ∃ t, execManagementReceived ⟨p, hp⟩ slot head action id s = .next t ∧
      (if bindMgmt (s.binding p slot.val) then
        (∃ f, (t.port p).waiting = (s.port p).waiting ++ [f] ∧ f.kind = some PtpKind.management ∧ f.seq = head.seq ∧
          f.answer = mgmtAnswer action id ∧ f.body = s.managementAnswer p slot.val f.answer action id) ∧ s.sameBut t [.net]
       else
        t.attr Attr.port_rx_ignored p = (s.attr Attr.port_rx_ignored p + 1) % (256 ^ Attr.port_rx_ignored.bytes : Nat) ∧
          s.sameBut t [.attrs]) := by
  let f : TxFrame :=
    { cls := .session, queue := 65535, kind := some .management, slot := slot.val, seq := head.seq, domain := bindDomain (s.binding p slot.val)
      answer := mgmtAnswer action id, body := s.managementAnswer p slot.val (mgmtAnswer action id) action id, log := 127
      peer := if bindMode (s.binding p slot.val) = 0 then ⟨0, head.sender.portId⟩ else head.sender }
  have hexec : execManagementReceived ⟨p, hp⟩ slot head action id s =
      .next (if !bindMgmt (s.binding p slot.val) then s.bump Attr.port_rx_ignored p else s.queueFrame p f) := by
    unfold execManagementReceived
    dsimp only
    rw [State.when_, if_pos hup, State.received_ok hready hused hauth]
    rfl
  refine ⟨_, hexec, ?_⟩
  cases bindMgmt (s.binding p slot.val) with
  | true =>
    obtain ⟨l, hl⟩ := State.queueFrame_plain (s := s) (p := p) (f := f) FrameClass.noConfusion rfl rfl
    rw [if_pos rfl, if_neg (by decide), hl]
    refine ⟨⟨{ f with length := l }, ?_, rfl, rfl, rfl, rfl⟩, (Evolves.setPort .refl).same⟩
    rw [State.port_setPort]
  | false =>
    rw [if_neg Bool.false_ne_true, if_pos (by decide)]
    exact ⟨State.bump_ignored.1, State.bump_ignored.2.1⟩

/-- Settles O40: a binding takes the PTP messages that pass authentication, counts the others, and answers within its budget. -/
theorem receivedPtp : Obligations.ReceivedPtp := by
  unfold Obligations.ReceivedPtp
  exact ⟨fun _ p _ _ _ hup hready hused => ⟨fun hauth hparent => announceReceived_facts p.isLt hup hready hused hauth hparent,
      fun hauth => announceRefused_facts p.isLt hup hready hused hauth⟩,
    fun _ p _ _ _ _ _ _ _ hup hready hused hauth hfrom => syncReceived_facts p.isLt hup hready hused hauth hfrom,
    fun _ p _ _ _ _ _ _ hup hready hused hauth hfrom hawaiting => followUpReceived_facts p.isLt hup hready hused hauth hfrom hawaiting,
    fun _ p _ _ _ _ _ hup hready hused hauth hfrom hsent => delayRespReceived_facts p.isLt hup hready hused hauth hfrom hsent,
    fun _ p _ _ _ _ _ _ _ _ _ _ hup hready hused hauth hprofile hsent harrival hratio hdelay =>
      pdelayRespReceived_facts p.isLt hup hready hused hauth hprofile hsent harrival hratio hdelay,
    fun _ p _ _ _ _ _ hup hready hused hauth htokens => ⟨fun hmaster => delayReqReceived_facts p.isLt hup hready hused hauth htokens hmaster,
      fun hprofile => pdelayReqReceived_facts p.isLt hup hready hused hauth htokens hprofile⟩,
    fun _ p _ _ _ _ hup hready hused hauth => managementReceived_facts p.isLt hup hready hused hauth⟩

end Sys2Proof.Machine
end

section
/-! What a binding sends, the states that the BMCA gives the bindings of a domain, and the servo of its reference (R264, R271, R274, R277). -/

set_option Elab.async false

namespace Sys2Proof.Machine

variable {s t u v : State} {n m p k d : Nat} {slot : Fin 32}

/-! ### Messages of a binding (R260, R262, R264) -/

theorem State.takeDesc_eq {f : TxFrame} : ∃ x, s.takeDesc p f = { f with desc := x } := by
  unfold State.takeDesc
  split
  exacts [⟨_, rfl⟩, ⟨f.desc, rfl⟩]

/-- A frame of the hardware or of a task joins the frames that wait, with its length and with a launch descriptor where it takes one. -/
theorem State.queueFrame_waiting {f : TxFrame} (hcls : f.cls ≠ .host) :
    ∃ l x, ((s.queueFrame p f).port p).waiting = (s.port p).waiting ++ [{ f with length := l, desc := x }] := by
  obtain ⟨l, hl⟩ := State.sized_of_cls (s := s) (p := p) hcls
  obtain ⟨x, hx⟩ := State.takeDesc_eq (s := s) (p := p) (f := { f with length := l })
  refine ⟨l, x, ?_⟩
  unfold State.queueFrame
  dsimp only
  rw [State.port_of_net (State.tellDesc_net ..), State.port_setPort, hl, hx]

theorem Binds.queueFrame (h : Binds s t) {f : TxFrame} : Binds s (t.queueFrame p f) := by
  have hput : ∀ r : PortRec, r.binds = (t.port p).binds → Binds t (t.setPort p r) := fun _ hr => Binds.refl.setPort hr
  exact h.trans ⟨fun q j => by
    unfold State.queueFrame
    dsimp only
    rw [State.bindRec_of_net (State.tellDesc_net ..)]
    refine Binds.bind (hput _ ?_) q j
    rfl⟩

/-- The message that a binding or one of its sessions sends next. -/
def State.nextMessage (s : State) (p k : Nat) (session : Option (Fin 16384)) (kind : PtpKind) (launch : Option (Fin 512 × Int)) : TxFrame :=
  { cls := .session, queue := (session.map (·.val)).getD 65535, launch := launch.map fun l => (l.1.val, l.2)
    kind := some kind, slot := k, seq := (s.bindRec p k).txSeq, domain := bindDomain (s.binding p k), twoStep := bindTwoStep (s.binding p k)
    oneStep := !bindTwoStep (s.binding p k), announce := if kind = .announce then some (s.announceOf p k) else none
    peer := ((session.map fun n => (s.sess n.val).partner).getD ⟨0, 0⟩), log := messageLog (s.binding p k) session.isSome kind }

theorem ptpMessageSend_facts {session : Option (Fin 16384)} {kind : PtpKind} {launch : Option (Fin 512 × Int)} (hp : p < 4)
    (hup : s.engines = true) (hready : s.portReady p = true) (hused : s.bindUsed p slot.val = true)
    (hown : session = none → bindMode (s.binding p slot.val) ≠ 1 ∧ s.sendsNow p slot.val kind = true)
    (hsess : ∀ n, session = some n → s.sessionSends n.val kind = true ∧ s.attrN Attr.session_sess_binding n.val = slot.val * 256 + p) :
    ∃ t f, execPtpMessageSend ⟨p, hp⟩ slot session kind launch s = .next t ∧ (t.port p).waiting = (s.port p).waiting ++ [f] ∧
      f.kind = some kind ∧ f.slot = slot.val ∧ f.seq = (s.bindRec p slot.val).txSeq ∧ f.launch = launch.map (fun l => (l.1.val, l.2)) ∧
      (t.bindRec p slot.val).txSeq = ((s.bindRec p slot.val).txSeq + 1) % 65536 ∧ s.sameBut t [.net, .attrs, .faults, .tm, .store] ∧
      (session = none → s.sameBut t [.net]) := by
  let f := s.nextMessage p slot.val session kind launch
  let u := (s.nextSeq p slot.val).2
  have hexec : execPtpMessageSend ⟨p, hp⟩ slot session kind launch s = .next (u.queueFrame p f) := by
    unfold execPtpMessageSend
    dsimp only
    rw [State.when_, if_pos]
    · rfl
    · cases session with
      | none =>
        obtain ⟨hmode, hsends⟩ := hown rfl
        simp [hup, hready, hused, hmode, hsends]
      | some n =>
        obtain ⟨hsends, hbinding⟩ := hsess n rfl
        simp [hup, hready, hused, hsends, hbinding]
  have hcls : f.cls ≠ .host := FrameClass.noConfusion
  obtain ⟨l, x, hwaiting⟩ := State.queueFrame_waiting (s := u) (p := p) (f := f) hcls
  refine ⟨_, { f with length := l, desc := x }, hexec, ?_, rfl, rfl, rfl, rfl, ?_, ?_, fun hnone => ?_⟩
  · rw [hwaiting, show u.port p = (s.nextSeq p slot.val).2.port p from rfl, State.nextSeq, State.setBindRec, State.port_setPort]
  · rw [(Binds.refl.queueFrame).bind, show u = (s.nextSeq p slot.val).2 from rfl, State.nextSeq, State.bindRec_setBindRec]
  · exact State.sameBut_mono (Evolves.queueFrame (P := [.attrs, .faults, .tm, .store, .net]) (.nextSeq .refl)).same (by decide)
  · obtain ⟨y, hy⟩ := State.queueFrame_plain (s := u) (p := p) (f := f) hcls (by subst hnone; exact Bool.and_false _) rfl
    rw [hy]
    exact (Evolves.setPort (.nextSeq .refl)).same

/-! ### ESMC (R271) -/

/-- A port that shows the quality it transmits. -/
def State.esmcShown (s : State) (p : Nat) : State :=
  if (s.esmcQuality p : Int) = s.attr Attr.port_esmc_tx_ql p then s else (s.put1 Attr.port_esmc_tx_ql p (s.esmcQuality p)).raise (Ev.port p 10)

/-- The ESMC PDU that a port sends. -/
def State.esmcFrame (s : State) (p : Nat) (event : Bool) : TxFrame :=
  { cls := .hardware, queue := 65535, esmc := some (event, s.esmcQuality p % 256, s.esmcQuality p / 256, s.esmcCascade p) }

theorem State.sendEsmc_eq {event : Bool} : s.sendEsmc p event = (s.esmcShown p).queueFrame p (s.esmcFrame p event) := rfl

theorem State.esmcShown_quality (hp : p < 4) : (s.esmcShown p).attr Attr.port_esmc_tx_ql p = s.esmcQuality p := by
  unfold State.esmcShown
  split
  · next h => exact h.symm
  · rw [State.raise_attr _ (by decide) (by omega) (by decide), State.attr_put1_same]

/-- A port shows the quality that it transmits, and its PDU, the last frame that waits, carries it. -/
theorem State.sendEsmc_facts {event : Bool} (hp : p < 4) : ∃ f, (s.sendEsmc p event).attr Attr.port_esmc_tx_ql p = s.esmcQuality p ∧
    ((s.sendEsmc p event).port p).waiting.getLast? = some f ∧
    f.esmc = some (event, s.esmcQuality p % 256, s.esmcQuality p / 256, s.esmcCascade p) ∧ (s.sendEsmc p event).counter = s.counter := by
  obtain ⟨l, x, hwaiting⟩ := State.queueFrame_waiting (s := s.esmcShown p) (p := p) (f := s.esmcFrame p event) FrameClass.noConfusion
  refine ⟨{ s.esmcFrame p event with length := l, desc := x }, ?_, ?_, rfl, (Evolves.sendEsmc (P := raiseParts) .refl).same .counter (by decide)⟩
  · rw [State.sendEsmc_eq, (Writes.queueFrame (ids := []) .refl).attr, State.esmcShown_quality hp]
  · rw [State.sendEsmc_eq, hwaiting, List.getLast?_concat]

theorem esmc_source (hp : p < 4) : Ev.defined (Ev.port p 10) = true ∧ Ev.port p 10 ∉ bookSources ∧ Ev.port p 10 ∉ [321, 322, 327, 328] := by
  obtain rfl | rfl | rfl | rfl : p = 0 ∨ p = 1 ∨ p = 2 ∨ p = 3 := by omega
  all_goals decide

theorem State.sendEsmc_latched {event : Bool} (hp : p < 4) (h : (s.esmcQuality p : Int) ≠ s.attr Attr.port_esmc_tx_ql p) :
    ((s.sendEsmc p event).latch (Ev.port p 10)).latched = true := by
  obtain ⟨hdefined, hbook, hfitted⟩ := esmc_source hp
  rw [State.sendEsmc_eq]
  refine (Writes.queueFrame (ids := []) .refl).latched _ hbook ?_
  rw [State.esmcShown, if_neg h]
  exact State.raise_latched hdefined hbook hfitted

/-! ### The BMCA (R267, R274) -/

theorem bmca_source (hp : p < 4) : Ev.defined (Ev.port p 3) = true ∧ Ev.port p 3 ∉ bookSources ∧ Ev.port p 3 ∉ [321, 322, 327, 328] := by
  obtain rfl | rfl | rfl | rfl : p = 0 ∨ p = 1 ∨ p = 2 ∨ p = 3 := by omega
  all_goals decide

/-- What a pass writes of the attributes. -/
def bmcaIds : List Nat := [Attr.port_binding_state.id]

/-- A binding that follows what the algorithm recommends, before it takes its state. -/
def State.heeds (s : State) (p k x : Nat) : Recommended → State
  | .stay => s
  | .slave f => if x = 7 then s.unfollow p k else s.follow p k f
  | _ => s.unfollow p k

theorem State.applyBmca_eq {r : Recommended} : s.applyBmca d p k r = (s.heeds p k (s.bmcaState d p k r) r).setPortState p k (s.bmcaState d p k r) := by
  cases r <;> rfl

theorem State.heeds_attrs {x : Nat} {r : Recommended} : (s.heeds p k x r).attrs = s.attrs := by
  cases r with
  | slave f =>
    unfold State.heeds State.follow
    dsimp only
    split
    · rfl
    · split <;> rfl
  | _ => rfl

theorem State.setBindRec_bindRec_other {q j : Nat} {r : BindRec} (h : (q, j) ≠ (p, k)) : (s.setBindRec p k r).bindRec q j = s.bindRec q j := by
  unfold State.bindRec State.setBindRec
  by_cases hq : q = p
  · subst hq
    have hj : j ≠ k := fun hj => h (by rw [hj])
    rw [State.port_setPort]
    exact tblGet_set_other _ _ _ _ hj
  · rw [State.port_setPort_other _ _ hq]

theorem State.heeds_bindRec_other {q j x : Nat} {r : Recommended} (h : (q, j) ≠ (p, k)) : (s.heeds p k x r).bindRec q j = s.bindRec q j := by
  have hset : ∀ b, (s.setBindRec p k b).bindRec q j = s.bindRec q j := fun _ => State.setBindRec_bindRec_other h
  cases r with
  | slave f =>
    unfold State.heeds State.follow
    dsimp only
    split
    · exact hset _
    · split
      exacts [rfl, hset _]
  | stay => rfl
  | master n => exact hset _
  | passive => exact hset _

theorem Writes.heeds {ids : List Nat} (h : Writes ids s t) {x : Nat} {r : Recommended} : Writes ids s (t.heeds p k x r) := by
  have hunfollow : Writes ids s (t.unfollow p k) := .setBindRec h
  cases r with
  | slave f => exact .ite hunfollow (.ite h (.setBindRec h))
  | stay => exact h
  | master n => exact hunfollow
  | passive => exact hunfollow

theorem State.setPortState_writes {x : Nat} (hp : p < 4) (hk : k < 32) : Writes bmcaIds s (s.setPortState p k x) :=
  .ite .refl (Writes.raise (Writes.put (Writes.setBindRec .refl)))

theorem State.setPortState_state {x : Nat} (hp : p < 4) (hk : k < 32) : (s.setPortState p k x).portState p k = x := by
  unfold State.setPortState
  split
  · assumption
  · rw [State.portState, State.attrN, State.raise_attr _ (by decide) (by omega) (by omega), State.attr_put_same, Int.toNat_natCast]

theorem State.setPortState_latched {x : Nat} (hp : p < 4) (h : s.portState p k ≠ x) : ((s.setPortState p k x).latch (Ev.port p 3)).latched = true := by
  obtain ⟨hdefined, hbook, hfitted⟩ := bmca_source hp
  rw [State.setPortState, if_neg h]
  exact State.raise_latched hdefined hbook hfitted

theorem State.setPortState_bindRec_other {q j x : Nat} (h : (q, j) ≠ (p, k)) : (s.setPortState p k x).bindRec q j = s.bindRec q j := by
  unfold State.setPortState
  split
  · rfl
  · rw [(Binds.refl.raise).bind, State.bindRec_of_net (State.put_net ..), State.setBindRec_bindRec_other h]

theorem State.applyBmca_writes {r : Recommended} (hp : p < 4) (hk : k < 32) : Writes bmcaIds s (s.applyBmca d p k r) :=
  State.applyBmca_eq ▸ (Writes.heeds .refl).trans (State.setPortState_writes hp hk)

theorem State.portState_of_attrs (h : t.attrs = s.attrs) : t.portState p k = s.portState p k := congrArg Int.toNat (State.attr_of_attrs h)

/-- A binding takes the state that is recommended for it, and a change of it is reported. -/
theorem State.applyBmca_state {r : Recommended} (hp : p < 4) (hk : k < 32) : (s.applyBmca d p k r).portState p k = s.bmcaState d p k r ∧
    (s.portState p k ≠ s.bmcaState d p k r → ((s.applyBmca d p k r).latch (Ev.port p 3)).latched = true) := by
  rw [State.applyBmca_eq]
  exact ⟨State.setPortState_state hp hk, fun h => State.setPortState_latched hp (by rwa [State.portState_of_attrs State.heeds_attrs])⟩

/-- What the pass reads of a binding, and what it reads of the domain, stand as they did. -/
structure SameBinding (d : Nat) (b : Nat × Nat) (s t : State) : Prop where
  state : t.portState b.1 b.2 = s.portState b.1 b.2
  record : t.bindRec b.1 b.2 = s.bindRec b.1 b.2
  entry : t.binding b.1 b.2 = s.binding b.1 b.2
  bound : t.boundDpll d = s.boundDpll d
  counter : t.counter = s.counter

theorem SameBinding.bmcaState {b : Nat × Nat} (h : SameBinding d b s t) (r : Recommended) : t.bmcaState d b.1 b.2 r = s.bmcaState d b.1 b.2 r := by
  obtain ⟨hstate, hrecord, hentry, hbound, hcounter⟩ := h
  have hfollowing : t.following b.1 b.2 = s.following b.1 b.2 := by rw [State.following, State.following, hstate]
  cases r with
  | slave f =>
    unfold State.bmcaState
    dsimp only
    rw [hbound, hentry, hrecord, hfollowing]
  | master n =>
    unfold State.bmcaState
    dsimp only
    rw [hentry, hstate, hrecord, hcounter]
  | stay => exact hstate
  | passive => rfl

theorem SameBinding.trans {b : Nat × Nat} (h : SameBinding d b s t) (h' : SameBinding d b t u) : SameBinding d b s u :=
  ⟨h'.state.trans h.state, h'.record.trans h.record, h'.entry.trans h.entry, h'.bound.trans h.bound, h'.counter.trans h.counter⟩

/-- What is kept per object has one key for each place and element. -/
theorem key_ne_of_place {a : AttrDesc} {i j e f : Nat} (ha : a.shared = false) (h : ¬(i = j ∧ e = f)) (he : e < 65536) (hf : f < 65536) :
    a.key i e ≠ a.key j f := by
  unfold AttrDesc.key
  rw [ha, if_neg Bool.false_ne_true, if_neg Bool.false_ne_true]
  omega

/-- The pass over one binding leaves the others as they stood. -/
theorem State.applyBmca_other {b c : Nat × Nat} {r : Recommended} (hd : d < 512) (hb : b.1 < 4 ∧ b.2 < 32) (hc : c.1 < 4 ∧ c.2 < 32) (hne : c ≠ b) :
    SameBinding d c s (s.applyBmca d b.1 b.2 r) := by
  obtain ⟨hb1, hb2⟩ := hb
  obtain ⟨hc1, hc2⟩ := hc
  have hwrites : Writes bmcaIds s (s.applyBmca d b.1 b.2 r) := State.applyBmca_writes hb1 hb2
  refine ⟨?_, ?_, congrArg Int.toNat hwrites.attr, State.boundDpll_of_attr hwrites.attr hwrites.attr,
    (Evolves.applyBmca (P := raiseParts) .refl).same .counter (by decide)⟩
  · have hkey : Attr.port_binding_state.key c.1 c.2 ≠ Attr.port_binding_state.key b.1 b.2 :=
      key_ne_of_place rfl (fun heq => hne (Prod.ext heq.1 heq.2)) (by omega) (by omega)
    rw [State.applyBmca_eq]
    unfold State.setPortState
    split
    · exact State.portState_of_attrs State.heeds_attrs
    · rw [State.portState, State.attrN, State.raise_attr _ (by decide) (by omega) (by omega), State.attr_put_other _ _ hkey]
      exact State.portState_of_attrs (s := s) State.heeds_attrs
  · rw [State.applyBmca_eq, State.setPortState_bindRec_other hne, State.heeds_bindRec_other hne]

/-- A pass over some bindings with what is recommended for each. -/
def State.passOver (s : State) (d : Nat) (rec : Nat × Nat → Recommended) (l : List (Nat × Nat)) : State :=
  l.foldl (fun v b => v.applyBmca d b.1 b.2 (rec b)) s

theorem State.passOver_writes {rec : Nat × Nat → Recommended} {l : List (Nat × Nat)} (hl : ∀ b ∈ l, b.1 < 4 ∧ b.2 < 32) :
    Writes bmcaIds s (s.passOver d rec l) := by
  induction l generalizing s with
  | nil => exact .refl
  | cons b bs ih =>
    obtain ⟨h1, h2⟩ := hl b List.mem_cons_self
    exact (State.applyBmca_writes h1 h2).trans (ih fun c hc => hl c (List.mem_cons_of_mem _ hc))

theorem State.passOver_other {rec : Nat × Nat → Recommended} {l : List (Nat × Nat)} {c : Nat × Nat} (hd : d < 512)
    (hl : ∀ b ∈ l, b.1 < 4 ∧ b.2 < 32) (hc : c.1 < 4 ∧ c.2 < 32) (hout : c ∉ l) : SameBinding d c s (s.passOver d rec l) := by
  induction l generalizing s with
  | nil => exact ⟨rfl, rfl, rfl, rfl, rfl⟩
  | cons b bs ih =>
    rw [List.mem_cons, not_or] at hout
    exact (State.applyBmca_other hd (hl b List.mem_cons_self) hc hout.1).trans (ih (fun e he => hl e (List.mem_cons_of_mem _ he)) hout.2)

/-- After the pass each binding has the state that was recommended for it before the pass, and its port has reported each change. -/
theorem State.passOver_states {rec : Nat × Nat → Recommended} {l : List (Nat × Nat)} (hd : d < 512) (hl : ∀ b ∈ l, b.1 < 4 ∧ b.2 < 32)
    (hnodup : l.Nodup) (hv : ∀ b ∈ l, SameBinding d b s v) : ∀ b ∈ l,
      (v.passOver d rec l).portState b.1 b.2 = s.bmcaState d b.1 b.2 (rec b) ∧
      (s.portState b.1 b.2 ≠ s.bmcaState d b.1 b.2 (rec b) → ((v.passOver d rec l).latch (Ev.port b.1 3)).latched = true) := by
  induction l generalizing v with
  | nil => exact fun b hb => absurd hb List.not_mem_nil
  | cons c cs ih =>
    obtain ⟨hc1, hc2⟩ := hl c List.mem_cons_self
    have hcs : ∀ b ∈ cs, b.1 < 4 ∧ b.2 < 32 := fun b hb => hl b (List.mem_cons_of_mem _ hb)
    obtain ⟨hout, hnodup'⟩ := List.nodup_cons.mp hnodup
    have hsame := hv c List.mem_cons_self
    obtain ⟨hstate, hlatch⟩ := State.applyBmca_state (s := v) (d := d) (r := rec c) hc1 hc2
    rw [hsame.bmcaState, hsame.state] at *
    intro b hb
    rcases List.mem_cons.mp hb with rfl | hmem
    · refine ⟨?_, fun h => ?_⟩
      · exact (State.passOver_other hd hcs ⟨hc1, hc2⟩ hout).state.trans hstate
      · exact (State.passOver_writes hcs).latched _ (bmca_source hc1).2.1 (hlatch h)
    · refine ih hcs hnodup' (fun e he => (hv e (List.mem_cons_of_mem _ he)).trans ?_) b hmem
      exact State.applyBmca_other hd ⟨hc1, hc2⟩ (hcs e he) fun heq => hout (heq ▸ he)

theorem State.bindings_nodup : s.bindings.Nodup := by
  refine List.nodup_flatMap.mpr ⟨fun p _ => ?_, ?_⟩
  · exact ((List.nodup_range).filter _).map fun a b h => (Prod.mk.injEq .. ▸ h).2
  · refine List.nodup_range.imp fun {a b} hne c hca hcb => ?_
    simp only [List.mem_map] at hca hcb
    obtain ⟨x, -, rfl⟩ := hca
    obtain ⟨y, -, hy⟩ := hcb
    exact hne (Prod.mk.injEq .. ▸ hy).1.symm

theorem State.bmcaBindings_lt {b : Nat × Nat} (h : b ∈ s.bmcaBindings d) : b.1 < 4 ∧ b.2 < 32 := by
  have hmem : b ∈ s.bindings := (List.mem_filter.mp (List.mem_filter.mp h).1).1
  obtain ⟨p, hp, hb⟩ := List.mem_flatMap.mp hmem
  obtain ⟨k, hk, rfl⟩ := List.mem_map.mp hb
  exact ⟨List.mem_range.mp hp, List.mem_range.mp (List.mem_filter.mp hk).1⟩

theorem State.bmcaBindings_nodup : (s.bmcaBindings d).Nodup := (State.bindings_nodup.filter _).filter _

theorem State.slaveBinding_of_attrs (h : t.attrs = s.attrs) : t.slaveBinding d = s.slaveBinding d := by
  simp only [State.slaveBinding, State.domainBindings, State.bindings, State.binding, State.portState, State.attrN, State.attr_of_attrs h]

/-- A domain whose reference loses its flag where no binding is in SLAVE. -/
def State.refJudged (s : State) (d : Nat) : State := if (s.slaveBinding d).isNone then s.setQualified d false else s

theorem State.setQualified_attrs {q : Bool} : (s.setQualified d q).attrs = s.attrs :=
  (Evolves.setQualified (P := [.doms, .sels]) .refl).same .attrs (by decide)

theorem State.refJudged_same : s.sameBut (s.refJudged d) [.doms, .sels] := (Evolves.ite (.setQualified .refl) .refl).same

theorem State.refJudged_unqualified (h : ((s.refJudged d).slaveBinding d).isNone = true) : ((s.refJudged d).dom d).ref.qualified = false := by
  have hslave : (s.refJudged d).slaveBinding d = s.slaveBinding d := State.slaveBinding_of_attrs (State.refJudged_same .attrs (by decide))
  rw [hslave] at h
  rw [State.refJudged, if_pos h]
  exact State.setQualified_false_dom.1

theorem bmcaPass_facts (hd : d < 512) (hup : s.engines = true) (hcreated : s.created d = true) :
    ∃ t, execBmcaPass ⟨d, hd⟩ s = .next t ∧
      (∀ b ∈ s.bmcaBindings d, t.portState b.1 b.2 = s.bmcaState d b.1 b.2 (s.recommend d b.1 b.2) ∧
        (t.portState b.1 b.2 ≠ s.portState b.1 b.2 → (t.latch (Ev.port b.1 3)).latched = true)) ∧
      ((t.slaveBinding d).isNone = true → (t.dom d).ref.qualified = false) ∧ t.counter = s.counter := by
  let u := s.passOver d (fun b => s.recommend d b.1 b.2) (s.bmcaBindings d)
  have hexec : execBmcaPass ⟨d, hd⟩ s = .next (u.refJudged d) := by
    unfold execBmcaPass
    rw [State.when_, if_pos (by simp [hup, hcreated])]
    dsimp only
    rw [List.foldl_map]
    rfl
  obtain ⟨t, hrow, hev⟩ := Evolves.execBmcaPass_evolves (s := s) (d := ⟨d, hd⟩)
  have ht := Host.Outcome.next.inj (hrow.symm.trans hexec)
  have hstates := State.passOver_states (s := s) (v := s) (d := d) (l := s.bmcaBindings d) (rec := fun b => s.recommend d b.1 b.2) hd (fun b hb => State.bmcaBindings_lt hb)
    State.bmcaBindings_nodup fun b _ => ⟨rfl, rfl, rfl, rfl, rfl⟩
  refine ⟨t, hrow, fun b hb => ?_, fun h => ?_, hev.same .counter (by decide)⟩
  · obtain ⟨hstate, hlatch⟩ := hstates b hb
    have hport : t.portState b.1 b.2 = s.bmcaState d b.1 b.2 (s.recommend d b.1 b.2) := by
      rw [ht, State.portState_of_attrs (State.refJudged_same .attrs (by decide)), hstate]
    refine ⟨hport, fun hne => ?_⟩
    rw [ht, State.latch_of_faults (State.refJudged_same .faults (by decide))]
    exact hlatch (hport ▸ hne.symm)
  · rw [ht] at h ⊢
    exact State.refJudged_unqualified h

end Sys2Proof.Machine
end

section
/-! The Announce timeout of a parent and the servo of a virtual domain's reference (R37, R74, R145, R277). -/

set_option Elab.async false

namespace Sys2Proof.Machine

variable {s t u : State} {n m p k d : Nat} {slot : Fin 32}

/-- A reference that is disqualified loses its flag and its soak, and nothing else of its domain changes. -/
theorem State.setQualified_false_rec :
    (s.setQualified d false).dom d = { s.dom d with ref := { (s.dom d).ref with qualified := false, soaked := 0 } } := by
  have hleft : ∀ u : State, ∀ x : Nat, (u.sourceLeft x).dom d = u.dom d := fun u x =>
    State.dom_of_doms ((Evolves.sourceLeft (P := [.sels]) .refl).same .doms (by decide))
  unfold State.setQualified
  dsimp only
  split
  · rw [hleft]
    simp
  · simp

theorem State.setQualified_same {q : Bool} : s.sameBut (s.setQualified d q) [.doms, .sels] := (Evolves.setQualified .refl).same

/-! ### The parent of a binding times out (R145, R277) -/

theorem announce_source (hp : p < 4) : Ev.defined (Ev.port p 2) = true ∧ Ev.port p 2 ∉ bookSources ∧ Ev.port p 2 ∉ [321, 322, 327, 328] := by
  obtain rfl | rfl | rfl | rfl : p = 0 ∨ p = 1 ∨ p = 2 ∨ p = 3 := by omega
  all_goals decide

/-- The reference of a domain remembers the binding whose parent timed out. -/
def State.refTimedOut (s : State) (d p k : Nat) : State := s.setDom d { s.dom d with ref := { (s.dom d).ref with timedOut := some (p, k) } }

theorem announceReceiptTimeout_facts (hp : p < 4) (hup : s.engines = true) (hused : s.bindUsed p slot.val = true)
    (hparent : (s.bindRec p slot.val).parent.isSome = true) (halive : (s.bindRec p slot.val).announceAlive = true) :
    ∃ t, execAnnounceReceiptTimeout ⟨p, hp⟩ slot s = .next t ∧ (t.bindRec p slot.val).announceAlive = false ∧
      (t.latch (Ev.port p 2)).latched = true ∧ (t.dom (bindDomain (s.binding p slot.val))).ref.qualified = false ∧
      (t.dom (bindDomain (s.binding p slot.val))).ref.timedOut = some (p, slot.val) ∧
      t.counter = max s.counter (s.announceDue p slot.val) := by
  let r := s.bindRec p slot.val
  let r' : BindRec := { r with announceAlive := false, foreign := r.foreign.filter fun f => some f.sender != r.parent }
  let d := bindDomain (s.binding p slot.val)
  let u := (s.advance (s.announceDue p slot.val)).setBindRec p slot.val r'
  let v := (u.raise (Ev.port p 2) false slot.val).setQualified d false
  have hexec : execAnnounceReceiptTimeout ⟨p, hp⟩ slot s = .next (v.refTimedOut d p slot.val) := by
    unfold execAnnounceReceiptTimeout
    rw [State.when_, if_pos (by simp [hup, hused, hparent, halive])]
    rfl
  obtain ⟨hdefined, hbook, hfitted⟩ := announce_source hp
  have hbinds : Binds u (v.refTimedOut d p slot.val) := .of_net (.of_same (.raise .refl) State.setQualified_same) (State.setDom_net ..)
  refine ⟨_, hexec, ?_, ?_, ?_, ?_, ?_⟩
  · rw [hbinds.bind, State.bindRec_setBindRec]
  · have hlatch : ((u.raise (Ev.port p 2) false slot.val).latch (Ev.port p 2)).latched = true := State.raise_latched hdefined hbook hfitted
    rw [← hlatch]
    exact congrArg Latch.latched (State.latch_of_faults (State.setQualified_same .faults (by decide)) _)
  · rw [State.refTimedOut, State.dom_setDom_same]
    exact State.setQualified_false_dom.1
  · rw [State.refTimedOut, State.dom_setDom_same]
  · have hraised : (u.raise (Ev.port p 2) false slot.val).counter = u.counter := (Evolves.raise (P := raiseParts) .refl).same .counter (by decide)
    exact (State.setQualified_same .counter (by decide)).trans hraised

/-! ### The servo of a domain's reference (R37, R74, R277) -/

/-- What the servo writes of a reference that is qualified. -/
def State.refWritten (s : State) (d : Nat) (offset : Int) : State :=
  s.setDom d { s.dom d with ref := { (s.dom d).ref with
    soaked := if s.refConditions d offset then (s.dom d).ref.soaked + 1 else 0, fresh := true, grade := s.parentGrade d, offset := offset } }

theorem State.writeRef_eq {offset : Int} (h : (s.dom d).ref.qualified = true) : s.writeRef d offset =
    if (s.slaveBinding d).isNone || s.parentGrade d == 15 then (s.refWritten d offset).setQualified d false else s.refWritten d offset := by
  unfold State.writeRef
  dsimp only
  rw [if_pos h]
  rfl

/-- The servo writes offset, grade and refresh of a qualified reference, and leaves words and updates of the domain alone. -/
structure Refreshed (s t : State) (d : Nat) (offset : Int) : Prop where
  offset : (t.dom d).ref.offset = offset
  fresh : (t.dom d).ref.fresh = true
  grade : (t.dom d).ref.grade = s.parentGrade d
  words : (t.dom d).words = (s.dom d).words
  pend : (t.dom d).pend = (s.dom d).pend
  last : (t.dom d).lastUpdate = (s.dom d).lastUpdate
  same : s.sameBut t [.doms, .sels]

theorem State.refWritten_refreshed {offset : Int} : Refreshed s (s.refWritten d offset) d offset := by
  refine ⟨?_, ?_, ?_, ?_, ?_, ?_, (Evolves.setDom .refl).same⟩
  all_goals rw [State.refWritten, State.dom_setDom_same]

theorem Refreshed.disqualified {offset : Int} (h : Refreshed s t d offset) : Refreshed s (t.setQualified d false) d offset := by
  obtain ⟨hoffset, hfresh, hgrade, hwords, hpend, hlast, hsame⟩ := h
  refine ⟨?_, ?_, ?_, ?_, ?_, ?_, State.sameBut_trans hsame State.setQualified_same⟩
  all_goals rw [State.setQualified_false_rec]; assumption

theorem State.writeRef_refreshed {offset : Int} (h : (s.dom d).ref.qualified = true) : Refreshed s (s.writeRef d offset) d offset := by
  rw [State.writeRef_eq h]
  split
  exacts [State.refWritten_refreshed.disqualified, State.refWritten_refreshed]

theorem Refreshed.canUpdate {offset : Int} (h : Refreshed s t d offset) {instant : Nat} : t.canUpdate d instant = s.canUpdate d instant := by
  rw [State.canUpdate, State.canUpdate, h.pend, h.last, h.same .counter (by decide)]

/-- The update with which the servo steers its domain. -/
def servoStep (ppt delta : Int) (instant : Nat) : DomUpdate :=
  { instant := instant, period := periodPpt ppt, absolute := none, delta := delta, steps := if delta = 0 then 0 else 1, jump := delta }

/-- What the servo makes of a domain whose reference it has written. -/
def State.servoSteer (s : State) (d : Nat) (ppt delta : Int) (instant : Nat) : State :=
  if s.attr Attr.domain_servo_mode d = 0 ∧ (s.slaveBinding d).isSome then
    if s.canUpdate d instant then (s.put1 Attr.domain_freq_adj d ppt).setPend d (servoStep ppt delta instant) else s.refuseUpdate d
  else s

theorem State.servoSteer_counter {ppt delta : Int} {instant : Nat} : (s.servoSteer d ppt delta instant).counter = s.counter := by
  have h : Evolves [.attrs, .doms, .store] s (s.servoSteer d ppt delta instant) :=
    .ite (.ite (.setPend (.put1 .refl)) (.refuseUpdate .refl)) .refl
  exact h.same .counter (by decide)

/-- Under AUTO with a binding in SLAVE the time unit takes the update where it can. -/
theorem State.servoSteer_taken {ppt delta : Int} {instant : Nat} (hauto : s.attr Attr.domain_servo_mode d = 0)
    (hslave : (s.slaveBinding d).isSome = true) (hcan : s.canUpdate d instant = true) :
    (s.servoSteer d ppt delta instant).dom d = { s.dom d with pend := some (servoStep ppt delta instant) } ∧
      (s.servoSteer d ppt delta instant).attr Attr.domain_freq_adj d = ppt := by
  rw [State.servoSteer, if_pos ⟨hauto, hslave⟩, if_pos hcan]
  refine ⟨?_, State.attr_put1_same ..⟩
  rw [State.setPend, State.dom_setDom_same, State.dom_of_doms (State.put1_doms ..)]

theorem State.servoSteer_kept {ppt delta : Int} {instant : Nat}
    (h : ¬(s.attr Attr.domain_servo_mode d = 0 ∧ (s.slaveBinding d).isSome = true ∧ s.canUpdate d instant = true)) :
    (s.servoSteer d ppt delta instant).dom d = s.dom d := by
  unfold State.servoSteer
  split
  · next hauto =>
    rw [if_neg fun hcan => h ⟨hauto.1, hauto.2, hcan⟩]
    exact State.dom_of_doms ((Evolves.refuseUpdate (P := [.attrs, .store]) .refl).same .doms (by decide))
  · rfl

theorem servoUpdate_facts {offset ppt delta : Int} {instant : Nat} (hd : d < 512) (hup : s.engines = true) (hcreated : s.created d = true)
    (hvirtual : s.virtual d = true) (hqualified : (s.dom d).ref.qualified = true) :
    ∃ t, execServoUpdate ⟨d, hd⟩ offset ppt delta instant s = .next t ∧ (t.dom d).ref.offset = offset ∧
      (t.dom d).ref.fresh = true ∧ (t.dom d).ref.grade = s.parentGrade d ∧ (t.dom d).words = (s.dom d).words ∧
      (if s.attr Attr.domain_servo_mode d = 0 ∧ (s.slaveBinding d).isSome = true ∧ s.canUpdate d instant = true then
        t.attr Attr.domain_freq_adj d = ppt ∧ (t.dom d).pend = some (servoStep ppt delta instant)
       else (t.dom d).pend = (s.dom d).pend) ∧ t.counter = s.counter := by
  have hexec : execServoUpdate ⟨d, hd⟩ offset ppt delta instant s = .next ((s.writeRef d offset).servoSteer d ppt delta instant) := by
    unfold execServoUpdate
    rw [State.when_, if_pos (by simp [hup, hcreated, hvirtual])]
    rfl
  have href := State.writeRef_refreshed (offset := offset) hqualified
  have hattrs := href.same .attrs (by decide)
  have hcan := href.canUpdate (instant := instant)
  have hmode : (s.writeRef d offset).attr Attr.domain_servo_mode d = s.attr Attr.domain_servo_mode d := State.attr_of_attrs hattrs
  have hslave := State.slaveBinding_of_attrs (d := d) hattrs
  refine ⟨_, hexec, ?_⟩
  rw [State.servoSteer_counter, href.same .counter (by decide)]
  split
  · next h =>
    obtain ⟨hauto, hfollows, hroom⟩ := h
    obtain ⟨hdom, hfreq⟩ := State.servoSteer_taken (s := s.writeRef d offset) (ppt := ppt) (delta := delta) (hmode.trans hauto)
      (by rwa [hslave]) (hcan.trans hroom)
    rw [hdom]
    exact ⟨href.offset, href.fresh, href.grade, href.words, ⟨hfreq, rfl⟩, rfl⟩
  · next h =>
    rw [State.servoSteer_kept (by rwa [hmode, hslave, hcan])]
    exact ⟨href.offset, href.fresh, href.grade, href.words, href.pend, rfl⟩

/-! ### Obligation O41 -/

theorem esmcPdu_facts (p : Fin 4) (hup : s.engines = true) (hlink : s.portUp p.val = true) (henable : s.flag Attr.port_esmc_enable p.val = true) :
    exec (.esmcInformationPdu p) s = .next (s.sendEsmc p.val false) ∧
    ((s.esmcQuality p.val : Int) ≠ s.attr Attr.port_esmc_tx_ql p.val → exec (.esmcEventPdu p) s = .next (s.sendEsmc p.val true)) := by
  constructor
  · simp [exec, execEsmcInformationPdu, State.when_, hup, hlink, henable]
  · intro h
    simp [exec, execEsmcEventPdu, State.when_, hup, hlink, henable, h]

/-- Settles O41: each message carries the number of its binding, the pass gives each binding the state recommended before it because the
bindings are distinct, and what the servo writes of a reference leaves the time unit's conditions for an update as they are. -/
theorem sentPtp : Obligations.SentPtp := by
  unfold Obligations.SentPtp
  refine ⟨fun s p slot session kind launch hup hready hused hown hsess => ptpMessageSend_facts p.isLt hup hready hused hown hsess,
    fun s p hup hlink henable => ?_, fun s d hup hcreated => bmcaPass_facts d.isLt hup hcreated,
    fun s p slot hup hused hparent halive => announceReceiptTimeout_facts p.isLt hup hused hparent halive,
    fun s d offset ppt delta instant hup hcreated hvirtual hqualified => servoUpdate_facts d.isLt hup hcreated hvirtual hqualified⟩
  obtain ⟨hinformation, hevent⟩ := esmcPdu_facts p hup hlink henable
  constructor
  · obtain ⟨f, hshown, hlast, hcode, hcounter⟩ := State.sendEsmc_facts (s := s) (event := false) p.isLt
    exact ⟨_, f, hinformation, hshown, hlast, hcode, hcounter⟩
  · intro hchanged
    obtain ⟨f, hshown, hlast, hcode, hcounter⟩ := State.sendEsmc_facts (s := s) (event := true) p.isLt
    exact ⟨_, f, hevent hchanged, hshown, hlast, hcode, State.sendEsmc_latched p.isLt hchanged, hcounter⟩

end Sys2Proof.Machine
end
